-- ==== Sys2Proof/Word.lean ====
section
/-! DEFINITION. Words, bytes and their bit fields (spec R3, R5, R6), and the shapes the object tables are written in (R7, R8). -/

namespace Sys2Proof.Machine

/-- A word of the object address space (R6). -/
abbrev Word := BitVec 32

/-- A byte of a protocol or of memory. -/
abbrev Byte := BitVec 8

/-- A register field: the byte address of its word and its bits [msb:lsb] (R3, R7). -/
structure Fld where
  addr : Nat
  msb  : Nat
  lsb  : Nat
  deriving DecidableEq, Repr

/-- The access codes of R8. -/
inductive Access where
  | ro | rw | w1c | wo | sh
  deriving DecidableEq, Repr

/-- What a SET may give a field (the range its own row states, R161). -/
inductive Chk where
  /-- Any encoding. -/
  | any
  /-- Unsigned from lo to hi; used too for a binary32 range between two values above zero, whose patterns rise with the value. -/
  | u (lo hi : Nat)
  /-- Zero, or unsigned from lo to hi. -/
  | z (lo hi : Nat)
  /-- Two's complement from lo to hi. -/
  | s (lo hi : Int)
  /-- binary32 from zero (of either sign) to the value with pattern hi. -/
  | fz (hi : Nat)
  /-- binary32 zero (of either sign), or from pattern lo to pattern hi. -/
  | fzu (lo hi : Nat)
  /-- From lo to hi for instances 0 to 3, and 0 only for instance 4 (R280). -/
  | at4 (lo hi : Nat)
  /-- A selector of R291. -/
  | sel
  /-- 0, or a selector of R291 of KIND 2 (R363). -/
  | sel2
  /-- A multiple of 4 from lo to hi. -/
  | m4 (lo hi : Nat)
  deriving DecidableEq, Repr

/-- One row of a field map: byte offset in its object, bits, access, value after a full reset (with the instances whose value
differs), and the values a SET may give. -/
structure Row where
  name    : String
  off     : Nat
  msb     : Nat
  lsb     : Nat
  acc     : Access
  reset   : Nat
  resetAt : List (Nat × Nat)
  chk     : Chk
  deriving DecidableEq, Repr

/-- One object of the map: base address, its indices as (count, stride), size in bytes, rows (R6, R7). -/
structure Obj where
  name : String
  base : Nat
  dims : List (Nat × Nat)
  size : Nat
  rows : List Row
  deriving DecidableEq, Repr

end Sys2Proof.Machine
end

