-- ==== Sys2Proof/Syntax.lean ====
section
/-! DEFINITION. The commands of the block: one constructor of `Instr` per row of the table of operations and events, with what
comes with it from outside the block (a packet's fields, a frame's bytes, a level read on a pin, a value measured). An index
that names one of a fixed number of units is a `Fin`, so that no command names a unit that does not exist. -/

namespace Sys2Proof.Machine

/-- The PLLs, in the bit order of CLK_STAT.LOCKED (R88). -/
inductive Pll where
  | sys | lane | net | hv
  deriving DecidableEq, Repr

/-- The tamper sources, in the bit order of MEM_TAMPER_STAT.SEEN (R119, R143). -/
inductive TamperSrc where
  | tamp | lid | supplyGlitch | clockGlitch
  deriving DecidableEq, Repr

/-- The command paths, coded as CMD_SESSION.PATH (R182). -/
inductive Path where
  | etha | ethb | cana | canb | mon
  deriving DecidableEq, Repr

/-- The source identity of a packet (R150): the path, and on Ethernet the IPv4 address and the UDP port. -/
structure Source where
  path : Path
  ip   : Word
  port : BitVec 16
  deriving DecidableEq, Repr

/-- A condition under mood IF (R160). -/
structure Cond where
  addr  : Word
  mask  : Word
  value : Word
  op    : Byte
  deriving DecidableEq, Repr

/-- The moods (R146, R159). AT carries the time base's code and the due time, IF its condition. -/
inductive Mood where
  | ask
  | now
  | due (base : Fin 4) (sec ns : Word)
  | when (c : Cond)
  deriving DecidableEq, Repr

/-- What every verb's packet carries beside its payload: its session, its mood, and whether it is a command that the keeper
has mirrored to this module (R178). -/
structure Req where
  session  : Fin 4
  mood     : Mood
  mirrored : Bool
  deriving DecidableEq, Repr

/-- A memory word that reads with an error of one bit or of two (R112, R113): its window offset divided by 8. -/
structure EccHit where
  word   : Nat
  double : Bool
  deriving DecidableEq, Repr

/-- What a start of the controller finds outside itself (R43, R44, R123, R590): the levels of the ROLE pads, which PLLs lock in
time, the spare rows the destructive March C− uses and whether a bank has too many failing rows, for the image slots A
and B whether the image in each verifies, and for how many units of 2^-16 ns the time bases have gone on since the event before. -/
structure StartIn where
  role0     : Bool
  role1     : Bool
  sysLock   : Bool
  laneLock  : Bool
  netLock   : Bool
  hvLock    : Bool
  spareRows : Fin 513
  bankFail  : Bool
  imageA    : Bool
  imageB    : Bool
  elapsed   : Nat
  deriving DecidableEq, Repr

/-- What the partner's module tells of a hop that its own end has reached in a training (R194, R196): its serial, its turnaround, and the one-way
delay that it measured, 0xFFFF before it has, both in units of 78.125 ps. -/
structure HopReport where
  serial     : BitVec 64
  turnaround : BitVec 16
  delay      : BitVec 16
  deriving DecidableEq, Repr

/-- What the receivers of a route have had beside the ledger trains, and what the partner has told (R196, R213, R240 to R242): a burst of a TRAIN
frame or of a closed ring's route frame, head to tail with the training area, and its invalid blocks; the ENUMERATE slots of an end; an ECHO block
at an end with the round trip of its MARKER in units of 78.125 ps; the partner's enumeration of its end, and whether it finds the ring closed. -/
inductive LinkIn where
  | burst (n : Fin 24) (ret : Bool) (bytes : List Byte) (invalid : BitVec 16)
  | slots (n : Fin 24) (ret : Bool) (area : List Byte)
  | echo (n : Fin 24) (ret : Bool) (block : List Byte) (trip : BitVec 24)
  | partner (n : Fin 24) (closed : Bool) (hops : List HopReport)
  deriving DecidableEq, Repr

/-- How much is read, and the words that the reading meets with errors (R112). -/
structure ReadOf (w : Nat) where
  n   : BitVec w
  ecc : List EccHit
  deriving DecidableEq, Repr

/-- What HVS reports of the legs' comparators: over-current still asserted (R384), and the switch node sensed less than 2.0 V above COM (R382). -/
structure LegSense where
  oc    : BitVec 3
  swLow : BitVec 3
  deriving DecidableEq, Repr

/-- A frame of a pair link as far as it has come, and its invalid blocks (R213, R462). -/
structure PairIn where
  bytes   : List Byte
  invalid : BitVec 16
  deriving DecidableEq, Repr

/-- What a pattern checker has counted (R248). -/
structure BitCount where
  bits   : BitVec 64
  errors : Word
  deriving DecidableEq, Repr

/-- A recomputation of the check pipe that differs (R317): the slot, how the third evaluation votes (0 with the check pipe, 1 with the
loop pipe, 2 with neither), and the output that the loop pipe has delivered where it was the one in error. -/
structure CheckMiss where
  slot  : Fin 2048
  vote  : Fin 3
  wrong : Word
  deriving DecidableEq, Repr

/-- What the safety island reads at a pad (R41, R494): at or above the ON threshold, at or below the OFF threshold, or between. -/
inductive PadLevel where
  | on | off | between
  deriving DecidableEq, Repr

/-- What the safety island reads back at an output (R505, R520): at or above VIN − 2.0 V, at or below 5 V, held in current limit. -/
structure OutRead where
  high  : Bool
  low   : Bool
  limit : Bool
  deriving DecidableEq, Repr

/-- What a cycle of the safety island finds outside its logic (R492 to R495, R505): the input pairs, for each pair whether a
disagreement whose length lies between the bounds of R495 is taken as a fault, the feedback inputs, the outputs, whether the two
cores agree, and whether the self-checks pass. -/
structure CycleIn where
  sin   : Vector (PadLevel × PadLevel) 8
  disc  : BitVec 8
  sfb   : Vector PadLevel 4
  outs  : Vector OutRead 4
  agree : Bool
  check : Bool
  deriving DecidableEq, Repr

/-- What a start of the safety island finds (R492, R498, R508): its pads, whether its self-checks pass, and whether the active
parameter set holds its CRC. -/
structure IslandIn where
  sin     : Vector (PadLevel × PadLevel) 8
  sfb     : Vector PadLevel 4
  check   : Bool
  paramOk : Bool
  deriving DecidableEq, Repr

/-- The destination of an Ethernet frame (R525). -/
inductive EthDest where
  | own | broadcast | ptp | other
  deriving DecidableEq, Repr

/-- What an Ethernet frame carries (R525, R527): an ARP request or reply, an ICMP echo request, another ICMP message, another IPv4 packet to
an address, a PTP message, a PAUSE frame, or something else. -/
inductive EthBody where
  | arpRequest (senderIp targetIp : Word)
  | arpReply (senderIp : Word)
  | icmpEcho (srcIp dstIp : Word) (payload : List Byte)
  | icmpOther (dstIp : Word)
  | ipv4 (dstIp : Word)
  | ptp
  | pause
  | other
  deriving DecidableEq, Repr

/-- What comes with a stage boundary: the time since the boundary before it on MONO, in units of 2^-16 ns (R77, R81), the voltages of the lock
pins as last updated (R89), whether TAMP is high or open and whether the lid is raised (R143), and for each CAN controller the message object whose frame it has on
the bus (R542). -/
structure BoundaryIn where
  mono : Nat
  lkfSys  : BitVec 16
  lkfLane : BitVec 16
  tamp : Bool
  lid  : Bool
  can0 : Option (Fin 128)
  can1 : Option (Fin 128)
  deriving DecidableEq, Repr

/-- An Ethernet frame as it arrives (R524 to R527): its length, its VLAN ID where it has a tag, whether its check sequence holds, whether the
receive buffer is full, its source MAC address, and for how many units of 2^-16 ns the stage boundary before it lies back. -/
structure EthFrame where
  dest    : EthDest
  src     : BitVec 48
  vid     : Option (BitVec 12)
  length  : Nat
  fcsOk   : Bool
  full    : Bool
  body    : EthBody
  elapsed : Nat
  deriving DecidableEq, Repr

/-- An Announce message (R533, R537): its sender's port identity, the data set of its grandmaster, and its time properties. -/
structure Announce where
  sender    : BitVec 80
  gm        : BitVec 64
  priority1 : Byte
  clkClass  : Byte
  accuracy  : Byte
  variance  : BitVec 16
  priority2 : Byte
  steps     : BitVec 16
  utcOffset : BitVec 16
  utcValid  : Bool
  leap61    : Bool
  leap59    : Bool
  deriving DecidableEq, Repr

/-- A CAN frame (R539, R546). -/
structure CanFrame where
  ide  : Bool
  fdf  : Bool
  brs  : Bool
  esi  : Bool
  rtr  : Bool
  id   : BitVec 29
  dlc  : BitVec 4
  data : List Byte
  deriving DecidableEq, Repr

/-- How a transmission ends without success (R544, R562), in the order of LAST_ERR's codes from 1 on; lost arbitration last. -/
inductive CanErr where
  | bit | stuff | form | ack | crc | arbitration
  deriving DecidableEq, Repr

/-- A sample of the sensors of a die (R565 to R567): of each its reading in 0.1 °C and whether its self-test passes; with what a restart
that the controller die's sample may bring finds (R569). -/
inductive DieSample where
  | controller (r : Vector (BitVec 16 × Bool) 8) (i : StartIn)
  | hv (r : Vector (BitVec 16 × Bool) 2)
  deriving DecidableEq, Repr

/-- The sources with a limit factor (R565). -/
inductive LimitSource where
  | die
  | hv
  | ntc (i : Fin 2)
  | cell (c : Fin 512)
  deriving DecidableEq, Repr

end Sys2Proof.Machine

namespace Sys2Proof

open Machine

/-- The commands, in the table's order. -/
inductive Instr where
  /-- VIN_RISE_KEEPALIVE (R32). VIN rises above the keep-alive threshold from Off, so the time bases, tamper detectors and memory retention are powered. -/
  | vinRiseKeepalive
  /-- COLD_START (R44). VIN, RST_N and VIO03 meet the full-operation conditions, and the power-up steps run to station state OFF. -/
  | coldStart (inp : StartIn)
  /-- BROWNOUT_SEQUENCE (R46). VIN stays below the brown-out threshold for its filter time, so drive and SOUT go off, the stop token is sent and SUPPLY_BROWNOUT is raised. -/
  | brownoutSequence (startStep : Option (Fin 6))
  /-- OVERVOLTAGE_SEQUENCE (R46). VIN stays above the over-voltage threshold for its filter time, and the same sequence runs with SUPPLY_OV. -/
  | overvoltageSequence (startStep : Option (Fin 6))
  /-- KEEPALIVE_ENTRY (R46). The supply sequence completes, and links, PLLs, cores and islands stop with memory in retention. -/
  | keepaliveEntry
  /-- KEEPALIVE_RETURN (R47). VIN meets the full-operation entry condition again, so the device restarts without step 4 into TRIPPED. -/
  | keepaliveReturn (inp : StartIn)
  /-- VIN_OFF (R32). VIN falls below the Off threshold, and retained content is lost. -/
  | vinOff
  /-- RESET_ASSERT (R50). An RST_N low is accepted, so the stop-token sequence, journal entry and logbook trigger run and the dice are held in reset. -/
  | resetAssert
  /-- RESET_RELEASE (R50). RST_N goes high, and the device restarts under R44 without step 4. -/
  | resetRelease (inp : StartIn)
  /-- WATCHDOG_RESTART (R45). The controller watchdog restarts the device without the destructive March C−. -/
  | watchdogRestart (inp : StartIn)
  /-- SUPPLY_STAT_UPDATE (R53). VIN_MV and VGD_DV are updated every 1 ms. -/
  | supplyStatUpdate (vinMv : BitVec 16) (vgdDv : Byte)
  /-- VIO_BANK_CLASSIFIED (R35). A bank voltage has stayed 1 ms in a window, and the bank is classified and its pads enabled. -/
  | vioBankClassified (bank : Fin 4) (is3v3 : Bool)
  /-- VIO_BANK_FAULT (R36). A bank voltage is outside its window for 10 µs, so its pads go high-impedance, its class clears and FAULT_SEEN is set. -/
  | vioBankFault (bank : Fin 4)
  /-- VGD_UNDERVOLTAGE (R39). VGD falls below its under-voltage threshold, so the gate outputs turn off and VGD_UV trips the drive stage. -/
  | vgdUndervoltage
  /-- VGD_RISE (R390). VGD rises from below 8 V, and the HV die registers take their hardware defaults. -/
  | vgdRise
  /-- HV_LINK_UP (R390). The isolation link comes up, the HVS timer is aligned and the logic side writes the active HV thresholds. -/
  | hvLinkUp
  /-- ROLE_PAD_CHANGE (R43). A ROLE pad level changes after sampling, which is only journalled. -/
  | rolePadChange (role0 role1 : Bool)
  /-- TAMPER_EVENT (R120). A tamper source fires, the secure-region gate closes, SEEN and WIPE_COUNT are updated and TAMPER is raised. -/
  | tamperEvent (src : TamperSrc)
  /-- SECURE_REGION_FILL (R120). 400 µs after the event, the March C− engine fills the secure region with 0. -/
  | secureRegionFill
  /-- TAMPER_FLASH_MARKER (R120). 1 ms after the event, the invalidation marker is programmed over the flash copy. -/
  | tamperFlashMarker
  /-- PLL_LOCK (R62). A PLL is declared locked from its frequency monitor and lock pin, whose voltage comes with it. -/
  | pllLock (p : Pll) (pinMv : BitVec 16)
  /-- PLL_UNLOCK (R63). A PLL is declared unlocked from its frequency monitor or lock pin, whose voltage comes with it. -/
  | pllUnlock (p : Pll) (pinMv : BitVec 16)
  /-- PLL_LOCK_TIMEOUT (R64). PLL_SYS or PLL_LANE has no lock 10 ms after its start-up step, so the failure is journalled and SELFTEST is held. -/
  | pllLockTimeout (lane : Bool)
  /-- CLK_SYS_LOST (R68). PLL_SYS has not relocked within 10 ms of its loss, and F3 CLK_SYS_LOST is raised. -/
  | clkSysLost
  /-- SAFE_CLOCK_RETURN (R66). 64 µs after PLL_SYS lock, the islands return to PLL_SYS and SAFE_CLK clears. -/
  | safeClockReturn
  /-- XIN_LOST (R70). No XIN edge for 1 µs, so the clocks hold, CLK_REF_LOST trips the station and the time bases enter HOLDOVER. -/
  | xinLost
  /-- XIN_RETURN (R70). XIN has been present for 10 ms, so the PLLs relock and HOLDOVER clears. `elapsed`: for how many units of 2^-16 ns the
  time bases have gone on since they last did. -/
  | xinReturn (elapsed : Nat)
  /-- RAMP_START (R97). START written in CLK_RAMP runs the active profile from segment 0. -/
  | rampStart (r : Req) (g : Fin 2)
  /-- RAMP_ABORT (R73). ABORT written in CLK_RAMP stops the offset where it stands. -/
  | rampAbort (r : Req) (g : Fin 2)
  /-- RAMP_SEGMENT_END (R72). A ramp segment reaches its end offset and its hold expires, so the next segment or repetition follows. -/
  | rampSegmentEnd (g : Fin 2)
  /-- LANE_SPREAD_END (R74). After EN is cleared, the spread triangle returns to 0 ppm and the generator stops. -/
  | laneSpreadEnd
  /-- STAGE_BOUNDARY (R77). The stage timer completes Ts of lane ticks, and the stage counter advances. -/
  | stageBoundary (b : BoundaryIn)
  /-- AT_EXECUTION (R86). An eligible AT command executes at the first boundary whose stamp reaches its due time. -/
  | atExecution (session : Fin 4)
  /-- ECC_WRITEBACK (R112). A corrected word is written back in a later general cycle, unless a port has written it first. -/
  | eccWriteback (word : Nat)
  /-- MARCH_PRESERVING_BLOCK (R124). The preserving March C− tests the next 16-word block and advances the background pass. `ecc`: the words of the
  block that read with an error, and whether it is one of two bits. -/
  | marchPreservingBlock (failWord : Option (Fin 16)) (ecc : List (Fin 16 × Bool))
  /-- SNAPSHOT_COPY_DONE (R108). The capture copy into the session buffer completes, and the SNAPSHOT reply is sent. -/
  | snapshotCopyDone (session : Fin 4)
  /-- LC_NONCE_REFRESH (R131). The life-cycle challenge nonce is replaced every 60 s. -/
  | lcNonceRefresh
  /-- LIFECYCLE_COMPLETE (R132). A life-cycle transition finishes writing its flash record and replies. -/
  | lifecycleComplete (flashOk : Bool)
  /-- UDP_DATAGRAM (R150). A UDP datagram arrives at port 47120 and is taken as a command packet. `unfit`: a fragment, IPv4
  options, a broadcast or multicast destination, or a bad checksum. -/
  | udpDatagram (port : Fin 2) (srcIp : Word) (srcPort : BitVec 16) (unfit : Bool) (bytes : List Byte)
  /-- CAN_CMD_SEGMENT (R151). A command-path CAN FD segment is received and reassembled. -/
  | canCmdSegment (c : Fin 2) (bytes : List Byte)
  /-- CAN_SEGMENT_TIMEOUT (R151). More than 50 ms pass between segments, so the packet is discarded as NOT_PACKET. -/
  | canSegmentTimeout (c : Fin 2)
  /-- CAN_REPLY_ABANDON (R151). A reply not fully sent 100 ms after its first segment is abandoned and counted. -/
  | canReplyAbandon (c : Fin 2)
  /-- MON_LINE (R152). A text-form line arrives on MON and is converted to a binary packet. -/
  | monLine (line : List Byte)
  /-- SESSION_OPEN (R153). An OPEN ECHO packet binds a session index to its source. -/
  | sessionOpen (session : Fin 4) (src : Source) (payload : List Byte)
  /-- SESSION_CLOSE (R154). A CLOSE ECHO packet closes a session, and later commands complete with SESSION_CLOSED. -/
  | sessionClose (r : Req) (payload : List Byte)
  /-- SESSION_IDLE_TIMEOUT (R154). A session idles for IDLE_S with nothing outstanding and closes. -/
  | sessionIdleTimeout (session : Fin 4)
  /-- SEQUENCE_GAP_TIMEOUT (R156). A missing sequence has not arrived 100 ms after a higher one, so the gap completes with SEQUENCE_GAP. -/
  | sequenceGapTimeout (session : Fin 4)
  /-- PROGRESS_REPLY (R172). A long verb sends an IN_PROGRESS reply every 100 ms. -/
  | progressReply (session : Fin 4) (permille : BitVec 16)
  /-- LONG_VERB_TIMEOUT (R172). A long verb exceeds its bound and ends with TIMEOUT. -/
  | longVerbTimeout (session : Fin 4)
  /-- GET (R161). GET reads objects from an address, with shadow selection. -/
  | get (r : Req) (shadow : Bool) (addr : Word) (len : BitVec 16) (elapsed : Nat) (ecc : List EccHit)
  /-- SET (R161). SET writes objects, or stores SH fields in the session shadow set, for registers without a row of their own. -/
  | set (r : Req) (addr : Word) (data : List Byte)
  /-- SNAPSHOT (R108). SNAPSHOT captures up to 16 ranges at the next stage boundary. -/
  | snapshot (r : Req) (ranges : List (Word × Word))
  /-- APPLY_COMMIT (R163). APPLY with ACTION 0 checks the shadow set and schedules its commit. -/
  | applyCommit (r : Req)
  /-- APPLY_DISCARD (R163). APPLY with ACTION 1 empties the shadow set. -/
  | applyDiscard (r : Req)
  /-- SHADOW_COMMIT (R164). A checked shadow set becomes active at a free stage boundary. -/
  | shadowCommit (session : Fin 4)
  /-- STATE (R327). STATE reports the station state or requests a target state. -/
  | state (r : Req) (target : Option Byte)
  /-- START_CONVERTER (R202). START with TARGET 0 fills the arms and launches the run-up. -/
  | startConverter (r : Req)
  /-- START_DRIVE (R397). START with TARGET 1 checks and launches the drive-stage start sequence. -/
  | startDrive (r : Req)
  /-- STOP_CONVERTER (R327). STOP with TARGET 0 starts a controlled stop. -/
  | stopConverter (r : Req)
  /-- STOP_DRIVE (R396). STOP with TARGET 1 stops the drive stage. -/
  | stopDrive (r : Req)
  /-- STOP_ARM (R327). STOP with TARGET 2 stops the group of the named arm. -/
  | stopArm (r : Req) (arm : Byte)
  /-- TRIP (R451). TRIP raises F3 HOST_TRIP with its reason. -/
  | trip (r : Req) (reason : BitVec 16)
  /-- CLEAR_FAULTS (R335). CLEAR with FAULTS releases latched station faults and enters STANDBY. -/
  | clearFaults (r : Req) (params : Word) (token : List Byte)
  /-- CLEAR_DRIVE (R393). CLEAR with DRIVE releases the drive trip latch. -/
  | clearDrive (r : Req) (params : Word) (token : List Byte)
  /-- CLEAR_CAN_RECOVER (R549). CLEAR with CAN_RECOVER starts bus-off recovery of a controller. -/
  | clearCanRecover (r : Req) (params : Word) (token : List Byte)
  /-- CLEAR_SAFETY (R510). CLEAR with SAFETY and a token releases the safety lock-out. -/
  | clearSafety (r : Req) (params : Word) (token : List Byte)
  /-- ROLE_REPORT (R474). ROLE with REQUEST 0 reports own role, partner role and interlock state. -/
  | roleReport (r : Req)
  /-- ROLE_YIELD (R474). ROLE with REQUEST 1 makes the keeper send YIELD for a hand-over at boundary H. -/
  | roleYield (r : Req)
  /-- SETPOINT (R166). SETPOINT sets up to 32 setpoints together at one stage boundary. -/
  | setpoint (r : Req) (entries : List (BitVec 16 × Word))
  /-- RAMP (R166). RAMP starts a ramp of one setpoint towards a target. -/
  | ramp (r : Req) (id : BitVec 16) (target rate : Word)
  /-- ROUTE_TRAIN (R201). TEST 0x0600 retrains the selected routes. -/
  | routeTrain (r : Req) (param : Word)
  /-- LINK_PRBS (R248). TEST 0x0700 runs a PRBS pattern test on a link. -/
  | linkPrbs (r : Req) (param : Word)
  /-- LINK_INJECT (R249). TEST 0x0701 corrupts one waybill block on a link. -/
  | linkInject (r : Req) (param : Word)
  /-- SAFE_PARAM_WRITE (R514). TEST 0x0C20 writes one word of the pending safety parameters. -/
  | safeParamWrite (r : Req) (param : Word)
  /-- SAFE_PARAM_COMMIT (R515). TEST 0x0C21 checks and commits the pending safety set, locking the island out. -/
  | safeParamCommit (r : Req) (param : Word)
  /-- SAFE_PARAM_DISCARD (R514). TEST 0x0C22 resets the pending safety copy to the active set. -/
  | safeParamDiscard (r : Req) (param : Word)
  /-- CAL_ADC (R436). CAL 0x0A00+x queues a relief calibration of ADC x. -/
  | calAdc (r : Req) (x : Fin 4) (param : Word)
  /-- CAL_ADC4 (R436). CAL 0x0A04 calibrates the relief converter with its input shorted. -/
  | calAdc4 (r : Req) (param : Word)
  /-- CAL_SD_OFFSET (R436). CAL 0x0A10 measures the offsets of the sigma-delta modulators. -/
  | calSdOffset (r : Req) (param : Word)
  /-- JOURNAL (R455). JOURNAL returns journal entries from an entry number. -/
  | journal (r : Req) (start : Word) (count : ReadOf 8)
  /-- LOGBOOK_TRIGGER (R457). LOGBOOK_FREEZE with ACTION 0 triggers the logbook. -/
  | logbookTrigger (r : Req)
  /-- LOGBOOK_RELEASE (R457). LOGBOOK_FREEZE with ACTION 1 releases a frozen logbook. -/
  | logbookRelease (r : Req)
  /-- LOGBOOK_READ (R167). LOGBOOK_READ returns one slot's index entry and its cell records. -/
  | logbookRead (r : Req) (slot firstCell count : BitVec 16) (ecc : List EccHit)
  /-- PARCEL (R237). PARCEL starts an acknowledged transfer to or from a cell. -/
  | parcel (r : Req) (cell : BitVec 16) (fromCell : Byte) (body : List Byte)
  /-- LIFECYCLE_TRANSITION (R130). LIFECYCLE with ACTION 0 makes an authorised life-cycle transition. -/
  | lifecycleTransition (r : Req) (target authKind : Byte) (newKey signature : List Byte)
  /-- SAVE_CONFIG (R128). LIFECYCLE with ACTION 1 writes the active configuration to the older flash record. -/
  | saveConfig (r : Req)
  /-- FIRMWARE_BEGIN (R171). FIRMWARE BEGIN prepares the non-booted slot for an image. -/
  | firmwareBegin (r : Req) (size : Word)
  /-- FIRMWARE_WRITE (R171). FIRMWARE WRITE stores image data at an offset. -/
  | firmwareWrite (r : Req) (offset : Word) (data : List Byte)
  /-- FIRMWARE_COMMIT (R589). FIRMWARE COMMIT verifies the image and makes the slot VALID. -/
  | firmwareCommit (r : Req)
  /-- FIRMWARE_ABORT (R171). FIRMWARE ABORT abandons an update. -/
  | firmwareAbort (r : Req)
  /-- FIRMWARE_ACTIVATE (R590). FIRMWARE ACTIVATE sets the VALID slot to TRIAL and schedules a restart. -/
  | firmwareActivate (r : Req)
  /-- FIRMWARE_RESTART (R171). 10 ms after an ACTIVATE reply, the device restarts with cause FIRMWARE. -/
  | firmwareRestart (inp : StartIn)
  /-- FIRMWARE_CONFIRM (R591). A TRIAL image runs 600 s without restart, becomes CONFIRMED and raises ROLLBACK_MIN. -/
  | firmwareConfirm
  /-- CRC (R173). CRC computes a CRC-32C over objects, flash records, images or memory. -/
  | crc (r : Req) (channel : Byte) (start : Word) (len : ReadOf 32)
  /-- ECHO (R165). ECHO returns its payload unchanged. -/
  | echo (r : Req) (payload : List Byte)
  /-- TAKE_OUT (R347). A write of TAKE_OUT takes a cell out of service with cause COMMAND. -/
  | takeOut (r : Req) (cell : Fin 512)
  /-- RELEASE (R349). A write of RELEASE returns a FAULTED cell to SPARE. -/
  | release (r : Req) (cell : Fin 512)
  /-- LOOP_SLOT_MODE_WRITE (R294). A write of LOOP_SLOT_MODE changes a slot's mode or manual output from the next evaluation. -/
  | loopSlotModeWrite (r : Req) (slot : Fin 2048) (mode : BitVec 2) (manOut : Word)
  /-- LINK_LOS (R214). A receiver's amplitude falls below 50 mV for 100 ns, and LOS asserts. -/
  | linkLos (l : Fin 50)
  /-- LINK_BLOCK_LOCK_LOSS (R214). 16 invalid sync headers in 64 blocks lose block lock and clear LOCKED. -/
  | linkBlockLockLoss (l : Fin 50) (invalid : BitVec 16)
  /-- LINK_LOCKED (R214). A receiver gains LOS release, clock recovery and block lock. -/
  | linkLocked (l : Fin 50)
  /-- LINK_UP (R214). LOCKED has held for 1 ms and UP is set. -/
  | linkUp (l : Fin 50)
  /-- QUIET_TRAINING (R193). Quiet training starts on a route: ends enabled, then enumeration, delays and state decided. -/
  | quietTraining (n : Fin 24)
  /-- TRAINING_LOCK_TIMEOUT (R193). An end has not locked 4,000 stages after enabling and is recorded DOWN. -/
  | trainingLockTimeout (l : Fin 48)
  /-- TRAINING_COMPLETE (R196). Training ends, the route state is decided, serials are compared and ROUTE_TRAINED is journalled. With it comes what the
  partner, the outbound end and the return end have had that no ledger cut has told. -/
  | trainingComplete (n : Fin 24) (partner outbound return_ : List LinkIn)
  /-- LIVE_TRAINING (R199). A route end relocks during a run, and training runs in the live training area over 128 stages. -/
  | liveTraining (n : Fin 24)
  /-- LEDGER_TRAIN_RECEIVED (R226). A ledger train arrives at a serving end receiver. -/
  | ledgerTrainReceived (n : Fin 24) (ret : Bool) (bytes : List Byte) (invalid : BitVec 16)
  /-- LEDGER_CUT (R233). At B − 50 ns, each served hop's ledger is taken and its status decided. -/
  | ledgerCut (heard : List LinkIn)
  /-- WAYBILL_CUT (R243). At B − 140 ns, waybills and reaches are fixed and broken segments are judged. -/
  | waybillCut
  /-- ROUTE_FRAME_LAUNCH (R220). At B − 100 ns, each serving end launches its route frame. -/
  | routeFrameLaunch
  /-- PARCEL_CHUNK_RESEND (R237). DN_OFFSET has not advanced 6 stages after a chunk, so the chunk is sent again. -/
  | parcelChunkResend (cell : Fin 512)
  /-- PARCEL_BUSY_RETRY (R237). 6 stages after a BUSY report, the FIRST chunk is sent again. -/
  | parcelBusyRetry (cell : Fin 512)
  /-- PARCEL_TIMEOUT (R238). A transfer is not complete 8 ms after eligibility and ends with PARCEL_TIMEOUT. -/
  | parcelTimeout (cell : Fin 512)
  /-- LOOP_ISSUE (R288). At cycle 6 after B, the engine latches the input set and issues the enabled slots. -/
  | loopIssue (misses : List CheckMiss) (ecc : List EccHit)
  /-- LOOP_OUTPUT_HANDOVER (R289). The output set is handed to EDGE at the last result or at the loop deadline. -/
  | loopOutputHandover
  /-- EDGE_COMPUTATION (R254). The cell back end computes the waybill instants from the output set. -/
  | edgeComputation (margin : BitVec 16)
  /-- DRIVE_EDGE_SET (R255). At the start of a stage, the drive back end computes and sends the edge set to HVS. -/
  | driveEdgeSet
  /-- EDGE_SET_CHECK (R276). 100 ns before its boundary, HVS checks the drive edge set and repeats or trips on missing sets. -/
  | edgeSetCheck (arrived : Bool)
  /-- EDGE_CLOCK_STOPPED (R275). No EDGE clock edge for 20 ns, so the safe state and EDGE_LOST follow. -/
  | edgeClockStopped
  /-- DEBUG_HALT (R275). A debug halt of a core or of EDGE puts the device in the safe state. -/
  | debugHalt
  /-- POLICY_SIGNAL_DEADLINE (R339). At B − 500 ns, late policy signals are counted and two late stages in a row raise POLICY_LATE. -/
  | policySignalDeadline (late : Bool)
  /-- BYPASS_CONFIRM_TIMEOUT (R349). No usable ledger decides the bypass within 8 stages, and F2 BYPASS_FAIL is raised. -/
  | bypassConfirmTimeout (cell : Fin 512)
  /-- CONTACT_TIMEOUT (R324). A switching device has not reported its position within T_CONTACT_MS. -/
  | contactTimeout
  /-- PRECHARGE_TIMEOUT (R330). Step P3 exceeds T_PRECHARGE_MS. -/
  | prechargeTimeout
  /-- SYNC_TIMEOUT (R331). SYNC exceeds T_SYNC_MS. -/
  | syncTimeout
  /-- STOP_TIMEOUT (R333). The controlled stop exceeds T_STOP_MS. -/
  | stopTimeout
  /-- RAMPDOWN_END (R333). The ramp factor of step X2 reaches 0 after T_RAMPDOWN_MS. -/
  | rampdownEnd
  /-- DERATE_CLEAR (R325). No derating condition for 20,000 stages, so DERATED returns to RUN. -/
  | derateClear
  /-- GRID_LOST (R340). Loss of grid lock persists for LOSS_MS, and F3 GRID_LOST is raised. -/
  | gridLost
  /-- LOGBOOK_FROZEN (R456). POST_COUNT reaches 4,095, the logbook freezes and LOGBOOK_FROZEN is journalled. -/
  | logbookFrozen
  /-- HVS_STATUS_FRAME (R371). The per-stage HVS status frame arrives with trip latches, supplies, switching times and thermistors. -/
  | hvsStatusFrame (hb : BitVec 3) (legs : LegSense) (ov ds6 : Bool)
  /-- DESAT (R385). A filtered, unmasked desaturation latches a DESAT trip for its channel. -/
  | desat (ch : Fin 7) (quick : Bool) (on : BitVec 7)
  /-- OC_FAST (R386). |IS_x| above OC_V for 100 ns latches OC_FAST. -/
  | ocFast (leg : Fin 3) (centivolts : BitVec 16) (quick : Bool) (on : BitVec 7)
  /-- SOFT_TURNOFF_END (R387). After T_2L, two-level gates drive to the reference and the Miller clamps engage. -/
  | softTurnoffEnd
  /-- DRV_SHORT_PERSIST (R392). OC_FAST is still asserted 10 µs after all gates are off, and F3 is raised. -/
  | drvShortPersist (leg : Fin 3)
  /-- OV_TRIP (R389). The bus over-voltage comparator trips the drive stage. -/
  | ovTrip (volts : BitVec 16)
  /-- DRV_BUS_OV (R392). OV_TRIP is still asserted 10 ms after the trip, and F3 is raised. -/
  | drvBusOv
  /-- OV_BRAKE_ON (R389). The bus reaches OV_BRAKE_ON_V and BRK is driven on. -/
  | ovBrakeOn (volts : BitVec 16)
  /-- OV_BRAKE_OFF (R389). The bus falls below the brake hysteresis level and the OV_BRAKE drive of BRK ends. -/
  | ovBrakeOff (volts : BitVec 16)
  /-- BOOTSTRAP_UV (R383). HBx − SWx below its falling threshold for 1 µs turns HOx off and trips. -/
  | bootstrapUv (leg : Fin 3)
  /-- SWITCH_TIME_MEASURE (R378). A turn-on edge's switch-node transition is timed between 10 % and 90 %. -/
  | switchTimeMeasure (ch : Fin 6) (first span : BitVec 16)
  /-- ADAPT_LEVEL (R379). At the end of a drive carrier cycle, each channel's drive level moves towards T_TARGET. -/
  | adaptLevel
  /-- BOOT_CHARGE_CHECK (R398). After the bootstrap pulses, HB_OK is checked, raising BOOT_CHARGE_FAIL or entering RUNNING. -/
  | bootChargeCheck
  /-- DRIVE_STOP_END (R399). Speed stays below ZERO_RPM for 100 ms or T_DRV_STOP_MS elapses, and the drive enters OFF. -/
  | driveStopEnd (late : Bool)
  /-- STO_LINE_CHANGE (R394). The STO lines at the HV die change, removing or restoring the driver enable. -/
  | stoLineChange (asserted : Bool)
  /-- ENCODER_EDGE (R404). A filtered encoder input transition updates the position count. -/
  | encoderEdge (a b z : Bool)
  /-- OVERSPEED (R391). |SPEED| stays above 1.1 × MAX_RPM for 10 stages, and the drive trips. -/
  | overspeed
  /-- NTC_SAMPLE (R407). The HV die samples the thermistors every 1 ms and checks range and short. -/
  | ntcSample (code0 code1 : BitVec 12) (over0 over1 : Bool)
  /-- ADC_STOP_TRIGGER (R423). A stop's trigger instant arrives and its conversions begin. -/
  | adcStopTrigger (x : Fin 4) (late : Bool)
  /-- ADC_RESULT_WRITE (R425). A stop's conversions finish and their mean result is written. -/
  | adcResultWrite (x : Fin 4) (convs : List (BitVec 16 × Bool)) (ago : Byte) (sample : BitVec 16)
  /-- MEAS_HANDOVER_CUT (R428). At B − 40 ns, the result table is handed to LOOP. -/
  | measHandoverCut
  /-- RESULT_STALE (R428). A converter writes nothing for TIMEOUT stages, and its results carry STALE. -/
  | resultStale (x : Fin 4)
  /-- SD_FILTER_OUTPUT (R429). A sinc3 filter delivers an output to its result entry. -/
  | sdFilterOutput (m : Fin 4) (code : BitVec 16) (ovr : Bool) (ago : Byte) (sample : BitVec 16)
  /-- SD_BITSTREAM_LOST (R432). A sigma-delta bitstream or filter output is lost, so STALE, LOST and MEAS_SD_LOST follow. -/
  | sdBitstreamLost (m : Fin 4)
  /-- SD_BITSTREAM_RECOVER (R432). After 64 bits with transitions, the filter restarts with SETTLE outputs. -/
  | sdBitstreamRecover (m : Fin 4)
  /-- RELIEF_RUN_START (R434). ADC4 takes a queued relief run and connects to the group. -/
  | reliefRunStart
  /-- RELIEF_HANDOVER (R434). ADC4 takes over the itinerary at the end of the stop in progress. -/
  | reliefHandover
  /-- RELIEF_CAL_END (R434). The relieved converter finishes its calibration and checks the coefficients. -/
  | reliefCalEnd (coefs : List (Int × Int))
  /-- RELIEF_HANDBACK (R434). The converter resumes its itinerary and ADC4 becomes idle. -/
  | reliefHandback
  /-- AUTO_CAL_REQUEST (R435). Every AUTO_S / 4 s, automatic calibration queues the next converter. -/
  | autoCalRequest
  /-- ILK_CLAIM_LOSS (R459). ILK_IN is low for 300 ns or misses its notch for 2 stages, so the partner's claim counts absent. -/
  | ilkClaimLoss
  /-- CLAIM_HW_DROP (R459). No waybill handover for 2 stage periods, and the hardware drops the own claim. -/
  | claimHwDrop
  /-- CLAIM_DECISION (R460). At power-up the module claims after the partner's absence for 10 ms or 50 ms, or else joins. -/
  | claimDecision
  /-- KEEPER_GRANT (R460). The partner's claim has been absent for 1 µs with the own claim present, and the grant is held. -/
  | keeperGrant
  /-- KEEPER_FRAME_RECEIVED (R462). The porter receives keeper frame records and uses each good one. -/
  | keeperFrameReceived (b : Bool) (frame : PairIn) (frames : List (Fin 2 × CanFrame × Nat)) (src : Source) (serial : Word)
  /-- PORTER_FRAME_RECEIVED (R465). The keeper receives the porter frame with its CTRL, DIGEST, SELFCHECK and relayed ledgers. -/
  | porterFrameReceived (b : Bool) (frame : PairIn) (serial : Word)
  /-- DIGEST_MISSING (R470). The partner's digest is missing for 2 cuts, so PARTNER_IN_STEP clears or the porter leaves step. -/
  | digestMissing
  /-- PORTER_LATCH (R466). The porter's loop engine latches the complete mirrored input set at B + L. -/
  | porterLatch
  /-- SELFCHECK_OUTCOME (R471). The self-check results of both modules decide stay, release or trip. -/
  | selfcheckOutcome
  /-- TAKEOVER_CLAIM (R472). A porter decides to claim on a dark keeper, a release or a yield. -/
  | takeoverClaim
  /-- TAKEOVER (R473). From the grant, the new keeper uses its own inputs, splits routes and journals PAIR_TAKEOVER. -/
  | takeover (missed : Byte)
  /-- YIELD_HANDOVER (R474). At boundary H, steering passes to the new keeper and the old one becomes porter. -/
  | yieldHandover
  /-- JOIN_START (R477). A porter enters JOINING and starts its join steps. -/
  | joinStart
  /-- JOIN_STEP (R477). A join step completes or exceeds its bound, raising PAIR_JOIN_FAILED on failure. -/
  | joinStep (ok : Bool) (delay : BitVec 16) (delta : BitVec 4) (image : List (Word × Word))
  /-- JOIN_RETRY (R478). After RETRY_S, a porter out of step enters JOINING again. -/
  | joinRetry
  /-- SAFETY_CYCLE (R492). The 250 µs safety cycle reads the inputs, evaluates the functions and compares the cores. -/
  | safetyCycle (c : CycleIn)
  /-- RESET_VALIDITY_EXPIRY (R497). A reset operation lapses 30 s after its final OFF. -/
  | resetValidityExpiry
  /-- SS1_DELAY_END (R500). The SS1 delay T_SS1 ends, and STO is asserted with the outputs de-energised. -/
  | ss1DelayEnd
  /-- OUTPUT_TEST_PULSE (R505). Every 20 ms an energised output is pulsed off and read back. -/
  | outputTestPulse (j : Fin 4) (low next : Bool)
  /-- FEEDBACK_MISMATCH (R507). SFB feedback mismatches for 200 ms and locks the island out. -/
  | feedbackMismatch (j : Fin 4)
  /-- CONTROLLER_MESSAGE (R511). The per-stage controller message carries requests and the stage counter to the island. -/
  | controllerMessage
  /-- CONTROLLER_LINK_LOSS (R511). No valid controller message for 1 ms, so STO is asserted and the requests count as withdrawn. -/
  | controllerLinkLoss
  /-- CONTROLLER_LINK_RESTORE (R511). The controller link has been valid for 10 ms, and STO may be released. -/
  | controllerLinkRestore
  /-- ISLAND_START (R498). The safety island starts, checks its memory and sets its pending start-up tests. -/
  | islandStart (inp : IslandIn)
  /-- ISLAND_WATCHDOG (R492). The island watchdog restarts the island in lock-out with cause INTERNAL. -/
  | islandWatchdog (inp : IslandIn)
  /-- PROGRAM_CRC_CHECK (R492). Each core checks its program memory CRC every 10 min. -/
  | programCrcCheck (ok : Bool)
  /-- ETH_LINK_UP (R524). A port is synchronised and negotiated for 10 ms, and its link comes up. -/
  | ethLinkUp (p : Fin 2) (speedBad remoteFault : Bool)
  /-- ETH_LINK_DOWN (R524). 1 ms without code-group synchronisation takes the link down. -/
  | ethLinkDown (p : Fin 2)
  /-- ETH_FRAME_RECEIVED (R525). A frame is received and accepted or dropped by address, tag and buffer room. -/
  | ethFrameReceived (p : Fin 2) (f : EthFrame)
  /-- ARP_RESOLVE_RETRY (R527). An unresolved telegram destination is requested again after 1 s. -/
  | arpResolveRetry (p : Fin 2) (ip : Word)
  /-- ARP_RENEWAL (R527). A resolved entry is requested again every 60 s and removed after 3 failures. -/
  | arpRenewal (p : Fin 2) (ip : Word)
  /-- MDIO_START (R528). A write of START in ETH_MDIO begins a clause 22 management cycle. -/
  | mdioStart (r : Req) (p : Fin 2) (op : Bool) (phyad regad : BitVec 5) (data : BitVec 16)
  /-- MDIO_CYCLE_DONE (R528). The management cycle ends, and BUSY clears with read data stored. -/
  | mdioCycleDone (p : Fin 2) (data : BitVec 16)
  /-- TIMED_FRAME_LAUNCH (R530). A timed frame starts at its GRID_TIME launch instant, or is skipped if late. -/
  | timedFrameLaunch (p : Fin 2) (late : Bool)
  /-- TELEGRAM_LAUNCH (R531). A telegram with its captured range is sent at its launch instant. -/
  | telegramLaunch (t : Fin 4)
  /-- PTP_SYNC_RECEIVED (R535). A Sync on the slave port gives an offset that drives the servo or a step. -/
  | ptpSyncReceived (p : Fin 2) (domain : Byte) (sender : BitVec 80) (delta : Int)
  /-- PTP_ANNOUNCE_RECEIVED (R537). An Announce feeds the best master clock algorithm and the port states. -/
  | ptpAnnounceReceived (p : Fin 2) (domain : Byte) (a : Announce)
  /-- PTP_ANNOUNCE_TIMEOUT (R533). announceReceiptTimeout expires on a port. -/
  | ptpAnnounceTimeout (p : Fin 2)
  /-- PTP_SYNC_SEND (R534). A master port sends Sync with a timed launch each second. -/
  | ptpSyncSend (p : Fin 2)
  /-- PTP_PDELAY (R534). A peer delay measurement completes or fails and updates the mean link delay. -/
  | ptpPdelay (p : Fin 2) (times : Option (Nat × Nat))
  /-- PTP_SYNC_LOSS (R535). No Sync from the parent for 3 s moves GRID_TIME to HOLDOVER or FREE_RUN. -/
  | ptpSyncLoss
  /-- PTP_HOLDOVER_EXPIRY (R535). HOLDOVER_S elapses in HOLDOVER, and STATE becomes FREE_RUN. -/
  | ptpHoldoverExpiry
  /-- CAN_FRAME_RECEIVED (R545). A received CAN frame is taken by the first matching receive object. -/
  | canFrameReceived (c : Fin 2) (f : CanFrame) (ageNs : Nat)
  /-- TX_REQ (R542). A write of TX_REQ queues a HOST-triggered transmit frame. -/
  | txReq (r : Req) (c : Fin 2) (n : Fin 128) (started : Bool)
  /-- ACK (R546). A write of ACK releases the oldest N owned receive entries. -/
  | ack (r : Req) (c : Fin 2) (n : Fin 128) (count : BitVec 6)
  /-- CAN_CYCLE_TRIGGER (R542). TX_OFS_US into a matching basic cycle, a CYCLE object queues its frame. -/
  | canCycleTrigger (c : Fin 2) (n : Fin 126) (started : Bool)
  /-- CAN_TX_DONE (R544). A frame is sent without error and STATUS reads OK. -/
  | canTxDone (c : Fin 2) (n : Fin 128)
  /-- CAN_TX_ERROR (R544). A transmission ends in an error or lost arbitration and is retried or withdrawn. -/
  | canTxError (c : Fin 2) (n : Fin 128) (err : CanErr)
  /-- CAN_ONESHOT_DEADLINE (R544). A one-shot frame's deadline passes and it is withdrawn. -/
  | canOneshotDeadline (c : Fin 2) (n : Fin 126)
  /-- CAN_BUSOFF (R549). A controller enters bus-off and its pending objects are handled. -/
  | canBusoff (c : Fin 2)
  /-- CAN_RECOVERY_DONE (R549). After 128 × 11 recessive bits, the controller is error active again. -/
  | canRecoveryDone (c : Fin 2)
  /-- CAN_REFERENCE_SEND (R550). The master's cycle time reaches T_CYCLE and it sends a reference message. -/
  | canReferenceSend (c : Fin 2) (ageNs : Nat) (acked : Bool)
  /-- CAN_BACKUP_MASTER_TIMEOUT (R550). A backup master sees no reference for its wait and requests its own. -/
  | canBackupMasterTimeout (c : Fin 2) (ageNs : Nat) (acked : Bool)
  /-- BUS_TIME_CYCLE_MISSING (R551). No cycle starts for T_CYCLE, so BUS_TIME runs a nominal cycle with HOLDOVER. -/
  | busTimeCycleMissing
  /-- CAN_RX_STALE (R548). A receive object takes no frame for TIMEOUT_MS and sets STALE. -/
  | canRxStale (c : Fin 2) (n : Fin 126)
  /-- DIE_SENSOR_SAMPLE (R565). The die sensors are sampled and the thermal levels are evaluated. -/
  | dieSensorSample (d : DieSample)
  /-- THERMAL_FACTOR_STEP (R565). Every 100 ms a source's limit factor steps down at THROTTLE or up below it. -/
  | thermalFactorStep (f : LimitSource)
  /-- MON_HALT (R585). .HALT puts the device in the safe state with F3 MON_HALT. -/
  | monHalt
  /-- MON_DUMP (R584). .DUMP reads a range as GET would and prints it. -/
  | monDump (addr len : Word) (elapsed : Nat) (ecc : List EccHit)
  /-- MON_PRBS (R584). .PRBS runs LINK_PRBS from the monitor. -/
  | monPrbs (link pattern duration : Word)
  /-- MON_INJECT (R584). .INJECT runs LINK_INJECT from the monitor. -/
  | monInject (link kind n hop : Word)
  /-- MON_STAT (R584). .STAT prints the main status words. -/
  | monStat
  /-- MON_UNLOCK_CHALLENGE (R584). .UNLOCK without an argument returns the challenge nonce. -/
  | monUnlockChallenge
  /-- MON_UNLOCK (R587). .UNLOCK with a signature unlocks the monitor. -/
  | monUnlock (signature : List Byte)
  /-- MON_LOCK (R588). .LOCK ends an unlock. -/
  | monLock
  /-- MON_UNLOCK_IDLE (R588). 1,800 s without a MON line ends an unlock. -/
  | monUnlockIdle
  /-- MON_AUTH_BACKOFF_END (R587). 60 s after the third unlock failure, .UNLOCK is accepted again. -/
  | monAuthBackoffEnd
  /-- MON_BREAK (R582). MON_RX low for 20 ms resets BAUD to 921,600 and sets BREAK_SEEN. -/
  | monBreak
  /-- MON_FRAMING_ERROR (R582). A UART framing error discards the line in progress. -/
  | monFramingError
  /-- MON_LINE_STALL (R582). A partial line with no character for 10 s is discarded. -/
  | monLineStall
  /-- PARTNER_CLAIM_PRESENT (R460). The partner's claim appears at ILK_IN, so a keeper loses its grant and, within one detection window, the module strapped SECOND drops its claim. -/
  | partnerClaimPresent
  /-- VGD_OK_RISE (R38). VGD rises above its rising under-voltage threshold, so VGD_OK becomes 1, the gate pull-down hold ends and the bus comparators and bootstrap switches may act. -/
  | vgdOkRise
  /-- LANE_REF_RETURN_DONE (R75). A porter's PLL_LANE finishes ramping back to its XIN-derived frequency after the pair link is lost, and CLK_LANE_REF.SOURCE changes from returning to XIN. -/
  | laneRefReturnDone
  /-- PAIR_FRAME_LAUNCH (R462). The module launches its pair frame on PAIRA and PAIRB: a keeper frame at B − 1.7 µs or a porter frame at B + 0.2 µs. -/
  | pairFrameLaunch
  /-- PTP_ANNOUNCE_SEND (R534). A master port sends Announce at its 1 s logAnnounceInterval. -/
  | ptpAnnounceSend (p : Fin 2)
  /-- PTP_PDELAY_REQUEST (R534). Each PTP port sends a Pdelay_Req at its 1 s logMinPdelayReqInterval to measure its mean link delay. -/
  | ptpPdelayRequest (p : Fin 2)
  /-- CONFIG_RECORD_WRITTEN (R128). The SAVE_CONFIG flash write finishes, with OK or FLASH_ERROR, and its reply is sent. -/
  | configRecordWritten (flashOk : Bool)
  /-- FIRMWARE_BEGIN_DONE (R171). The FIRMWARE BEGIN preparation of the non-booted slot finishes, and its final reply is sent. -/
  | firmwareBeginDone (flashOk : Bool)
  /-- FIRMWARE_COMMIT_DONE (R589). Verification of a committed image finishes, making the slot VALID or ending with IMAGE_INVALID, and the image CRC is replied. -/
  | firmwareCommitDone
  /-- FLASH_CRC_DONE (R173). A CRC of channel 2 to 5 over a flash configuration record or firmware image finishes, and the CRC is replied. -/
  | flashCrcDone
  /-- PRBS_TEST_END (R248). The duration of a LINK_PRBS test expires, the checker result is replied and the link returns to its normal use. -/
  | prbsTestEnd (l : Fin 50) (count : BitCount) (locked : Bool)
  /-- ADC4_CAL_DONE (R436). The CAL 0x0A04 calibration of ADC4 with its input shorted finishes, and the coefficients are stored or CAL_FAILED is replied. -/
  | adc4CalDone (coefs : List (Int × Int))
  /-- SAFE_PARAM_COMMIT_DONE (R515). The island finishes writing the committed safety set to its non-volatile store, locks out with PARAM_CHANGED and replies the CRC. -/
  | safeParamCommitDone
  deriving DecidableEq, Repr

end Sys2Proof
end

