-- ==== Sys2Proof/Decode.lean ====
section
/-! DEFINITION. The words that spell commands by the bits of the table of operations: the table gives no row any bits (a command comes as a
packet, a frame, an edge on a pin or a time that has passed), so no word spells one. -/

namespace Sys2Proof

/-- The command that a word spells by the table's bits: none. -/
def decodeTableWord (nbits w : Nat) : Option Instr :=
  match nbits, w with
  | _, _ => none

end Sys2Proof
end

