-- ==== Sys2Proof/Machine/Codes.lean ====
section
/-! DEFINITION. The fault codes of R451 and the event codes of R454. -/

namespace Sys2Proof.Machine

/-! Faults and demands (R451); the drive trips 0x0D10 to 0x0D74 stand with the drive stage. -/

def Code.CLK_SYS_UNLOCK : Nat := 0x0A01
def Code.CLK_NET_UNLOCK : Nat := 0x0A02
def Code.TAMPER : Nat := 0x0A03
def Code.MEM_UE_LOGBOOK : Nat := 0x0A04
def Code.MEM_UE_SECURE : Nat := 0x0A05
def Code.MEM_MARCH_FAIL : Nat := 0x0A06
def Code.CELL_SERIAL_MISMATCH : Nat := 0x0A07
def Code.LOOP_PIPE_RETIRED : Nat := 0x0A08
def Code.LOOP_CHECK_RETIRED : Nat := 0x0A09
def Code.CELL_FLAG : Nat := 0x0A0A
def Code.CELL_CAP_SERVICE : Nat := 0x0A0B
def Code.ENC_TO_OBSERVER : Nat := 0x0A0C
def Code.MEAS_SD_LOST : Nat := 0x0A0D
def Code.PAIR_LINK_DOWN : Nat := 0x0A10
def Code.PAIR_OUT_OF_STEP : Nat := 0x0A11
def Code.PAIR_MISMATCH_UNRESOLVED : Nat := 0x0A12
def Code.PAIR_PORTER_FAILED : Nat := 0x0A13
def Code.PAIR_ILK_DISAGREE : Nat := 0x0A14
def Code.PAIR_PARTNER_LOST : Nat := 0x0A15
def Code.PAIR_JOIN_FAILED : Nat := 0x0A16
def Code.CELL_BYPASS : Nat := 0x0B01
def Code.LOOP_OVERRUN : Nat := 0x0C01
def Code.BYPASS_FAIL : Nat := 0x0C02
def Code.ARM_SHORT : Nat := 0x0C03
def Code.ARM_LOOP_LOST : Nat := 0x0C04
def Code.SAFE_STO : Nat := 0x0E01
def Code.SAFE_SS1 : Nat := 0x0E02
def Code.SAFE_LOCKOUT : Nat := 0x0E03
def Code.SUPPLY_BROWNOUT : Nat := 0x0F01
def Code.SUPPLY_OV : Nat := 0x0F02
def Code.CLK_SYS_LOST : Nat := 0x0F03
def Code.CLK_LANE_LOST : Nat := 0x0F04
def Code.CLK_REF_LOST : Nat := 0x0F05
def Code.MEM_UE : Nat := 0x0F06
def Code.MON_HALT : Nat := 0x0F07
def Code.EDGE_LOST : Nat := 0x0F08
def Code.LOOP_ENGINE_LOST : Nat := 0x0F09
def Code.POLICY_LATE : Nat := 0x0F0A
def Code.DIE_OVERTEMP : Nat := 0x0F0B
def Code.CONTACT_TIMEOUT : Nat := 0x0F10
def Code.PRECHARGE_TIMEOUT : Nat := 0x0F11
def Code.SYNC_TIMEOUT : Nat := 0x0F12
def Code.STOP_TIMEOUT : Nat := 0x0F13
def Code.GRID_LOST : Nat := 0x0F14
def Code.GROUP_LOSS : Nat := 0x0F15
def Code.BUS_OV : Nat := 0x0F16
def Code.BUS_UV : Nat := 0x0F17
def Code.BUS_LOOP_LOST : Nat := 0x0F18
def Code.DRV_SHORT_PERSIST : Nat := 0x0F20
def Code.DRV_BUS_OV : Nat := 0x0F21
def Code.DRV_BRAKE_LOST : Nat := 0x0F22
def Code.PAIR_SELFCHECK_FAIL : Nat := 0x0F30
def Code.PAIR_KEEPER_LOST : Nat := 0x0F31
def Code.ILK_BANK_LOST : Nat := 0x0F32
def Code.HOST_TRIP : Nat := 0x0F40

/-! Events of the journal (R454). -/

def Ev.STATION_STATE : Nat := 0x0010
def Ev.DRIVE_STATE : Nat := 0x0011
def Ev.LIFECYCLE_CHANGE : Nat := 0x0012
def Ev.RESTART : Nat := 0x0013
def Ev.ROUTE_TRAINED : Nat := 0x0020
def Ev.ROUTE_SPLIT : Nat := 0x0021
def Ev.ROUTE_CLOSED : Nat := 0x0022
def Ev.ARM_NOT_READY : Nat := 0x0023
def Ev.SLOT_MAP_INVALID : Nat := 0x0024
def Ev.DRV_SLOT_MAP_INVALID : Nat := 0x0025
def Ev.ADAPT : Nat := 0x0030
def Ev.LOOP_FALLBACK : Nat := 0x0031
def Ev.LOOP_CHECK_MISMATCH : Nat := 0x0032
def Ev.DRV_STOP_TIMEOUT : Nat := 0x0033
def Ev.CONFIG_INVALID : Nat := 0x0040
def Ev.ROLE_STRAP_INVALID : Nat := 0x0041
def Ev.CLK_SYS_NO_LOCK : Nat := 0x0042
def Ev.CLK_LANE_NO_LOCK : Nat := 0x0043
def Ev.MEM_BANK_FAIL : Nat := 0x0044
def Ev.VIO_FAULT : Nat := 0x0045
def Ev.ROLE_PAD_CHANGE : Nat := 0x0046
def Ev.MARCH_BG_CHANGE : Nat := 0x0047
def Ev.GRID_STEP : Nat := 0x0048
def Ev.RAMP_ABORT : Nat := 0x0049
def Ev.PAIR_TAKEOVER : Nat := 0x0050
def Ev.PAIR_YIELD : Nat := 0x0051
def Ev.PAIR_JOINED : Nat := 0x0052
def Ev.PAIR_MISMATCH : Nat := 0x0053
def Ev.RELAY_PERMIT : Nat := 0x0054
def Ev.LOGBOOK_FROZEN : Nat := 0x0060
def Ev.LOGBOOK_RELEASED : Nat := 0x0061
def Ev.MON_UNLOCKED : Nat := 0x0090
def Ev.MON_LOCKED : Nat := 0x0091
def Ev.CLEAR_ACCEPTED : Nat := 0x0080
def Ev.TRIP_COMMAND : Nat := 0x0081

end Sys2Proof.Machine
end

