-- ==== Sys2Proof/Machine/State.lean ====
section
/-! DEFINITION. The state of the block: every register of the object map (sparse, by word address), the memory window, the
flash, and, block by block, what the spec gives the machine beside its registers. Plain data throughout. -/

namespace Sys2Proof.Machine

/-! ### Power, reset and flash (chapters 02, 04, 17) -/

/-- The regions of operation (R32). -/
inductive Region where
  | off | keepAlive | full
  deriving DecidableEq, Repr

/-- The sequences that stop the controller through stop-token frames (R46, R50, R569). -/
inductive StopKind where
  | brownout | overvoltage | pin | thermal
  deriving DecidableEq, Repr

/-- Supplies, pads and what is in progress around a restart (R32 to R50, R601). -/
structure Power where
  region   : Region := .off
  /-- A stopping sequence in progress and the stop-token frames still to send (R46, R50, R569). -/
  stopping : Option (StopKind × Nat) := none
  /-- The controller die is held in reset (R50, R569). -/
  held     : Bool := false
  /-- The next start is a cold start (R601). -/
  nextCold : Bool := true
  /-- Keep-alive was entered before step 7 of a start, so the next start enters OFF (R601). -/
  early    : Bool := false
  /-- The last keep-alive entry followed an over-voltage sequence (R47, R52). -/
  ovLast   : Bool := false
  /-- The levels of the ROLE pads (R43). -/
  role0    : Bool := false
  role1    : Bool := false
  /-- The secure region's access gate is closed (R120). -/
  gateShut : Bool := false
  /-- A wipe whose zero fill has not run yet (R120). -/
  fillDue  : Bool := false
  /-- A wipe whose flash marker has not been programmed yet (R120). -/
  markDue  : Bool := false
  /-- MONO at the last start, in units of 2^-16 ns (R600). -/
  startMono : Nat := 0
  deriving DecidableEq, Repr

/-- A configuration record in flash (R128): its sequence number, whether its CRC holds, and the words of its objects. -/
structure ConfigRec where
  seq   : Nat
  valid : Bool
  words : List (Nat × Word)
  deriving DecidableEq, Repr

/-- An image slot in flash (R590, R599). -/
structure ImageSlot where
  state    : Nat := 0
  version  : Nat := 0
  rollback : Nat := 0
  trials   : Nat := 0
  fwId     : Nat := 0
  bytes    : List Byte := []
  deriving DecidableEq, Repr

/-- The flash (R120, R128, R132, R590). -/
structure Flash where
  recA        : Option ConfigRec := none
  recB        : Option ConfigRec := none
  /-- The module comes with a confirmed image in slot A (log entry 32). -/
  imgA        : ImageSlot := { state := 3 }
  imgB        : ImageSlot := {}
  /-- The image that runs, and the one confirmed last, is the one in slot B. -/
  bootB       : Bool := false
  lastB       : Bool := false
  rollbackMin : Nat := 0
  lcState     : Nat := 0
  changeCount : Nat := 0
  /-- The service public key of the last life-cycle record. -/
  key         : Option (List Byte) := none
  /-- The encrypted copy of the secure region has not been invalidated. -/
  copyValid   : Bool := false
  deriving DecidableEq, Repr

/-- The memory and the flash beside their registers: words corrected on a read that await their write-back (R112), the next block
of the preserving March C− in its bank (R124), the firmware update in progress with its session and size (R171), and that an
activated image awaits its restart; and MONO when the nonce was last replaced (R131) and at the ACTIVATE (R171). -/
structure Store where
  ecc      : List Nat := []
  march    : Nat := 0
  update   : Option (Fin 4 × Nat) := none
  activate : Bool := false
  nonceAt  : Nat := 0
  activateAt : Nat := 0
  deriving DecidableEq, Repr

/-! ### Clocks (chapter 03) -/

/-- A ramp generator (R72): whether it runs a profile, the PLL's offset in thousandths of 1 ppm, for how many ns the segment's end has been held,
and how many ns of the present stage segments that have ended in it have taken. -/
structure RampGen where
  running : Bool := false
  milli   : Int := 0
  heldNs  : Nat := 0
  spent   : Nat := 0
  deriving DecidableEq, Repr

/-- The lane spread's triangle (R74). -/
inductive SpreadPhase where
  | off | falling | rising | returning
  deriving DecidableEq, Repr

/-- The clocks' state beside their registers. -/
structure Clock where
  rampSys   : RampGen := {}
  rampLane  : RampGen := {}
  /-- While PLL_LANE returns to XIN: how far its frequency still lies from its own, in thousandths of 1 ppm (R75). -/
  laneBack  : Option Int := none
  spread    : SpreadPhase := .off
  /-- PLL_SYS is relocking: after a step change of R66, or after a loss under R68. -/
  stepRun   : Bool := false
  lossRun   : Bool := false
  /-- MONO at that loss, and when PLL_SYS last declared its lock (R66, R68). -/
  lossAt    : Nat := 0
  lockAt    : Nat := 0
  /-- XIN is lost (R70), and the stages left until the islands stop. -/
  xinGone   : Bool := false
  xinStages : Option Nat := none
  /-- The islands, links and ports are stopped (R70). -/
  stopped   : Bool := false
  /-- What slewing of GRID_TIME is still to be made, in 2^-16 ns (R82), a step due at the next boundary, the correction of its
  rate in 2^-32 parts, and the part of a unit that the corrections have left over. -/
  slewLeft  : Int := 0
  stepDue   : Option Int := none
  gridRate  : Int := 0
  gridRest  : Int := 0
  deriving DecidableEq, Repr

/-! ### Command path (chapter 05) -/

/-- What of a request's head its reply repeats (R147). -/
structure Head where
  session : Nat
  seq     : Nat
  verb    : Nat
  mood    : Nat
  base    : Nat
  flags   : Nat
  deriving DecidableEq, Repr

/-- A reply (R147). -/
structure Reply where
  head    : Head
  interim : Bool
  status  : Nat
  credit  : Nat
  boot    : Nat
  stage   : Nat
  payload : List Byte
  deriving DecidableEq, Repr

/-- An accepted packet that waits for its turn (R156): the command it spells, or the status it is refused with (R165). -/
inductive Waiting where
  | cmd (h : Head) (i : Instr)
  | refuse (h : Head) (status : Nat)
  deriving DecidableEq, Repr

/-- A long verb, or an ordinary one whose reply waits for something, in execution at the base sequence (R172). An APPLY carries its set. -/
inductive LongOp where
  | snapshot (ranges : List (Word × Word)) (taken : Option Nat)
  | crcCapture (shadow : Bool) (start len : Nat)
  | applyWait (set : List (Nat × List Byte))
  | start (drive : Bool)
  | lifecycle (target : Nat) (newKey : List Byte) (tampered : Bool)
  | saveConfig (words : List (Nat × Word))
  | fwBegin
  | fwCommit (size : Nat)
  | flashCrc (channel : Nat)
  | prbs (link : Nat)
  | inject (link : Nat)
  | cal (x : Nat)
  | cal4
  | calSd
  | train (mask : Nat)
  | parcel (cell : Nat)
  | safeCommit (words : List Word)
  deriving DecidableEq, Repr

/-- An AT command that waits for its due time (R86): its head, the command, the due time in ns on its base, how many stage
boundaries have passed since it became eligible, and whether a step of GRID_TIME has passed its due time (R87). -/
structure DueCmd where
  head    : Head
  cmd     : Instr
  base    : Nat
  dueNs   : Nat
  passed  : Nat := 0
  stepped : Bool := false
  deriving DecidableEq, Repr

/-- An operation in execution, with the head its reply repeats, the stage its reply names, and whether its command came late under AT (R86). -/
structure BusyCmd where
  head  : Head
  op    : LongOp
  stage : Nat
  late  : Bool := false
  deriving DecidableEq, Repr

/-- A session beside its CMD_SESSION registers (R153 to R157). -/
structure Session where
  src     : Source := ⟨.etha, 0, 0⟩
  /-- Accepted packets whose turn has not come, by sequence, and MONO at their acceptance (R156). -/
  waiting : List (Nat × Waiting) := []
  waitAt  : List (Nat × Nat) := []
  /-- The final replies of the last 64 completed sequences, newest first. -/
  cache   : List Reply := []
  /-- The shadow set: whole objects by their address (R162). -/
  shadow  : List (Nat × List Byte) := []
  due     : Option DueCmd := none
  busy    : Option BusyCmd := none
  /-- Operations still running when their session closed, with the source of their replies (R154). -/
  orphans : List (Source × BusyCmd) := []
  /-- The time since the last packet, in ns. -/
  idleNs  : Nat := 0
  /-- On the keeper: packets of commands of this session that have come without a packet's bytes, to be mirrored (R178). -/
  tell    : List (List Byte) := []
  /-- The session is one that the keeper has mirrored to this porter (R178). -/
  mirror  : Bool := false
  deriving DecidableEq, Repr

/-- The monitor beside its registers (R583, R587, R588): the output that waits, in units of 1/10^10 of a character, the instants of the failed
unlocks on MONO in ns, newest first, that three of them have barred `.UNLOCK` and since when, the instant of the last line, and of a pattern test that the
monitor runs its start, its duration in ms and the progress lines sent. -/
structure MonRun where
  fill     : Nat := 0
  fails    : List Nat := []
  barred   : Bool := false
  barAt    : Nat := 0
  lastLine : Nat := 0
  long     : Option (Nat × Nat × Nat) := none
  deriving DecidableEq, Repr

/-- A packet that a CAN controller is assembling (R151): the next INDEX and the bytes so far. -/
structure CanAsm where
  next  : Nat
  short : Bool
  bytes : List Byte
  /-- The run has been discarded and counted; its further segments are passed over. -/
  dead  : Bool := false
  /-- MONO at its last segment. -/
  at_   : Nat := 0
  deriving DecidableEq, Repr

/-- A reply that a CAN controller sends (R151): the segments left, and MONO when its turn came. -/
structure CanReply where
  left  : List (List Byte)
  since : Nat := 0
  deriving DecidableEq, Repr

/-- A 66-bit block of a link (R211): its sync header and its 8 bytes. -/
structure Block where
  header : BitVec 2
  bytes  : List Byte
  deriving DecidableEq, Repr

/-- What the block sends or drives in the course of one command. -/
inductive Out where
  /-- A reply on a path, to a source (R147, R150). On an Ethernet port the frame that carries it has the port's tag (R525). -/
  | reply (dst : Source) (r : Reply)
  /-- A line of the monitor (R152, R584). -/
  | line (bytes : List Byte)
  /-- A burst on a link: a route frame or a TRAIN frame, from START to END (R213, R220, R240). -/
  | burst (link : Nat) (blocks : List Block)
  /-- Blocks in place of IDLE between bursts, here MARKER blocks (R213, R241). -/
  | gap (link : Nat) (blocks : List Block)
  /-- An ARP message of a port: a request or a reply, to a MAC address, with its sender and target addresses (R527). -/
  | arp (port : Nat) (reply : Bool) (mac senderIp targetIp : Nat)
  /-- An ICMP echo reply of a port to a MAC address and an IPv4 address (R527). -/
  | icmp (port mac ip : Nat) (payload : List Byte)
  /-- A UDP datagram of a port to a MAC address, an IPv4 address and a UDP port (R531). -/
  | datagram (port mac ip dst : Nat) (payload : List Byte)
  /-- A PTP message of a port: its messageType of IEEE 1588-2019 and its sequence (R533, R534). -/
  | ptp (port kind seq : Nat)
  /-- A part of the pair frame in progress on a link, as it is sent: the head and records, or records and the tail (R462). -/
  | pairPart (link : Nat) (bytes : List Byte)
  /-- The low notch of ILK_OUT: its heartbeat (R459). -/
  | notch
  /-- A frame of a port with an IEEE 802.1Q tag: its priority code point and VLAN ID, and what it carries (R525). -/
  | tagged (pcp vid : Nat) (o : Out)
  /-- A CAN frame of a controller: its identifier, whether that is extended, FDF, BRS and its data (R542, R550). -/
  | can (c id : Nat) (ide fdf brs : Bool) (data : List Byte)
  deriving DecidableEq, Repr

/-! ### Modulator (chapter 08) -/

/-- A leg as the modulator drives it (R263 to R272). Instants are fine counts from the start of the present stage, counts 1.25 ns. -/
structure LegRun where
  /-- The emitted state. -/
  high     : Bool := false
  /-- Dither positions of the ON and the OFF edges (R271). -/
  onPos    : Nat := 0
  offPos   : Nat := 0
  /-- The committed trailing edge of a stretched pulse (R265). -/
  hold     : Option Int := none
  /-- The earliest instant of the next edge (R265). -/
  after    : Option Int := none
  /-- Requests are ignored until here: a dropped pulse or an absorbed refresh (R265, R269). -/
  mute     : Option Int := none
  /-- The last emitted ON, and the ON edge of a refresh in progress (R268). -/
  lastOn   : Option Int := none
  refresh  : Option Int := none
  /-- The count of the last emitted edge (R267). -/
  lastEdge : Option Int := none
  /-- Edges that fall into the next stage: ON or OFF, and the count there. -/
  carry    : List (Bool × Nat) := []
  deriving DecidableEq, Repr

/-- A waybill's fields (R224): the twelve instants LEG0_ON, LEG0_OFF and so on, and the orders of the policy. -/
structure Waybill where
  inst   : List Nat := List.replicate 12 0xFFFF
  mode   : Nat := 1
  bypass : Nat := 0
  ilim   : Nat := 0
  ack    : Nat := 0
  deriving DecidableEq, Repr

/-- A drive edge set (R255, R274): the instants of legs 0 to 2 and of the brake, and whether its gates may be on. -/
structure EdgeSet where
  stage : Nat := 0
  gates : Bool := false
  /-- The set carries a bootstrap pulse of LO0 to LO2 (R398). -/
  boot  : Bool := false
  inst  : List Nat := List.replicate 8 0xFFFF
  /-- The levels of channels 0 to 6 (R379). -/
  levels : List Nat := List.replicate 7 8
  deriving DecidableEq, Repr

/-- The gate outputs of the HV die (R370, R374): the channels whose output the modulator's edges hold on, the channels whose Miller clamp is
engaged, and the turn-ons that the dead time has moved past the end of the stage, as the channel and the count in the next one. -/
structure GateRun where
  on    : BitVec 7 := 0
  clamp : BitVec 7 := 0
  due   : List (Nat × Nat) := []
  deriving DecidableEq, Repr

/-- A thermal source's level (R564): the code of the level, and for WARNING, THROTTLE and SHUTDOWN how many readings in a row were at
or above the threshold, and how many at or below it less 5 K. -/
structure Level where
  code : Nat := 0
  up   : List Nat := [0, 0, 0]
  down : List Nat := [0, 0, 0]
  deriving DecidableEq, Repr

/-- A cell beside its entries in the cell table and in MOD_CELL. -/
structure CellRun where
  legs   : List LegRun := List.replicate 6 {}
  /-- The requested state of leg 4, the shift Δ in force, and the period and offset they hold for (R260, R261). -/
  sec    : Bool := false
  delta  : Int := 0
  dabT   : Nat := 0
  dabOfs : Nat := 0
  /-- The cell's legs carried edges in the last stage computed (R273), and its legs as they were before it, with no edge under way. -/
  ran    : Bool := false
  before : List LegRun := List.replicate 6 {}
  /-- What the policy orders: MODE, BYPASS, ILIM (R273). -/
  mode   : Nat := 1
  bypass : Nat := 0
  ilim   : Nat := 0
  /-- The waybill fields handed over for the next frame. -/
  wb     : Waybill := {}
  /-- A ledger has been used since the last training, and the stages without one, and unserved, in a row (R238, R243). -/
  heard  : Bool := false
  miss   : Nat := 0
  away   : Nat := 0
  /-- The stages in a row with a usable ledger and TRIP [15:7] clear, up to 200 (R349). -/
  clean  : Nat := 0
  /-- The 32 bytes of the ledger received in this stage, used or not; none where none came (R115). -/
  raw    : List Byte := []
  /-- TRIP [6:0] of the last usable ledger (R347). -/
  flags  : Nat := 0
  /-- The stage whose waybill first ordered the present bypass (R349). -/
  bypassAt : Nat := 0
  /-- A fallback of one of the cell's slots in this stage (R311). -/
  slotLost : Bool := false
  /-- The cell has answered since the last restart or since its index was reset (R349). -/
  known  : Bool := false
  /-- Capacitor health (R354): the block in progress, its charge, the voltage it began with, whether it is spoilt, and the sums of
  the window, and the counted windows in a row below WATCH and below SERVICE since the flag was clear. -/
  capN     : Nat := 0
  capQ     : Rat := 0
  capU0    : Nat := 0
  capBad   : Bool := false
  capB     : Nat := 0
  capSumQU : Rat := 0
  capSumUU : Rat := 0
  capLowW  : Nat := 0
  capLowS  : Nat := 0
  /-- The rank at the last stage. -/
  capRank  : Nat := 0
  /-- The stages in a row with a ledger of status NO_LEDGER or STALE (R347). -/
  lost     : Nat := 0
  /-- The thermal machines of TEMP0 to TEMP2 (R572); the factor stands in CELL_THERM. -/
  therm  : List Level := [{}, {}, {}]
  /-- MONO at the last step of that factor (R565). -/
  thermAt : Nat := 0
  /-- The UP_OFFSET that the waybill still shows after a transfer, and for how many stages (R237). -/
  ackLeft : Nat := 0
  deriving DecidableEq, Repr

/-- A parcel transfer (R235 to R238). -/
structure Parcel where
  tag     : Nat
  fromCell : Bool
  body    : List Byte
  answer  : List Byte := []
  /-- The request bytes that the cell has accepted, that it has accepted the last of them, and whether a chunk is to be sent. -/
  done    : Nat := 0
  got     : Bool := false
  due     : Bool := true
  busy    : Bool := false
  /-- MONO when the transfer began, and the stages of the last chunk sent and of the last BUSY (R237, R238). -/
  since   : Nat := 0
  sentAt  : Nat := 0
  busyAt  : Nat := 0
  deriving DecidableEq, Repr

/-- A hop as a training has found it from one end (R194, R240, R241): its serial and its turnaround, the echoes that have come as marker number and
round trip, and the delay that the partner has told. -/
structure HopSeen where
  serial : Nat
  turn   : Nat
  echoes : List (Nat × Nat) := []
  told   : Option Nat := none
  deriving DecidableEq, Repr

/-- The findings of R195 and R196. -/
inductive Finding where
  | ready | degraded | down | hopCount | tooLong
  deriving DecidableEq, Repr

/-- A route beside its registers. -/
structure RouteRun where
  /-- Training in progress: quiet or live (R193, R199), and the stages since the end of its step 1; none in step 1. -/
  training : Option Bool := none
  since    : Option Nat := none
  /-- The stages that step 1 of a quiet training has waited for locks. -/
  waitN    : Nat := 0
  /-- The hops found from each end in it, in the order of their positions; whether a frame of each end has come through the ring; that the partner finds
  the ring closed; and what step 3 has decided. -/
  hopsOut  : List HopSeen := []
  hopsRet  : List HopSeen := []
  crossOut : Bool := false
  crossRet : Bool := false
  partner  : Bool := false
  judged   : Finding := .down
  /-- The route frame of the closed ring that was sent in the stage before is awaited at the far end, and has come (R247). -/
  awaits   : Bool := false
  back     : Bool := false
  /-- Ends recorded DOWN in this training. -/
  downOut  : Bool := false
  downRet  : Bool := false
  /-- The ledger trains received at each end since the last ledger cut. -/
  trainOut : Option (List Byte) := none
  trainRet : Option (List Byte) := none
  /-- How long no segment has been broken, in ns (R246). -/
  whole    : Nat := 0
  /-- The hop whose parcel chunk was sent last (R22). -/
  turn     : Nat := 0
  /-- The waybill fields of the next frame have been handed over (R254, R275). -/
  handed   : Bool := false
  /-- The waybill fields missed a cut: the ROUTE island builds the safe waybills itself (R275). -/
  missed   : Bool := false
  deriving DecidableEq, Repr

/-- A corrupted waybill block to be sent (R249). -/
structure Inject where
  param : Word
  done  : Bool := false
  left  : Nat := 8
  crc0  : Nat
  /-- Run by the monitor, which has no session. -/
  byMon : Bool
  deriving DecidableEq, Repr

/-- The links beside their registers. -/
structure Links where
  routes  : Vector RouteRun 24 := Vector.replicate 24 {}
  parcels : List (Nat × Parcel) := []
  nextTag : Nat := 0
  /-- The stage of the last ledger cut, and of the last waybill cut. -/
  cutAt   : Option Nat := none
  wayAt   : Option Nat := none
  inject  : List Inject := []
  /-- The links under a pattern test, and whether the monitor runs it (R248). -/
  prbs    : List (Nat × Bool) := []
  /-- MONO at the end of those tests' durations, by link. -/
  prbsEnd : List (Nat × Nat) := []
  /-- The partner's serving-end links that are LOCKED, by route (R463). -/
  partnerLocked : Nat := 0
  /-- The last route frames carried the stop token; what they put into the output digest (R469). -/
  stopSent : Bool := false
  digest   : List Byte := []
  /-- The stage of the last handover of all waybill fields (R254, R459). -/
  handedAt : Option Nat := none
  deriving DecidableEq, Repr

/-! ### Loop engine (chapter 09) -/

/-- A slot's four inputs as last sampled, with their ages (R307), and what its next evaluation must know. -/
structure SlotRun where
  pv    : Word := 0
  sp    : Word := 0
  ff    : Word := 0
  sched : Word := 0
  agePv : Nat := 255
  ageSp : Nat := 255
  ageFf : Nat := 255
  ageSc : Nat := 255
  /-- The next evaluation is a first one (R305). -/
  first : Bool := true
  /-- Evaluations still flagged WARMING. -/
  warm  : Nat := 0
  /-- The derivative starts anew at the next evaluation (R297). -/
  dNew  : Bool := false
  /-- The slot finished its previous evaluation (R291). -/
  fin   : Bool := false
  deriving DecidableEq, Repr

/-- The output set handed to EDGE (R289). -/
structure OutputSet where
  vref  : List (Nat × Word) := []
  phi   : List (Nat × Word) := []
  drv   : List Word := [0, 0, 0]
  brake : Word := 0
  deriving DecidableEq, Repr

/-- The loop engine beside its registers. -/
structure Loop where
  slots  : List (Nat × SlotRun) := []
  /-- The output set last handed over, and the one handed over before it (R255). -/
  out    : OutputSet := {}
  prev   : OutputSet := {}
  /-- Outputs of this stage that a failing pipe has made wrong (R317). -/
  wrong  : List (Nat × Word) := []
  /-- The stage of the last issue and of the last handover. -/
  issued : Option Nat := none
  handed : Option Nat := none
  /-- Slots that overran in this stage (R314). -/
  late   : List Nat := []
  /-- Mismatches whose third evaluation is made at the start of the next stage, each with the loop pipe at fault or not (R317). -/
  votes  : List (CheckMiss × Nat) := []
  /-- A self-check stage is due (R470), and the result of the last one. -/
  selfDue : Bool := false
  selfOk  : Option Bool := none
  deriving DecidableEq, Repr

/-! ### Policy (chapter 10) -/

/-- A cell's ledger as the cores see it in a stage (R339). -/
structure CellView where
  udc    : Nat
  iac    : Int
  idab   : Int
  trip   : Nat
  state  : Nat
  status : Nat
  deriving DecidableEq, Repr

/-- What the cores keep for an arm (R341, R348): the current, the quadrature generator's two states, the factor on VREF. -/
structure ArmRun where
  iarm : Word := 0
  gen1 : Word := 0
  gen2 : Word := 0
  mul  : Nat := 1
  div  : Nat := 1
  deriving DecidableEq, Repr

/-- A setpoint in force (R343, R344). -/
structure SetRun where
  value  : Rat
  target : Rat
  rate   : Rat
  moving : Bool
  deriving DecidableEq, Repr

/-- The policy beside its registers. -/
structure Policy where
  view    : List (Nat × CellView) := []
  arms    : List (Nat × ArmRun) := []
  /-- The measurement results that the cores work on in a stage: value, and whether it is a new sample (R287). -/
  meas    : List (Nat × (Word × Bool)) := []
  /-- The signals last handed over, and those of them handed over in the last stage (R291, R339). -/
  sigs    : List (Nat × Word) := []
  newSigs : List Nat := []
  lateNow : Bool := false
  lateRow : Nat := 0
  /-- Setpoints by ID where they have been set since the restart, and setpoints that take effect at the next boundary (R166). -/
  sets    : List (Nat × SetRun) := []
  setDue  : List (Nat × SetRun) := []
  udcNow  : Option Rat := none
  vbusNow : Option Rat := none
  /-- The ramp factor of step X2 as stages done (R333). -/
  rampN   : Nat := 0
  /-- The stages in a row in which S4's conditions hold; they have been met once (R331). -/
  dwell   : Nat := 0
  held    : Bool := false
  /-- The stages spent in the present step, and the ns for which the grid lock has held (R340). -/
  stepN   : Nat := 0
  lockNs  : Nat := 0
  /-- MONO when the tracker lost its lock (R340), and the stages in a row in DERATED without a derating condition (R325). -/
  lossAt  : Nat := 0
  clearN  : Nat := 0
  theta   : Word := 0
  omega   : Word := 0
  qInt    : Word := 0
  coast   : Nat := 0
  tracking : Bool := false
  busHigh : Nat := 0
  busLow  : Nat := 0
  /-- A stop in progress was caused by a fault (R333, X1). -/
  stopFault : Bool := false
  /-- A transition that takes effect at the next boundary: state code and cause (R325). -/
  goto    : Option (Nat × Nat) := none
  /-- The run-up target ordered in this stage. -/
  target  : Nat := 0
  /-- A START, and a STOP or TRIP, executed in this stage for the converter and for the drive stage (R158). -/
  launchConv  : Bool := false
  launchDrive : Bool := false
  haltConv    : Bool := false
  haltDrive   : Bool := false
  /-- The stage at which the present state was entered (R165). -/
  entryStage  : Nat := 0
  /-- Groups to be stopped at the next boundary by command (R351). -/
  groupStops : List Nat := []
  /-- A valid configuration record was loaded (R128, R328). -/
  configOk : Bool := false
  /-- Cells whose TAKE_OUT was written in this stage, and those of the stage before with those of which a slot fell back in it: the cores act on
  these (R347, R348). -/
  takeOuts : List Nat := []
  takeNow  : List Nat := []
  lostNow  : List Nat := []
  deriving DecidableEq, Repr


/-- The drive stage beside its registers. Trips are codes of R391. -/
structure DriveRun where
  /-- A porter's own latches, held until it has the grant (R467, R473). -/
  held     : List Nat := []
  /-- The stages since START executed, in CHARGING, or since STOPPING was entered (R398, R399). -/
  stepN    : Nat := 0
  /-- Trips latched at HVS since the last stage boundary, latched at or before it, told by this stage's status frame, and in effect
  (R371, R392, R411). -/
  fresh    : List Nat := []
  atB      : List Nat := []
  reported : List Nat := []
  latched  : List Nat := []
  /-- CLEAR with DRIVE was accepted, and STOP executed, in this stage (R396). -/
  clearDue : Bool := false
  stopDue  : Bool := false
  /-- The STO lines and the keeper grant at the HV die (R394), and the isolation link (R390). -/
  sto      : Bool := true
  grant    : Bool := false
  hvLink   : Bool := false
  /-- The HV die's own registers, as words of DRV_GATE, DRV_SOFT and DRV_PROT that differ from its hardware defaults (R390). -/
  hvRegs   : List (Nat × Word) := []
  /-- The legs whose switch node is sensed less than 2.0 V above COM (R382). -/
  swLow    : BitVec 3 := 0
  /-- HB_OK, and the comparators still asserted: fast over-current by leg, OV_TRIP, desaturation of channel 6 (R371, R391, R392). -/
  hb       : BitVec 3 := 0
  oc       : BitVec 3 := 0
  ov       : Bool := false
  ds6      : Bool := false
  /-- OV_BRAKE, and that it acts on BRK no more after a desaturation of channel 6 (R389). -/
  brake    : Bool := false
  brakeCut : Bool := false
  /-- The legs that have reported a short since the last CLEAR, the channels in a two-level turn-off, and a turn-off of every channel
  (R387). -/
  shorts   : List Nat := []
  soft     : List Nat := []
  softAll  : Bool := false
  /-- The switching times of channels 0 to 5 in this carrier cycle: how many, and their sum in counts of 1.25 ns (R379); and those measured
  since the last status frame, as channel and counts (R371, R378). -/
  sw       : List (Nat × Nat) := List.replicate 6 (0, 0)
  swNew    : List (Nat × Nat) := []
  /-- For how many ns VGD_OK, the lock of PLL_HV and the encoder's validity have held, and the valid edge sets in a row (R391). -/
  vgdNs    : Nat := 0
  hvNs     : Nat := 0
  encNs    : Nat := 0
  goodSets : Nat := 0
  /-- For how many ns the gates of channels 0 to 5 have been off, and the bus over its trip threshold since that trip (R392). -/
  offNs    : Nat := 0
  ovNs     : Nat := 0
  /-- For how many stages the speed has lain above 1.1 times MAX_RPM (R391), and below ZERO_RPM in a stop (R399). -/
  overN    : Nat := 0
  zeroN    : Nat := 0
  /-- The start sequence: 0 before D4, 1 when D4 is next, 2 when D4 is done (R398). Y2 of the stop sequence is under way (R399). -/
  boot     : Nat := 0
  y2       : Bool := false
  /-- SPEED_REF_NOW (R403). -/
  speedRef : Rat := 0
  /-- The encoder: its accepted inputs, its count, and the counts latched at the last boundaries, newest first (R404). -/
  encA     : Bool := false
  encB     : Bool := false
  encZ     : Bool := false
  encPos   : Nat := 0
  encHist  : List Nat := []
  encRpm   : Rat := 0
  /-- The stages of the last illegal transitions; the count at the last index and how many intervals in a row were wrong; the stages in
  a row in which encoder and observer disagree (R404). -/
  illegal  : List Nat := []
  zAt      : Option Nat := none
  zBad     : Nat := 0
  apart    : Nat := 0
  /-- The observer: its angle in turns, its speed in rpm, and for how many stages it has been fast enough (R405). -/
  obsTheta : Word := 0
  obsRpm   : Word := 0
  obsN     : Nat := 0
  /-- The open-loop start's ramp: its angle in turns and its speed in rpm (R405). -/
  rampTheta : Rat := 0
  rampRpm   : Rat := 0
  /-- The drive runs on the observer after a failure of the encoder, until the next start (R406). -/
  onObs    : Bool := false
  /-- The thermistors: the last 8 samples in codes of 5.0 V / 4,096, newest first, and the readings in a row that were over-range, short
  and in range (R391, R407). -/
  ntc      : List (List Nat) := [[], []]
  ntcOver  : List Nat := [0, 0]
  ntcShort : List Nat := [0, 0]
  ntcIn    : List Nat := [0, 0]
  /-- The readings that the next status frame carries: for each thermistor the temperature in 0.1 °C and the state (R371). -/
  ntcNew   : Option (List (Int × Nat)) := none
  deriving DecidableEq, Repr

/-- The thermal monitor beside its registers (R564 to R571). -/
structure Thermal where
  die    : Level := {}
  hv     : Level := {}
  ntc    : List Level := [{}, {}]
  /-- The factors of the HV die and of the thermistors, in eighths. -/
  fHv    : Nat := 8
  fNtc   : Vector Nat 2 := Vector.replicate 2 8
  /-- MONO at the last step of the die throttle, of f_HV, and of the thermistors' factors (R565). -/
  stepAt : Vector Nat 4 := Vector.replicate 4 0
  /-- The motor current factor in force (R571). -/
  fDrv   : Nat := 8
  /-- The sensors read since the last restart. -/
  seen   : List Nat := []
  /-- The controller die counts as being at THROTTLE until the next restart (R567). -/
  forced : Bool := false
  /-- Samples of each die in a row with every sensor more than 5 K from every threshold, while sampled at 16 kHz (R566). -/
  far    : List Nat := [0, 0]
  fast   : List Bool := [false, false]
  /-- The HV die has shut down and its sensors have not both come back to 105 °C (R570). -/
  hvShut : Bool := false
  /-- The controller die has shut down (R569): the drive stage is off, and DIE_OVERTEMP is raised at the next boundary; samples in a row with
  every sensor at 105 °C or less. -/
  shut   : Bool := false
  cool   : Nat := 0
  deriving DecidableEq, Repr

/-- The modulator beside its registers: the drive legs and the brake, and the edge sets at HVS (R276). -/
structure Modulator where
  drv     : List LegRun := List.replicate 4 {}
  /-- The drive stage was started in the last stage computed. -/
  drvRan  : Bool := false
  /-- The set on its way to HVS, and the set that HVS applies. -/
  sent    : Option EdgeSet := none
  applied : EdgeSet := {}
  /-- The gate outputs as that set has left them. -/
  gate    : GateRun := {}
  /-- The EDGE clock is stopped, or a core or an island is halted (R275, R277). -/
  edgeStopped : Bool := false
  halted      : Bool := false
  /-- The halted unit is the EDGE island itself. -/
  edgeHalted  : Bool := false
  deriving DecidableEq, Repr

/-- An entry of the result table as MEAS holds it (R428, R442). -/
structure MeasEntry where
  value  : Word := 0
  code   : Nat := 0
  ovr    : Bool := false
  settle : Bool := false
  stale  : Bool := true
  overran : Bool := false
  new    : Bool := false
  source : Nat := 3
  stop   : Nat := 0
  stage  : Nat := 0
  sample : Nat := 0
  count  : Nat := 0
  /-- The converter whose itinerary wrote it, and the cuts since. -/
  conv   : Nat := 0
  age    : Nat := 0
  deriving DecidableEq, Repr

/-- A converter's itinerary (R423): the stop in turn, whether its conversions are under way, the gain of the stop before, and the cuts since
the converter's last result. -/
structure AdcRun where
  stop : Nat := 0
  busy : Bool := false
  gain : Option Nat := none
  /-- The cuts since the converter itself wrote a result (R428). -/
  age  : Nat := 0
  /-- A stage, and the stops whose trigger instant of that stage has come (R423). -/
  fired : Nat × List Nat := (0, [])
  deriving DecidableEq, Repr

/-- The phases of a relief run (R434): ADC4 connected, the itinerary taken over, the converter calibrated. -/
inductive ReliefPhase where
  | connected | running | calibrated
  deriving DecidableEq, Repr

/-- Coefficients of a calibration: OFFSET and GAIN_CORR for each gain. -/
abbrev Coefs := List (Int × Int)

/-- The measurement system beside its registers. -/
structure Measure where
  /-- The stage of the last handover cut (R428). -/
  cutAt  : Option Nat := none
  table  : List (Nat × MeasEntry) := []
  adc    : Vector AdcRun 4 := Vector.replicate 4 {}
  /-- SETTLE outputs that each filter has still to give (R431, R432). -/
  settle : List Nat := [0, 0, 0, 0]
  /-- The relief run in progress and its new coefficients, the queue in order of arrival, and the converter next in turn for automatic
  calibration (R434, R435). -/
  relief : Option (Nat × ReliefPhase) := none
  coefs  : Option Coefs := none
  queue  : List Nat := []
  auto   : Nat := 0
  /-- For how many ns the relieved converter has calibrated, and since the last automatic request (R434, R435). -/
  reliefNs : Nat := 0
  autoNs   : Nat := 0
  /-- The converter for which ADC4 wrote its last result, and the cuts since (R428). -/
  last4  : Nat × Nat := (0, 0)
  /-- The bitstreams lost since the last cut, a bit each (R432). -/
  sdFell : Nat := 0
  /-- ADC4 calibrates itself (R436). -/
  cal4   : Bool := false
  /-- The offset calibration of the modulators: for each, the outputs taken, and their sums with the input shorted and with none flowing
  (R436). -/
  calSd  : Option (List (Nat × Int × Int)) := none
  deriving DecidableEq, Repr

/-! ### Faults and journal (chapter 13) -/

/-- The fault classes (R447), with the demands of the safety island. -/
inductive FaultClass where
  | f0 | f1 | f2 | f3 | d | demand
  deriving DecidableEq, Repr

/-- A fault raised at the next stage boundary (R448). -/
structure FaultReq where
  code     : Nat
  cls      : FaultClass
  subject  : Nat
  data     : List Byte
  mirrored : Bool
  deriving DecidableEq, Repr

/-- A journal entry that waits in the queue (R453, R454); its number is given when it is written. -/
structure JEntry where
  boot     : Nat
  stage    : Nat
  gridS    : Nat
  synced   : Bool
  gridNs   : Nat
  code     : Nat
  cls      : Nat
  mirrored : Bool
  subject  : Nat
  data     : List Byte
  deriving DecidableEq, Repr

/-- Faults, journal and logbook beside their registers. -/
structure Faults where
  /-- Faults to raise at the next stage boundary. -/
  pending : List FaultReq := []
  /-- The journal's queue, oldest first (R453). -/
  queue   : List JEntry := []
  /-- The number of the next journal entry (R453). -/
  nextNum : Nat := 1
  /-- Whether the journal holds an entry, and whether the logbook holds a slot. -/
  written : Bool := false
  lbAny   : Bool := false
  /-- The instants of the F3 faults in the window of R336, in seconds of MONO. -/
  f3Times : List Nat := []
  /-- A logbook trigger at the next stage boundary (R456), the trigger stage in force, and the first stage to be recorded after a
  release. -/
  trigger : Bool := false
  trigStage : Nat := 0
  lbFrom  : Nat := 0
  /-- The faults raised at the last stage boundary. -/
  raised  : List FaultReq := []
  deriving DecidableEq, Repr

/-! ### The pair (chapter 13) -/

/-- What a porter has of an input set (R463, R466): the SEQ of the keeper's frame, the records seen of it, CELL entries by index, the entries
that CUT has counted and those that came on each link, MEAS entries, L faults, what else came in order, and what belongs to the next
set: HVS, that of the
set in the making, and bodies in order. -/
structure PairSet where
  seq    : Nat := 0
  seen   : List (List Byte) := []
  cells  : List (Nat × List Byte) := []
  cutA   : Option Nat := none
  cutB   : Option Nat := none
  nA     : Nat := 0
  nB     : Nat := 0
  meas   : List Word := []
  faults : List (Nat × Nat) := []
  hvs    : Option (List Byte) := none
  hvsNow : Option (List Byte) := none
  frames : List (Nat × CanFrame × Nat) := []
  other  : List (List Byte) := []
  later  : List (List Byte) := []
  deriving DecidableEq, Repr

/-- The pair beside its registers (R458 to R479). -/
structure Duo where
  /-- The role, coded as PAIR_STAT.ROLE, and the step of a join. -/
  role     : Nat := 5
  step     : Nat := 0
  /-- The own claim, the partner's claim and the grant (R459, R460). -/
  own      : Bool := false
  partner  : Bool := false
  grant    : Bool := false
  /-- On the keeper: the porter is in step (R486). -/
  inStep   : Bool := false
  /-- Out of step to join at once: after a decision to be porter, or a self-check that both have passed (R460, R471). -/
  rejoin   : Bool := false
  /-- The role that this module takes at the coming boundary (R15), and that it is keeper by a yield since the last one (R474). -/
  next     : Option Nat := none
  lag      : Bool := false
  /-- The cause of a claim made by R472 or R474: 1 dark keeper, 2 release, 3 yield. -/
  cause    : Nat := 0
  /-- What the own CTRL record says: RELEASE, BANK_LOST, and the HANDOVER stage of a YIELD (R463, R474). -/
  release  : Bool := false
  bankLost : Bool := false
  yieldAt  : Option Nat := none
  /-- What the partner's last CTRL record says, and the stage in which it came. -/
  pFlags   : Nat := 0
  pYieldAt : Nat := 0
  pStage   : Nat := 0
  pFirm    : Nat := 0
  pConfig  : Nat := 0
  ctrlAt   : Option Nat := none
  /-- The stages in a row in which not every waybill field was handed over (R459). -/
  noHand   : Nat := 0
  /-- HEARTBEAT (R462). -/
  beat     : Nat := 0
  /-- The own digests of the last cut: its stage, output and input; the stages of the partner's last digests, newest first; and the cuts in a
  row with equal digests (R469, R470, R477). -/
  digest   : Option (Nat × Nat × Nat) := none
  pDigests : List Nat := []
  equal    : Nat := 0
  /-- A self-check stage runs, and the partner's result (R471). -/
  check    : Bool := false
  pCheck   : Option Bool := none
  /-- The mirrored set in the making, the stage it was last latched in, and the input set last latched as the digest takes it (R466, R469). -/
  set      : PairSet := {}
  latchAt  : Option Nat := none
  latched  : List Byte := []
  /-- CELL entries that the porter has relayed (R476). -/
  relayed  : List (Nat × List Byte) := []
  /-- Chunks of mirrored commands: session, offset so far and bytes (R463). -/
  chunks   : List (Nat × List Byte) := []
  /-- On the keeper: the packets to be mirrored (R178), and what has been sent of the frame in progress on PAIRA and PAIRB, without its tail. -/
  cmds     : List (Nat × List Byte) := []
  sent     : Option (Nat × List Byte × List Byte) := none
  /-- What of the keeper's next input set has been sent already. -/
  later    : List (List Byte) := []
  /-- Bank 3 has been lost since the last stage boundary, and a single device claims again at the next one (R479). -/
  bankDue  : Bool := false
  reclaim  : Bool := false
  /-- For how many ns the partner's claim has been absent, and this module out of step; the stages in the present step of a join (R460, R477,
  R478). -/
  absentNs : Nat := 0
  outNs    : Nat := 0
  stepN    : Nat := 0
  deriving DecidableEq, Repr

/-! ### Safety island (chapter 14) -/

/-- An input pair beside its registers: for how many cycles in a row each channel has read another level than the accepted one, the demand,
whether both channels have been open together, that it awaits its manual reset, the cycles of the present disagreement and that it has
faulted already, and that PAIR_STATE shows FAULT. -/
structure PairRun where
  na      : Nat := 0
  nb      : Nat := 0
  demand  : Bool := false
  both    : Bool := false
  await   : Bool := false
  disc    : Nat := 0
  faulted : Bool := false
  fault   : Bool := false
  deriving DecidableEq, Repr

/-- An output beside its registers: the feedback's cycles at another level, the readings in a row outside the limits, the cycles for which
the energised check rests after a pulse, the last reading at or below 5 V, the cycles since the last switching, that the feedback has not
matched since, that the present mismatch has faulted already, and a test pulse: whether its readback is good, and whether it falls
into the next cycle (R505 to R507). -/
structure OutRun where
  nf      : Nat := 0
  bad     : Nat := 0
  rest    : Nat := 0
  low     : Bool := true
  since   : Nat := 0
  waits   : Bool := false
  faulted : Bool := false
  pulse   : Option (Bool × Bool) := none
  /-- The cycles of the present mismatch of the feedback (R507). -/
  mis     : Nat := 0
  deriving DecidableEq, Repr

/-- The safety island beside its registers. -/
structure Island where
  /-- The island runs. -/
  started  : Bool := false
  pairs    : Vector PairRun 8 := Vector.replicate 8 {}
  outs     : Vector OutRun 4 := Vector.replicate 4 {}
  /-- What is left of the SS1 delay, in quarters of a millisecond (R500). -/
  ss1      : Option Nat := none
  /-- The requests of the last message for MAIN_BREAKER and PRECHARGE_PATH, the stage it named, and that the link has been valid for 10 ms
  (R511). -/
  reqMain  : Bool := false
  reqPre   : Bool := false
  msgStage : Nat := 0
  linkHeld : Bool := false
  /-- The cycles in a row in which the cores disagree, that the self-checks pass, and that the active set is invalid. -/
  disagree : Nat := 0
  checkOk  : Bool := true
  paramBad : Bool := false
  /-- The causes of the lock-out in force, with their subjects (R508). -/
  causes   : List (Nat × Nat) := []
  /-- A press of the RESET pair (R497): the cycles since both channels went ON, whether one has gone OFF since, and that it
  counts for nothing. -/
  press    : Option Nat := none
  /-- The cycles since the start, modulo the 20 ms of the test pulses; since the last valid reset operation; since the last message, and since the
  link came back (R497, R505, R511). -/
  cycle    : Nat := 0
  validN   : Nat := 0
  quiet    : Nat := 0
  up       : Nat := 0
  letGo    : Bool := false
  pressBad : Bool := false
  /-- Reports to the policy, oldest first: the code and DATA (R502, R508). -/
  reports  : List (Nat × List Byte) := []
  deriving DecidableEq, Repr

/-! ### Networks (chapter 15) -/

/-- A next hop of telegrams (R527): its MAC address once it has answered, the requests sent while it had not, whether a renewal is
unanswered, the renewals in a row that failed, and MONO at the last request. -/
structure ArpEntry where
  ip    : Nat
  mac   : Option Nat := none
  tries : Nat := 1
  asked : Bool := false
  fails : Nat := 0
  at_   : Nat := 0
  deriving DecidableEq, Repr

/-- A timed frame of a port (R530): its PTP sequence, and its launch instant in ns of GRID_TIME. -/
structure TimedFrame where
  seq    : Nat
  launch : Nat
  deriving DecidableEq, Repr

/-- An Ethernet port beside its registers: the next hops, the instants of its last ICMP answers on MONO in ns, newest first (R527), its
timed frames (R530), and the launch instant of its last Sync (R534). -/
structure EthRun where
  hops  : List ArpEntry := []
  icmp  : List Nat := []
  timed : List TimedFrame := []
  sync  : Option Nat := none
  deriving DecidableEq, Repr

/-- A telegram beside its registers (R531, R532): the sequence it sends next, and the stage and the range of the last capture. -/
structure TelRun where
  next : Option Nat := none
  cap  : Option (Nat × List Byte) := none
  deriving DecidableEq, Repr

/-- A master that a port hears (R533, R537): its last Announce, how often it was heard up to 2, and MONO at the last time. -/
structure Heard where
  ann   : Announce
  count : Nat := 1
  at_   : Nat := 0
  deriving DecidableEq, Repr

/-- The PTP clock beside its registers (R533 to R537): per port the masters heard, MONO when its announce timer last started, the message
sequence, and that a Pdelay_Req is unanswered; the parent's port identity; the servo's integral; the grandmaster last locked to; MONO at the last
Sync of the parent and at the entry to HOLDOVER; and, of the present state of GRID_TIME, that the next offset is the first one and how many offsets
in a row were within LOCK_NS, and beyond 4 × LOCK_NS. -/
structure PtpRun where
  heard    : Vector (List Heard) 2 := Vector.replicate 2 []
  timer    : Vector Nat 2 := Vector.replicate 2 0
  asked    : Vector Bool 2 := Vector.replicate 2 false
  syncAt   : Nat := 0
  holdAt   : Nat := 0
  seq      : Vector Nat 2 := Vector.replicate 2 0
  parent   : Option Nat := none
  integral : Int := 0
  lockedGm : Nat := 0
  first    : Bool := false
  good     : Nat := 0
  bad      : Nat := 0
  deriving DecidableEq, Repr

/-- A pending transmission (R542): its data, one-shot, and the frame that waits for its end. -/
structure CanTx where
  data    : List Byte
  oneShot : Bool
  /-- The controller's event at which it was queued (R543), and MONO then (R544). -/
  at_     : Nat := 0
  born    : Nat := 0
  next    : Option (List Byte × Bool) := none
  deriving DecidableEq, Repr

/-- A CAN controller beside its registers: the pending transmissions by object, the frames of the coming boundary's input set with their age
there, the starts of basic cycles since the last boundary with their age (R546, R551), that it follows another master (R550), the references so
far, the nominal cycles in a row (R551), MONO at the last reference (R550) and at the start of its recovery (R549), and by object MONO when it last
took a frame (R548), and the own references since the last boundary with their age (R463). -/
structure CanRun where
  tx      : List (Nat × CanTx) := []
  inbox   : List (CanFrame × Nat) := []
  starts  : List Nat := []
  follows : Bool := false
  refs    : Nat := 0
  nominal : Nat := 0
  refAt   : Nat := 0
  healAt  : Nat := 0
  taken   : List (Nat × Nat) := []
  told    : List (CanFrame × Nat) := []
  /-- The frames queued and the transmissions ended so far, the event of the last end, and whether a reply's segment waited then (R543). -/
  events  : Nat := 0
  lastEnd : Nat := 0
  reply   : Bool := false
  deriving DecidableEq, Repr

/-- The networks beside their registers, and the value of BUS_TIME at the start of the present basic cycle, in units of 2^-16 ns. -/
structure Net where
  eth     : Vector EthRun 2 := Vector.replicate 2 {}
  tel     : Vector TelRun 4 := Vector.replicate 4 {}
  ptp     : PtpRun := {}
  can     : Vector CanRun 2 := Vector.replicate 2 {}
  busFrom : Option Nat := none
  deriving DecidableEq, Repr

/-! ### The whole state -/

/-- Who raises a fault of the model: nobody. No command of this model stops the block; the type is closed and has one
constructor that no meaning answers with. Safe. -/
inductive Fault where
  /-- Never raised. Safe. -/
  | never
  deriving DecidableEq, Repr

/-- The refusals of the model. -/
inductive Refusal where
  /-- Raised by the dispatch for a command that has no meaning yet. Safe: nothing can be proved of a state after it. -/
  | notModelled (mnemonic : String)
  deriving DecidableEq, Repr

/-- The state of the block. -/
structure State where
  /-- The words of the object space that differ from their reset value (R11). -/
  regs    : List (Nat × Word) := []
  /-- The bytes of the memory window that are not 0 (R114). -/
  mem     : List Host.Cell := []
  power   : Power := {}
  flash   : Flash := {}
  sto     : Store := {}
  clk     : Clock := {}
  ses     : Vector Session 4 := Vector.replicate 4 {}
  canRx   : Vector (Option CanAsm) 2 := Vector.replicate 2 none
  /-- The replies that each CAN controller has still to send, each as the segments not yet sent (R151). -/
  canTx   : Vector (List CanReply) 2 := Vector.replicate 2 []
  mon     : MonRun := {}
  /-- The stage at whose boundary the last shadow set became active (R164). -/
  lastCommit : Option Nat := none
  /-- The session whose command was chosen last (R158), and the W1C bits that events have set since the last boundary and in the stage before it
  (R9). -/
  turn    : Fin 4 := 3
  seen    : List Fld := []
  seenOld : List Fld := []
  flt     : Faults := {}
  duo     : Duo := {}
  mod     : Modulator := {}
  drv     : DriveRun := {}
  meas    : Measure := {}
  therm   : Thermal := {}
  isl     : Island := {}
  net     : Net := {}
  /-- The words of the object space as of the last stage boundary (R108, R531, R542). -/
  atB     : List (Nat × Word) := []
  /-- What each cell holds beside its registers, by index, where it is not the default. -/
  cells   : List (Nat × CellRun) := []
  link    : Links := {}
  loop    : Loop := {}
  pol     : Policy := {}
  /-- What the last command sent or drove. -/
  out     : List Out := []
  /-- How many free values have been taken (the model's own field). -/
  free    : Nat := 0
  /-- The commands that wait, first in, first out. -/
  pending : List Instr := []
  deriving DecidableEq, Repr

/-- The machine right after reset: region Off, every register at the value of its field map's Reset column, memory with nothing
listed, an empty queue. -/
def State.reset : State := {}

end Sys2Proof.Machine
end

