-- ==== Sys2Proof/Machine/Crc.lean ====
section
/-! DEFINITION. The cyclic redundancy checks of the protocols (R148, R228, R469): reflected registers, one bit at a time. -/

namespace Sys2Proof.Machine

/-- One shift of a reflected CRC register with the reflected polynomial. -/
def crcShift (poly r : Nat) : Nat := if r % 2 = 1 then (r / 2) ^^^ poly else r / 2

/-- Eight shifts. -/
def crcByte (poly r : Nat) (b : Byte) : Nat :=
  crcShift poly (crcShift poly (crcShift poly (crcShift poly
    (crcShift poly (crcShift poly (crcShift poly (crcShift poly (r ^^^ b.toNat))))))))

/-- The register after the bytes. -/
def crcRun (poly : Nat) : Nat → List Byte → Nat
  | r, [] => r
  | r, b :: t => crcRun poly (crcByte poly r b) t

/-- CRC-32C with an initial register: polynomial 0x1EDC_6F41 reflected, final XOR 0xFFFF_FFFF (R148). -/
def crc32c (seed : Nat) (bs : List Byte) : Nat := crcRun 0x82F63B78 seed bs ^^^ 0xFFFFFFFF

/-- CRC-64 of ECMA-182, reflected, initial value and final XOR all ones (R469). -/
def crc64 (bs : List Byte) : Nat := crcRun 0xC96C5795D7870F42 0xFFFFFFFFFFFFFFFF bs ^^^ 0xFFFFFFFFFFFFFFFF

/-- One shift of the CRC-16 register: polynomial 0x1021, not reflected (R228). -/
def crc16Shift (r : Nat) : Nat := if 0x8000 ≤ r then ((r * 2) % 0x10000) ^^^ 0x1021 else r * 2

/-- Eight shifts of the CRC-16 register. -/
def crc16Byte (r : Nat) (b : Byte) : Nat :=
  crc16Shift (crc16Shift (crc16Shift (crc16Shift (crc16Shift (crc16Shift (crc16Shift (crc16Shift (r ^^^ (b.toNat * 256)))))))))

/-- CRC-16 with a seed (R228). -/
def crc16 : Nat → List Byte → Nat
  | r, [] => r
  | r, b :: t => crc16 (crc16Byte r b) t

end Sys2Proof.Machine
end

