-- ==== Sys2Proof/Config.lean ====
section
/-! DEFINITION. What the spec leaves to an implementation or leaves open: constants without a body, so that nothing can be
proved of their values. Each is named in the assumption log. -/

namespace Sys2Proof.Config

open Sys2Proof.Machine (Word Byte)

/-- A free word, one for each number it is applied to (log entry 2). -/
opaque freeWord : Nat → Word

/-- The identity of this module, by the word of ID_DEVICE it stands in (R134; log entry 3). -/
opaque identity : Nat → Word

/-- The Ethernet address of each port: its high and its low part (R553; log entry 3). -/
opaque macAddress : Nat → Nat

/-- The factory's calibration word of a converter or modulator for a gain, laid out as in MEAS_CAL (R445; log entry 75). -/
opaque factoryCal : (unit gain : Nat) → Word

/-- Whether an Ed25519 signature verifies over a message with a public key (RFC 8032, R131, R587, R589; log entry 4). -/
opaque ed25519 : (key message signature : List Byte) → Bool

/-- The public half of the vendor key fused into the controller die (R131; log entry 4). -/
opaque vendorKey : List Byte

/-- The rounding of an exact result of the cores to binary32, which the spec does not state (log entry 5). -/
opaque coreRound : Rat → Word

/-- Sine and cosine of an angle in turns, a square root and the circle number, as the cores compute them (log entry 5). -/
opaque sinTurn : Rat → Rat
opaque cosTurn : Rat → Rat
opaque sqrt : Rat → Rat
opaque pi : Rat

/-- One stage of a low-pass filter: its output, its input, and the stage period over its time constant (R340; log entry 5). -/
opaque lowPass : (output input ratio : Rat) → Rat

/-- One stage of a second-order generalised integrator: its two states, its input, its frequency in Hz and the stage period in s; the
new states, the second of which is the quadrature (R341; log entry 5). -/
opaque quadrature : (gen1 gen2 : Word) → (input freq ts : Rat) → Word × Word

/-- The observer's stage: its angle in turns and speed in rpm, from those of the last stage and v_α, v_β, i_α, i_β, RS, LD, LQ, PSI, the pole
pairs and the stage period in s (R405; log entry 5). -/
opaque observer : (theta rpm : Word) → (inputs : List Rat) → Word × Word

/-- The temperature in 0.1 °C of a thermistor whose divider reads a mean code, by the B equation (R407; log entry 6). -/
opaque ntcTemp : (code : Rat) → Int

/-- One offset of the servo of GRID_TIME: its integral and the offset in ns; the new integral and the correction of the rate in 2^-32 parts
(R535; log entry 7). -/
opaque servo : (integral : Int) → (offsetNs : Rat) → Int × Int

/-- The CRC-32C over the content of a configuration record, whose layout the spec does not state: its words by
address (R128; log entry 8). -/
opaque recordCrc : List (Nat × Word) → Word

/-- What the drive edge set, POL_STATE and the drive state put into the output digest: its instants, levels and gates, POL_STATE's first word and
DRV_STAT [31:29], as bytes whose layout the spec does not state (R469; log entry 31). -/
opaque driveDigest : (inst levels : List Nat) → (gates : Bool) → (polState : Word) → (drvState : Nat) → List Byte

/-- An entry of a CAN record: the controller, the frame's bytes and its age, laid out as the spec does not state (R463; log entry 31). -/
opaque canEntry : (controller : Nat) → (frame : List Byte) → (age : Nat) → List Byte

/-- The encoder flags of an HVS record, which the spec does not lay out (R463; log entry 31). -/
opaque encoderFlags : Nat → Nat

end Sys2Proof.Config
end

