-- ==== Sys2Proof/Machine/F32.lean ====
section
/-! DEFINITION. IEEE 754 binary32 (R5): the exact value of a pattern, and the pattern nearest to an exact value, ties to even. -/

namespace Sys2Proof.Machine

/-- The parts of a binary32 pattern. -/
def f32Sign (w : Word) : Bool := w.getLsbD 31
def f32Exp (w : Word) : Nat := w.toNat / 2 ^ 23 % 256
def f32Frac (w : Word) : Nat := w.toNat % 2 ^ 23

/-- A pattern that is not infinite and not a NaN. -/
def f32Finite (w : Word) : Bool := f32Exp w != 255

/-- A NaN. -/
def f32NaN (w : Word) : Bool := f32Exp w == 255 && f32Frac w != 0

/-- The magnitude of a finite pattern as a multiple of 2^-149. -/
def f32Mag (w : Word) : Nat :=
  if f32Exp w = 0 then f32Frac w else (2 ^ 23 + f32Frac w) * 2 ^ (f32Exp w - 1)

/-- The value of a finite pattern as a multiple of 2^-149. -/
def f32Scaled (w : Word) : Int := if f32Sign w then -(f32Mag w : Int) else (f32Mag w : Int)

/-- The exact value of a finite pattern; of another pattern it has no meaning and is 0. -/
def f32Rat (w : Word) : Rat := (f32Scaled w : Rat) / (2 ^ 149 : Nat)

/-- A quotient of two numbers rounded to the nearest integer, ties to even. -/
def roundHalfEven (n d : Nat) : Nat :=
  let q := n / d
  let r := n % d
  if 2 * r < d then q else if d < 2 * r then q + 1 else if q % 2 = 0 then q else q + 1

/-- The exponent of the leading bit of n / d, for n and d above 0. -/
def floorLog2 (n d : Nat) : Int :=
  let l : Int := (Nat.log2 n : Int) - (Nat.log2 d : Int)
  if l ≥ 0 then (if n < d * 2 ^ l.toNat then l - 1 else l)
  else (if n * 2 ^ (-l).toNat < d then l - 1 else l)

/-- The binary32 magnitude nearest to n / d, ties to even; infinity from the rounding threshold on. -/
def f32OfQuot (n d : Nat) : Nat :=
  if n = 0 then 0
  else
    let k : Int := max (-149) (floorLog2 n d - 23)
    let m := if k ≥ 0 then roundHalfEven n (d * 2 ^ k.toNat) else roundHalfEven (n * 2 ^ (-k).toNat) d
    let e := (k + 149).toNat
    let bits := if m < 2 ^ 23 then m else e * 2 ^ 23 + m
    min bits 0x7F800000

/-- The binary32 pattern nearest to an exact value; zero takes the sign given. -/
def f32OfRat (q : Rat) (negZero : Bool := false) : Word :=
  let m := f32OfQuot q.num.natAbs q.den
  BitVec.ofNat 32 (if q.num < 0 ∨ (q.num = 0 ∧ negZero) then 2 ^ 31 + m else m)

/-- A pattern as a real number: `none` where it is infinite or a NaN. -/
def f32Val (w : Word) : Option Rat := if f32Finite w then some (f32Rat w) else none

end Sys2Proof.Machine
end

