-- ==== Sys2Proof/Machine/ObjTable.lean ====
section
/-! DEFINITION. The object table (spec R6, R7, R8, R10, R11 and the field maps of chapters 02 to 17): every object with its
base, its indices (count and stride), its size in bytes, and every field with its bits, its access code, its value after a
full reset and the values a SET may give it. Bits of an object that no row lists are reserved (R10). A reset value the spec
marks X stands here as 0 (DESIGN CHOICE, log entry 1). -/

namespace Sys2Proof.Machine

def obj_ID_DEVICE : Obj := ⟨"ID_DEVICE", 0x00000000, [], 16, [
  ⟨"PART", 0, 31, 16, .ro, 20768, [], .any⟩,
  ⟨"CTRL_DIE_REV", 0, 15, 8, .ro, 0, [], .any⟩,
  ⟨"HV_DIE_REV", 0, 7, 0, .ro, 0, [], .any⟩,
  ⟨"SAFE_DIE_REV", 4, 7, 0, .ro, 0, [], .any⟩,
  ⟨"SERIAL_HI", 8, 31, 0, .ro, 0, [], .any⟩,
  ⟨"SERIAL_LO", 12, 31, 0, .ro, 0, [], .any⟩]⟩
def obj_ID_RESET_CAUSE : Obj := ⟨"ID_RESET_CAUSE", 0x00000400, [], 4, [
  ⟨"SUPPLY_OV", 0, 6, 6, .ro, 0, [], .any⟩,
  ⟨"FIRMWARE", 0, 5, 5, .ro, 0, [], .any⟩,
  ⟨"WATCHDOG", 0, 4, 4, .ro, 0, [], .any⟩,
  ⟨"THERMAL", 0, 3, 3, .ro, 0, [], .any⟩,
  ⟨"PIN", 0, 2, 2, .ro, 0, [], .any⟩,
  ⟨"KEEPALIVE", 0, 1, 1, .ro, 0, [], .any⟩,
  ⟨"POR", 0, 0, 0, .ro, 0, [], .any⟩]⟩
def obj_ID_SUPPLY_STAT : Obj := ⟨"ID_SUPPLY_STAT", 0x00000404, [], 4, [
  ⟨"VIN_MV", 0, 31, 16, .ro, 0, [], .any⟩,
  ⟨"VGD_DV", 0, 15, 8, .ro, 0, [], .any⟩,
  ⟨"VGD_OK", 0, 3, 3, .ro, 0, [], .any⟩,
  ⟨"OV_SEEN", 0, 2, 2, .w1c, 0, [], .any⟩,
  ⟨"BROWNOUT_SEEN", 0, 1, 1, .w1c, 0, [], .any⟩,
  ⟨"FULL_OP", 0, 0, 0, .ro, 1, [], .any⟩]⟩
def obj_ID_VIO_STAT : Obj := ⟨"ID_VIO_STAT", 0x00000408, [], 4, [
  ⟨"FAULT_SEEN0", 0, 2, 2, .w1c, 0, [], .any⟩,
  ⟨"CLASS0", 0, 1, 0, .ro, 0, [], .any⟩,
  ⟨"FAULT_SEEN1", 0, 6, 6, .w1c, 0, [], .any⟩,
  ⟨"CLASS1", 0, 5, 4, .ro, 0, [], .any⟩,
  ⟨"FAULT_SEEN2", 0, 10, 10, .w1c, 0, [], .any⟩,
  ⟨"CLASS2", 0, 9, 8, .ro, 0, [], .any⟩,
  ⟨"FAULT_SEEN3", 0, 14, 14, .w1c, 0, [], .any⟩,
  ⟨"CLASS3", 0, 13, 12, .ro, 0, [], .any⟩]⟩
def obj_ID_STRAP : Obj := ⟨"ID_STRAP", 0x0000040C, [], 4, [
  ⟨"ROLE", 0, 3, 2, .ro, 0, [], .any⟩,
  ⟨"ROLE01_PAD", 0, 1, 1, .ro, 0, [], .any⟩,
  ⟨"ROLE00_PAD", 0, 0, 0, .ro, 0, [], .any⟩]⟩
def obj_ID_KEEPALIVE_CNT : Obj := ⟨"ID_KEEPALIVE_CNT", 0x00000410, [], 4, [
  ⟨"COUNT", 0, 31, 0, .ro, 0, [], .any⟩]⟩
def obj_ID_BOOT_COUNT : Obj := ⟨"ID_BOOT_COUNT", 0x00000414, [], 4, [
  ⟨"COUNT", 0, 31, 0, .ro, 0, [], .any⟩]⟩
def obj_ID_UPTIME : Obj := ⟨"ID_UPTIME", 0x00000420, [], 16, [
  ⟨"RESTART_HI", 0, 31, 0, .ro, 0, [], .any⟩,
  ⟨"RESTART_LO", 4, 31, 0, .ro, 0, [], .any⟩,
  ⟨"COLD_HI", 8, 31, 0, .ro, 0, [], .any⟩,
  ⟨"COLD_LO", 12, 31, 0, .ro, 0, [], .any⟩]⟩
def obj_LC_STATE : Obj := ⟨"LC_STATE", 0x00000800, [], 4, [
  ⟨"CHANGE_COUNT", 0, 31, 16, .ro, 0, [], .any⟩,
  ⟨"CONFIG_DIRTY", 0, 9, 9, .ro, 0, [], .any⟩,
  ⟨"SECRETS_PRESENT", 0, 8, 8, .ro, 0, [], .any⟩,
  ⟨"CHANGE_BUSY", 0, 7, 7, .ro, 0, [], .any⟩,
  ⟨"STATE", 0, 2, 0, .ro, 0, [], .any⟩]⟩
def obj_LC_CHALLENGE : Obj := ⟨"LC_CHALLENGE", 0x00000810, [(8, 4)], 4, [
  ⟨"NONCE", 0, 31, 0, .ro, 0, [], .any⟩]⟩
def obj_ID_FW_STAT : Obj := ⟨"ID_FW_STAT", 0x00000C00, [(2, 8)], 8, [
  ⟨"STATE", 0, 31, 29, .ro, 0, [], .any⟩,
  ⟨"BOOTED", 0, 28, 28, .ro, 0, [], .any⟩,
  ⟨"TRIAL_STARTS", 0, 27, 26, .ro, 0, [], .any⟩,
  ⟨"ROLLBACK", 0, 15, 0, .ro, 0, [], .any⟩,
  ⟨"VERSION", 4, 31, 0, .ro, 0, [], .any⟩]⟩
def obj_ID_FW_ROLLBACK : Obj := ⟨"ID_FW_ROLLBACK", 0x00000C10, [], 8, [
  ⟨"ROLLBACK_MIN", 0, 31, 16, .ro, 0, [], .any⟩,
  ⟨"FIRMWARE_ID", 4, 31, 0, .ro, 0, [], .any⟩]⟩
def obj_CLK_STAT : Obj := ⟨"CLK_STAT", 0x01000000, [], 4, [
  ⟨"LOST_SEEN", 0, 15, 12, .w1c, 0, [], .any⟩,
  ⟨"RAMP_LANE", 0, 9, 9, .ro, 0, [], .any⟩,
  ⟨"RAMP_SYS", 0, 8, 8, .ro, 0, [], .any⟩,
  ⟨"HOLDOVER", 0, 7, 7, .ro, 0, [], .any⟩,
  ⟨"XIN_OK", 0, 6, 6, .ro, 0, [], .any⟩,
  ⟨"SAFE_CLK", 0, 5, 5, .ro, 1, [], .any⟩,
  ⟨"LKF_OPEN", 0, 4, 4, .ro, 0, [], .any⟩,
  ⟨"LOCKED", 0, 3, 0, .ro, 0, [], .any⟩]⟩
def obj_CLK_LKF : Obj := ⟨"CLK_LKF", 0x01000004, [], 4, [
  ⟨"LKF_SYS_MV", 0, 31, 16, .ro, 0, [], .any⟩,
  ⟨"LKF_LANE_MV", 0, 15, 0, .ro, 0, [], .any⟩]⟩
def obj_CLK_SYS_TARGET : Obj := ⟨"CLK_SYS_TARGET", 0x01000008, [], 4, [
  ⟨"OFFSET_PPM", 0, 17, 0, .sh, 0, [], .s (-100000) 0⟩]⟩
def obj_CLK_SYS_NOW : Obj := ⟨"CLK_SYS_NOW", 0x0100000C, [], 4, [
  ⟨"CORE_DIV", 0, 29, 28, .ro, 0, [], .any⟩,
  ⟨"OFFSET_PPM", 0, 17, 0, .ro, 0, [], .any⟩]⟩
def obj_CLK_LANE_SPREAD : Obj := ⟨"CLK_LANE_SPREAD", 0x01000010, [], 4, [
  ⟨"FMOD", 0, 29, 21, .sh, 200, [], .u 200 330⟩,
  ⟨"DEPTH", 0, 20, 8, .sh, 1000, [], .u 1000 5000⟩,
  ⟨"EN", 0, 0, 0, .sh, 0, [], .any⟩]⟩
def obj_CLK_DITHER_SEED : Obj := ⟨"CLK_DITHER_SEED", 0x01000014, [], 4, [
  ⟨"SEED", 0, 15, 0, .sh, 44257, [], .u 1 65535⟩]⟩
def obj_CLK_STAGE_PERIOD : Obj := ⟨"CLK_STAGE_PERIOD", 0x01000018, [], 4, [
  ⟨"TS", 0, 12, 0, .sh, 500, [], .u 250 5000⟩]⟩
def obj_CLK_LANE_REF : Obj := ⟨"CLK_LANE_REF", 0x0100001C, [], 4, [
  ⟨"SOURCE", 0, 1, 0, .ro, 0, [], .any⟩]⟩
def obj_CLK_EVENTS : Obj := ⟨"CLK_EVENTS", 0x01000020, [], 4, [
  ⟨"XIN_LOST", 0, 31, 24, .ro, 0, [], .any⟩,
  ⟨"SAFE_SWITCH", 0, 23, 16, .ro, 0, [], .any⟩,
  ⟨"LANE_UNLOCK", 0, 15, 8, .ro, 0, [], .any⟩,
  ⟨"SYS_UNLOCK", 0, 7, 0, .ro, 0, [], .any⟩]⟩
def obj_CLK_RAMP : Obj := ⟨"CLK_RAMP", 0x01000100, [(2, 0x100)], 4, [
  ⟨"SLOPE_LIMIT", 0, 31, 16, .sh, 1000, [], .any⟩,
  ⟨"ABORT", 0, 10, 10, .wo, 0, [], .any⟩,
  ⟨"START", 0, 9, 9, .wo, 0, [], .any⟩,
  ⟨"REPEAT", 0, 8, 8, .sh, 0, [], .any⟩,
  ⟨"SEG_COUNT", 0, 4, 0, .sh, 1, [], .u 1 16⟩]⟩
def obj_CLK_RAMP_STAT : Obj := ⟨"CLK_RAMP_STAT", 0x01000104, [(2, 0x100)], 4, [
  ⟨"CUR_SEG", 0, 23, 20, .ro, 0, [], .any⟩,
  ⟨"CUR_OFFSET", 0, 17, 0, .ro, 0, [], .any⟩]⟩
def obj_CLK_RAMP_SEG : Obj := ⟨"CLK_RAMP_SEG", 0x01000110, [(2, 0x100), (16, 8)], 8, [
  ⟨"END_OFFSET", 0, 31, 0, .sh, 0, [], .any⟩,
  ⟨"SLOPE", 4, 31, 16, .sh, 0, [], .any⟩,
  ⟨"HOLD", 4, 15, 0, .sh, 0, [], .any⟩]⟩
def obj_CLK_STAGE_COUNT : Obj := ⟨"CLK_STAGE_COUNT", 0x01001000, [], 8, [
  ⟨"COUNT_HI", 0, 15, 0, .ro, 0, [], .any⟩,
  ⟨"COUNT_LO", 4, 31, 0, .ro, 0, [], .any⟩]⟩
def obj_TIME_BASE : Obj := ⟨"TIME_BASE", 0x01002000, [(4, 0x10)], 16, [
  ⟨"SECONDS_HI", 0, 31, 0, .ro, 0, [], .any⟩,
  ⟨"SECONDS_LO", 4, 31, 0, .ro, 0, [], .any⟩,
  ⟨"NANOSECONDS", 8, 31, 0, .ro, 0, [], .any⟩,
  ⟨"FRACTION", 12, 31, 16, .ro, 0, [], .any⟩,
  ⟨"HOLDOVER", 12, 2, 2, .ro, 0, [], .any⟩,
  ⟨"SYNCED", 12, 1, 1, .ro, 0, [], .any⟩]⟩
def obj_TIME_STAGE_STAMP : Obj := ⟨"TIME_STAGE_STAMP", 0x01002040, [], 8, [
  ⟨"STAGE_HI", 0, 31, 0, .ro, 0, [], .any⟩,
  ⟨"STAGE_LO", 4, 31, 0, .ro, 0, [], .any⟩]⟩
def obj_TIME_STAMP_BASE : Obj := ⟨"TIME_STAMP_BASE", 0x01002048, [(4, 0x10)], 16, [
  ⟨"SECONDS_HI", 0, 31, 0, .ro, 0, [], .any⟩,
  ⟨"SECONDS_LO", 4, 31, 0, .ro, 0, [], .any⟩,
  ⟨"NANOSECONDS", 8, 31, 0, .ro, 0, [], .any⟩,
  ⟨"FRACTION", 12, 31, 16, .ro, 0, [], .any⟩,
  ⟨"HOLDOVER", 12, 2, 2, .ro, 0, [], .any⟩,
  ⟨"SYNCED", 12, 1, 1, .ro, 0, [], .any⟩]⟩
def obj_TIME_GRID_CTRL : Obj := ⟨"TIME_GRID_CTRL", 0x01002100, [], 4, [
  ⟨"STEP_US", 0, 31, 16, .sh, 100, [], .u 1 65535⟩,
  ⟨"NO_STEP_IN_RUN", 0, 15, 15, .sh, 0, [], .any⟩,
  ⟨"SLEW_PPM", 0, 9, 0, .sh, 200, [], .u 1 500⟩]⟩
def obj_TIME_GRID_STAT : Obj := ⟨"TIME_GRID_STAT", 0x01002104, [], 4, [
  ⟨"STEP_COUNT", 0, 31, 16, .ro, 0, [], .any⟩,
  ⟨"STATE", 0, 2, 0, .ro, 0, [], .any⟩]⟩
def obj_TIME_GRID_OFFSET : Obj := ⟨"TIME_GRID_OFFSET", 0x01002108, [], 4, [
  ⟨"OFFSET_NS", 0, 31, 0, .ro, 0, [], .any⟩]⟩
def obj_MEM_STAT : Obj := ⟨"MEM_STAT", 0x02000000, [], 4, [
  ⟨"BANK_FAIL", 0, 15, 15, .ro, 0, [], .any⟩,
  ⟨"SPARE_ROWS_USED", 0, 9, 0, .ro, 0, [], .any⟩]⟩
def obj_MEM_ECC_CNT : Obj := ⟨"MEM_ECC_CNT", 0x02000004, [], 8, [
  ⟨"CE", 0, 31, 0, .ro, 0, [], .any⟩,
  ⟨"UE", 4, 31, 0, .ro, 0, [], .any⟩]⟩
def obj_MEM_ECC_LAST : Obj := ⟨"MEM_ECC_LAST", 0x0200000C, [], 4, [
  ⟨"KIND", 0, 31, 31, .ro, 0, [], .any⟩,
  ⟨"REGION", 0, 30, 29, .ro, 0, [], .any⟩,
  ⟨"WORD", 0, 23, 0, .ro, 0, [], .any⟩]⟩
def obj_MEM_MARCH_CTRL : Obj := ⟨"MEM_MARCH_CTRL", 0x02000010, [], 4, [
  ⟨"BG_EN", 0, 0, 0, .sh, 1, [], .any⟩]⟩
def obj_MEM_MARCH_STAT : Obj := ⟨"MEM_MARCH_STAT", 0x02000014, [], 4, [
  ⟨"PASS_COUNT", 0, 31, 16, .ro, 0, [], .any⟩,
  ⟨"BANK", 0, 15, 10, .ro, 0, [], .any⟩,
  ⟨"RUNNING", 0, 9, 9, .ro, 0, [], .any⟩,
  ⟨"FAIL_SEEN", 0, 8, 8, .w1c, 0, [], .any⟩]⟩
def obj_MEM_MARCH_FAIL : Obj := ⟨"MEM_MARCH_FAIL", 0x02000018, [], 4, [
  ⟨"BANK", 0, 29, 24, .ro, 0, [], .any⟩,
  ⟨"ROW", 0, 23, 14, .ro, 0, [], .any⟩,
  ⟨"WORD", 0, 7, 0, .ro, 0, [], .any⟩]⟩
def obj_MEM_TAMPER_STAT : Obj := ⟨"MEM_TAMPER_STAT", 0x02000020, [], 4, [
  ⟨"WIPE_COUNT", 0, 31, 16, .ro, 0, [], .any⟩,
  ⟨"SEEN", 0, 7, 4, .w1c, 0, [], .any⟩,
  ⟨"WIPING", 0, 2, 2, .ro, 0, [], .any⟩,
  ⟨"LID_NOW", 0, 1, 1, .ro, 0, [], .any⟩,
  ⟨"TAMP_NOW", 0, 0, 0, .ro, 0, [], .any⟩]⟩
def obj_MEM_LOGBOOK_STAT : Obj := ⟨"MEM_LOGBOOK_STAT", 0x02000030, [], 12, [
  ⟨"FROZEN", 0, 31, 31, .ro, 0, [], .any⟩,
  ⟨"POST_RUNNING", 0, 30, 30, .ro, 0, [], .any⟩,
  ⟨"NEWEST_SLOT", 0, 12, 0, .ro, 0, [], .any⟩,
  ⟨"TRIGGER_SLOT", 4, 12, 0, .ro, 0, [], .any⟩,
  ⟨"POST_COUNT", 8, 11, 0, .ro, 0, [], .any⟩]⟩
def obj_MEM_SNAP : Obj := ⟨"MEM_SNAP", 0x02000100, [(4, 0x10)], 16, [
  ⟨"VALID", 0, 31, 31, .ro, 0, [], .any⟩,
  ⟨"COPYING", 0, 30, 30, .ro, 0, [], .any⟩,
  ⟨"LENGTH", 0, 18, 0, .ro, 0, [], .any⟩,
  ⟨"STAGE_HI", 4, 15, 0, .ro, 0, [], .any⟩,
  ⟨"STAGE_LO", 8, 31, 0, .ro, 0, [], .any⟩,
  ⟨"BOOT", 12, 31, 16, .ro, 0, [], .any⟩]⟩
def obj_CMD_CFG : Obj := ⟨"CMD_CFG", 0x03000000, [], 4, [
  ⟨"IDLE_S", 0, 31, 16, .sh, 10, [], .u 1 600⟩,
  ⟨"CANB_EN", 0, 4, 4, .sh, 0, [], .any⟩,
  ⟨"CANA_EN", 0, 3, 3, .sh, 0, [], .any⟩,
  ⟨"ETHB_EN", 0, 2, 2, .sh, 1, [], .any⟩,
  ⟨"ETHA_EN", 0, 1, 1, .sh, 1, [], .any⟩]⟩
def obj_CMD_CAN_PATH : Obj := ⟨"CMD_CAN_PATH", 0x03000010, [(2, 8)], 8, [
  ⟨"REQ_IDE", 0, 31, 31, .sh, 0, [], .any⟩,
  ⟨"REQ_ID", 0, 28, 0, .sh, 1696, [(1, 1697)], .any⟩,
  ⟨"RSP_IDE", 4, 31, 31, .sh, 0, [], .any⟩,
  ⟨"RSP_ID", 4, 28, 0, .sh, 1704, [(1, 1705)], .any⟩]⟩
def obj_CMD_SESSION : Obj := ⟨"CMD_SESSION", 0x03000100, [(4, 0x20)], 28, [
  ⟨"OPEN", 0, 31, 31, .ro, 0, [], .any⟩,
  ⟨"PATH", 0, 30, 28, .ro, 0, [], .any⟩,
  ⟨"OUTSTANDING", 0, 6, 0, .ro, 0, [], .any⟩,
  ⟨"BASE_SEQ", 4, 31, 0, .ro, 0, [], .any⟩,
  ⟨"SOURCE_IP", 8, 31, 0, .ro, 0, [], .any⟩,
  ⟨"SOURCE_PORT", 12, 31, 16, .ro, 0, [], .any⟩,
  ⟨"IDLE", 12, 15, 0, .ro, 0, [], .any⟩,
  ⟨"GAP_COUNT", 16, 31, 16, .ro, 0, [], .any⟩,
  ⟨"SHADOW_COUNT", 16, 15, 0, .ro, 0, [], .any⟩,
  ⟨"ACCEPTED", 20, 31, 0, .ro, 0, [], .any⟩,
  ⟨"DUPLICATE", 24, 31, 0, .ro, 0, [], .any⟩]⟩
def obj_CMD_PATH_STAT : Obj := ⟨"CMD_PATH_STAT", 0x03000200, [(5, 0x10)], 16, [
  ⟨"NOT_PACKET", 0, 31, 0, .ro, 0, [], .any⟩,
  ⟨"CRC_FAILED", 4, 31, 0, .ro, 0, [], .any⟩,
  ⟨"REPLY_DROPPED", 8, 31, 0, .ro, 0, [], .any⟩,
  ⟨"CREDIT_EXCEEDED", 12, 31, 0, .ro, 0, [], .any⟩]⟩
def obj_CMD_MON_CFG : Obj := ⟨"CMD_MON_CFG", 0x03000300, [], 4, [
  ⟨"BAUD", 0, 3, 0, .sh, 3, [], .u 0 5⟩]⟩
def obj_CMD_MON_STAT : Obj := ⟨"CMD_MON_STAT", 0x03000310, [], 16, [
  ⟨"UNLOCKED", 0, 31, 31, .ro, 0, [], .any⟩,
  ⟨"BREAK_SEEN", 0, 30, 30, .w1c, 0, [], .any⟩,
  ⟨"RECOVERY", 0, 29, 29, .ro, 0, [], .any⟩,
  ⟨"LOCK_IN_S", 0, 15, 0, .ro, 0, [], .any⟩,
  ⟨"UNLOCKS", 4, 31, 16, .ro, 0, [], .any⟩,
  ⟨"AUTH_FAILS", 4, 15, 0, .ro, 0, [], .any⟩,
  ⟨"FRAMING_ERR", 8, 31, 0, .ro, 0, [], .any⟩,
  ⟨"TX_DROPPED", 12, 31, 0, .ro, 0, [], .any⟩]⟩
def obj_ROUTE_TABLE : Obj := ⟨"ROUTE_TABLE", 0x04000000, [], 4, [
  ⟨"PAIRED", 0, 31, 31, .sh, 0, [], .any⟩,
  ⟨"TOTAL_CELLS", 0, 9, 0, .ro, 0, [], .any⟩]⟩
def obj_LANE_GLOBAL : Obj := ⟨"LANE_GLOBAL", 0x04000010, [], 4, [
  ⟨"MERGE_MS", 0, 31, 16, .sh, 100, [], .u 10 60000⟩,
  ⟨"HOLD", 0, 3, 0, .sh, 4, [], .u 1 8⟩]⟩
def obj_ROUTE_CFG : Obj := ⟨"ROUTE_CFG", 0x04000100, [(24, 0x10)], 8, [
  ⟨"EN", 0, 31, 31, .sh, 0, [], .any⟩,
  ⟨"CELL_COUNT", 0, 5, 0, .sh, 0, [], .u 0 32⟩,
  ⟨"FIRST_INDEX", 4, 9, 0, .ro, 0, [], .any⟩]⟩
def obj_ROUTE_STAT : Obj := ⟨"ROUTE_STAT", 0x04000400, [(24, 0x10)], 12, [
  ⟨"STATE", 0, 31, 29, .ro, 0, [], .any⟩,
  ⟨"HOPS_OUT", 0, 23, 18, .ro, 0, [], .any⟩,
  ⟨"HOPS_RET", 0, 17, 12, .ro, 0, [], .any⟩,
  ⟨"RING_CLOSED", 0, 11, 11, .ro, 0, [], .any⟩,
  ⟨"REFUSE_CAUSE", 0, 10, 8, .ro, 0, [], .any⟩,
  ⟨"MISMATCH", 0, 5, 0, .ro, 0, [], .any⟩,
  ⟨"TRAIN_COUNT", 4, 31, 16, .ro, 0, [], .any⟩,
  ⟨"TRAINED_STAGE", 8, 31, 0, .ro, 0, [], .any⟩]⟩
def obj_ROUTE_RUN : Obj := ⟨"ROUTE_RUN", 0x04000600, [(24, 0x10)], 16, [
  ⟨"REACH_OUT", 0, 31, 26, .ro, 0, [], .any⟩,
  ⟨"REACH_RET", 0, 25, 20, .ro, 0, [], .any⟩,
  ⟨"CLOSED", 0, 19, 19, .ro, 0, [], .any⟩,
  ⟨"RELAY", 0, 18, 18, .ro, 0, [], .any⟩,
  ⟨"SPLIT_COUNT", 4, 31, 16, .ro, 0, [], .any⟩,
  ⟨"CLOSE_COUNT", 4, 15, 0, .ro, 0, [], .any⟩,
  ⟨"RETURN_MISS", 8, 31, 0, .ro, 0, [], .any⟩,
  ⟨"CHANGE_STAGE", 12, 31, 0, .ro, 0, [], .any⟩]⟩
def obj_ARM_CFG : Obj := ⟨"ARM_CFG", 0x04000800, [(24, 8)], 8, [
  ⟨"EN", 0, 31, 31, .sh, 0, [], .any⟩,
  ⟨"PHASE", 0, 25, 24, .sh, 0, [], .u 0 2⟩,
  ⟨"GROUP", 0, 20, 16, .sh, 0, [], .u 0 23⟩,
  ⟨"MIN_ACTIVE", 0, 6, 0, .sh, 0, [], .any⟩,
  ⟨"POSITIONS", 4, 25, 19, .ro, 0, [], .any⟩,
  ⟨"ACTIVE", 4, 18, 12, .ro, 0, [], .any⟩,
  ⟨"SPARE", 4, 11, 5, .ro, 0, [], .any⟩]⟩
def obj_LANE_CFG : Obj := ⟨"LANE_CFG", 0x04001000, [(50, 0x40)], 4, [
  ⟨"DEEMPH", 0, 7, 5, .sh, 0, [], .u 0 6⟩,
  ⟨"SWING", 0, 3, 0, .sh, 10, [], .any⟩]⟩
def obj_LANE_STAT : Obj := ⟨"LANE_STAT", 0x04001010, [(50, 0x40)], 4, [
  ⟨"LOCKED", 0, 31, 31, .ro, 0, [], .any⟩,
  ⟨"LOS", 0, 30, 30, .ro, 1, [], .any⟩,
  ⟨"CDR_LOCK", 0, 29, 29, .ro, 0, [], .any⟩,
  ⟨"BLOCK_LOCK", 0, 28, 28, .ro, 0, [], .any⟩,
  ⟨"UP", 0, 27, 27, .ro, 0, [], .any⟩,
  ⟨"USE", 0, 23, 20, .ro, 0, [], .any⟩,
  ⟨"LOL_SEEN", 0, 1, 1, .w1c, 0, [], .any⟩,
  ⟨"LOS_SEEN", 0, 0, 0, .w1c, 0, [], .any⟩]⟩
def obj_LANE_CNT : Obj := ⟨"LANE_CNT", 0x04001020, [(50, 0x40)], 16, [
  ⟨"LOCK_LOSS", 0, 31, 0, .ro, 0, [], .any⟩,
  ⟨"HEADER_ERR", 4, 31, 0, .ro, 0, [], .any⟩,
  ⟨"CRC_ERR", 8, 31, 0, .ro, 0, [], .any⟩,
  ⟨"LATE", 12, 31, 0, .ro, 0, [], .any⟩]⟩
def obj_CELL_ID : Obj := ⟨"CELL_ID", 0x05000000, [(512, 0x100)], 16, [
  ⟨"SERIAL_HI", 0, 31, 0, .sh, 0, [], .any⟩,
  ⟨"SERIAL_LO", 4, 31, 0, .sh, 0, [], .any⟩,
  ⟨"ROLE", 8, 31, 31, .sh, 0, [], .any⟩,
  ⟨"ARM", 8, 12, 8, .sh, 0, [], .u 0 23⟩,
  ⟨"ARM_POS", 8, 5, 0, .sh, 0, [], .any⟩,
  ⟨"FITTED", 12, 15, 15, .ro, 0, [], .any⟩,
  ⟨"ROUTE", 12, 12, 8, .ro, 0, [], .any⟩,
  ⟨"HOP", 12, 4, 0, .ro, 0, [], .any⟩]⟩
def obj_CELL_LINK : Obj := ⟨"CELL_LINK", 0x05000010, [(512, 0x100)], 16, [
  ⟨"ANSWERING", 0, 31, 31, .ro, 0, [], .any⟩,
  ⟨"MISMATCH", 0, 30, 30, .ro, 0, [], .any⟩,
  ⟨"ABSENT", 0, 29, 29, .ro, 0, [], .any⟩,
  ⟨"REACHED_FROM", 0, 28, 27, .ro, 0, [], .any⟩,
  ⟨"DELAY_OUT", 4, 31, 16, .ro, 65535, [], .any⟩,
  ⟨"DELAY_RET", 4, 15, 0, .ro, 65535, [], .any⟩,
  ⟨"FOUND_SERIAL_HI", 8, 31, 0, .ro, 0, [], .any⟩,
  ⟨"FOUND_SERIAL_LO", 12, 31, 0, .ro, 0, [], .any⟩]⟩
def obj_CELL_LEDGER : Obj := ⟨"CELL_LEDGER", 0x05000020, [(512, 0x100)], 32, [
  ⟨"UDC", 0, 31, 16, .ro, 0, [], .any⟩,
  ⟨"IAC", 0, 15, 0, .ro, 0, [], .any⟩,
  ⟨"IDAB", 4, 31, 16, .ro, 0, [], .any⟩,
  ⟨"TEMP0", 4, 15, 0, .ro, 0, [], .any⟩,
  ⟨"TEMP1", 8, 31, 16, .ro, 0, [], .any⟩,
  ⟨"TEMP2", 8, 15, 0, .ro, 0, [], .any⟩,
  ⟨"TRIP", 12, 31, 16, .ro, 0, [], .any⟩,
  ⟨"SEQ_ECHO", 12, 15, 0, .ro, 0, [], .any⟩,
  ⟨"DIGEST", 16, 31, 0, .ro, 0, [], .any⟩,
  ⟨"STATE", 20, 31, 24, .ro, 0, [], .any⟩,
  ⟨"LINK", 20, 23, 16, .ro, 0, [], .any⟩,
  ⟨"PARCEL", 20, 15, 0, .ro, 0, [], .any⟩,
  ⟨"STATUS", 24, 31, 29, .ro, 4, [], .any⟩,
  ⟨"COPY", 24, 28, 28, .ro, 0, [], .any⟩,
  ⟨"MISSING", 24, 15, 0, .ro, 0, [], .any⟩,
  ⟨"MODE_SENT", 28, 31, 28, .ro, 1, [], .any⟩,
  ⟨"BYPASS_SENT", 28, 23, 16, .ro, 0, [], .any⟩,
  ⟨"ILIM_SENT", 28, 15, 0, .ro, 0, [], .any⟩]⟩
def obj_CELL_SVC : Obj := ⟨"CELL_SVC", 0x05000040, [(512, 0x100)], 64, [
  ⟨"STATE", 0, 31, 29, .ro, 0, [], .any⟩,
  ⟨"READY", 0, 28, 28, .ro, 0, [], .any⟩,
  ⟨"RELEASE", 0, 27, 27, .wo, 0, [], .any⟩,
  ⟨"TAKE_OUT", 0, 26, 26, .wo, 0, [], .any⟩,
  ⟨"CAUSE", 0, 23, 16, .ro, 0, [], .any⟩,
  ⟨"FOR_POS", 0, 13, 8, .ro, 0, [], .any⟩,
  ⟨"FOR_VALID", 0, 7, 7, .ro, 0, [], .any⟩,
  ⟨"CHANGE_STAGE", 4, 31, 0, .ro, 0, [], .any⟩,
  ⟨"BYPASS_COUNT", 8, 31, 16, .ro, 0, [], .any⟩,
  ⟨"INSERT_COUNT", 8, 15, 0, .ro, 0, [], .any⟩,
  ⟨"DAB_SP", 12, 31, 0, .ro, 0, [], .any⟩,
  ⟨"VSHARE", 16, 31, 0, .ro, 0, [], .any⟩]⟩
def obj_CELL_THERM : Obj := ⟨"CELL_THERM", 0x05000080, [(512, 0x100)], 16, [
  ⟨"F_C", 0, 31, 28, .ro, 8, [], .any⟩,
  ⟨"LEVEL0", 0, 27, 26, .ro, 0, [], .any⟩,
  ⟨"LEVEL1", 0, 25, 24, .ro, 0, [], .any⟩,
  ⟨"LEVEL2", 0, 23, 22, .ro, 0, [], .any⟩,
  ⟨"SHUTDOWN_SEEN", 0, 21, 21, .w1c, 0, [], .any⟩,
  ⟨"HOT", 0, 15, 0, .ro, 0, [], .any⟩,
  ⟨"STEPS_DOWN", 4, 31, 16, .ro, 0, [], .any⟩,
  ⟨"STEPS_UP", 4, 15, 0, .ro, 0, [], .any⟩,
  ⟨"LAST_STAGE", 8, 31, 0, .ro, 0, [], .any⟩]⟩
def obj_CELL_CAP : Obj := ⟨"CELL_CAP", 0x05000090, [(512, 0x100)], 16, [
  ⟨"C_EST", 0, 31, 0, .ro, 0, [], .any⟩,
  ⟨"RATIO", 4, 31, 16, .ro, 0, [], .any⟩,
  ⟨"LOW_RUN", 4, 15, 8, .ro, 0, [], .any⟩,
  ⟨"SERVICE", 4, 1, 1, .w1c, 0, [], .any⟩,
  ⟨"WATCH", 4, 0, 0, .w1c, 0, [], .any⟩,
  ⟨"WINDOWS", 8, 31, 0, .ro, 0, [], .any⟩,
  ⟨"LAST_STAGE", 12, 31, 0, .ro, 0, [], .any⟩]⟩
def obj_CELL_PARCEL : Obj := ⟨"CELL_PARCEL", 0x050000A0, [(512, 0x100)], 16, [
  ⟨"STATE", 0, 31, 29, .ro, 0, [], .any⟩,
  ⟨"TAG", 0, 15, 0, .ro, 0, [], .any⟩,
  ⟨"DN_DONE", 4, 31, 16, .ro, 0, [], .any⟩,
  ⟨"UP_DONE", 4, 15, 0, .ro, 0, [], .any⟩,
  ⟨"NAK_COUNT", 8, 31, 16, .ro, 0, [], .any⟩,
  ⟨"TIMEOUT_COUNT", 8, 15, 0, .ro, 0, [], .any⟩,
  ⟨"RESEND_COUNT", 12, 31, 16, .ro, 0, [], .any⟩]⟩
def obj_MOD_CFG : Obj := ⟨"MOD_CFG", 0x06000000, [], 12, [
  ⟨"DAB_Q", 0, 21, 16, .sh, 4, [], .u 1 63⟩,
  ⟨"AC_NC", 0, 9, 0, .sh, 40, [], .u 2 1000⟩,
  ⟨"ZSI", 4, 31, 31, .sh, 0, [], .any⟩,
  ⟨"DAB_ILV", 4, 30, 30, .sh, 0, [], .any⟩,
  ⟨"DRV_N", 4, 9, 0, .sh, 50, [], .u 2 1000⟩,
  ⟨"PHI_MAX", 8, 30, 16, .sh, 8192, [], .u 1 16384⟩,
  ⟨"PHI_SLEW", 8, 14, 0, .sh, 512, [], .u 1 16384⟩]⟩
def obj_MOD_STAT : Obj := ⟨"MOD_STAT", 0x06000010, [], 8, [
  ⟨"SAFE", 0, 31, 31, .ro, 0, [], .any⟩,
  ⟨"SAFE_CAUSE", 0, 30, 28, .ro, 0, [], .any⟩,
  ⟨"CUT_MARGIN", 0, 15, 0, .ro, 0, [], .any⟩,
  ⟨"MISSED", 4, 31, 0, .ro, 0, [], .any⟩]⟩
def obj_MOD_GROUP : Obj := ⟨"MOD_GROUP", 0x06000100, [(5, 0x10)], 8, [
  ⟨"TMIN", 0, 27, 16, .sh, 1600, [(0, 800), (1, 320), (2, 320)], .z 16 4000⟩,
  ⟨"DT", 0, 11, 0, .sh, 0, [(0, 400), (1, 160), (2, 160), (3, 800)], .at4 16 4000⟩,
  ⟨"REFRESH_EN", 4, 31, 31, .sh, 0, [(3, 1)], .at4 0 1⟩,
  ⟨"T_RF", 4, 27, 16, .sh, 1600, [], .u 16 4000⟩,
  ⟨"T_REFRESH", 4, 15, 0, .sh, 1000, [], .u 10 65535⟩]⟩
def obj_MOD_EVENTS : Obj := ⟨"MOD_EVENTS", 0x06000200, [(5, 0x10)], 16, [
  ⟨"STRETCHED", 0, 31, 0, .ro, 0, [], .any⟩,
  ⟨"DROPPED", 4, 31, 0, .ro, 0, [], .any⟩,
  ⟨"REFRESHED", 8, 31, 0, .ro, 0, [], .any⟩,
  ⟨"BUDGET_DROP", 12, 31, 0, .ro, 0, [], .any⟩]⟩
def obj_MOD_ARM : Obj := ⟨"MOD_ARM", 0x06000400, [(24, 8)], 8, [
  ⟨"ARM_PHASE", 0, 31, 0, .sh, 0, [], .any⟩,
  ⟨"SAT_CELLS", 4, 22, 16, .ro, 0, [], .any⟩,
  ⟨"N_SERVICE", 4, 6, 0, .ro, 0, [], .any⟩]⟩
def obj_MOD_DRV : Obj := ⟨"MOD_DRV", 0x06000800, [], 12, [
  ⟨"STARTED", 0, 31, 31, .ro, 0, [], .any⟩,
  ⟨"HOLDING", 0, 30, 30, .ro, 0, [], .any⟩,
  ⟨"HOLD_COUNT", 0, 29, 28, .ro, 0, [], .any⟩,
  ⟨"SETS_MISSING", 4, 31, 0, .ro, 0, [], .any⟩,
  ⟨"LAST_SET_STAGE", 8, 31, 0, .ro, 0, [], .any⟩]⟩
def obj_MOD_CELL : Obj := ⟨"MOD_CELL", 0x06004000, [(512, 0x10)], 16, [
  ⟨"RANKED", 0, 31, 31, .ro, 0, [], .any⟩,
  ⟨"SAT_AC", 0, 30, 30, .ro, 0, [], .any⟩,
  ⟨"SAT_DAB", 0, 29, 29, .ro, 0, [], .any⟩,
  ⟨"RANK", 0, 21, 16, .ro, 0, [], .any⟩,
  ⟨"PHASE", 4, 31, 0, .ro, 0, [], .any⟩,
  ⟨"STRETCHED", 8, 31, 16, .ro, 0, [], .any⟩,
  ⟨"DROPPED", 8, 15, 0, .ro, 0, [], .any⟩]⟩
def obj_LOOP_CFG : Obj := ⟨"LOOP_CFG", 0x07000000, [], 4, [
  ⟨"CHECK_N", 0, 10, 0, .sh, 256, [], .u 0 1024⟩]⟩
def obj_LOOP_STAT : Obj := ⟨"LOOP_STAT", 0x07000010, [], 16, [
  ⟨"PIPES", 0, 31, 28, .ro, 15, [], .any⟩,
  ⟨"CHECK_OK", 0, 27, 27, .ro, 1, [], .any⟩,
  ⟨"CONSEC", 0, 26, 25, .ro, 0, [], .any⟩,
  ⟨"EVALUATED", 0, 11, 0, .ro, 0, [], .any⟩,
  ⟨"LAST_RESULT", 4, 31, 16, .ro, 0, [], .any⟩,
  ⟨"OVERRUN_STAGES", 8, 31, 0, .ro, 0, [], .any⟩,
  ⟨"OVERRUN_SLOTS", 12, 31, 0, .ro, 0, [], .any⟩]⟩
def obj_LOOP_CHECK : Obj := ⟨"LOOP_CHECK", 0x07000030, [], 16, [
  ⟨"CHECKED", 0, 31, 16, .ro, 0, [], .any⟩,
  ⟨"NEXT_SLOT", 0, 10, 0, .ro, 0, [], .any⟩,
  ⟨"MISMATCH", 4, 31, 0, .ro, 0, [], .any⟩,
  ⟨"LAST_UNIT", 8, 31, 29, .ro, 7, [], .any⟩,
  ⟨"LAST_SLOT", 8, 10, 0, .ro, 0, [], .any⟩,
  ⟨"LAST_STAGE", 12, 31, 0, .ro, 0, [], .any⟩]⟩
def obj_LOOP_SLOT_CFG : Obj := ⟨"LOOP_SLOT_CFG", 0x07100000, [(2048, 0x40)], 64, [
  ⟨"EN", 0, 31, 31, .sh, 0, [], .any⟩,
  ⟨"D_ON_MEAS", 0, 30, 30, .sh, 0, [], .any⟩,
  ⟨"NOISY", 0, 29, 29, .sh, 0, [], .any⟩,
  ⟨"SCHED_EN", 0, 28, 28, .sh, 0, [], .any⟩,
  ⟨"FB_KIND", 0, 27, 25, .sh, 0, [], .u 0 3⟩,
  ⟨"PRIO", 0, 24, 23, .sh, 0, [], .any⟩,
  ⟨"DEST_KIND", 0, 22, 20, .sh, 0, [], .u 0 4⟩,
  ⟨"DEST_INDEX", 0, 19, 11, .sh, 0, [], .any⟩,
  ⟨"OWNER", 0, 8, 0, .sh, 0, [], .any⟩,
  ⟨"PV_SRC", 4, 31, 16, .sh, 0, [], .sel⟩,
  ⟨"SP_SRC", 4, 15, 0, .sh, 0, [], .sel⟩,
  ⟨"FF_SRC", 8, 31, 16, .sh, 0, [], .sel⟩,
  ⟨"SCHED_SRC", 8, 15, 0, .sh, 0, [], .sel⟩,
  ⟨"OUT_HI", 12, 31, 0, .sh, 0, [], .any⟩,
  ⟨"OUT_LO", 16, 31, 0, .sh, 0, [], .any⟩,
  ⟨"FB_OUT", 20, 31, 0, .sh, 0, [], .any⟩,
  ⟨"I_PRESET", 24, 31, 0, .sh, 0, [], .any⟩,
  ⟨"MAX_AGE", 28, 31, 28, .sh, 2, [], .any⟩,
  ⟨"HOLD", 28, 27, 20, .sh, 2, [], .any⟩,
  ⟨"FREEZE_N", 28, 19, 12, .sh, 64, [], .u 2 255⟩,
  ⟨"N_REG", 28, 2, 0, .sh, 0, [], .any⟩,
  ⟨"SCHED_HYST", 32, 31, 0, .sh, 0, [], .fz 0x7F800000⟩,
  ⟨"BOUND0", 36, 31, 0, .sh, 0, [], .any⟩,
  ⟨"BOUND1", 40, 31, 0, .sh, 0, [], .any⟩,
  ⟨"BOUND2", 44, 31, 0, .sh, 0, [], .any⟩,
  ⟨"BOUND3", 48, 31, 0, .sh, 0, [], .any⟩,
  ⟨"BOUND4", 52, 31, 0, .sh, 0, [], .any⟩,
  ⟨"BOUND5", 56, 31, 0, .sh, 0, [], .any⟩,
  ⟨"BOUND6", 60, 31, 0, .sh, 0, [], .any⟩]⟩
def obj_LOOP_REGION : Obj := ⟨"LOOP_REGION", 0x07200000, [(2048, 0x80), (8, 0x10)], 16, [
  ⟨"KP", 0, 31, 0, .sh, 0, [], .any⟩,
  ⟨"KI", 4, 31, 0, .sh, 0, [], .any⟩,
  ⟨"KD", 8, 31, 0, .sh, 0, [], .any⟩,
  ⟨"TF", 12, 31, 0, .sh, 0, [], .fz 0x7F800000⟩]⟩
def obj_LOOP_SLOT_MODE : Obj := ⟨"LOOP_SLOT_MODE", 0x07300000, [(2048, 8)], 8, [
  ⟨"MODE", 0, 1, 0, .rw, 1, [], .u 1 2⟩,
  ⟨"MAN_OUT", 4, 31, 0, .rw, 0, [], .any⟩]⟩
def obj_LOOP_SLOT_STATE : Obj := ⟨"LOOP_SLOT_STATE", 0x07400000, [(2048, 0x20)], 32, [
  ⟨"OUT", 0, 31, 0, .ro, 0, [], .any⟩,
  ⟨"I", 4, 31, 0, .ro, 0, [], .any⟩,
  ⟨"D", 8, 31, 0, .ro, 0, [], .any⟩,
  ⟨"Y_PREV", 12, 31, 0, .ro, 0, [], .any⟩,
  ⟨"STATE", 16, 31, 30, .ro, 0, [], .any⟩,
  ⟨"FALLEN", 16, 29, 29, .ro, 0, [], .any⟩,
  ⟨"WARMING", 16, 28, 28, .ro, 0, [], .any⟩,
  ⟨"OVERRUN", 16, 27, 27, .ro, 0, [], .any⟩,
  ⟨"SAT_HI", 16, 26, 26, .ro, 0, [], .any⟩,
  ⟨"SAT_LO", 16, 25, 25, .ro, 0, [], .any⟩,
  ⟨"I_INHIBIT", 16, 24, 24, .ro, 0, [], .any⟩,
  ⟨"AGED", 16, 23, 23, .ro, 0, [], .any⟩,
  ⟨"LOST", 16, 22, 22, .ro, 0, [], .any⟩,
  ⟨"FROZEN", 16, 21, 21, .ro, 0, [], .any⟩,
  ⟨"PLANT_LOST", 16, 20, 20, .ro, 0, [], .any⟩,
  ⟨"NUMERIC", 16, 19, 19, .ro, 0, [], .any⟩,
  ⟨"REGION", 16, 18, 16, .ro, 0, [], .any⟩,
  ⟨"HELD_CNT", 16, 15, 8, .ro, 0, [], .any⟩,
  ⟨"INPUT_AGE", 16, 7, 0, .ro, 0, [], .any⟩,
  ⟨"LAST_RAW", 20, 31, 0, .ro, 0, [], .any⟩,
  ⟨"FREEZE_CNT", 24, 31, 24, .ro, 0, [], .any⟩,
  ⟨"OVERRUN_CNT", 24, 15, 0, .ro, 0, [], .any⟩,
  ⟨"EVAL_STAGE", 28, 31, 0, .ro, 0, [], .any⟩]⟩
def obj_POL_STATE : Obj := ⟨"POL_STATE", 0x08000000, [], 16, [
  ⟨"STATE", 0, 31, 28, .ro, 0, [], .any⟩,
  ⟨"PREV", 0, 27, 24, .ro, 0, [], .any⟩,
  ⟨"STEP", 0, 23, 20, .ro, 0, [], .any⟩,
  ⟨"TARGET", 0, 19, 16, .ro, 0, [], .any⟩,
  ⟨"CAUSE", 0, 15, 0, .ro, 0, [], .any⟩,
  ⟨"ENTRY_STAGE", 4, 31, 0, .ro, 0, [], .any⟩,
  ⟨"TRIPS", 8, 31, 24, .ro, 0, [], .any⟩,
  ⟨"DERATE_THERMAL", 8, 7, 7, .ro, 0, [], .any⟩,
  ⟨"DERATE_SHORT", 8, 6, 6, .ro, 0, [], .any⟩,
  ⟨"DERATE_GROUP", 8, 5, 5, .ro, 0, [], .any⟩,
  ⟨"GRID_LOCKED", 8, 4, 4, .ro, 0, [], .any⟩,
  ⟨"BREAKER_CLOSED", 8, 3, 3, .ro, 0, [], .any⟩,
  ⟨"PRECHARGE_CLOSED", 8, 2, 2, .ro, 0, [], .any⟩,
  ⟨"BREAKER_REQ", 8, 1, 1, .ro, 0, [], .any⟩,
  ⟨"PRECHARGE_REQ", 8, 0, 0, .ro, 0, [], .any⟩,
  ⟨"P_LIMIT_EFF", 12, 31, 0, .ro, 0, [], .any⟩]⟩
def obj_POL_EVENTS : Obj := ⟨"POL_EVENTS", 0x08000010, [], 16, [
  ⟨"BYPASSES", 0, 31, 0, .ro, 0, [], .any⟩,
  ⟨"INSERTIONS", 4, 31, 0, .ro, 0, [], .any⟩,
  ⟨"F3_TRIPS", 8, 31, 0, .ro, 0, [], .any⟩,
  ⟨"LATE", 12, 31, 0, .ro, 0, [], .any⟩]⟩
def obj_POL_CFG : Obj := ⟨"POL_CFG", 0x08000100, [], 44, [
  ⟨"AUTO_STANDBY", 0, 31, 31, .sh, 1, [], .any⟩,
  ⟨"CAP_SWAP", 0, 30, 30, .sh, 0, [], .any⟩,
  ⟨"MIN_GROUPS", 0, 23, 16, .sh, 1, [], .u 1 8⟩,
  ⟨"TRIP_LIMIT", 0, 15, 12, .sh, 3, [], .u 1 15⟩,
  ⟨"TRIP_WINDOW_S", 4, 31, 16, .sh, 3600, [], .u 60 65535⟩,
  ⟨"U_OV", 8, 31, 0, .sh, 0x449c4000, [], .u 0x44228000 0x44AF0000⟩,
  ⟨"U_UV", 12, 31, 0, .sh, 0x43fa0000, [], .u 0x42C80000 0x447A0000⟩,
  ⟨"K_E", 16, 31, 0, .sh, 0x44fa0000, [], .fz 0x49742400⟩,
  ⟨"I_ARM_MAX", 20, 31, 0, .sh, 0x42c80000, [], .u 0x3F800000 0x459C4000⟩,
  ⟨"ILIM_NOM", 24, 31, 0, .sh, 0x43160000, [], .u 0x3F800000 0x45CCCC00⟩,
  ⟨"I_DAB_MAX", 28, 31, 0, .sh, 0x42a00000, [], .u 0x3F800000 0x459C4000⟩,
  ⟨"K_S", 32, 31, 0, .sh, 0x3f000000, [], .fz 0x42C80000⟩,
  ⟨"I_SPARE_MAX", 36, 31, 0, .sh, 0x41200000, [], .fz 0x459C4000⟩,
  ⟨"Q_MAX", 40, 31, 0, .sh, 0, [], .fz 0x4C64E1C0⟩]⟩
def obj_POL_SEQ : Obj := ⟨"POL_SEQ", 0x08000200, [], 28, [
  ⟨"T_CONTACT_MS", 0, 31, 16, .sh, 200, [], .u 20 2000⟩,
  ⟨"T_PRECHARGE_MS", 0, 15, 0, .sh, 5000, [], .u 100 60000⟩,
  ⟨"T_SYNC_MS", 4, 31, 16, .sh, 2000, [], .u 100 60000⟩,
  ⟨"T_STOP_MS", 4, 15, 0, .sh, 30000, [], .u 100 65535⟩,
  ⟨"T_RAMPDOWN_MS", 8, 31, 16, .sh, 100, [], .u 1 10000⟩,
  ⟨"RUN_DWELL", 8, 15, 0, .sh, 200, [], .u 1 65535⟩,
  ⟨"RUN_TOL", 12, 31, 16, .sh, 20, [], .u 1 200⟩,
  ⟨"U_PASSIVE", 16, 31, 0, .sh, 0x442f0000, [], .u 0x42C80000 0x44960000⟩,
  ⟨"UDC_RATE", 20, 31, 0, .sh, 0x44fa0000, [], .u 0x41200000 0x459C4000⟩,
  ⟨"VBUS_RATE", 24, 31, 0, .sh, 0x461c4000, [], .u 0x41200000 0x469C4000⟩]⟩
def obj_POL_GRID : Obj := ⟨"POL_GRID", 0x08000300, [], 28, [
  ⟨"F60", 0, 31, 31, .sh, 0, [], .any⟩,
  ⟨"LOCK_MS", 0, 15, 0, .sh, 100, [], .u 10 10000⟩,
  ⟨"LOSS_MS", 4, 31, 16, .sh, 20, [], .u 1 1000⟩,
  ⟨"V_NOM_LL", 8, 31, 0, .sh, 0x461c4000, [], .u 0x45BB8000 0x471C4000⟩,
  ⟨"VSRC0", 12, 31, 16, .sh, 0, [], .sel2⟩,
  ⟨"VSRC1", 12, 15, 0, .sh, 0, [], .sel2⟩,
  ⟨"VSRC2", 16, 31, 16, .sh, 0, [], .sel2⟩,
  ⟨"KP_PLL", 20, 31, 0, .sh, 0x435e0000, [], .any⟩,
  ⟨"KI_PLL", 24, 31, 0, .sh, 0x46c09200, [], .any⟩]⟩
def obj_POL_GRID_STAT : Obj := ⟨"POL_GRID_STAT", 0x08000340, [], 16, [
  ⟨"F_HZ", 0, 31, 0, .ro, 0, [], .any⟩,
  ⟨"V_PK", 4, 31, 0, .ro, 0, [], .any⟩,
  ⟨"Q_PU", 8, 31, 0, .ro, 0, [], .any⟩,
  ⟨"LOCKED", 12, 31, 31, .ro, 0, [], .any⟩,
  ⟨"LOSS_PENDING", 12, 30, 30, .ro, 0, [], .any⟩,
  ⟨"LOCK_COUNT", 12, 15, 0, .ro, 0, [], .any⟩]⟩
def obj_POL_SETPOINT : Obj := ⟨"POL_SETPOINT", 0x08000400, [(4, 0x10)], 16, [
  ⟨"VALUE", 0, 31, 0, .ro, 0, [(0, 1148846080), (1, 1148846080)], .any⟩,
  ⟨"TARGET", 4, 31, 0, .ro, 0, [(0, 1148846080), (1, 1148846080)], .any⟩,
  ⟨"RATE", 8, 31, 0, .ro, 0, [], .any⟩,
  ⟨"RAMPING", 12, 0, 0, .ro, 0, [], .any⟩]⟩
def obj_POL_CAP : Obj := ⟨"POL_CAP", 0x08000500, [], 12, [
  ⟨"C_NOM", 0, 31, 0, .sh, 0, [], .fzu 0x41200000 0x49742400⟩,
  ⟨"WATCH", 4, 31, 16, .sh, 29491, [], .any⟩,
  ⟨"SERVICE", 4, 15, 0, .sh, 26214, [], .any⟩,
  ⟨"BLOCK_STAGES", 8, 31, 16, .sh, 20, [], .u 4 1000⟩,
  ⟨"WINDOW_BLOCKS", 8, 15, 0, .sh, 10000, [], .u 100 65535⟩]⟩
def obj_POL_ARM : Obj := ⟨"POL_ARM", 0x08001000, [(24, 0x20)], 32, [
  ⟨"STATE", 0, 31, 29, .ro, 0, [], .any⟩,
  ⟨"RANKED", 0, 22, 16, .ro, 0, [], .any⟩,
  ⟨"READY_SPARES", 0, 14, 8, .ro, 0, [], .any⟩,
  ⟨"FMIN", 0, 7, 0, .ro, 8, [], .any⟩,
  ⟨"UBAR", 4, 31, 0, .ro, 0, [], .any⟩,
  ⟨"ID", 8, 31, 0, .ro, 0, [], .any⟩,
  ⟨"IQ", 12, 31, 0, .ro, 0, [], .any⟩,
  ⟨"ID_REF", 16, 31, 0, .ro, 0, [], .any⟩,
  ⟨"IQ_REF", 20, 31, 0, .ro, 0, [], .any⟩,
  ⟨"STOP_STAGE", 24, 31, 0, .ro, 0, [], .any⟩]⟩
def obj_DRV_STAT : Obj := ⟨"DRV_STAT", 0x09000000, [], 4, [
  ⟨"STATE", 0, 31, 29, .ro, 0, [], .any⟩,
  ⟨"STO", 0, 28, 28, .ro, 0, [], .any⟩,
  ⟨"GRANT", 0, 27, 27, .ro, 0, [], .any⟩,
  ⟨"HV_LINK", 0, 26, 26, .ro, 0, [], .any⟩,
  ⟨"OV_BRAKE", 0, 25, 25, .ro, 0, [], .any⟩,
  ⟨"HB_OK", 0, 24, 22, .ro, 0, [], .any⟩,
  ⟨"SOFT_ACTIVE", 0, 21, 21, .ro, 0, [], .any⟩,
  ⟨"FEEDBACK_NOW", 0, 20, 20, .ro, 0, [], .any⟩,
  ⟨"OPEN_LOOP", 0, 19, 19, .ro, 0, [], .any⟩,
  ⟨"CAUSE", 0, 15, 0, .ro, 0, [], .any⟩]⟩
def obj_DRV_TRIP : Obj := ⟨"DRV_TRIP", 0x09000004, [], 4, [
  ⟨"SOFT_ALL", 0, 25, 25, .ro, 0, [], .any⟩,
  ⟨"THERMAL", 0, 24, 24, .ro, 0, [], .any⟩,
  ⟨"NTC_FAULT", 0, 23, 22, .ro, 0, [], .any⟩,
  ⟨"OVERSPEED", 0, 21, 21, .ro, 0, [], .any⟩,
  ⟨"OBSERVER_FAULT", 0, 20, 20, .ro, 0, [], .any⟩,
  ⟨"ENC_FAULT", 0, 19, 19, .ro, 0, [], .any⟩,
  ⟨"LOOP_FALLBACK", 0, 18, 18, .ro, 0, [], .any⟩,
  ⟨"EDGE_SET_LOST", 0, 17, 17, .ro, 0, [], .any⟩,
  ⟨"HV_CLOCK_LOST", 0, 16, 16, .ro, 0, [], .any⟩,
  ⟨"BOOT_CHARGE_FAIL", 0, 15, 15, .ro, 0, [], .any⟩,
  ⟨"BOOTSTRAP_UV", 0, 14, 12, .ro, 0, [], .any⟩,
  ⟨"VGD_UV", 0, 11, 11, .ro, 0, [], .any⟩,
  ⟨"OV_TRIP", 0, 10, 10, .ro, 0, [], .any⟩,
  ⟨"OC_FAST", 0, 9, 7, .ro, 0, [], .any⟩,
  ⟨"DESAT", 0, 6, 0, .ro, 0, [], .any⟩]⟩
def obj_DRV_CHAN : Obj := ⟨"DRV_CHAN", 0x09000040, [(7, 8)], 8, [
  ⟨"LEVEL", 0, 31, 28, .ro, 8, [], .any⟩,
  ⟨"MEAS_COUNT", 0, 23, 16, .ro, 0, [], .any⟩,
  ⟨"T_SW", 0, 15, 0, .ro, 65535, [], .any⟩,
  ⟨"LEVEL_CHANGES", 4, 31, 16, .ro, 0, [], .any⟩]⟩
def obj_DRV_EVENTS : Obj := ⟨"DRV_EVENTS", 0x09000080, [], 16, [
  ⟨"TRIPS", 0, 31, 0, .ro, 0, [], .any⟩,
  ⟨"SHORTS", 4, 31, 0, .ro, 0, [], .any⟩,
  ⟨"OV_BRAKE_ON", 8, 31, 0, .ro, 0, [], .any⟩,
  ⟨"STARTS", 12, 31, 0, .ro, 0, [], .any⟩]⟩
def obj_DRV_CFG : Obj := ⟨"DRV_CFG", 0x09000100, [], 4, [
  ⟨"ADAPT_EN", 0, 31, 31, .sh, 1, [], .any⟩,
  ⟨"MILLER_EN", 0, 30, 30, .sh, 1, [], .any⟩,
  ⟨"FEEDBACK", 0, 29, 29, .sh, 0, [], .any⟩,
  ⟨"ENC_FALLBACK", 0, 28, 28, .sh, 0, [], .any⟩,
  ⟨"Z_EN", 0, 27, 27, .sh, 1, [], .any⟩,
  ⟨"BOOT_PULSES", 0, 23, 16, .sh, 20, [], .u 1 64⟩,
  ⟨"NOISE", 0, 15, 8, .sh, 80, [], .u 0 200⟩,
  ⟨"ATTR", 0, 7, 0, .sh, 120, [], .u 8 200⟩]⟩
def obj_DRV_GATE : Obj := ⟨"DRV_GATE", 0x09000200, [(7, 0x10)], 8, [
  ⟨"INIT_LVL", 0, 31, 28, .sh, 8, [], .any⟩,
  ⟨"MIN_LVL", 0, 27, 24, .sh, 0, [], .any⟩,
  ⟨"MAX_LVL", 0, 23, 20, .sh, 15, [], .any⟩,
  ⟨"T_TARGET", 0, 15, 0, .sh, 100, [], .u 20 400⟩,
  ⟨"DS_V", 4, 31, 24, .sh, 14, [], .u 8 21⟩,
  ⟨"BLANK", 4, 23, 16, .sh, 12, [], .u 1 32⟩,
  ⟨"DS_FILT", 4, 15, 8, .sh, 8, [], .u 2 32⟩,
  ⟨"DS_EN", 4, 0, 0, .sh, 1, [], .any⟩]⟩
def obj_DRV_SOFT : Obj := ⟨"DRV_SOFT", 0x09000300, [], 4, [
  ⟨"V2L", 0, 31, 24, .sh, 18, [], .u 12 24⟩,
  ⟨"T_2L", 0, 23, 16, .sh, 6, [], .u 2 16⟩,
  ⟨"SOFT_LVL", 0, 15, 12, .sh, 2, [], .any⟩]⟩
def obj_DRV_PROT : Obj := ⟨"DRV_PROT", 0x09000310, [], 12, [
  ⟨"OV_TRIP_V", 0, 31, 16, .sh, 1650, [], .u 600 1650⟩,
  ⟨"OV_BRAKE_ON_V", 0, 15, 0, .sh, 1600, [], .u 600 1630⟩,
  ⟨"OV_BRAKE_HYST", 4, 31, 24, .sh, 50, [], .u 10 200⟩,
  ⟨"OC_V", 4, 23, 16, .sh, 245, [], .u 50 245⟩,
  ⟨"IS_SCALE", 8, 31, 0, .sh, 0x447a0000, [], .u 0x3F800000 0x47C35000⟩]⟩
def obj_DRV_MOTOR : Obj := ⟨"DRV_MOTOR", 0x09000400, [], 48, [
  ⟨"POLE_PAIRS", 0, 31, 24, .sh, 2, [], .u 1 32⟩,
  ⟨"MAX_RPM", 4, 31, 0, .sh, 0x44bb8000, [], .u 0x3F800000 0x476A6000⟩,
  ⟨"I_MAX", 8, 31, 0, .sh, 0x42c80000, [], .u 0x3F800000 0x469C4000⟩,
  ⟨"RS", 12, 31, 0, .sh, 0, [], .any⟩,
  ⟨"LD", 16, 31, 0, .sh, 0, [], .any⟩,
  ⟨"LQ", 20, 31, 0, .sh, 0, [], .any⟩,
  ⟨"PSI", 24, 31, 0, .sh, 0, [], .any⟩,
  ⟨"OBS_MIN_RPM", 28, 31, 0, .sh, 0x42960000, [], .u 1 0x7F800000⟩,
  ⟨"I_START", 32, 31, 0, .sh, 0, [], .any⟩,
  ⟨"START_RATE", 36, 31, 0, .sh, 0x42c80000, [], .u 0x3F800000 0x461C4000⟩,
  ⟨"ZERO_RPM", 40, 31, 0, .sh, 0x41200000, [], .any⟩,
  ⟨"T_DRV_STOP_MS", 44, 31, 16, .sh, 20000, [], .u 100 65535⟩]⟩
def obj_DRV_ENC : Obj := ⟨"DRV_ENC", 0x09000500, [], 20, [
  ⟨"LINES", 0, 31, 16, .sh, 1024, [], .u 1 65535⟩,
  ⟨"FILT", 0, 15, 10, .sh, 2, [], .u 1 63⟩,
  ⟨"SPEED_AVG", 0, 5, 3, .sh, 3, [], .u 0 6⟩,
  ⟨"ANGLE_OFS", 4, 31, 16, .sh, 0, [], .any⟩,
  ⟨"POSITION", 8, 31, 0, .ro, 0, [], .any⟩,
  ⟨"SPEED", 12, 31, 0, .ro, 0, [], .any⟩,
  ⟨"ILLEGAL", 16, 31, 16, .ro, 0, [], .any⟩,
  ⟨"MISCOUNT", 16, 15, 0, .ro, 0, [], .any⟩]⟩
def obj_DRV_NTC : Obj := ⟨"DRV_NTC", 0x09000600, [], 8, [
  ⟨"TEMP0", 0, 31, 16, .ro, 0, [], .any⟩,
  ⟨"TEMP1", 0, 15, 0, .ro, 0, [], .any⟩,
  ⟨"NTC_EN", 4, 31, 30, .sh, 3, [], .any⟩,
  ⟨"STAT1", 4, 29, 28, .ro, 0, [], .any⟩,
  ⟨"STAT0", 4, 27, 26, .ro, 0, [], .any⟩]⟩
def obj_MEAS_ADC_CFG : Obj := ⟨"MEAS_ADC_CFG", 0x0A000000, [(4, 0x10)], 8, [
  ⟨"EN", 0, 31, 31, .sh, 0, [], .any⟩,
  ⟨"EVENT", 0, 30, 29, .sh, 0, [], .u 0 2⟩,
  ⟨"STOP_COUNT", 0, 22, 16, .sh, 1, [], .u 1 64⟩,
  ⟨"TIMEOUT", 0, 15, 8, .sh, 4, [], .u 1 255⟩,
  ⟨"ACQ", 0, 7, 0, .sh, 8, [], .u 8 255⟩,
  ⟨"TRIG_LATE", 4, 31, 16, .ro, 0, [], .any⟩,
  ⟨"TRIG_MISSED", 4, 15, 0, .ro, 0, [], .any⟩]⟩
def obj_MEAS_DATA : Obj := ⟨"MEAS_DATA", 0x0A000100, [(5, 8)], 8, [
  ⟨"CODE", 0, 31, 16, .ro, 0, [], .any⟩,
  ⟨"OVR", 0, 15, 15, .ro, 0, [], .any⟩,
  ⟨"SETTLE", 0, 14, 14, .ro, 0, [], .any⟩,
  ⟨"STALE", 0, 13, 13, .ro, 1, [], .any⟩,
  ⟨"OVERRUN", 0, 12, 12, .ro, 0, [], .any⟩,
  ⟨"STOP", 0, 5, 0, .ro, 0, [], .any⟩,
  ⟨"RELIEVED", 4, 31, 31, .ro, 0, [], .any⟩,
  ⟨"RELIEF_OF", 4, 30, 28, .ro, 7, [], .any⟩,
  ⟨"RESULT", 4, 7, 0, .ro, 0, [], .any⟩]⟩
def obj_MEAS_SD_CFG : Obj := ⟨"MEAS_SD_CFG", 0x0A000200, [], 8, [
  ⟨"OSR1", 0, 24, 16, .sh, 100, [], .u 32 256⟩,
  ⟨"OSR0", 0, 8, 0, .sh, 100, [], .u 32 256⟩,
  ⟨"OSR3", 4, 24, 16, .sh, 100, [], .u 32 256⟩,
  ⟨"OSR2", 4, 8, 0, .sh, 100, [], .u 32 256⟩]⟩
def obj_MEAS_SD_STAT : Obj := ⟨"MEAS_SD_STAT", 0x0A000210, [], 8, [
  ⟨"LOST", 0, 31, 28, .ro, 15, [], .any⟩,
  ⟨"SETTLING", 0, 27, 24, .ro, 0, [], .any⟩,
  ⟨"LOSS_COUNT", 4, 31, 0, .ro, 0, [], .any⟩]⟩
def obj_MEAS_CAL : Obj := ⟨"MEAS_CAL", 0x0A000300, [(9, 0x20)], 32, [
  ⟨"CAL_STAGE", 16, 31, 0, .ro, 0, [], .any⟩,
  ⟨"CAL_COUNT", 20, 31, 16, .ro, 0, [], .any⟩,
  ⟨"FAIL_COUNT", 20, 15, 0, .ro, 0, [], .any⟩,
  ⟨"OFFSET0", 0, 31, 16, .ro, 0, [], .any⟩,
  ⟨"GAIN_CORR0", 0, 15, 0, .ro, 0, [], .any⟩,
  ⟨"OFFSET1", 4, 31, 16, .ro, 0, [], .any⟩,
  ⟨"GAIN_CORR1", 4, 15, 0, .ro, 0, [], .any⟩,
  ⟨"OFFSET2", 8, 31, 16, .ro, 0, [], .any⟩,
  ⟨"GAIN_CORR2", 8, 15, 0, .ro, 0, [], .any⟩,
  ⟨"OFFSET3", 12, 31, 16, .ro, 0, [], .any⟩,
  ⟨"GAIN_CORR3", 12, 15, 0, .ro, 0, [], .any⟩]⟩
def obj_MEAS_CAL_CFG : Obj := ⟨"MEAS_CAL_CFG", 0x0A000500, [], 4, [
  ⟨"AUTO_S", 0, 31, 16, .sh, 0, [], .z 40 3600⟩]⟩
def obj_MEAS_RELIEF : Obj := ⟨"MEAS_RELIEF", 0x0A000510, [], 8, [
  ⟨"BUSY", 0, 31, 31, .ro, 0, [], .any⟩,
  ⟨"SERVING", 0, 30, 28, .ro, 7, [], .any⟩,
  ⟨"QUEUED", 0, 27, 24, .ro, 0, [], .any⟩,
  ⟨"RUNS", 4, 31, 0, .ro, 0, [], .any⟩]⟩
def obj_MEAS_STOP : Obj := ⟨"MEAS_STOP", 0x0A010000, [(4, 0x200), (64, 8)], 8, [
  ⟨"CHANNEL", 0, 31, 28, .sh, 0, [], .any⟩,
  ⟨"GAIN", 0, 27, 26, .sh, 0, [], .any⟩,
  ⟨"TRIGGER", 0, 25, 24, .sh, 0, [], .u 0 2⟩,
  ⟨"REPEAT", 0, 23, 20, .sh, 0, [], .any⟩,
  ⟨"RESULT", 0, 7, 0, .sh, 0, [], .any⟩,
  ⟨"DELAY", 4, 11, 0, .sh, 0, [], .u 0 4000⟩]⟩
def obj_MEAS_RESULT : Obj := ⟨"MEAS_RESULT", 0x0A020000, [(260, 0x10)], 16, [
  ⟨"VALUE", 0, 31, 0, .ro, 0, [], .any⟩,
  ⟨"CODE", 4, 31, 16, .ro, 0, [], .any⟩,
  ⟨"OVR", 4, 15, 15, .ro, 0, [], .any⟩,
  ⟨"SETTLE", 4, 14, 14, .ro, 0, [], .any⟩,
  ⟨"STALE", 4, 13, 13, .ro, 1, [], .any⟩,
  ⟨"OVERRUN", 4, 12, 12, .ro, 0, [], .any⟩,
  ⟨"NEW", 4, 11, 11, .ro, 0, [], .any⟩,
  ⟨"SOURCE", 4, 10, 9, .ro, 3, [], .any⟩,
  ⟨"STOP", 4, 5, 0, .ro, 0, [], .any⟩,
  ⟨"STAGE", 8, 31, 0, .ro, 0, [], .any⟩,
  ⟨"SAMPLE", 12, 31, 16, .ro, 0, [], .any⟩,
  ⟨"OVERRUN_CNT", 12, 15, 0, .ro, 0, [], .any⟩]⟩
def obj_MEAS_SCALE : Obj := ⟨"MEAS_SCALE", 0x0A030000, [(256, 8)], 8, [
  ⟨"SCALE", 0, 31, 0, .sh, 0x3f800000, [], .any⟩,
  ⟨"OFFSET", 4, 31, 0, .sh, 0, [], .any⟩]⟩
def obj_FLT_CFG : Obj := ⟨"FLT_CFG", 0x0B000000, [], 4, [
  ⟨"TRIG_D", 0, 1, 1, .sh, 0, [], .any⟩,
  ⟨"TRIG_F1", 0, 0, 0, .sh, 0, [], .any⟩]⟩
def obj_FLT_STAT : Obj := ⟨"FLT_STAT", 0x0B000010, [], 8, [
  ⟨"F3_CODE", 0, 31, 16, .ro, 0, [], .any⟩,
  ⟨"LATCHED", 0, 15, 8, .ro, 0, [], .any⟩,
  ⟨"LB_IGNORED", 4, 31, 0, .ro, 0, [], .any⟩]⟩
def obj_FLT_COUNT : Obj := ⟨"FLT_COUNT", 0x0B000020, [], 20, [
  ⟨"F0", 0, 31, 0, .ro, 0, [], .any⟩,
  ⟨"F1", 4, 31, 0, .ro, 0, [], .any⟩,
  ⟨"F2", 8, 31, 0, .ro, 0, [], .any⟩,
  ⟨"F3", 12, 31, 0, .ro, 0, [], .any⟩,
  ⟨"D", 16, 31, 0, .ro, 0, [], .any⟩]⟩
def obj_FLT_LATCH : Obj := ⟨"FLT_LATCH", 0x0B000100, [(16, 0x10)], 16, [
  ⟨"VALID", 0, 31, 31, .ro, 0, [], .any⟩,
  ⟨"PRESENT", 0, 30, 30, .ro, 0, [], .any⟩,
  ⟨"CODE", 0, 15, 0, .ro, 0, [], .any⟩,
  ⟨"STAGE", 4, 31, 0, .ro, 0, [], .any⟩,
  ⟨"BOOT", 8, 31, 16, .ro, 0, [], .any⟩,
  ⟨"SUBJECT", 8, 15, 0, .ro, 0, [], .any⟩]⟩
def obj_PAIR_CFG : Obj := ⟨"PAIR_CFG", 0x0B001000, [], 4, [
  ⟨"TAKEOVER_EN", 0, 31, 31, .sh, 1, [], .any⟩,
  ⟨"JOIN_AUTO", 0, 30, 30, .sh, 1, [], .any⟩,
  ⟨"RETRY_S", 0, 15, 0, .sh, 10, [], .u 1 3600⟩]⟩
def obj_PAIR_STAT : Obj := ⟨"PAIR_STAT", 0x0B001010, [], 16, [
  ⟨"ROLE", 0, 31, 29, .ro, 5, [], .any⟩,
  ⟨"OWN_CLAIM", 0, 28, 28, .ro, 0, [], .any⟩,
  ⟨"PARTNER_CLAIM", 0, 27, 27, .ro, 0, [], .any⟩,
  ⟨"GRANT", 0, 26, 26, .ro, 0, [], .any⟩,
  ⟨"PAIRA_UP", 0, 25, 25, .ro, 0, [], .any⟩,
  ⟨"PAIRB_UP", 0, 24, 24, .ro, 0, [], .any⟩,
  ⟨"PARTNER_IN_STEP", 0, 23, 23, .ro, 0, [], .any⟩,
  ⟨"SELFCHECK", 0, 22, 22, .ro, 0, [], .any⟩,
  ⟨"JOIN_STEP", 0, 21, 19, .ro, 0, [], .any⟩,
  ⟨"PAIR_DELAY", 4, 31, 16, .ro, 0, [], .any⟩,
  ⟨"DELTA", 4, 3, 0, .ro, 0, [], .any⟩,
  ⟨"PARTNER_SERIAL_LO", 8, 31, 0, .ro, 0, [], .any⟩,
  ⟨"STEP_STAGE", 12, 31, 0, .ro, 0, [], .any⟩]⟩
def obj_PAIR_PERMIT : Obj := ⟨"PAIR_PERMIT", 0x0B001020, [], 4, [
  ⟨"PERMIT", 0, 23, 0, .ro, 0, [], .any⟩]⟩
def obj_PAIR_EVENTS : Obj := ⟨"PAIR_EVENTS", 0x0B001030, [], 20, [
  ⟨"SWITCHOVERS", 0, 31, 0, .ro, 0, [], .any⟩,
  ⟨"MISMATCHES", 4, 31, 0, .ro, 0, [], .any⟩,
  ⟨"SELFCHECK_FAIL", 8, 31, 0, .ro, 0, [], .any⟩,
  ⟨"JOINS", 12, 31, 0, .ro, 0, [], .any⟩,
  ⟨"SET_MISSING", 16, 31, 0, .ro, 0, [], .any⟩]⟩
def obj_PAIR_LAST : Obj := ⟨"PAIR_LAST", 0x0B001050, [], 8, [
  ⟨"CAUSE", 0, 31, 24, .ro, 0, [], .any⟩,
  ⟨"MISSED", 0, 7, 0, .ro, 0, [], .any⟩,
  ⟨"STAGE", 4, 31, 0, .ro, 0, [], .any⟩]⟩
def obj_SAFE_STAT : Obj := ⟨"SAFE_STAT", 0x0C000000, [], 16, [
  ⟨"STATE", 0, 31, 29, .ro, 0, [], .any⟩,
  ⟨"STO", 0, 28, 28, .ro, 1, [], .any⟩,
  ⟨"OUT_ALLOWED", 0, 27, 27, .ro, 0, [], .any⟩,
  ⟨"CTRL_LINK", 0, 26, 26, .ro, 0, [], .any⟩,
  ⟨"PARAM_PENDING", 0, 25, 25, .ro, 0, [], .any⟩,
  ⟨"RESET_VALID", 0, 24, 24, .ro, 0, [], .any⟩,
  ⟨"DEMAND", 0, 23, 16, .ro, 0, [], .any⟩,
  ⟨"STARTUP_PENDING", 0, 15, 8, .ro, 0, [], .any⟩,
  ⟨"SS1_LEFT", 4, 31, 16, .ro, 0, [], .any⟩,
  ⟨"PARAM_CRC", 8, 31, 0, .ro, 0, [], .any⟩]⟩
def obj_SAFE_IN : Obj := ⟨"SAFE_IN", 0x0C000100, [(8, 0x10)], 16, [
  ⟨"A_ON", 0, 31, 31, .ro, 0, [], .any⟩,
  ⟨"B_ON", 0, 30, 30, .ro, 0, [], .any⟩,
  ⟨"PAIR_STATE", 0, 29, 27, .ro, 0, [], .any⟩,
  ⟨"CYCLED", 0, 26, 26, .ro, 0, [], .any⟩,
  ⟨"DISC_MS", 0, 15, 0, .ro, 0, [], .any⟩,
  ⟨"DEMANDS", 4, 31, 16, .ro, 0, [], .any⟩,
  ⟨"DISC_FAULTS", 4, 15, 0, .ro, 0, [], .any⟩,
  ⟨"MAX_DISC_MS", 8, 31, 16, .ro, 0, [], .any⟩]⟩
def obj_SAFE_OUT : Obj := ⟨"SAFE_OUT", 0x0C000200, [(4, 0x10)], 16, [
  ⟨"ON", 0, 31, 31, .ro, 0, [], .any⟩,
  ⟨"READ_HIGH", 0, 30, 30, .ro, 0, [], .any⟩,
  ⟨"FB_OPEN", 0, 29, 29, .ro, 0, [], .any⟩,
  ⟨"FB_OK", 0, 28, 28, .ro, 1, [], .any⟩,
  ⟨"LIMITING", 0, 27, 27, .ro, 0, [], .any⟩,
  ⟨"LAST_TEST", 0, 26, 24, .ro, 0, [], .any⟩,
  ⟨"TESTS", 4, 31, 0, .ro, 0, [], .any⟩,
  ⟨"DISCARDED", 8, 31, 16, .ro, 0, [], .any⟩,
  ⟨"FB_LAST_MS", 8, 15, 0, .ro, 65535, [], .any⟩]⟩
def obj_SAFE_LOCK : Obj := ⟨"SAFE_LOCK", 0x0C000300, [], 16, [
  ⟨"LOCKED", 0, 31, 31, .ro, 0, [], .any⟩,
  ⟨"CAUSE_PRESENT", 0, 30, 30, .ro, 0, [], .any⟩,
  ⟨"CAUSE", 0, 23, 16, .ro, 0, [], .any⟩,
  ⟨"SUBJECT", 0, 15, 8, .ro, 0, [], .any⟩,
  ⟨"NONCE", 4, 31, 0, .ro, 0, [], .any⟩,
  ⟨"LOCK_COUNT", 8, 31, 16, .ro, 0, [], .any⟩,
  ⟨"STAGE", 12, 31, 0, .ro, 0, [], .any⟩]⟩
def obj_SAFE_PARAM_ACTIVE_IN : Obj := ⟨"SAFE_PARAM_ACTIVE_IN", 0x0C000400, [(8, 4)], 4, [
  ⟨"KIND", 0, 23, 21, .ro, 0, [(0, 1), (7, 4)], .any⟩,
  ⟨"FUNCTION", 0, 20, 20, .ro, 0, [], .any⟩,
  ⟨"ANTIVALENT", 0, 19, 19, .ro, 0, [], .any⟩,
  ⟨"STARTUP_TEST", 0, 18, 18, .ro, 0, [], .any⟩,
  ⟨"MANUAL_RESET", 0, 17, 17, .ro, 0, [(0, 1)], .any⟩,
  ⟨"T_DISC", 0, 8, 0, .ro, 50, [], .any⟩]⟩
def obj_SAFE_PARAM_ACTIVE_OUT : Obj := ⟨"SAFE_PARAM_ACTIVE_OUT", 0x0C000420, [(4, 4)], 4, [
  ⟨"ROLE", 0, 23, 22, .ro, 0, [(0, 1), (1, 2)], .any⟩,
  ⟨"FB_EN", 0, 21, 21, .ro, 0, [(0, 1), (1, 1)], .any⟩,
  ⟨"FB_SHARED", 0, 20, 20, .ro, 0, [], .any⟩]⟩
def obj_SAFE_PARAM_ACTIVE : Obj := ⟨"SAFE_PARAM_ACTIVE", 0x0C000430, [], 16, [
  ⟨"T_SS1", 0, 12, 0, .ro, 100, [], .any⟩,
  ⟨"CRC", 12, 31, 0, .ro, 0x96c9ebd7, [], .any⟩]⟩
def obj_SAFE_PARAM_PENDING_IN : Obj := ⟨"SAFE_PARAM_PENDING_IN", 0x0C000440, [(8, 4)], 4, [
  ⟨"KIND", 0, 23, 21, .ro, 0, [(0, 1), (7, 4)], .any⟩,
  ⟨"FUNCTION", 0, 20, 20, .ro, 0, [], .any⟩,
  ⟨"ANTIVALENT", 0, 19, 19, .ro, 0, [], .any⟩,
  ⟨"STARTUP_TEST", 0, 18, 18, .ro, 0, [], .any⟩,
  ⟨"MANUAL_RESET", 0, 17, 17, .ro, 0, [(0, 1)], .any⟩,
  ⟨"T_DISC", 0, 8, 0, .ro, 50, [], .any⟩]⟩
def obj_SAFE_PARAM_PENDING_OUT : Obj := ⟨"SAFE_PARAM_PENDING_OUT", 0x0C000460, [(4, 4)], 4, [
  ⟨"ROLE", 0, 23, 22, .ro, 0, [(0, 1), (1, 2)], .any⟩,
  ⟨"FB_EN", 0, 21, 21, .ro, 0, [(0, 1), (1, 1)], .any⟩,
  ⟨"FB_SHARED", 0, 20, 20, .ro, 0, [], .any⟩]⟩
def obj_SAFE_PARAM_PENDING : Obj := ⟨"SAFE_PARAM_PENDING", 0x0C000470, [], 16, [
  ⟨"T_SS1", 0, 12, 0, .ro, 100, [], .any⟩,
  ⟨"CRC", 12, 31, 0, .ro, 0x96c9ebd7, [], .any⟩]⟩
def obj_SAFE_EVENTS : Obj := ⟨"SAFE_EVENTS", 0x0C000480, [], 16, [
  ⟨"DEMANDS", 0, 31, 0, .ro, 0, [], .any⟩,
  ⟨"LOCKOUTS", 4, 31, 0, .ro, 0, [], .any⟩,
  ⟨"TEST_FAILS", 8, 31, 0, .ro, 0, [], .any⟩,
  ⟨"CTRL_LOSSES", 12, 31, 0, .ro, 0, [], .any⟩]⟩
def obj_ETH_CFG : Obj := ⟨"ETH_CFG", 0x0D000000, [(2, 0x40)], 28, [
  ⟨"EN", 0, 31, 31, .sh, 1, [], .any⟩,
  ⟨"MODE", 0, 30, 29, .sh, 1, [], .u 1 2⟩,
  ⟨"AN_EN", 0, 28, 28, .sh, 1, [], .any⟩,
  ⟨"TAGGED", 0, 27, 27, .sh, 0, [], .any⟩,
  ⟨"UNTAGGED_OK", 0, 26, 26, .sh, 1, [], .any⟩,
  ⟨"PCP", 0, 25, 23, .sh, 4, [], .any⟩,
  ⟨"VID", 0, 11, 0, .sh, 0, [], .u 0 4094⟩,
  ⟨"IP", 4, 31, 0, .sh, 0xc0a87814, [(1, 3232266516)], .u 1 3758096383⟩,
  ⟨"GATEWAY", 8, 31, 0, .sh, 0, [], .any⟩,
  ⟨"PREFIX", 12, 5, 0, .sh, 24, [], .u 8 30⟩,
  ⟨"TX_LAT", 16, 31, 16, .sh, 0, [], .any⟩,
  ⟨"RX_LAT", 16, 15, 0, .sh, 0, [], .any⟩,
  ⟨"MAC_HI", 20, 15, 0, .ro, 0, [], .any⟩,
  ⟨"MAC_LO", 24, 31, 0, .ro, 0, [], .any⟩]⟩
def obj_ETH_STAT : Obj := ⟨"ETH_STAT", 0x0D000100, [(2, 0x40)], 28, [
  ⟨"LINK", 0, 31, 31, .ro, 0, [], .any⟩,
  ⟨"AN_DONE", 0, 30, 30, .ro, 0, [], .any⟩,
  ⟨"SPEED_BAD", 0, 29, 29, .ro, 0, [], .any⟩,
  ⟨"REMOTE_FAULT", 0, 28, 28, .ro, 0, [], .any⟩,
  ⟨"RX_FRAMES", 4, 31, 0, .ro, 0, [], .any⟩,
  ⟨"TX_FRAMES", 8, 31, 0, .ro, 0, [], .any⟩,
  ⟨"FCS_ERR", 12, 31, 0, .ro, 0, [], .any⟩,
  ⟨"RX_DROPPED", 16, 31, 0, .ro, 0, [], .any⟩,
  ⟨"ICMP_DROPPED", 20, 31, 16, .ro, 0, [], .any⟩,
  ⟨"LINK_DOWNS", 20, 15, 0, .ro, 0, [], .any⟩,
  ⟨"UNRESOLVED", 24, 31, 0, .ro, 0, [], .any⟩]⟩
def obj_ETH_MDIO : Obj := ⟨"ETH_MDIO", 0x0D000200, [(2, 0x10)], 4, [
  ⟨"START", 0, 31, 31, .wo, 0, [], .any⟩,
  ⟨"BUSY", 0, 30, 30, .ro, 0, [], .any⟩,
  ⟨"OP", 0, 29, 29, .rw, 0, [], .any⟩,
  ⟨"PHYAD", 0, 28, 24, .rw, 0, [], .any⟩,
  ⟨"REGAD", 0, 20, 16, .rw, 0, [], .any⟩,
  ⟨"DATA", 0, 15, 0, .rw, 0, [], .any⟩]⟩
def obj_ETH_TELEGRAM : Obj := ⟨"ETH_TELEGRAM", 0x0D000400, [(4, 0x20)], 32, [
  ⟨"EN", 0, 31, 31, .sh, 0, [], .any⟩,
  ⟨"PORT", 0, 30, 30, .sh, 0, [], .any⟩,
  ⟨"PERIOD_MS", 0, 15, 0, .sh, 100, [], .u 1 60000⟩,
  ⟨"PHASE_NS", 4, 31, 0, .sh, 0, [], .any⟩,
  ⟨"DEST_IP", 8, 31, 0, .sh, 0, [], .u 0 3758096383⟩,
  ⟨"DEST_PORT", 12, 31, 16, .sh, 47121, [], .u 1 65535⟩,
  ⟨"LENGTH", 12, 10, 0, .sh, 4, [], .m4 4 1024⟩,
  ⟨"START", 16, 31, 0, .sh, 0, [], .m4 0 0xFFFFFFFC⟩,
  ⟨"SENT", 20, 31, 0, .ro, 0, [], .any⟩,
  ⟨"SKIPPED", 24, 31, 16, .ro, 0, [], .any⟩,
  ⟨"LAST_SEQ", 28, 31, 0, .ro, 0, [], .any⟩]⟩
def obj_PTP_CFG : Obj := ⟨"PTP_CFG", 0x0D100000, [], 12, [
  ⟨"EN", 0, 31, 31, .sh, 1, [], .any⟩,
  ⟨"CLOCK", 0, 30, 29, .sh, 0, [], .u 0 2⟩,
  ⟨"TWO_STEP", 0, 28, 28, .sh, 1, [], .any⟩,
  ⟨"PORTS", 0, 27, 26, .sh, 3, [], .any⟩,
  ⟨"DOMAIN", 0, 15, 8, .sh, 0, [], .any⟩,
  ⟨"PRIORITY1", 4, 31, 24, .sh, 128, [], .any⟩,
  ⟨"PRIORITY2", 4, 23, 16, .sh, 128, [], .any⟩,
  ⟨"LOCK_NS", 8, 31, 16, .sh, 1000, [], .u 50 65535⟩,
  ⟨"HOLDOVER_S", 8, 15, 0, .sh, 3600, [], .any⟩]⟩
def obj_PTP_PORT : Obj := ⟨"PTP_PORT", 0x0D100100, [(2, 0x20)], 20, [
  ⟨"STATE", 0, 31, 28, .ro, 3, [], .any⟩,
  ⟨"DELAY_VALID", 0, 27, 27, .ro, 0, [], .any⟩,
  ⟨"LINK_DELAY", 4, 31, 0, .ro, 0, [], .any⟩,
  ⟨"SYNC_RX", 8, 31, 0, .ro, 0, [], .any⟩,
  ⟨"ANNOUNCE_TIMEOUTS", 12, 31, 16, .ro, 0, [], .any⟩,
  ⟨"PDELAY_FAIL", 12, 15, 0, .ro, 0, [], .any⟩,
  ⟨"SYNC_TX", 16, 31, 0, .ro, 0, [], .any⟩]⟩
def obj_PTP_PARENT : Obj := ⟨"PTP_PARENT", 0x0D100200, [], 20, [
  ⟨"GM_ID_HI", 0, 31, 0, .ro, 0, [], .any⟩,
  ⟨"GM_ID_LO", 4, 31, 0, .ro, 0, [], .any⟩,
  ⟨"GM_CLASS", 8, 31, 24, .ro, 248, [], .any⟩,
  ⟨"GM_ACCURACY", 8, 23, 16, .ro, 254, [], .any⟩,
  ⟨"STEPS_REMOVED", 8, 15, 0, .ro, 0, [], .any⟩,
  ⟨"UTC_OFFSET", 12, 31, 16, .ro, 0, [], .any⟩,
  ⟨"UTC_VALID", 12, 15, 15, .ro, 0, [], .any⟩,
  ⟨"LEAP61", 12, 14, 14, .ro, 0, [], .any⟩,
  ⟨"LEAP59", 12, 13, 13, .ro, 0, [], .any⟩,
  ⟨"PARENT_PORT", 12, 12, 12, .ro, 0, [], .any⟩,
  ⟨"GM_CHANGES", 16, 31, 0, .ro, 0, [], .any⟩]⟩
def obj_CAN_CFG : Obj := ⟨"CAN_CFG", 0x0D200000, [(2, 0x10000)], 20, [
  ⟨"MODE", 0, 31, 30, .sh, 0, [], .any⟩,
  ⟨"FD_EN", 0, 29, 29, .sh, 1, [], .any⟩,
  ⟨"AUTO_RECOVER", 0, 28, 28, .sh, 0, [], .any⟩,
  ⟨"TDC_EN", 0, 27, 27, .sh, 1, [], .any⟩,
  ⟨"TDCO", 0, 26, 20, .sh, 0, [], .any⟩,
  ⟨"NBRP", 4, 31, 24, .sh, 1, [], .u 1 255⟩,
  ⟨"NTSEG1", 4, 23, 16, .sh, 127, [], .u 2 255⟩,
  ⟨"NTSEG2", 4, 15, 8, .sh, 32, [], .u 2 128⟩,
  ⟨"NSJW", 4, 7, 0, .sh, 32, [], .u 1 128⟩,
  ⟨"DBRP", 8, 31, 24, .sh, 1, [], .u 1 32⟩,
  ⟨"DTSEG1", 8, 23, 16, .sh, 29, [], .u 1 32⟩,
  ⟨"DTSEG2", 8, 15, 8, .sh, 10, [], .u 1 16⟩,
  ⟨"DSJW", 8, 7, 0, .sh, 10, [], .u 1 16⟩,
  ⟨"TIME_ROLE", 12, 31, 30, .sh, 0, [], .u 0 2⟩,
  ⟨"REF_IDE", 12, 29, 29, .sh, 0, [], .any⟩,
  ⟨"REF_ID", 12, 28, 0, .sh, 128, [], .any⟩,
  ⟨"T_CYCLE_US", 16, 31, 0, .sh, 10000, [], .u 100 1000000⟩]⟩
def obj_CAN_STAT : Obj := ⟨"CAN_STAT", 0x0D200100, [(2, 0x10000)], 20, [
  ⟨"ERR_STATE", 0, 31, 30, .ro, 3, [], .any⟩,
  ⟨"RECOVERING", 0, 29, 29, .ro, 0, [], .any⟩,
  ⟨"MASTER_NOW", 0, 28, 28, .ro, 0, [], .any⟩,
  ⟨"TEC", 0, 24, 16, .ro, 0, [], .any⟩,
  ⟨"REC", 0, 15, 8, .ro, 0, [], .any⟩,
  ⟨"CYCLE_COUNT", 0, 5, 0, .ro, 0, [], .any⟩,
  ⟨"BUSOFFS", 4, 31, 16, .ro, 0, [], .any⟩,
  ⟨"RX_LOST", 4, 15, 0, .ro, 0, [], .any⟩,
  ⟨"RX_FRAMES", 8, 31, 0, .ro, 0, [], .any⟩,
  ⟨"TX_FRAMES", 12, 31, 0, .ro, 0, [], .any⟩,
  ⟨"ERR_FRAMES", 16, 31, 0, .ro, 0, [], .any⟩]⟩
def obj_CAN_OBJ : Obj := ⟨"CAN_OBJ", 0x0D201000, [(2, 0x10000), (128, 0x80)], 64, [
  ⟨"EN", 0, 31, 31, .sh, 0, [], .any⟩,
  ⟨"DIR", 0, 30, 30, .sh, 0, [], .any⟩,
  ⟨"ONE_SHOT", 0, 29, 29, .sh, 0, [], .any⟩,
  ⟨"TRIGGER", 0, 28, 27, .sh, 0, [], .u 0 2⟩,
  ⟨"RX_KIND", 0, 26, 26, .sh, 0, [], .any⟩,
  ⟨"IDE", 0, 25, 25, .sh, 0, [], .any⟩,
  ⟨"FDF", 0, 24, 24, .sh, 0, [], .any⟩,
  ⟨"BRS", 0, 23, 23, .sh, 0, [], .any⟩,
  ⟨"DLC", 0, 22, 19, .sh, 0, [], .any⟩,
  ⟨"MASK_FDF", 0, 18, 18, .sh, 0, [], .any⟩,
  ⟨"ID", 4, 28, 0, .sh, 0, [], .any⟩,
  ⟨"MASK", 8, 28, 0, .sh, 0x1fffffff, [], .any⟩,
  ⟨"PERIOD", 12, 31, 16, .sh, 1, [], .u 1 65535⟩,
  ⟨"PHASE", 12, 15, 0, .sh, 0, [], .any⟩,
  ⟨"CYC_MASK", 16, 31, 26, .sh, 0, [], .any⟩,
  ⟨"CYC_MATCH", 16, 25, 20, .sh, 0, [], .any⟩,
  ⟨"TX_OFS_US", 16, 19, 0, .sh, 0, [], .any⟩,
  ⟨"SRC_ADDR", 20, 31, 0, .sh, 0, [], .any⟩,
  ⟨"DEPTH", 24, 31, 24, .sh, 4, [], .u 1 32⟩,
  ⟨"TIMEOUT_MS", 24, 15, 0, .sh, 0, [], .any⟩,
  ⟨"STATUS", 28, 31, 16, .ro, 0, [], .any⟩,
  ⟨"PENDING", 28, 15, 15, .ro, 0, [], .any⟩,
  ⟨"STALE", 28, 14, 14, .ro, 0, [], .any⟩,
  ⟨"FULL", 28, 13, 13, .ro, 0, [], .any⟩,
  ⟨"LAST_ERR", 28, 12, 10, .ro, 0, [], .any⟩,
  ⟨"COUNT", 28, 5, 0, .ro, 0, [], .any⟩,
  ⟨"TX_REQ", 32, 31, 31, .wo, 0, [], .any⟩,
  ⟨"ACK", 32, 5, 0, .wo, 0, [], .any⟩,
  ⟨"HEAD", 36, 31, 24, .ro, 0, [], .any⟩,
  ⟨"BASE", 36, 23, 16, .ro, 0, [], .any⟩,
  ⟨"DONE", 40, 31, 0, .ro, 0, [], .any⟩,
  ⟨"FAILS", 44, 31, 0, .ro, 0, [], .any⟩]⟩
def obj_CAN_OBJ_DATA : Obj := ⟨"CAN_OBJ_DATA", 0x0D201040, [(2, 0x10000), (128, 0x80), (16, 4)], 4, [
  ⟨"DATA", 0, 31, 0, .rw, 0, [], .any⟩]⟩
def obj_THERM_STAT : Obj := ⟨"THERM_STAT", 0x0E000000, [], 12, [
  ⟨"DIE_LEVEL", 0, 31, 30, .ro, 0, [], .any⟩,
  ⟨"HV_LEVEL", 0, 29, 28, .ro, 0, [], .any⟩,
  ⟨"STEP", 0, 27, 25, .ro, 0, [], .any⟩,
  ⟨"FAST", 0, 24, 24, .ro, 0, [], .any⟩,
  ⟨"DECIMATING", 0, 23, 23, .ro, 0, [], .any⟩,
  ⟨"SENSOR_FAIL", 0, 21, 12, .ro, 0, [], .any⟩,
  ⟨"DIE_MAX", 4, 31, 16, .ro, 0, [], .any⟩,
  ⟨"HV_MAX", 4, 15, 0, .ro, 0, [], .any⟩,
  ⟨"SHUTDOWNS", 8, 31, 16, .ro, 0, [], .any⟩,
  ⟨"THROTTLE_STEPS", 8, 15, 0, .ro, 0, [], .any⟩]⟩
def obj_THERM_SENSOR : Obj := ⟨"THERM_SENSOR", 0x0E000100, [(10, 4)], 4, [
  ⟨"TEMP", 0, 31, 16, .ro, 0, [], .any⟩,
  ⟨"PEAK", 0, 15, 0, .ro, 0, [], .any⟩]⟩
def obj_THERM_CFG : Obj := ⟨"THERM_CFG", 0x0E000200, [], 4, [
  ⟨"LB_DECIMATE", 0, 0, 0, .sh, 1, [], .any⟩]⟩
def obj_THERM_NTC_LIM : Obj := ⟨"THERM_NTC_LIM", 0x0E000300, [], 4, [
  ⟨"WARN", 0, 23, 16, .sh, 90, [], .any⟩,
  ⟨"THROTTLE", 0, 15, 8, .sh, 100, [], .any⟩,
  ⟨"SHUTDOWN", 0, 7, 0, .sh, 115, [], .any⟩]⟩
def obj_THERM_CELL_LIM : Obj := ⟨"THERM_CELL_LIM", 0x0E000310, [(3, 4)], 4, [
  ⟨"WARN", 0, 23, 16, .sh, 100, [(2, 70)], .any⟩,
  ⟨"THROTTLE", 0, 15, 8, .sh, 110, [(2, 80)], .any⟩,
  ⟨"SHUTDOWN", 0, 7, 0, .sh, 125, [(2, 90)], .any⟩]⟩
def obj_THERM_DRV : Obj := ⟨"THERM_DRV", 0x0E000400, [], 4, [
  ⟨"F_DRV", 0, 31, 28, .ro, 8, [], .any⟩,
  ⟨"LEVEL_NTC0", 0, 27, 26, .ro, 0, [], .any⟩,
  ⟨"LEVEL_NTC1", 0, 25, 24, .ro, 0, [], .any⟩]⟩
def obj_JRNL_STAT : Obj := ⟨"JRNL_STAT", 0x0F000000, [], 16, [
  ⟨"OLDEST", 0, 31, 0, .ro, 0, [], .any⟩,
  ⟨"NEWEST", 4, 31, 0, .ro, 0, [], .any⟩,
  ⟨"OVERFLOW", 8, 31, 0, .ro, 0, [], .any⟩,
  ⟨"DROPPED", 12, 31, 16, .ro, 0, [], .any⟩,
  ⟨"QUEUED", 12, 15, 0, .ro, 0, [], .any⟩]⟩

/-- The objects of block 0x00, Identity and life cycle (R7). -/
def objsOfBlock00 : List Obj := [obj_ID_DEVICE, obj_ID_RESET_CAUSE, obj_ID_SUPPLY_STAT, obj_ID_VIO_STAT, obj_ID_STRAP, obj_ID_KEEPALIVE_CNT, obj_ID_BOOT_COUNT, obj_ID_UPTIME, obj_LC_STATE, obj_LC_CHALLENGE, obj_ID_FW_STAT, obj_ID_FW_ROLLBACK]

/-- The objects of block 0x01, Clocks and time (R7). -/
def objsOfBlock01 : List Obj := [obj_CLK_STAT, obj_CLK_LKF, obj_CLK_SYS_TARGET, obj_CLK_SYS_NOW, obj_CLK_LANE_SPREAD, obj_CLK_DITHER_SEED, obj_CLK_STAGE_PERIOD, obj_CLK_LANE_REF, obj_CLK_EVENTS, obj_CLK_RAMP, obj_CLK_RAMP_STAT, obj_CLK_RAMP_SEG, obj_CLK_STAGE_COUNT, obj_TIME_BASE, obj_TIME_STAGE_STAMP, obj_TIME_STAMP_BASE, obj_TIME_GRID_CTRL, obj_TIME_GRID_STAT, obj_TIME_GRID_OFFSET]

/-- The objects of block 0x02, Memory control (R7). -/
def objsOfBlock02 : List Obj := [obj_MEM_STAT, obj_MEM_ECC_CNT, obj_MEM_ECC_LAST, obj_MEM_MARCH_CTRL, obj_MEM_MARCH_STAT, obj_MEM_MARCH_FAIL, obj_MEM_TAMPER_STAT, obj_MEM_LOGBOOK_STAT, obj_MEM_SNAP]

/-- The objects of block 0x03, Command interface (R7). -/
def objsOfBlock03 : List Obj := [obj_CMD_CFG, obj_CMD_CAN_PATH, obj_CMD_SESSION, obj_CMD_PATH_STAT, obj_CMD_MON_CFG, obj_CMD_MON_STAT]

/-- The objects of block 0x04, Routes and links (R7). -/
def objsOfBlock04 : List Obj := [obj_ROUTE_TABLE, obj_LANE_GLOBAL, obj_ROUTE_CFG, obj_ROUTE_STAT, obj_ROUTE_RUN, obj_ARM_CFG, obj_LANE_CFG, obj_LANE_STAT, obj_LANE_CNT]

/-- The objects of block 0x05, Cell table (R7). -/
def objsOfBlock05 : List Obj := [obj_CELL_ID, obj_CELL_LINK, obj_CELL_LEDGER, obj_CELL_SVC, obj_CELL_THERM, obj_CELL_CAP, obj_CELL_PARCEL]

/-- The objects of block 0x06, Modulator (R7). -/
def objsOfBlock06 : List Obj := [obj_MOD_CFG, obj_MOD_STAT, obj_MOD_GROUP, obj_MOD_EVENTS, obj_MOD_ARM, obj_MOD_DRV, obj_MOD_CELL]

/-- The objects of block 0x07, Loop table (R7). -/
def objsOfBlock07 : List Obj := [obj_LOOP_CFG, obj_LOOP_STAT, obj_LOOP_CHECK, obj_LOOP_SLOT_CFG, obj_LOOP_REGION, obj_LOOP_SLOT_MODE, obj_LOOP_SLOT_STATE]

/-- The objects of block 0x08, Converter policy (R7). -/
def objsOfBlock08 : List Obj := [obj_POL_STATE, obj_POL_EVENTS, obj_POL_CFG, obj_POL_SEQ, obj_POL_GRID, obj_POL_GRID_STAT, obj_POL_SETPOINT, obj_POL_CAP, obj_POL_ARM]

/-- The objects of block 0x09, Drive stage (R7). -/
def objsOfBlock09 : List Obj := [obj_DRV_STAT, obj_DRV_TRIP, obj_DRV_CHAN, obj_DRV_EVENTS, obj_DRV_CFG, obj_DRV_GATE, obj_DRV_SOFT, obj_DRV_PROT, obj_DRV_MOTOR, obj_DRV_ENC, obj_DRV_NTC]

/-- The objects of block 0x0A, Measurement (R7). -/
def objsOfBlock10 : List Obj := [obj_MEAS_ADC_CFG, obj_MEAS_DATA, obj_MEAS_SD_CFG, obj_MEAS_SD_STAT, obj_MEAS_CAL, obj_MEAS_CAL_CFG, obj_MEAS_RELIEF, obj_MEAS_STOP, obj_MEAS_RESULT, obj_MEAS_SCALE]

/-- The objects of block 0x0B, Faults and pair (R7). -/
def objsOfBlock11 : List Obj := [obj_FLT_CFG, obj_FLT_STAT, obj_FLT_COUNT, obj_FLT_LATCH, obj_PAIR_CFG, obj_PAIR_STAT, obj_PAIR_PERMIT, obj_PAIR_EVENTS, obj_PAIR_LAST]

/-- The objects of block 0x0C, Safety (R7). -/
def objsOfBlock12 : List Obj := [obj_SAFE_STAT, obj_SAFE_IN, obj_SAFE_OUT, obj_SAFE_LOCK, obj_SAFE_PARAM_ACTIVE_IN, obj_SAFE_PARAM_ACTIVE_OUT, obj_SAFE_PARAM_ACTIVE, obj_SAFE_PARAM_PENDING_IN, obj_SAFE_PARAM_PENDING_OUT, obj_SAFE_PARAM_PENDING, obj_SAFE_EVENTS]

/-- The objects of block 0x0D, Networks (R7). -/
def objsOfBlock13 : List Obj := [obj_ETH_CFG, obj_ETH_STAT, obj_ETH_MDIO, obj_ETH_TELEGRAM, obj_PTP_CFG, obj_PTP_PORT, obj_PTP_PARENT, obj_CAN_CFG, obj_CAN_STAT, obj_CAN_OBJ, obj_CAN_OBJ_DATA]

/-- The objects of block 0x0E, Thermal (R7). -/
def objsOfBlock14 : List Obj := [obj_THERM_STAT, obj_THERM_SENSOR, obj_THERM_CFG, obj_THERM_NTC_LIM, obj_THERM_CELL_LIM, obj_THERM_DRV]

/-- The objects of block 0x0F, Journal (R7). -/
def objsOfBlock15 : List Obj := [obj_JRNL_STAT]

/-- The objects of a block of the object address space (R7). -/
def objsOfBlock : Nat → List Obj
  | 0 => objsOfBlock00
  | 1 => objsOfBlock01
  | 2 => objsOfBlock02
  | 3 => objsOfBlock03
  | 4 => objsOfBlock04
  | 5 => objsOfBlock05
  | 6 => objsOfBlock06
  | 7 => objsOfBlock07
  | 8 => objsOfBlock08
  | 9 => objsOfBlock09
  | 10 => objsOfBlock10
  | 11 => objsOfBlock11
  | 12 => objsOfBlock12
  | 13 => objsOfBlock13
  | 14 => objsOfBlock14
  | 15 => objsOfBlock15
  | _ => []

/-- A whole object of the map (R6, R105): its base, its indices and its size in bytes. -/
abbrev Span := Nat × List (Nat × Nat) × Nat

def spansOfBlock00 : List Span := [
  (0x00000000, [], 16),
  (0x00000400, [], 4),
  (0x00000404, [], 4),
  (0x00000408, [], 4),
  (0x0000040C, [], 4),
  (0x00000410, [], 4),
  (0x00000414, [], 4),
  (0x00000420, [], 16),
  (0x00000800, [], 4),
  (0x00000810, [], 32),
  (0x00000C00, [], 24)]
def spansOfBlock01 : List Span := [
  (0x01000000, [], 4),
  (0x01000004, [], 4),
  (0x01000008, [], 4),
  (0x0100000C, [], 4),
  (0x01000010, [], 4),
  (0x01000014, [], 4),
  (0x01000018, [], 4),
  (0x0100001C, [], 4),
  (0x01000020, [], 4),
  (0x01000100, [(2, 0x100)], 144),
  (0x01001000, [], 8),
  (0x01002000, [(4, 0x10)], 16),
  (0x01002040, [], 72),
  (0x01002100, [], 4),
  (0x01002104, [], 4),
  (0x01002108, [], 4)]
def spansOfBlock02 : List Span := [
  (0x02000000, [], 4),
  (0x02000004, [], 8),
  (0x0200000C, [], 4),
  (0x02000010, [], 4),
  (0x02000014, [], 4),
  (0x02000018, [], 4),
  (0x02000020, [], 4),
  (0x02000030, [], 12),
  (0x02000100, [(4, 0x10)], 16)]
def spansOfBlock03 : List Span := [
  (0x03000000, [], 4),
  (0x03000010, [(2, 8)], 8),
  (0x03000100, [(4, 0x20)], 28),
  (0x03000200, [(5, 0x10)], 16),
  (0x03000300, [], 4),
  (0x03000310, [], 16)]
def spansOfBlock04 : List Span := [
  (0x04000000, [], 4),
  (0x04000010, [], 4),
  (0x04000100, [(24, 0x10)], 8),
  (0x04000400, [(24, 0x10)], 12),
  (0x04000600, [(24, 0x10)], 16),
  (0x04000800, [(24, 8)], 8),
  (0x04001000, [(50, 0x40)], 4),
  (0x04001010, [(50, 0x40)], 4),
  (0x04001020, [(50, 0x40)], 16)]
def spansOfBlock05 : List Span := [
  (0x05000000, [(512, 0x100)], 16),
  (0x05000010, [(512, 0x100)], 16),
  (0x05000020, [(512, 0x100)], 32),
  (0x05000040, [(512, 0x100)], 64),
  (0x05000080, [(512, 0x100)], 16),
  (0x05000090, [(512, 0x100)], 16),
  (0x050000A0, [(512, 0x100)], 16)]
def spansOfBlock06 : List Span := [
  (0x06000000, [], 12),
  (0x06000010, [], 8),
  (0x06000100, [(5, 0x10)], 8),
  (0x06000200, [(5, 0x10)], 16),
  (0x06000400, [(24, 8)], 8),
  (0x06000800, [], 12),
  (0x06004000, [(512, 0x10)], 16)]
def spansOfBlock07 : List Span := [
  (0x07000000, [], 4),
  (0x07000010, [], 16),
  (0x07000030, [], 16),
  (0x07100000, [(2048, 0x40)], 64),
  (0x07200000, [(2048, 0x80)], 128),
  (0x07300000, [(2048, 8)], 8),
  (0x07400000, [(2048, 0x20)], 32)]
def spansOfBlock08 : List Span := [
  (0x08000000, [], 16),
  (0x08000010, [], 16),
  (0x08000100, [], 44),
  (0x08000200, [], 28),
  (0x08000300, [], 28),
  (0x08000340, [], 16),
  (0x08000400, [(4, 0x10)], 16),
  (0x08000500, [], 12),
  (0x08001000, [(24, 0x20)], 32)]
def spansOfBlock09 : List Span := [
  (0x09000000, [], 4),
  (0x09000004, [], 4),
  (0x09000040, [(7, 8)], 8),
  (0x09000080, [], 16),
  (0x09000100, [], 4),
  (0x09000200, [(7, 0x10)], 8),
  (0x09000300, [], 4),
  (0x09000310, [], 12),
  (0x09000400, [], 48),
  (0x09000500, [], 20),
  (0x09000600, [], 8)]
def spansOfBlock10 : List Span := [
  (0x0A000000, [(4, 0x10)], 8),
  (0x0A000100, [(5, 8)], 8),
  (0x0A000200, [], 8),
  (0x0A000210, [], 8),
  (0x0A000300, [(9, 0x20)], 32),
  (0x0A000500, [], 4),
  (0x0A000510, [], 8),
  (0x0A010000, [(4, 0x200), (64, 8)], 8),
  (0x0A020000, [(260, 0x10)], 16),
  (0x0A030000, [(256, 8)], 8)]
def spansOfBlock11 : List Span := [
  (0x0B000000, [], 4),
  (0x0B000010, [], 8),
  (0x0B000020, [], 20),
  (0x0B000100, [(16, 0x10)], 16),
  (0x0B001000, [], 4),
  (0x0B001010, [], 16),
  (0x0B001020, [], 4),
  (0x0B001030, [], 20),
  (0x0B001050, [], 8)]
def spansOfBlock12 : List Span := [
  (0x0C000000, [], 16),
  (0x0C000100, [(8, 0x10)], 16),
  (0x0C000200, [(4, 0x10)], 16),
  (0x0C000300, [], 16),
  (0x0C000400, [], 64),
  (0x0C000440, [], 64),
  (0x0C000480, [], 16)]
def spansOfBlock13 : List Span := [
  (0x0D000000, [(2, 0x40)], 28),
  (0x0D000100, [(2, 0x40)], 28),
  (0x0D000200, [(2, 0x10)], 4),
  (0x0D000400, [(4, 0x20)], 32),
  (0x0D100000, [], 12),
  (0x0D100100, [(2, 0x20)], 20),
  (0x0D100200, [], 20),
  (0x0D200000, [(2, 0x10000)], 20),
  (0x0D200100, [(2, 0x10000)], 20),
  (0x0D201000, [(2, 0x10000), (128, 0x80)], 128),
  (0x0D208000, [(2, 0x10000), (256, 0x50)], 80)]
def spansOfBlock14 : List Span := [
  (0x0E000000, [], 12),
  (0x0E000100, [(10, 4)], 4),
  (0x0E000200, [], 4),
  (0x0E000300, [], 4),
  (0x0E000310, [(3, 4)], 4),
  (0x0E000400, [], 4)]
def spansOfBlock15 : List Span := [
  (0x0F000000, [], 16)]

/-- The whole objects of a block (R104). -/
def spansOfBlock : Nat → List Span
  | 0 => spansOfBlock00
  | 1 => spansOfBlock01
  | 2 => spansOfBlock02
  | 3 => spansOfBlock03
  | 4 => spansOfBlock04
  | 5 => spansOfBlock05
  | 6 => spansOfBlock06
  | 7 => spansOfBlock07
  | 8 => spansOfBlock08
  | 9 => spansOfBlock09
  | 10 => spansOfBlock10
  | 11 => spansOfBlock11
  | 12 => spansOfBlock12
  | 13 => spansOfBlock13
  | 14 => spansOfBlock14
  | 15 => spansOfBlock15
  | _ => []

end Sys2Proof.Machine
end

