-- ==== Sys2Proof/Machine/RegMap.lean ====
section
/-! DEFINITION. The register fields of the object address space (spec R7, R8 and the field maps of chapters 02 to 17): one
`Fld` for every field of every object, at the address and the bits its field map gives. An object with one instance per
index takes the index (or indices) as arguments, at the stated base plus index times stride (R7). -/

namespace Sys2Proof.Machine


/-! Block 0x00: Identity and life cycle. -/

-- ID_DEVICE: R134
def Reg.ID_DEVICE_PART : Fld := ⟨0x00000000, 31, 16⟩
def Reg.ID_DEVICE_CTRL_DIE_REV : Fld := ⟨0x00000000, 15, 8⟩
def Reg.ID_DEVICE_HV_DIE_REV : Fld := ⟨0x00000000, 7, 0⟩
def Reg.ID_DEVICE_SAFE_DIE_REV : Fld := ⟨0x00000004, 7, 0⟩
def Reg.ID_DEVICE_SERIAL_HI : Fld := ⟨0x00000008, 31, 0⟩
def Reg.ID_DEVICE_SERIAL_LO : Fld := ⟨0x0000000C, 31, 0⟩
-- ID_RESET_CAUSE: R52
def Reg.ID_RESET_CAUSE_SUPPLY_OV : Fld := ⟨0x00000400, 6, 6⟩
def Reg.ID_RESET_CAUSE_FIRMWARE : Fld := ⟨0x00000400, 5, 5⟩
def Reg.ID_RESET_CAUSE_WATCHDOG : Fld := ⟨0x00000400, 4, 4⟩
def Reg.ID_RESET_CAUSE_THERMAL : Fld := ⟨0x00000400, 3, 3⟩
def Reg.ID_RESET_CAUSE_PIN : Fld := ⟨0x00000400, 2, 2⟩
def Reg.ID_RESET_CAUSE_KEEPALIVE : Fld := ⟨0x00000400, 1, 1⟩
def Reg.ID_RESET_CAUSE_POR : Fld := ⟨0x00000400, 0, 0⟩
-- ID_SUPPLY_STAT: R53
def Reg.ID_SUPPLY_STAT_VIN_MV : Fld := ⟨0x00000404, 31, 16⟩
def Reg.ID_SUPPLY_STAT_VGD_DV : Fld := ⟨0x00000404, 15, 8⟩
def Reg.ID_SUPPLY_STAT_VGD_OK : Fld := ⟨0x00000404, 3, 3⟩
def Reg.ID_SUPPLY_STAT_OV_SEEN : Fld := ⟨0x00000404, 2, 2⟩
def Reg.ID_SUPPLY_STAT_BROWNOUT_SEEN : Fld := ⟨0x00000404, 1, 1⟩
def Reg.ID_SUPPLY_STAT_FULL_OP : Fld := ⟨0x00000404, 0, 0⟩
-- ID_VIO_STAT: R54
def Reg.ID_VIO_STAT_FAULT_SEEN0 : Fld := ⟨0x00000408, 2, 2⟩
def Reg.ID_VIO_STAT_CLASS0 : Fld := ⟨0x00000408, 1, 0⟩
def Reg.ID_VIO_STAT_FAULT_SEEN1 : Fld := ⟨0x00000408, 6, 6⟩
def Reg.ID_VIO_STAT_CLASS1 : Fld := ⟨0x00000408, 5, 4⟩
def Reg.ID_VIO_STAT_FAULT_SEEN2 : Fld := ⟨0x00000408, 10, 10⟩
def Reg.ID_VIO_STAT_CLASS2 : Fld := ⟨0x00000408, 9, 8⟩
def Reg.ID_VIO_STAT_FAULT_SEEN3 : Fld := ⟨0x00000408, 14, 14⟩
def Reg.ID_VIO_STAT_CLASS3 : Fld := ⟨0x00000408, 13, 12⟩
-- ID_STRAP: R55
def Reg.ID_STRAP_ROLE : Fld := ⟨0x0000040C, 3, 2⟩
def Reg.ID_STRAP_ROLE01_PAD : Fld := ⟨0x0000040C, 1, 1⟩
def Reg.ID_STRAP_ROLE00_PAD : Fld := ⟨0x0000040C, 0, 0⟩
-- ID_KEEPALIVE_CNT: R56
def Reg.ID_KEEPALIVE_CNT_COUNT : Fld := ⟨0x00000410, 31, 0⟩
-- ID_BOOT_COUNT: R135
def Reg.ID_BOOT_COUNT_COUNT : Fld := ⟨0x00000414, 31, 0⟩
-- ID_UPTIME: R600
def Reg.ID_UPTIME_RESTART_HI : Fld := ⟨0x00000420, 31, 0⟩
def Reg.ID_UPTIME_RESTART_LO : Fld := ⟨0x00000424, 31, 0⟩
def Reg.ID_UPTIME_COLD_HI : Fld := ⟨0x00000428, 31, 0⟩
def Reg.ID_UPTIME_COLD_LO : Fld := ⟨0x0000042C, 31, 0⟩
-- LC_STATE: R136
def Reg.LC_STATE_CHANGE_COUNT : Fld := ⟨0x00000800, 31, 16⟩
def Reg.LC_STATE_CONFIG_DIRTY : Fld := ⟨0x00000800, 9, 9⟩
def Reg.LC_STATE_SECRETS_PRESENT : Fld := ⟨0x00000800, 8, 8⟩
def Reg.LC_STATE_CHANGE_BUSY : Fld := ⟨0x00000800, 7, 7⟩
def Reg.LC_STATE_STATE : Fld := ⟨0x00000800, 2, 0⟩
-- LC_CHALLENGE: R137
def Reg.LC_CHALLENGE_NONCE (i : Nat) : Fld := ⟨0x00000810 + 4 * i, 31, 0⟩
-- ID_FW_STAT: R599
def Reg.ID_FW_STAT_STATE (s : Nat) : Fld := ⟨0x00000C00 + 8 * s, 31, 29⟩
def Reg.ID_FW_STAT_BOOTED (s : Nat) : Fld := ⟨0x00000C00 + 8 * s, 28, 28⟩
def Reg.ID_FW_STAT_TRIAL_STARTS (s : Nat) : Fld := ⟨0x00000C00 + 8 * s, 27, 26⟩
def Reg.ID_FW_STAT_ROLLBACK (s : Nat) : Fld := ⟨0x00000C00 + 8 * s, 15, 0⟩
def Reg.ID_FW_STAT_VERSION (s : Nat) : Fld := ⟨0x00000C04 + 8 * s, 31, 0⟩
-- ID_FW_ROLLBACK: R599
def Reg.ID_FW_ROLLBACK_ROLLBACK_MIN : Fld := ⟨0x00000C10, 31, 16⟩
def Reg.ID_FW_ROLLBACK_FIRMWARE_ID : Fld := ⟨0x00000C14, 31, 0⟩

/-! Block 0x01: Clocks and time. -/

-- CLK_STAT: R88
def Reg.CLK_STAT_LOST_SEEN : Fld := ⟨0x01000000, 15, 12⟩
def Reg.CLK_STAT_RAMP_LANE : Fld := ⟨0x01000000, 9, 9⟩
def Reg.CLK_STAT_RAMP_SYS : Fld := ⟨0x01000000, 8, 8⟩
def Reg.CLK_STAT_HOLDOVER : Fld := ⟨0x01000000, 7, 7⟩
def Reg.CLK_STAT_XIN_OK : Fld := ⟨0x01000000, 6, 6⟩
def Reg.CLK_STAT_SAFE_CLK : Fld := ⟨0x01000000, 5, 5⟩
def Reg.CLK_STAT_LKF_OPEN : Fld := ⟨0x01000000, 4, 4⟩
def Reg.CLK_STAT_LOCKED : Fld := ⟨0x01000000, 3, 0⟩
-- CLK_LKF: R89
def Reg.CLK_LKF_LKF_SYS_MV : Fld := ⟨0x01000004, 31, 16⟩
def Reg.CLK_LKF_LKF_LANE_MV : Fld := ⟨0x01000004, 15, 0⟩
-- CLK_SYS_TARGET: R90
def Reg.CLK_SYS_TARGET_OFFSET_PPM : Fld := ⟨0x01000008, 17, 0⟩
-- CLK_SYS_NOW: R91
def Reg.CLK_SYS_NOW_CORE_DIV : Fld := ⟨0x0100000C, 29, 28⟩
def Reg.CLK_SYS_NOW_OFFSET_PPM : Fld := ⟨0x0100000C, 17, 0⟩
-- CLK_LANE_SPREAD: R92
def Reg.CLK_LANE_SPREAD_FMOD : Fld := ⟨0x01000010, 29, 21⟩
def Reg.CLK_LANE_SPREAD_DEPTH : Fld := ⟨0x01000010, 20, 8⟩
def Reg.CLK_LANE_SPREAD_EN : Fld := ⟨0x01000010, 0, 0⟩
-- CLK_DITHER_SEED: R93
def Reg.CLK_DITHER_SEED_SEED : Fld := ⟨0x01000014, 15, 0⟩
-- CLK_STAGE_PERIOD: R94
def Reg.CLK_STAGE_PERIOD_TS : Fld := ⟨0x01000018, 12, 0⟩
-- CLK_LANE_REF: R95
def Reg.CLK_LANE_REF_SOURCE : Fld := ⟨0x0100001C, 1, 0⟩
-- CLK_EVENTS: R96
def Reg.CLK_EVENTS_XIN_LOST : Fld := ⟨0x01000020, 31, 24⟩
def Reg.CLK_EVENTS_SAFE_SWITCH : Fld := ⟨0x01000020, 23, 16⟩
def Reg.CLK_EVENTS_LANE_UNLOCK : Fld := ⟨0x01000020, 15, 8⟩
def Reg.CLK_EVENTS_SYS_UNLOCK : Fld := ⟨0x01000020, 7, 0⟩
-- CLK_RAMP: R97
def Reg.CLK_RAMP_SLOPE_LIMIT (g : Nat) : Fld := ⟨0x01000100 + 0x100 * g, 31, 16⟩
def Reg.CLK_RAMP_ABORT (g : Nat) : Fld := ⟨0x01000100 + 0x100 * g, 10, 10⟩
def Reg.CLK_RAMP_START (g : Nat) : Fld := ⟨0x01000100 + 0x100 * g, 9, 9⟩
def Reg.CLK_RAMP_REPEAT (g : Nat) : Fld := ⟨0x01000100 + 0x100 * g, 8, 8⟩
def Reg.CLK_RAMP_SEG_COUNT (g : Nat) : Fld := ⟨0x01000100 + 0x100 * g, 4, 0⟩
-- CLK_RAMP_STAT: R97
def Reg.CLK_RAMP_STAT_CUR_SEG (g : Nat) : Fld := ⟨0x01000104 + 0x100 * g, 23, 20⟩
def Reg.CLK_RAMP_STAT_CUR_OFFSET (g : Nat) : Fld := ⟨0x01000104 + 0x100 * g, 17, 0⟩
-- CLK_RAMP_SEG: R97
def Reg.CLK_RAMP_SEG_END_OFFSET (g : Nat) (j : Nat) : Fld := ⟨0x01000110 + 0x100 * g + 8 * j, 31, 0⟩
def Reg.CLK_RAMP_SEG_SLOPE (g : Nat) (j : Nat) : Fld := ⟨0x01000114 + 0x100 * g + 8 * j, 31, 16⟩
def Reg.CLK_RAMP_SEG_HOLD (g : Nat) (j : Nat) : Fld := ⟨0x01000114 + 0x100 * g + 8 * j, 15, 0⟩
-- CLK_STAGE_COUNT: R98
def Reg.CLK_STAGE_COUNT_COUNT_HI : Fld := ⟨0x01001000, 15, 0⟩
def Reg.CLK_STAGE_COUNT_COUNT_LO : Fld := ⟨0x01001004, 31, 0⟩
-- TIME_BASE: R99
def Reg.TIME_BASE_SECONDS_HI (b : Nat) : Fld := ⟨0x01002000 + 0x10 * b, 31, 0⟩
def Reg.TIME_BASE_SECONDS_LO (b : Nat) : Fld := ⟨0x01002004 + 0x10 * b, 31, 0⟩
def Reg.TIME_BASE_NANOSECONDS (b : Nat) : Fld := ⟨0x01002008 + 0x10 * b, 31, 0⟩
def Reg.TIME_BASE_FRACTION (b : Nat) : Fld := ⟨0x0100200C + 0x10 * b, 31, 16⟩
def Reg.TIME_BASE_HOLDOVER (b : Nat) : Fld := ⟨0x0100200C + 0x10 * b, 2, 2⟩
def Reg.TIME_BASE_SYNCED (b : Nat) : Fld := ⟨0x0100200C + 0x10 * b, 1, 1⟩
-- TIME_STAGE_STAMP: R100
def Reg.TIME_STAGE_STAMP_STAGE_HI : Fld := ⟨0x01002040, 31, 0⟩
def Reg.TIME_STAGE_STAMP_STAGE_LO : Fld := ⟨0x01002044, 31, 0⟩
-- TIME_STAMP_BASE: R100
def Reg.TIME_STAMP_BASE_SECONDS_HI (b : Nat) : Fld := ⟨0x01002048 + 0x10 * b, 31, 0⟩
def Reg.TIME_STAMP_BASE_SECONDS_LO (b : Nat) : Fld := ⟨0x0100204C + 0x10 * b, 31, 0⟩
def Reg.TIME_STAMP_BASE_NANOSECONDS (b : Nat) : Fld := ⟨0x01002050 + 0x10 * b, 31, 0⟩
def Reg.TIME_STAMP_BASE_FRACTION (b : Nat) : Fld := ⟨0x01002054 + 0x10 * b, 31, 16⟩
def Reg.TIME_STAMP_BASE_HOLDOVER (b : Nat) : Fld := ⟨0x01002054 + 0x10 * b, 2, 2⟩
def Reg.TIME_STAMP_BASE_SYNCED (b : Nat) : Fld := ⟨0x01002054 + 0x10 * b, 1, 1⟩
-- TIME_GRID_CTRL: R101
def Reg.TIME_GRID_CTRL_STEP_US : Fld := ⟨0x01002100, 31, 16⟩
def Reg.TIME_GRID_CTRL_NO_STEP_IN_RUN : Fld := ⟨0x01002100, 15, 15⟩
def Reg.TIME_GRID_CTRL_SLEW_PPM : Fld := ⟨0x01002100, 9, 0⟩
-- TIME_GRID_STAT: R102
def Reg.TIME_GRID_STAT_STEP_COUNT : Fld := ⟨0x01002104, 31, 16⟩
def Reg.TIME_GRID_STAT_STATE : Fld := ⟨0x01002104, 2, 0⟩
-- TIME_GRID_OFFSET: R103
def Reg.TIME_GRID_OFFSET_OFFSET_NS : Fld := ⟨0x01002108, 31, 0⟩

/-! Block 0x02: Memory control. -/

-- MEM_STAT: R138
def Reg.MEM_STAT_BANK_FAIL : Fld := ⟨0x02000000, 15, 15⟩
def Reg.MEM_STAT_SPARE_ROWS_USED : Fld := ⟨0x02000000, 9, 0⟩
-- MEM_ECC_CNT: R139
def Reg.MEM_ECC_CNT_CE : Fld := ⟨0x02000004, 31, 0⟩
def Reg.MEM_ECC_CNT_UE : Fld := ⟨0x02000008, 31, 0⟩
-- MEM_ECC_LAST: R140
def Reg.MEM_ECC_LAST_KIND : Fld := ⟨0x0200000C, 31, 31⟩
def Reg.MEM_ECC_LAST_REGION : Fld := ⟨0x0200000C, 30, 29⟩
def Reg.MEM_ECC_LAST_WORD : Fld := ⟨0x0200000C, 23, 0⟩
-- MEM_MARCH_CTRL: R141
def Reg.MEM_MARCH_CTRL_BG_EN : Fld := ⟨0x02000010, 0, 0⟩
-- MEM_MARCH_STAT: R142
def Reg.MEM_MARCH_STAT_PASS_COUNT : Fld := ⟨0x02000014, 31, 16⟩
def Reg.MEM_MARCH_STAT_BANK : Fld := ⟨0x02000014, 15, 10⟩
def Reg.MEM_MARCH_STAT_RUNNING : Fld := ⟨0x02000014, 9, 9⟩
def Reg.MEM_MARCH_STAT_FAIL_SEEN : Fld := ⟨0x02000014, 8, 8⟩
-- MEM_MARCH_FAIL: R142
def Reg.MEM_MARCH_FAIL_BANK : Fld := ⟨0x02000018, 29, 24⟩
def Reg.MEM_MARCH_FAIL_ROW : Fld := ⟨0x02000018, 23, 14⟩
def Reg.MEM_MARCH_FAIL_WORD : Fld := ⟨0x02000018, 7, 0⟩
-- MEM_TAMPER_STAT: R143
def Reg.MEM_TAMPER_STAT_WIPE_COUNT : Fld := ⟨0x02000020, 31, 16⟩
def Reg.MEM_TAMPER_STAT_SEEN : Fld := ⟨0x02000020, 7, 4⟩
def Reg.MEM_TAMPER_STAT_WIPING : Fld := ⟨0x02000020, 2, 2⟩
def Reg.MEM_TAMPER_STAT_LID_NOW : Fld := ⟨0x02000020, 1, 1⟩
def Reg.MEM_TAMPER_STAT_TAMP_NOW : Fld := ⟨0x02000020, 0, 0⟩
-- MEM_LOGBOOK_STAT: R144
def Reg.MEM_LOGBOOK_STAT_FROZEN : Fld := ⟨0x02000030, 31, 31⟩
def Reg.MEM_LOGBOOK_STAT_POST_RUNNING : Fld := ⟨0x02000030, 30, 30⟩
def Reg.MEM_LOGBOOK_STAT_NEWEST_SLOT : Fld := ⟨0x02000030, 12, 0⟩
def Reg.MEM_LOGBOOK_STAT_TRIGGER_SLOT : Fld := ⟨0x02000034, 12, 0⟩
def Reg.MEM_LOGBOOK_STAT_POST_COUNT : Fld := ⟨0x02000038, 11, 0⟩
-- MEM_SNAP: R145
def Reg.MEM_SNAP_VALID (s : Nat) : Fld := ⟨0x02000100 + 0x10 * s, 31, 31⟩
def Reg.MEM_SNAP_COPYING (s : Nat) : Fld := ⟨0x02000100 + 0x10 * s, 30, 30⟩
def Reg.MEM_SNAP_LENGTH (s : Nat) : Fld := ⟨0x02000100 + 0x10 * s, 18, 0⟩
def Reg.MEM_SNAP_STAGE_HI (s : Nat) : Fld := ⟨0x02000104 + 0x10 * s, 15, 0⟩
def Reg.MEM_SNAP_STAGE_LO (s : Nat) : Fld := ⟨0x02000108 + 0x10 * s, 31, 0⟩
def Reg.MEM_SNAP_BOOT (s : Nat) : Fld := ⟨0x0200010C + 0x10 * s, 31, 16⟩

/-! Block 0x03: Command interface. -/

-- CMD_CFG: R180
def Reg.CMD_CFG_IDLE_S : Fld := ⟨0x03000000, 31, 16⟩
def Reg.CMD_CFG_CANB_EN : Fld := ⟨0x03000000, 4, 4⟩
def Reg.CMD_CFG_CANA_EN : Fld := ⟨0x03000000, 3, 3⟩
def Reg.CMD_CFG_ETHB_EN : Fld := ⟨0x03000000, 2, 2⟩
def Reg.CMD_CFG_ETHA_EN : Fld := ⟨0x03000000, 1, 1⟩
-- CMD_CAN_PATH: R181
def Reg.CMD_CAN_PATH_REQ_IDE (c : Nat) : Fld := ⟨0x03000010 + 8 * c, 31, 31⟩
def Reg.CMD_CAN_PATH_REQ_ID (c : Nat) : Fld := ⟨0x03000010 + 8 * c, 28, 0⟩
def Reg.CMD_CAN_PATH_RSP_IDE (c : Nat) : Fld := ⟨0x03000014 + 8 * c, 31, 31⟩
def Reg.CMD_CAN_PATH_RSP_ID (c : Nat) : Fld := ⟨0x03000014 + 8 * c, 28, 0⟩
-- CMD_SESSION: R182
def Reg.CMD_SESSION_OPEN (s : Nat) : Fld := ⟨0x03000100 + 0x20 * s, 31, 31⟩
def Reg.CMD_SESSION_PATH (s : Nat) : Fld := ⟨0x03000100 + 0x20 * s, 30, 28⟩
def Reg.CMD_SESSION_OUTSTANDING (s : Nat) : Fld := ⟨0x03000100 + 0x20 * s, 6, 0⟩
def Reg.CMD_SESSION_BASE_SEQ (s : Nat) : Fld := ⟨0x03000104 + 0x20 * s, 31, 0⟩
def Reg.CMD_SESSION_SOURCE_IP (s : Nat) : Fld := ⟨0x03000108 + 0x20 * s, 31, 0⟩
def Reg.CMD_SESSION_SOURCE_PORT (s : Nat) : Fld := ⟨0x0300010C + 0x20 * s, 31, 16⟩
def Reg.CMD_SESSION_IDLE (s : Nat) : Fld := ⟨0x0300010C + 0x20 * s, 15, 0⟩
def Reg.CMD_SESSION_GAP_COUNT (s : Nat) : Fld := ⟨0x03000110 + 0x20 * s, 31, 16⟩
def Reg.CMD_SESSION_SHADOW_COUNT (s : Nat) : Fld := ⟨0x03000110 + 0x20 * s, 15, 0⟩
def Reg.CMD_SESSION_ACCEPTED (s : Nat) : Fld := ⟨0x03000114 + 0x20 * s, 31, 0⟩
def Reg.CMD_SESSION_DUPLICATE (s : Nat) : Fld := ⟨0x03000118 + 0x20 * s, 31, 0⟩
-- CMD_PATH_STAT: R183
def Reg.CMD_PATH_STAT_NOT_PACKET (p : Nat) : Fld := ⟨0x03000200 + 0x10 * p, 31, 0⟩
def Reg.CMD_PATH_STAT_CRC_FAILED (p : Nat) : Fld := ⟨0x03000204 + 0x10 * p, 31, 0⟩
def Reg.CMD_PATH_STAT_REPLY_DROPPED (p : Nat) : Fld := ⟨0x03000208 + 0x10 * p, 31, 0⟩
def Reg.CMD_PATH_STAT_CREDIT_EXCEEDED (p : Nat) : Fld := ⟨0x0300020C + 0x10 * p, 31, 0⟩
-- CMD_MON_CFG: R597
def Reg.CMD_MON_CFG_BAUD : Fld := ⟨0x03000300, 3, 0⟩
-- CMD_MON_STAT: R598
def Reg.CMD_MON_STAT_UNLOCKED : Fld := ⟨0x03000310, 31, 31⟩
def Reg.CMD_MON_STAT_BREAK_SEEN : Fld := ⟨0x03000310, 30, 30⟩
def Reg.CMD_MON_STAT_RECOVERY : Fld := ⟨0x03000310, 29, 29⟩
def Reg.CMD_MON_STAT_LOCK_IN_S : Fld := ⟨0x03000310, 15, 0⟩
def Reg.CMD_MON_STAT_UNLOCKS : Fld := ⟨0x03000314, 31, 16⟩
def Reg.CMD_MON_STAT_AUTH_FAILS : Fld := ⟨0x03000314, 15, 0⟩
def Reg.CMD_MON_STAT_FRAMING_ERR : Fld := ⟨0x03000318, 31, 0⟩
def Reg.CMD_MON_STAT_TX_DROPPED : Fld := ⟨0x0300031C, 31, 0⟩

/-! Block 0x04: Routes and links. -/

-- ROUTE_TABLE: R204
def Reg.ROUTE_TABLE_PAIRED : Fld := ⟨0x04000000, 31, 31⟩
def Reg.ROUTE_TABLE_TOTAL_CELLS : Fld := ⟨0x04000000, 9, 0⟩
-- LANE_GLOBAL: R232
def Reg.LANE_GLOBAL_MERGE_MS : Fld := ⟨0x04000010, 31, 16⟩
def Reg.LANE_GLOBAL_HOLD : Fld := ⟨0x04000010, 3, 0⟩
-- ROUTE_CFG: R205
def Reg.ROUTE_CFG_EN (n : Nat) : Fld := ⟨0x04000100 + 0x10 * n, 31, 31⟩
def Reg.ROUTE_CFG_CELL_COUNT (n : Nat) : Fld := ⟨0x04000100 + 0x10 * n, 5, 0⟩
def Reg.ROUTE_CFG_FIRST_INDEX (n : Nat) : Fld := ⟨0x04000104 + 0x10 * n, 9, 0⟩
-- ROUTE_STAT: R206
def Reg.ROUTE_STAT_STATE (n : Nat) : Fld := ⟨0x04000400 + 0x10 * n, 31, 29⟩
def Reg.ROUTE_STAT_HOPS_OUT (n : Nat) : Fld := ⟨0x04000400 + 0x10 * n, 23, 18⟩
def Reg.ROUTE_STAT_HOPS_RET (n : Nat) : Fld := ⟨0x04000400 + 0x10 * n, 17, 12⟩
def Reg.ROUTE_STAT_RING_CLOSED (n : Nat) : Fld := ⟨0x04000400 + 0x10 * n, 11, 11⟩
def Reg.ROUTE_STAT_REFUSE_CAUSE (n : Nat) : Fld := ⟨0x04000400 + 0x10 * n, 10, 8⟩
def Reg.ROUTE_STAT_MISMATCH (n : Nat) : Fld := ⟨0x04000400 + 0x10 * n, 5, 0⟩
def Reg.ROUTE_STAT_TRAIN_COUNT (n : Nat) : Fld := ⟨0x04000404 + 0x10 * n, 31, 16⟩
def Reg.ROUTE_STAT_TRAINED_STAGE (n : Nat) : Fld := ⟨0x04000408 + 0x10 * n, 31, 0⟩
-- ROUTE_RUN: R247
def Reg.ROUTE_RUN_REACH_OUT (n : Nat) : Fld := ⟨0x04000600 + 0x10 * n, 31, 26⟩
def Reg.ROUTE_RUN_REACH_RET (n : Nat) : Fld := ⟨0x04000600 + 0x10 * n, 25, 20⟩
def Reg.ROUTE_RUN_CLOSED (n : Nat) : Fld := ⟨0x04000600 + 0x10 * n, 19, 19⟩
def Reg.ROUTE_RUN_RELAY (n : Nat) : Fld := ⟨0x04000600 + 0x10 * n, 18, 18⟩
def Reg.ROUTE_RUN_SPLIT_COUNT (n : Nat) : Fld := ⟨0x04000604 + 0x10 * n, 31, 16⟩
def Reg.ROUTE_RUN_CLOSE_COUNT (n : Nat) : Fld := ⟨0x04000604 + 0x10 * n, 15, 0⟩
def Reg.ROUTE_RUN_RETURN_MISS (n : Nat) : Fld := ⟨0x04000608 + 0x10 * n, 31, 0⟩
def Reg.ROUTE_RUN_CHANGE_STAGE (n : Nat) : Fld := ⟨0x0400060C + 0x10 * n, 31, 0⟩
-- ARM_CFG: R207
def Reg.ARM_CFG_EN (a : Nat) : Fld := ⟨0x04000800 + 8 * a, 31, 31⟩
def Reg.ARM_CFG_PHASE (a : Nat) : Fld := ⟨0x04000800 + 8 * a, 25, 24⟩
def Reg.ARM_CFG_GROUP (a : Nat) : Fld := ⟨0x04000800 + 8 * a, 20, 16⟩
def Reg.ARM_CFG_MIN_ACTIVE (a : Nat) : Fld := ⟨0x04000800 + 8 * a, 6, 0⟩
def Reg.ARM_CFG_POSITIONS (a : Nat) : Fld := ⟨0x04000804 + 8 * a, 25, 19⟩
def Reg.ARM_CFG_ACTIVE (a : Nat) : Fld := ⟨0x04000804 + 8 * a, 18, 12⟩
def Reg.ARM_CFG_SPARE (a : Nat) : Fld := ⟨0x04000804 + 8 * a, 11, 5⟩
-- LANE_CFG: R215
def Reg.LANE_CFG_DEEMPH (l : Nat) : Fld := ⟨0x04001000 + 0x40 * l, 7, 5⟩
def Reg.LANE_CFG_SWING (l : Nat) : Fld := ⟨0x04001000 + 0x40 * l, 3, 0⟩
-- LANE_STAT: R216
def Reg.LANE_STAT_LOCKED (l : Nat) : Fld := ⟨0x04001010 + 0x40 * l, 31, 31⟩
def Reg.LANE_STAT_LOS (l : Nat) : Fld := ⟨0x04001010 + 0x40 * l, 30, 30⟩
def Reg.LANE_STAT_CDR_LOCK (l : Nat) : Fld := ⟨0x04001010 + 0x40 * l, 29, 29⟩
def Reg.LANE_STAT_BLOCK_LOCK (l : Nat) : Fld := ⟨0x04001010 + 0x40 * l, 28, 28⟩
def Reg.LANE_STAT_UP (l : Nat) : Fld := ⟨0x04001010 + 0x40 * l, 27, 27⟩
def Reg.LANE_STAT_USE (l : Nat) : Fld := ⟨0x04001010 + 0x40 * l, 23, 20⟩
def Reg.LANE_STAT_LOL_SEEN (l : Nat) : Fld := ⟨0x04001010 + 0x40 * l, 1, 1⟩
def Reg.LANE_STAT_LOS_SEEN (l : Nat) : Fld := ⟨0x04001010 + 0x40 * l, 0, 0⟩
-- LANE_CNT: R217
def Reg.LANE_CNT_LOCK_LOSS (l : Nat) : Fld := ⟨0x04001020 + 0x40 * l, 31, 0⟩
def Reg.LANE_CNT_HEADER_ERR (l : Nat) : Fld := ⟨0x04001024 + 0x40 * l, 31, 0⟩
def Reg.LANE_CNT_CRC_ERR (l : Nat) : Fld := ⟨0x04001028 + 0x40 * l, 31, 0⟩
def Reg.LANE_CNT_LATE (l : Nat) : Fld := ⟨0x0400102C + 0x40 * l, 31, 0⟩

/-! Block 0x05: Cell table. -/

-- CELL_ID: R209
def Reg.CELL_ID_SERIAL_HI (c : Nat) : Fld := ⟨0x05000000 + 0x100 * c, 31, 0⟩
def Reg.CELL_ID_SERIAL_LO (c : Nat) : Fld := ⟨0x05000004 + 0x100 * c, 31, 0⟩
def Reg.CELL_ID_ROLE (c : Nat) : Fld := ⟨0x05000008 + 0x100 * c, 31, 31⟩
def Reg.CELL_ID_ARM (c : Nat) : Fld := ⟨0x05000008 + 0x100 * c, 12, 8⟩
def Reg.CELL_ID_ARM_POS (c : Nat) : Fld := ⟨0x05000008 + 0x100 * c, 5, 0⟩
def Reg.CELL_ID_FITTED (c : Nat) : Fld := ⟨0x0500000C + 0x100 * c, 15, 15⟩
def Reg.CELL_ID_ROUTE (c : Nat) : Fld := ⟨0x0500000C + 0x100 * c, 12, 8⟩
def Reg.CELL_ID_HOP (c : Nat) : Fld := ⟨0x0500000C + 0x100 * c, 4, 0⟩
-- CELL_LINK: R210
def Reg.CELL_LINK_ANSWERING (c : Nat) : Fld := ⟨0x05000010 + 0x100 * c, 31, 31⟩
def Reg.CELL_LINK_MISMATCH (c : Nat) : Fld := ⟨0x05000010 + 0x100 * c, 30, 30⟩
def Reg.CELL_LINK_ABSENT (c : Nat) : Fld := ⟨0x05000010 + 0x100 * c, 29, 29⟩
def Reg.CELL_LINK_REACHED_FROM (c : Nat) : Fld := ⟨0x05000010 + 0x100 * c, 28, 27⟩
def Reg.CELL_LINK_DELAY_OUT (c : Nat) : Fld := ⟨0x05000014 + 0x100 * c, 31, 16⟩
def Reg.CELL_LINK_DELAY_RET (c : Nat) : Fld := ⟨0x05000014 + 0x100 * c, 15, 0⟩
def Reg.CELL_LINK_FOUND_SERIAL_HI (c : Nat) : Fld := ⟨0x05000018 + 0x100 * c, 31, 0⟩
def Reg.CELL_LINK_FOUND_SERIAL_LO (c : Nat) : Fld := ⟨0x0500001C + 0x100 * c, 31, 0⟩
-- CELL_LEDGER: R234
def Reg.CELL_LEDGER_UDC (c : Nat) : Fld := ⟨0x05000020 + 0x100 * c, 31, 16⟩
def Reg.CELL_LEDGER_IAC (c : Nat) : Fld := ⟨0x05000020 + 0x100 * c, 15, 0⟩
def Reg.CELL_LEDGER_IDAB (c : Nat) : Fld := ⟨0x05000024 + 0x100 * c, 31, 16⟩
def Reg.CELL_LEDGER_TEMP0 (c : Nat) : Fld := ⟨0x05000024 + 0x100 * c, 15, 0⟩
def Reg.CELL_LEDGER_TEMP1 (c : Nat) : Fld := ⟨0x05000028 + 0x100 * c, 31, 16⟩
def Reg.CELL_LEDGER_TEMP2 (c : Nat) : Fld := ⟨0x05000028 + 0x100 * c, 15, 0⟩
def Reg.CELL_LEDGER_TRIP (c : Nat) : Fld := ⟨0x0500002C + 0x100 * c, 31, 16⟩
def Reg.CELL_LEDGER_SEQ_ECHO (c : Nat) : Fld := ⟨0x0500002C + 0x100 * c, 15, 0⟩
def Reg.CELL_LEDGER_DIGEST (c : Nat) : Fld := ⟨0x05000030 + 0x100 * c, 31, 0⟩
def Reg.CELL_LEDGER_STATE (c : Nat) : Fld := ⟨0x05000034 + 0x100 * c, 31, 24⟩
def Reg.CELL_LEDGER_LINK (c : Nat) : Fld := ⟨0x05000034 + 0x100 * c, 23, 16⟩
def Reg.CELL_LEDGER_PARCEL (c : Nat) : Fld := ⟨0x05000034 + 0x100 * c, 15, 0⟩
def Reg.CELL_LEDGER_STATUS (c : Nat) : Fld := ⟨0x05000038 + 0x100 * c, 31, 29⟩
def Reg.CELL_LEDGER_COPY (c : Nat) : Fld := ⟨0x05000038 + 0x100 * c, 28, 28⟩
def Reg.CELL_LEDGER_MISSING (c : Nat) : Fld := ⟨0x05000038 + 0x100 * c, 15, 0⟩
def Reg.CELL_LEDGER_MODE_SENT (c : Nat) : Fld := ⟨0x0500003C + 0x100 * c, 31, 28⟩
def Reg.CELL_LEDGER_BYPASS_SENT (c : Nat) : Fld := ⟨0x0500003C + 0x100 * c, 23, 16⟩
def Reg.CELL_LEDGER_ILIM_SENT (c : Nat) : Fld := ⟨0x0500003C + 0x100 * c, 15, 0⟩
-- CELL_SVC: R368
def Reg.CELL_SVC_STATE (c : Nat) : Fld := ⟨0x05000040 + 0x100 * c, 31, 29⟩
def Reg.CELL_SVC_READY (c : Nat) : Fld := ⟨0x05000040 + 0x100 * c, 28, 28⟩
def Reg.CELL_SVC_RELEASE (c : Nat) : Fld := ⟨0x05000040 + 0x100 * c, 27, 27⟩
def Reg.CELL_SVC_TAKE_OUT (c : Nat) : Fld := ⟨0x05000040 + 0x100 * c, 26, 26⟩
def Reg.CELL_SVC_CAUSE (c : Nat) : Fld := ⟨0x05000040 + 0x100 * c, 23, 16⟩
def Reg.CELL_SVC_FOR_POS (c : Nat) : Fld := ⟨0x05000040 + 0x100 * c, 13, 8⟩
def Reg.CELL_SVC_FOR_VALID (c : Nat) : Fld := ⟨0x05000040 + 0x100 * c, 7, 7⟩
def Reg.CELL_SVC_CHANGE_STAGE (c : Nat) : Fld := ⟨0x05000044 + 0x100 * c, 31, 0⟩
def Reg.CELL_SVC_BYPASS_COUNT (c : Nat) : Fld := ⟨0x05000048 + 0x100 * c, 31, 16⟩
def Reg.CELL_SVC_INSERT_COUNT (c : Nat) : Fld := ⟨0x05000048 + 0x100 * c, 15, 0⟩
def Reg.CELL_SVC_DAB_SP (c : Nat) : Fld := ⟨0x0500004C + 0x100 * c, 31, 0⟩
def Reg.CELL_SVC_VSHARE (c : Nat) : Fld := ⟨0x05000050 + 0x100 * c, 31, 0⟩
-- CELL_THERM: R581
def Reg.CELL_THERM_F_C (c : Nat) : Fld := ⟨0x05000080 + 0x100 * c, 31, 28⟩
def Reg.CELL_THERM_LEVEL0 (c : Nat) : Fld := ⟨0x05000080 + 0x100 * c, 27, 26⟩
def Reg.CELL_THERM_LEVEL1 (c : Nat) : Fld := ⟨0x05000080 + 0x100 * c, 25, 24⟩
def Reg.CELL_THERM_LEVEL2 (c : Nat) : Fld := ⟨0x05000080 + 0x100 * c, 23, 22⟩
def Reg.CELL_THERM_SHUTDOWN_SEEN (c : Nat) : Fld := ⟨0x05000080 + 0x100 * c, 21, 21⟩
def Reg.CELL_THERM_HOT (c : Nat) : Fld := ⟨0x05000080 + 0x100 * c, 15, 0⟩
def Reg.CELL_THERM_STEPS_DOWN (c : Nat) : Fld := ⟨0x05000084 + 0x100 * c, 31, 16⟩
def Reg.CELL_THERM_STEPS_UP (c : Nat) : Fld := ⟨0x05000084 + 0x100 * c, 15, 0⟩
def Reg.CELL_THERM_LAST_STAGE (c : Nat) : Fld := ⟨0x05000088 + 0x100 * c, 31, 0⟩
-- CELL_CAP: R369
def Reg.CELL_CAP_C_EST (c : Nat) : Fld := ⟨0x05000090 + 0x100 * c, 31, 0⟩
def Reg.CELL_CAP_RATIO (c : Nat) : Fld := ⟨0x05000094 + 0x100 * c, 31, 16⟩
def Reg.CELL_CAP_LOW_RUN (c : Nat) : Fld := ⟨0x05000094 + 0x100 * c, 15, 8⟩
def Reg.CELL_CAP_SERVICE (c : Nat) : Fld := ⟨0x05000094 + 0x100 * c, 1, 1⟩
def Reg.CELL_CAP_WATCH (c : Nat) : Fld := ⟨0x05000094 + 0x100 * c, 0, 0⟩
def Reg.CELL_CAP_WINDOWS (c : Nat) : Fld := ⟨0x05000098 + 0x100 * c, 31, 0⟩
def Reg.CELL_CAP_LAST_STAGE (c : Nat) : Fld := ⟨0x0500009C + 0x100 * c, 31, 0⟩
-- CELL_PARCEL: R239
def Reg.CELL_PARCEL_STATE (c : Nat) : Fld := ⟨0x050000A0 + 0x100 * c, 31, 29⟩
def Reg.CELL_PARCEL_TAG (c : Nat) : Fld := ⟨0x050000A0 + 0x100 * c, 15, 0⟩
def Reg.CELL_PARCEL_DN_DONE (c : Nat) : Fld := ⟨0x050000A4 + 0x100 * c, 31, 16⟩
def Reg.CELL_PARCEL_UP_DONE (c : Nat) : Fld := ⟨0x050000A4 + 0x100 * c, 15, 0⟩
def Reg.CELL_PARCEL_NAK_COUNT (c : Nat) : Fld := ⟨0x050000A8 + 0x100 * c, 31, 16⟩
def Reg.CELL_PARCEL_TIMEOUT_COUNT (c : Nat) : Fld := ⟨0x050000A8 + 0x100 * c, 15, 0⟩
def Reg.CELL_PARCEL_RESEND_COUNT (c : Nat) : Fld := ⟨0x050000AC + 0x100 * c, 31, 16⟩

/-! Block 0x06: Modulator. -/

-- MOD_CFG: R278
def Reg.MOD_CFG_DAB_Q : Fld := ⟨0x06000000, 21, 16⟩
def Reg.MOD_CFG_AC_NC : Fld := ⟨0x06000000, 9, 0⟩
def Reg.MOD_CFG_ZSI : Fld := ⟨0x06000004, 31, 31⟩
def Reg.MOD_CFG_DAB_ILV : Fld := ⟨0x06000004, 30, 30⟩
def Reg.MOD_CFG_DRV_N : Fld := ⟨0x06000004, 9, 0⟩
def Reg.MOD_CFG_PHI_MAX : Fld := ⟨0x06000008, 30, 16⟩
def Reg.MOD_CFG_PHI_SLEW : Fld := ⟨0x06000008, 14, 0⟩
-- MOD_STAT: R281
def Reg.MOD_STAT_SAFE : Fld := ⟨0x06000010, 31, 31⟩
def Reg.MOD_STAT_SAFE_CAUSE : Fld := ⟨0x06000010, 30, 28⟩
def Reg.MOD_STAT_CUT_MARGIN : Fld := ⟨0x06000010, 15, 0⟩
def Reg.MOD_STAT_MISSED : Fld := ⟨0x06000014, 31, 0⟩
-- MOD_GROUP: R280
def Reg.MOD_GROUP_TMIN (g : Nat) : Fld := ⟨0x06000100 + 0x10 * g, 27, 16⟩
def Reg.MOD_GROUP_DT (g : Nat) : Fld := ⟨0x06000100 + 0x10 * g, 11, 0⟩
def Reg.MOD_GROUP_REFRESH_EN (g : Nat) : Fld := ⟨0x06000104 + 0x10 * g, 31, 31⟩
def Reg.MOD_GROUP_T_RF (g : Nat) : Fld := ⟨0x06000104 + 0x10 * g, 27, 16⟩
def Reg.MOD_GROUP_T_REFRESH (g : Nat) : Fld := ⟨0x06000104 + 0x10 * g, 15, 0⟩
-- MOD_EVENTS: R282
def Reg.MOD_EVENTS_STRETCHED (g : Nat) : Fld := ⟨0x06000200 + 0x10 * g, 31, 0⟩
def Reg.MOD_EVENTS_DROPPED (g : Nat) : Fld := ⟨0x06000204 + 0x10 * g, 31, 0⟩
def Reg.MOD_EVENTS_REFRESHED (g : Nat) : Fld := ⟨0x06000208 + 0x10 * g, 31, 0⟩
def Reg.MOD_EVENTS_BUDGET_DROP (g : Nat) : Fld := ⟨0x0600020C + 0x10 * g, 31, 0⟩
-- MOD_ARM: R283
def Reg.MOD_ARM_ARM_PHASE (a : Nat) : Fld := ⟨0x06000400 + 8 * a, 31, 0⟩
def Reg.MOD_ARM_SAT_CELLS (a : Nat) : Fld := ⟨0x06000404 + 8 * a, 22, 16⟩
def Reg.MOD_ARM_N_SERVICE (a : Nat) : Fld := ⟨0x06000404 + 8 * a, 6, 0⟩
-- MOD_DRV: R285
def Reg.MOD_DRV_STARTED : Fld := ⟨0x06000800, 31, 31⟩
def Reg.MOD_DRV_HOLDING : Fld := ⟨0x06000800, 30, 30⟩
def Reg.MOD_DRV_HOLD_COUNT : Fld := ⟨0x06000800, 29, 28⟩
def Reg.MOD_DRV_SETS_MISSING : Fld := ⟨0x06000804, 31, 0⟩
def Reg.MOD_DRV_LAST_SET_STAGE : Fld := ⟨0x06000808, 31, 0⟩
-- MOD_CELL: R284
def Reg.MOD_CELL_RANKED (c : Nat) : Fld := ⟨0x06004000 + 0x10 * c, 31, 31⟩
def Reg.MOD_CELL_SAT_AC (c : Nat) : Fld := ⟨0x06004000 + 0x10 * c, 30, 30⟩
def Reg.MOD_CELL_SAT_DAB (c : Nat) : Fld := ⟨0x06004000 + 0x10 * c, 29, 29⟩
def Reg.MOD_CELL_RANK (c : Nat) : Fld := ⟨0x06004000 + 0x10 * c, 21, 16⟩
def Reg.MOD_CELL_PHASE (c : Nat) : Fld := ⟨0x06004004 + 0x10 * c, 31, 0⟩
def Reg.MOD_CELL_STRETCHED (c : Nat) : Fld := ⟨0x06004008 + 0x10 * c, 31, 16⟩
def Reg.MOD_CELL_DROPPED (c : Nat) : Fld := ⟨0x06004008 + 0x10 * c, 15, 0⟩

/-! Block 0x07: Loop table. -/

-- LOOP_CFG: R319
def Reg.LOOP_CFG_CHECK_N : Fld := ⟨0x07000000, 10, 0⟩
-- LOOP_STAT: R320
def Reg.LOOP_STAT_PIPES : Fld := ⟨0x07000010, 31, 28⟩
def Reg.LOOP_STAT_CHECK_OK : Fld := ⟨0x07000010, 27, 27⟩
def Reg.LOOP_STAT_CONSEC : Fld := ⟨0x07000010, 26, 25⟩
def Reg.LOOP_STAT_EVALUATED : Fld := ⟨0x07000010, 11, 0⟩
def Reg.LOOP_STAT_LAST_RESULT : Fld := ⟨0x07000014, 31, 16⟩
def Reg.LOOP_STAT_OVERRUN_STAGES : Fld := ⟨0x07000018, 31, 0⟩
def Reg.LOOP_STAT_OVERRUN_SLOTS : Fld := ⟨0x0700001C, 31, 0⟩
-- LOOP_CHECK: R321
def Reg.LOOP_CHECK_CHECKED : Fld := ⟨0x07000030, 31, 16⟩
def Reg.LOOP_CHECK_NEXT_SLOT : Fld := ⟨0x07000030, 10, 0⟩
def Reg.LOOP_CHECK_MISMATCH : Fld := ⟨0x07000034, 31, 0⟩
def Reg.LOOP_CHECK_LAST_UNIT : Fld := ⟨0x07000038, 31, 29⟩
def Reg.LOOP_CHECK_LAST_SLOT : Fld := ⟨0x07000038, 10, 0⟩
def Reg.LOOP_CHECK_LAST_STAGE : Fld := ⟨0x0700003C, 31, 0⟩
-- LOOP_SLOT_CFG: R292
def Reg.LOOP_SLOT_CFG_EN (n : Nat) : Fld := ⟨0x07100000 + 0x40 * n, 31, 31⟩
def Reg.LOOP_SLOT_CFG_D_ON_MEAS (n : Nat) : Fld := ⟨0x07100000 + 0x40 * n, 30, 30⟩
def Reg.LOOP_SLOT_CFG_NOISY (n : Nat) : Fld := ⟨0x07100000 + 0x40 * n, 29, 29⟩
def Reg.LOOP_SLOT_CFG_SCHED_EN (n : Nat) : Fld := ⟨0x07100000 + 0x40 * n, 28, 28⟩
def Reg.LOOP_SLOT_CFG_FB_KIND (n : Nat) : Fld := ⟨0x07100000 + 0x40 * n, 27, 25⟩
def Reg.LOOP_SLOT_CFG_PRIO (n : Nat) : Fld := ⟨0x07100000 + 0x40 * n, 24, 23⟩
def Reg.LOOP_SLOT_CFG_DEST_KIND (n : Nat) : Fld := ⟨0x07100000 + 0x40 * n, 22, 20⟩
def Reg.LOOP_SLOT_CFG_DEST_INDEX (n : Nat) : Fld := ⟨0x07100000 + 0x40 * n, 19, 11⟩
def Reg.LOOP_SLOT_CFG_OWNER (n : Nat) : Fld := ⟨0x07100000 + 0x40 * n, 8, 0⟩
def Reg.LOOP_SLOT_CFG_PV_SRC (n : Nat) : Fld := ⟨0x07100004 + 0x40 * n, 31, 16⟩
def Reg.LOOP_SLOT_CFG_SP_SRC (n : Nat) : Fld := ⟨0x07100004 + 0x40 * n, 15, 0⟩
def Reg.LOOP_SLOT_CFG_FF_SRC (n : Nat) : Fld := ⟨0x07100008 + 0x40 * n, 31, 16⟩
def Reg.LOOP_SLOT_CFG_SCHED_SRC (n : Nat) : Fld := ⟨0x07100008 + 0x40 * n, 15, 0⟩
def Reg.LOOP_SLOT_CFG_OUT_HI (n : Nat) : Fld := ⟨0x0710000C + 0x40 * n, 31, 0⟩
def Reg.LOOP_SLOT_CFG_OUT_LO (n : Nat) : Fld := ⟨0x07100010 + 0x40 * n, 31, 0⟩
def Reg.LOOP_SLOT_CFG_FB_OUT (n : Nat) : Fld := ⟨0x07100014 + 0x40 * n, 31, 0⟩
def Reg.LOOP_SLOT_CFG_I_PRESET (n : Nat) : Fld := ⟨0x07100018 + 0x40 * n, 31, 0⟩
def Reg.LOOP_SLOT_CFG_MAX_AGE (n : Nat) : Fld := ⟨0x0710001C + 0x40 * n, 31, 28⟩
def Reg.LOOP_SLOT_CFG_HOLD (n : Nat) : Fld := ⟨0x0710001C + 0x40 * n, 27, 20⟩
def Reg.LOOP_SLOT_CFG_FREEZE_N (n : Nat) : Fld := ⟨0x0710001C + 0x40 * n, 19, 12⟩
def Reg.LOOP_SLOT_CFG_N_REG (n : Nat) : Fld := ⟨0x0710001C + 0x40 * n, 2, 0⟩
def Reg.LOOP_SLOT_CFG_SCHED_HYST (n : Nat) : Fld := ⟨0x07100020 + 0x40 * n, 31, 0⟩
def Reg.LOOP_SLOT_CFG_BOUND0 (n : Nat) : Fld := ⟨0x07100024 + 0x40 * n, 31, 0⟩
def Reg.LOOP_SLOT_CFG_BOUND1 (n : Nat) : Fld := ⟨0x07100028 + 0x40 * n, 31, 0⟩
def Reg.LOOP_SLOT_CFG_BOUND2 (n : Nat) : Fld := ⟨0x0710002C + 0x40 * n, 31, 0⟩
def Reg.LOOP_SLOT_CFG_BOUND3 (n : Nat) : Fld := ⟨0x07100030 + 0x40 * n, 31, 0⟩
def Reg.LOOP_SLOT_CFG_BOUND4 (n : Nat) : Fld := ⟨0x07100034 + 0x40 * n, 31, 0⟩
def Reg.LOOP_SLOT_CFG_BOUND5 (n : Nat) : Fld := ⟨0x07100038 + 0x40 * n, 31, 0⟩
def Reg.LOOP_SLOT_CFG_BOUND6 (n : Nat) : Fld := ⟨0x0710003C + 0x40 * n, 31, 0⟩
-- LOOP_REGION: R293
def Reg.LOOP_REGION_KP (n : Nat) (r : Nat) : Fld := ⟨0x07200000 + 0x80 * n + 0x10 * r, 31, 0⟩
def Reg.LOOP_REGION_KI (n : Nat) (r : Nat) : Fld := ⟨0x07200004 + 0x80 * n + 0x10 * r, 31, 0⟩
def Reg.LOOP_REGION_KD (n : Nat) (r : Nat) : Fld := ⟨0x07200008 + 0x80 * n + 0x10 * r, 31, 0⟩
def Reg.LOOP_REGION_TF (n : Nat) (r : Nat) : Fld := ⟨0x0720000C + 0x80 * n + 0x10 * r, 31, 0⟩
-- LOOP_SLOT_MODE: R294
def Reg.LOOP_SLOT_MODE_MODE (n : Nat) : Fld := ⟨0x07300000 + 8 * n, 1, 0⟩
def Reg.LOOP_SLOT_MODE_MAN_OUT (n : Nat) : Fld := ⟨0x07300004 + 8 * n, 31, 0⟩
-- LOOP_SLOT_STATE: R295
def Reg.LOOP_SLOT_STATE_OUT (n : Nat) : Fld := ⟨0x07400000 + 0x20 * n, 31, 0⟩
def Reg.LOOP_SLOT_STATE_I (n : Nat) : Fld := ⟨0x07400004 + 0x20 * n, 31, 0⟩
def Reg.LOOP_SLOT_STATE_D (n : Nat) : Fld := ⟨0x07400008 + 0x20 * n, 31, 0⟩
def Reg.LOOP_SLOT_STATE_Y_PREV (n : Nat) : Fld := ⟨0x0740000C + 0x20 * n, 31, 0⟩
def Reg.LOOP_SLOT_STATE_STATE (n : Nat) : Fld := ⟨0x07400010 + 0x20 * n, 31, 30⟩
def Reg.LOOP_SLOT_STATE_FALLEN (n : Nat) : Fld := ⟨0x07400010 + 0x20 * n, 29, 29⟩
def Reg.LOOP_SLOT_STATE_WARMING (n : Nat) : Fld := ⟨0x07400010 + 0x20 * n, 28, 28⟩
def Reg.LOOP_SLOT_STATE_OVERRUN (n : Nat) : Fld := ⟨0x07400010 + 0x20 * n, 27, 27⟩
def Reg.LOOP_SLOT_STATE_SAT_HI (n : Nat) : Fld := ⟨0x07400010 + 0x20 * n, 26, 26⟩
def Reg.LOOP_SLOT_STATE_SAT_LO (n : Nat) : Fld := ⟨0x07400010 + 0x20 * n, 25, 25⟩
def Reg.LOOP_SLOT_STATE_I_INHIBIT (n : Nat) : Fld := ⟨0x07400010 + 0x20 * n, 24, 24⟩
def Reg.LOOP_SLOT_STATE_AGED (n : Nat) : Fld := ⟨0x07400010 + 0x20 * n, 23, 23⟩
def Reg.LOOP_SLOT_STATE_LOST (n : Nat) : Fld := ⟨0x07400010 + 0x20 * n, 22, 22⟩
def Reg.LOOP_SLOT_STATE_FROZEN (n : Nat) : Fld := ⟨0x07400010 + 0x20 * n, 21, 21⟩
def Reg.LOOP_SLOT_STATE_PLANT_LOST (n : Nat) : Fld := ⟨0x07400010 + 0x20 * n, 20, 20⟩
def Reg.LOOP_SLOT_STATE_NUMERIC (n : Nat) : Fld := ⟨0x07400010 + 0x20 * n, 19, 19⟩
def Reg.LOOP_SLOT_STATE_REGION (n : Nat) : Fld := ⟨0x07400010 + 0x20 * n, 18, 16⟩
def Reg.LOOP_SLOT_STATE_HELD_CNT (n : Nat) : Fld := ⟨0x07400010 + 0x20 * n, 15, 8⟩
def Reg.LOOP_SLOT_STATE_INPUT_AGE (n : Nat) : Fld := ⟨0x07400010 + 0x20 * n, 7, 0⟩
def Reg.LOOP_SLOT_STATE_LAST_RAW (n : Nat) : Fld := ⟨0x07400014 + 0x20 * n, 31, 0⟩
def Reg.LOOP_SLOT_STATE_FREEZE_CNT (n : Nat) : Fld := ⟨0x07400018 + 0x20 * n, 31, 24⟩
def Reg.LOOP_SLOT_STATE_OVERRUN_CNT (n : Nat) : Fld := ⟨0x07400018 + 0x20 * n, 15, 0⟩
def Reg.LOOP_SLOT_STATE_EVAL_STAGE (n : Nat) : Fld := ⟨0x0740001C + 0x20 * n, 31, 0⟩

/-! Block 0x08: Converter policy. -/

-- POL_STATE: R359
def Reg.POL_STATE_STATE : Fld := ⟨0x08000000, 31, 28⟩
def Reg.POL_STATE_PREV : Fld := ⟨0x08000000, 27, 24⟩
def Reg.POL_STATE_STEP : Fld := ⟨0x08000000, 23, 20⟩
def Reg.POL_STATE_TARGET : Fld := ⟨0x08000000, 19, 16⟩
def Reg.POL_STATE_CAUSE : Fld := ⟨0x08000000, 15, 0⟩
def Reg.POL_STATE_ENTRY_STAGE : Fld := ⟨0x08000004, 31, 0⟩
def Reg.POL_STATE_TRIPS : Fld := ⟨0x08000008, 31, 24⟩
def Reg.POL_STATE_DERATE_THERMAL : Fld := ⟨0x08000008, 7, 7⟩
def Reg.POL_STATE_DERATE_SHORT : Fld := ⟨0x08000008, 6, 6⟩
def Reg.POL_STATE_DERATE_GROUP : Fld := ⟨0x08000008, 5, 5⟩
def Reg.POL_STATE_GRID_LOCKED : Fld := ⟨0x08000008, 4, 4⟩
def Reg.POL_STATE_BREAKER_CLOSED : Fld := ⟨0x08000008, 3, 3⟩
def Reg.POL_STATE_PRECHARGE_CLOSED : Fld := ⟨0x08000008, 2, 2⟩
def Reg.POL_STATE_BREAKER_REQ : Fld := ⟨0x08000008, 1, 1⟩
def Reg.POL_STATE_PRECHARGE_REQ : Fld := ⟨0x08000008, 0, 0⟩
def Reg.POL_STATE_P_LIMIT_EFF : Fld := ⟨0x0800000C, 31, 0⟩
-- POL_EVENTS: R360
def Reg.POL_EVENTS_BYPASSES : Fld := ⟨0x08000010, 31, 0⟩
def Reg.POL_EVENTS_INSERTIONS : Fld := ⟨0x08000014, 31, 0⟩
def Reg.POL_EVENTS_F3_TRIPS : Fld := ⟨0x08000018, 31, 0⟩
def Reg.POL_EVENTS_LATE : Fld := ⟨0x0800001C, 31, 0⟩
-- POL_CFG: R361
def Reg.POL_CFG_AUTO_STANDBY : Fld := ⟨0x08000100, 31, 31⟩
def Reg.POL_CFG_CAP_SWAP : Fld := ⟨0x08000100, 30, 30⟩
def Reg.POL_CFG_MIN_GROUPS : Fld := ⟨0x08000100, 23, 16⟩
def Reg.POL_CFG_TRIP_LIMIT : Fld := ⟨0x08000100, 15, 12⟩
def Reg.POL_CFG_TRIP_WINDOW_S : Fld := ⟨0x08000104, 31, 16⟩
def Reg.POL_CFG_U_OV : Fld := ⟨0x08000108, 31, 0⟩
def Reg.POL_CFG_U_UV : Fld := ⟨0x0800010C, 31, 0⟩
def Reg.POL_CFG_K_E : Fld := ⟨0x08000110, 31, 0⟩
def Reg.POL_CFG_I_ARM_MAX : Fld := ⟨0x08000114, 31, 0⟩
def Reg.POL_CFG_ILIM_NOM : Fld := ⟨0x08000118, 31, 0⟩
def Reg.POL_CFG_I_DAB_MAX : Fld := ⟨0x0800011C, 31, 0⟩
def Reg.POL_CFG_K_S : Fld := ⟨0x08000120, 31, 0⟩
def Reg.POL_CFG_I_SPARE_MAX : Fld := ⟨0x08000124, 31, 0⟩
def Reg.POL_CFG_Q_MAX : Fld := ⟨0x08000128, 31, 0⟩
-- POL_SEQ: R362
def Reg.POL_SEQ_T_CONTACT_MS : Fld := ⟨0x08000200, 31, 16⟩
def Reg.POL_SEQ_T_PRECHARGE_MS : Fld := ⟨0x08000200, 15, 0⟩
def Reg.POL_SEQ_T_SYNC_MS : Fld := ⟨0x08000204, 31, 16⟩
def Reg.POL_SEQ_T_STOP_MS : Fld := ⟨0x08000204, 15, 0⟩
def Reg.POL_SEQ_T_RAMPDOWN_MS : Fld := ⟨0x08000208, 31, 16⟩
def Reg.POL_SEQ_RUN_DWELL : Fld := ⟨0x08000208, 15, 0⟩
def Reg.POL_SEQ_RUN_TOL : Fld := ⟨0x0800020C, 31, 16⟩
def Reg.POL_SEQ_U_PASSIVE : Fld := ⟨0x08000210, 31, 0⟩
def Reg.POL_SEQ_UDC_RATE : Fld := ⟨0x08000214, 31, 0⟩
def Reg.POL_SEQ_VBUS_RATE : Fld := ⟨0x08000218, 31, 0⟩
-- POL_GRID: R363
def Reg.POL_GRID_F60 : Fld := ⟨0x08000300, 31, 31⟩
def Reg.POL_GRID_LOCK_MS : Fld := ⟨0x08000300, 15, 0⟩
def Reg.POL_GRID_LOSS_MS : Fld := ⟨0x08000304, 31, 16⟩
def Reg.POL_GRID_V_NOM_LL : Fld := ⟨0x08000308, 31, 0⟩
def Reg.POL_GRID_VSRC0 : Fld := ⟨0x0800030C, 31, 16⟩
def Reg.POL_GRID_VSRC1 : Fld := ⟨0x0800030C, 15, 0⟩
def Reg.POL_GRID_VSRC2 : Fld := ⟨0x08000310, 31, 16⟩
def Reg.POL_GRID_KP_PLL : Fld := ⟨0x08000314, 31, 0⟩
def Reg.POL_GRID_KI_PLL : Fld := ⟨0x08000318, 31, 0⟩
-- POL_GRID_STAT: R363
def Reg.POL_GRID_STAT_F_HZ : Fld := ⟨0x08000340, 31, 0⟩
def Reg.POL_GRID_STAT_V_PK : Fld := ⟨0x08000344, 31, 0⟩
def Reg.POL_GRID_STAT_Q_PU : Fld := ⟨0x08000348, 31, 0⟩
def Reg.POL_GRID_STAT_LOCKED : Fld := ⟨0x0800034C, 31, 31⟩
def Reg.POL_GRID_STAT_LOSS_PENDING : Fld := ⟨0x0800034C, 30, 30⟩
def Reg.POL_GRID_STAT_LOCK_COUNT : Fld := ⟨0x0800034C, 15, 0⟩
-- POL_SETPOINT: R365
def Reg.POL_SETPOINT_VALUE (i : Nat) : Fld := ⟨0x08000400 + 0x10 * i, 31, 0⟩
def Reg.POL_SETPOINT_TARGET (i : Nat) : Fld := ⟨0x08000404 + 0x10 * i, 31, 0⟩
def Reg.POL_SETPOINT_RATE (i : Nat) : Fld := ⟨0x08000408 + 0x10 * i, 31, 0⟩
def Reg.POL_SETPOINT_RAMPING (i : Nat) : Fld := ⟨0x0800040C + 0x10 * i, 0, 0⟩
-- POL_CAP: R366
def Reg.POL_CAP_C_NOM : Fld := ⟨0x08000500, 31, 0⟩
def Reg.POL_CAP_WATCH : Fld := ⟨0x08000504, 31, 16⟩
def Reg.POL_CAP_SERVICE : Fld := ⟨0x08000504, 15, 0⟩
def Reg.POL_CAP_BLOCK_STAGES : Fld := ⟨0x08000508, 31, 16⟩
def Reg.POL_CAP_WINDOW_BLOCKS : Fld := ⟨0x08000508, 15, 0⟩
-- POL_ARM: R367
def Reg.POL_ARM_STATE (a : Nat) : Fld := ⟨0x08001000 + 0x20 * a, 31, 29⟩
def Reg.POL_ARM_RANKED (a : Nat) : Fld := ⟨0x08001000 + 0x20 * a, 22, 16⟩
def Reg.POL_ARM_READY_SPARES (a : Nat) : Fld := ⟨0x08001000 + 0x20 * a, 14, 8⟩
def Reg.POL_ARM_FMIN (a : Nat) : Fld := ⟨0x08001000 + 0x20 * a, 7, 0⟩
def Reg.POL_ARM_UBAR (a : Nat) : Fld := ⟨0x08001004 + 0x20 * a, 31, 0⟩
def Reg.POL_ARM_ID (a : Nat) : Fld := ⟨0x08001008 + 0x20 * a, 31, 0⟩
def Reg.POL_ARM_IQ (a : Nat) : Fld := ⟨0x0800100C + 0x20 * a, 31, 0⟩
def Reg.POL_ARM_ID_REF (a : Nat) : Fld := ⟨0x08001010 + 0x20 * a, 31, 0⟩
def Reg.POL_ARM_IQ_REF (a : Nat) : Fld := ⟨0x08001014 + 0x20 * a, 31, 0⟩
def Reg.POL_ARM_STOP_STAGE (a : Nat) : Fld := ⟨0x08001018 + 0x20 * a, 31, 0⟩

/-! Block 0x09: Drive stage. -/

-- DRV_STAT: R410
def Reg.DRV_STAT_STATE : Fld := ⟨0x09000000, 31, 29⟩
def Reg.DRV_STAT_STO : Fld := ⟨0x09000000, 28, 28⟩
def Reg.DRV_STAT_GRANT : Fld := ⟨0x09000000, 27, 27⟩
def Reg.DRV_STAT_HV_LINK : Fld := ⟨0x09000000, 26, 26⟩
def Reg.DRV_STAT_OV_BRAKE : Fld := ⟨0x09000000, 25, 25⟩
def Reg.DRV_STAT_HB_OK : Fld := ⟨0x09000000, 24, 22⟩
def Reg.DRV_STAT_SOFT_ACTIVE : Fld := ⟨0x09000000, 21, 21⟩
def Reg.DRV_STAT_FEEDBACK_NOW : Fld := ⟨0x09000000, 20, 20⟩
def Reg.DRV_STAT_OPEN_LOOP : Fld := ⟨0x09000000, 19, 19⟩
def Reg.DRV_STAT_CAUSE : Fld := ⟨0x09000000, 15, 0⟩
-- DRV_TRIP: R411
def Reg.DRV_TRIP_SOFT_ALL : Fld := ⟨0x09000004, 25, 25⟩
def Reg.DRV_TRIP_THERMAL : Fld := ⟨0x09000004, 24, 24⟩
def Reg.DRV_TRIP_NTC_FAULT : Fld := ⟨0x09000004, 23, 22⟩
def Reg.DRV_TRIP_OVERSPEED : Fld := ⟨0x09000004, 21, 21⟩
def Reg.DRV_TRIP_OBSERVER_FAULT : Fld := ⟨0x09000004, 20, 20⟩
def Reg.DRV_TRIP_ENC_FAULT : Fld := ⟨0x09000004, 19, 19⟩
def Reg.DRV_TRIP_LOOP_FALLBACK : Fld := ⟨0x09000004, 18, 18⟩
def Reg.DRV_TRIP_EDGE_SET_LOST : Fld := ⟨0x09000004, 17, 17⟩
def Reg.DRV_TRIP_HV_CLOCK_LOST : Fld := ⟨0x09000004, 16, 16⟩
def Reg.DRV_TRIP_BOOT_CHARGE_FAIL : Fld := ⟨0x09000004, 15, 15⟩
def Reg.DRV_TRIP_BOOTSTRAP_UV : Fld := ⟨0x09000004, 14, 12⟩
def Reg.DRV_TRIP_VGD_UV : Fld := ⟨0x09000004, 11, 11⟩
def Reg.DRV_TRIP_OV_TRIP : Fld := ⟨0x09000004, 10, 10⟩
def Reg.DRV_TRIP_OC_FAST : Fld := ⟨0x09000004, 9, 7⟩
def Reg.DRV_TRIP_DESAT : Fld := ⟨0x09000004, 6, 0⟩
-- DRV_CHAN: R412
def Reg.DRV_CHAN_LEVEL (ch : Nat) : Fld := ⟨0x09000040 + 8 * ch, 31, 28⟩
def Reg.DRV_CHAN_MEAS_COUNT (ch : Nat) : Fld := ⟨0x09000040 + 8 * ch, 23, 16⟩
def Reg.DRV_CHAN_T_SW (ch : Nat) : Fld := ⟨0x09000040 + 8 * ch, 15, 0⟩
def Reg.DRV_CHAN_LEVEL_CHANGES (ch : Nat) : Fld := ⟨0x09000044 + 8 * ch, 31, 16⟩
-- DRV_EVENTS: R413
def Reg.DRV_EVENTS_TRIPS : Fld := ⟨0x09000080, 31, 0⟩
def Reg.DRV_EVENTS_SHORTS : Fld := ⟨0x09000084, 31, 0⟩
def Reg.DRV_EVENTS_OV_BRAKE_ON : Fld := ⟨0x09000088, 31, 0⟩
def Reg.DRV_EVENTS_STARTS : Fld := ⟨0x0900008C, 31, 0⟩
-- DRV_CFG: R414
def Reg.DRV_CFG_ADAPT_EN : Fld := ⟨0x09000100, 31, 31⟩
def Reg.DRV_CFG_MILLER_EN : Fld := ⟨0x09000100, 30, 30⟩
def Reg.DRV_CFG_FEEDBACK : Fld := ⟨0x09000100, 29, 29⟩
def Reg.DRV_CFG_ENC_FALLBACK : Fld := ⟨0x09000100, 28, 28⟩
def Reg.DRV_CFG_Z_EN : Fld := ⟨0x09000100, 27, 27⟩
def Reg.DRV_CFG_BOOT_PULSES : Fld := ⟨0x09000100, 23, 16⟩
def Reg.DRV_CFG_NOISE : Fld := ⟨0x09000100, 15, 8⟩
def Reg.DRV_CFG_ATTR : Fld := ⟨0x09000100, 7, 0⟩
-- DRV_GATE: R415
def Reg.DRV_GATE_INIT_LVL (ch : Nat) : Fld := ⟨0x09000200 + 0x10 * ch, 31, 28⟩
def Reg.DRV_GATE_MIN_LVL (ch : Nat) : Fld := ⟨0x09000200 + 0x10 * ch, 27, 24⟩
def Reg.DRV_GATE_MAX_LVL (ch : Nat) : Fld := ⟨0x09000200 + 0x10 * ch, 23, 20⟩
def Reg.DRV_GATE_T_TARGET (ch : Nat) : Fld := ⟨0x09000200 + 0x10 * ch, 15, 0⟩
def Reg.DRV_GATE_DS_V (ch : Nat) : Fld := ⟨0x09000204 + 0x10 * ch, 31, 24⟩
def Reg.DRV_GATE_BLANK (ch : Nat) : Fld := ⟨0x09000204 + 0x10 * ch, 23, 16⟩
def Reg.DRV_GATE_DS_FILT (ch : Nat) : Fld := ⟨0x09000204 + 0x10 * ch, 15, 8⟩
def Reg.DRV_GATE_DS_EN (ch : Nat) : Fld := ⟨0x09000204 + 0x10 * ch, 0, 0⟩
-- DRV_SOFT: R416
def Reg.DRV_SOFT_V2L : Fld := ⟨0x09000300, 31, 24⟩
def Reg.DRV_SOFT_T_2L : Fld := ⟨0x09000300, 23, 16⟩
def Reg.DRV_SOFT_SOFT_LVL : Fld := ⟨0x09000300, 15, 12⟩
-- DRV_PROT: R417
def Reg.DRV_PROT_OV_TRIP_V : Fld := ⟨0x09000310, 31, 16⟩
def Reg.DRV_PROT_OV_BRAKE_ON_V : Fld := ⟨0x09000310, 15, 0⟩
def Reg.DRV_PROT_OV_BRAKE_HYST : Fld := ⟨0x09000314, 31, 24⟩
def Reg.DRV_PROT_OC_V : Fld := ⟨0x09000314, 23, 16⟩
def Reg.DRV_PROT_IS_SCALE : Fld := ⟨0x09000318, 31, 0⟩
-- DRV_MOTOR: R418
def Reg.DRV_MOTOR_POLE_PAIRS : Fld := ⟨0x09000400, 31, 24⟩
def Reg.DRV_MOTOR_MAX_RPM : Fld := ⟨0x09000404, 31, 0⟩
def Reg.DRV_MOTOR_I_MAX : Fld := ⟨0x09000408, 31, 0⟩
def Reg.DRV_MOTOR_RS : Fld := ⟨0x0900040C, 31, 0⟩
def Reg.DRV_MOTOR_LD : Fld := ⟨0x09000410, 31, 0⟩
def Reg.DRV_MOTOR_LQ : Fld := ⟨0x09000414, 31, 0⟩
def Reg.DRV_MOTOR_PSI : Fld := ⟨0x09000418, 31, 0⟩
def Reg.DRV_MOTOR_OBS_MIN_RPM : Fld := ⟨0x0900041C, 31, 0⟩
def Reg.DRV_MOTOR_I_START : Fld := ⟨0x09000420, 31, 0⟩
def Reg.DRV_MOTOR_START_RATE : Fld := ⟨0x09000424, 31, 0⟩
def Reg.DRV_MOTOR_ZERO_RPM : Fld := ⟨0x09000428, 31, 0⟩
def Reg.DRV_MOTOR_T_DRV_STOP_MS : Fld := ⟨0x0900042C, 31, 16⟩
-- DRV_ENC: R419
def Reg.DRV_ENC_LINES : Fld := ⟨0x09000500, 31, 16⟩
def Reg.DRV_ENC_FILT : Fld := ⟨0x09000500, 15, 10⟩
def Reg.DRV_ENC_SPEED_AVG : Fld := ⟨0x09000500, 5, 3⟩
def Reg.DRV_ENC_ANGLE_OFS : Fld := ⟨0x09000504, 31, 16⟩
def Reg.DRV_ENC_POSITION : Fld := ⟨0x09000508, 31, 0⟩
def Reg.DRV_ENC_SPEED : Fld := ⟨0x0900050C, 31, 0⟩
def Reg.DRV_ENC_ILLEGAL : Fld := ⟨0x09000510, 31, 16⟩
def Reg.DRV_ENC_MISCOUNT : Fld := ⟨0x09000510, 15, 0⟩
-- DRV_NTC: R420
def Reg.DRV_NTC_TEMP0 : Fld := ⟨0x09000600, 31, 16⟩
def Reg.DRV_NTC_TEMP1 : Fld := ⟨0x09000600, 15, 0⟩
def Reg.DRV_NTC_NTC_EN : Fld := ⟨0x09000604, 31, 30⟩
def Reg.DRV_NTC_STAT1 : Fld := ⟨0x09000604, 29, 28⟩
def Reg.DRV_NTC_STAT0 : Fld := ⟨0x09000604, 27, 26⟩

/-! Block 0x0A: Measurement. -/

-- MEAS_ADC_CFG: R439
def Reg.MEAS_ADC_CFG_EN (x : Nat) : Fld := ⟨0x0A000000 + 0x10 * x, 31, 31⟩
def Reg.MEAS_ADC_CFG_EVENT (x : Nat) : Fld := ⟨0x0A000000 + 0x10 * x, 30, 29⟩
def Reg.MEAS_ADC_CFG_STOP_COUNT (x : Nat) : Fld := ⟨0x0A000000 + 0x10 * x, 22, 16⟩
def Reg.MEAS_ADC_CFG_TIMEOUT (x : Nat) : Fld := ⟨0x0A000000 + 0x10 * x, 15, 8⟩
def Reg.MEAS_ADC_CFG_ACQ (x : Nat) : Fld := ⟨0x0A000000 + 0x10 * x, 7, 0⟩
def Reg.MEAS_ADC_CFG_TRIG_LATE (x : Nat) : Fld := ⟨0x0A000004 + 0x10 * x, 31, 16⟩
def Reg.MEAS_ADC_CFG_TRIG_MISSED (x : Nat) : Fld := ⟨0x0A000004 + 0x10 * x, 15, 0⟩
-- MEAS_DATA: R441
def Reg.MEAS_DATA_CODE (x : Nat) : Fld := ⟨0x0A000100 + 8 * x, 31, 16⟩
def Reg.MEAS_DATA_OVR (x : Nat) : Fld := ⟨0x0A000100 + 8 * x, 15, 15⟩
def Reg.MEAS_DATA_SETTLE (x : Nat) : Fld := ⟨0x0A000100 + 8 * x, 14, 14⟩
def Reg.MEAS_DATA_STALE (x : Nat) : Fld := ⟨0x0A000100 + 8 * x, 13, 13⟩
def Reg.MEAS_DATA_OVERRUN (x : Nat) : Fld := ⟨0x0A000100 + 8 * x, 12, 12⟩
def Reg.MEAS_DATA_STOP (x : Nat) : Fld := ⟨0x0A000100 + 8 * x, 5, 0⟩
def Reg.MEAS_DATA_RELIEVED (x : Nat) : Fld := ⟨0x0A000104 + 8 * x, 31, 31⟩
def Reg.MEAS_DATA_RELIEF_OF (x : Nat) : Fld := ⟨0x0A000104 + 8 * x, 30, 28⟩
def Reg.MEAS_DATA_RESULT (x : Nat) : Fld := ⟨0x0A000104 + 8 * x, 7, 0⟩
-- MEAS_SD_CFG: R444
def Reg.MEAS_SD_CFG_OSR1 : Fld := ⟨0x0A000200, 24, 16⟩
def Reg.MEAS_SD_CFG_OSR0 : Fld := ⟨0x0A000200, 8, 0⟩
def Reg.MEAS_SD_CFG_OSR3 : Fld := ⟨0x0A000204, 24, 16⟩
def Reg.MEAS_SD_CFG_OSR2 : Fld := ⟨0x0A000204, 8, 0⟩
-- MEAS_SD_STAT: R444
def Reg.MEAS_SD_STAT_LOST : Fld := ⟨0x0A000210, 31, 28⟩
def Reg.MEAS_SD_STAT_SETTLING : Fld := ⟨0x0A000210, 27, 24⟩
def Reg.MEAS_SD_STAT_LOSS_COUNT : Fld := ⟨0x0A000214, 31, 0⟩
-- MEAS_CAL: R445
def Reg.MEAS_CAL_CAL_STAGE (x : Nat) : Fld := ⟨0x0A000310 + 0x20 * x, 31, 0⟩
def Reg.MEAS_CAL_CAL_COUNT (x : Nat) : Fld := ⟨0x0A000314 + 0x20 * x, 31, 16⟩
def Reg.MEAS_CAL_FAIL_COUNT (x : Nat) : Fld := ⟨0x0A000314 + 0x20 * x, 15, 0⟩
def Reg.MEAS_CAL_OFFSET0 (x : Nat) : Fld := ⟨0x0A000300 + 0x20 * x, 31, 16⟩
def Reg.MEAS_CAL_GAIN_CORR0 (x : Nat) : Fld := ⟨0x0A000300 + 0x20 * x, 15, 0⟩
def Reg.MEAS_CAL_OFFSET1 (x : Nat) : Fld := ⟨0x0A000304 + 0x20 * x, 31, 16⟩
def Reg.MEAS_CAL_GAIN_CORR1 (x : Nat) : Fld := ⟨0x0A000304 + 0x20 * x, 15, 0⟩
def Reg.MEAS_CAL_OFFSET2 (x : Nat) : Fld := ⟨0x0A000308 + 0x20 * x, 31, 16⟩
def Reg.MEAS_CAL_GAIN_CORR2 (x : Nat) : Fld := ⟨0x0A000308 + 0x20 * x, 15, 0⟩
def Reg.MEAS_CAL_OFFSET3 (x : Nat) : Fld := ⟨0x0A00030C + 0x20 * x, 31, 16⟩
def Reg.MEAS_CAL_GAIN_CORR3 (x : Nat) : Fld := ⟨0x0A00030C + 0x20 * x, 15, 0⟩
-- MEAS_CAL_CFG: R446
def Reg.MEAS_CAL_CFG_AUTO_S : Fld := ⟨0x0A000500, 31, 16⟩
-- MEAS_RELIEF: R446
def Reg.MEAS_RELIEF_BUSY : Fld := ⟨0x0A000510, 31, 31⟩
def Reg.MEAS_RELIEF_SERVING : Fld := ⟨0x0A000510, 30, 28⟩
def Reg.MEAS_RELIEF_QUEUED : Fld := ⟨0x0A000510, 27, 24⟩
def Reg.MEAS_RELIEF_RUNS : Fld := ⟨0x0A000514, 31, 0⟩
-- MEAS_STOP: R440
def Reg.MEAS_STOP_CHANNEL (x : Nat) (j : Nat) : Fld := ⟨0x0A010000 + 0x200 * x + 8 * j, 31, 28⟩
def Reg.MEAS_STOP_GAIN (x : Nat) (j : Nat) : Fld := ⟨0x0A010000 + 0x200 * x + 8 * j, 27, 26⟩
def Reg.MEAS_STOP_TRIGGER (x : Nat) (j : Nat) : Fld := ⟨0x0A010000 + 0x200 * x + 8 * j, 25, 24⟩
def Reg.MEAS_STOP_REPEAT (x : Nat) (j : Nat) : Fld := ⟨0x0A010000 + 0x200 * x + 8 * j, 23, 20⟩
def Reg.MEAS_STOP_RESULT (x : Nat) (j : Nat) : Fld := ⟨0x0A010000 + 0x200 * x + 8 * j, 7, 0⟩
def Reg.MEAS_STOP_DELAY (x : Nat) (j : Nat) : Fld := ⟨0x0A010004 + 0x200 * x + 8 * j, 11, 0⟩
-- MEAS_RESULT: R442
def Reg.MEAS_RESULT_VALUE (i : Nat) : Fld := ⟨0x0A020000 + 0x10 * i, 31, 0⟩
def Reg.MEAS_RESULT_CODE (i : Nat) : Fld := ⟨0x0A020004 + 0x10 * i, 31, 16⟩
def Reg.MEAS_RESULT_OVR (i : Nat) : Fld := ⟨0x0A020004 + 0x10 * i, 15, 15⟩
def Reg.MEAS_RESULT_SETTLE (i : Nat) : Fld := ⟨0x0A020004 + 0x10 * i, 14, 14⟩
def Reg.MEAS_RESULT_STALE (i : Nat) : Fld := ⟨0x0A020004 + 0x10 * i, 13, 13⟩
def Reg.MEAS_RESULT_OVERRUN (i : Nat) : Fld := ⟨0x0A020004 + 0x10 * i, 12, 12⟩
def Reg.MEAS_RESULT_NEW (i : Nat) : Fld := ⟨0x0A020004 + 0x10 * i, 11, 11⟩
def Reg.MEAS_RESULT_SOURCE (i : Nat) : Fld := ⟨0x0A020004 + 0x10 * i, 10, 9⟩
def Reg.MEAS_RESULT_STOP (i : Nat) : Fld := ⟨0x0A020004 + 0x10 * i, 5, 0⟩
def Reg.MEAS_RESULT_STAGE (i : Nat) : Fld := ⟨0x0A020008 + 0x10 * i, 31, 0⟩
def Reg.MEAS_RESULT_SAMPLE (i : Nat) : Fld := ⟨0x0A02000C + 0x10 * i, 31, 16⟩
def Reg.MEAS_RESULT_OVERRUN_CNT (i : Nat) : Fld := ⟨0x0A02000C + 0x10 * i, 15, 0⟩
-- MEAS_SCALE: R443
def Reg.MEAS_SCALE_SCALE (i : Nat) : Fld := ⟨0x0A030000 + 8 * i, 31, 0⟩
def Reg.MEAS_SCALE_OFFSET (i : Nat) : Fld := ⟨0x0A030004 + 8 * i, 31, 0⟩

/-! Block 0x0B: Faults and pair. -/

-- FLT_CFG: R481
def Reg.FLT_CFG_TRIG_D : Fld := ⟨0x0B000000, 1, 1⟩
def Reg.FLT_CFG_TRIG_F1 : Fld := ⟨0x0B000000, 0, 0⟩
-- FLT_STAT: R482
def Reg.FLT_STAT_F3_CODE : Fld := ⟨0x0B000010, 31, 16⟩
def Reg.FLT_STAT_LATCHED : Fld := ⟨0x0B000010, 15, 8⟩
def Reg.FLT_STAT_LB_IGNORED : Fld := ⟨0x0B000014, 31, 0⟩
-- FLT_COUNT: R483
def Reg.FLT_COUNT_F0 : Fld := ⟨0x0B000020, 31, 0⟩
def Reg.FLT_COUNT_F1 : Fld := ⟨0x0B000024, 31, 0⟩
def Reg.FLT_COUNT_F2 : Fld := ⟨0x0B000028, 31, 0⟩
def Reg.FLT_COUNT_F3 : Fld := ⟨0x0B00002C, 31, 0⟩
def Reg.FLT_COUNT_D : Fld := ⟨0x0B000030, 31, 0⟩
-- FLT_LATCH: R484
def Reg.FLT_LATCH_VALID (i : Nat) : Fld := ⟨0x0B000100 + 0x10 * i, 31, 31⟩
def Reg.FLT_LATCH_PRESENT (i : Nat) : Fld := ⟨0x0B000100 + 0x10 * i, 30, 30⟩
def Reg.FLT_LATCH_CODE (i : Nat) : Fld := ⟨0x0B000100 + 0x10 * i, 15, 0⟩
def Reg.FLT_LATCH_STAGE (i : Nat) : Fld := ⟨0x0B000104 + 0x10 * i, 31, 0⟩
def Reg.FLT_LATCH_BOOT (i : Nat) : Fld := ⟨0x0B000108 + 0x10 * i, 31, 16⟩
def Reg.FLT_LATCH_SUBJECT (i : Nat) : Fld := ⟨0x0B000108 + 0x10 * i, 15, 0⟩
-- PAIR_CFG: R485
def Reg.PAIR_CFG_TAKEOVER_EN : Fld := ⟨0x0B001000, 31, 31⟩
def Reg.PAIR_CFG_JOIN_AUTO : Fld := ⟨0x0B001000, 30, 30⟩
def Reg.PAIR_CFG_RETRY_S : Fld := ⟨0x0B001000, 15, 0⟩
-- PAIR_STAT: R486
def Reg.PAIR_STAT_ROLE : Fld := ⟨0x0B001010, 31, 29⟩
def Reg.PAIR_STAT_OWN_CLAIM : Fld := ⟨0x0B001010, 28, 28⟩
def Reg.PAIR_STAT_PARTNER_CLAIM : Fld := ⟨0x0B001010, 27, 27⟩
def Reg.PAIR_STAT_GRANT : Fld := ⟨0x0B001010, 26, 26⟩
def Reg.PAIR_STAT_PAIRA_UP : Fld := ⟨0x0B001010, 25, 25⟩
def Reg.PAIR_STAT_PAIRB_UP : Fld := ⟨0x0B001010, 24, 24⟩
def Reg.PAIR_STAT_PARTNER_IN_STEP : Fld := ⟨0x0B001010, 23, 23⟩
def Reg.PAIR_STAT_SELFCHECK : Fld := ⟨0x0B001010, 22, 22⟩
def Reg.PAIR_STAT_JOIN_STEP : Fld := ⟨0x0B001010, 21, 19⟩
def Reg.PAIR_STAT_PAIR_DELAY : Fld := ⟨0x0B001014, 31, 16⟩
def Reg.PAIR_STAT_DELTA : Fld := ⟨0x0B001014, 3, 0⟩
def Reg.PAIR_STAT_PARTNER_SERIAL_LO : Fld := ⟨0x0B001018, 31, 0⟩
def Reg.PAIR_STAT_STEP_STAGE : Fld := ⟨0x0B00101C, 31, 0⟩
-- PAIR_PERMIT: R487
def Reg.PAIR_PERMIT_PERMIT : Fld := ⟨0x0B001020, 23, 0⟩
-- PAIR_EVENTS: R488
def Reg.PAIR_EVENTS_SWITCHOVERS : Fld := ⟨0x0B001030, 31, 0⟩
def Reg.PAIR_EVENTS_MISMATCHES : Fld := ⟨0x0B001034, 31, 0⟩
def Reg.PAIR_EVENTS_SELFCHECK_FAIL : Fld := ⟨0x0B001038, 31, 0⟩
def Reg.PAIR_EVENTS_JOINS : Fld := ⟨0x0B00103C, 31, 0⟩
def Reg.PAIR_EVENTS_SET_MISSING : Fld := ⟨0x0B001040, 31, 0⟩
-- PAIR_LAST: R489
def Reg.PAIR_LAST_CAUSE : Fld := ⟨0x0B001050, 31, 24⟩
def Reg.PAIR_LAST_MISSED : Fld := ⟨0x0B001050, 7, 0⟩
def Reg.PAIR_LAST_STAGE : Fld := ⟨0x0B001054, 31, 0⟩

/-! Block 0x0C: Safety. -/

-- SAFE_STAT: R518
def Reg.SAFE_STAT_STATE : Fld := ⟨0x0C000000, 31, 29⟩
def Reg.SAFE_STAT_STO : Fld := ⟨0x0C000000, 28, 28⟩
def Reg.SAFE_STAT_OUT_ALLOWED : Fld := ⟨0x0C000000, 27, 27⟩
def Reg.SAFE_STAT_CTRL_LINK : Fld := ⟨0x0C000000, 26, 26⟩
def Reg.SAFE_STAT_PARAM_PENDING : Fld := ⟨0x0C000000, 25, 25⟩
def Reg.SAFE_STAT_RESET_VALID : Fld := ⟨0x0C000000, 24, 24⟩
def Reg.SAFE_STAT_DEMAND : Fld := ⟨0x0C000000, 23, 16⟩
def Reg.SAFE_STAT_STARTUP_PENDING : Fld := ⟨0x0C000000, 15, 8⟩
def Reg.SAFE_STAT_SS1_LEFT : Fld := ⟨0x0C000004, 31, 16⟩
def Reg.SAFE_STAT_PARAM_CRC : Fld := ⟨0x0C000008, 31, 0⟩
-- SAFE_IN: R519
def Reg.SAFE_IN_A_ON (i : Nat) : Fld := ⟨0x0C000100 + 0x10 * i, 31, 31⟩
def Reg.SAFE_IN_B_ON (i : Nat) : Fld := ⟨0x0C000100 + 0x10 * i, 30, 30⟩
def Reg.SAFE_IN_PAIR_STATE (i : Nat) : Fld := ⟨0x0C000100 + 0x10 * i, 29, 27⟩
def Reg.SAFE_IN_CYCLED (i : Nat) : Fld := ⟨0x0C000100 + 0x10 * i, 26, 26⟩
def Reg.SAFE_IN_DISC_MS (i : Nat) : Fld := ⟨0x0C000100 + 0x10 * i, 15, 0⟩
def Reg.SAFE_IN_DEMANDS (i : Nat) : Fld := ⟨0x0C000104 + 0x10 * i, 31, 16⟩
def Reg.SAFE_IN_DISC_FAULTS (i : Nat) : Fld := ⟨0x0C000104 + 0x10 * i, 15, 0⟩
def Reg.SAFE_IN_MAX_DISC_MS (i : Nat) : Fld := ⟨0x0C000108 + 0x10 * i, 31, 16⟩
-- SAFE_OUT: R520
def Reg.SAFE_OUT_ON (j : Nat) : Fld := ⟨0x0C000200 + 0x10 * j, 31, 31⟩
def Reg.SAFE_OUT_READ_HIGH (j : Nat) : Fld := ⟨0x0C000200 + 0x10 * j, 30, 30⟩
def Reg.SAFE_OUT_FB_OPEN (j : Nat) : Fld := ⟨0x0C000200 + 0x10 * j, 29, 29⟩
def Reg.SAFE_OUT_FB_OK (j : Nat) : Fld := ⟨0x0C000200 + 0x10 * j, 28, 28⟩
def Reg.SAFE_OUT_LIMITING (j : Nat) : Fld := ⟨0x0C000200 + 0x10 * j, 27, 27⟩
def Reg.SAFE_OUT_LAST_TEST (j : Nat) : Fld := ⟨0x0C000200 + 0x10 * j, 26, 24⟩
def Reg.SAFE_OUT_TESTS (j : Nat) : Fld := ⟨0x0C000204 + 0x10 * j, 31, 0⟩
def Reg.SAFE_OUT_DISCARDED (j : Nat) : Fld := ⟨0x0C000208 + 0x10 * j, 31, 16⟩
def Reg.SAFE_OUT_FB_LAST_MS (j : Nat) : Fld := ⟨0x0C000208 + 0x10 * j, 15, 0⟩
-- SAFE_LOCK: R521
def Reg.SAFE_LOCK_LOCKED : Fld := ⟨0x0C000300, 31, 31⟩
def Reg.SAFE_LOCK_CAUSE_PRESENT : Fld := ⟨0x0C000300, 30, 30⟩
def Reg.SAFE_LOCK_CAUSE : Fld := ⟨0x0C000300, 23, 16⟩
def Reg.SAFE_LOCK_SUBJECT : Fld := ⟨0x0C000300, 15, 8⟩
def Reg.SAFE_LOCK_NONCE : Fld := ⟨0x0C000304, 31, 0⟩
def Reg.SAFE_LOCK_LOCK_COUNT : Fld := ⟨0x0C000308, 31, 16⟩
def Reg.SAFE_LOCK_STAGE : Fld := ⟨0x0C00030C, 31, 0⟩
-- SAFE_PARAM_ACTIVE_IN: R522
def Reg.SAFE_PARAM_ACTIVE_IN_KIND (i : Nat) : Fld := ⟨0x0C000400 + 4 * i, 23, 21⟩
def Reg.SAFE_PARAM_ACTIVE_IN_FUNCTION (i : Nat) : Fld := ⟨0x0C000400 + 4 * i, 20, 20⟩
def Reg.SAFE_PARAM_ACTIVE_IN_ANTIVALENT (i : Nat) : Fld := ⟨0x0C000400 + 4 * i, 19, 19⟩
def Reg.SAFE_PARAM_ACTIVE_IN_STARTUP_TEST (i : Nat) : Fld := ⟨0x0C000400 + 4 * i, 18, 18⟩
def Reg.SAFE_PARAM_ACTIVE_IN_MANUAL_RESET (i : Nat) : Fld := ⟨0x0C000400 + 4 * i, 17, 17⟩
def Reg.SAFE_PARAM_ACTIVE_IN_T_DISC (i : Nat) : Fld := ⟨0x0C000400 + 4 * i, 8, 0⟩
-- SAFE_PARAM_ACTIVE_OUT: R522
def Reg.SAFE_PARAM_ACTIVE_OUT_ROLE (j : Nat) : Fld := ⟨0x0C000420 + 4 * j, 23, 22⟩
def Reg.SAFE_PARAM_ACTIVE_OUT_FB_EN (j : Nat) : Fld := ⟨0x0C000420 + 4 * j, 21, 21⟩
def Reg.SAFE_PARAM_ACTIVE_OUT_FB_SHARED (j : Nat) : Fld := ⟨0x0C000420 + 4 * j, 20, 20⟩
-- SAFE_PARAM_ACTIVE: R522
def Reg.SAFE_PARAM_ACTIVE_T_SS1 : Fld := ⟨0x0C000430, 12, 0⟩
def Reg.SAFE_PARAM_ACTIVE_CRC : Fld := ⟨0x0C00043C, 31, 0⟩
-- SAFE_PARAM_PENDING_IN: R522
def Reg.SAFE_PARAM_PENDING_IN_KIND (i : Nat) : Fld := ⟨0x0C000440 + 4 * i, 23, 21⟩
def Reg.SAFE_PARAM_PENDING_IN_FUNCTION (i : Nat) : Fld := ⟨0x0C000440 + 4 * i, 20, 20⟩
def Reg.SAFE_PARAM_PENDING_IN_ANTIVALENT (i : Nat) : Fld := ⟨0x0C000440 + 4 * i, 19, 19⟩
def Reg.SAFE_PARAM_PENDING_IN_STARTUP_TEST (i : Nat) : Fld := ⟨0x0C000440 + 4 * i, 18, 18⟩
def Reg.SAFE_PARAM_PENDING_IN_MANUAL_RESET (i : Nat) : Fld := ⟨0x0C000440 + 4 * i, 17, 17⟩
def Reg.SAFE_PARAM_PENDING_IN_T_DISC (i : Nat) : Fld := ⟨0x0C000440 + 4 * i, 8, 0⟩
-- SAFE_PARAM_PENDING_OUT: R522
def Reg.SAFE_PARAM_PENDING_OUT_ROLE (j : Nat) : Fld := ⟨0x0C000460 + 4 * j, 23, 22⟩
def Reg.SAFE_PARAM_PENDING_OUT_FB_EN (j : Nat) : Fld := ⟨0x0C000460 + 4 * j, 21, 21⟩
def Reg.SAFE_PARAM_PENDING_OUT_FB_SHARED (j : Nat) : Fld := ⟨0x0C000460 + 4 * j, 20, 20⟩
-- SAFE_PARAM_PENDING: R522
def Reg.SAFE_PARAM_PENDING_T_SS1 : Fld := ⟨0x0C000470, 12, 0⟩
def Reg.SAFE_PARAM_PENDING_CRC : Fld := ⟨0x0C00047C, 31, 0⟩
-- SAFE_EVENTS: R523
def Reg.SAFE_EVENTS_DEMANDS : Fld := ⟨0x0C000480, 31, 0⟩
def Reg.SAFE_EVENTS_LOCKOUTS : Fld := ⟨0x0C000484, 31, 0⟩
def Reg.SAFE_EVENTS_TEST_FAILS : Fld := ⟨0x0C000488, 31, 0⟩
def Reg.SAFE_EVENTS_CTRL_LOSSES : Fld := ⟨0x0C00048C, 31, 0⟩

/-! Block 0x0D: Networks. -/

-- ETH_CFG: R553
def Reg.ETH_CFG_EN (p : Nat) : Fld := ⟨0x0D000000 + 0x40 * p, 31, 31⟩
def Reg.ETH_CFG_MODE (p : Nat) : Fld := ⟨0x0D000000 + 0x40 * p, 30, 29⟩
def Reg.ETH_CFG_AN_EN (p : Nat) : Fld := ⟨0x0D000000 + 0x40 * p, 28, 28⟩
def Reg.ETH_CFG_TAGGED (p : Nat) : Fld := ⟨0x0D000000 + 0x40 * p, 27, 27⟩
def Reg.ETH_CFG_UNTAGGED_OK (p : Nat) : Fld := ⟨0x0D000000 + 0x40 * p, 26, 26⟩
def Reg.ETH_CFG_PCP (p : Nat) : Fld := ⟨0x0D000000 + 0x40 * p, 25, 23⟩
def Reg.ETH_CFG_VID (p : Nat) : Fld := ⟨0x0D000000 + 0x40 * p, 11, 0⟩
def Reg.ETH_CFG_IP (p : Nat) : Fld := ⟨0x0D000004 + 0x40 * p, 31, 0⟩
def Reg.ETH_CFG_GATEWAY (p : Nat) : Fld := ⟨0x0D000008 + 0x40 * p, 31, 0⟩
def Reg.ETH_CFG_PREFIX (p : Nat) : Fld := ⟨0x0D00000C + 0x40 * p, 5, 0⟩
def Reg.ETH_CFG_TX_LAT (p : Nat) : Fld := ⟨0x0D000010 + 0x40 * p, 31, 16⟩
def Reg.ETH_CFG_RX_LAT (p : Nat) : Fld := ⟨0x0D000010 + 0x40 * p, 15, 0⟩
def Reg.ETH_CFG_MAC_HI (p : Nat) : Fld := ⟨0x0D000014 + 0x40 * p, 15, 0⟩
def Reg.ETH_CFG_MAC_LO (p : Nat) : Fld := ⟨0x0D000018 + 0x40 * p, 31, 0⟩
-- ETH_STAT: R554
def Reg.ETH_STAT_LINK (p : Nat) : Fld := ⟨0x0D000100 + 0x40 * p, 31, 31⟩
def Reg.ETH_STAT_AN_DONE (p : Nat) : Fld := ⟨0x0D000100 + 0x40 * p, 30, 30⟩
def Reg.ETH_STAT_SPEED_BAD (p : Nat) : Fld := ⟨0x0D000100 + 0x40 * p, 29, 29⟩
def Reg.ETH_STAT_REMOTE_FAULT (p : Nat) : Fld := ⟨0x0D000100 + 0x40 * p, 28, 28⟩
def Reg.ETH_STAT_RX_FRAMES (p : Nat) : Fld := ⟨0x0D000104 + 0x40 * p, 31, 0⟩
def Reg.ETH_STAT_TX_FRAMES (p : Nat) : Fld := ⟨0x0D000108 + 0x40 * p, 31, 0⟩
def Reg.ETH_STAT_FCS_ERR (p : Nat) : Fld := ⟨0x0D00010C + 0x40 * p, 31, 0⟩
def Reg.ETH_STAT_RX_DROPPED (p : Nat) : Fld := ⟨0x0D000110 + 0x40 * p, 31, 0⟩
def Reg.ETH_STAT_ICMP_DROPPED (p : Nat) : Fld := ⟨0x0D000114 + 0x40 * p, 31, 16⟩
def Reg.ETH_STAT_LINK_DOWNS (p : Nat) : Fld := ⟨0x0D000114 + 0x40 * p, 15, 0⟩
def Reg.ETH_STAT_UNRESOLVED (p : Nat) : Fld := ⟨0x0D000118 + 0x40 * p, 31, 0⟩
-- ETH_MDIO: R555
def Reg.ETH_MDIO_START (p : Nat) : Fld := ⟨0x0D000200 + 0x10 * p, 31, 31⟩
def Reg.ETH_MDIO_BUSY (p : Nat) : Fld := ⟨0x0D000200 + 0x10 * p, 30, 30⟩
def Reg.ETH_MDIO_OP (p : Nat) : Fld := ⟨0x0D000200 + 0x10 * p, 29, 29⟩
def Reg.ETH_MDIO_PHYAD (p : Nat) : Fld := ⟨0x0D000200 + 0x10 * p, 28, 24⟩
def Reg.ETH_MDIO_REGAD (p : Nat) : Fld := ⟨0x0D000200 + 0x10 * p, 20, 16⟩
def Reg.ETH_MDIO_DATA (p : Nat) : Fld := ⟨0x0D000200 + 0x10 * p, 15, 0⟩
-- ETH_TELEGRAM: R556
def Reg.ETH_TELEGRAM_EN (t : Nat) : Fld := ⟨0x0D000400 + 0x20 * t, 31, 31⟩
def Reg.ETH_TELEGRAM_PORT (t : Nat) : Fld := ⟨0x0D000400 + 0x20 * t, 30, 30⟩
def Reg.ETH_TELEGRAM_PERIOD_MS (t : Nat) : Fld := ⟨0x0D000400 + 0x20 * t, 15, 0⟩
def Reg.ETH_TELEGRAM_PHASE_NS (t : Nat) : Fld := ⟨0x0D000404 + 0x20 * t, 31, 0⟩
def Reg.ETH_TELEGRAM_DEST_IP (t : Nat) : Fld := ⟨0x0D000408 + 0x20 * t, 31, 0⟩
def Reg.ETH_TELEGRAM_DEST_PORT (t : Nat) : Fld := ⟨0x0D00040C + 0x20 * t, 31, 16⟩
def Reg.ETH_TELEGRAM_LENGTH (t : Nat) : Fld := ⟨0x0D00040C + 0x20 * t, 10, 0⟩
def Reg.ETH_TELEGRAM_START (t : Nat) : Fld := ⟨0x0D000410 + 0x20 * t, 31, 0⟩
def Reg.ETH_TELEGRAM_SENT (t : Nat) : Fld := ⟨0x0D000414 + 0x20 * t, 31, 0⟩
def Reg.ETH_TELEGRAM_SKIPPED (t : Nat) : Fld := ⟨0x0D000418 + 0x20 * t, 31, 16⟩
def Reg.ETH_TELEGRAM_LAST_SEQ (t : Nat) : Fld := ⟨0x0D00041C + 0x20 * t, 31, 0⟩
-- PTP_CFG: R557
def Reg.PTP_CFG_EN : Fld := ⟨0x0D100000, 31, 31⟩
def Reg.PTP_CFG_CLOCK : Fld := ⟨0x0D100000, 30, 29⟩
def Reg.PTP_CFG_TWO_STEP : Fld := ⟨0x0D100000, 28, 28⟩
def Reg.PTP_CFG_PORTS : Fld := ⟨0x0D100000, 27, 26⟩
def Reg.PTP_CFG_DOMAIN : Fld := ⟨0x0D100000, 15, 8⟩
def Reg.PTP_CFG_PRIORITY1 : Fld := ⟨0x0D100004, 31, 24⟩
def Reg.PTP_CFG_PRIORITY2 : Fld := ⟨0x0D100004, 23, 16⟩
def Reg.PTP_CFG_LOCK_NS : Fld := ⟨0x0D100008, 31, 16⟩
def Reg.PTP_CFG_HOLDOVER_S : Fld := ⟨0x0D100008, 15, 0⟩
-- PTP_PORT: R558
def Reg.PTP_PORT_STATE (p : Nat) : Fld := ⟨0x0D100100 + 0x20 * p, 31, 28⟩
def Reg.PTP_PORT_DELAY_VALID (p : Nat) : Fld := ⟨0x0D100100 + 0x20 * p, 27, 27⟩
def Reg.PTP_PORT_LINK_DELAY (p : Nat) : Fld := ⟨0x0D100104 + 0x20 * p, 31, 0⟩
def Reg.PTP_PORT_SYNC_RX (p : Nat) : Fld := ⟨0x0D100108 + 0x20 * p, 31, 0⟩
def Reg.PTP_PORT_ANNOUNCE_TIMEOUTS (p : Nat) : Fld := ⟨0x0D10010C + 0x20 * p, 31, 16⟩
def Reg.PTP_PORT_PDELAY_FAIL (p : Nat) : Fld := ⟨0x0D10010C + 0x20 * p, 15, 0⟩
def Reg.PTP_PORT_SYNC_TX (p : Nat) : Fld := ⟨0x0D100110 + 0x20 * p, 31, 0⟩
-- PTP_PARENT: R559
def Reg.PTP_PARENT_GM_ID_HI : Fld := ⟨0x0D100200, 31, 0⟩
def Reg.PTP_PARENT_GM_ID_LO : Fld := ⟨0x0D100204, 31, 0⟩
def Reg.PTP_PARENT_GM_CLASS : Fld := ⟨0x0D100208, 31, 24⟩
def Reg.PTP_PARENT_GM_ACCURACY : Fld := ⟨0x0D100208, 23, 16⟩
def Reg.PTP_PARENT_STEPS_REMOVED : Fld := ⟨0x0D100208, 15, 0⟩
def Reg.PTP_PARENT_UTC_OFFSET : Fld := ⟨0x0D10020C, 31, 16⟩
def Reg.PTP_PARENT_UTC_VALID : Fld := ⟨0x0D10020C, 15, 15⟩
def Reg.PTP_PARENT_LEAP61 : Fld := ⟨0x0D10020C, 14, 14⟩
def Reg.PTP_PARENT_LEAP59 : Fld := ⟨0x0D10020C, 13, 13⟩
def Reg.PTP_PARENT_PARENT_PORT : Fld := ⟨0x0D10020C, 12, 12⟩
def Reg.PTP_PARENT_GM_CHANGES : Fld := ⟨0x0D100210, 31, 0⟩
-- CAN_CFG: R560
def Reg.CAN_CFG_MODE (c : Nat) : Fld := ⟨0x0D200000 + 0x10000 * c, 31, 30⟩
def Reg.CAN_CFG_FD_EN (c : Nat) : Fld := ⟨0x0D200000 + 0x10000 * c, 29, 29⟩
def Reg.CAN_CFG_AUTO_RECOVER (c : Nat) : Fld := ⟨0x0D200000 + 0x10000 * c, 28, 28⟩
def Reg.CAN_CFG_TDC_EN (c : Nat) : Fld := ⟨0x0D200000 + 0x10000 * c, 27, 27⟩
def Reg.CAN_CFG_TDCO (c : Nat) : Fld := ⟨0x0D200000 + 0x10000 * c, 26, 20⟩
def Reg.CAN_CFG_NBRP (c : Nat) : Fld := ⟨0x0D200004 + 0x10000 * c, 31, 24⟩
def Reg.CAN_CFG_NTSEG1 (c : Nat) : Fld := ⟨0x0D200004 + 0x10000 * c, 23, 16⟩
def Reg.CAN_CFG_NTSEG2 (c : Nat) : Fld := ⟨0x0D200004 + 0x10000 * c, 15, 8⟩
def Reg.CAN_CFG_NSJW (c : Nat) : Fld := ⟨0x0D200004 + 0x10000 * c, 7, 0⟩
def Reg.CAN_CFG_DBRP (c : Nat) : Fld := ⟨0x0D200008 + 0x10000 * c, 31, 24⟩
def Reg.CAN_CFG_DTSEG1 (c : Nat) : Fld := ⟨0x0D200008 + 0x10000 * c, 23, 16⟩
def Reg.CAN_CFG_DTSEG2 (c : Nat) : Fld := ⟨0x0D200008 + 0x10000 * c, 15, 8⟩
def Reg.CAN_CFG_DSJW (c : Nat) : Fld := ⟨0x0D200008 + 0x10000 * c, 7, 0⟩
def Reg.CAN_CFG_TIME_ROLE (c : Nat) : Fld := ⟨0x0D20000C + 0x10000 * c, 31, 30⟩
def Reg.CAN_CFG_REF_IDE (c : Nat) : Fld := ⟨0x0D20000C + 0x10000 * c, 29, 29⟩
def Reg.CAN_CFG_REF_ID (c : Nat) : Fld := ⟨0x0D20000C + 0x10000 * c, 28, 0⟩
def Reg.CAN_CFG_T_CYCLE_US (c : Nat) : Fld := ⟨0x0D200010 + 0x10000 * c, 31, 0⟩
-- CAN_STAT: R561
def Reg.CAN_STAT_ERR_STATE (c : Nat) : Fld := ⟨0x0D200100 + 0x10000 * c, 31, 30⟩
def Reg.CAN_STAT_RECOVERING (c : Nat) : Fld := ⟨0x0D200100 + 0x10000 * c, 29, 29⟩
def Reg.CAN_STAT_MASTER_NOW (c : Nat) : Fld := ⟨0x0D200100 + 0x10000 * c, 28, 28⟩
def Reg.CAN_STAT_TEC (c : Nat) : Fld := ⟨0x0D200100 + 0x10000 * c, 24, 16⟩
def Reg.CAN_STAT_REC (c : Nat) : Fld := ⟨0x0D200100 + 0x10000 * c, 15, 8⟩
def Reg.CAN_STAT_CYCLE_COUNT (c : Nat) : Fld := ⟨0x0D200100 + 0x10000 * c, 5, 0⟩
def Reg.CAN_STAT_BUSOFFS (c : Nat) : Fld := ⟨0x0D200104 + 0x10000 * c, 31, 16⟩
def Reg.CAN_STAT_RX_LOST (c : Nat) : Fld := ⟨0x0D200104 + 0x10000 * c, 15, 0⟩
def Reg.CAN_STAT_RX_FRAMES (c : Nat) : Fld := ⟨0x0D200108 + 0x10000 * c, 31, 0⟩
def Reg.CAN_STAT_TX_FRAMES (c : Nat) : Fld := ⟨0x0D20010C + 0x10000 * c, 31, 0⟩
def Reg.CAN_STAT_ERR_FRAMES (c : Nat) : Fld := ⟨0x0D200110 + 0x10000 * c, 31, 0⟩
-- CAN_OBJ: R562
def Reg.CAN_OBJ_EN (c : Nat) (n : Nat) : Fld := ⟨0x0D201000 + 0x10000 * c + 0x80 * n, 31, 31⟩
def Reg.CAN_OBJ_DIR (c : Nat) (n : Nat) : Fld := ⟨0x0D201000 + 0x10000 * c + 0x80 * n, 30, 30⟩
def Reg.CAN_OBJ_ONE_SHOT (c : Nat) (n : Nat) : Fld := ⟨0x0D201000 + 0x10000 * c + 0x80 * n, 29, 29⟩
def Reg.CAN_OBJ_TRIGGER (c : Nat) (n : Nat) : Fld := ⟨0x0D201000 + 0x10000 * c + 0x80 * n, 28, 27⟩
def Reg.CAN_OBJ_RX_KIND (c : Nat) (n : Nat) : Fld := ⟨0x0D201000 + 0x10000 * c + 0x80 * n, 26, 26⟩
def Reg.CAN_OBJ_IDE (c : Nat) (n : Nat) : Fld := ⟨0x0D201000 + 0x10000 * c + 0x80 * n, 25, 25⟩
def Reg.CAN_OBJ_FDF (c : Nat) (n : Nat) : Fld := ⟨0x0D201000 + 0x10000 * c + 0x80 * n, 24, 24⟩
def Reg.CAN_OBJ_BRS (c : Nat) (n : Nat) : Fld := ⟨0x0D201000 + 0x10000 * c + 0x80 * n, 23, 23⟩
def Reg.CAN_OBJ_DLC (c : Nat) (n : Nat) : Fld := ⟨0x0D201000 + 0x10000 * c + 0x80 * n, 22, 19⟩
def Reg.CAN_OBJ_MASK_FDF (c : Nat) (n : Nat) : Fld := ⟨0x0D201000 + 0x10000 * c + 0x80 * n, 18, 18⟩
def Reg.CAN_OBJ_ID (c : Nat) (n : Nat) : Fld := ⟨0x0D201004 + 0x10000 * c + 0x80 * n, 28, 0⟩
def Reg.CAN_OBJ_MASK (c : Nat) (n : Nat) : Fld := ⟨0x0D201008 + 0x10000 * c + 0x80 * n, 28, 0⟩
def Reg.CAN_OBJ_PERIOD (c : Nat) (n : Nat) : Fld := ⟨0x0D20100C + 0x10000 * c + 0x80 * n, 31, 16⟩
def Reg.CAN_OBJ_PHASE (c : Nat) (n : Nat) : Fld := ⟨0x0D20100C + 0x10000 * c + 0x80 * n, 15, 0⟩
def Reg.CAN_OBJ_CYC_MASK (c : Nat) (n : Nat) : Fld := ⟨0x0D201010 + 0x10000 * c + 0x80 * n, 31, 26⟩
def Reg.CAN_OBJ_CYC_MATCH (c : Nat) (n : Nat) : Fld := ⟨0x0D201010 + 0x10000 * c + 0x80 * n, 25, 20⟩
def Reg.CAN_OBJ_TX_OFS_US (c : Nat) (n : Nat) : Fld := ⟨0x0D201010 + 0x10000 * c + 0x80 * n, 19, 0⟩
def Reg.CAN_OBJ_SRC_ADDR (c : Nat) (n : Nat) : Fld := ⟨0x0D201014 + 0x10000 * c + 0x80 * n, 31, 0⟩
def Reg.CAN_OBJ_SP_ID (c : Nat) (n : Nat) : Fld := ⟨0x0D201014 + 0x10000 * c + 0x80 * n, 31, 16⟩
def Reg.CAN_OBJ_BYTE_OFS (c : Nat) (n : Nat) : Fld := ⟨0x0D201014 + 0x10000 * c + 0x80 * n, 15, 8⟩
def Reg.CAN_OBJ_DEPTH (c : Nat) (n : Nat) : Fld := ⟨0x0D201018 + 0x10000 * c + 0x80 * n, 31, 24⟩
def Reg.CAN_OBJ_TIMEOUT_MS (c : Nat) (n : Nat) : Fld := ⟨0x0D201018 + 0x10000 * c + 0x80 * n, 15, 0⟩
def Reg.CAN_OBJ_STATUS (c : Nat) (n : Nat) : Fld := ⟨0x0D20101C + 0x10000 * c + 0x80 * n, 31, 16⟩
def Reg.CAN_OBJ_PENDING (c : Nat) (n : Nat) : Fld := ⟨0x0D20101C + 0x10000 * c + 0x80 * n, 15, 15⟩
def Reg.CAN_OBJ_STALE (c : Nat) (n : Nat) : Fld := ⟨0x0D20101C + 0x10000 * c + 0x80 * n, 14, 14⟩
def Reg.CAN_OBJ_FULL (c : Nat) (n : Nat) : Fld := ⟨0x0D20101C + 0x10000 * c + 0x80 * n, 13, 13⟩
def Reg.CAN_OBJ_LAST_ERR (c : Nat) (n : Nat) : Fld := ⟨0x0D20101C + 0x10000 * c + 0x80 * n, 12, 10⟩
def Reg.CAN_OBJ_COUNT (c : Nat) (n : Nat) : Fld := ⟨0x0D20101C + 0x10000 * c + 0x80 * n, 5, 0⟩
def Reg.CAN_OBJ_TX_REQ (c : Nat) (n : Nat) : Fld := ⟨0x0D201020 + 0x10000 * c + 0x80 * n, 31, 31⟩
def Reg.CAN_OBJ_ACK (c : Nat) (n : Nat) : Fld := ⟨0x0D201020 + 0x10000 * c + 0x80 * n, 5, 0⟩
def Reg.CAN_OBJ_HEAD (c : Nat) (n : Nat) : Fld := ⟨0x0D201024 + 0x10000 * c + 0x80 * n, 31, 24⟩
def Reg.CAN_OBJ_BASE (c : Nat) (n : Nat) : Fld := ⟨0x0D201024 + 0x10000 * c + 0x80 * n, 23, 16⟩
def Reg.CAN_OBJ_DONE (c : Nat) (n : Nat) : Fld := ⟨0x0D201028 + 0x10000 * c + 0x80 * n, 31, 0⟩
def Reg.CAN_OBJ_FAILS (c : Nat) (n : Nat) : Fld := ⟨0x0D20102C + 0x10000 * c + 0x80 * n, 31, 0⟩
-- CAN_OBJ_DATA: R562
def Reg.CAN_OBJ_DATA_DATA (c : Nat) (n : Nat) (i : Nat) : Fld := ⟨0x0D201040 + 0x10000 * c + 0x80 * n + 4 * i, 31, 0⟩

/-! Block 0x0E: Thermal. -/

-- THERM_STAT: R576
def Reg.THERM_STAT_DIE_LEVEL : Fld := ⟨0x0E000000, 31, 30⟩
def Reg.THERM_STAT_HV_LEVEL : Fld := ⟨0x0E000000, 29, 28⟩
def Reg.THERM_STAT_STEP : Fld := ⟨0x0E000000, 27, 25⟩
def Reg.THERM_STAT_FAST : Fld := ⟨0x0E000000, 24, 24⟩
def Reg.THERM_STAT_DECIMATING : Fld := ⟨0x0E000000, 23, 23⟩
def Reg.THERM_STAT_SENSOR_FAIL : Fld := ⟨0x0E000000, 21, 12⟩
def Reg.THERM_STAT_DIE_MAX : Fld := ⟨0x0E000004, 31, 16⟩
def Reg.THERM_STAT_HV_MAX : Fld := ⟨0x0E000004, 15, 0⟩
def Reg.THERM_STAT_SHUTDOWNS : Fld := ⟨0x0E000008, 31, 16⟩
def Reg.THERM_STAT_THROTTLE_STEPS : Fld := ⟨0x0E000008, 15, 0⟩
-- THERM_SENSOR: R577
def Reg.THERM_SENSOR_TEMP (s : Nat) : Fld := ⟨0x0E000100 + 4 * s, 31, 16⟩
def Reg.THERM_SENSOR_PEAK (s : Nat) : Fld := ⟨0x0E000100 + 4 * s, 15, 0⟩
-- THERM_CFG: R578
def Reg.THERM_CFG_LB_DECIMATE : Fld := ⟨0x0E000200, 0, 0⟩
-- THERM_NTC_LIM: R579
def Reg.THERM_NTC_LIM_WARN : Fld := ⟨0x0E000300, 23, 16⟩
def Reg.THERM_NTC_LIM_THROTTLE : Fld := ⟨0x0E000300, 15, 8⟩
def Reg.THERM_NTC_LIM_SHUTDOWN : Fld := ⟨0x0E000300, 7, 0⟩
-- THERM_CELL_LIM: R579
def Reg.THERM_CELL_LIM_WARN (i : Nat) : Fld := ⟨0x0E000310 + 4 * i, 23, 16⟩
def Reg.THERM_CELL_LIM_THROTTLE (i : Nat) : Fld := ⟨0x0E000310 + 4 * i, 15, 8⟩
def Reg.THERM_CELL_LIM_SHUTDOWN (i : Nat) : Fld := ⟨0x0E000310 + 4 * i, 7, 0⟩
-- THERM_DRV: R580
def Reg.THERM_DRV_F_DRV : Fld := ⟨0x0E000400, 31, 28⟩
def Reg.THERM_DRV_LEVEL_NTC0 : Fld := ⟨0x0E000400, 27, 26⟩
def Reg.THERM_DRV_LEVEL_NTC1 : Fld := ⟨0x0E000400, 25, 24⟩

/-! Block 0x0F: Journal. -/

-- JRNL_STAT: R490
def Reg.JRNL_STAT_OLDEST : Fld := ⟨0x0F000000, 31, 0⟩
def Reg.JRNL_STAT_NEWEST : Fld := ⟨0x0F000004, 31, 0⟩
def Reg.JRNL_STAT_OVERFLOW : Fld := ⟨0x0F000008, 31, 0⟩
def Reg.JRNL_STAT_DROPPED : Fld := ⟨0x0F00000C, 31, 16⟩
def Reg.JRNL_STAT_QUEUED : Fld := ⟨0x0F00000C, 15, 0⟩

end Sys2Proof.Machine
end

