-- ==== Sys2Proof/Machine/Regs.lean ====
section
/-! DEFINITION. Reading and writing the words and fields of the object address space (R3 to R8), and the memory window
(R104, R111, R114). Words stand in `State.regs` and bytes in `State.mem`, both sparse and in one canonical form: what is
not listed reads as its reset value, a word's from the object table (R11) and a byte's as 0 (R118, R122). -/

namespace Sys2Proof.Machine

/-- Bits [msb:lsb] of a word, as a number (R3). -/
def getBits (w : Word) (msb lsb : Nat) : Nat := (w.extractLsb' lsb (msb - lsb + 1)).toNat

/-- The mask of bits [msb:lsb]. -/
def bitMask (msb lsb : Nat) : Word := (BitVec.allOnes (msb - lsb + 1)).setWidth 32 <<< lsb

/-- A word with bits [msb:lsb] replaced by the low bits of a number (R3). -/
def setBits (w : Word) (msb lsb v : Nat) : Word :=
  (w &&& ~~~(bitMask msb lsb)) ||| ((BitVec.ofNat (msb - lsb + 1) v).setWidth 32 <<< lsb)

/-- A number's low `n` bits read as two's complement (R5). -/
def toSigned (n v : Nat) : Int :=
  let m := v % 2 ^ n
  if m < 2 ^ (n - 1) then (m : Int) else (m : Int) - (2 ^ n : Nat)

/-- The two's complement encoding of an integer in `n` bits (R5). -/
def ofSigned (n : Nat) (v : Int) : Nat := (v % ((2 ^ n : Nat) : Int)).toNat

/-- A field that lies within its word (R3). -/
abbrev Fld.within (f : Fld) : Prop := f.lsb ≤ f.msb ∧ f.msb < 32

/-- Two fields of which no bit is the same. -/
abbrev Fld.apart (f g : Fld) : Prop := f.addr ≠ g.addr ∨ f.msb < g.lsb ∨ g.msb < f.lsb

/-! ### Objects -/

/-- Where an address lies inside an array with the given (count, stride) dimensions: the indices and the rest. -/
def locateDims : List (Nat × Nat) → Nat → Option (List Nat × Nat)
  | [], r => some ([], r)
  | (c, st) :: t, r =>
    if r / st < c then
      match locateDims t (r % st) with
      | some (is, q) => some (r / st :: is, q)
      | none => none
    else none

/-- The indices and the byte offset at which an address lies in an object, if it does (R6, R7). -/
def Obj.locate (o : Obj) (a : Nat) : Option (List Nat × Nat) :=
  if a < o.base then none
  else match locateDims o.dims (a - o.base) with
    | some (is, q) => if q < o.size then some (is, q) else none
    | none => none

/-- The first object of a list in which an address lies, with its indices and the offset. -/
def findObj : List Obj → Nat → Option (Obj × List Nat × Nat)
  | [], _ => none
  | o :: t, a =>
    match o.locate a with
    | some (is, q) => some (o, is, q)
    | none => findObj t a

/-- The object in which an address lies (R7, R104). -/
def objAt (a : Nat) : Option (Obj × List Nat × Nat) := findObj (objsOfBlock (a / 0x1000000)) a

/-- The reset value of a row in the instance whose first index is `i` (R11). -/
def Row.resetIn (r : Row) (i : Nat) : Nat :=
  match r.resetAt.find? (fun p => p.1 == i) with
  | some p => p.2
  | none => r.reset

/-- The word at an offset of an object, as its rows reset it (R10, R11). -/
def resetWordOf (rows : List Row) (i q : Nat) : Word :=
  rows.foldl (fun w r => if r.off = q then setBits w r.msb r.lsb (r.resetIn i) else w) 0

/-- What the word at an address reads as after a full reset (R11); 0 where no object exists. -/
def resetWord (a : Nat) : Word :=
  match objAt a with
  | some (o, is, q) => resetWordOf o.rows (is.headD 0) (q - q % 4)
  | none => 0

/-! ### Sparse lists -/

/-- The entry of a key. -/
def assocGet {β : Type} : List (Nat × β) → Nat → Option β
  | [], _ => none
  | (k, w) :: t, a => if k = a then some w else assocGet t a

/-- The list without a key. -/
def assocErase {β : Type} (l : List (Nat × β)) (a : Nat) : List (Nat × β) := l.filter (fun p => p.1 != a)

/-- The list with an entry put before the first larger key. -/
def assocInsert {β : Type} (l : List (Nat × β)) (a : Nat) (w : β) : List (Nat × β) :=
  match l with
  | [] => [(a, w)]
  | (k, v) :: t => if a < k then (a, w) :: (k, v) :: t else (k, v) :: assocInsert t a w

/-- The list with a key set, listing nothing that equals the default. -/
def assocPut {β : Type} [DecidableEq β] (l : List (Nat × β)) (dflt : β) (a : Nat) (w : β) : List (Nat × β) :=
  if w = dflt then assocErase l a else assocInsert (assocErase l a) a w

/-! ### Words and fields -/

/-- The word at an address of the object space. -/
def State.word (s : State) (a : Nat) : Word :=
  match assocGet s.regs a with
  | some w => w
  | none => resetWord a

/-- Sets the word at an address. -/
def State.setWord (s : State) (a : Nat) (w : Word) : State :=
  { s with regs := assocPut s.regs (resetWord a) a w }

/-- A field's value. -/
def State.rd (s : State) (f : Fld) : Nat := getBits (s.word f.addr) f.msb f.lsb

/-- Whether a one-bit field is set. -/
def State.flag (s : State) (f : Fld) : Bool := s.rd f != 0

/-- A signed field's value (R5). -/
def State.rdS (s : State) (f : Fld) : Int := toSigned (f.msb - f.lsb + 1) (s.rd f)

/-- Sets a field. -/
def State.wr (s : State) (f : Fld) (v : Nat) : State :=
  s.setWord f.addr (setBits (s.word f.addr) f.msb f.lsb v)

/-- Sets a one-bit field. -/
def State.wrB (s : State) (f : Fld) (b : Bool) : State := s.wr f (if b then 1 else 0)

/-- Sets bits of a W1C field for an event: a clearing write of the same stage leaves them set (R9). -/
def State.see (s : State) (f : Fld) : State := { s.wr f (2 ^ (f.msb - f.lsb + 1) - 1) with seen := s.seen ++ [f] }

/-- The bits of a word that events have set in the present stage. -/
def State.seenMask (s : State) (a : Nat) : Word :=
  (s.seen.filter (fun f => f.addr == a)).foldl (fun m f => m ||| bitMask f.msb f.lsb) 0

/-- Sets a signed field (R5). -/
def State.wrS (s : State) (f : Fld) (v : Int) : State := s.wr f (ofSigned (f.msb - f.lsb + 1) v)

/-- The largest value of a field. -/
def Fld.top (f : Fld) : Nat := 2 ^ (f.msb - f.lsb + 1) - 1

/-- Sets a count field to a value, or to its largest value where that is less (a count that saturates). -/
def State.wrSat (s : State) (f : Fld) (v : Nat) : State := s.wr f (min v f.top)

/-- Adds to a count that saturates at its field's largest value. -/
def State.inc (s : State) (f : Fld) (n : Nat := 1) : State := s.wrSat f (s.rd f + n)

/-! ### Bytes -/

/-- The low `n` bytes of a number, most significant first (R4). -/
def beBytes : Nat → Nat → List Byte
  | 0, _ => []
  | n + 1, v => BitVec.ofNat 8 (v / 256 ^ n) :: beBytes n v

/-- The number that bytes spell, most significant first (R4). -/
def beNat (bs : List Byte) : Nat := bs.foldl (fun a b => a * 256 + b.toNat) 0

/-- `n` bytes of a list from an offset on, as a number, most significant first; bytes past the end count as 0. -/
def beAt (bs : List Byte) (o n : Nat) : Nat := beNat ((List.range n).map (fun k => bs.getD (o + k) 0))

/-! ### The memory window -/

/-- The first and the first not of the addresses of the memory window (R104). -/
def memBase : Nat := 0x10000000
def memEnd : Nat := 0x18000000
def secureBase : Nat := 0x17C00000

/-- The byte at an address of the memory window: 0 where nothing is listed (R118, R122). -/
def memGet (m : List Host.Cell) (a : Nat) : Byte := (assocGet m a).getD 0

/-- The nonzero bytes of a list laid at addresses from `a` on. -/
def cellsFrom : Nat → List Byte → List Host.Cell
  | _, [] => []
  | a, b :: t => if b = 0 then cellsFrom (a + 1) t else (a, b) :: cellsFrom (a + 1) t

/-- Memory with bytes written from an address on. -/
def memPut (m : List Host.Cell) (a : Nat) (bs : List Byte) : List Host.Cell :=
  let b := a + bs.length
  m.filter (fun c => decide (c.1 < a)) ++ cellsFrom a bs ++ m.filter (fun c => decide (b ≤ c.1))

/-- Memory with every byte from `a` to below `b` at 0. -/
def memClear (m : List Host.Cell) (a b : Nat) : List Host.Cell := m.filter (fun c => decide (c.1 < a ∨ b ≤ c.1))

/-- The canonical form of memory: addresses of the window strictly rising, no byte 0 listed. -/
def Memory.wf (m : List Host.Cell) : Bool :=
  decide (m.Pairwise (fun x y => x.1 < y.1)) && m.all (fun c => decide (memBase ≤ c.1 ∧ c.1 < memEnd) && c.2 != 0)

/-- One byte of the memory window. -/
def State.byte (s : State) (a : Nat) : Byte := memGet s.mem a

/-- The 64-bit words of the window that a span does not touch. -/
def untouched (ecc : List Nat) (a n : Nat) : List Nat :=
  ecc.filter (fun w => decide (memBase + 8 * w + 8 ≤ a ∨ a + n ≤ memBase + 8 * w))

/-- Stores bytes into the memory window, with the write-back of a word that the store reaches dropped (R112). What would fall outside
the window is not stored. -/
def State.store (s : State) (a : Nat) (bs : List Byte) : State :=
  if memBase ≤ a ∧ a + bs.length ≤ memEnd then
    { s with mem := memPut s.mem a bs, sto := { s.sto with ecc := untouched s.sto.ecc a bs.length } }
  else s

/-- `n` bytes of the memory window from an address on. -/
def State.load (s : State) (a n : Nat) : List Byte := (List.range n).map (fun k => s.byte (a + k))

end Sys2Proof.Machine
end

