-- ==== Sys2Proof/Machine/Ops.lean ====
section
/-! DEFINITION. The operations that every block shares: the stage counter and the time bases (R78, R80, R84), the journal
(R453, R454), the raising of faults (R448), logbook triggers (R456) and free values. -/

namespace Sys2Proof.Machine

open Sys2Proof

/-- A next state. -/
abbrev Res := Host.Outcome State Fault Refusal

/-! ### Stage counter and time -/

/-- The 48-bit stage counter (R78, R98). -/
def State.stage (s : State) : Nat := s.rd Reg.CLK_STAGE_COUNT_COUNT_HI * 2 ^ 32 + s.rd Reg.CLK_STAGE_COUNT_COUNT_LO

/-- Sets the stage counter. -/
def State.setStage (s : State) (k : Nat) : State :=
  (s.wr Reg.CLK_STAGE_COUNT_COUNT_HI (k / 2 ^ 32)).wr Reg.CLK_STAGE_COUNT_COUNT_LO k

/-- The stage period in steps of 10 ns (R79). -/
def State.ts (s : State) : Nat := s.rd Reg.CLK_STAGE_PERIOD_TS

/-- The stage period in nanoseconds. -/
def State.tsNs (s : State) : Nat := s.ts * 10

/-- A condition that has held for `ns` at the last boundary can have held for this long at some instant of the present stage. -/
def State.heldFor (s : State) (ns least : Nat) : Bool := decide (least < ns + s.tsNs)

/-- Units of 2^-16 ns in a second. -/
def unitsPerSecond : Nat := 1000000000 * 65536

/-- The value of a time base in units of 2^-16 ns (R80). -/
def State.timeOf (s : State) (b : Nat) : Nat :=
  ((s.rd (Reg.TIME_BASE_SECONDS_HI b) * 2 ^ 32 + s.rd (Reg.TIME_BASE_SECONDS_LO b)) * 1000000000
    + s.rd (Reg.TIME_BASE_NANOSECONDS b)) * 65536 + s.rd (Reg.TIME_BASE_FRACTION b)

/-- This long can have passed since an event, given by MONO at the boundary before it. -/
def State.passed (s : State) (since leastNs : Nat) : Bool := s.heldFor ((s.timeOf 1 - since) / 65536) leastNs

/-- An instant of MONO lies in the present stage or before it. -/
def State.reached (s : State) (at_ : Nat) : Bool := decide (at_ < s.timeOf 1 + s.tsNs * 65536)

/-- Sets the value of a time base (R80). -/
def State.setTime (s : State) (b u : Nat) : State :=
  let sec := u / unitsPerSecond
  let r := u % unitsPerSecond
  (((s.wr (Reg.TIME_BASE_SECONDS_HI b) (sec / 2 ^ 32)).wr (Reg.TIME_BASE_SECONDS_LO b) sec).wr
    (Reg.TIME_BASE_NANOSECONDS b) (r / 65536)).wr (Reg.TIME_BASE_FRACTION b) (r % 65536)

/-- The stamp of a time base at the last stage boundary, in whole nanoseconds (R84, R100). -/
def State.stampNs (s : State) (b : Nat) : Nat :=
  (s.rd (Reg.TIME_STAMP_BASE_SECONDS_HI b) * 2 ^ 32 + s.rd (Reg.TIME_STAMP_BASE_SECONDS_LO b)) * 1000000000
    + s.rd (Reg.TIME_STAMP_BASE_NANOSECONDS b)

/-- Records the stage counter and the value of each base as the stamps of a stage boundary (R84). -/
def State.stampBase (s : State) (b : Nat) : State :=
  [0x0, 0x4, 0x8, 0xC].foldl (fun t o => t.setWord (0x01002048 + 16 * b + o) (t.word (0x01002000 + 16 * b + o))) s

def State.stampStage (s : State) : State :=
  let s := (s.wr Reg.TIME_STAGE_STAMP_STAGE_HI (s.stage / 2 ^ 32)).wr Reg.TIME_STAGE_STAMP_STAGE_LO s.stage
  [0, 1, 2, 3].foldl State.stampBase s

/-- Milliseconds as nanoseconds. -/
def msNs (ms : Nat) : Nat := ms * 1000000

/-- Bits [31:0] of the stage counter, as many status fields give it. -/
def State.stage32 (s : State) : Nat := s.stage % 2 ^ 32

/-- The low 16 bits of ID_BOOT_COUNT. -/
def State.boot16 (s : State) : Nat := s.rd Reg.ID_BOOT_COUNT_COUNT % 65536

/-! ### Sorting -/

/-- Puts an item before the first one with a larger key. -/
def insertBy {α : Type} (key : α → Nat) (x : α) : List α → List α
  | [] => [x]
  | y :: t => if key x < key y then x :: y :: t else y :: insertBy key x t

/-- A list in ascending order of a key; items of one key keep their order. -/
def sortBy {α : Type} (key : α → Nat) (l : List α) : List α := l.foldl (fun acc x => insertBy key x acc) []

/-! ### Free values -/

/-- Takes a fresh free value. -/
def State.takeFree (s : State) : Word × State := (Config.freeWord s.free, { s with free := s.free + 1 })

/-! ### Journal -/

/-- The SUBJECT of a journal entry: a kind and an index (R454). -/
def subj (kind index : Nat) : Nat := kind * 4096 + index % 4096

/-- The CLASS byte of a journal entry (R454). -/
def FaultClass.code : FaultClass → Nat
  | .f0 => 1 | .f1 => 2 | .f2 => 3 | .f3 => 4 | .d => 5 | .demand => 6

/-- The vendor recovery program runs (R592). -/
def State.recovery (s : State) : Bool := s.flag Reg.CMD_MON_STAT_RECOVERY

/-- The queue with a further entry: none where it is full (R453), nor in the recovery program, which writes no journal (R592). -/
def State.queueWith (s : State) (e : JEntry) : List JEntry :=
  if s.recovery || decide (1024 ≤ s.flt.queue.length) then s.flt.queue else s.flt.queue ++ [e]

/-- The registers after that: QUEUED, or DROPPED. -/
def State.queueRegs (s : State) : List (Nat × Word) :=
  if s.recovery then s.regs
  else if s.flt.queue.length < 1024 then (s.wr Reg.JRNL_STAT_QUEUED (s.flt.queue.length + 1)).regs
  else (s.inc Reg.JRNL_STAT_DROPPED).regs

/-- Queues an entry, or drops and counts it where the queue is full (R453). -/
def State.enqueue (s : State) (e : JEntry) : State :=
  { s with flt := { s.flt with queue := s.queueWith e }, regs := s.queueRegs }

/-- The journal entry of an event or a fault of the present stage: its code, CLASS, SUBJECT and DATA (R454). -/
def State.jentry (s : State) (code cls subject : Nat) (data : List Byte) (mirrored : Bool) : JEntry :=
  { boot := s.boot16
    stage := s.stage
    gridS := s.rd (Reg.TIME_STAMP_BASE_SECONDS_LO 0)
    synced := s.flag (Reg.TIME_STAMP_BASE_SYNCED 0)
    gridNs := s.rd (Reg.TIME_STAMP_BASE_NANOSECONDS 0)
    code := code, cls := cls, mirrored := mirrored, subject := subject, data := data }

/-- Journals an event or a fault of the present stage (R453, R454). -/
def State.journal (s : State) (code cls subject : Nat) (data : List Byte) (mirrored : Bool := false) : State :=
  s.enqueue (s.jentry code cls subject data mirrored)

/-- Journals an event (CLASS 0). -/
def State.event (s : State) (code : Nat) (subject : Nat := 0) (data : List Byte := []) : State :=
  s.journal code 0 subject data

/-- The 64 bytes of a journal entry with its number (R454). -/
def JEntry.bytes (e : JEntry) (number : Nat) : List Byte :=
  beBytes 4 number ++ beBytes 2 e.boot ++ beBytes 6 e.stage ++ beBytes 4 e.gridS
    ++ beBytes 4 ((if e.synced then 2 ^ 31 else 0) + e.gridNs % 2 ^ 30)
    ++ beBytes 2 e.code ++ beBytes 1 e.cls ++ beBytes 1 (if e.mirrored then 128 else 0)
    ++ beBytes 2 e.subject ++ beBytes 2 0 ++ (e.data ++ List.replicate 36 0).take 36

/-- Where journal entry n lies (R453). -/
def journalAddr (n : Nat) : Nat := 0x16120000 + n % 65536 * 64

/-- Writes one entry to the journal store and updates JRNL_STAT (R453, R490). -/
def State.writeEntry (s : State) (e : JEntry) : State :=
  let n := s.flt.nextNum
  let s := s.store (journalAddr n) (e.bytes n)
  let full := s.flt.written && (n + 2 ^ 32 - s.rd Reg.JRNL_STAT_OLDEST) % 2 ^ 32 == 65536
  let s := if full then (s.inc Reg.JRNL_STAT_OVERFLOW).wr Reg.JRNL_STAT_OLDEST ((s.rd Reg.JRNL_STAT_OLDEST + 1) % 2 ^ 32) else s
  let s := if s.flt.written then s else s.wr Reg.JRNL_STAT_OLDEST n
  ({ s with flt := { s.flt with nextNum := (n + 1) % 2 ^ 32, written := true } }).wr Reg.JRNL_STAT_NEWEST n

/-- Writes the queue's first entries, as many as the model writes in a stage (R453: at least 64). -/
def State.writeQueued (s : State) : State :=
  let now := s.flt.queue.take 64
  let rest := s.flt.queue.drop 64
  let s := now.foldl State.writeEntry { s with flt := { s.flt with queue := rest } }
  s.wr Reg.JRNL_STAT_QUEUED s.flt.queue.length

/-! ### Faults -/

/-- The FLT_LATCH entries. -/
def latchIdx : List Nat := List.range 16

/-- Whether an F3 fault is latched (R448, R484). -/
def State.f3Latched (s : State) (code : Nat) : Bool :=
  latchIdx.any (fun i => s.flag (Reg.FLT_LATCH_VALID i) && s.rd (Reg.FLT_LATCH_CODE i) == code)

/-- Whether any F3 fault is latched. -/
def State.anyF3 (s : State) : Bool := latchIdx.any (fun i => s.flag (Reg.FLT_LATCH_VALID i))

/-- Puts a fault on the list of those raised at the next stage boundary (R448), unless it is an F3 fault that is latched, or the
same fault on the same subject is on the list already. -/
def State.raise (s : State) (code : Nat) (cls : FaultClass) (subject : Nat := 0) (data : List Byte := []) (mirrored : Bool := false) :
    State :=
  if (cls = .f3 ∧ s.f3Latched code) ∨ s.flt.pending.any (fun f => f.code == code && f.subject == subject && f.data == data) then s
  else { s with flt := { s.flt with pending := s.flt.pending ++ [⟨code, cls, subject, data, mirrored⟩] } }

/-- Puts a notice on that list whatever stands there: each of its events is raised and journalled. -/
def State.raiseEach (s : State) (code : Nat) (cls : FaultClass) (subject : Nat := 0) (data : List Byte := []) : State :=
  { s with flt := { s.flt with pending := s.flt.pending ++ [⟨code, cls, subject, data, false⟩] } }

/-- Asks for a logbook trigger at the next stage boundary (R456). -/
def State.askTrigger (s : State) : State := { s with flt := { s.flt with trigger := true } }

/-! ### What the block puts out -/

/-- Adds an output. -/
def State.put (s : State) (o : Out) : State := { s with out := s.out ++ [o] }

/-- The controller runs: full operation, not held in reset, islands not stopped (R32, R50, R70). -/
def State.running (s : State) : Bool :=
  decide (s.power.region = .full) && !s.power.held && !s.clk.stopped

/-- A command of the controller: it starts a fresh list of outputs, and has an effect only while the controller runs. -/
def onRun (s : State) (f : State → State) : Res :=
  let s := { s with out := [] }
  .next (if s.running then f s else s)

/-- A command whose effect does not depend on the controller's running. -/
def always (s : State) (f : State → State) : Res := .next (f { s with out := [] })

end Sys2Proof.Machine
end

