-- ==== Sys2Proof/Machine/Packet.lean ====
section
/-! DEFINITION. Command packets and replies: their layout, their check codes and the order of the checks (R146 to R149), the status
codes (R179), and the command that a packet's verb and payload spell (R160, R165 to R171). -/

namespace Sys2Proof.Machine

open Sys2Proof

/-! ### Status codes (R179) -/

namespace Status
def OK : Nat := 0x0000
def LATE_EXECUTED : Nat := 0x0001
def IN_PROGRESS : Nat := 0x0002
def DATA_UNCORRECTABLE : Nat := 0x0003
def CONDITION_FALSE : Nat := 0x0004
def CRC_FAILED : Nat := 0x0101
def VERSION_UNSUPPORTED : Nat := 0x0102
def LENGTH_INVALID : Nat := 0x0103
def SESSION_NOT_OPEN : Nat := 0x0201
def SESSION_BUSY : Nat := 0x0202
def CREDIT_EXCEEDED : Nat := 0x0203
def STALE_SEQUENCE : Nat := 0x0204
def SEQUENCE_GAP : Nat := 0x0205
def SESSION_CLOSED : Nat := 0x0206
def NOT_KEEPER : Nat := 0x0207
def VERB_UNKNOWN : Nat := 0x0301
def MOOD_NOT_ALLOWED : Nat := 0x0302
def PAYLOAD_INVALID : Nat := 0x0303
def DUE_TIME_TOO_FAR : Nat := 0x0304
def TIME_BASE_UNSYNCED : Nat := 0x0305
def ADDRESS_INVALID : Nat := 0x0401
def ACCESS_DENIED : Nat := 0x0402
def READ_ONLY : Nat := 0x0403
def RESERVED_NONZERO : Nat := 0x0404
def VALUE_OUT_OF_RANGE : Nat := 0x0405
def SNAPSHOT_TOO_LARGE : Nat := 0x0406
def SHADOW_FULL : Nat := 0x0407
def LIFECYCLE_REFUSED : Nat := 0x0408
def LIFECYCLE_BUSY : Nat := 0x0409
def AUTH_FAILED : Nat := 0x040A
def BUSY_RUNNING : Nat := 0x0501
def STATE_REFUSED : Nat := 0x0502
def RESOURCE_BUSY : Nat := 0x0503
def TRIP_STILL_ACTIVE : Nat := 0x0504
def NOT_READY : Nat := 0x0505
def SAFETY_TOKEN_INVALID : Nat := 0x0506
def TIMEOUT : Nat := 0x0601
def TEST_FAILED : Nat := 0x0602
def CAL_FAILED : Nat := 0x0603
def PARCEL_NAK : Nat := 0x0604
def PARCEL_TIMEOUT : Nat := 0x0605
def CELL_ABSENT : Nat := 0x0606
def FLASH_ERROR : Nat := 0x0607
def IMAGE_INVALID : Nat := 0x0608
def TX_ABORTED_BUSOFF : Nat := 0x0701
def NO_ACK : Nat := 0x0702
def PENDING_BUSOFF : Nat := 0x0703
end Status

/-! ### Verb codes (R165) -/

namespace Verb
def GET : Nat := 0x01
def SET : Nat := 0x02
def SNAPSHOT : Nat := 0x03
def APPLY : Nat := 0x04
def STATE : Nat := 0x10
def START : Nat := 0x11
def STOP : Nat := 0x12
def TRIP : Nat := 0x13
def CLEAR : Nat := 0x14
def ROLE : Nat := 0x15
def SETPOINT : Nat := 0x20
def RAMP : Nat := 0x21
def TEST : Nat := 0x30
def CAL : Nat := 0x31
def JOURNAL : Nat := 0x40
def LOGBOOK_FREEZE : Nat := 0x41
def LOGBOOK_READ : Nat := 0x42
def PARCEL : Nat := 0x50
def LIFECYCLE : Nat := 0x60
def FIRMWARE : Nat := 0x61
def CRC : Nat := 0x70
def ECHO : Nat := 0x71
end Verb

/-- The moods of each verb (R165): whether AT, then whether IF, is in its Moods column; `none` for an unknown verb. -/
def verbMoods (verb : Nat) : Option (Bool × Bool) :=
  if verb ∈ [0x01, 0x02, 0x03, 0x04, 0x10, 0x11, 0x12, 0x20, 0x21, 0x30, 0x41, 0x71] then some (true, true)
  else if verb ∈ [0x13, 0x31, 0x70] then some (true, false)
  else if verb ∈ [0x14, 0x50] then some (false, true)
  else if verb ∈ [0x15, 0x40, 0x42, 0x60, 0x61] then some (false, false)
  else none

/-- The MOOD code (R146). -/
def Mood.code : Mood → Nat
  | .ask => 0 | .now => 1 | .due .. => 2 | .when _ => 3

/-- The BASE code of a mood (R146). -/
def Mood.base : Mood → Nat
  | .due b _ _ => b.val
  | _ => 0

/-- Whether a verb allows a mood (R165). -/
def moodAllowed (verb mood : Nat) : Bool :=
  match verbMoods verb with
  | none => false
  | some (at_, if_) => mood == 0 || mood == 1 || (mood == 2 && at_) || (mood == 3 && if_)

/-- Flag bits of byte 3 (R146). -/
def flagReply : Nat := 32
def flagInterim : Nat := 16
def flagShadow : Nat := 8
def flagOpen : Nat := 4
def flagClose : Nat := 2

/-! ### Packets -/

/-- A packet as received or sent (R146). -/
structure Packet where
  head    : Head
  version : Nat
  rest9   : Nat
  addr    : Nat
  due     : Nat
  payload : List Byte
  deriving DecidableEq, Repr

/-- The seed of the CRC tail (R148). -/
def crcSeed (session seq : Nat) : Nat := 0xFFFFFFFF ^^^ seq ^^^ (session * 0x40000000)

/-- The bytes of a packet without its tail (R146). -/
def Packet.body (p : Packet) : List Byte :=
  beBytes 2 0xD7A1 ++ beBytes 1 p.version ++ beBytes 1 (p.head.session * 64 + p.head.flags) ++ beBytes 4 p.head.seq
    ++ beBytes 1 p.head.verb ++ beBytes 1 (p.head.mood * 64 + p.head.base * 16 + p.rest9) ++ beBytes 2 p.payload.length
    ++ beBytes 4 p.addr ++ beBytes 8 p.due ++ p.payload

/-- The bytes of a packet (R146, R148). -/
def Packet.bytes (p : Packet) : List Byte := p.body ++ beBytes 4 (crc32c (crcSeed p.head.session p.head.seq) p.body)

/-- The packet that bytes spell, whatever their checks say (R146). -/
def readPacket (bs : List Byte) : Packet :=
  { head := { session := beAt bs 3 1 / 64, seq := beAt bs 4 4, verb := beAt bs 8 1, mood := beAt bs 9 1 / 64,
              base := beAt bs 9 1 / 16 % 4, flags := beAt bs 3 1 % 64 }
    version := beAt bs 2 1
    rest9 := beAt bs 9 1 % 16
    addr := beAt bs 12 4
    due := beAt bs 16 8
    payload := (bs.drop 24).take (bs.length - 28) }

/-- What the checks of R149 make of received bytes. -/
inductive Received where
  /-- Not a packet: no reply, counted. -/
  | notPacket
  /-- Refused with a status, replied with the head as received. -/
  | refused (p : Packet) (status : Nat)
  /-- A packet that passes. -/
  | passed (p : Packet)
  deriving DecidableEq, Repr

/-- The checks of R149, in its order. -/
def receive (bs : List Byte) : Received :=
  let p := readPacket bs
  if beAt bs 0 2 ≠ 0xD7A1 ∨ bs.length < 28 then .notPacket
  else if beAt bs 10 2 + 28 ≠ bs.length ∨ 1400 < beAt bs 10 2 then .refused p Status.LENGTH_INVALID
  else if beAt bs (bs.length - 4) 4 ≠ crc32c (crcSeed p.head.session p.head.seq) (bs.take (bs.length - 4)) then
    .refused p Status.CRC_FAILED
  else if p.version ≠ 1 then .refused p Status.VERSION_UNSUPPORTED
  else if p.head.flags / 16 ≠ 0 ∨ p.head.flags % 2 ≠ 0 ∨ p.rest9 ≠ 0 ∨ (p.due ≠ 0 ∧ p.head.mood ≠ 2)
      ∨ (p.addr ≠ 0 ∧ p.head.verb ≠ Verb.GET ∧ p.head.verb ≠ Verb.SET) then .refused p Status.PAYLOAD_INVALID
  else .passed p

/-- The bytes of a reply (R147): its head, its fields in bytes 12 to 23, its payload and its tail. -/
def Reply.bytes (r : Reply) : List Byte :=
  Packet.bytes
    { head := { r.head with flags := flagReply + (if r.interim then flagInterim else 0) + r.head.flags % 16 / 2 * 2 }
      version := 1, rest9 := 0
      addr := r.status * 65536 + r.credit * 256
      due := r.boot % 65536 * 2 ^ 48 + r.stage % 2 ^ 48
      payload := r.payload }

/-! ### The command that a packet spells -/

/-- Whether all bytes are 0. -/
def allZero (bs : List Byte) : Bool := bs.all (fun b => b == 0)

/-- Bytes `o` to `o + n - 1` of a list. -/
def slice (bs : List Byte) (o n : Nat) : List Byte := (bs.drop o).take n

/-- A word of a list of bytes, most significant byte first. -/
def wordAt (bs : List Byte) (o : Nat) : Word := BitVec.ofNat 32 (beAt bs o 4)
def halfAt (bs : List Byte) (o : Nat) : BitVec 16 := BitVec.ofNat 16 (beAt bs o 2)
def byteAt (bs : List Byte) (o : Nat) : Byte := bs.getD o 0

/-- A command, or the status that its payload is refused with (R165). -/
abbrev Spelt := Except Nat Instr

/-- `n` entries of `w` bytes each from an offset on. -/
def entriesAt {α : Type} (bs : List Byte) (o w n : Nat) (f : List Byte → α) : List α :=
  (List.range n).map (fun k => f (slice bs (o + w * k) w))

open Status in
/-- The command that a verb's payload spells for a request (R165 to R171, R201, R248, R249, R436, R514, R515). -/
def spell (verb : Nat) (r : Req) (shadow : Bool) (addr : Word) (b : List Byte) : Spelt :=
  let n := b.length
  if verb = Verb.GET then
    if n ≠ 4 ∨ beAt b 2 2 ≠ 0 then .error PAYLOAD_INVALID else .ok (.get r shadow addr (halfAt b 0) 0 [])
  else if verb = Verb.SET then
    if n < 4 ∨ n % 4 ≠ 0 then .error PAYLOAD_INVALID else .ok (.set r addr b)
  else if verb = Verb.SNAPSHOT then
    if n < 4 ∨ beAt b 1 3 ≠ 0 ∨ n ≠ 4 + 8 * beAt b 0 1 then .error PAYLOAD_INVALID
    else .ok (.snapshot r (entriesAt b 4 8 (beAt b 0 1) (fun e => (wordAt e 0, wordAt e 4))))
  else if verb = Verb.APPLY then
    if n ≠ 4 ∨ beAt b 1 3 ≠ 0 then .error PAYLOAD_INVALID
    else if beAt b 0 1 = 0 then .ok (.applyCommit r) else if beAt b 0 1 = 1 then .ok (.applyDiscard r)
    else .error VALUE_OUT_OF_RANGE
  else if verb = Verb.STATE then
    if r.mood = .ask ∧ n = 0 then .ok (.state r none)
    else if n ≠ 4 ∨ beAt b 1 3 ≠ 0 ∨ r.mood = .ask then .error PAYLOAD_INVALID
    else .ok (.state r (some (byteAt b 0)))
  else if verb = Verb.START then
    if n ≠ 4 ∨ beAt b 1 3 ≠ 0 then .error PAYLOAD_INVALID
    else if beAt b 0 1 = 0 then .ok (.startConverter r) else if beAt b 0 1 = 1 then .ok (.startDrive r)
    else .error VALUE_OUT_OF_RANGE
  else if verb = Verb.STOP then
    if n ≠ 4 ∨ beAt b 2 2 ≠ 0 then .error PAYLOAD_INVALID
    else if 23 < beAt b 1 1 then .error VALUE_OUT_OF_RANGE
    else if beAt b 0 1 = 0 then .ok (.stopConverter r) else if beAt b 0 1 = 1 then .ok (.stopDrive r)
    else if beAt b 0 1 = 2 then .ok (.stopArm r (byteAt b 1)) else .error VALUE_OUT_OF_RANGE
  else if verb = Verb.TRIP then
    if n ≠ 4 ∨ beAt b 2 2 ≠ 0 then .error PAYLOAD_INVALID else .ok (.trip r (halfAt b 0))
  else if verb = Verb.CLEAR then
    let p := beAt b 0 4
    if n < 4 ∨ p = 0 ∨ 32 ≤ p ∨ n ≠ (if 16 ≤ p then 36 else 4) then .error PAYLOAD_INVALID
    else if p % 2 = 1 then .ok (.clearFaults r (wordAt b 0) (b.drop 4))
    else if p / 2 % 2 = 1 then .ok (.clearDrive r (wordAt b 0) (b.drop 4))
    else if p / 4 % 4 ≠ 0 then .ok (.clearCanRecover r (wordAt b 0) (b.drop 4))
    else .ok (.clearSafety r (wordAt b 0) (b.drop 4))
  else if verb = Verb.ROLE then
    if n ≠ 4 ∨ beAt b 1 3 ≠ 0 then .error PAYLOAD_INVALID
    else if beAt b 0 1 = 0 then .ok (.roleReport r) else if beAt b 0 1 = 1 then .ok (.roleYield r)
    else .error VALUE_OUT_OF_RANGE
  else if verb = Verb.SETPOINT then
    if n = 0 ∨ n % 8 ≠ 0 ∨ 256 < n ∨ ((List.range (n / 8)).any (fun k => beAt b (8 * k + 2) 2 != 0)) then .error PAYLOAD_INVALID
    else .ok (.setpoint r (entriesAt b 0 8 (n / 8) (fun e => (halfAt e 0, wordAt e 4))))
  else if verb = Verb.RAMP then
    if n ≠ 12 ∨ beAt b 2 2 ≠ 0 then .error PAYLOAD_INVALID else .ok (.ramp r (halfAt b 0) (wordAt b 4) (wordAt b 8))
  else if verb = Verb.TEST then
    if n ≠ 8 ∨ beAt b 2 2 ≠ 0 then .error PAYLOAD_INVALID
    else
      let p := wordAt b 4
      match beAt b 0 2 with
      | 0x0600 => .ok (.routeTrain r p)
      | 0x0700 => .ok (.linkPrbs r p)
      | 0x0701 => .ok (.linkInject r p)
      | 0x0C20 => .ok (.safeParamWrite r p)
      | 0x0C21 => .ok (.safeParamCommit r p)
      | 0x0C22 => .ok (.safeParamDiscard r p)
      | _ => .error VALUE_OUT_OF_RANGE
  else if verb = Verb.CAL then
    if n ≠ 8 ∨ beAt b 2 2 ≠ 0 then .error PAYLOAD_INVALID
    else
      let p := wordAt b 4
      match beAt b 0 2 with
      | 0x0A00 => .ok (.calAdc r 0 p)
      | 0x0A01 => .ok (.calAdc r 1 p)
      | 0x0A02 => .ok (.calAdc r 2 p)
      | 0x0A03 => .ok (.calAdc r 3 p)
      | 0x0A04 => .ok (.calAdc4 r p)
      | 0x0A10 => .ok (.calSdOffset r p)
      | _ => .error VALUE_OUT_OF_RANGE
  else if verb = Verb.JOURNAL then
    if n ≠ 8 ∨ beAt b 5 3 ≠ 0 then .error PAYLOAD_INVALID else .ok (.journal r (wordAt b 0) ⟨byteAt b 4, []⟩)
  else if verb = Verb.LOGBOOK_FREEZE then
    if n ≠ 4 ∨ beAt b 1 3 ≠ 0 then .error PAYLOAD_INVALID
    else if beAt b 0 1 = 0 then .ok (.logbookTrigger r) else if beAt b 0 1 = 1 then .ok (.logbookRelease r)
    else .error VALUE_OUT_OF_RANGE
  else if verb = Verb.LOGBOOK_READ then
    if n ≠ 8 ∨ beAt b 6 2 ≠ 0 then .error PAYLOAD_INVALID
    else .ok (.logbookRead r (halfAt b 0) (halfAt b 2) (halfAt b 4) [])
  else if verb = Verb.PARCEL then
    if n < 4 ∨ beAt b 3 1 ≠ 0 ∨ 1396 < n then .error PAYLOAD_INVALID
    else .ok (.parcel r (halfAt b 0) (byteAt b 2) (b.drop 4))
  else if verb = Verb.LIFECYCLE then
    if n < 4 ∨ beAt b 3 1 ≠ 0 then .error PAYLOAD_INVALID
    else if beAt b 0 1 = 0 then
      if n ≠ 100 then .error PAYLOAD_INVALID
      else .ok (.lifecycleTransition r (byteAt b 1) (byteAt b 2) (slice b 4 32) (slice b 36 64))
    else if beAt b 0 1 = 1 then
      if n ≠ 4 then .error PAYLOAD_INVALID
      else if beAt b 1 2 ≠ 0 then .error VALUE_OUT_OF_RANGE else .ok (.saveConfig r)
    else .error VALUE_OUT_OF_RANGE
  else if verb = Verb.FIRMWARE then
    if n < 4 ∨ beAt b 1 3 ≠ 0 then .error PAYLOAD_INVALID
    else
      match beAt b 0 1 with
      | 0 => if n ≠ 8 then .error PAYLOAD_INVALID else .ok (.firmwareBegin r (wordAt b 4))
      | 1 => if n < 8 then .error PAYLOAD_INVALID else .ok (.firmwareWrite r (wordAt b 4) (b.drop 8))
      | 2 => if n ≠ 4 then .error PAYLOAD_INVALID else .ok (.firmwareCommit r)
      | 3 => if n ≠ 4 then .error PAYLOAD_INVALID else .ok (.firmwareAbort r)
      | 4 => if n ≠ 4 then .error PAYLOAD_INVALID else .ok (.firmwareActivate r)
      | _ => .error VALUE_OUT_OF_RANGE
  else if verb = Verb.CRC then
    if n ≠ 12 ∨ beAt b 1 3 ≠ 0 then .error PAYLOAD_INVALID
    else .ok (.crc r (byteAt b 0) (wordAt b 4) ⟨wordAt b 8, []⟩)
  else if verb = Verb.ECHO then .ok (.echo r b)
  else .error VERB_UNKNOWN

/-- The condition of mood IF from the first 16 bytes of a payload (R160). -/
def readCond (b : List Byte) : Except Nat Cond :=
  if b.length < 16 ∨ beAt b 13 3 ≠ 0 ∨ 5 < beAt b 12 1 then .error Status.PAYLOAD_INVALID
  else .ok ⟨wordAt b 0, wordAt b 4, wordAt b 8, byteAt b 12⟩

/-- The command that a packet spells, or the status it is refused with (R160, R165). -/
def Packet.spell (p : Packet) (mirrored : Bool) : Spelt :=
  let sid : Fin 4 := Fin.ofNat 4 p.head.session
  let shadow := p.head.flags / 8 % 2 = 1
  let go (m : Mood) (b : List Byte) : Spelt :=
    Machine.spell p.head.verb ⟨sid, m, mirrored⟩ shadow (BitVec.ofNat 32 p.addr) b
  if (verbMoods p.head.verb).isNone then .error Status.VERB_UNKNOWN
  else if !(moodAllowed p.head.verb p.head.mood) then .error Status.MOOD_NOT_ALLOWED
  else if p.head.mood = 0 then go .ask p.payload
  else if p.head.mood = 1 then go .now p.payload
  else if p.head.mood = 2 then
    go (.due (Fin.ofNat 4 p.head.base) (BitVec.ofNat 32 (p.due / 2 ^ 32)) (BitVec.ofNat 32 p.due)) p.payload
  else
    match readCond p.payload with
    | .error e => .error e
    | .ok c => go (.when c) (p.payload.drop 16)

end Sys2Proof.Machine
end

