-- ==== Sys2Proof/Machine/Text.lean ====
section
/-! DEFINITION. The monitor's text form (R152, R603): numbers and words in ASCII, a request line as a packet, a reply as a line. -/

namespace Sys2Proof.Machine

open Sys2Proof

/-- The bytes of an ASCII string. -/
def ascii (t : String) : List Byte := t.toList.map (fun c => BitVec.ofNat 8 c.toNat)

/-- The digits of a number, least significant first. -/
def digitsFrom : Nat → Nat → Nat → List Nat
  | 0, _, _ => []
  | fuel + 1, base, n => if n < base then [n] else n % base :: digitsFrom fuel base (n / base)

/-- A number in decimal. -/
def decText (n : Nat) : List Byte := ((digitsFrom 24 10 n).reverse).map (fun d => BitVec.ofNat 8 (48 + d))

/-- A hexadecimal digit. -/
def hexDigit (d : Nat) : Byte := BitVec.ofNat 8 (if d < 10 then 48 + d else 55 + d)

/-- Bytes as hexadecimal digits. -/
def hexText (bs : List Byte) : List Byte := (bs.map (fun b => [hexDigit (b.toNat / 16), hexDigit (b.toNat % 16)])).flatten

/-- The value of a digit character. -/
def digitVal (b : Byte) : Option Nat :=
  let n := b.toNat
  if 48 ≤ n ∧ n ≤ 57 then some (n - 48)
  else if 65 ≤ n ∧ n ≤ 70 then some (n - 55)
  else if 97 ≤ n ∧ n ≤ 102 then some (n - 87)
  else none

/-- The number that characters spell in a base. -/
def readDigits (base : Nat) : List Byte → Nat → Option Nat
  | [], v => some v
  | b :: t, v =>
    match digitVal b with
    | some d => if d < base then readDigits base t (v * base + d) else none
    | none => none

/-- A decimal number. -/
def readDec (t : List Byte) : Option Nat := if t = [] then none else readDigits 10 t 0

/-- A hexadecimal number, with underscores between its digits and an optional 0x (R2). -/
def readHex (t : List Byte) : Option Nat :=
  let u := if t.take 2 = ascii "0x" then t.drop 2 else t
  let v := u.filter (fun b => b != 95)
  if v = [] then none else readDigits 16 v 0

/-- Bytes that pairs of hexadecimal digits spell. -/
def readBytes : List Byte → Option (List Byte)
  | [] => some []
  | [_] => none
  | a :: b :: t =>
    match digitVal a, digitVal b, readBytes t with
    | some x, some y, some r => some (BitVec.ofNat 8 (x * 16 + y) :: r)
    | _, _, _ => none

/-- Splits a line at a character. -/
def splitAt (c : Byte) : List Byte → List (List Byte)
  | [] => [[]]
  | b :: t =>
    match splitAt c t with
    | [] => [[b]]
    | h :: r => if b = c then [] :: h :: r else (b :: h) :: r

/-- The verbs' names (R165). -/
def verbNames : List (String × Nat) :=
  [("GET", 0x01), ("SET", 0x02), ("SNAPSHOT", 0x03), ("APPLY", 0x04), ("STATE", 0x10), ("START", 0x11), ("STOP", 0x12), ("TRIP", 0x13),
   ("CLEAR", 0x14), ("ROLE", 0x15), ("SETPOINT", 0x20), ("RAMP", 0x21), ("TEST", 0x30), ("CAL", 0x31), ("JOURNAL", 0x40),
   ("LOGBOOK_FREEZE", 0x41), ("LOGBOOK_READ", 0x42), ("PARCEL", 0x50), ("LIFECYCLE", 0x60), ("FIRMWARE", 0x61), ("CRC", 0x70),
   ("ECHO", 0x71)]

/-- The names of the status codes (R179). -/
def statusNames : List (String × Nat) :=
  [("OK", 0x0000), ("LATE_EXECUTED", 0x0001), ("IN_PROGRESS", 0x0002), ("DATA_UNCORRECTABLE", 0x0003), ("CONDITION_FALSE", 0x0004),
   ("CRC_FAILED", 0x0101), ("VERSION_UNSUPPORTED", 0x0102), ("LENGTH_INVALID", 0x0103), ("SESSION_NOT_OPEN", 0x0201),
   ("SESSION_BUSY", 0x0202), ("CREDIT_EXCEEDED", 0x0203), ("STALE_SEQUENCE", 0x0204), ("SEQUENCE_GAP", 0x0205),
   ("SESSION_CLOSED", 0x0206), ("NOT_KEEPER", 0x0207), ("VERB_UNKNOWN", 0x0301), ("MOOD_NOT_ALLOWED", 0x0302),
   ("PAYLOAD_INVALID", 0x0303), ("DUE_TIME_TOO_FAR", 0x0304), ("TIME_BASE_UNSYNCED", 0x0305), ("ADDRESS_INVALID", 0x0401),
   ("ACCESS_DENIED", 0x0402), ("READ_ONLY", 0x0403), ("RESERVED_NONZERO", 0x0404), ("VALUE_OUT_OF_RANGE", 0x0405),
   ("SNAPSHOT_TOO_LARGE", 0x0406), ("SHADOW_FULL", 0x0407), ("LIFECYCLE_REFUSED", 0x0408), ("LIFECYCLE_BUSY", 0x0409),
   ("AUTH_FAILED", 0x040A), ("BUSY_RUNNING", 0x0501), ("STATE_REFUSED", 0x0502), ("RESOURCE_BUSY", 0x0503),
   ("TRIP_STILL_ACTIVE", 0x0504), ("NOT_READY", 0x0505), ("SAFETY_TOKEN_INVALID", 0x0506), ("TIMEOUT", 0x0601), ("TEST_FAILED", 0x0602),
   ("CAL_FAILED", 0x0603), ("PARCEL_NAK", 0x0604), ("PARCEL_TIMEOUT", 0x0605), ("CELL_ABSENT", 0x0606), ("FLASH_ERROR", 0x0607),
   ("IMAGE_INVALID", 0x0608)]

/-- The name of a status. -/
def statusName (st : Nat) : List Byte :=
  match statusNames.find? (fun p => p.2 == st) with
  | some p => ascii p.1
  | none => []

/-- A payload in the text form. -/
def payloadText (bs : List Byte) : List Byte := if bs = [] then ascii "-" else hexText bs

/-- A reply as a line (R152). -/
def replyLine (interim : Bool) (session seq status : Nat) (payload : List Byte) : List Byte :=
  ascii (if interim then "~ " else "= ") ++ decText session ++ ascii " " ++ decText seq ++ ascii " " ++ statusName status ++ ascii " "
    ++ payloadText payload

/-- What a line of the text form spells. -/
inductive Line where
  /-- Nothing: no answer (R603). -/
  | discard
  /-- Answered with a status, without conversion (R603). -/
  | answer (session seq status : Nat)
  /-- A packet. -/
  | packet (p : Packet)
  deriving DecidableEq, Repr

/-- The verb that a word spells (R152). -/
def readVerb (t : List Byte) : Option Nat :=
  match verbNames.find? (fun p => ascii p.1 == t) with
  | some p => some p.2
  | none => if t.take 2 = ascii "0x" then (match readHex t with | some v => if v < 256 then some v else none | none => none) else none

/-- The mood, base and due time that a word spells (R152). -/
def readMood (t : List Byte) : Option (Nat × Nat × Nat) :=
  if t = ascii "ASK" then some (0, 0, 0)
  else if t = ascii "DO" then some (1, 0, 0)
  else if t = ascii "IF" then some (3, 0, 0)
  else if t.take 3 = ascii "AT@" then
    match splitAt 58 (t.drop 3) with
    | [b, r] =>
      match splitAt 46 r with
      | [sec, ns] =>
        match readDec b, readDec sec, readDec ns with
        | some b, some x, some n =>
          if b < 4 ∧ x < 2 ^ 32 ∧ ns.length = 9 then some (2, b, x * 2 ^ 32 + n) else none
        | _, _, _ => none
      | _ => none
    | _ => none
  else none

/-- Takes the flag words that follow the mood (R152). -/
def readFlags : List (List Byte) → Nat → Nat × List (List Byte)
  | [], f => (f, [])
  | w :: t, f =>
    if w = ascii "SHADOW" then readFlags t (f ||| flagShadow)
    else if w = ascii "OPEN" then readFlags t (f ||| flagOpen)
    else if w = ascii "CLOSE" then readFlags t (f ||| flagClose)
    else (f, w :: t)

/-- A line as a packet (R152, R603). A "*crc" that does not agree makes the packet's tail wrong: `crcBad`. -/
def readLine (line : List Byte) : Line × Bool :=
  match splitAt 32 line with
  | sid :: sq :: rest =>
    match readDec sid, readDec sq with
    | some i, some q =>
      if 3 < i ∨ 2 ^ 32 ≤ q then (.discard, false)
      else match rest with
        | [] => (.answer i q Status.PAYLOAD_INVALID, false)
        | v :: rest =>
          match readVerb v with
          | none => (.answer i q Status.VERB_UNKNOWN, false)
          | some verb =>
            let bad : Line × Bool := (.answer i q Status.PAYLOAD_INVALID, false)
            match rest with
            | [] => bad
            | m :: rest =>
              match readMood m with
              | none => bad
              | some (mood, base, due) =>
                let (flags, rest) := readFlags rest 0
                let go (a p : List Byte) (c : Option (List Byte)) : Line × Bool :=
                  match readHex a, (if p = ascii "-" then some [] else readBytes p) with
                  | some addr, some payload =>
                    if 2 ^ 32 ≤ addr ∨ 1400 < payload.length then bad
                    else
                      let pk : Packet :=
                        { head := { session := i, seq := q, verb := verb, mood := mood, base := base, flags := flags }
                          version := 1, rest9 := 0, addr := addr, due := due, payload := payload }
                      match c with
                      | none => (.packet pk, false)
                      | some t =>
                        if t.length ≠ 9 ∨ t.head? ≠ some 42 then bad
                        else match readDigits 16 (t.drop 1) 0 with
                          | some x => (.packet pk, x != crc32c (crcSeed i q) pk.body)
                          | none => bad
                  | _, _ => bad
                match rest with
                | [a, p] => go a p none
                | [a, p, c] => go a p (some c)
                | _ => bad
    | _, _ => (.discard, false)
  | _ => (.discard, false)

/-! ### Segments on CAN FD (R151) -/

/-- The CAN FD data lengths from 2 bytes on. -/
def canLengths : List Nat := [2, 3, 4, 5, 6, 7, 8, 12, 16, 20, 24, 32, 48, 64]

/-- The smallest CAN FD data length that holds a number of bytes. -/
def canLength (n : Nat) : Nat := (canLengths.find? (fun l => decide (n ≤ l))).getD 64

/-- One segment, padded to a data length. -/
def segment (ix : Nat) (last : Bool) (bs : List Byte) : List Byte :=
  let head : List Byte := [BitVec.ofNat 8 ((if ix = 0 then 128 else 0) + (if last then 64 else 0) + ix), 0]
  let d := head ++ bs
  d ++ List.replicate (canLength d.length - d.length) 0

/-- The segments of a packet's bytes (R151). -/
def segments (bs : List Byte) : List (List Byte) :=
  let n := (bs.length + 61) / 62
  (List.range n).map (fun k => segment k (k + 1 == n) (slice bs (62 * k) 62))

end Sys2Proof.Machine
end

