-- ==== Sys2Proof/Machine/Mirror.lean ====
section
/-! DEFINITION. The packet of a command (R146, R165 to R171): what a keeper mirrors of a command that has come without a packet's bytes
(R178). -/

namespace Sys2Proof.Machine

open Sys2Proof

/-- Whether an address lies in an object (R105): in one of the spans of its block. -/
def spanAt : List Span → Nat → Option (Nat × Nat)
  | [], _ => none
  | (b, ds, size) :: t, a =>
    if a < b then spanAt t a
    else match locateDims ds (a - b) with
      | some (_, q) => if q < size then some (a - q, size) else spanAt t a
      | none => spanAt t a

/-- The object in which an address lies: its first address and its size (R105). -/
def objectAt (a : Nat) : Option (Nat × Nat) := spanAt (spansOfBlock (a / 0x1000000)) a

/-- The address and data of a SET of the whole object at an address that gives some of its words new values. -/
def State.objectSet (s : State) (a : Nat) (new : List (Nat × Word)) : Nat × List Byte :=
  match objectAt a with
  | some (b, size) =>
    (b, ((List.range (size / 4)).map (fun k => beBytes 4 (((assocGet new (b + 4 * k)).getD (s.word (b + 4 * k))).toNat))).flatten)
  | none => (a, [])

/-- A word with one field set. -/
def State.withField (s : State) (f : Fld) (v : Nat) : Nat × Word := (f.addr, setBits (s.word f.addr) f.msb f.lsb v)

/-- One byte and three of padding. -/
def lone (v : Nat) : List Byte := beBytes 1 v ++ [0, 0, 0]

/-- A TEST or CAL. -/
def testBody (id : Nat) (param : Word) : List Byte := beBytes 2 id ++ [0, 0] ++ beBytes 4 param.toNat

/-- ADDRESS and the payload of a verb's command (R165 to R171); a write of one of an object's fields is a SET of the object. -/
def State.verbBody (s : State) (c : Instr) : Nat × List Byte :=
  match c with
  | .get _ _ a n _ _ => (a.toNat, beBytes 2 n.toNat ++ [0, 0])
  | .set _ a d => (a.toNat, d)
  | .snapshot _ l => (0, lone l.length ++ (l.map (fun p => beBytes 4 p.1.toNat ++ beBytes 4 p.2.toNat)).flatten)
  | .applyDiscard _ | .startDrive _ | .roleYield _ | .logbookRelease _ => (0, lone 1)
  | .state _ t => (0, match t with | some b => lone b.toNat | none => [])
  | .stopDrive _ => (0, lone 1)
  | .stopArm _ a => (0, beBytes 1 2 ++ beBytes 1 a.toNat ++ [0, 0])
  | .trip _ x => (0, beBytes 2 x.toNat ++ [0, 0])
  | .clearFaults _ p t | .clearDrive _ p t | .clearCanRecover _ p t | .clearSafety _ p t => (0, beBytes 4 p.toNat ++ t)
  | .setpoint _ l => (0, (l.map (fun e => beBytes 2 e.1.toNat ++ [0, 0] ++ beBytes 4 e.2.toNat)).flatten)
  | .ramp _ i t x => (0, beBytes 2 i.toNat ++ [0, 0] ++ beBytes 4 t.toNat ++ beBytes 4 x.toNat)
  | .routeTrain _ p => (0, testBody 0x0600 p)
  | .linkPrbs _ p => (0, testBody 0x0700 p)
  | .linkInject _ p => (0, testBody 0x0701 p)
  | .safeParamWrite _ p => (0, testBody 0x0C20 p)
  | .safeParamCommit _ p => (0, testBody 0x0C21 p)
  | .safeParamDiscard _ p => (0, testBody 0x0C22 p)
  | .calAdc _ x p => (0, testBody (0x0A00 + x.val) p)
  | .calAdc4 _ p => (0, testBody 0x0A04 p)
  | .calSdOffset _ p => (0, testBody 0x0A10 p)
  | .journal _ a n => (0, beBytes 4 a.toNat ++ lone n.n.toNat)
  | .logbookRead _ a b n _ => (0, beBytes 2 a.toNat ++ beBytes 2 b.toNat ++ beBytes 2 n.toNat ++ [0, 0])
  | .parcel _ a f b => (0, beBytes 2 a.toNat ++ beBytes 1 f.toNat ++ [0] ++ b)
  | .lifecycleTransition _ t a k g => (0, [0] ++ beBytes 1 t.toNat ++ beBytes 1 a.toNat ++ [0] ++ k ++ g)
  | .saveConfig _ => (0, lone 1)
  | .firmwareBegin _ n => (0, lone 0 ++ beBytes 4 n.toNat)
  | .firmwareWrite _ o d => (0, lone 1 ++ beBytes 4 o.toNat ++ d)
  | .firmwareCommit _ => (0, lone 2)
  | .firmwareAbort _ => (0, lone 3)
  | .firmwareActivate _ => (0, lone 4)
  | .crc _ ch a n => (0, lone ch.toNat ++ beBytes 4 a.toNat ++ beBytes 4 n.n.toNat)
  | .echo _ b | .sessionClose _ b => (0, b)
  | .rampStart _ g => s.objectSet (0x01000100 + 0x100 * g.val) [s.withField (Reg.CLK_RAMP_START g) 1]
  | .rampAbort _ g => s.objectSet (0x01000100 + 0x100 * g.val) [s.withField (Reg.CLK_RAMP_ABORT g) 1]
  | .takeOut _ k => s.objectSet (0x05000040 + 0x100 * k.val) [s.withField (Reg.CELL_SVC_TAKE_OUT k) 1]
  | .release _ k => s.objectSet (0x05000040 + 0x100 * k.val) [s.withField (Reg.CELL_SVC_RELEASE k) 1]
  | .loopSlotModeWrite _ n m o => s.objectSet (0x07300000 + 8 * n.val) [s.withField (Reg.LOOP_SLOT_MODE_MODE n) m.toNat, (0x07300004 + 8 * n.val, o)]
  | .mdioStart _ p op ph rg d =>
    let a := 0x0D000200 + 0x10 * p.val
    let busy := getBits (s.word a) 30 30 * 2 ^ 30
    s.objectSet a [(a, BitVec.ofNat 32 (2 ^ 31 + busy + (if op then 2 ^ 29 else 0) + ph.toNat * 2 ^ 24 + rg.toNat * 2 ^ 16 + d.toNat))]
  | .txReq _ k n _ => s.objectSet (0x0D201000 + 0x10000 * k.val + 0x80 * n.val) [s.withField (Reg.CAN_OBJ_TX_REQ k n) 1]
  | .ack _ k n q => s.objectSet (0x0D201000 + 0x10000 * k.val + 0x80 * n.val) [s.withField (Reg.CAN_OBJ_ACK k n) q.toNat]
  | _ => (0, lone 0)

/-- The bytes before a verb's own payload, and DUE_TIME (R85, R160). -/
def Mood.parts : Mood → List Byte × Nat
  | .due _ sec ns => ([], sec.toNat * 2 ^ 32 + ns.toNat)
  | .when c => (beBytes 4 c.addr.toNat ++ beBytes 4 c.mask.toNat ++ beBytes 4 c.value.toNat ++ beBytes 1 c.op.toNat ++ [0, 0, 0], 0)
  | _ => ([], 0)

/-- The packet of a command with a head and a mood. -/
def State.packetOf (s : State) (h : Head) (m : Mood) (c : Instr) : Packet :=
  let b := s.verbBody c
  let p := m.parts
  { head := h, version := 1, rest9 := 0, addr := b.1, due := p.2, payload := p.1 ++ b.2 }

/-- A keeper with a porter in step mirrors what it accepts (R178). -/
def State.mirrors (s : State) : Bool := s.duo.role == 1 && s.duo.inStep

/-- A packet that a keeper accepts is mirrored to its porter (R178). -/
def State.mirrorBytes (s : State) (session : Nat) (bs : List Byte) : State :=
  if s.mirrors then { s with duo := { s.duo with cmds := s.duo.cmds ++ [(session, bs)] } } else s

/-- So is a command that has come without a packet's bytes. -/
def State.mirrorCmd (s : State) (i : Fin 4) (h : Head) (m : Mood) (c : Instr) : State :=
  if s.mirrors then { s with ses := s.ses.set i { s.ses[i] with tell := s.ses[i].tell ++ [(s.packetOf h m c).bytes] } } else s

end Sys2Proof.Machine
end

