-- ==== Sys2Proof/Machine/Time.lean ====
section
/-! DEFINITION. How the time bases go on between two stage boundaries (R80 to R83, R99, R551), and at what instant an object is read (R12). -/

namespace Sys2Proof.Machine

open Sys2Proof

/-! ### GRID_TIME and BUS_TIME -/

/-- GRID_TIME's advance for a time on MONO, in units: with its correction's rate, and what that leaves over. -/
def State.gridAdvance (s : State) (mono : Nat) : Nat × Int :=
  let x := (mono : Int) * s.clk.gridRate + s.clk.gridRest
  (((mono : Int) + x / 2 ^ 32).toNat, x % 2 ^ 32)

/-- What of an offset is removed in a time on MONO: with the correction of the rate, at most SLEW_PPM of that time (R82). -/
def State.slewPart (s : State) (mono : Nat) : Int :=
  let most : Int := ((mono * s.rd Reg.TIME_GRID_CTRL_SLEW_PPM / 1000000 : Nat) : Int)
  let rate : Int := ((s.gridAdvance mono).1 : Int) - mono
  if 0 ≤ s.clk.slewLeft then min s.clk.slewLeft (max 0 (most - rate)) else max s.clk.slewLeft (min 0 (-most - rate))

/-- The controller that has a time role. -/
def State.timeCan (s : State) : Option (Fin 2) := ([0, 1] : List (Fin 2)).find? (fun c => s.rd (Reg.CAN_CFG_TIME_ROLE c) != 0)

/-- T_CYCLE in units of 2^-16 ns. -/
def State.tCycle (s : State) (c : Fin 2) : Nat := s.rd (Reg.CAN_CFG_T_CYCLE_US c) * 1000 * 65536

/-- One start of a basic cycle, of some age at the boundary, aligns BUS_TIME: `v` is its value at the boundary and `from_` at the start of the
cycle before. The value at the boundary, and at the start. -/
def alignBus (t v : Nat) (from_ : Option Nat) (ageNs : Nat) : Nat × Nat :=
  let age := ageNs * 65536
  let at_ := match from_ with | some f => min (v - age) (f + t) | none => v - age
  let n := (at_ + (t - 1)) / t * t
  (n + age, n)

/-! ### Between two boundaries -/

/-- LANE_TIME's advance for a time on MONO since the last boundary: on the lane tick with its offset, never past the coming boundary. -/
def State.laneAdvance (s : State) (mono : Nat) : Nat :=
  min (s.tsNs * 65536) (((mono : Int) * (1000000000 + s.clk.rampLane.milli) / 1000000000).toNat)

/-- BUS_TIME so long after the last boundary: the starts of basic cycles that have come since align it, and it holds at the end of the present
cycle. The starts' ages are those at the coming boundary. -/
def State.busLater (s : State) (mono : Nat) : Nat :=
  match s.timeCan with
  | none => s.timeOf 3 + mono
  | some c =>
    let starts := s.net.can[c].starts.filterMap (fun age =>
      let at_ := s.tsNs - age
      if at_ * 65536 ≤ mono then some (mono / 65536 - at_) else none)
    let r := starts.foldl (fun (r : Nat × Option Nat) age => let q := alignBus (s.tCycle c) r.1 r.2 age; (q.1, some q.2)) (s.timeOf 3 + mono, s.net.busFrom)
    match r.2 with
    | some f => min r.1 (f + s.tCycle c)
    | none => r.1

/-- The state as a read between two stage boundaries finds it: the time bases have gone on, each at its own rate, for `elapsed` units of MONO
since the last boundary. -/
def State.later (s : State) (elapsed : Nat) : State :=
  let grid := (((s.timeOf 0 + (s.gridAdvance elapsed).1 : Nat) : Int) + s.slewPart elapsed).toNat
  (((s.setTime 0 grid).setTime 1 (s.timeOf 1 + elapsed)).setTime 2 (s.timeOf 2 + s.laneAdvance elapsed)).setTime 3 (s.busLater elapsed)

/-! ### AT commands at the present boundary (R86, R87) -/

/-- An AT command executes at the present boundary (R86). -/
def State.dueNow (s : State) (d : DueCmd) : Bool := decide (1 ≤ d.passed) && decide (d.dueNs ≤ s.stampNs d.base)

/-- Some session's AT command does. -/
def State.anyDue (s : State) : Bool := ([0, 1, 2, 3] : List (Fin 4)).any (fun i => s.ses[i].due.any s.dueNow)

/-! ### The instant of a read (R12) -/

/-- The objects as they stood at the last stage boundary. -/
def State.asOfBoundary (s : State) : State := { s with regs := s.atB }

/-- An object that reports state: each of its fields is read-only or cleared by writing 1. TIME_BASE is read at the instant of reading (R99). -/
def reportsState (a : Nat) : Bool :=
  match objAt a with
  | some (o, _, _) => o.base != 0x01002000 && o.rows.all (fun r => r.acc == .ro || r.acc == .w1c)
  | none => false

end Sys2Proof.Machine
end

