-- ==== Sys2Proof/Machine/Session.lean ====
section
/-! DEFINITION. Sessions (R153 to R159): accepting packets by their sequence, executing the command at the base sequence, moods, replies
and their cache, and what a verb's action answers. -/

namespace Sys2Proof.Machine

open Sys2Proof

/-! ### The session's registers -/

/-- The session with an index. -/
def State.sess (s : State) (i : Fin 4) : Session := s.ses[i]

/-- How many accepted commands a session has not completed (R182). -/
def Session.outstanding (x : Session) : Nat :=
  x.waiting.length + (if x.due.isSome then 1 else 0) + (if x.busy.isSome then 1 else 0)

/-- Replaces a session, keeping the counts that CMD_SESSION shows in step with it. -/
def State.setSess (s : State) (i : Fin 4) (x : Session) : State :=
  let s := { s with ses := s.ses.set i x }
  ((s.wr (Reg.CMD_SESSION_OUTSTANDING i) x.outstanding).wr (Reg.CMD_SESSION_SHADOW_COUNT i) x.shadow.length).wrSat
    (Reg.CMD_SESSION_IDLE i) (x.idleNs / 100000000)

/-- Whether a session is open. -/
def State.isOpen (s : State) (i : Fin 4) : Bool := s.flag (Reg.CMD_SESSION_OPEN i)

/-- The base sequence B. -/
def State.baseSeq (s : State) (i : Fin 4) : Nat := s.rd (Reg.CMD_SESSION_BASE_SEQ i)

/-- The commands a session may still have outstanding (R147). -/
def State.creditOf (s : State) (i : Fin 4) : Nat := 64 - (s.sess i).outstanding

/-- The index of a path in CMD_PATH_STAT (R183). -/
def Path.index : Path → Nat
  | .etha => 0 | .ethb => 1 | .cana => 2 | .canb => 3 | .mon => 4

/-- The path that CMD_SESSION.PATH names. -/
def pathOf : Nat → Path
  | 0 => .etha | 1 => .ethb | 2 => .cana | 3 => .canb | _ => .mon

/-- Whether a command path is enabled (R150, R180); the recovery program serves the monitor alone (R592). -/
def State.pathOn (s : State) : Path → Bool
  | .etha => s.flag Reg.CMD_CFG_ETHA_EN && !s.recovery
  | .ethb => s.flag Reg.CMD_CFG_ETHB_EN && !s.recovery
  | .cana => s.flag Reg.CMD_CFG_CANA_EN && !s.recovery
  | .canb => s.flag Reg.CMD_CFG_CANB_EN && !s.recovery
  | .mon => true

/-- A CAN controller's pads take frames in: its bank is classified, or it loops back (R35, R36, R540). -/
def State.canHears (s : State) (c : Fin 2) : Bool := s.rd Reg.ID_VIO_STAT_CLASS0 != 0 || s.rd (Reg.CAN_CFG_MODE c) == 3

/-- The module serves commands of its own: it is alone or the keeper (R178, R458). -/
def State.isKeeper (s : State) : Bool := decide (s.duo.role ≤ 1)

/-! ### Replies -/

/-- Puts a line out on the monitor, with its CR LF; one that does not fit the 64 KiB of output is dropped and counted (R583). -/
def State.monPut (s : State) (line : List Byte) : State :=
  let n := s.mon.fill + (line.length + 2) * 10000000000
  if 65536 * 10000000000 < n then s.inc Reg.CMD_MON_STAT_TX_DROPPED
  else ({ s with mon := { s.mon with fill := n } }).put (.line line)

/-- A reply of the command path joins those that a controller sends (R151). -/
def State.queueReply (s : State) (c : Fin 2) (r : Reply) : State :=
  { s with canTx := s.canTx.set c (s.canTx[c] ++ [{ left := segments r.bytes, since := s.timeOf 1 }]) }

/-- A controller is done with a reply: the turn of the next one comes (R151). -/
def State.nextReply (s : State) (c : Fin 2) : State :=
  { s with canTx := s.canTx.set c (match s.canTx[c] with
    | _ :: y :: l => { y with since := s.timeOf 1 } :: l
    | _ => []) }

/-- Sends a reply, unless this module only mirrors its keeper's commands (R178): on a CAN controller as segments (R151), on the monitor
as a line (R152). -/
def State.sendReply (s : State) (dst : Source) (r : Reply) (mirrored : Bool := false) : State :=
  if mirrored || (!s.isKeeper && (s.sess (Fin.ofNat 4 r.head.session)).mirror) then s
  else
    let t := s.put (.reply dst r)
    match dst.path with
    | .mon => s.monPut (replyLine r.interim r.head.session r.head.seq r.status r.payload)
    | .cana => t.queueReply 0 r
    | .canb => t.queueReply 1 r
    | .etha => if t.flag (Reg.ETH_STAT_LINK 0) then t.inc (Reg.ETH_STAT_TX_FRAMES 0) else t
    | .ethb => if t.flag (Reg.ETH_STAT_LINK 1) then t.inc (Reg.ETH_STAT_TX_FRAMES 1) else t

/-- The reply to a packet that is not accepted: no credit of its own, not cached (R147, R149, R155). -/
def State.refusePacket (s : State) (dst : Source) (h : Head) (status credit : Nat) : State :=
  s.sendReply dst { head := h, interim := false, status := status, credit := credit, boot := s.boot16, stage := s.stage, payload := [] }

/-- Completes the command at the base sequence: B moves on, the final reply is sent and cached (R155, R157). -/
def State.complete (s : State) (i : Fin 4) (h : Head) (status : Nat) (payload : List Byte) (stage : Nat) (mirrored : Bool := false) :
    State :=
  let s := s.wr (Reg.CMD_SESSION_BASE_SEQ i) (h.seq + 1)
  let r : Reply := { head := h, interim := false, status := status, credit := s.creditOf i, boot := s.boot16, stage := stage,
                     payload := payload }
  let x := s.sess i
  (s.setSess i { x with cache := (r :: x.cache).take 64 }).sendReply x.src r mirrored

/-- Completes, one after the other, the refused packets that have come to the base sequence (R156). -/
def State.drainRefused : Nat → Fin 4 → State → State
  | 0, _, s => s
  | n + 1, i, s =>
    let x := s.sess i
    if x.due.isSome || x.busy.isSome then s
    else match assocGet x.waiting (s.baseSeq i) with
      | some (.refuse h st) =>
        drainRefused n i ((s.setSess i { x with waiting := assocErase x.waiting (s.baseSeq i) }).complete i h st [] s.stage)
      | _ => s

/-- Completes a command and what then stands refused at the base sequence. -/
def State.finish (s : State) (i : Fin 4) (h : Head) (status : Nat) (payload : List Byte) (stage : Nat) (mirrored : Bool := false) :
    State :=
  State.drainRefused 64 i (s.complete i h status payload stage mirrored)

/-- The status with which an operation's final reply ends: LATE_EXECUTED in place of OK where the command came late (R86). -/
def BusyCmd.final (b : BusyCmd) (status : Nat) : Nat := if b.late ∧ status = Status.OK then Status.LATE_EXECUTED else status

/-- The operations that a session executes or has left running when it closed (R154). -/
def Session.ops (x : Session) : List BusyCmd := x.busy.toList ++ x.orphans.map (fun p => p.2)

/-- The first of them that a test picks. -/
def Session.opWith (x : Session) (f : LongOp → Bool) : Option LongOp := (x.ops.map (fun b => b.op)).find? f

/-- The first session with an operation that a test picks. -/
def State.findOp (s : State) (f : LongOp → Bool) : Option (Fin 4) :=
  ([0, 1, 2, 3] : List (Fin 4)).find? (fun i => ((s.sess i).opWith f).isSome)

/-- The stage that a final reply names (R147): that in which the status is decided, but for a capture that of its boundary, and for a START that of
its own. -/
def State.stageOf (s : State) (b : BusyCmd) : Nat :=
  match b.op with
  | .snapshot _ _ | .crcCapture _ _ _ | .start _ => b.stage
  | _ => s.stage

/-- The final reply of an operation that outlived its session goes to the source it had (R154). -/
def State.orphanReply (s : State) (p : Source × BusyCmd) (status : Nat) (payload : List Byte) : State :=
  s.sendReply p.1 { head := p.2.head, interim := false, status := p.2.final status, credit := 0, boot := s.boot16, stage := s.stageOf p.2,
                    payload := payload }

/-- Ends an operation that outlived its session, where there is one that a test picks. -/
def State.endOrphan (s : State) (i : Fin 4) (f : LongOp → Bool) (status : Nat) (payload : List Byte) : State :=
  let x := s.sess i
  match x.orphans.find? (fun p => f p.2.op) with
  | some p => (s.setSess i { x with orphans := x.orphans.eraseP (fun p => f p.2.op) }).orphanReply p status payload
  | none => s

/-- Ends an operation that a session executes, or that outlived it, with its final reply (R154, R172). -/
def State.endBusy (s : State) (i : Fin 4) (op : LongOp) (status : Nat) (payload : List Byte) : State :=
  let x := s.sess i
  match x.busy with
  | some b =>
    if b.op = op then (s.setSess i { x with busy := none }).finish i b.head (b.final status) payload (s.stageOf b)
    else s.endOrphan i (fun o => o == op) status payload
  | none => s.endOrphan i (fun o => o == op) status payload

/-- Ends what one session executes, and what outlived it, where a test picks the operation. -/
def State.endOpsOf (f : LongOp → Bool) (status : Nat) (payload : List Byte) (s : State) (i : Fin 4) : State :=
  let s := (s.sess i).orphans.foldl (fun t _ => t.endOrphan i f status payload) s
  let x := s.sess i
  match x.busy with
  | some b => if f b.op then (s.setSess i { x with busy := none }).finish i b.head (b.final status) payload (s.stageOf b) else s
  | none => s

/-- Ends every operation that a test picks, with one final reply each. -/
def State.endOps (s : State) (f : LongOp → Bool) (status : Nat) (payload : List Byte) : State :=
  ([0, 1, 2, 3] : List (Fin 4)).foldl (State.endOpsOf f status payload) s

/-! ### What a verb's action answers -/

/-- The answer of a verb's action: its status, its reply payload, the state it leaves, the operation that goes on where the reply
must wait, and the stage the reply names. -/
structure VRes where
  status  : Nat
  payload : List Byte := []
  st      : State
  hold    : Option LongOp := none
  stage   : Nat

/-- An action refused with a status: no effect (R179). -/
def State.no (s : State) (status : Nat) : VRes := { status := status, st := s, stage := s.stage }

/-- An action done at once. -/
def State.ok (s : State) (payload : List Byte := []) : VRes := { status := Status.OK, payload := payload, st := s, stage := s.stage }

/-- An action whose effect is placed at the next stage boundary (R147, R159). -/
def State.okNext (s : State) (payload : List Byte := []) : VRes :=
  { status := Status.OK, payload := payload, st := s, stage := s.stage + 1 }

/-- An action whose reply waits for an operation. -/
def State.wait (s : State) (op : LongOp) (stage : Nat) : VRes := { status := Status.OK, st := s, hold := some op, stage := stage }

/-- The effect of a command on everything but the sessions' order: what each verb does when it executes. -/
abbrev Action := State → VRes

/-! ### Moods -/

/-- The condition of mood IF on a word (R160). -/
def Cond.holds (c : Cond) (w : Word) : Bool :=
  let x := w &&& c.mask
  match c.op.toNat with
  | 0 => x == c.value
  | 1 => x != c.value
  | 2 => c.value.toNat ≤ x.toNat
  | 3 => x.toNat ≤ c.value.toNat
  | 4 => c.value.toInt ≤ x.toInt
  | _ => x.toInt ≤ c.value.toInt

/-- Why a condition is refused, if it is (R160): an address that R107 does not let a GET read before one outside the objects. -/
def Cond.refusal (c : Cond) : Option Nat :=
  let a := c.addr.toNat
  if 5 < c.op.toNat then some Status.PAYLOAD_INVALID
  else if 0x17C00000 ≤ a ∧ a < 0x18000000 then some Status.ACCESS_DENIED
  else if 0x10000000 ≤ a ∨ a % 4 ≠ 0 ∨ (objectAt a).isNone then some Status.ADDRESS_INVALID
  else none

/-- The due time of an AT command on its base in whole ns: the upper 32 bits of SECONDS are those nearest to the base's value
(R85). -/
def dueNs (nowNs sec ns : Nat) : Nat :=
  let now := nowNs / 1000000000
  let c := now / 2 ^ 32 * 2 ^ 32 + sec
  let sec' := if now + 2 ^ 31 < c ∧ 2 ^ 32 ≤ c then c - 2 ^ 32 else if c + 2 ^ 31 < now then c + 2 ^ 32 else c
  sec' * 1000000000 + ns

/-- Why an AT command is refused on eligibility, if it is (R85). -/
def State.dueRefusal (s : State) (b : Fin 4) (sec ns : Word) : Option Nat :=
  let now := s.timeOf b / 65536
  if 999999999 < ns.toNat then some Status.VALUE_OUT_OF_RANGE
  else if now + 86400 * 1000000000 < dueNs now sec.toNat ns.toNat then some Status.DUE_TIME_TOO_FAR
  else if (b = 0 ∨ b = 3) ∧ !s.flag (Reg.TIME_BASE_SYNCED b) then some Status.TIME_BASE_UNSYNCED
  else none

/-- A command that the recovery program does not accept: it serves GET on the identity block, ECHO and FIRMWARE (R592). -/
def State.recoveryBars (s : State) (cmd : Instr) (verb : Nat) : Bool :=
  s.recovery && (match cmd with
    | .get _ _ a n _ _ => decide (0x1000000 < a.toNat + n.toNat)
    | _ => verb != Verb.ECHO && verb != Verb.FIRMWARE)

/-- A verb that a life-cycle state does not permit (R129). The recovery program takes what R592 names in every state. -/
def State.lifecycleBars (s : State) (verb : Nat) : Bool :=
  let lc := s.rd Reg.LC_STATE_STATE
  if s.recovery then false
  else if lc = 4 then verb ∉ [Verb.GET, Verb.SNAPSHOT, Verb.JOURNAL, Verb.LOGBOOK_READ, Verb.CRC, Verb.ECHO, Verb.LIFECYCLE]
  else verb == Verb.FIRMWARE && lc == 2

/-- A verb on the monitor that its access rules do not admit: in FIELD, while it is locked (R586). -/
def State.monitorBars (s : State) (i : Fin 4) (h : Head) : Bool :=
  (s.sess i).src.path == .mon && s.rd Reg.LC_STATE_STATE == 2 && !(s.flag Reg.CMD_MON_STAT_UNLOCKED) && !s.recovery && h.mood != 0
    && h.verb ∉ [Verb.GET, Verb.SNAPSHOT, Verb.JOURNAL, Verb.LOGBOOK_READ, Verb.CRC, Verb.ECHO]

/-- What a porter takes from a host directly (R178): ROLE, and a verb that only reads, in a mood that has no effect. -/
def porterTakes (verb mood : Nat) : Bool :=
  verb ∈ [Verb.ROLE, Verb.GET, Verb.JOURNAL, Verb.LOGBOOK_READ, Verb.CRC, Verb.ECHO] || (verb == Verb.SNAPSHOT && mood == 0)

/-- Ends a command with what its action answered (R159). -/
def State.settle (i : Fin 4) (h : Head) (mirrored : Bool) (r : VRes) : State :=
  match r.hold with
  | some op =>
    let x := r.st.sess i
    r.st.setSess i { x with busy := some { head := h, op := op, stage := r.stage, late := r.status == Status.LATE_EXECUTED } }
  | none => r.st.finish i h r.status r.payload r.stage mirrored

/-- What ASK answers (R147, R159): a read verb's data, at its capture where it has one, and the errors that its reading meets; of any other verb the
status, with the capture stage where there is one. -/
def State.runAsk (s : State) (i : Fin 4) (h : Head) (mirrored read : Bool) (r : VRes) : State :=
  match read, r.hold with
  | true, some _ => State.settle i h mirrored { r with st := s }
  | true, none => r.st.finish i h r.status r.payload s.stage mirrored
  | false, some (.snapshot _ _) => s.finish i h r.status [] r.stage mirrored
  | false, _ => s.finish i h r.status [] s.stage mirrored

/-- The word of a condition at the execution point (R160). When in its stage a command executes is left to the device, so how far a time base has gone
on by then is free (log entry 71). -/
def State.condWord (s : State) (a : Nat) : State × Word :=
  if 0x01002000 ≤ a ∧ a < 0x01002040 then
    let (w, t) := s.takeFree
    (t, (t.later (w.toNat % (s.tsNs + 1) * 65536)).word a)
  else (s, s.word a)

/-- Executes a command at the base sequence under its mood (R159, R160). A read verb (`read`) returns its data under ASK too. -/
def State.runMood (s : State) (i : Fin 4) (h : Head) (cmd : Instr) (m : Mood) (mirrored read : Bool) (act : Action) : State :=
  if !s.isKeeper && !mirrored && !(porterTakes h.verb h.mood) then s.finish i h Status.NOT_KEEPER [] s.stage mirrored
  else if !(moodAllowed h.verb h.mood) then s.finish i h Status.MOOD_NOT_ALLOWED [] s.stage mirrored
  else if s.recoveryBars cmd h.verb then s.finish i h Status.STATE_REFUSED [] s.stage mirrored
  else if s.lifecycleBars h.verb || (!mirrored && s.monitorBars i h) then s.finish i h Status.LIFECYCLE_REFUSED [] s.stage mirrored
  else match m with
    | .ask => s.runAsk i h mirrored read (act s)
    | .now => State.settle i h mirrored (act s)
    | .when c =>
      match c.refusal with
      | some st => s.finish i h st [] s.stage mirrored
      | none =>
        let (t, w) := s.condWord c.addr.toNat
        if c.holds w then State.settle i h mirrored (act t)
        else t.finish i h Status.CONDITION_FALSE [] s.stage mirrored
    | .due b sec ns =>
      match s.dueRefusal b sec ns with
      | some st => s.finish i h st [] s.stage mirrored
      | none =>
        let x := s.sess i
        s.setSess i { x with due := some { head := h, cmd := cmd, base := b, dueNs := dueNs (s.timeOf b / 65536) sec.toNat ns.toNat } }

/-! ### Taking packets -/

/-- The first sequence from B on that a session has not received, and whether it lies within the credit window (R155). -/
def State.nextFree (s : State) (i : Fin 4) : Option Nat :=
  let x := s.sess i
  let b := s.baseSeq i
  let atB := x.due.isSome || x.busy.isSome
  (List.range 64).findSome? (fun d =>
    if (d = 0 ∧ atB) ∨ (assocGet x.waiting ((b + d) % 2 ^ 32)).isSome then none else some ((b + d) % 2 ^ 32))

/-- Marks a packet as taken: the session's idle time starts again, and ACCEPTED counts it. -/
def State.countAccepted (s : State) (i : Fin 4) : State :=
  let x := s.sess i
  (s.setSess i { x with idleNs := 0 }).inc (Reg.CMD_SESSION_ACCEPTED i)

/-- The head of a command that has come without a packet's bytes. -/
def headOf (r : Req) (verb flags seq : Nat) : Head :=
  { session := r.session, seq := seq, verb := verb, mood := r.mood.code, base := r.mood.base, flags := flags }

/-- A packet joins those that wait (R156). -/
def State.addWaiting (s : State) (i : Fin 4) (seq : Nat) (w : Waiting) : State :=
  let x := s.sess i
  s.setSess i { x with
    waiting := assocInsert x.waiting seq w
    waitAt := assocInsert (x.waitAt.filter (fun p => (assocGet x.waiting p.1).isSome && p.1 != seq)) seq (s.timeOf 1) }

/-- 100 ms can have passed since the first of a session's waiting packets was accepted (R156). -/
def State.gapPassed (s : State) (i : Fin 4) : Bool :=
  let x := s.sess i
  x.waiting.any (fun p => s.passed ((assocGet x.waitAt p.1).getD 0) 100000000)

/-- A command accepted behind others: it waits under the next free sequence, or finds the window full (R155). -/
def State.queueBehind (s : State) (i : Fin 4) (r : Req) (verb flags : Nat) (cmd : Instr) : State :=
  match s.nextFree i with
  | some q =>
    let s := s.countAccepted i
    (s.addWaiting i q (.cmd (headOf r verb flags q) cmd)).mirrorCmd i (headOf r verb flags q) r.mood cmd
  | none =>
    (s.refusePacket (s.sess i).src (headOf r verb flags (s.baseSeq i + 64)) Status.CREDIT_EXCEEDED 0).inc
      (Reg.CMD_PATH_STAT_CREDIT_EXCEEDED (s.sess i).src.path.index)

/-! ### The command scheduler (R22, R158) -/

/-- A session has a command that may execute: its packet waits at the base sequence and nothing of the session is in execution. -/
def State.eligible (s : State) (i : Fin 4) : Bool :=
  let x := s.sess i
  s.isOpen i && x.due.isNone && x.busy.isNone && (match assocGet x.waiting (s.baseSeq i) with | some (.cmd _ _) => true | _ => false)

/-- A session's turn has come: no session between the one chosen last and it has a command that may execute. Four sessions in turn never wait for the
64 grants at which ageing takes effect. -/
def State.chosen (s : State) (i : Fin 4) : Bool :=
  (List.range ((i.val + 3 - s.turn.val) % 4)).all (fun k => !(s.eligible (Fin.ofNat 4 (s.turn.val + 1 + k))))

/-- A command without what only its execution finds: the time gone since the boundary and the errors met in memory. -/
def bare (c : Instr) : Instr :=
  match c with
  | .get r sh a n _ _ => .get r sh a n 0 []
  | .logbookRead r sl f n _ => .logbookRead r sl f n []
  | .journal r a n => .journal r a ⟨n.n, []⟩
  | .crc r ch a n => .crc r ch a ⟨n.n, []⟩
  | c => c

/-- A verb's command executes: as the packet that waits at the base sequence where that is this very command; as a packet with the
base sequence where none waits and none is in execution; otherwise it waits behind the others (R155, R156). -/
def State.runVerb (s : State) (r : Req) (verb flags : Nat) (read : Bool) (cmd : Instr) (act : Action) : State :=
  let i := r.session
  let x := s.sess i
  let h := headOf r verb flags (s.baseSeq i)
  if !s.isOpen i then s.refusePacket x.src h Status.SESSION_NOT_OPEN 0
  else if x.due.isSome || x.busy.isSome || (!(s.chosen i) && (assocGet x.waiting (s.baseSeq i)).isNone) then s.queueBehind i r verb flags cmd
  else match assocGet x.waiting (s.baseSeq i) with
    | some w =>
      match w with
      | .cmd h' c' =>
        if bare c' = bare cmd then
          if s.chosen i then
            ({ s.setSess i { x with waiting := assocErase x.waiting (s.baseSeq i) } with turn := i }).runMood i h' cmd r.mood r.mirrored read act
          else s
        else s.queueBehind i r verb flags cmd
      | .refuse .. => s.queueBehind i r verb flags cmd
    | none => (({ s.countAccepted i with turn := i }).runMood i h cmd r.mood r.mirrored read act).mirrorCmd i h r.mood cmd

/-- The meaning of a verb's command. -/
def execVerb (s : State) (r : Req) (verb flags : Nat) (read : Bool) (cmd : Instr) (act : Action) : Res :=
  onRun s (fun s => s.runVerb r verb flags read cmd act)

/-! ### Opening, closing, gaps -/

/-- Binds a session index to a source (R153). -/
def State.openSess (s : State) (i : Fin 4) (src : Source) : State :=
  let old := s.sess i
  let s := s.setSess i { src := src, orphans := old.orphans, tell := old.tell }
  let s := ((s.wr (Reg.CMD_SESSION_OPEN i) 1).wr (Reg.CMD_SESSION_PATH i) src.path.index).wr (Reg.CMD_SESSION_BASE_SEQ i) 1
  let s := (s.wr (Reg.CMD_SESSION_SOURCE_IP i) src.ip.toNat).wr (Reg.CMD_SESSION_SOURCE_PORT i) src.port.toNat
  ((s.wr (Reg.CMD_SESSION_GAP_COUNT i) 0).wr (Reg.CMD_SESSION_ACCEPTED i) 0).wr (Reg.CMD_SESSION_DUPLICATE i) 0

/-- Completes the accepted commands from B on, in sequence order, with a status; a sequence that has not arrived has VERB 0x00 (R154,
R156). Goes through `n` sequences. -/
def State.flushSeqs : Nat → Fin 4 → Nat → Bool → State → State
  | 0, _, _, _, s => s
  | n + 1, i, status, gaps, s =>
    let x := s.sess i
    let b := s.baseSeq i
    match assocGet x.waiting b with
    | some (.cmd h _) =>
      flushSeqs n i status gaps ((s.setSess i { x with waiting := assocErase x.waiting b }).complete i h status [] s.stage)
    | some (.refuse h _) =>
      flushSeqs n i status gaps ((s.setSess i { x with waiting := assocErase x.waiting b }).complete i h status [] s.stage)
    | none =>
      if x.waiting = [] then s
      else if gaps then
        flushSeqs n i status gaps (s.complete i { session := i, seq := b, verb := 0, mood := 0, base := 0, flags := 0 } status [] s.stage)
      else flushSeqs n i status gaps (s.wr (Reg.CMD_SESSION_BASE_SEQ i) (b + 1))

/-- Closes a session (R154): what executes runs on, every later accepted command ends with SESSION_CLOSED, and the shadow set and the
reply cache are discarded; a firmware update of its own is aborted (R171). -/
def State.closeSess (s : State) (i : Fin 4) : State :=
  if !s.isOpen i then s
  else
    let x := s.sess i
    let s := match x.due with
      | some d => (s.setSess i { x with due := none }).complete i d.head Status.SESSION_CLOSED [] s.stage
      | none => s
    let x := s.sess i
    let s := match x.busy with
      | some b => (s.setSess i { x with busy := none, orphans := x.orphans ++ [(x.src, b)] }).wr (Reg.CMD_SESSION_BASE_SEQ i) (b.head.seq + 1)
      | none => s
    let s := State.flushSeqs 64 i Status.SESSION_CLOSED false s
    let s := if s.sto.update.any (fun p => p.1 == i) then { s with sto := { s.sto with update := none } } else s
    let x := s.sess i
    (s.setSess i { src := x.src, orphans := x.orphans, tell := x.tell }).wr (Reg.CMD_SESSION_OPEN i) 0

end Sys2Proof.Machine
end

