-- ==== Sys2Proof/Machine/Access.lean ====
section
/-! DEFINITION. Reading and writing objects by address: which spans a GET and a SET may name (R105, R107), the checks of a SET (R10,
R161), shadow sets (R162), errors of the memory's words (R112, R113), and the bytes that SNAPSHOT and CRC take (R108, R173). -/

namespace Sys2Proof.Machine

open Sys2Proof

/-! ### Spans -/

/-- The rows of the word at an address, with the first index of its object. -/
def rowsAt (a : Nat) : List Row × Nat :=
  match objAt a with
  | some (o, is, q) => (o.rows.filter (fun r => r.off == q - q % 4), is.headD 0)
  | none => ([], 0)

/-- The whole objects from an address to an end, as (address, size); none where the span does not start at an object and end at the
end of one (R105). -/
def objectsIn : Nat → Nat → Nat → Option (List (Nat × Nat))
  | 0, _, _ => none
  | n + 1, a, e =>
    if a = e then some []
    else if e < a then none
    else match objectAt a with
      | some (b, size) =>
        if b = a then
          match objectsIn n (a + size) e with
          | some l => some ((a, size) :: l)
          | none => none
        else none
      | none => none

/-- Whether a span lies in the memory window, 4-byte aligned at both ends (R105). -/
def inWindow (a len : Nat) : Bool := decide (memBase ≤ a ∧ a + len ≤ memEnd ∧ a % 4 = 0 ∧ len % 4 = 0)

/-- Whether a span reaches into the secure region (R107). -/
def reachesSecure (a len : Nat) : Bool := decide (secureBase < a + len)

/-- A whole object's words, as addresses. -/
def wordsOf (a size : Nat) : List Nat := (List.range (size / 4)).map (fun k => a + 4 * k)

/-! ### SET's checks -/

/-- Whether a setpoint ID is one of those accepted (R343, R403). -/
def setpointId (i : Nat) : Bool := decide ((1 ≤ i ∧ i ≤ 4) ∨ (0x100 ≤ i ∧ i ≤ 0x103) ∨ (0x200 ≤ i ∧ i ≤ 0x23F))

/-- Whether a policy signal number is listed (R339, R401). -/
def policySignal (i : Nat) : Bool :=
  decide (i < 0x400 ∨ (0x400 ≤ i ∧ i < 0x4C0 ∧ i % 0x20 < 24) ∨ (0x500 ≤ i ∧ i ≤ 0x502) ∨ (0x800 ≤ i ∧ i ≤ 0x809))

/-- Whether a source selector names a source (R291). -/
def selectorOk (v : Nat) : Bool :=
  let kind := v / 8192
  let ix := v % 8192
  match kind with
  | 0 => ix == 0
  | 1 => ix % 16 < 6
  | 2 => ix < 260
  | 3 => ix < 2048
  | 4 => setpointId ix
  | 5 => policySignal ix
  | _ => false

/-- Whether a value is in its field's range (R161), for the instance with a first index. -/
def Chk.ok (c : Chk) (i width v : Nat) : Bool :=
  match c with
  | .any => true
  | .u lo hi => lo ≤ v && v ≤ hi
  | .z lo hi => v == 0 || (lo ≤ v && v ≤ hi)
  | .s lo hi => decide (lo ≤ toSigned width v ∧ toSigned width v ≤ hi)
  | .fz hi => v ≤ hi || v == 0x80000000
  | .fzu lo hi => v == 0 || v == 0x80000000 || (lo ≤ v && v ≤ hi)
  | .at4 lo hi => if i = 4 then v == 0 else lo ≤ v && v ≤ hi
  | .sel => selectorOk v
  | .sel2 => v == 0 || (v / 8192 == 2 && selectorOk v)
  | .m4 lo hi => lo ≤ v && v ≤ hi && v % 4 == 0

/-- The bits of a word that its rows cover. -/
def coveredMask (rows : List Row) : Word := rows.foldl (fun m r => m ||| bitMask r.msb r.lsb) 0

/-- Objects 126 and 127 of a CAN controller are the command path's own: their configuration words are not written by SET (R151). -/
def canPathWord (a : Nat) : Bool :=
  decide (0x0D201000 ≤ a ∧ a < 0x0D201000 + 0x20000 ∧ 126 * 0x80 ≤ (a - 0x0D201000) % 0x10000 ∧ (a - 0x0D201000) % 0x10000 < 0x4000)

/-- Whether an object has a field that a SET may write (R161). -/
def objectWritable (a size : Nat) : Bool :=
  !(canPathWord a) && (wordsOf a size).any (fun w => (rowsAt w).1.any (fun r => r.acc != .ro))

/-- Whether an object has a shadow copy (R8). -/
def objectShadowed (a size : Nat) : Bool := (wordsOf a size).any (fun w => (rowsAt w).1.any (fun r => r.acc == .sh))

/-- What refuses the new value of one word (R10, R161). -/
def State.wordRefusal (s : State) (a : Nat) (new : Word) : Option Nat :=
  let (rows, i) := rowsAt a
  let old := s.word a
  if new &&& ~~~(coveredMask rows) ≠ 0 then some Status.RESERVED_NONZERO
  else if rows.any (fun r => r.acc == .ro && getBits new r.msb r.lsb != getBits old r.msb r.lsb) then some Status.READ_ONLY
  else if rows.any (fun r => r.acc != .ro && !(r.chk.ok i (r.msb - r.lsb + 1) (getBits new r.msb r.lsb))) then
    some Status.VALUE_OUT_OF_RANGE
  else none

/-- What refuses a SET of one whole object. -/
def State.objectRefusal (s : State) (a size : Nat) (data : List Byte) : Option Nat :=
  if !(objectWritable a size) then some Status.READ_ONLY
  else (wordsOf a size).findSome? (fun w => s.wordRefusal w (wordAt data (w - a)))

/-- The route table with the cell identities (R185 to R191), which FIELD does not let change (R129). -/
def identityObject (a : Nat) : Bool :=
  match objAt a with
  | some (o, _, _) => ["ROUTE_TABLE", "ROUTE_CFG", "ARM_CFG", "CELL_ID"].contains o.name
  | none => false

/-! ### Shadow sets -/

/-- A word with the shadow fields taken from another. -/
def mergeShadow (rows : List Row) (active stored : Word) : Word :=
  rows.foldl (fun w r => if r.acc = .sh then setBits w r.msb r.lsb (getBits stored r.msb r.lsb) else w) active

/-- The word at an address as a session's shadow shows it (R161). -/
def State.shadowWord (s : State) (sh : List (Nat × List Byte)) (a : Nat) : Word :=
  match objectAt a with
  | some (b, _) =>
    match assocGet sh b with
    | some bytes => mergeShadow (rowsAt a).1 (s.word a) (wordAt bytes (a - b))
    | none => s.word a
  | none => 0

/-- The bytes a shadow set holds. -/
def shadowBytes (sh : List (Nat × List Byte)) : Nat := sh.foldl (fun n p => n + p.2.length) 0

/-- A shadow set with whole objects stored in it. -/
def shadowStore (sh : List (Nat × List Byte)) (objs : List (Nat × List Byte)) : List (Nat × List Byte) :=
  objs.foldl (fun l p => assocInsert (assocErase l p.1) p.1 p.2) sh

/-- Makes the shadow fields of one stored object active (R163). -/
def State.commitObject (s : State) (p : Nat × List Byte) : State :=
  (wordsOf p.1 p.2.length).foldl (fun t w => t.setWord w (mergeShadow (rowsAt w).1 (t.word w) (wordAt p.2 (w - p.1)))) s

/-- Makes a whole shadow set active. -/
def State.commitSet (s : State) (sh : List (Nat × List Byte)) : State := sh.foldl State.commitObject s

/-! ### Errors of memory words -/

/-- The region of a window offset in MEM_ECC_LAST (R140). -/
def memRegion (off : Nat) : Nat := if off < 0x6000000 then 0 else if off < 0x7C00000 then 1 else 2

/-- Closes the secure region's gate and starts a wipe, without a tamper bit (R113, R120). -/
def State.wipe (s : State) : State :=
  let s := (s.inc Reg.MEM_TAMPER_STAT_WIPE_COUNT).wr Reg.LC_STATE_SECRETS_PRESENT 0
  let s := s.wrB Reg.MEM_TAMPER_STAT_WIPING (decide (s.power.region = .full))
  { s with power := { s.power with gateShut := true, fillDue := true, markDue := true } }

/-- A word that a reader finds with an error: counted and recorded; one of two bits is acted on by region (R112, R113), each case with its journal
entry: that of its notice or fault, or one of its own while MEM_UE is latched or about to be. -/
def State.eccHit (s : State) (e : EccHit) : State :=
  let region := memRegion (e.word * 8)
  let s := ((s.wr Reg.MEM_ECC_LAST_KIND (if e.double then 1 else 0)).wr Reg.MEM_ECC_LAST_REGION region).wr Reg.MEM_ECC_LAST_WORD e.word
  if e.double then
    let s := s.inc Reg.MEM_ECC_CNT_UE
    if region = 0 then s.raiseEach Code.MEM_UE_LOGBOOK .f0
    else if region = 1 then
      if s.f3Latched Code.MEM_UE || s.flt.pending.any (fun f => f.code == Code.MEM_UE) then s.journal Code.MEM_UE FaultClass.f3.code 0 []
      else s.raise Code.MEM_UE .f3
    else (s.wipe).raiseEach Code.MEM_UE_SECURE .f0
  else
    let s := s.inc Reg.MEM_ECC_CNT_CE
    if s.sto.ecc.contains e.word then s else { s with sto := { s.sto with ecc := s.sto.ecc ++ [e.word] } }

/-- The errors found among the words of a span of the window. -/
def hitsIn (ecc : List EccHit) (a len : Nat) : List EccHit :=
  ecc.filter (fun e => decide (a < memBase + 8 * e.word + 8 ∧ memBase + 8 * e.word < a + len))

/-- The answer of a verb that has read the memory window: the errors it met are counted, recorded and acted on, and one of two bits shows in the
status (R112, R113, R179). -/
def State.okRead (s : State) (hits : List EccHit) (payload : List Byte) : VRes :=
  { ((hits.foldl State.eccHit s).ok payload) with status := if hits.any (fun e => e.double) then Status.DATA_UNCORRECTABLE else Status.OK }

/-! ### GET -/

/-- The bytes of a word. -/
def wordBytes (w : Word) : List Byte := beBytes 4 w.toNat

/-- What GET returns for a word: of a write-only field 0 (R8), of a shadowed one what `shadow` selects. -/
def State.getWord (s : State) (sh : Option (List (Nat × List Byte))) (a : Nat) : Word :=
  match sh with
  | none => s.word a
  | some l => s.shadowWord l a

/-- The bytes of a span as a GET reads them so long after the last boundary (R12): an object that reports state as it stood at that boundary,
every other one at the instant of reading. -/
def State.readBytes (s : State) (elapsed : Nat) (sh : Option (List (Nat × List Byte))) (a len : Nat) : List Byte :=
  let now := s.later elapsed
  ((wordsOf a len).map (fun w => wordBytes (if reportsState w then s.asOfBoundary.word w else now.getWord sh w))).flatten

/-- The action of GET (R105 to R107, R161, R165). -/
def actGet (i : Fin 4) (shadow : Bool) (addr : Word) (len : BitVec 16) (elapsed : Nat) (ecc : List EccHit) : Action := fun s =>
  let a := addr.toNat
  let n := len.toNat
  if n < 4 ∨ 1400 < n ∨ n % 4 ≠ 0 then s.no Status.VALUE_OUT_OF_RANGE
  else if memBase ≤ a then
    if !(inWindow a n) then s.no Status.ADDRESS_INVALID
    else if reachesSecure a n then s.no Status.ACCESS_DENIED
    else s.okRead (hitsIn ecc a n) (s.load a n)
  else match objectsIn 351 a (a + n) with
    | none => s.no Status.ADDRESS_INVALID
    | some _ => s.ok (s.readBytes elapsed (if shadow then some (s.sess i).shadow else none) a n)

/-! ### SNAPSHOT and CRC -/

/-- The word a capture takes at an address: 0 where no object exists (R108, R173). -/
def State.captureWord (s : State) (sh : Option (List (Nat × List Byte))) (a : Nat) : Word :=
  if (objectAt a).isSome then s.getWord sh a else 0

/-- The bytes of a range as a capture takes them, from an address that need not be aligned to a word. -/
def State.captureBytes (s : State) (sh : Option (List (Nat × List Byte))) (a n : Nat) : List Byte :=
  (List.range n).map (fun k =>
    let b := a + k
    BitVec.ofNat 8 ((s.captureWord sh (b - b % 4)).toNat / 256 ^ (3 - b % 4)))

/-- Why a SNAPSHOT is refused, if it is (R109). -/
def snapshotRefusal (ranges : List (Word × Word)) : Option Nat :=
  if ranges.length = 0 ∨ 16 < ranges.length ∨ ranges.any (fun p => p.2 == 0 || p.2.toNat % 4 != 0) then some Status.VALUE_OUT_OF_RANGE
  else if 262144 < ranges.foldl (fun n p => n + p.2.toNat) 0 then some Status.SNAPSHOT_TOO_LARGE
  else if ranges.any (fun p => decide (0x10000000 < p.1.toNat + p.2.toNat)) then some Status.ADDRESS_INVALID
  else none

/-- Where the snapshot buffer of a session lies (R110). -/
def snapAddr (i : Nat) : Nat := 0x16020000 + i * 0x40000

end Sys2Proof.Machine
end

