-- ==== Sys2Proof/Machine/CmdPath.lean ====
section
/-! DEFINITION. The command paths (R149 to R157, R172, R603): a datagram, a segment, a line as a packet; opening and closing sessions;
gaps, idle sessions and progress replies. -/

namespace Sys2Proof.Machine

open Sys2Proof

/-! ### A packet that has come -/

/-- Counts something that is not a packet (R183). -/
def State.countNotPacket (s : State) (p : Path) : State := s.inc (Reg.CMD_PATH_STAT_NOT_PACKET p.index)

/-- Whether a source is the one bound to the open session of an index. -/
def State.boundTo (s : State) (i : Fin 4) (src : Source) : Bool := s.isOpen i && (s.sess i).src == src

/-- Refuses a packet by R149: CREDIT counts only for the bound source (R147). -/
def State.refuseReceived (s : State) (src : Source) (h : Head) (status : Nat) : State :=
  let i := Fin.ofNat 4 h.session
  let s := if status = Status.CRC_FAILED then s.inc (Reg.CMD_PATH_STAT_CRC_FAILED src.path.index) else s
  s.refusePacket src h status (if s.boundTo i src then s.creditOf i else 0)

/-- The idle time of R153 in ns. -/
def State.idleLimitNs (s : State) : Nat := s.rd Reg.CMD_CFG_IDLE_S * 1000000000

/-- An OPEN packet (R153); one that is taken is mirrored (R178). -/
def State.takeOpen (s : State) (src : Source) (h : Head) (payload : List Byte) : State :=
  let i := Fin.ofNat 4 h.session
  if s.isOpen i && (s.sess i).src != src && decide ((s.sess i).idleNs < s.idleLimitNs) then s.refusePacket src h Status.SESSION_BUSY 0
  else
    let s := ((s.closeSess i).openSess i src).mirrorBytes i
      (Packet.bytes { head := h, version := 1, rest9 := 0, addr := 0, due := 0, payload := payload })
    s.sendReply src { head := h, interim := false, status := Status.OK, credit := 64, boot := s.boot16, stage := s.stage, payload := payload }

/-- What an accepted packet waits as: the command it spells or the status it is refused with (R153, R165). -/
def waitingOf (p : Packet) (mirrored : Bool := false) : Waiting :=
  if p.head.flags / 2 % 2 = 1 then
    if p.head.verb ≠ Verb.ECHO ∨ p.head.mood ≠ 1 then .refuse p.head Status.MOOD_NOT_ALLOWED
    else .cmd p.head (.sessionClose ⟨Fin.ofNat 4 p.head.session, .now, mirrored⟩ p.payload)
  else match p.spell mirrored with
    | .ok c => .cmd p.head c
    | .error st => .refuse p.head st

/-- A packet of the bound source, by its distance from the base sequence (R155). What is accepted is mirrored (R178). -/
def State.takeSequenced (s : State) (src : Source) (p : Packet) : State :=
  let i := Fin.ofNat 4 p.head.session
  let x := s.sess i
  let d := (p.head.seq + 2 ^ 32 - s.baseSeq i) % 2 ^ 32
  if d < 64 then
    if (assocGet x.waiting p.head.seq).isSome || (d == 0 && (x.due.isSome || x.busy.isSome)) then
      (s.setSess i { x with idleNs := 0 }).inc (Reg.CMD_SESSION_DUPLICATE i)
    else
      let s := (s.countAccepted i).mirrorBytes i p.bytes
      State.drainRefused 64 i (s.addWaiting i p.head.seq (waitingOf p))
  else
    let s := s.setSess i { x with idleNs := 0 }
    if d < 2 ^ 31 then
      (s.refusePacket src p.head Status.CREDIT_EXCEEDED (s.creditOf i)).inc (Reg.CMD_PATH_STAT_CREDIT_EXCEEDED src.path.index)
    else match x.cache.find? (fun r => r.head.seq == p.head.seq) with
      | some r => s.sendReply src r
      | none => s.refusePacket src p.head Status.STALE_SEQUENCE (s.creditOf i)

/-- A packet that has passed R149. -/
def State.takePacket (s : State) (src : Source) (p : Packet) : State :=
  let i := Fin.ofNat 4 p.head.session
  if p.head.flags / 4 % 2 = 1 then
    if p.head.verb ≠ Verb.ECHO ∨ p.head.mood ≠ 1 then s.refusePacket src p.head Status.MOOD_NOT_ALLOWED 0
    else if p.head.seq ≠ 0 then s.refusePacket src p.head Status.PAYLOAD_INVALID 0
    else s.takeOpen src p.head p.payload
  else if !(s.boundTo i src) then s.refusePacket src p.head Status.SESSION_NOT_OPEN 0
  else s.takeSequenced src p

/-- The bytes of a packet that have come on a path from a source (R149). -/
def State.takeBytes (s : State) (src : Source) (bs : List Byte) : State :=
  match receive bs with
  | .notPacket => s.countNotPacket src.path
  | .refused p st => s.refuseReceived src p.head st
  | .passed p => s.takePacket src p

/-! ### Datagrams and segments -/

/-- UDP_DATAGRAM (R150). A datagram that the paths do not take is dropped and counted. -/
def execUdpDatagram (port : Fin 2) (srcIp : Word) (srcPort : BitVec 16) (unfit : Bool) (bytes : List Byte) (s : State) : Res :=
  onRun s (fun s =>
    let path : Path := if port = 0 then .etha else .ethb
    if !(s.pathOn path) then s
    else if unfit then s.countNotPacket path
    else s.takeBytes ⟨path, srcIp, srcPort⟩ bytes)

/-- The path of a CAN controller. -/
def canPath (c : Fin 2) : Path := if c = 0 then .cana else .canb

/-- The packet that a run of segments makes, once its last segment is in (R151). -/
def State.takeRun (s : State) (c : Fin 2) (before last : List Byte) (short : Bool) : State :=
  let bs := before ++ last
  let src : Source := ⟨canPath c, 0, 0⟩
  let n := beAt bs 10 2 + 28
  if !short && decide (before.length < n ∧ n ≤ bs.length) then s.takeBytes src (bs.take n)
  else if beAt bs 0 2 ≠ 0xD7A1 ∨ bs.length < 28 then s.countNotPacket src.path
  else s.refuseReceived src (readPacket bs).head Status.LENGTH_INVALID

/-- Sets what a controller is assembling. -/
def State.setAsm (s : State) (c : Fin 2) (a : Option CanAsm) : State := { s with canRx := s.canRx.set c a }

/-- A run that has been discarded, with the segment that did it: its further segments, up to the one with LAST, are passed over (R151). -/
def State.dropRun (s : State) (c : Fin 2) (last : Bool) : State := s.setAsm c (if last then none else some { next := 0, short := false, bytes := [], dead := true, at_ := s.timeOf 1 })

/-- A segment that continues or starts a run (R151). -/
def State.takeSegment (s : State) (c : Fin 2) (a : CanAsm) (ix : Nat) (last : Bool) (data : List Byte) : State :=
  if last then (s.setAsm c none).takeRun c a.bytes data a.short
  else if ix = 23 then (s.dropRun c false).countNotPacket (canPath c)
  else s.setAsm c (some { next := ix + 1, short := a.short || decide (data.length < 62), bytes := a.bytes ++ data, at_ := s.timeOf 1 })

/-- CAN_CMD_SEGMENT (R151). A frame of the request identifier; `bytes` are its data bytes. -/
def execCanCmdSegment (c : Fin 2) (bytes : List Byte) (s : State) : Res :=
  onRun s (fun s =>
    let path := canPath c
    if !(s.pathOn path) ∨ !(s.canHears c) ∨ bytes.length < 2 then s
    else
      let b0 := (byteAt bytes 0).toNat
      let ix := b0 % 64
      let last := b0 / 64 % 2 == 1
      let data := bytes.drop 2
      let cur := s.canRx[c]
      if 128 ≤ b0 then
        let s := if cur.any (fun a => !a.dead) then s.countNotPacket path else s
        if ix = 0 then (s.setAsm c none).takeSegment c { next := 0, short := false, bytes := [] } ix last data else (s.dropRun c last).countNotPacket path
      else match cur with
        | none => (s.dropRun c last).countNotPacket path
        | some a =>
          if a.dead then s.dropRun c last
          else if ix = a.next then s.takeSegment c a ix last data
          else (s.dropRun c last).countNotPacket path)

/-- CAN_SEGMENT_TIMEOUT (R151). No segment has come for 50 ms: the run in progress is discarded and counted. -/
def execCanSegmentTimeout (c : Fin 2) (s : State) : Res :=
  onRun s (fun s =>
    match s.canRx[c] with
    | some a => if !(s.passed a.at_ 50000000) then s else if a.dead then s.setAsm c none else (s.setAsm c none).countNotPacket (canPath c)
    | none => s)

/-- CAN_REPLY_ABANDON (R151). After 100 ms the reply that a controller is sending is given up and counted; its cached copy stays. -/
def execCanReplyAbandon (c : Fin 2) (s : State) : Res :=
  onRun s (fun s =>
    match s.canTx[c] with
    | [] => s
    | x :: _ =>
      if !(s.passed x.since 100000000) then s
      else (s.nextReply c).inc (Reg.CMD_PATH_STAT_REPLY_DROPPED (canPath c).index))

/-! ### Sessions -/

/-- SESSION_OPEN (R153). The OPEN packet of a source: verb ECHO, mood DO, SEQUENCE 0. -/
def execSessionOpen (i : Fin 4) (src : Source) (payload : List Byte) (s : State) : Res :=
  onRun s (fun s =>
    if s.pathOn src.path then
      s.takeOpen src { session := i, seq := 0, verb := Verb.ECHO, mood := 1, base := 0, flags := flagOpen } payload
    else s)

/-- The CLOSE packet executes: its reply goes first, and then the session closes (R154). -/
def State.runClose (s : State) (i : Fin 4) (h : Head) (payload : List Byte) (mirrored : Bool) : State :=
  (s.complete i h Status.OK payload s.stage mirrored).closeSess i

/-- SESSION_CLOSE (R154). An ECHO packet with CLOSE, taken in sequence order. -/
def execSessionClose (r : Req) (payload : List Byte) (s : State) : Res :=
  onRun s (fun s =>
    let i := r.session
    let x := s.sess i
    let h := headOf r Verb.ECHO flagClose (s.baseSeq i)
    let cmd : Instr := .sessionClose r payload
    if !(s.isOpen i) then s.refusePacket x.src h Status.SESSION_NOT_OPEN 0
    else if x.due.isSome || x.busy.isSome || (!(s.chosen i) && (assocGet x.waiting (s.baseSeq i)).isNone) then s.queueBehind i r Verb.ECHO flagClose cmd
    else
      let go (s : State) (h : Head) : State :=
        if r.mood = .now then s.runClose i h payload r.mirrored else s.finish i h Status.MOOD_NOT_ALLOWED [] s.stage r.mirrored
      match assocGet x.waiting (s.baseSeq i) with
      | some (.cmd h' c') =>
        if bare c' = bare cmd then
          if s.chosen i then go { s.setSess i { x with waiting := assocErase x.waiting (s.baseSeq i) } with turn := i } h' else s
        else s.queueBehind i r Verb.ECHO flagClose cmd
      | some (.refuse ..) => s.queueBehind i r Verb.ECHO flagClose cmd
      | none => (go { s.countAccepted i with turn := i } h).mirrorCmd i h r.mood cmd)

/-- SESSION_IDLE_TIMEOUT (R154). A session with nothing outstanding has been idle for IDLE_S. -/
def execSessionIdleTimeout (i : Fin 4) (s : State) : Res :=
  onRun s (fun s => if (s.sess i).outstanding = 0 ∧ s.idleLimitNs ≤ (s.sess i).idleNs then s.closeSess i else s)

/-- SEQUENCE_GAP_TIMEOUT (R156). The command at the base sequence is missing 100 ms after the first higher one was accepted: it
and all up to the highest accepted sequence complete with SEQUENCE_GAP, and the shadow set is discarded. -/
def execSequenceGapTimeout (i : Fin 4) (s : State) : Res :=
  onRun s (fun s =>
    let x := s.sess i
    if s.isOpen i && x.due.isNone && x.busy.isNone && (assocGet x.waiting (s.baseSeq i)).isNone && s.gapPassed i then
      let s := State.flushSeqs 64 i Status.SEQUENCE_GAP true (s.inc (Reg.CMD_SESSION_GAP_COUNT i))
      let x := s.sess i
      s.setSess i { x with shadow := [] }
    else s)

/-- Whether an operation is a long verb's (R172). -/
def LongOp.long : LongOp → Bool
  | .snapshot _ _ | .crcCapture _ _ _ | .applyWait _ | .start _ | .parcel _ => false
  | _ => true

/-- PROGRESS_REPLY (R172). A long verb in execution reports its per-mille done; one whose session has closed has no credit to tell (R147). -/
def execProgressReply (i : Fin 4) (permille : BitVec 16) (s : State) : Res :=
  onRun s (fun s =>
    let x := s.sess i
    let all : List (Source × BusyCmd × Nat) := x.busy.toList.map (fun b => (x.src, b, s.creditOf i)) ++ x.orphans.map (fun p => (p.1, p.2, 0))
    match all.find? (fun p => p.2.1.op.long) with
    | some (src, b, credit) =>
      s.sendReply src { head := b.head, interim := true, status := Status.IN_PROGRESS, credit := credit, boot := s.boot16,
                        stage := s.stage, payload := beBytes 2 permille.toNat ++ beBytes 2 0 }
    | none => s)

end Sys2Proof.Machine
end

