-- ==== Sys2Proof/Machine/Gate.lean ====
section
/-! DEFINITION. The gate outputs of the HV die (R370, R371, R374, R382, R383, R388): each channel's output and Miller clamp, the dead time of
legs 0 to 2, and the bootstrap switches. -/

namespace Sys2Proof.Machine

open Sys2Proof

/-! ### What the HV die works with (R390) -/

/-- The objects whose values the HV die holds in registers of its own: DRV_GATE, DRV_SOFT and DRV_PROT. -/
def hvHolds (a : Nat) : Bool := decide (0x09000200 ≤ a ∧ a < 0x0900031C)

/-- A setting as the HV die holds it; the hardware defaults are the reset values of the objects. -/
def State.hvVal (s : State) (f : Fld) : Nat := getBits ((assocGet s.drv.hvRegs f.addr).getD (resetWord f.addr)) f.msb f.lsb

/-! ### The outputs -/

/-- The channels of a list, as bits. -/
def chanMask (l : List Nat) : BitVec 7 := l.foldl (fun m c => m ||| ((1 : BitVec 7) <<< c)) 0

/-- A channel turns on, which releases its Miller clamp (R374). -/
def GateRun.turnOn (g : GateRun) (c : Nat) : GateRun := { g with on := g.on ||| chanMask [c], clamp := g.clamp &&& ~~~(chanMask [c]) }

/-- The channels of a mask turn off, and their pending turn-ons are cancelled. With MILLER_EN the clamp of a channel that was on engages,
unless its gate is not at the reference yet: `away`. -/
def GateRun.turnOff (g : GateRun) (mask away : BitVec 7) (miller : Bool) : GateRun :=
  { on := g.on &&& ~~~mask
    clamp := if miller then g.clamp ||| (g.on &&& mask &&& ~~~away) else g.clamp
    due := g.due.filter (fun p => !(mask.getLsbD p.1)) }

/-- The turn-offs of an edge set as (count, channel): at the ON instant of a leg its low side, at the OFF instant its high side (R371). -/
def EdgeSet.offEdges (e : EdgeSet) : List (Nat × Nat) :=
  ([(0, 3), (1, 0), (2, 4), (3, 1), (4, 5), (5, 2), (7, 6)] : List (Nat × Nat)).filterMap (fun p =>
    let t := e.inst.getD p.1 0xFFFF
    if t = 0xFFFF then none else some (t, p.2))

/-- The turn-ons of an edge set as (instant in the set, count, channel): in legs 0 to 2 later by the dead time of group 3 (R264, R371). -/
def EdgeSet.onEdges (e : EdgeSet) (dt : Nat) : List (Nat × Nat × Nat) :=
  ([(0, 0), (1, 3), (2, 1), (3, 4), (4, 2), (5, 5), (6, 6)] : List (Nat × Nat)).filterMap (fun p =>
    let t := e.inst.getD p.1 0xFFFF
    if t = 0xFFFF then none else some (t, t + (if p.2 = 6 then 0 else dt), p.2))

/-- One edge at an output. A high side does not turn on below the rising threshold of its bootstrap supply (R383). -/
def GateRun.edge (hb : BitVec 3) (miller : Bool) (g : GateRun) (x : Nat × Nat × Bool) : GateRun :=
  if x.2.2 then (if x.2.1 < 3 ∧ hb.getLsbD x.2.1 = false then g else g.turnOn x.2.1)
  else g.turnOff (chanMask [x.2.1]) 0 miller

/-- The outputs after a stage of `n` counts under an edge set: a leg with no output on starts low; a turn-on that its channel's turn-off
overtakes is not made, and one past the end of the stage falls into the next. -/
def GateRun.stage (g : GateRun) (e : EdgeSet) (n dt : Nat) (hb : BitVec 3) (miller : Bool) : GateRun :=
  let idle (x : Nat) : Bool := !(g.on.getLsbD x) && !(g.on.getLsbD (x + 3)) && !(g.due.any (fun p => p.1 % 3 == x))
  let g := ([0, 1, 2] : List Nat).foldl (fun g x => if idle x then g.turnOn (x + 3) else g) g
  let all : List (Nat × Nat × Nat) := g.due.map (fun p => (0, p.2, p.1)) ++ e.onEdges dt
  let ons := all.filter (fun o =>
    !(e.offEdges.any (fun f => f.2 == o.2.2 && decide (o.1 ≤ f.1 ∧ f.1 ≤ o.2.1))))
  let now := (ons.filter (fun o => decide (o.2.1 < n))).map (fun o => (o.2.1, o.2.2, true))
  let later := (ons.filter (fun o => decide (n ≤ o.2.1))).map (fun o => (o.2.2, o.2.1 - n))
  let edges := sortBy (fun x => 2 * x.1 + (if x.2.2 then 1 else 0)) (e.offEdges.map (fun f => (f.1, f.2, false)) ++ now)
  edges.foldl (GateRun.edge hb miller) { g with due := later }

/-- A pulse of LO0 to LO2 together, that ends in its stage (R398). -/
def GateRun.pulse (g : GateRun) (miller : Bool) : GateRun :=
  (([3, 4, 5] : List Nat).foldl GateRun.turnOn g).turnOff (chanMask [3, 4, 5]) 0 miller

/-! ### The outputs of the die -/

/-- OV_BRAKE drives BRK (R389). -/
def State.ovBrake (s : State) : Bool := s.drv.brake && !s.drv.brakeCut && s.flag Reg.ID_SUPPLY_STAT_VGD_OK

/-- Whether a channel's output is on; BRK is the OR of the modulator's edges and OV_BRAKE (R389). -/
def State.gateOn (s : State) (c : Fin 7) : Bool := s.mod.gate.on.getLsbD c || (c.val == 6 && s.ovBrake)

/-- The gates that are not at their reference although the modulator's drive of them is off: in a two-level turn-off, or held on by OV_BRAKE. -/
def State.gatesAway (s : State) : BitVec 7 := chanMask (s.drv.soft ++ (if s.ovBrake then [6] else []))

/-- The peak source and sink current of a level in units of 10 mA (R373). -/
def peakCentiAmps (lvl : Nat) : Nat := [60, 72, 87, 105, 127, 153, 185, 223, 269, 324, 391, 472, 569, 687, 829, 1000].getD lvl 0

/-- The current at which a channel drives its gate, in units of 10 mA: at its level of the set that HVS applies, also while it holds its
output low (R373, R376, R379), and at SOFT_LVL in a two-level turn-off (R387). -/
def State.gateCurrent (s : State) (c : Fin 7) : Nat :=
  peakCentiAmps (if s.drv.soft.contains c.val then s.hvVal Reg.DRV_SOFT_SOFT_LVL else s.mod.applied.levels.getD c.val 8)

/-- Every gate off, each at its level, with every pending turn-on cancelled (R376, R388); edge sets act no more until the next good one. -/
def State.gatesOff (s : State) : State :=
  { s with mod := { s.mod with applied := { s.mod.applied with gates := false, boot := false }
                               gate := s.mod.gate.turnOff (BitVec.allOnes 7) s.gatesAway (s.flag Reg.DRV_CFG_MILLER_EN) } }

/-- The outputs at the end of the present stage: the set that HVS applies has placed its edges (R371). -/
def State.placeEdges (s : State) : State :=
  let e := s.mod.applied
  let m := s.flag Reg.DRV_CFG_MILLER_EN
  let g := if e.boot then s.mod.gate.pulse m else s.mod.gate
  let g := if e.gates then g.stage e (s.ts * 8) (s.rd (Reg.MOD_GROUP_DT 3)) s.drv.hb m else g.turnOff (BitVec.allOnes 7) s.gatesAway m
  { s with mod := { s.mod with gate := g } }

/-- The bootstrap switch of a leg is closed (R382). -/
def State.bootSwitch (s : State) (x : Fin 3) : Bool :=
  (s.mod.gate.on.getLsbD (x.val + 3) || s.drv.swLow.getLsbD x) && s.flag Reg.ID_SUPPLY_STAT_VGD_OK && !s.drv.sto

end Sys2Proof.Machine
end

