-- ==== Sys2Proof/Machine/Edge.lean ====
section
/-! DEFINITION. The edges of one leg in one stage (R252 to R272): its requested state from its carrier, and the rules of the minimum
pulse, the bootstrap refresh, the dither, the width guard and the edge budget. Instants are fine counts of the stage. -/

namespace Sys2Proof.Machine

open Sys2Proof

/-! ### Requests -/

/-- What a leg is requested to do in a stage and shortly after it: its state at the start, since when, and the instants at which the
request changes, in order. -/
structure Request where
  init  : Bool
  since : Rat
  trans : List (Rat × Bool)
  deriving DecidableEq, Repr

/-- The requested state at an instant. -/
def Request.at (r : Request) (t : Int) : Bool := r.trans.foldl (fun b p => if p.1.floor ≤ t then p.2 else b) r.init

/-- The first whole instant from `t` on at which the request is `b`. -/
def Request.next (r : Request) (t : Int) (b : Bool) : Option Int :=
  if r.at t = b then some t else (r.trans.find? (fun p => p.2 == b && decide (t ≤ p.1.floor))).map (fun p => p.1.floor)

/-- The exact instant at which the request became what it is at `t`, where it did so within the fine count of `t`. -/
def Request.exactly (r : Request) (t : Int) : Rat :=
  match r.trans.find? (fun p => p.1.floor == t) with
  | some p => p.1
  | none => if t = 0 then r.since else (t : Rat)

/-- The exact instant at which the request is next `b` after `t`. -/
def Request.ends (r : Request) (t : Int) (b : Bool) : Option Rat :=
  (r.trans.find? (fun p => p.2 == b && decide (t < p.1.floor))).map (fun p => p.1)

/-- The request of a comparison with a periodic carrier: high while the position lies below `lo` or from `hi` on, in a period of `T`
fine counts, the position at the stage's start being `u0` (R256, R259, R260). -/
def bandRequest (T u0 : Nat) (lo hi : Rat) : Request :=
  let u : Rat := (u0 : Rat)
  if hi ≤ lo then { init := true, since := 0, trans := [] }
  else if lo ≤ 0 ∧ (T : Rat) ≤ hi then { init := false, since := 0, trans := [] }
  else
    let period : Rat := (T : Rat)
    let cand := [(lo - u - period, false), (hi - u - period, true), (lo - u, false), (hi - u, true), (lo - u + period, false),
                 (hi - u + period, true), (lo - u + 2 * period, false), (hi - u + 2 * period, true)]
    let init := decide ((u0 : Int) < lo.floor ∨ hi.floor ≤ (u0 : Int))
    let here := cand.find? (fun p => decide (p.1.floor = 0) && p.2 == init)
    { init := init, since := (match here with | some p => p.1 | none => 0), trans := cand.filter (fun p => decide (1 ≤ p.1.floor)) }

/-- The request of a leg that is high while a reference m, clamped to ±1, is above the triangle of R256. -/
def carrierRequest (T u0 : Nat) (m : Rat) : Request :=
  let m := if m < -1 then -1 else if 1 < m then 1 else m
  let a := (m + 1) * (T : Rat) / 4
  bandRequest T u0 a ((T : Rat) - a)

/-! ### Dither (R270, R271) -/

/-- Four bits in reverse order. -/
def bitRev4 (v : Nat) : Nat := v % 2 * 8 + v / 2 % 2 * 4 + v / 4 % 2 * 2 + v / 8 % 2

/-- The entry of a leg's dither sequence at a position (R270). -/
def ditherEntry (seed leg p : Nat) : Nat :=
  let h := crc16 seed [BitVec.ofNat 8 (leg / 256), BitVec.ofNat 8 leg]
  bitRev4 ((p + h / 16 % 16) % 16) ^^^ (h % 16)

/-- An instant in counts (R271). -/
def ditherCount (seed leg p : Nat) (x : Int) : Int := x / 16 + (if (ditherEntry seed leg p : Int) < x % 16 then 1 else 0)

/-! ### One leg in one stage -/

/-- What the rules need of a leg group (R253, R280): dead time and minimum pulse in counts, the refresh times in fine counts. -/
structure LegRules where
  seed    : Nat
  leg     : Nat
  stage   : Int
  dt      : Int
  tmin    : Int
  refresh : Bool
  tRf     : Int
  tRefresh : Int
  deriving DecidableEq, Repr

/-- What a stage makes of a leg: its state, the edges emitted, the state before the last edge, and the counts of R282. -/
structure LegStage where
  leg       : LegRun
  edges     : List (Bool × Int) := []
  undo      : Option LegRun := none
  stretched : Nat := 0
  dropped   : Nat := 0
  refreshed : Nat := 0
  budget    : Nat := 0
  deriving DecidableEq, Repr

/-- The distance in fine counts that the width guard keeps between two edges. -/
def LegRules.minFine (g : LegRules) : Int := (g.dt + g.tmin) * 16

/-- The counts of a stage. -/
def LegRules.counts (g : LegRules) : Int := g.stage / 16

/-- The count at which an edge of a leg falls: dither, then the width guard (R267, R271). -/
def LegRun.countOf (g : LegRules) (l : LegRun) (on : Bool) (x : Int) : Int :=
  let c := ditherCount g.seed g.leg (if on then l.onPos else l.offPos) x
  match l.lastEdge with | some p => max c (p + g.dt + g.tmin) | none => c

/-- Emits an edge at a fine instant: dither and width guard, then the edge budget of the stage in which it falls (R263, R267, R271, R272).
`undo` holds the leg before the edge where it is emitted, and none where it is removed with the edge before it. -/
def emitEdge (g : LegRules) (z : LegStage) (on : Bool) (x : Int) : LegStage :=
  let l := z.leg
  let c := l.countOf g on x
  if z.edges.any (fun e => e.1 == on && decide (e.2 < g.counts) == decide (c < g.counts)) then
    match z.undo with
    | some before => { z with leg := { before with hold := none }, edges := z.edges.dropLast, undo := none, budget := z.budget + 1 }
    | none => z
  else
    let l' : LegRun :=
      { l with high := on, onPos := if on then (l.onPos + 1) % 16 else l.onPos, offPos := if on then l.offPos else (l.offPos + 1) % 16,
               hold := none, after := some (x + g.minFine), mute := none, lastOn := if on then some (c * 16) else l.lastOn, lastEdge := some c }
    { z with leg := l', edges := z.edges ++ [(on, c)], undo := some l }

/-- A requested leading edge at an instant: emitted, stretched or dropped (R265). -/
def leadEdge (g : LegRules) (r : Request) (z : LegStage) (on : Bool) (x : Int) : LegStage :=
  let w : Option Rat := (r.ends x (!on)).map (fun e => e - r.exactly x - (g.dt * 16 : Int))
  let tmin : Rat := ((g.tmin * 16 : Int) : Rat)
  let decision : Nat := match w with
    | none => 0
    | some t => if g.tmin = 0 ∨ tmin ≤ t then 0 else if tmin / 2 ≤ t then 1 else 2
  if decision = 2 then
    { z with leg := { z.leg with mute := (r.ends x (!on)).map (fun e => e.floor) }, dropped := z.dropped + 1 }
  else
    let y := emitEdge g z on x
    if decision = 1 ∧ y.undo.isSome then
      { y with leg := { y.leg with hold := some (x + g.minFine) }, stretched := y.stretched + 1 }
    else y

/-- The instant at which a leg held high since its last emitted ON is refreshed (R268). -/
def refreshAt (g : LegRules) (l : LegRun) : Option Int :=
  if g.refresh && l.high then l.lastOn.map (fun t => t + g.tRefresh - g.tRf - g.dt * 16) else none

/-- The ON edge of a refresh. Where the edge budget removes the refresh, the next one comes T_REFRESH later (log entry 74). -/
def emitRefresh (g : LegRules) (z : LegStage) (x : Int) : LegStage :=
  let y := emitEdge g z true x
  if y.budget = z.budget then y
  else { y with leg := { y.leg with lastOn := y.leg.lastOn.map (fun t => t + g.tRefresh) }, refreshed := y.refreshed - 1 }

/-- A refresh whose ON edge is not emitted: the requested OFF is absorbed, and the leg stays low (R269). -/
def LegStage.absorb (z : LegStage) (off : Int) : LegStage := { z with leg := { z.leg with refresh := none, mute := some off } }

/-- The end of a refresh: its ON edge, or none where the request has ended or ends too soon (R269). -/
def endRefresh (g : LegRules) (r : Request) (z : LegStage) (f x : Int) : LegStage :=
  match r.next f false with
  | some off => if off < x + g.minFine then z.absorb off else emitRefresh g { z with leg := { z.leg with refresh := none } } x
  | none => emitRefresh g { z with leg := { z.leg with refresh := none } } x

/-- The OFF that this stage requests after the start of a refresh whose ON edge falls in the next stage. -/
def absorbedOff (g : LegRules) (r : Request) (x : Int) : Option Int :=
  (r.next (x - g.dt * 16 - g.tRf) false).filter (fun off => decide (off < g.stage))

/-- Goes on through a stage from an instant, one action of the rules at a time. -/
def runLeg (g : LegRules) (r : Request) : Nat → Int → LegStage → LegStage
  | 0, _, z => z
  | n + 1, t, z =>
    let l := z.leg
    match l.refresh with
    | some x =>
      if x < g.stage then runLeg g r n (max t x) (endRefresh g r z (x - g.dt * 16 - g.tRf) x)
      else match absorbedOff g r x with
        | some off => runLeg g r n (max t off) (z.absorb off)
        | none => z
    | none =>
      match l.hold with
      | some x => if g.stage ≤ x then z else runLeg g r n (max t x) (emitEdge g z (!l.high) (max t x))
      | none =>
        let from_ := max t (max (l.after.getD t) (l.mute.getD t))
        let want := r.next from_ (!l.high)
        match refreshAt g l with
        | some f =>
          if decide (f < g.stage) && (match want with | some e => decide (f < e) | none => true) then
            let f := max f t
            let y := emitEdge g z false f
            let y := if y.undo.isSome then
                { y with leg := { y.leg with refresh := some (f + g.dt * 16 + g.tRf) }, refreshed := y.refreshed + 1 } else y
            runLeg g r n f y
          else match want with
            | some e => if g.stage ≤ e then z else runLeg g r n e (leadEdge g r z (!l.high) e)
            | none => z
        | none =>
          match want with
          | some e => if g.stage ≤ e then z else runLeg g r n e (leadEdge g r z (!l.high) e)
          | none => z

/-- Moves a leg's instants to the next stage. -/
def LegRun.shift (l : LegRun) (stage : Int) (late : List (Bool × Nat)) : LegRun :=
  let m (o : Option Int) : Option Int := o.map (fun t => t - stage)
  let drop (o : Option Int) : Option Int := (m o).filter (fun t => decide (0 < t))
  { l with hold := m l.hold, after := drop l.after, mute := drop l.mute, lastOn := m l.lastOn, refresh := m l.refresh,
           lastEdge := l.lastEdge.map (fun t => t - stage / 16), carry := late }

/-- A leg's stage: its ON and OFF instants in counts, 0xFFFF for none, its state after it, and the counts. -/
def legStage (g : LegRules) (r : Request) (l : LegRun) : (Nat × Nat) × LegStage :=
  let start : LegStage := { leg := { l with carry := [] }, edges := l.carry.map (fun e => (e.1, (e.2 : Int))) }
  let z := runLeg g r 64 0 start
  let inside := z.edges.filter (fun e => decide (e.2 < g.counts))
  let late := (z.edges.filter (fun e => decide (g.counts ≤ e.2))).map (fun e => (e.1, (e.2 - g.counts).toNat))
  let pick (on : Bool) : Nat := match inside.find? (fun e => e.1 == on) with | some e => e.2.toNat | none => 0xFFFF
  ((pick true, pick false), { z with leg := z.leg.shift g.stage late })

/-- A leg that carries no edge in a stage of BLOCK or SAFE: low from the next RUN stage on, its dither positions kept (R273). -/
def LegRun.blocked (l : LegRun) : LegRun := { onPos := l.onPos, offPos := l.offPos }

end Sys2Proof.Machine
end

