-- ==== Sys2Proof/Machine/Modulate.lean ====
section
/-! DEFINITION. The requests of a cell's six legs and of the drive legs from the loop outputs (R256 to R262), and a cell's waybill
instants (R254, R273). -/

namespace Sys2Proof.Machine

open Sys2Proof

/-- What a cell holds beside its registers. -/
def State.cell (s : State) (c : Nat) : CellRun := (assocGet s.cells c).getD {}

/-- Sets it, listing nothing that equals the default. -/
def State.setCell (s : State) (c : Nat) (r : CellRun) : State := { s with cells := assocPut s.cells {} c r }

/-- The fine counts of a stage (R252). -/
def State.stageFine (s : State) : Nat := s.ts * 128

/-- The AC carrier's period in fine counts (R256). -/
def State.acPeriod (s : State) : Nat := s.rd Reg.MOD_CFG_AC_NC * s.stageFine

/-- The DAB period in fine counts (R260). -/
def State.dabPeriod (s : State) : Nat := s.rd Reg.MOD_CFG_DAB_Q * s.stageFine

/-- The drive carrier's period in fine counts (R262). -/
def State.drvPeriod (s : State) : Nat := s.rd Reg.MOD_CFG_DRV_N * s.stageFine

/-- The rules of leg group g for a leg number (R253, R280). -/
def State.legRules (s : State) (g leg : Nat) : LegRules :=
  { seed := s.rd Reg.CLK_DITHER_SEED_SEED, leg := leg, stage := s.stageFine, dt := s.rd (Reg.MOD_GROUP_DT g),
    tmin := s.rd (Reg.MOD_GROUP_TMIN g), refresh := s.flag (Reg.MOD_GROUP_REFRESH_EN g), tRf := s.rd (Reg.MOD_GROUP_T_RF g) * 16,
    tRefresh := s.rd (Reg.MOD_GROUP_T_REFRESH g) * 12800 }

/-! ### The DAB stage -/

/-- The DAB offset of a cell (R260). -/
def State.dabOffset (s : State) (c : Nat) : Nat := if s.flag Reg.MOD_CFG_DAB_ILV then c % 8 * s.dabPeriod / 16 else 0

/-- The secondary's half periods from an instant on (R261): each ends where the shift in force says, and at each end the shift moves
towards its target by at most `slew`. Answers the changes of leg 4's request, and the state and shift after those before `stage`. -/
def secondary (T v0 : Nat) (target slew stage : Int) : Nat → Bool → Int → Int → Bool × Int → List (Rat × Bool) × (Bool × Int)
  | 0, _, _, _, keep => ([], keep)
  | n + 1, high, delta, t, keep =>
    let rest : Int := ((if high then (T : Int) / 2 else 0) + delta - (v0 : Int) - t) % (T : Int)
    let x := t + rest
    let step := max (-slew) (min slew (target - delta))
    let keep' := if x < stage then (!high, delta + step) else keep
    let (l, k) := secondary T v0 target slew stage n (!high) (delta + step) x keep'
    ((((x : Int) : Rat), !high) :: l, k)

/-- The request of leg 4 over a stage, with the cell's secondary state after it. -/
def secondaryRequest (T v0 ofs : Nat) (target slew stage : Int) (r : CellRun) : Request × CellRun :=
  let fresh := r.dabT ≠ T ∨ r.dabOfs ≠ ofs
  let high := if fresh then decide (v0 < T / 2) else r.sec
  let delta := if fresh then 0 else r.delta
  let (l, k) := secondary T v0 target slew stage 5 high delta 0 (high, delta)
  let r' := { r with sec := k.1, delta := k.2, dabT := T, dabOfs := ofs }
  match l with
  | (x, b) :: t => if x ≤ 0 then ({ init := b, since := 0, trans := t }, r') else ({ init := high, since := 0, trans := l }, r')
  | [] => ({ init := high, since := 0, trans := [] }, r')

/-- A request's opposite. -/
def Request.inverse (r : Request) : Request := { r with init := !r.init, trans := r.trans.map (fun p => (p.1, !p.2)) }

/-! ### A cell's stage -/

/-- The normalised AC reference, clamped to ±1, and whether it saturates (R259). -/
def acReference (vref : Rat) (udc : Nat) : Rat × Bool :=
  if udc < 100 then (0, true)
  else
    let m := vref * 20 / (udc : Rat)
    if m < -1 then (-1, true) else if 1 < m then (1, true) else (m, false)

/-- The DAB shift, clamped to ±PHI_MAX, and whether it saturates (R261). -/
def dabShift (phi : Rat) (phiMax : Nat) : Rat × Bool :=
  let top : Rat := (phiMax : Rat) / 32768
  if phi < -top then (-top, true) else if top < phi then (top, true) else (phi, false)

/-- What the edge rules count in one stage. -/
structure EdgeCounts where
  stretched : Nat
  dropped   : Nat
  refreshed : Nat
  budget    : Nat
  deriving DecidableEq, Repr

/-- What the cell back end makes of one cell in one stage. -/
structure CellStage where
  run    : CellRun
  inst   : List Nat
  satAc  : Bool
  satDab : Bool
  /-- The counts of legs 0 and 1, of legs 2 and 3, and of legs 4 and 5. -/
  counts : List EdgeCounts
  deriving DecidableEq, Repr

/-- What legs count together. -/
def countLegs (zs : List LegStage) : EdgeCounts :=
  { stretched := (zs.map (fun z => z.stretched)).sum, dropped := (zs.map (fun z => z.dropped)).sum,
    refreshed := (zs.map (fun z => z.refreshed)).sum, budget := (zs.map (fun z => z.budget)).sum }

/-- A cell's carriers and edges in stage k with an AC reference in V and a DAB shift (R256 to R273). -/
def State.cellStage (s : State) (c k : Nat) (mode : Nat) (vref phi : Rat) : CellStage :=
  let r := s.cell c
  let S := s.stageFine
  let T := s.acPeriod
  let u0 := (k % s.rd Reg.MOD_CFG_AC_NC * S + s.rd (Reg.MOD_ARM_ARM_PHASE (s.rd (Reg.CELL_ID_ARM c))) + s.rd (Reg.MOD_CELL_PHASE c)) % T
  let (m, satAc) := acReference vref (s.rd (Reg.CELL_LEDGER_UDC c))
  let D := s.dabPeriod
  let ofs := s.dabOffset c
  let v0 := (k % s.rd Reg.MOD_CFG_DAB_Q * S + ofs) % D
  let (sh, satDab) := dabShift phi (s.rd Reg.MOD_CFG_PHI_MAX)
  let target := (sh * (D : Rat) / 2).floor
  let slew : Int := s.rd Reg.MOD_CFG_PHI_SLEW * D / 65536
  let (r4, r) := secondaryRequest D v0 ofs target slew S r
  let pri := bandRequest D v0 ((D : Rat) / 2) D
  if mode ≠ 0 then
    { run := { r with legs := r.legs.map LegRun.blocked, ran := false }, inst := List.replicate 12 0xFFFF, satAc := satAc,
      satDab := satDab, counts := [] }
  else
    let reqs := [carrierRequest T u0 m, carrierRequest T u0 (-m), pri, pri.inverse, r4, r4.inverse]
    let legs := if r.ran then r.legs else r.legs.map LegRun.blocked
    let out := (List.range 6).map (fun i => legStage (s.legRules (i / 2) (6 * c + i)) (reqs.getD i ⟨false, 0, []⟩) (legs.getD i {}))
    let zs := out.map (fun p => p.2)
    { run := { r with legs := zs.map LegStage.leg, ran := true, before := legs.map LegRun.blocked }, inst := (out.map (fun p => [p.1.1, p.1.2])).flatten,
      satAc := satAc, satDab := satDab, counts := [countLegs (zs.take 2), countLegs ((zs.drop 2).take 2), countLegs (zs.drop 4)] }

/-- Adds to the counts of a leg group (R282). -/
def State.countEdges (s : State) (g : Nat) (n : EdgeCounts) : State :=
  (((s.inc (Reg.MOD_EVENTS_STRETCHED g) n.stretched).inc (Reg.MOD_EVENTS_DROPPED g) n.dropped).inc (Reg.MOD_EVENTS_REFRESHED g)
    n.refreshed).inc (Reg.MOD_EVENTS_BUDGET_DROP g) n.budget

/-- Stores what a cell's stage leaves: its legs, its waybill instants, its saturation flags and the counts (R254, R266, R284). -/
def State.takeCellStage (s : State) (c mode bypass ilim : Nat) (z : CellStage) : State :=
  let s := s.setCell c { z.run with wb := { z.run.wb with inst := z.inst, mode := mode, bypass := bypass, ilim := ilim } }
  let s := (s.wrB (Reg.MOD_CELL_SAT_AC c) z.satAc).wrB (Reg.MOD_CELL_SAT_DAB c) z.satDab
  let s := (s.inc (Reg.MOD_CELL_STRETCHED c) (z.counts.map (fun n => n.stretched)).sum).inc (Reg.MOD_CELL_DROPPED c)
    (z.counts.map (fun n => n.dropped)).sum
  [0, 1, 2].foldl (fun t g => match z.counts[g]? with | some n => t.countEdges g n | none => t) s

/-! ### The drive stage -/

/-- The references of the drive legs with the zero sequence (R262). -/
def zeroSequence (m : List Rat) : List Rat :=
  let top := m.foldl max (m.headD 0)
  let low := m.foldl min (m.headD 0)
  m.map (fun x => x - (top + low) / 2)

/-- The level of each channel; channel 6 always uses its INIT_LVL (R379). -/
def State.levelOf (s : State) (ch : Nat) : Nat := s.rd (if ch = 6 then Reg.DRV_GATE_INIT_LVL 6 else Reg.DRV_CHAN_LEVEL ch)

/-- The drive back end's edge set for stage k from the references and the brake duty (R255, R262, R274). -/
def State.driveSet (s : State) (k : Nat) (gates : Bool) (m : List Rat) (brake : Rat) : EdgeSet × State :=
  if !gates then
    ({ stage := k, gates := false, levels := (List.range 7).map s.levelOf },
     { s with mod := { s.mod with drv := s.mod.drv.map LegRun.blocked, drvRan := false } })
  else
    let T := s.drvPeriod
    let u0 := (k % s.rd Reg.MOD_CFG_DRV_N * s.stageFine) % T
    let m := if s.flag Reg.MOD_CFG_ZSI then zeroSequence m else m
    let legs := if s.mod.drvRan then s.mod.drv else s.mod.drv.map LegRun.blocked
    let out := (List.range 4).map (fun i =>
      let ref := if i < 3 then m.getD i 0 else 2 * brake - 1
      legStage (s.legRules (if i < 3 then 3 else 4) (3072 + i)) (carrierRequest T u0 ref) (legs.getD i {}))
    let zs := out.map (fun p => p.2)
    let s := { s with mod := { s.mod with drv := zs.map LegStage.leg, drvRan := true } }
    ({ stage := k, gates := true, inst := (out.map (fun p => [p.1.1, p.1.2])).flatten, levels := (List.range 7).map s.levelOf },
     (s.countEdges 3 (countLegs (zs.take 3))).countEdges 4 (countLegs (zs.drop 3)))

end Sys2Proof.Machine
end

