-- ==== Sys2Proof/Machine/Station.lean ====
section
/-! DEFINITION. What the blocks share of the station: its states and their changes (R323, R325, R359, R364), cells, arms and groups
(R185, R187, R207, R345, R351), ranks (R257, R258), slot modes (R294, R338), the stop token (R230, R323) and the drive stage's state
(R396). -/

namespace Sys2Proof.Machine

open Sys2Proof

/-! ### Numbers of the cores -/

/-- A result of the cores as binary32: exact where binary32 holds it, else as the implementation rounds (log entry 5). -/
def coreWord (q : Rat) : Word :=
  let w := f32OfRat q
  if f32Finite w && f32Rat w == q then w else Config.coreRound q

/-- A binary32 register's value. -/
def State.f32 (s : State) (f : Fld) : Rat := f32Rat (BitVec.ofNat 32 (s.rd f))

/-- Writes a binary32 register. -/
def State.wrF (s : State) (f : Fld) (q : Rat) : State := s.wr f (coreWord q).toNat

/-- A value held between two bounds. -/
def clampRat (lo hi x : Rat) : Rat := if x < lo then lo else if hi < x then hi else x

/-- The stage period in seconds. -/
def State.tsSec (s : State) : Rat := (s.ts : Rat) / 100000000

/-- How many whole stages a time of milliseconds takes, rounded up. -/
def State.stagesOfMs (s : State) (ms : Nat) : Nat := (ms * 1000000 + s.tsNs - 1) / s.tsNs

/-! ### Station states (R323) -/

def St.OFF : Nat := 0
def St.SELFTEST : Nat := 1
def St.STANDBY : Nat := 2
def St.PRECHARGE : Nat := 3
def St.SYNC : Nat := 4
def St.RUN : Nat := 5
def St.DERATED : Nat := 6
def St.STOPPING : Nat := 7
def St.TRIPPED : Nat := 8
def St.LOCKED_OUT : Nat := 9

/-- The station state. -/
def State.station (s : State) : Nat := s.rd Reg.POL_STATE_STATE

/-- PRECHARGE to STOPPING: the states in which the cells are ordered to work. -/
def State.switching (s : State) : Bool := decide (3 ≤ s.station ∧ s.station ≤ 7)

/-- RUN or DERATED. -/
def State.runs (s : State) : Bool := decide (s.station = 5 ∨ s.station = 6)

/-- The run-up or stop step in progress (R329, R333, R359): P1 to P5 are 1 to 5, S1 to S4 are 6 to 9, X1 to X5 are 10 to 14. -/
def State.step_ (s : State) : Nat := s.rd Reg.POL_STATE_STEP

/-! ### Cells (R345) -/

def Svc.UNFITTED : Nat := 0
def Svc.ABSENT : Nat := 1
def Svc.REFUSED : Nat := 2
def Svc.SPARE : Nat := 3
def Svc.OPENING : Nat := 4
def Svc.IN_SERVICE : Nat := 5
def Svc.BYPASSING : Nat := 6
def Svc.FAULTED : Nat := 7

/-- A cell's service state. -/
def State.svc (s : State) (c : Nat) : Nat := s.rd (Reg.CELL_SVC_STATE c)

/-- Changes a cell's service state, noting the stage of the change (R368). -/
def State.setSvc (s : State) (c st : Nat) : State :=
  if s.svc c = st then s
  else (s.wr (Reg.CELL_SVC_STATE c) st).wr (Reg.CELL_SVC_CHANGE_STAGE c) s.stage32

/-- The indices that the route table fits (R187). -/
def State.fitted (s : State) : List Nat := List.range (s.rd Reg.ROUTE_TABLE_TOTAL_CELLS)

/-- The fitted cells of an arm, in ascending arm position. -/
def State.cellsOfArm (s : State) (a : Nat) : List Nat :=
  sortBy (fun c => s.rd (Reg.CELL_ID_ARM_POS c)) (s.fitted.filter (fun c => s.rd (Reg.CELL_ID_ARM c) == a))

/-- Whether an arm is enabled. -/
def State.armOn (s : State) (a : Nat) : Bool := s.flag (Reg.ARM_CFG_EN a)

/-- The enabled arms. -/
def State.arms (s : State) : List Nat := (List.range 24).filter s.armOn

/-- An arm's ranked cells in rank order: those in service, by the position whose rank each holds (R257). -/
def State.ranked (s : State) (a : Nat) : List Nat :=
  sortBy (fun c => s.rd (Reg.CELL_SVC_FOR_POS c)) ((s.cellsOfArm a).filter (fun c => s.svc c == Svc.IN_SERVICE))

/-- Whether the cell has a ledger that the device uses: FRESH, HOLDING or FALLEN_BACK (R233). -/
def usable (status : Nat) : Bool := decide (status ≤ 2)

/-- A cell that answers (R197, R210). -/
def State.answering (s : State) (c : Nat) : Bool := s.flag (Reg.CELL_LINK_ANSWERING c)

/-! ### Ranks (R257, R258) -/

/-- Takes a cell's rank away. -/
def State.unrank (s : State) (c : Nat) : State :=
  ((s.wr (Reg.MOD_CELL_RANKED c) 0).wr (Reg.MOD_CELL_RANK c) 0).wr (Reg.MOD_CELL_PHASE c) 0

/-- Ranks cells in the order of a list: rank j's phase is ⌊j × Tc16 / 2n⌋. -/
def State.rankFrom (s : State) (n : Nat) : Nat → List Nat → State
  | _, [] => s
  | j, c :: t =>
    State.rankFrom (((s.wr (Reg.MOD_CELL_RANKED c) 1).wr (Reg.MOD_CELL_RANK c) j).wr (Reg.MOD_CELL_PHASE c) (j * s.acPeriod / (2 * n))) n
      (j + 1) t

/-- Ranks the cells of an arm that are listed, and only those. -/
def State.rankArm (s : State) (a : Nat) (l : List Nat) : State :=
  let s := ((s.cellsOfArm a).filter (fun c => !(l.contains c))).foldl State.unrank s
  (s.rankFrom l.length 0 l).wr (Reg.MOD_ARM_N_SERVICE a) l.length

/-- Ranks an arm's cells in service. -/
def State.rerank (s : State) (a : Nat) : State := s.rankArm a (s.ranked a)

/-! ### Slot modes (R294, R337, R338) -/

/-- A slot to MANUAL with an output. -/
def State.slotManual (s : State) (n : Nat) (out : Word := 0) : State :=
  (s.wr (Reg.LOOP_SLOT_MODE_MODE n) 2).wr (Reg.LOOP_SLOT_MODE_MAN_OUT n) out.toNat

/-- A slot to AUTO, from an output of 0: what it transfers from is 0, whatever it stood at in MANUAL (R303, R331; log entry 66). -/
def State.slotAuto (s : State) (n : Nat) : State :=
  if s.rd (Reg.LOOP_SLOT_MODE_MODE n) = 1 then s
  else ((s.wr (Reg.LOOP_SLOT_MODE_MODE n) 1).wr (Reg.LOOP_SLOT_MODE_MAN_OUT n) 0).wr (Reg.LOOP_SLOT_STATE_OUT n) 0

/-- Several slots to MANUAL at 0. -/
def State.slotsManual (s : State) (l : List Nat) : State := l.foldl (fun t n => t.slotManual n) s

/-- A cell's two slots. -/
def cellSlots (c : Nat) : List Nat := [c, 512 + c]

/-- An arm's two slots. -/
def armSlots (a : Nat) : List Nat := [1024 + 2 * a, 1025 + 2 * a]

/-- The slots of R338. -/
def State.policySlots (s : State) : List Nat :=
  (s.fitted.map cellSlots).flatten ++ (s.arms.map armSlots).flatten ++ [1072]

/-! ### Setpoints (R343, R403) -/

/-- A setpoint's value after a restart. -/
def State.setpointReset (s : State) (id : Nat) : Rat :=
  if id = 1 ∨ id = 2 then 1000 else if id = 0x102 then s.f32 Reg.DRV_MOTOR_I_MAX else if id = 0x103 then 100 else 0

/-- A setpoint in force. -/
def State.setpoint (s : State) (id : Nat) : SetRun :=
  match assocGet s.pol.sets id with
  | some r => r
  | none => { value := s.setpointReset id, target := s.setpointReset id, rate := 0, moving := false }

/-! ### Groups (R351) -/

def ArmSt.DISABLED : Nat := 0
def ArmSt.IDLE : Nat := 1
def ArmSt.RUNNING : Nat := 2
def ArmSt.SHORT : Nat := 3
def ArmSt.STOPPED : Nat := 4

/-- An arm's group. -/
def State.groupOf (s : State) (a : Nat) : Nat := s.rd (Reg.ARM_CFG_GROUP a)

/-- Whether an arm's group is stopped. -/
def State.armStopped (s : State) (a : Nat) : Bool := s.rd (Reg.POL_ARM_STATE a) == ArmSt.STOPPED

/-- The running arms: enabled, not stopped, in a state in which the cells are ordered to work. -/
def State.runningArms (s : State) : List Nat :=
  if s.switching then s.arms.filter (fun a => !(s.armStopped a)) else []

/-- The groups that hold an enabled arm. -/
def State.groups (s : State) : List Nat := (List.range 24).filter (fun g => s.arms.any (fun a => s.groupOf a == g))

/-- The groups that are not stopped. -/
def State.runningGroups (s : State) : List Nat :=
  s.groups.filter (fun g => s.arms.all (fun a => s.groupOf a != g || !(s.armStopped a)))

/-- Stops one arm. -/
def State.stopArm1 (s : State) (a : Nat) : State :=
  let s := (s.wr (Reg.POL_ARM_STATE a) ArmSt.STOPPED).wr (Reg.POL_ARM_STOP_STAGE a) s.stage32
  s.slotsManual (armSlots a ++ ((s.cellsOfArm a).map cellSlots).flatten)

/-- Stops the group of an arm: its arms read STOPPED and their slots go to MANUAL at 0 (R351, R450). Too few groups left raise
GROUP_LOSS. -/
def State.stopGroup (s : State) (a : Nat) : State :=
  if s.armStopped a then s
  else
    let g := s.groupOf a
    let s := (s.arms.filter (fun b => s.groupOf b == g)).foldl State.stopArm1 s
    if s.runningGroups.length < s.rd Reg.POL_CFG_MIN_GROUPS then s.raise Code.GROUP_LOSS .f3 (subj 4 g) else s

/-! ### The drive stage's state (R396) -/

def Drv.OFF : Nat := 0
def Drv.CHARGING : Nat := 1
def Drv.RUNNING : Nat := 2
def Drv.STOPPING : Nat := 3
def Drv.TRIPPED : Nat := 4

/-- The drive state. -/
def State.drive (s : State) : Nat := s.rd Reg.DRV_STAT_STATE

/-- CHARGING, RUNNING or STOPPING. -/
def State.driveActive (s : State) : Bool := decide (1 ≤ s.drive ∧ s.drive ≤ 3)

/-- The drive stage's slots (R400). -/
def driveSlots : List Nat := [1080, 1081, 1082, 1083, 1084, 1085, 1086]

/-- Changes the drive state, with its journal entry: both states. In OFF and in TRIPPED the gates are off (R376, R449). -/
def State.driveTo (s : State) (st : Nat) : State :=
  if s.drive = st then s
  else
    let old := s.drive
    let s := if st = Drv.OFF ∨ st = Drv.TRIPPED then s.gatesOff else s
    (s.wr Reg.DRV_STAT_STATE st).event Ev.DRIVE_STATE 0 (beBytes 1 old ++ beBytes 1 st)

/-- The drive stage's own stop (R396, R399): RUNNING enters STOPPING; CHARGING enters OFF. -/
def State.driveStop (s : State) : State :=
  if s.drive = Drv.RUNNING then { (s.driveTo Drv.STOPPING) with drv := { s.drv with stepN := 0 } }
  else if s.drive = Drv.CHARGING then s.driveTo Drv.OFF
  else s

/-- The drive stage off, coasting: edge sets all off, slots at MANUAL 0 (R396, Y2 of R399). -/
def State.driveOff (s : State) : State :=
  if s.driveActive then ((s.driveTo Drv.OFF).slotsManual driveSlots).wr Reg.MOD_DRV_STARTED 0 else s

/-- The trips that act while the drive stage is OFF too (R391): OC_FAST, OV_TRIP, HV_CLOCK_LOST and THERMAL. -/
def tripInOff (code : Nat) : Bool := (code / 16 == 0xD2) || code == 0x0D30 || code == 0x0D50 || code == 0x0D74

/-- A trip latches at HVS, where the drive state lets it be raised (R388, R391): the gates go off, and edge sets act no more. -/
def State.latchTrip (s : State) (code : Nat) : State :=
  if s.driveActive || (s.drive == Drv.OFF && tripInOff code) then
    let s := s.gatesOff
    if (s.drv.fresh ++ s.drv.atB ++ s.drv.reported).contains code then s
    else { s with drv := { s.drv with fresh := s.drv.fresh ++ [code] } }
  else s

/-! ### The station's state -/

/-- What a state does on its entry (R329 to R334, R351). -/
def State.entry (s : State) (old st : Nat) : State :=
  let s := s.wr Reg.POL_STATE_STEP (if st = 3 then 1 else if st = 4 then 6 else if st = 7 then (if old = 3 then 13 else 10) else 0)
  let s := if st = 3 ∨ st = 4 then s else s.wr Reg.POL_STATE_TARGET 0
  let s := { s with pol := { s.pol with stepN := 0, dwell := 0, held := false, udcNow := none, vbusNow := none } }
  if st = 2 then
    s.arms.foldl (fun t a => if t.armStopped a then t.wr (Reg.POL_ARM_STATE a) ArmSt.IDLE else t) s
  else if st = 8 ∨ st = 9 then
    let s := s.driveOff
    let s := (s.wr Reg.POL_STATE_BREAKER_REQ 0).wr Reg.POL_STATE_PRECHARGE_REQ 0
    s.slotsManual s.policySlots
  else if st = 7 ∧ old = 3 then (s.wr Reg.POL_STATE_BREAKER_REQ 0).wr Reg.POL_STATE_PRECHARGE_REQ 0
  else if st = 3 then { s with pol := { s.pol with tracking := true } }
  else s

/-- Changes the station state for a cause, with its journal entry: both states and the cause (R325, R359). -/
def State.enter (s : State) (st cause : Nat) : State :=
  let old := s.station
  let s := ((s.wr Reg.POL_STATE_PREV old).wr Reg.POL_STATE_STATE st).wr Reg.POL_STATE_CAUSE cause
  let s := { s with pol := { s.pol with entryStage := s.stage } }
  let s := (s.wr Reg.POL_STATE_ENTRY_STAGE s.stage32).event Ev.STATION_STATE 0 (beBytes 1 old ++ beBytes 1 st ++ beBytes 2 cause)
  s.entry old st

/-- Orders a change of the station state at the next stage boundary (R15). -/
def State.goTo (s : State) (st cause : Nat) : State := { s with pol := { s.pol with goto := some (st, cause) } }

/-! ### Requests, feedback and the stop token -/

/-- The safety output of a role (R504, R522). -/
def State.outOfRole (s : State) (r : Nat) : Option Nat :=
  (List.range 4).find? (fun j => s.rd (Reg.SAFE_PARAM_ACTIVE_OUT_ROLE j) == r)

/-- The island reports the device on an output closed: energised, its feedback OFF (R504). -/
def State.isClosed (s : State) (r : Nat) : Bool :=
  match s.outOfRole r with
  | some j => s.flag (Reg.SAFE_OUT_ON j) && !(s.flag (Reg.SAFE_OUT_FB_OPEN j))
  | none => false

/-- The island reports the device on an output open. -/
def State.isOpenFb (s : State) (r : Nat) : Bool :=
  match s.outOfRole r with
  | some j => s.flag (Reg.SAFE_OUT_FB_OPEN j)
  | none => true

/-- Route frames carry the stop token (R230, R275, R323, R333, R499): in the states in which it governs the cells, in step X5 of a
stop, in the safe state, during a stopping sequence and while STO is asserted. -/
def State.stopToken (s : State) : Bool :=
  !s.switching || s.step_ == 14 || s.flag Reg.MOD_STAT_SAFE || s.power.stopping.any (fun p => decide (p.2 < 5)) || s.flag Reg.SAFE_STAT_STO

/-- A journal entry of an action of the mechanisms of R24. The spec gives ADAPT's DATA no encoding: the model names the mechanism in the
first byte, by its row in the table before R24, and adds bytes of its own (DESIGN CHOICE, log entry 67). -/
def State.adapt (s : State) (mechanism subject : Nat) (data : List Byte := []) : State :=
  s.event Ev.ADAPT subject (beBytes 1 mechanism ++ data)

end Sys2Proof.Machine
end

