-- ==== Sys2Proof/Machine/Causes.lean ====
section
/-! DEFINITION. What decides that a cell leaves service (R25, R345, R347): its ledger as the cores see it, the READY spares of its arm, and
the causes in their order. -/

namespace Sys2Proof.Machine

open Sys2Proof

/-! ### What the cores see -/

/-- A cell's ledger as the cores see it; NO_LEDGER where they have none. -/
def State.view (s : State) (c : Nat) : CellView := (assocGet s.pol.view c).getD ⟨0, 0, 0, 0, 0, 4⟩

/-- The ledger's values in V and A (R227). -/
def CellView.u (v : CellView) : Rat := (v.udc : Rat) / 20
def CellView.i (v : CellView) : Rat := (v.iac : Rat) / 20
def CellView.d (v : CellView) : Rat := (v.idab : Rat) / 20
def CellView.ok (v : CellView) : Bool := usable v.status

/-- UDC_REF_NOW and VBUS_REF_NOW: their setpoints, but for the ramps of S2 and S3 (R331, R344). -/
def State.udcRef (s : State) : Rat := match s.pol.udcNow with | some x => x | none => (s.setpoint 2).value
def State.vbusRef (s : State) : Rat := match s.pol.vbusNow with | some x => x | none => (s.setpoint 1).value

/-! ### Spares -/

/-- A spare that is READY (R345). -/
def State.ready (s : State) (c : Nat) : Bool :=
  s.svc c == Svc.SPARE && s.answering c
    && (s.station == 3 || (s.station == 4 && decide (s.step_ ≤ 7))
        || ((s.view c).ok && decide (s.udcRef * 19 / 20 ≤ (s.view c).u)))

/-- The READY spares of an arm, in ascending arm position. -/
def State.readySpares (s : State) (a : Nat) : List Nat := (s.cellsOfArm a).filter s.ready

/-! ### Causes -/

/-- The level of a cell: that of its hottest sensor (R564). -/
def State.cellLevel (s : State) (c : Nat) : Nat :=
  max (s.rd (Reg.CELL_THERM_LEVEL0 c)) (max (s.rd (Reg.CELL_THERM_LEVEL1 c)) (s.rd (Reg.CELL_THERM_LEVEL2 c)))

/-- What TRIP counts as for the policy: a cell at SHUTDOWN reports OVERTEMP (R573). -/
def State.tripOf (s : State) (c : Nat) : Nat :=
  s.rd (Reg.CELL_LEDGER_TRIP c) ||| (if s.cellLevel c = 3 then 0x0800 else 0)

/-- Whether the last ledger orders the cell's bypass on the modulator's path (R347). -/
def State.tripped (s : State) (c : Nat) : Bool :=
  usable (s.rd (Reg.CELL_LEDGER_STATUS c))
    && (s.tripOf c / 256 != 0 || s.rd (Reg.CELL_LEDGER_STATUS c) == 2 || s.rd (Reg.CELL_LEDGER_STATE c) / 16 == 3)

/-- A cell in OPENING or IN_SERVICE. -/
def State.active (s : State) (c : Nat) : Bool := s.svc c == Svc.OPENING || s.svc c == Svc.IN_SERVICE

/-- The cause that takes an active cell out of service now, if there is one, where it has been without a usable ledger for `lost` stages: the
lowest code (R347). -/
def State.causeAt (s : State) (c lost : Nat) : Option Nat :=
  let v := s.view c
  if v.ok ∧ v.trip / 256 ≠ 0 then some 1
  else if v.ok ∧ (v.status = 2 ∨ v.state / 16 = 3) then some 2
  else if s.rd Reg.LANE_GLOBAL_HOLD < lost then some 3
  else if v.ok ∧ s.f32 Reg.POL_CFG_U_OV < v.u then some 4
  else if s.runs ∧ v.ok ∧ v.u < s.f32 Reg.POL_CFG_U_UV then some 5
  else if s.pol.lostNow.contains c then some 6
  else if s.flag (Reg.CELL_CAP_SERVICE c) ∧ s.flag Reg.POL_CFG_CAP_SWAP ∧ s.svc c = Svc.IN_SERVICE
      ∧ s.readySpares (s.rd (Reg.CELL_ID_ARM c)) ≠ [] then some 8
  else if s.pol.takeNow.contains c then some 9
  else none

/-- The stages in a row without a usable ledger, this one included. -/
def State.lostNow (s : State) (c : Nat) : Nat := if (s.view c).ok then 0 else min 256 ((s.cell c).lost + 1)

/-- A bypass of an active cell is ordered in this stage, on either path, or follows from the ledger that has just come: no derating of it is
applied (R25). -/
def State.leaving (s : State) (c : Nat) : Bool := s.active c && (s.tripped c || (s.causeAt c (s.lostNow c)).isSome)

end Sys2Proof.Machine
end

