-- ==== Sys2Proof/Machine/Levels.lean ====
section
/-! DEFINITION. The levels of a thermal source (R564), the step of a limit factor (R565), and a cell's thermal machine (R572 to R574). -/

namespace Sys2Proof.Machine

open Sys2Proof

/-- The counts of readings in a row, for one reading in 0.1 °C, held at the confirmation count. -/
def countRuns (conf : Nat) (hit : Int → Bool) : List Int → List Nat → List Nat
  | t :: ts, n :: ns => (if hit t then min conf (n + 1) else 0) :: countRuns conf hit ts ns
  | _, _ => []

/-- The highest level whose rising count is full. -/
def riseTo (conf : Nat) (up : List Nat) : Nat :=
  if conf ≤ up.getD 2 0 then 3 else if conf ≤ up.getD 1 0 then 2 else if conf ≤ up.getD 0 0 then 1 else 0

/-- The level left over after leaving every level whose falling count is full. -/
def fallTo (conf : Nat) (down : List Nat) : Nat → Nat
  | 0 => 0
  | n + 1 => if conf ≤ down.getD n 0 then fallTo conf down n else n + 1

/-- A source's level after a reading in 0.1 °C, with its thresholds for WARNING, THROTTLE and SHUTDOWN (R564). -/
def Level.next (l : Level) (conf : Nat) (thresholds : List Int) (x : Int) : Level :=
  let up := countRuns conf (fun t => decide (t ≤ x)) thresholds l.up
  let down := countRuns conf (fun t => decide (x ≤ t - 50)) thresholds l.down
  let rise := riseTo conf up
  { code := if l.code < rise then rise else fallTo conf down l.code, up := up, down := down }

/-- The code of THROTTLE (R564). -/
def throttle : Nat := 2

/-- Which way a limit factor steps at once when a source's level changes (R565): down by the entry to THROTTLE, up by the fall below
it. -/
def stepAtOnce (old new : Nat) : Int :=
  if old < throttle ∧ throttle ≤ new then -1 else if throttle ≤ old ∧ new < throttle then 1 else 0

/-- A factor in eighths after a step (R565). -/
def stepFactor (f : Nat) (d : Int) : Nat := ((f : Int) + d).toNat |> fun n => max 1 (min 8 n)

/-! ### Cells -/

/-- The thresholds of TEMPi in 0.1 °C (R574, R579). -/
def State.cellLimits (s : State) (i : Nat) : List Int :=
  [s.rd (Reg.THERM_CELL_LIM_WARN i) * 10, s.rd (Reg.THERM_CELL_LIM_THROTTLE i) * 10, s.rd (Reg.THERM_CELL_LIM_SHUTDOWN i) * 10]

/-- A step of a cell's factor, with its counts and its journal entry (R572, R581). -/
def State.stepCell (s : State) (c : Nat) (d : Int) : State :=
  let f := s.rd (Reg.CELL_THERM_F_C c)
  let f' := stepFactor f d
  let s := s.setCell c { s.cell c with thermAt := s.timeOf 1 }
  if f' = f then s
  else
    let s := (s.wr (Reg.CELL_THERM_F_C c) f').wr (Reg.CELL_THERM_LAST_STAGE c) s.stage32
    let s := if d < 0 then s.inc (Reg.CELL_THERM_STEPS_DOWN c) else s.inc (Reg.CELL_THERM_STEPS_UP c)
    s.adapt 3 (subj 1 c) (beBytes 1 f')

/-- A usable ledger advances a cell's thermal machine (R564, R572). Where it also orders the bypass of the cell, no derating is applied
(R25). SHUTDOWN takes an active cell out of service (R573). -/
def State.cellThermal (s : State) (c : Nat) : State :=
  let t0 := s.rdS (Reg.CELL_LEDGER_TEMP0 c)
  let t1 := s.rdS (Reg.CELL_LEDGER_TEMP1 c)
  let t2 := s.rdS (Reg.CELL_LEDGER_TEMP2 c)
  let old := s.cellLevel c
  let r := s.cell c
  let l0 := (r.therm.getD 0 {}).next 4 (s.cellLimits 0) t0
  let l1 := (r.therm.getD 1 {}).next 4 (s.cellLimits 1) t1
  let l2 := (r.therm.getD 2 {}).next 4 (s.cellLimits 2) t2
  let s := s.setCell c { r with therm := [l0, l1, l2] }
  let s := ((s.wr (Reg.CELL_THERM_LEVEL0 c) l0.code).wr (Reg.CELL_THERM_LEVEL1 c) l1.code).wr (Reg.CELL_THERM_LEVEL2 c) l2.code
  let s := s.wrS (Reg.CELL_THERM_HOT c) (max t0 (max t1 t2))
  let s := if old ≠ 3 ∧ s.cellLevel c = 3 ∧ s.active c then s.see (Reg.CELL_THERM_SHUTDOWN_SEEN c) else s
  let d := stepAtOnce old (s.cellLevel c)
  if d = 0 ∨ (d < 0 ∧ s.leaving c) then s else s.stepCell c d

end Sys2Proof.Machine
end

