-- ==== Sys2Proof/Machine/Line.lean ====
section
/-! DEFINITION. The line of an Enral link (R211 to R213): its 66-bit blocks, the bursts and the blocks between them, and the bits that a link
carries: sync header, scrambler and bit order. -/

namespace Sys2Proof.Machine

open Sys2Proof

/-! ### Blocks (R211, R212) -/

/-- Data blocks of 8 bytes each; the first byte of a block carries the most significant byte of its fields. -/
def dataBlocks : List Byte → List Block
  | a :: b :: c :: d :: e :: f :: g :: h :: t => ⟨1, [a, b, c, d, e, f, g, h]⟩ :: dataBlocks t
  | _ => []

/-- A control block: its type, then up to seven bytes, the rest 0. -/
def controlBlock (type : Byte) (l : List Byte) : Block := ⟨2, type :: (l ++ List.replicate 7 0).take 7⟩

/-- The block types of R212. -/
def idleBlock : Block := controlBlock 0xA5 []
def startBlock (kind : Nat) : Block := controlBlock 0xB1 [BitVec.ofNat 8 kind]
def endBlock : Block := controlBlock 0xB2 []

/-- A MARKER for a position counted from its sending end (R241). -/
def markerBlock (target : Nat) (ret : Bool) (number : Nat) : Block :=
  controlBlock 0xC3 [BitVec.ofNat 8 target, if ret then 1 else 0, BitVec.ofNat 8 number]

/-- The ECHO that a cell sends of it. -/
def echoBlock (target : Nat) (ret : Bool) (number : Nat) : Block :=
  controlBlock 0xC4 [BitVec.ofNat 8 target, if ret then 1 else 0, BitVec.ofNat 8 number, 0xEC]

/-- What an ECHO says: the target, the end and the marker number; none of another block. -/
def readEcho (b : List Byte) : Option (Nat × Nat × Nat) :=
  match b with
  | [t, x, e, m, c, 0, 0, 0] => if t = 0xC4 ∧ c = 0xEC then some (x.toNat, e.toNat, m.toNat) else none
  | _ => none

/-- A block that a receiver does not count in HEADER_ERR (R213). -/
def Block.valid (b : Block) : Bool :=
  b.header == 1 || (b.header == 2 && ([0xA5, 0xB1, 0xB2, 0xC3, 0xC4] : List Byte).contains (b.bytes.headD 0))

/-- A burst: its START with its KIND, its bytes in data blocks, and END (R213). -/
def burstOf (kind : Nat) (body : List Byte) : List Block := startBlock kind :: dataBlocks body ++ [endBlock]

/-! ### Bits (R211) -/

/-- The bits of a byte in the order of the line, the least significant first (clause 49 of IEEE 802.3; PRESUMED, log entry 68). -/
def byteBits (b : Byte) : List Bool := (List.range 8).map b.getLsbD

/-- The scrambler 1 + x^39 + x^58 from the bits it has put out before, newest first. -/
def scramble : List Bool → List Bool → List Bool
  | _, [] => []
  | past, x :: t =>
    let y := xor x (xor (past.getD 38 false) (past.getD 57 false))
    y :: scramble (y :: past) t

/-- The descrambler of a receiver, from the bits that have come before, newest first. -/
def descramble : List Bool → List Bool → List Bool
  | _, [] => []
  | past, y :: t => xor y (xor (past.getD 38 false) (past.getD 57 false)) :: descramble (y :: past) t

/-- A block on the line: the sync header as it stands, and the payload scrambled. -/
def Block.wire (past : List Bool) (b : Block) : List Bool :=
  [b.header.getLsbD 1, b.header.getLsbD 0] ++ scramble past (b.bytes.map byteBits).flatten

/-- Blocks on the line, one after the other. -/
def lineOf : List Bool → List Block → List Bool
  | _, [] => []
  | past, b :: t =>
    let bits := b.wire past
    bits ++ lineOf ((bits.drop 2).reverse ++ past) t

/-- What an output puts on the line of a link whose transmitter has sent scrambled bits before. -/
def Out.wire (past : List Bool) : Out → List Bool
  | .burst _ bs => lineOf past bs
  | .gap _ bs => lineOf past bs
  | _ => []

end Sys2Proof.Machine
end

