-- ==== Sys2Proof/Machine/Frame.lean ====
section
/-! DEFINITION. The bursts of the cell link as bytes: heads, waybills, route frames, parcel chunks and TRAIN frames (R222 to R228, R235,
R240), with the ends of a route and the hops each serves (R188, R220). -/

namespace Sys2Proof.Machine

open Sys2Proof

/-! ### Ends of a route (R188, R214, R220) -/

/-- The pair wiring (R188). -/
def State.paired (s : State) : Bool := s.flag Reg.ROUTE_TABLE_PAIRED

/-- This module is strapped SECOND (R43, R55). -/
def State.second (s : State) : Bool := s.rd Reg.ID_STRAP_ROLE == 2

/-- A route's end in use on this module (R188): `ret` names the return end. -/
def State.ownEnd (s : State) (ret : Bool) : Bool := !s.paired || (s.second == ret)

/-- The link of a route's end (R214). -/
def linkOf (n : Nat) (ret : Bool) : Nat := 2 * n + (if ret then 1 else 0)

/-- Whether a route's end is locked: by its own link, or by what the partner has told of its ends (R463). An end under a pattern test is
down (R248). -/
def State.endLocked (s : State) (n : Nat) (ret : Bool) : Bool :=
  let l := linkOf n ret
  if s.ownEnd ret then s.flag (Reg.LANE_STAT_LOCKED l) && !(s.link.prbs.any (fun p => p.1 == l))
  else s.link.partnerLocked / 2 ^ n % 2 == 1

/-- This module serves what the keeper serves: it is keeper and stays so, or takes the role at the coming boundary (R474). -/
def State.serves (s : State) : Bool := match s.duo.next with | some r => r == 1 | none => s.isKeeper

/-- The end that serves a closed ring is the return end: the keeper's, where SECOND is the keeper (R220). -/
def State.closedRet (s : State) : Bool := s.paired && (s.second == s.serves)

/-- Cells of a route and the index of its hop 0 (R187). -/
def State.cellsOn (s : State) (n : Nat) : Nat := s.rd (Reg.ROUTE_CFG_CELL_COUNT n)
def State.firstOf (s : State) (n : Nat) : Nat := s.rd (Reg.ROUTE_CFG_FIRST_INDEX n)
def State.routeOn (s : State) (n : Nat) : Bool := s.flag (Reg.ROUTE_CFG_EN n)
def State.routes (s : State) : List Nat := (List.range 24).filter s.routeOn

/-- The hops served from an end (R220, R247). -/
def State.reach (s : State) (n : Nat) (ret : Bool) : Nat :=
  if ret then s.rd (Reg.ROUTE_RUN_REACH_RET n) else s.rd (Reg.ROUTE_RUN_REACH_OUT n)

/-- The end that serves a hop, if one does: `some true` for the return end. -/
def State.servedFrom (s : State) (n h : Nat) : Option Bool :=
  if h < s.reach n false then some false
  else if s.cellsOn n ≤ h + s.reach n true then some true
  else none

/-- A route beside its registers. -/
def State.route (s : State) (n : Nat) : RouteRun := if h : n < 24 then s.link.routes[n] else {}

/-- Sets it. -/
def State.setRoute (s : State) (n : Nat) (r : RouteRun) : State :=
  if h : n < 24 then { s with link := { s.link with routes := s.link.routes.set n r } } else s

/-- A route in quiet training carries no waybills (R193). -/
def RouteRun.quiet (r : RouteRun) : Bool := r.training == some false

/-! ### Heads (R222, R228) -/

/-- What a head says beyond what the state gives. -/
structure HeadIn where
  type  : Nat
  flags : Nat
  seq   : Nat
  reach : Nat
  len   : Nat
  op    : Nat
  deriving DecidableEq, Repr

/-- The LANE_TIME of the next stage boundary (R80, R222), in whole ns. -/
def State.nextLaneNs (s : State) : Nat := s.timeOf 2 / 65536 + s.tsNs

/-- A head's bytes (R222): 30 bytes and their HEAD_CRC. -/
def State.headBytes (s : State) (n : Nat) (h : HeadIn) : List Byte :=
  let t := s.nextLaneNs
  let b := beBytes 1 h.type ++ beBytes 1 h.flags ++ beBytes 2 (h.seq % 65536) ++ beBytes 1 n ++ beBytes 1 (s.cellsOn n) ++ beBytes 1 h.reach
    ++ beBytes 1 (s.rd Reg.LANE_GLOBAL_HOLD) ++ beBytes 2 s.ts ++ beBytes 2 h.len ++ beBytes 4 (t / 1000000000) ++ beBytes 4 (t % 1000000000)
    ++ beBytes 2 (s.rd (Reg.MOD_GROUP_DT 0)) ++ beBytes 2 (s.rd (Reg.MOD_GROUP_DT 1)) ++ beBytes 2 (s.rd (Reg.MOD_GROUP_DT 2))
    ++ beBytes 1 h.op ++ [0, 0, 0]
  b ++ beBytes 2 (crc16 0xFFFF b)

/-- Whether a head's check code holds (R222, R228). -/
def headGood (train : List Byte) : Bool := decide (32 ≤ train.length) && beAt train 30 2 == crc16 0xFFFF (train.take 30)

/-- The seed of the frame and chunk codes (R228). -/
def frameSeed (seq n x : Nat) : Nat := 0xFFFFFFFF ^^^ (seq % 65536 * 65536) ^^^ (n * 256) ^^^ x

/-- The tail over what it covers (R223, R228). -/
def tailBytes (seq n : Nat) (ret : Bool) (covered : List Byte) : List Byte :=
  beBytes 4 (crc32c (frameSeed seq n (if ret then 1 else 0)) covered) ++ [0, 0, 0, 0]

/-! ### Waybills (R224, R228) -/

/-- The MODE byte: the code in its upper half. -/
def Waybill.body (w : Waybill) : List Byte :=
  (w.inst.map (beBytes 2)).flatten ++ beBytes 1 (w.mode * 16) ++ beBytes 1 w.bypass ++ beBytes 2 w.ilim ++ beBytes 2 w.ack

/-- A waybill's 32 bytes (R224). -/
def Waybill.bytes (w : Waybill) (seq n hop : Nat) : List Byte :=
  w.body ++ beBytes 2 (crc16 (seq % 65536 ^^^ (n * 256) ^^^ hop) w.body)

/-- The waybill of the safe state (R275). -/
def Waybill.safe (w : Waybill) : Waybill := { inst := List.replicate 12 0xFFFF, mode := 2, bypass := 0, ilim := w.ilim, ack := 0 }

/-! ### Parcel chunks (R235, R237) -/

/-- The chunk that a transfer sends next: its bytes, padded to a multiple of 8. -/
def Parcel.chunk (p : Parcel) (hop : Nat) : List Byte :=
  let n := min 248 (p.body.length - p.done)
  let kind := (if p.done = 0 then 128 else 0) + (if p.done + n = p.body.length then 64 else 0) + (if p.fromCell then 32 else 0)
  beBytes 1 hop ++ beBytes 1 kind ++ beBytes 2 p.tag ++ beBytes 2 p.done ++ beBytes 2 n ++ (p.body.drop p.done).take n
    ++ List.replicate ((8 - n % 8) % 8) 0

/-- A transfer has a chunk to send now. -/
def Parcel.sends (p : Parcel) : Bool := p.due && decide (p.done < p.body.length)

/-- A transfer has an empty request body to announce now. -/
def Parcel.announces (p : Parcel) : Bool := p.due && p.body == []

/-- The bytes of chunks that a frame has room for (R219, R223): the burst is at most Ts − 200 ns long, at 5 bytes of block payload to
4 ns (66 bits of line for 64 of payload at 10.3125 Gbaud), less START, END, head, waybills, tail and training area. -/
def State.parcelRoom (s : State) (n : Nat) (live : Bool) : Nat :=
  ((s.tsNs - 200) * 5 / 4) / 8 * 8 - (16 + 32 + 32 * s.cellsOn n + 8 + (if live then 512 else 0))

/-- The hops of a route in turn after a hop (R22). -/
def hopsAfter (cells turn : Nat) : List Nat := (List.range cells).map (fun k => (turn + 1 + k) % cells)

/-- Lays the chunks that fit into a parcel area, hop after hop; answers the area, the cells whose chunk is in it and the last hop. A hop whose chunk does
not fit in what room is left is passed over in this frame, and the turn goes on past it (DESIGN CHOICE, log entry 69: R22 says round robin). -/
def takeChunks (parcels : List (Nat × Parcel)) (first : Nat) (served : Nat → Bool) :
    List Nat → Nat → List Byte → List Nat → Nat → List Byte × List Nat × Nat
  | [], _, acc, cells, turn => (acc, cells, turn)
  | h :: t, room, acc, cells, turn =>
    match assocGet parcels (first + h) with
    | some p =>
      let c := p.chunk h
      if served h && p.sends && decide (c.length + 8 ≤ room) then
        takeChunks parcels first served t (room - c.length) (acc ++ c) (cells ++ [first + h]) h
      else takeChunks parcels first served t room acc cells turn
    | none => takeChunks parcels first served t room acc cells turn

/-- The header that ends the list of chunks: LENGTH 0. Where a transfer has an empty request body, it is this header that names its cell and its TAG
(DESIGN CHOICE, log entry 69: R235 gives a chunk at least one byte). Answers the header and the cell. -/
def lastHeader (parcels : List (Nat × Parcel)) (first : Nat) (served : Nat → Bool) (hops : List Nat) : Option (List Byte × Nat) :=
  hops.findSome? (fun h =>
    match assocGet parcels (first + h) with
    | some p => if served h && p.announces then some (p.chunk h, first + h) else none
    | none => none)

/-! ### Training slots (R240) -/

/-- A DELAYS slot (R240), with its check code (R228). -/
def State.delaysSlot (s : State) (n h pos : Nat) (ret : Bool) : List Byte :=
  let c := s.firstOf n + h
  let b := beBytes 1 n ++ beBytes 1 h ++ beBytes 1 (s.cellsOn n) ++ [0] ++ beBytes 2 (s.rd (Reg.CELL_LINK_DELAY_OUT c))
    ++ beBytes 2 (s.rd (Reg.CELL_LINK_DELAY_RET c)) ++ beBytes 2 (s.rd (Reg.CELL_ID_SERIAL_LO c) % 65536) ++ [0, 0, 0, 0]
  b ++ beBytes 2 (crc16 (0xFFFF ^^^ (if ret then 256 else 0) ^^^ pos) b)

/-- The 32 slots of a training area: the delays of the route's hops for DELAYS, else empty. -/
def State.trainingArea (s : State) (n op : Nat) (ret : Bool) : List Byte :=
  if op = 2 then
    ((List.range 32).map (fun p =>
      if p < s.cellsOn n then s.delaysSlot n (if ret then s.cellsOn n - 1 - p else p) p ret else List.replicate 16 0)).flatten
  else List.replicate 512 0

/-- A TRAIN frame's bytes between START and END (R240). -/
def State.trainFrame (s : State) (n op : Nat) (ret : Bool) : List Byte :=
  let seq := s.stage + 1
  let flags := (if s.stopToken then 64 else 0) + (if ret then 32 else 0)
  let head := s.headBytes n { type := 3, flags := flags, seq := seq, reach := 0, len := 0, op := op }
  head ++ s.trainingArea n op ret ++ tailBytes seq n ret head

/-- The ENUMERATE slots of an end, as its cells have written them one after the other: the hops up to the first slot that is empty or whose code
fails (R228, R240). `p`: the position of the first slot. -/
def readSlots (ret : Bool) : Nat → Nat → List Byte → List HopSeen
  | 0, _, _ => []
  | n + 1, p, area =>
    let b := area.take 16
    if allZero b || beAt b 14 2 != crc16 (0xFFFF ^^^ (if ret then 256 else 0) ^^^ p) (b.take 14) then []
    else { serial := beAt b 0 8, turn := beAt b 8 2 } :: readSlots ret n (p + 1) (area.drop 16)

/-- The slots among 32 whose code fails. -/
def badSlots (ret : Bool) (area : List Byte) : Nat :=
  ((List.range 32).filter (fun p =>
    let b := (area.drop (16 * p)).take 16
    !(allZero b) && beAt b 14 2 != crc16 (0xFFFF ^^^ (if ret then 256 else 0) ^^^ p) (b.take 14))).length

end Sys2Proof.Machine
end

