-- ==== Sys2Proof/Machine/Train.lean ====
section
/-! DEFINITION. Links and training: the detectors (R214 to R217), quiet and live training (R193 to R200), what a training finds (R194 to
R197), and the TEST that retrains routes (R201). -/

namespace Sys2Proof.Machine

open Sys2Proof

/-! ### Parcels that end -/

/-- Ends a transfer with its status and its payload (R237, R238): CELL_PARCEL.STATE, the count, and the reply. -/
def State.endParcel (s : State) (c status : Nat) (payload : List Byte) : State :=
  match assocGet s.link.parcels c with
  | none => s
  | some _ =>
    let s := { s with link := { s.link with parcels := assocErase s.link.parcels c } }
    let s := s.wr (Reg.CELL_PARCEL_STATE c)
      (if status = Status.OK then 4 else if status = Status.PARCEL_NAK then 5 else if status = Status.PARCEL_TIMEOUT then 6 else 7)
    let s := if status = Status.PARCEL_NAK then s.inc (Reg.CELL_PARCEL_NAK_COUNT c)
      else if status = Status.PARCEL_TIMEOUT then s.inc (Reg.CELL_PARCEL_TIMEOUT_COUNT c) else s
    match s.findOp (fun o => o == .parcel c) with
    | some i => s.endBusy i (.parcel c) status payload
    | none => s

/-! ### Starting a training -/

/-- A link is powered down (R188, R216): its detectors read as at reset, a lock that it had is lost. -/
def State.powerDown (s : State) (l : Nat) : State :=
  let s := if s.flag (Reg.LANE_STAT_LOCKED l) then (s.see (Reg.LANE_STAT_LOL_SEEN l)).inc (Reg.LANE_CNT_LOCK_LOSS l) else s
  let s := ((s.wr (Reg.LANE_STAT_LOCKED l) 0).wr (Reg.LANE_STAT_LOS l) 1).wr (Reg.LANE_STAT_CDR_LOCK l) 0
  ((s.wr (Reg.LANE_STAT_BLOCK_LOCK l) 0).wr (Reg.LANE_STAT_UP l) 0).wr (Reg.LANE_STAT_USE l) 0

/-- The uses of a route's links (R188, R216): an end that is not used is powered down. -/
def State.useEnds (s : State) (n : Nat) : State :=
  [false, true].foldl (fun t ret =>
    if t.ownEnd ret then t.wr (Reg.LANE_STAT_USE (linkOf n ret)) (if ret then 2 else 1) else t.powerDown (linkOf n ret)) s

/-- The uses of the pair links (R216). -/
def State.usePair (s : State) : State :=
  [48, 49].foldl (fun t l => if t.paired then t.wr (Reg.LANE_STAT_USE l) 3 else t.powerDown l) s

/-- A serving end of the route's on this module is neither locked nor recorded DOWN: step 1 of R193 waits for it. -/
def State.awaitsEnd (s : State) (n : Nat) (ret : Bool) : Bool :=
  s.ownEnd ret && !(s.endLocked n ret) && !(if ret then (s.route n).downRet else (s.route n).downOut)

/-- Step 1 of a quiet training ends where it waits for no end; the stages of steps 2 to 6 count from here (R193). -/
def State.endStep1 (s : State) (n : Nat) : State :=
  let r := s.route n
  if r.quiet && r.since.isNone && !(s.awaitsEnd n false) && !(s.awaitsEnd n true) then s.setRoute n { r with since := some 0 } else s

/-- No hop of the route is served (R193, R247). -/
def State.noReach (s : State) (n : Nat) : State :=
  if s.reach n false = 0 ∧ s.reach n true = 0 ∧ !(s.flag (Reg.ROUTE_RUN_CLOSED n)) then s
  else (((s.wr (Reg.ROUTE_RUN_REACH_OUT n) 0).wr (Reg.ROUTE_RUN_REACH_RET n) 0).wr (Reg.ROUTE_RUN_CLOSED n) 0).wr
    (Reg.ROUTE_RUN_CHANGE_STAGE n) s.stage32

/-- Quiet training starts on an enabled route (R193): TRAIN frames only, no cell served until it ends. -/
def State.startQuiet (s : State) (n : Nat) : State :=
  if !(s.routeOn n) then s
  else
    let s := (s.setRoute n { training := some false, turn := (s.route n).turn }).useEnds n
    ((s.wr (Reg.ROUTE_STAT_STATE n) 2).noReach n).endStep1 n

/-- Live training starts on an enabled route, with step 2 (R199): what is served stays served. An end recorded DOWN stays so until it locks. -/
def State.startLive (s : State) (n : Nat) : State :=
  if !(s.routeOn n) then s
  else
    let r := s.route n
    (s.setRoute n { r with training := some true, since := some 0, hopsOut := [], hopsRet := [], crossOut := false, crossRet := false,
                           partner := false, downOut := r.downOut && !(s.endLocked n false),
                           downRet := r.downRet && !(s.endLocked n true) }).useEnds n

/-- The training that the station state calls for (R198). -/
def State.startTraining (s : State) (n : Nat) : State := if s.switching then s.startLive n else s.startQuiet n

/-- QUIET_TRAINING (R193). -/
def execQuietTraining (n : Fin 24) (s : State) : Res := onRun s (fun s => if s.switching then s else s.startQuiet n)

/-- LIVE_TRAINING (R199). -/
def execLiveTraining (n : Fin 24) (s : State) : Res :=
  onRun s (fun s => if s.switching && !(s.route n).quiet then s.startLive n else s)

/-! ### Detectors (R214) -/

/-- Notes that an end is down: in this training, or until it locks again. -/
def RouteRun.down (r : RouteRun) (ret : Bool) (b : Bool) : RouteRun :=
  if ret then { r with downRet := b } else { r with downOut := b }

/-- PLL_LANE leaves its pair link: it holds its last frequency, whose distance from its own is free (log entry 2), and ramps back (R75). -/
def State.leaveLaneRef (s : State) : State :=
  let w := s.takeFree
  ({ w.2 with clk := { w.2.clk with laneBack := some (toSigned 18 w.1.toNat * 1000) } }).wr Reg.CLK_LANE_REF_SOURCE 3

/-- LOCKED clears: UP with it, counted, and a training in progress starts again (R200, R214). On a pair link that gives PLL_LANE its
reference, the reference returns to XIN once neither link is locked (R75, R95). -/
def State.lockLost (s : State) (l : Nat) : State :=
  if !(s.flag (Reg.LANE_STAT_LOCKED l)) then s
  else
    let s := ((s.wr (Reg.LANE_STAT_LOCKED l) 0).wr (Reg.LANE_STAT_UP l) 0).see (Reg.LANE_STAT_LOL_SEEN l)
    let s := s.inc (Reg.LANE_CNT_LOCK_LOSS l)
    if l < 48 then
      let n := l / 2
      let r := s.route n
      match r.training with
      | some false => s.startQuiet n
      | some true => s.startLive n
      | none => if s.routeOn n then s.setRoute n (r.down (l % 2 == 1) true) else s
    else
      let src := s.rd Reg.CLK_LANE_REF_SOURCE
      if src = 1 ∧ l = 48 ∨ src = 2 ∧ l = 49 then
        let other := if l = 48 then 49 else 48
        if s.flag (Reg.LANE_STAT_LOCKED other) then s.wr Reg.CLK_LANE_REF_SOURCE (3 - src) else s.leaveLaneRef
      else s

/-- LINK_LOS (R214). -/
def execLinkLos (l : Fin 50) (s : State) : Res :=
  onRun s (fun s => ((s.wr (Reg.LANE_STAT_LOS l) 1).see (Reg.LANE_STAT_LOS_SEEN l)).lockLost l)

/-- LINK_BLOCK_LOCK_LOSS (R213, R214). The invalid blocks are counted. -/
def execLinkBlockLockLoss (l : Fin 50) (invalid : BitVec 16) (s : State) : Res :=
  onRun s (fun s => ((s.inc (Reg.LANE_CNT_HEADER_ERR l) invalid.toNat).wr (Reg.LANE_STAT_BLOCK_LOCK l) 0).lockLost l)

/-- An end of an enabled route has locked (R193, R198): it trains where it had been down, and step 1 of a training waits for it no longer. -/
def State.endLocks (s : State) (n : Nat) (ret wasDown : Bool) : State :=
  let s := s.setRoute n ((s.route n).down ret false)
  if wasDown || ((s.route n).training.isNone && s.rd (Reg.ROUTE_STAT_STATE n) == 1) then s.startTraining n else s.endStep1 n

/-- LINK_LOCKED (R214). An end of an enabled route that locks after having been down trains (R198). -/
def execLinkLocked (l : Fin 50) (s : State) : Res :=
  onRun s (fun s =>
    let s := (((s.wr (Reg.LANE_STAT_LOS l) 0).wr (Reg.LANE_STAT_CDR_LOCK l) 1).wr (Reg.LANE_STAT_BLOCK_LOCK l) 1).wr
      (Reg.LANE_STAT_LOCKED l) 1
    let n := l.val / 2
    let ret := l.val % 2 == 1
    if l.val < 48 ∧ s.routeOn n ∧ s.ownEnd ret then s.endLocks n ret (if ret then (s.route n).downRet else (s.route n).downOut) else s)

/-- What the partner tells of the locks of its ends (R198, R200, R463): one that has locked after its route's step 1 trains it, as one does that
has lost its lock while the route trains. -/
def State.partnerLocks (s : State) (mask : Nat) : State :=
  let old := s.link.partnerLocked
  let s := { s with link := { s.link with partnerLocked := mask } }
  s.routes.foldl (fun t n =>
    let was := old / 2 ^ n % 2 == 1
    let now := mask / 2 ^ n % 2 == 1
    let r := t.route n
    if !t.paired || was == now then t
    else if now then (if r.quiet && r.since.isNone then t else t.startTraining n)
    else if r.training.isSome then t.startTraining n else t) s

/-- LINK_UP (R214). -/
def execLinkUp (l : Fin 50) (s : State) : Res :=
  onRun s (fun s => if s.flag (Reg.LANE_STAT_LOCKED l) then s.wr (Reg.LANE_STAT_UP l) 1 else s)

/-- TRAINING_LOCK_TIMEOUT (R193). An end has not locked in the 4,000 stages of step 1 and is recorded DOWN. -/
def execTrainingLockTimeout (l : Fin 48) (s : State) : Res :=
  onRun s (fun s =>
    let n := l.val / 2
    let ret := l.val % 2 == 1
    let r := s.route n
    if r.training.isSome && r.since.isNone && decide (4000 ≤ r.waitN + 1) && s.ownEnd ret && !(s.flag (Reg.LANE_STAT_LOCKED l)) then (s.setRoute n (r.down ret true)).endStep1 n else s)

/-! ### The steps of a training (R193, R199) -/

/-- For how many stages step 4 sends each marker, the first time and again where its echo is missing, and the stages since step 1 in which step 5 and
step 6 begin. R193 gives those of a quiet training; R199 gives a live one 128 stages in all, which the model lets step 4 fill (DESIGN CHOICE, log entry
70). -/
def markerStages (live : Bool) : Nat := if live then 7 else 2
def delaysFrom (live : Bool) : Nat := if live then 123 else 41
def reportFrom (live : Bool) : Nat := delaysFrom live + 4

/-- The TRAIN_OP of the frames in a stage of a training (R193, R240): ENUMERATE in step 2, DELAYS in step 5. -/
def RouteRun.op (r : RouteRun) : Nat :=
  match r.training, r.since with
  | some live, some k => if k < 8 then 1 else if delaysFrom live ≤ k ∧ k < reportFrom live then 2 else 0
  | _, _ => 0

/-- The marker number of a stage of step 4, and whether only the markers go whose echo is missing. -/
def RouteRun.marker (r : RouteRun) : Option (Nat × Bool) :=
  match r.training, r.since with
  | some live, some k =>
    let m := (k - 9) / markerStages live
    if 9 ≤ k ∧ k < delaysFrom live then some (min 15 m, decide ((k - 9) % markerStages live ≠ 0 ∨ 15 < m)) else none
  | _, _ => none

/-- The hops found from an end. -/
def RouteRun.hops (r : RouteRun) (ret : Bool) : List HopSeen := if ret then r.hopsRet else r.hopsOut
def RouteRun.setHops (r : RouteRun) (ret : Bool) (l : List HopSeen) : RouteRun :=
  if ret then { r with hopsRet := l } else { r with hopsOut := l }

/-- The index at a position counted from an end. -/
def State.cellAt (s : State) (n p : Nat) (ret : Bool) : Nat := s.firstOf n + (if ret then s.cellsOn n - 1 - p else p)

/-- A hop that answers: the serial it reported is that of its index (R197). -/
def State.matches (s : State) (c : Nat) (x : HopSeen) : Bool :=
  x.serial == s.rd (Reg.CELL_ID_SERIAL_HI c) * 2 ^ 32 + s.rd (Reg.CELL_ID_SERIAL_LO c)

/-- The MARKER blocks of an end in a stage (step 4 of R193, R241), one to each answering hop. They stand between the bursts, so that every echo meets
IDLE; which block each takes is the implementation's (log entry 70). -/
def State.markers (s : State) (n : Nat) (ret : Bool) : List Block :=
  match (s.route n).marker with
  | none => []
  | some (m, again) =>
    let hops := (s.route n).hops ret
    let due (p : Nat) (x : HopSeen) : Bool := s.matches (s.cellAt n p ret) x && !(again && x.echoes.any (fun e => e.1 == m))
    (hops.mapIdx (fun p x => if due p x then [markerBlock p ret m] else [])).flatten

/-! ### What comes back -/

/-- The ENUMERATE slots of an end (R240): the longest run of hops that any of the frames of step 2 shows. Slots whose code fails are counted at the
receiver they come to. -/
def State.heardSlots (s : State) (n : Nat) (ret : Bool) (l : Nat) (area : List Byte) : State :=
  let r := s.route n
  let found := readSlots ret 32 0 area
  let s := s.inc (Reg.LANE_CNT_CRC_ERR l) (badSlots ret area)
  if r.training.isSome && r.since.any (fun k => decide (k ≤ 8)) && decide ((r.hops ret).length < found.length) then s.setRoute n (r.setHops ret found)
  else s

/-- A frame that its own end has sent has come to the other end's receiver with good codes (R196, R247). -/
def RouteRun.crossed (r : RouteRun) (ret : Bool) : RouteRun :=
  let r := { r with back := true }
  if r.since.any (fun k => decide (k ≤ 8)) then (if ret then { r with crossRet := true } else { r with crossOut := true }) else r

/-- A TRAIN frame or a closed ring's route frame at the receiver of an end: its invalid blocks and its codes are counted, and what its cells have
written in it is read (R213, R217, R240, R242). -/
def State.heardBurst (s : State) (n : Nat) (ret : Bool) (b : List Byte) (invalid : Nat) : State :=
  let l := linkOf n ret
  let s := s.inc (Reg.LANE_CNT_HEADER_ERR l) invalid
  let sender := beAt b 1 1 / 32 % 2 == 1
  let live := beAt b 1 1 / 8 % 2 == 1
  let train := beAt b 0 1 == 3
  let covered := if train then 32 else 32 + 32 * beAt b 5 1 + beAt b 10 2
  let tail := if train then 544 else covered
  if !(s.ownEnd ret) || !(s.flag (Reg.LANE_STAT_LOCKED l)) || sender == ret then s
  else if !(headGood b) then s.inc (Reg.LANE_CNT_CRC_ERR l)
  else
    let s := if beAt b tail 4 = crc32c (frameSeed (beAt b 2 2) n (if sender then 1 else 0)) (b.take covered) then s.setRoute n ((s.route n).crossed sender)
      else s.inc (Reg.LANE_CNT_CRC_ERR l)
    if beAt b 26 1 ≠ 1 then s
    else if train then s.heardSlots n sender l ((b.drop 32).take 512)
    else if live then s.heardSlots n sender l ((b.drop (tail + 8)).take 512) else s

/-- An ECHO block at an end: the round trip of the marker that it names (R241). Only the first echo of a marker counts. -/
def State.heardEcho (s : State) (n : Nat) (ret : Bool) (block : List Byte) (trip : Nat) : State :=
  let r := s.route n
  match readEcho block with
  | some (p, e, m) =>
    if e = (if ret then 1 else 0) ∧ m < 16 then
      s.setRoute n (r.setHops ret ((r.hops ret).modify p (fun x =>
        if x.echoes.any (fun q => q.1 == m) then x else { x with echoes := x.echoes ++ [(m, trip)] })))
    else s
  | none => s

/-- What the partner tells of its end (R196). The spec gives no record that carries it (log entry 70). -/
def State.heardPartner (s : State) (n : Nat) (closed : Bool) (hops : List HopReport) : State :=
  let seen := hops.map (fun x => ({ serial := x.serial.toNat, turn := x.turnaround.toNat, told := some x.delay.toNat } : HopSeen))
  if s.paired && (s.route n).training.isSome then s.setRoute n { ((s.route n).setHops (!s.second) seen) with partner := closed } else s

/-- What has come on the routes' links beside the ledger trains. -/
def State.hear (s : State) : LinkIn → State
  | .burst n ret b k => s.heardBurst n ret b k.toNat
  | .slots n ret area => if s.ownEnd ret then s.heardSlots n ret (linkOf n ret) area else s
  | .echo n ret b t => if s.ownEnd ret then s.heardEcho n ret b t.toNat else s
  | .partner n closed hops => s.heardPartner n closed hops

/-! ### What a training finds -/

/-- A hop's one-way delay (R194): half of the mean round trip less the turnaround, to the nearest unit; what the partner has told of it, from its
end; none where no marker has been echoed. -/
def HopSeen.delay (x : HopSeen) : Option Nat :=
  match x.told with
  | some d => if d = 0xFFFF then none else some d
  | none =>
    let k := x.echoes.length
    let sum := (x.echoes.map (fun e => e.2)).sum
    if k = 0 then none else some (min 0xFFFE ((((sum : Int) - k * x.turn + k) / (2 * k)).toNat))

/-- The longest delay that R195 allows, 2.0 µs. -/
def delayLimit : Nat := 25600

/-- The route state of a training but for its delays (R196). -/
def finding (locked : Nat) (closed : Bool) (i j cells : Nat) : Finding :=
  if locked = 0 then .down
  else if closed then (if i = cells ∧ j = cells then .ready else .hopCount)
  else if i + j ≤ cells then .degraded
  else .hopCount

/-- The codes of ROUTE_STAT (R206). -/
def Finding.state : Finding → Nat
  | .ready => 3 | .degraded => 4 | .down => 1 | .hopCount => 5 | .tooLong => 5

def Finding.cause : Finding → Nat
  | .hopCount => 1 | .tooLong => 2 | _ => 0

/-- A route in which cells are served. -/
def Finding.good (f : Finding) : Bool := f == .ready || f == .degraded

/-- What one end has found of a hop: the outbound end counts hops from 0, the return end from the last. -/
def hopOf (l : List HopSeen) (cells h : Nat) (ret : Bool) : Option HopSeen := if ret then l[cells - 1 - h]? else l[h]?
def RouteRun.hopAt (r : RouteRun) (cells h : Nat) (ret : Bool) : Option HopSeen := hopOf (r.hops ret) cells h ret

/-- The ring counts as closed (R196, R242): frames of both ends have come through, as far as each module sees it; in a live training, those of the
closed ring that the route runs on. -/
def State.ringClosed (s : State) (n : Nat) (live : Bool) : Bool :=
  let r := s.route n
  let cross (ret : Bool) : Bool := if ret then r.crossRet else r.crossOut
  let seen (ret : Bool) : Bool := if s.ownEnd (!ret) then cross ret else r.partner
  s.endLocked n false && s.endLocked n true && (if live then s.flag (Reg.ROUTE_RUN_CLOSED n) && seen s.closedRet else seen false && seen true)

/-- The hops seen from the two ends (R196); on a closed ring in a live training what its end sees counts for both (R242). -/
def State.hopCounts (s : State) (n : Nat) (live : Bool) : Nat × Nat :=
  let r := s.route n
  let far := live && s.ringClosed n live
  let i := if far && s.closedRet then r.hopsRet.length else r.hopsOut.length
  let j := if far && !s.closedRet then r.hopsOut.length else r.hopsRet.length
  (i, j)

/-- The serials of one hop are compared (R197): a hop whose serial differs is refused, with a notice. -/
def State.compareHop (s : State) (n h : Nat) (good : Bool) : State :=
  let r := s.route n
  let c := s.firstOf n + h
  let found := (r.hopAt (s.cellsOn n) h false).orElse (fun _ => r.hopAt (s.cellsOn n) h true)
  match found with
  | none => s.wr (Reg.CELL_LINK_MISMATCH c) 0
  | some x =>
    if !good || s.matches c x then s.wr (Reg.CELL_LINK_MISMATCH c) 0
    else
      let s := (s.wr (Reg.CELL_LINK_MISMATCH c) 1).wr (Reg.CELL_LINK_FOUND_SERIAL_HI c) (x.serial / 2 ^ 32)
      (s.wr (Reg.CELL_LINK_FOUND_SERIAL_LO c) (x.serial % 2 ^ 32)).raise Code.CELL_SERIAL_MISMATCH .f0 (subj 1 c) (beBytes 8 x.serial)

/-- Step 3 of R193: the ring state and the hop count are decided, and the serials compared. A live training that serves no cell of a refused route
leaves what was served (R199). -/
def State.decideRoute (s : State) (n : Nat) (live : Bool) : State :=
  let locked := ([false, true].filter (fun ret => s.endLocked n ret)).length
  let (i, j) := s.hopCounts n live
  let f := finding locked (s.ringClosed n live) i j (s.cellsOn n)
  let s := s.setRoute n { s.route n with judged := f }
  if live && !f.good then s else (List.range (s.cellsOn n)).foldl (fun t h => t.compareHop n h f.good) s

/-- A delay that an end has found for a hop: 0xFFFF where it has not measured one. In a live training an end measures only the hops that it serves
(R242): of one that the other end serves its delay stays in force (R199; log entry 70). -/
def State.newDelay (s : State) (n h : Nat) (live ret : Bool) (f : Fld) : Nat :=
  let c := s.firstOf n + h
  match (s.route n).hopAt (s.cellsOn n) h ret with
  | some x => if s.matches c x then x.delay.getD 0xFFFF else 0xFFFF
  | none => if live && s.servedFrom n h == some (!ret) then s.rd f else 0xFFFF

/-- Step 5 of R193: the delays are computed and checked (R194, R195). Delays that are in force stay so where a live training refuses the route. -/
def State.delayRoute (s : State) (n : Nat) (live : Bool) : State :=
  let r := s.route n
  let hops := List.range (s.cellsOn n)
  let d (h : Nat) : Nat × Nat :=
    (s.newDelay n h live false (Reg.CELL_LINK_DELAY_OUT (s.firstOf n + h)), s.newDelay n h live true (Reg.CELL_LINK_DELAY_RET (s.firstOf n + h)))
  let far (x : Nat) : Bool := decide (delayLimit < x ∧ x ≠ 0xFFFF)
  let long := hops.any (fun h => far (d h).1 || far (d h).2)
  let s := if r.judged.good && long then s.setRoute n { r with judged := .tooLong } else s
  if live && (long || !r.judged.good) then s
  else hops.foldl (fun t h =>
    (t.wr (Reg.CELL_LINK_DELAY_OUT (s.firstOf n + h)) (d h).1).wr (Reg.CELL_LINK_DELAY_RET (s.firstOf n + h)) (d h).2) s

/-- A training's stage ends. -/
def State.tickTraining (s : State) (n : Nat) : State :=
  let r := s.route n
  match r.training, r.since with
  | some live, some k =>
    let s := s.setRoute n { r with since := some (min (k + 1) (reportFrom live)) }
    if k = 8 then s.decideRoute n live else if k + 1 = delaysFrom live then s.delayRoute n live else s
  | some _, none => s.setRoute n { r with waitN := min 4000 (r.waitN + 1) }
  | none, _ => s

/-- Writes where a hop was reached from, and whether it answers (R197, R210). -/
def State.foundHop (s : State) (n h : Nat) (good : Bool) : State :=
  let r := s.route n
  let c := s.firstOf n + h
  let out := r.hopAt (s.cellsOn n) h false
  let ret := r.hopAt (s.cellsOn n) h true
  let reached := (if out.isSome then 1 else 0) + (if ret.isSome then 2 else 0)
  let s := (s.wr (Reg.CELL_LINK_REACHED_FROM c) reached).wrB (Reg.CELL_LINK_ABSENT c) (reached == 0)
  s.wrB (Reg.CELL_LINK_ANSWERING c) (good && (out.orElse (fun _ => ret)).any (s.matches c))

/-- A cell's service state after its route has trained (R197, R199, R345, R349, R602). In a live training the slots of a cell that goes rest at
MANUAL 0 (R342). -/
def State.serviceOfHop (s : State) (c : Nat) (live : Bool) : State :=
  let st := s.svc c
  let r := s.cell c
  let rest (t : State) : State := if live then t.slotsManual (cellSlots c) else t
  if s.flag (Reg.CELL_LINK_ANSWERING c) then
    let s := s.setCell c { r with known := true }
    if st = Svc.UNFITTED ∨ st = Svc.ABSENT ∨ st = Svc.REFUSED then
      if !r.known && !live then (s.setSvc c Svc.SPARE).wr (Reg.CELL_SVC_CAUSE c) 0 else s.setSvc c Svc.ABSENT
    else s
  else if st = Svc.FAULTED ∨ st = Svc.BYPASSING then s
  else if s.flag (Reg.CELL_LINK_MISMATCH c) then
    rest (((s.setSvc c Svc.REFUSED).wr (Reg.CELL_SVC_CAUSE c) 0x0A).wr (Reg.CELL_SVC_FOR_VALID c) 0)
  else if live && s.active c then s
  else rest ((s.setSvc c Svc.ABSENT).wr (Reg.CELL_SVC_FOR_VALID c) 0)

/-- Serves a route as its training found it (R196, R220, R245): an end of the porter's serves only under a permit. -/
def State.serve (s : State) (n : Nat) (f : Finding) (i j : Nat) : State :=
  let cells := s.cellsOn n
  let may (ret : Bool) : Bool := !s.paired || (ret == s.closedRet) || s.rd Reg.PAIR_PERMIT_PERMIT / 2 ^ n % 2 == 1
  let (o, r, c) := match f with
    | .ready => if s.closedRet then (0, cells, 1) else (cells, 0, 1)
    | .degraded => (if may false then i else 0, if may true then j else 0, 0)
    | _ => (0, 0, 0)
  (((s.wr (Reg.ROUTE_RUN_REACH_OUT n) o).wr (Reg.ROUTE_RUN_REACH_RET n) r).wr (Reg.ROUTE_RUN_CLOSED n) c).wr
    (Reg.ROUTE_RUN_CHANGE_STAGE n) s.stage32

/-- Ends a ROUTE_TRAIN once none of its routes trains (R201). -/
def State.endTrainOf (i : Fin 4) (s : State) (b : BusyCmd) : State :=
  match b.op with
  | .train mask =>
    let sel := (List.range 24).filter (fun n => mask / 2 ^ n % 2 == 1)
    if sel.any (fun n => (s.route n).training.isSome) then s
    else
      let bits (p : Nat → Bool) : Nat := (sel.filter p).foldl (fun m n => m + 2 ^ n) 0
      let good := bits (fun n => s.rd (Reg.ROUTE_STAT_STATE n) == 3)
      let bad := bits (fun n => s.rd (Reg.ROUTE_STAT_STATE n) != 3)
      s.endBusy i (.train mask) (if bad = 0 then Status.OK else Status.TEST_FAILED) (beBytes 4 good ++ beBytes 4 bad)
  | _ => s

/-- That of every session. -/
def State.endTrainTest (s : State) : State :=
  ([0, 1, 2, 3] : List (Fin 4)).foldl (fun t i => (t.sess i).ops.foldl (State.endTrainOf i) t) s

/-- What a training of a route leaves (step 6 of R193; R196 to R199). One that finds no end locked leaves no cell served, a live one too. -/
def State.trained (s : State) (n : Nat) (live : Bool) : State :=
  let r := s.route n
  let f := r.judged
  let (i, j) := s.hopCounts n live
  let s := ((s.wr (Reg.ROUTE_STAT_HOPS_OUT n) i).wr (Reg.ROUTE_STAT_HOPS_RET n) j).wrB (Reg.ROUTE_STAT_RING_CLOSED n) (s.ringClosed n live)
  let s := (s.wr (Reg.ROUTE_STAT_REFUSE_CAUSE n) f.cause).inc (Reg.ROUTE_STAT_TRAIN_COUNT n)
  let s := s.wr (Reg.ROUTE_STAT_TRAINED_STAGE n) s.stage32
  let hops := List.range (s.cellsOn n)
  let s :=
    if live && !f.good && f != .down then s
    else
      let s := hops.foldl (fun t h => (t.foundHop n h f.good).serviceOfHop (s.firstOf n + h) live) s
      let s := s.wr (Reg.ROUTE_STAT_MISMATCH n) (hops.filter (fun h => s.flag (Reg.CELL_LINK_MISMATCH (s.firstOf n + h)))).length
      let s := s.wr (Reg.ROUTE_STAT_STATE n) f.state
      let s := if live then s else hops.foldl (fun t h =>
        t.setCell (s.firstOf n + h) { t.cell (s.firstOf n + h) with heard := false, miss := 0, away := 0 }) s
      if live && f != .down then s else s.serve n f i j
  let s := s.setRoute n { s.route n with training := none, since := none, trainOut := none, trainRet := none, whole := 0,
                                         downOut := !(s.endLocked n false), downRet := !(s.endLocked n true) }
  let s := s.event Ev.ROUTE_TRAINED (subj 2 n) (beBytes 4 (s.word (0x04000400 + 16 * n)).toNat)
  (s.arms.foldl State.rerank s).endTrainTest

/-- TRAINING_COMPLETE (R196). Step 6 of a training has come; before it, what the ends and the partner have had. -/
def execTrainingComplete (n : Fin 24) (partner outbound return_ : List LinkIn) (s : State) : Res :=
  onRun s (fun s =>
    let s := (partner ++ outbound ++ return_).foldl State.hear s
    match (s.route n).training, (s.route n).since with
    | some live, some k => if reportFrom live ≤ k then s.trained n live else s
    | _, _ => s)

/-- The action of ROUTE_TRAIN (R201). -/
def actRouteTrain (param : Word) : Action := fun s =>
  let p := param.toNat
  if 2 ^ 24 ≤ p ∨ (List.range 24).any (fun n => p / 2 ^ n % 2 == 1 && !(s.routeOn n)) then s.no Status.VALUE_OUT_OF_RANGE
  else if s.switching then s.no Status.BUSY_RUNNING
  else
    let t := (List.range 24).foldl (fun t n => if p / 2 ^ n % 2 == 1 then t.startQuiet n else t) s
    if p = 0 then t.ok (beBytes 8 0) else t.wait (.train p) s.stage

/-- ROUTE_TRAIN (R201). -/
def execRouteTrain (r : Req) (param : Word) (s : State) : Res :=
  execVerb s r Verb.TEST 0 false (.routeTrain r param) (actRouteTrain param)

end Sys2Proof.Machine
end

