-- ==== Sys2Proof/Machine/Link.lean ====
section
/-! DEFINITION. The stage on a route: ledger trains and the ledger cut (R226 to R234), parcels (R235 to R239), the waybill cut with ring
reversal and relay permits (R243 to R247, R275, R476), the launch of route frames (R220 to R224), and the link tests (R248, R249). -/

namespace Sys2Proof.Machine

open Sys2Proof

/-! ### Ledger trains -/

/-- The seed of a ledger's check code (R228). -/
def ledgerSeed (seq n h : Nat) : Nat := seq % 65536 ^^^ (n * 256) ^^^ h ^^^ 0xFFFF

/-- A slot's 32 bytes in a ledger train (R226). -/
def slotOf (train : List Byte) (h : Nat) : List Byte := (train.drop (32 + 32 * h)).take 32

/-- Whether a ledger's check code holds (R227, R228). -/
def ledgerGood (train : List Byte) (n h : Nat) : Bool :=
  let b := slotOf train h
  b.length == 32 && beAt b 30 2 == crc16 (ledgerSeed (beAt train 2 2) n h) (b.take 30)

/-- The upstream slots of a train: the hop each belongs to, and its 256 bytes (R236). -/
def upstream (train : List Byte) (cells : Nat) : List (Nat × List Byte) :=
  let m := min 3 cells
  (List.range m).map (fun k => ((beAt train 2 2 * m + k) % cells, (train.drop (32 + 32 * cells + 256 * k)).take 256))

/-- An upstream chunk's check code holds (R228, R236). -/
def chunkGood (seq n h : Nat) (b : List Byte) : Bool :=
  b.length == 256 && beAt b 252 4 == crc32c (frameSeed seq n (0x40 + h)) (b.take 252)

/-- An answer chunk of a cell (R237, R238): taken where it is the transfer's own at the next offset. -/
def State.answerChunk (s : State) (c : Nat) (b : List Byte) : State :=
  match assocGet s.link.parcels c with
  | none => s
  | some p =>
    let kind := beAt b 1 1
    let len := beAt b 6 2
    if beAt b 2 2 ≠ p.tag then s
    else if kind / 32 % 2 = 1 then s.endParcel c Status.PARCEL_NAK []
    else if beAt b 4 2 ≠ p.answer.length ∨ 244 < len then s
    else
      let answer := p.answer ++ (b.drop 8).take len
      if 1392 < answer.length then s.endParcel c Status.PARCEL_NAK []
      else
        let s := { s with link := { s.link with parcels := assocInsert (assocErase s.link.parcels c) c { p with answer := answer } } }
        let s := (s.wr (Reg.CELL_PARCEL_STATE c) 3).wr (Reg.CELL_PARCEL_UP_DONE c) answer.length
        if kind / 64 % 2 = 1 then
          let r := s.cell c
          (s.setCell c { r with ackLeft := 8, wb := { r.wb with ack := 0x8000 + answer.length } }).endParcel c Status.OK answer
        else s

/-- LEDGER_TRAIN_RECEIVED (R226). A train at a serving end's receiver: its check codes are counted, its slots wait for the ledger cut, and
its answer chunks are taken. One that comes after the cut counts as LATE. -/
def execLedgerTrainReceived (n : Fin 24) (ret : Bool) (bytes : List Byte) (invalid : BitVec 16) (s : State) : Res :=
  onRun s (fun s =>
    let l := linkOf n ret
    let s := s.inc (Reg.LANE_CNT_HEADER_ERR l) invalid.toNat
    let cells := s.cellsOn n
    if !(s.routeOn n) || !(s.ownEnd ret) || !(s.flag (Reg.LANE_STAT_LOCKED l)) || (s.route n).quiet then s
    else if s.link.cutAt = some s.stage then s.inc (Reg.LANE_CNT_LATE l)
    else if !(headGood bytes) then s.inc (Reg.LANE_CNT_CRC_ERR l)
    else
      let bad := ((List.range cells).filter (fun h => !(allZero (slotOf bytes h)) && !(ledgerGood bytes n h))).length
      let ups := (upstream bytes cells).filter (fun p => !(allZero p.2))
      let badUp := (ups.filter (fun p => !(chunkGood (beAt bytes 2 2) n p.1 p.2))).length
      let s := s.inc (Reg.LANE_CNT_CRC_ERR l) (bad + badUp)
      let r := s.route n
      let s := s.setRoute n (if ret then { r with trainRet := some bytes } else { r with trainOut := some bytes })
      ups.foldl (fun t p => if chunkGood (beAt bytes 2 2) n p.1 p.2 then t.answerChunk (s.firstOf n + p.1) p.2 else t) s)

/-! ### The ledger cut -/

/-- The stage in force at the cells at the sample instant of stage k (R233). -/
def State.sampleStage (s : State) (k : Nat) : Int := (k : Int) + 1 - ((680 + s.ts - 1) / s.ts : Nat)

/-- A ledger's STATUS (R233): 0 FRESH, 1 HOLDING, 2 FALLEN_BACK, 3 STALE. -/
def ledgerStatus (e : Int) (echo state hold : Nat) : Nat :=
  let d := toSigned 16 (ofSigned 16 (e - (echo : Int)))
  if d < 0 ∨ 1024 < d then 3 else if state / 16 = 3 then 2 else if d = 0 then 0 else if d ≤ (hold : Int) then 1 else 2

/-- No ledger, or one that is not used: only the status and the count change (R233, R234). -/
def State.noLedger (s : State) (c status : Nat) : State :=
  let r := s.cell c
  let s := s.setCell c { r with miss := if status = 4 then r.miss + 1 else 0, clean := 0, raw := if status = 4 then [] else r.raw }
  (s.wr (Reg.CELL_LEDGER_STATUS c) status).inc (Reg.CELL_LEDGER_MISSING c)

/-- The transfer's side of a ledger's PARCEL field (R227, R237). -/
def State.parcelField (s : State) (c field : Nat) : State :=
  match assocGet s.link.parcels c with
  | none => s
  | some p =>
    let ack := field / 8192 % 4
    let dn := field % 2048
    let put (p : Parcel) (s : State) : State :=
      { s with link := { s.link with parcels := assocInsert (assocErase s.link.parcels c) c p } }
    if p.due then s
    else if ack = 2 then s.endParcel c Status.PARCEL_NAK []
    else if p.got then s
    else if ack = 3 then (if p.busy then s else put { p with busy := true, busyAt := s.stage } s)
    else if ack = 1 ∧ dn = p.done + min 248 (p.body.length - p.done) then
      let last := decide (dn = p.body.length)
      let s := (put { p with done := dn, got := last, due := !last, busy := false } s).wr (Reg.CELL_PARCEL_DN_DONE c) dn
      if last && p.answer == [] then s.wr (Reg.CELL_PARCEL_STATE c) 2 else s
    else s

/-- Takes a ledger of 32 bytes for a cell (R233, R234): its words into CELL_LEDGER where it is used, its status, and what hangs on a used
ledger: the thermal machine (R572), the parcel and the runs that R243 and R349 count. -/
def State.takeLedger (s : State) (c : Nat) (copy : Bool) (e : Int) (b : List Byte) : State :=
  let status := ledgerStatus e (beAt b 14 2) (beAt b 20 1) (s.rd Reg.LANE_GLOBAL_HOLD)
  let s := s.setCell c { s.cell c with raw := b }
  if status = 3 then (s.noLedger c 3).wrB (Reg.CELL_LEDGER_COPY c) copy
  else
    let base := 0x05000020 + 0x100 * c
    let s := (List.range 4).foldl (fun t k => t.setWord (base + 4 * k) (wordAt b (4 * k))) s
    let s := s.setWord (base + 0x10) (wordAt b 16)
    let s := s.setWord (base + 0x14) (wordAt b 20)
    let s := (s.wr (Reg.CELL_LEDGER_STATUS c) status).wrB (Reg.CELL_LEDGER_COPY c) copy
    let s := s.cellThermal c
    let r := s.cell c
    let clear := decide (s.tripOf c / 128 = 0)
    let s := s.setCell c { r with heard := true, miss := 0, away := 0, clean := if clear then min 200 (r.clean + 1) else 0 }
    s.parcelField c (beAt b 22 2)

/-- A hop at the ledger cut of stage k (R233). Where no slot of its has come by the cut, it is missing and counts as LATE (R218). -/
def State.cutHop (s : State) (n k h : Nat) : State :=
  let c := s.firstOf n + h
  let r := s.route n
  let good (t : Option (List Byte)) : Option (List Byte) :=
    match t with
    | some b => if ledgerGood b n h && beAt b 2 2 == k % 65536 then some (slotOf b h) else none
    | none => none
  match s.servedFrom n h with
  | none =>
    let x := s.cell c
    let s := (s.setCell c { x with away := x.away + 1 }).noLedger c 4
    if 8 ≤ x.away + 1 then s.endParcel c Status.CELL_ABSENT [] else s
  | some ret =>
    if !(s.ownEnd ret) then s
    else
      let first := if ret then r.trainRet else r.trainOut
      let second := if ret then r.trainOut else r.trainRet
      let s := if first.isNone then s.inc (Reg.LANE_CNT_LATE (linkOf n ret)) else s
      match good first, good second with
      | some b, _ => s.takeLedger c false (s.sampleStage k) b
      | none, some b => s.takeLedger c true (s.sampleStage k) b
      | none, none => s.noLedger c 4

/-- A route that a training has left in service: READY or DEGRADED, or served still (R196, R199). -/
def State.inUse (s : State) (n : Nat) : Bool :=
  s.routeOn n && !(s.route n).quiet && (s.rd (Reg.ROUTE_STAT_STATE n) == 3 || s.rd (Reg.ROUTE_STAT_STATE n) == 4)

/-- The ledger cut of one route, with the return of its closed ring's last frame to the far end (R247). -/
def State.cutRoute (s : State) (k n : Nat) : State :=
  let s := (List.range (s.cellsOn n)).foldl (fun t h => t.cutHop n k h) s
  let r := s.route n
  let s := if r.awaits && !r.back then s.inc (Reg.ROUTE_RUN_RETURN_MISS n) else s
  s.setRoute n { r with trainOut := none, trainRet := none, back := false,
                        awaits := s.inUse n && s.flag (Reg.ROUTE_RUN_CLOSED n) && s.ownEnd (!s.closedRet) }

/-- LEDGER_CUT (R233). `heard`: what else has come on the routes' links in the stage. A porter takes only what its own ends serve; the rest of its set is
the keeper's (R463, R476). -/
def execLedgerCut (heard : List LinkIn) (s : State) : Res :=
  onRun s (fun s =>
    if s.link.cutAt = some s.stage then s
    else
      let k := s.stage
      let s := heard.foldl State.hear s
      let s := s.routes.foldl (fun t n => t.cutRoute k n) s
      { s with link := { s.link with cutAt := some k } })

/-! ### The waybill cut -/

/-- The O_LOCK and R_LOCK that a hop reported in its latest ledger (R227). -/
def State.oLock (s : State) (c : Nat) : Bool := s.rd (Reg.CELL_LEDGER_LINK c) / 128 % 2 == 1
def State.rLock (s : State) (c : Nat) : Bool := s.rd (Reg.CELL_LEDGER_LINK c) / 64 % 2 == 1

/-- A hop gives ledgers. -/
def State.gives (s : State) (c : Nat) : Bool := decide ((s.cell c).heard ∧ (s.cell c).miss = 0)

/-- The hop at which the silence of all hops up to an end's reach begins (the last row of R243), for an end and a hop served from it. -/
def State.silentFrom (s : State) (n h : Nat) (ret : Bool) : Bool :=
  let first := s.firstOf n
  let cells := s.cellsOn n
  let reach := s.reach n ret
  let beyond := if ret then (List.range cells).filter (fun x => decide (cells - reach ≤ x ∧ x ≤ h))
    else (List.range reach).filter (fun x => decide (h ≤ x))
  let isFirst := if ret then h + 1 == cells else h == 0
  let neighbour := if ret then h + 1 else h - 1
  s.servedFrom n h == some ret && beyond.all (fun x => decide (2 ≤ (s.cell (first + x)).miss))
    && (if isFirst then s.endLocked n ret else s.gives (first + neighbour))

/-- Whether segment g of a route counts as broken (R243). -/
def State.broken (s : State) (n g : Nat) : Bool :=
  let cells := s.cellsOn n
  let c := s.firstOf n + g
  (decide (g < cells) && (s.cell c).heard && !(s.oLock c))
    || (decide (0 < g) && (s.cell (c - 1)).heard && !(s.rLock (c - 1)))
    || (g == 0 && !(s.endLocked n false)) || (g == cells && !(s.endLocked n true))
    || (decide (g < cells) && (s.silentFrom n g false || s.silentFrom n g true))
    || (decide (0 < g) && (s.silentFrom n (g - 1) false || s.silentFrom n (g - 1) true))

/-- Gives the relay permit of a route (R476): the keeper, its own end not locked, the porter in step. -/
def State.permit (s : State) (n : Nat) : State :=
  let own := s.second
  let p := s.rd Reg.PAIR_PERMIT_PERMIT
  if s.paired && s.duo.role == 1 && s.duo.inStep && !(s.endLocked n own) && p / 2 ^ n % 2 == 0 then
    ((s.wr Reg.PAIR_PERMIT_PERMIT (p + 2 ^ n)).wr (Reg.ROUTE_RUN_RELAY n) 1).event Ev.RELAY_PERMIT (subj 2 n)
  else s

/-- Withdraws the relay permit of a route. -/
def State.unpermit (s : State) (n : Nat) : State :=
  let p := s.rd Reg.PAIR_PERMIT_PERMIT
  if p / 2 ^ n % 2 = 1 then (s.wr Reg.PAIR_PERMIT_PERMIT (p - 2 ^ n)).wr (Reg.ROUTE_RUN_RELAY n) 0 else s

/-- Sets the reaches, journalling a change (R244, R247). -/
def State.setReach (s : State) (n out ret : Nat) : State :=
  if s.reach n false = out ∧ s.reach n true = ret ∧ !(s.flag (Reg.ROUTE_RUN_CLOSED n)) then s
  else
    let s := ((s.wr (Reg.ROUTE_RUN_REACH_OUT n) out).wr (Reg.ROUTE_RUN_REACH_RET n) ret).wr (Reg.ROUTE_RUN_CLOSED n) 0
    let s := (s.wr (Reg.ROUTE_RUN_CHANGE_STAGE n) s.stage32).inc (Reg.ROUTE_RUN_SPLIT_COUNT n)
    s.event Ev.ROUTE_SPLIT (subj 2 n) (beBytes 1 out ++ beBytes 1 ret)

/-- Closes a split route (R246). -/
def State.closeRoute (s : State) (n : Nat) : State :=
  let cells := s.cellsOn n
  let s := (s.wr (Reg.ROUTE_RUN_REACH_OUT n) (if s.closedRet then 0 else cells)).wr (Reg.ROUTE_RUN_REACH_RET n)
    (if s.closedRet then cells else 0)
  let s := ((s.wr (Reg.ROUTE_RUN_CLOSED n) 1).wr (Reg.ROUTE_RUN_CHANGE_STAGE n) s.stage32).inc (Reg.ROUTE_RUN_CLOSE_COUNT n)
  (s.unpermit n).event Ev.ROUTE_CLOSED (subj 2 n)

/-- Every hop of a route has a delay from the end that serves it when closed (R246). -/
def State.closable (s : State) (n : Nat) : Bool :=
  (List.range (s.cellsOn n)).all (fun h =>
    let c := s.firstOf n + h
    s.rd (if s.closedRet then Reg.CELL_LINK_DELAY_RET c else Reg.CELL_LINK_DELAY_OUT c) != 0xFFFF)

/-- A route's reach at a waybill cut (R243 to R246). -/
def State.judgeRoute (s : State) (n : Nat) : State :=
  let cells := s.cellsOn n
  let bad := (List.range (cells + 1)).filter (fun g => s.broken n g)
  match bad.head?, bad.getLast? with
  | some lo, some hi =>
    let s := s.permit n
    let may (ret : Bool) : Bool := !s.paired || ret == s.closedRet || s.rd Reg.PAIR_PERMIT_PERMIT / 2 ^ n % 2 == 1
    let r := s.route n
    (s.setRoute n { r with whole := 0 }).setReach n (if may false then lo else 0) (if may true then cells - hi else 0)
  | _, _ =>
    if s.flag (Reg.ROUTE_RUN_CLOSED n) then s
    else
      let r := s.route n
      let whole := r.whole + s.tsNs
      if msNs (s.rd Reg.LANE_GLOBAL_MERGE_MS) ≤ whole ∧ s.closable n then (s.setRoute n { r with whole := 0 }).closeRoute n
      else s.setRoute n { r with whole := whole }

/-- The safe state of R275: its cause, the drive stage's outputs off, and its fault. -/
def State.safeState (s : State) (cause code : Nat) (subject : Nat := 0) : State :=
  let s := if s.flag Reg.MOD_STAT_SAFE then s else (s.wr Reg.MOD_STAT_SAFE 1).wr Reg.MOD_STAT_SAFE_CAUSE cause
  let s := s.gatesOff
  ({ s with mod := { s.mod with sent := none } }).raise code .f3 subject

/-- A route whose waybill fields have not been handed over by the cut (R275). -/
def State.missHandover (s : State) (n : Nat) : State :=
  let r := s.route n
  ((s.setRoute n { r with missed := true }).inc Reg.MOD_STAT_MISSED).safeState 4 Code.EDGE_LOST (subj 2 n)

/-- WAYBILL_CUT (R243). -/
def execWaybillCut (s : State) : Res :=
  onRun s (fun s =>
    if s.link.wayAt = some s.stage then s
    else
      let s := (s.routes.filter s.inUse).foldl (fun t n =>
        let t := t.judgeRoute n
        if (t.route n).handed then t else t.missHandover n) s
      { s with link := { s.link with wayAt := some s.stage } })

/-! ### Launching the frames -/

/-- Notes the chunks that a frame carries as sent. -/
def State.chunksSent (s : State) (cells : List Nat) : State :=
  cells.foldl (fun t c =>
    match assocGet t.link.parcels c with
    | some p => { t with link := { t.link with parcels := assocInsert (assocErase t.link.parcels c) c { p with due := false, sentAt := t.stage } } }
    | none => t) s

/-- The waybill that a hop's place in the frame carries: the safe one while the safe state of R275 is in force. -/
def State.waybillOf (s : State) (c : Nat) (missed : Bool) : Waybill :=
  let w := (s.cell c).wb
  let w := match assocGet s.link.parcels c with
    | some p => if p.got || p.answer != [] then { w with ack := 0x8000 + p.answer.length } else w
    | none => w
  if s.flag Reg.MOD_STAT_SAFE || missed then { w.safe with ack := w.ack, ilim := s.rd (Reg.CELL_LEDGER_ILIM_SENT c) } else w

/-- Notes the last waybill sent to a cell (R234), and that its shown UP_OFFSET has gone once more (R237). -/
def State.noteSent (s : State) (c : Nat) (w : Waybill) : State :=
  let s := ((s.wr (Reg.CELL_LEDGER_MODE_SENT c) w.mode).wr (Reg.CELL_LEDGER_BYPASS_SENT c) w.bypass).wr (Reg.CELL_LEDGER_ILIM_SENT c) w.ilim
  let r := s.cell c
  if r.ackLeft = 0 then s
  else s.setCell c { r with ackLeft := r.ackLeft - 1, wb := if r.ackLeft = 1 then { r.wb with ack := 0 } else r.wb }

/-- Sets a cell's legs back where the safe state takes the place of the edges computed for its waybill: no dither position advances (R273). -/
def State.unsent (s : State) (c : Nat) : State :=
  let r := s.cell c
  if r.ran then s.setCell c { r with legs := r.before, ran := false } else s

/-- Inverts the first `n` bits of a list of bytes, most significant first. -/
def flipBits (b : List Byte) (n : Nat) : List Byte :=
  b.mapIdx (fun i x => (List.range 8).foldl (fun y j => if 8 * i + j < n then y ^^^ (BitVec.ofNat 8 (2 ^ (7 - j))) else y) x)

/-- A block corrupted as LINK_INJECT says (R249): its first bit, or its first n bits, inverted; or its sync header at 0b00. -/
def Block.corrupt (b : Block) (kind n : Nat) : Block :=
  match kind with
  | 0 => { b with bytes := flipBits b.bytes 1 }
  | 1 => { b with bytes := flipBits b.bytes n }
  | _ => { b with header := 0 }

/-- The burst of a route frame with the first data block of the waybill that PARAM names corrupted: the blocks are START, four of the head, and four
of each waybill. -/
def corrupt (param : Word) (burst : List Block) : List Block :=
  let p := param.toNat
  burst.modify (5 + 4 * (p / 65536 % 32)) (fun b => b.corrupt (p / 64 % 4) (p / 256 % 128))

/-- FLAGS of a route frame (R222): STEER by the grant, or for a porter by the permit (R245, R460). -/
def State.frameFlags (s : State) (n : Nat) (ret : Bool) : Nat :=
  let steer := if s.serves then s.duo.grant else s.rd Reg.PAIR_PERMIT_PERMIT / 2 ^ n % 2 == 1
  (if steer then 128 else 0) + (if s.stopToken then 64 else 0) + (if ret then 32 else 0) + (if s.flag (Reg.ROUTE_RUN_CLOSED n) then 16 else 0)
    + (if (s.route n).training == some true then 8 else 0)

/-- A serving end sends its route frame (R220, R223), with the training area of a live training after its tail (R242). -/
def State.sendFrame (s : State) (n : Nat) (ret : Bool) (waybills : List Byte) : State :=
  let seq := s.stage + 1
  let live := (s.route n).training == some true
  let op := if live then (s.route n).op else 0
  let served (h : Nat) : Bool := s.servedFrom n h == some ret
  let hops := hopsAfter (s.cellsOn n) (s.route n).turn
  let (chunks, cells, turn) := takeChunks s.link.parcels (s.firstOf n) served hops (s.parcelRoom n live) [] [] (s.route n).turn
  let last := lastHeader s.link.parcels (s.firstOf n) served hops
  let area := if chunks = [] ∧ last = none then [] else chunks ++ (last.map (fun p => p.1)).getD (List.replicate 8 0)
  let head := s.headBytes n { type := 1, flags := s.frameFlags n ret, seq := seq, reach := s.reach n ret, len := area.length, op := op }
  let covered := head ++ waybills ++ area
  let body := covered ++ tailBytes seq n ret covered ++ (if live then s.trainingArea n op ret else [])
  let l := linkOf n ret
  let r := s.route n
  let s := (s.setRoute n { r with turn := turn }).chunksSent (cells ++ (last.map (fun p => p.2)).toList)
  match s.link.inject.find? (fun j => !j.done && j.param.toNat % 64 == l) with
  | some j =>
    let done (x : Inject) : Inject := if x.param.toNat % 64 = l then { x with done := true } else x
    ({ s with link := { s.link with inject := s.link.inject.map done } }).put (.burst l (corrupt j.param (burstOf 1 body)))
  | none => s.put (.burst l (burstOf 1 body))

/-- The MARKER blocks of an end in a stage. -/
def State.sendMarkers (s : State) (n : Nat) (ret : Bool) : State :=
  let m := s.markers n ret
  if m = [] then s else s.put (.gap (linkOf n ret) m)

/-- The launch of one route at B − 100 ns (R218, R220, R240 to R242). -/
def State.launchRoute (s : State) (n : Nat) : State :=
  let ends := [false, true].filter (fun ret => s.ownEnd ret && s.endLocked n ret)
  let s := ends.foldl (fun t ret => t.sendMarkers n ret) s
  if (s.route n).quiet then
    ends.foldl (fun t ret => t.put (.burst (linkOf n ret) (burstOf 3 (t.trainFrame n (s.route n).op ret)))) s
  else if !(s.inUse n) then s
  else
    let r := s.route n
    let list := (List.range (s.cellsOn n)).map (fun h => (s.firstOf n + h, s.waybillOf (s.firstOf n + h) r.missed))
    let waybills := (list.mapIdx (fun h p => p.2.bytes (s.stage + 1) n h)).flatten
    let s := (ends.filter (fun ret => decide (0 < s.reach n ret))).foldl (fun t ret => t.sendFrame n ret waybills) s
    let s := list.foldl (fun t p => t.noteSent p.1 p.2) s
    let s := if s.flag Reg.MOD_STAT_SAFE && r.handed then list.foldl (fun t p => t.unsent p.1) s else s
    let r := s.route n
    s.setRoute n { r with handed := false, missed := false }

/-- What the frames of the stage put into the output digest (R469): every waybill's first 30 bytes, and FLAGS, REACH and SEQ of every head,
which are those of the keeper's end on both modules (log entry 31). -/
def State.frameDigest (s : State) : List Byte :=
  let on := s.routes.filter s.inUse
  let cells := (on.map (fun n => (List.range (s.cellsOn n)).map (fun h => (s.waybillOf (s.firstOf n + h) (s.route n).missed).body))).flatten
  let ret := s.closedRet
  let head (n : Nat) : List Byte :=
    beBytes 1 (s.frameFlags n ret % 128 + 128) ++ beBytes 1 (s.reach n ret) ++ beBytes 2 (s.stage + 1)
  cells.flatten ++ (on.map head).flatten

/-- ROUTE_FRAME_LAUNCH (R220). -/
def execRouteFrameLaunch (s : State) : Res :=
  onRun s (fun s =>
    let s := { s with link := { s.link with stopSent := s.stopToken, digest := if s.paired then s.frameDigest else [] } }
    s.routes.foldl State.launchRoute s)

/-! ### Parcels -/

/-- The action of PARCEL (R168, R237, R238). -/
def actParcel (cell : BitVec 16) (fromCell : Byte) (body : List Byte) : Action := fun s =>
  let c := cell.toNat
  if 1 < fromCell.toNat ∨ 1392 < body.length then s.no Status.VALUE_OUT_OF_RANGE
  else if s.rd Reg.ROUTE_TABLE_TOTAL_CELLS ≤ c ∨ !(s.answering c) then s.no Status.CELL_ABSENT
  else if (assocGet s.link.parcels c).isSome then s.no Status.RESOURCE_BUSY
  else
    let tag := s.link.nextTag
    let p : Parcel := { tag := tag, fromCell := fromCell == 1, body := body, since := s.timeOf 1 }
    let t := { s with link := { s.link with parcels := assocInsert s.link.parcels c p, nextTag := (tag + 1) % 65536 } }
    let t := ((t.wr (Reg.CELL_PARCEL_STATE c) (if body = [] then 2 else 1)).wr (Reg.CELL_PARCEL_TAG c) tag).wr (Reg.CELL_PARCEL_DN_DONE c) 0
    let r := t.cell c
    ((t.wr (Reg.CELL_PARCEL_UP_DONE c) 0).setCell c { r with away := 0, ackLeft := 0, wb := { r.wb with ack := 0 } }).wait (.parcel c) s.stage

/-- PARCEL (R237). -/
def execParcel (r : Req) (cell : BitVec 16) (fromCell : Byte) (body : List Byte) (s : State) : Res :=
  execVerb s r Verb.PARCEL 0 false (.parcel r cell fromCell body) (actParcel cell fromCell body)

/-- PARCEL_CHUNK_RESEND (R237). 6 stages after it was sent the last chunk goes again. -/
def execParcelChunkResend (cell : Fin 512) (s : State) : Res :=
  onRun s (fun s =>
    match assocGet s.link.parcels cell with
    | some p =>
      if p.due || p.busy || p.got || decide (s.stage < p.sentAt + 6) then s
      else ({ s with link := { s.link with parcels := assocInsert (assocErase s.link.parcels cell) cell { p with due := true } } }).inc
        (Reg.CELL_PARCEL_RESEND_COUNT cell)
    | none => s)

/-- PARCEL_BUSY_RETRY (R237). 6 stages after BUSY the FIRST chunk goes again. -/
def execParcelBusyRetry (cell : Fin 512) (s : State) : Res :=
  onRun s (fun s =>
    match assocGet s.link.parcels cell with
    | some p =>
      if p.busy && decide (p.busyAt + 6 ≤ s.stage) then
        let p' : Parcel := { p with due := true, busy := false, done := 0 }
        ({ s with link := { s.link with parcels := assocInsert (assocErase s.link.parcels cell) cell p' } }).inc (Reg.CELL_PARCEL_RESEND_COUNT cell)
      else s
    | none => s)

/-- PARCEL_TIMEOUT (R238). 8 ms after the command became eligible. -/
def execParcelTimeout (cell : Fin 512) (s : State) : Res :=
  onRun s (fun s =>
    if (assocGet s.link.parcels cell).any (fun p => s.passed p.since 8000000) then s.endParcel cell Status.PARCEL_TIMEOUT [] else s)

/-! ### Link tests -/

/-- A monitor command's final line: .OK with its data, or .ERR with its status (R583). -/
def State.monOk (s : State) (data : List Byte) : State :=
  s.monPut (ascii ".OK" ++ (if data = [] then [] else ascii " " ++ data))
def State.monErr (s : State) (status : Nat) : State := s.monPut (ascii ".ERR " ++ statusName status)

/-- The refusal of LINK_PRBS, if it is refused (R175, R248). -/
def State.prbsRefusal (s : State) (param : Word) : Option Nat :=
  let p := param.toNat
  let l := p % 64
  if 49 < l ∨ p / 256 % 256 ≠ 0 ∨ p / 65536 = 0 ∨ 9900 < p / 65536 then some Status.VALUE_OUT_OF_RANGE
  else if s.switching && (if l < 48 then s.routeOn (l / 2) else s.paired) then some Status.BUSY_RUNNING
  else if s.link.prbs.any (fun q => q.1 == l) then some Status.RESOURCE_BUSY
  else none

/-- Starts a pattern test: USE reads 0x4, and the route's end is down. -/
def State.startPrbs (s : State) (param : Word) (byMon : Bool) : State :=
  let l := param.toNat % 64
  let end_ := s.timeOf 1 + param.toNat / 65536 * 1000000 * 65536
  let s := ({ s with link := { s.link with
    prbs := s.link.prbs ++ [(l, byMon)]
    prbsEnd := assocInsert (assocErase s.link.prbsEnd l) l end_ } }).wr (Reg.LANE_STAT_USE l) 4
  if l < 48 ∧ s.routeOn (l / 2) then s.setRoute (l / 2) ((s.route (l / 2)).down (l % 2 == 1) true) else s

/-- The action of LINK_PRBS. -/
def actLinkPrbs (param : Word) : Action := fun s =>
  match s.prbsRefusal param with
  | some st => s.no st
  | none => (s.startPrbs param false).wait (.prbs (param.toNat % 64)) s.stage

/-- LINK_PRBS (R248). -/
def execLinkPrbs (r : Req) (param : Word) (s : State) : Res :=
  execVerb s r Verb.TEST 0 false (.linkPrbs r param) (actLinkPrbs param)

/-- The use of a link when no test runs on it (R216). -/
def State.usualUse (s : State) (l : Nat) : Nat :=
  if l < 48 then (if s.routeOn (l / 2) && s.ownEnd (l % 2 == 1) then 1 + l % 2 else 0) else if s.paired then 3 else 0

/-- A pattern test ends: the link returns to its use. -/
def State.endPrbs (s : State) (l : Nat) : State :=
  ({ s with link := { s.link with
    prbs := s.link.prbs.filter (fun q => q.1 != l)
    prbsEnd := assocErase s.link.prbsEnd l } }).wr (Reg.LANE_STAT_USE l) (s.usualUse l)

/-- The end of a link's pattern test on MONO. -/
def State.prbsEnds (s : State) (l : Nat) : Nat := (assocGet s.link.prbsEnd l).getD 0

/-- PRBS_TEST_END (R248). The duration of a link's test is over: the result of a link's test is replied. -/
def execPrbsTestEnd (l : Fin 50) (count : BitCount) (locked : Bool) (s : State) : Res :=
  onRun s (fun s =>
    match assocGet s.link.prbs l with
    | none => s
    | some byMon =>
      if !(s.reached (s.prbsEnds l)) then s
      else
      let s := s.endPrbs l
      let result := beBytes 8 count.bits.toNat ++ beBytes 4 count.errors.toNat ++ beBytes 1 (if locked then 1 else 0) ++ [0, 0, 0]
      let status := if count.errors ≠ 0 ∨ !locked then Status.TEST_FAILED else Status.OK
      if byMon then (if status = Status.OK then s.monOk (hexText result) else s.monErr status)
      else match s.findOp (fun o => o == .prbs l) with
        | some i => s.endBusy i (.prbs l) status result
        | none => s)

/-- The refusal of LINK_INJECT, if it is refused (R175, R249). -/
def State.injectRefusal (s : State) (param : Word) : Option Nat :=
  let p := param.toNat
  let l := p % 64
  let kind := p / 64 % 4
  let n := p / 256 % 128
  let route := l / 2
  if 47 < l ∨ 2 < kind ∨ (kind = 1 ∧ (n < 2 ∨ 64 < n)) ∨ p / 32768 % 2 = 1 ∨ 2 ^ 21 ≤ p ∨ s.cellsOn route ≤ p / 65536 % 32 then
    some Status.VALUE_OUT_OF_RANGE
  else if !(s.routeOn route) || !(s.ownEnd (l % 2 == 1)) || s.reach route (l % 2 == 1) == 0 then some Status.VALUE_OUT_OF_RANGE
  else if s.switching then some Status.BUSY_RUNNING
  else if s.link.inject.any (fun j => j.param.toNat % 64 == l) then some Status.RESOURCE_BUSY
  else none

/-- The receiver at the far end of a closed ring, on this module. -/
def State.farLink (s : State) (l : Nat) : Option Nat :=
  if s.flag (Reg.ROUTE_RUN_CLOSED (l / 2)) && !s.paired then some (if l % 2 = 0 then l + 1 else l - 1) else none

/-- CRC_ERR at that receiver. -/
def State.farErrors (s : State) (l : Nat) : Nat := match s.farLink l with | some f => s.rd (Reg.LANE_CNT_CRC_ERR f) | none => 0

/-- Starts LINK_INJECT. -/
def State.startInject (s : State) (param : Word) (byMon : Bool) : State :=
  { s with link := { s.link with inject := s.link.inject ++ [{ param := param, crc0 := s.farErrors (param.toNat % 64), byMon := byMon }] } }

/-- The action of LINK_INJECT. -/
def actLinkInject (param : Word) : Action := fun s =>
  match s.injectRefusal param with
  | some st => s.no st
  | none => (s.startInject param false).wait (.inject (param.toNat % 64)) s.stage

/-- LINK_INJECT (R249). -/
def execLinkInject (r : Req) (param : Word) (s : State) : Res :=
  execVerb s r Verb.TEST 0 false (.linkInject r param) (actLinkInject param)

/-- LINK_INJECT completes after 8 stages (R249): the rise of CRC_ERR at the far end, and whether a frame has been corrupted. -/
def State.endInject (s : State) (j : Inject) : State :=
  let l := j.param.toNat % 64
  let rise := s.farErrors l - j.crc0
  let result := beBytes 4 rise ++ beBytes 1 (if j.done then 1 else 0)
  if j.byMon then s.monOk (hexText result)
  else match s.findOp (fun o => o == .inject l) with
    | some i => s.endBusy i (.inject l) Status.OK result
    | none => s

/-- One more stage of every LINK_INJECT. -/
def State.tickInject (s : State) : State :=
  let on := (s.link.inject.filter (fun j => decide (1 < j.left))).map (fun j => { j with left := j.left - 1 })
  (s.link.inject.filter (fun j => decide (j.left ≤ 1))).foldl State.endInject { s with link := { s.link with inject := on } }

end Sys2Proof.Machine
end

