-- ==== Sys2Proof/Machine/LoopLaw.lean ====
section
/-! DEFINITION. The arithmetic of a loop slot: binary32 operations that fail where a result is not finite (R298), the law (R299, R302,
R303, R305, R310), the choice of the region (R306), and one evaluation from its inputs (R307 to R312). -/

namespace Sys2Proof.Machine

open Sys2Proof

/-! ### binary32 (R298) -/

/-- An exact result rounded; none where it is not finite. -/
def fRound (q : Rat) (negZero : Bool) : Option Word :=
  let w := f32OfRat q negZero
  if f32Finite w then some w else none

def fAdd (a b : Word) : Option Word :=
  if f32Finite a && f32Finite b then fRound (f32Rat a + f32Rat b) (f32Sign a && f32Sign b) else none

def fNeg (a : Word) : Word := a ^^^ 0x80000000

def fSub (a b : Word) : Option Word := fAdd a (fNeg b)

def fMul (a b : Word) : Option Word :=
  if f32Finite a && f32Finite b then fRound (f32Rat a * f32Rat b) (f32Sign a != f32Sign b) else none

def fDiv (a b : Word) : Option Word :=
  if f32Finite a && f32Finite b && f32Rat b != 0 then fRound (f32Rat a / f32Rat b) (f32Sign a != f32Sign b) else none

/-- Order of two finite patterns by value. -/
def fLt (a b : Word) : Bool := decide (f32Rat a < f32Rat b)

/-- A value held to the output limits (R299): min(OUT_HI, max(OUT_LO, v)). -/
def fClamp (lo hi v : Word) : Word :=
  let m := if fLt v lo then lo else v
  if fLt hi m then hi else m

/-- The stage period in seconds as the engine forms it (R298). -/
def stageH (ts : Nat) : Option Word := fMul (f32OfRat (ts : Rat)) (f32OfRat (1 / 100000000))

/-! ### A slot's configuration and inputs -/

/-- What an evaluation needs of LOOP_SLOT_CFG and LOOP_REGION (R292, R293). -/
structure SlotCfg where
  dOnMeas : Bool
  noisy   : Bool
  schedEn : Bool
  outHi   : Word
  outLo   : Word
  fbOut   : Word
  iPreset : Word
  maxAge  : Nat
  hold    : Nat
  freezeN : Nat
  nReg    : Nat
  hyst    : Word
  bounds  : List Word
  kp      : Nat → Word
  ki      : Nat → Word
  kd      : Nat → Word
  tf      : Nat → Word

/-- One latched input: its value, whether it is a new sample, and its raw code (R291). -/
structure Sample where
  value : Word
  new   : Bool
  raw   : Word
  deriving DecidableEq, Repr

/-- What the last evaluation stored (R295). -/
structure SlotMem where
  out     : Word
  i       : Word
  d       : Word
  y       : Word
  state   : Nat
  region  : Nat
  heldCnt : Nat
  lastRaw : Word
  freeze  : Nat
  fallen  : Bool
  satHi   : Bool
  satLo   : Bool
  deriving DecidableEq, Repr

/-- What is latched for one evaluation beside the configuration. -/
structure SlotIn where
  pv    : Sample
  sp    : Sample
  ff    : Sample
  sched : Sample
  /-- MODE reads AUTO. -/
  auto  : Bool
  manOut : Word
  h     : Option Word
  extHi : Bool
  extLo : Bool
  plant : Bool

/-- What an evaluation leaves. -/
structure SlotOut where
  mem     : SlotMem
  run     : SlotRun
  warming : Bool
  inhibit : Bool
  aged    : Bool
  lost    : Bool
  frozen  : Bool
  numeric : Bool
  age     : Nat
  /-- The slot has fallen back in this evaluation. -/
  fell    : Bool
  deriving DecidableEq, Repr

/-! ### The region (R306) -/

/-- The region at a first evaluation: the number of bounds at or below x, none for a NaN. -/
def firstRegion (c : SlotCfg) (x : Word) : Nat :=
  ((c.bounds.take c.nReg).filter (fun b => !(f32NaN x) && !(fLt x b))).length

/-- Moves up while x is at or above the next bound plus H. -/
def regionUp (c : SlotCfg) (x : Word) : Nat → Nat → Nat
  | 0, r => r
  | n + 1, r =>
    if r < c.nReg then
      match fAdd (c.bounds.getD r 0) c.hyst with
      | some b => if fLt x b then r else regionUp c x n (r + 1)
      | none => r
    else r

/-- Moves down while x is below the bound less H. -/
def regionDown (c : SlotCfg) (x : Word) : Nat → Nat → Nat
  | 0, r => r
  | _ + 1, 0 => 0
  | n + 1, r + 1 =>
    match fSub (c.bounds.getD r 0) c.hyst with
    | some b => if fLt x b then regionDown c x n r else r + 1
    | none => r + 1

/-- The region of an evaluation: at a first one from the latched value, a new sample or not, then from the fresh one. -/
def regionOf (c : SlotCfg) (first fresh : Bool) (latched x : Word) (old : Nat) : Nat :=
  if !c.schedEn then 0
  else if first then firstRegion c latched
  else if fresh then regionDown c x 8 (regionUp c x 8 old)
  else old

/-! ### The law (R299) -/

/-- What the law computes before the integration: e, P, y and D. -/
structure Terms where
  e : Word
  p : Word
  y : Word
  d : Word
  deriving DecidableEq, Repr

/-- P, y and D of R299; D starts anew at 0 where `dNew`. -/
def terms (c : SlotCfg) (r : Nat) (h pv sp : Word) (m : SlotMem) (dNew : Bool) : Option Terms := do
  let e ← fSub sp pv
  let p ← fMul (c.kp r) e
  let y := if c.dOnMeas then fNeg pv else e
  if dNew then pure ⟨e, p, y, 0⟩
  else do
    let a ← fMul (c.tf r) m.d
    let dy ← fSub y m.y
    let b ← fMul (c.kd r) dy
    let n ← fAdd a b
    let den ← fAdd (c.tf r) h
    let d ← fDiv n den
    pure ⟨e, p, y, d⟩

/-- D and y alone, as MANUAL needs them (R302). -/
def manualTerms (c : SlotCfg) (r : Nat) (h pv sp : Word) (m : SlotMem) (dNew : Bool) : Option (Word × Word) := do
  let e ← fSub sp pv
  let y := if c.dOnMeas then fNeg pv else e
  if dNew then pure (0, y)
  else do
    let a ← fMul (c.tf r) m.d
    let dy ← fSub y m.y
    let b ← fMul (c.kd r) dy
    let n ← fAdd a b
    let den ← fAdd (c.tf r) h
    let d ← fDiv n den
    pure (d, y)

/-- (((P + I) + D) + FF). -/
def sumOf (p i d ff : Word) : Option Word := do
  let a ← fAdd p i
  let b ← fAdd a d
  fAdd b ff

/-- AUTO (R299): the output, I, and whether the integration was withheld. -/
def autoLaw (c : SlotCfg) (r : Nat) (h ff : Word) (m : SlotMem) (t : Terms) (extHi extLo plant : Bool) :
    Option (Word × Word × Bool) := do
  let kh ← fMul (c.ki r) h
  let dI ← fMul kh t.e
  let i1 ← fAdd m.i dI
  let v ← sumOf t.p i1 t.d ff
  let hiS := fLt c.outHi v || extHi
  let loS := fLt v c.outLo || extLo
  let stop := (hiS && fLt 0 dI) || (loS && fLt dI 0) || plant
  let i := if stop then m.i else i1
  let u ← sumOf t.p i t.d ff
  pure (fClamp c.outLo c.outHi u, i, stop)

/-- A bumpless transfer (R303, R310): I such that the output stays. -/
def bumpless (out ff : Word) (t : Terms) : Option Word := do
  let a ← fSub out t.p
  let b ← fSub a t.d
  fSub b ff

/-! ### Ages (R307) -/

/-- An input's age after an evaluation. -/
def nextAge (x : Sample) (age : Nat) : Nat := if x.new then 0 else min 256 (age + 1)

/-- The value an evaluation uses: the new sample's, or the last one's. -/
def pick (x : Sample) (last : Word) : Word := if x.new then x.value else last

/-! ### One evaluation -/

/-- The OUT limit flags (R299). -/
def SlotMem.sat (m : SlotMem) (c : SlotCfg) (x : SlotIn) : SlotMem :=
  { m with satHi := (f32Rat m.out == f32Rat c.outHi) || x.extHi, satLo := (f32Rat m.out == f32Rat c.outLo) || x.extLo }

/-- How an evaluation goes (R302 to R310). -/
inductive Course where
  | manual | hold | fall | first | transfer | resume | auto
  deriving DecidableEq, Repr

/-- Which course an evaluation takes, by its mode, the state before it and whether an input is lost. -/
def courseOf (c : SlotCfg) (m : SlotMem) (auto first lost : Bool) : Course :=
  if !auto then .manual
  else if m.state = 2 ∧ !first then (if lost then .manual else .transfer)
  else if lost then (if c.hold ≤ (if m.state = 3 then m.heldCnt else 0) then .fall else .hold)
  else if first then .first
  else if m.state = 3 then .resume
  else .auto

/-- What a course stores, for the region in use; none where a result is not finite (R298). -/
def runCourse (c : SlotCfg) (x : SlotIn) (m : SlotMem) (r : Nat) (pv sp ff : Word) (dNew first : Bool) : Course →
    Option (SlotMem × Bool)
  | .manual => do
    let h ← x.h
    let (d, y) ← manualTerms c r h pv sp m (dNew || first)
    let out ← if f32Finite x.manOut then some (fClamp c.outLo c.outHi x.manOut) else none
    pure ({ m with out := out, d := d, y := y, i := if first then c.iPreset else m.i, state := 2,
                   heldCnt := 0 }, false)
  | .first => do
    let h ← x.h
    let t ← terms c r h pv sp m true
    let u ← sumOf t.p c.iPreset t.d ff
    pure ({ m with out := fClamp c.outLo c.outHi u, i := c.iPreset, d := 0, y := t.y, state := 1, heldCnt := 0, fallen := false }, false)
  | .transfer => do
    let h ← x.h
    let t ← terms c r h pv sp m dNew
    let i ← bumpless m.out ff t
    pure ({ m with i := i, d := t.d, y := t.y, state := 1, heldCnt := 0, fallen := false }, false)
  | .resume => do
    let h ← x.h
    let t ← terms c r h pv sp m true
    let i ← bumpless m.out ff t
    pure ({ m with i := i, d := 0, y := t.y, state := 1, heldCnt := 0 }, false)
  | .auto => do
    let h ← x.h
    let t ← terms c r h pv sp m dNew
    let (u, i, stop) ← autoLaw c r h ff m t x.extHi x.extLo x.plant
    pure ({ m with out := u, i := i, d := t.d, y := t.y, state := 1, heldCnt := 0 }, stop)
  | .hold => some ({ m with state := 3, heldCnt := (if m.state = 3 then m.heldCnt else 0) + 1 }, false)
  | .fall => some ({ m with out := fClamp c.outLo c.outHi c.fbOut, state := 2, heldCnt := 0, fallen := true }, false)

/-- One evaluation of a slot from its latched inputs (R298 to R312). -/
def evalSlot (c : SlotCfg) (x : SlotIn) (m : SlotMem) (q : SlotRun) : SlotOut :=
  let freeze := if !c.noisy then 0 else if !x.pv.new then m.freeze
    else if m.freeze ≠ 0 ∧ x.pv.raw = m.lastRaw then min 255 (m.freeze + 1) else 1
  let m := { m with freeze := freeze, lastRaw := if x.pv.new then x.pv.raw else m.lastRaw }
  let frozen := c.noisy && decide (c.freezeN ≤ freeze)
  let q := { q with agePv := nextAge x.pv q.agePv, ageSp := nextAge x.sp q.ageSp, ageFf := nextAge x.ff q.ageFf,
                    ageSc := nextAge x.sched q.ageSc, pv := pick x.pv q.pv, sp := pick x.sp q.sp, ff := pick x.ff q.ff,
                    sched := pick x.sched q.sched }
  let isLost (a : Nat) : Bool := decide (c.maxAge < a)
  let isAged (a : Nat) : Bool := decide (1 ≤ a ∧ a ≤ c.maxAge)
  let lost := isLost q.agePv || frozen || isLost q.ageSp || isLost q.ageFf
  let r := regionOf c q.first (!(isLost q.ageSc)) x.sched.value q.sched m.region
  let course := courseOf c m x.auto q.first lost
  let res := runCourse c x m r q.pv q.sp q.ff q.dNew q.first course
  let numeric := res.isNone
  let after := courseOf c m x.auto q.first true
  let (m', stop) := match res with
    | some p => p
    | none =>
      match (if x.auto && !(m.state == 2 && !q.first) then runCourse c x m r q.pv q.sp q.ff q.dNew q.first after else none) with
      | some p => p
      | none => (m, false)
  let fell := (if numeric then x.auto && !(m.state == 2 && !q.first) && decide (after = .fall) else decide (course = .fall))
  let warm := if q.first ∨ (course = .resume ∧ !numeric) then 2 else q.warm
  { mem := ({ m' with region := if numeric then m.region else r } : SlotMem).sat c x
    run := { q with first := false, dNew := if numeric then q.dNew else false, fin := true, warm := warm - 1 }
    warming := decide (0 < warm), inhibit := stop
    aged := isAged q.agePv || isAged q.ageSp || isAged q.ageFf || (c.schedEn && isAged q.ageSc)
    lost := lost || (c.schedEn && isLost q.ageSc), frozen := frozen, numeric := numeric
    age := min 255 (max q.agePv (max q.ageSp q.ageFf)), fell := fell }

end Sys2Proof.Machine
end

