-- ==== Sys2Proof/Machine/Loop.lean ====
section
/-! DEFINITION. The loop engine's stage (R286 to R318): the order of the slots, the latched inputs, the evaluations with their overruns,
fallbacks and region changes, the check pipe with its votes, and the output set. -/

namespace Sys2Proof.Machine

open Sys2Proof

/-! ### Which slots run -/

/-- The slots whose LOOP_SLOT_CFG.EN is set, in ascending order (R292): EN resets to 0, so a slot's first word must be listed. -/
def State.enabledSlots (s : State) : List Nat :=
  s.regs.filterMap (fun p =>
    if 0x07100000 ≤ p.1 ∧ p.1 < 0x07120000 ∧ p.1 % 64 = 0 ∧ p.2.getLsbD 31 then some ((p.1 - 0x07100000) / 64) else none)

/-- The issue order (R288): by PRIO, then by index. -/
def State.issueOrder (s : State) : List Nat := sortBy (fun n => s.rd (Reg.LOOP_SLOT_CFG_PRIO n)) s.enabledSlots

/-- The loop pipes in service, in order (R286, R320). -/
def State.pipesIn (s : State) : List Nat := (List.range 4).filter (fun i => s.rd Reg.LOOP_STAT_PIPES / 2 ^ i % 2 == 1)

/-- The engine runs on the safe clock (R66, R288). -/
def State.onSafeClock (s : State) : Bool := s.flag Reg.CLK_STAT_SAFE_CLK

/-- The start cycle s (R288). -/
def State.startCycle (s : State) : Nat := if s.onSafeClock then 5 else 6

/-- The LOOP cycles from the latch to the loop deadline: W of R290, less the porter's wait of R466. -/
def State.loopCycles (s : State) : Nat :=
  let w := if s.onSafeClock then s.ts * 4 - 80 else s.ts * 8 - 160
  if s.isKeeper && !s.duo.lag then w
  else
    let tenths := if s.rd Reg.ROUTE_TABLE_TOTAL_CELLS ≤ 256 then 6 else 26
    w - tenths * (if s.onSafeClock then 400 else 800) / 10

/-- The issue places of a stage (R290). -/
def State.issuePlaces (s : State) : Nat := s.pipesIn.length * (s.loopCycles - s.startCycle - 1)

/-! ### The schedule (R288, R316, R317) -/

/-- The issue place of slot j of the order, among places that third evaluations take (ascending). -/
def placeOf (taken : List Nat) (j : Nat) : Nat := taken.foldl (fun p v => if v ≤ p then p + 1 else p) j

/-- The first free place from a cycle on (counted from the start cycle) on a pipe other than one, of p pipes in rotation. -/
def freePlace (taken : List Nat) (cycle p other : Nat) : Nat :=
  ((List.range (2 * p + taken.length + 2)).map (fun k => cycle * p + k)).find? (fun v => v % p != other && !(taken.contains v))
    |>.getD (cycle * p)

/-- A number put into an ascending list. -/
def insertAsc (l : List Nat) (v : Nat) : List Nat := l.filter (fun x => decide (x < v)) ++ v :: l.filter (fun x => decide (v < x))

/-- The check pipe in a stage. -/
structure CheckRun where
  /-- The cycle of its next issue at the earliest, and whether it issues no more. -/
  next    : Nat
  stop    : Bool := false
  checked : List Nat := []
  /-- The places that third evaluations take. -/
  taken   : List Nat
  /-- The mismatches found, each with its loop pipe: those voted on in this stage, and those left to the next one. -/
  voted   : List (CheckMiss × Nat) := []
  later   : List (CheckMiss × Nat) := []
  deriving DecidableEq, Repr

/-- Takes a mismatch found by the recomputation issued at cycle t: its third evaluation is issued at the next issue cycle after that
recomputation's result, or at the next stage's start where none remains before the deadline. -/
def State.checkMiss (s : State) (r : CheckRun) (m : CheckMiss) (j t : Nat) : CheckRun :=
  let p := s.pipesIn.length
  let pipe := s.pipesIn.getD (j % p) 0
  let v := freePlace r.taken (t + 3 - s.startCycle) p (j % p)
  if p = 1 then { r with voted := r.voted ++ [(m, pipe)], stop := true }
  else if s.startCycle + v / p + 2 ≤ s.loopCycles then
    { r with taken := insertAsc r.taken v, voted := r.voted ++ [(m, pipe)], stop := m.vote == 1 }
  else { r with later := r.later ++ [(m, pipe)] }

/-- The check pipe's turn at one slot of the issue order: it waits until the slot's result is ready, passes over one that cannot finish, and
issues nothing whose own result would come after the deadline. -/
def State.checkOne (s : State) (order : List Nat) (misses : List CheckMiss) (most : Nat) (r : CheckRun) (n : Nat) : CheckRun :=
  let p := s.pipesIn.length
  let place := placeOf r.taken (order.idxOf n)
  let ready := s.startCycle + place / p + 2
  let t := max r.next ready
  if r.stop ∨ r.checked.length = most ∨ s.loopCycles < ready then r
  else if s.loopCycles < t + 2 then { r with stop := true }
  else
    let r := { r with next := t + 1, checked := r.checked ++ [n] }
    match misses.find? (fun m => m.slot.val == n) with
    | none => r
    | some m => s.checkMiss r m place t

/-- How many slots may be checked in this stage. -/
def State.checkRoom (s : State) : Nat := if s.loop.selfDue then 2048 else s.rd Reg.LOOP_CFG_CHECK_N

/-- The places that the third evaluations left by the last stage take, ahead of this stage's slots. -/
def State.takenFirst (s : State) : List Nat :=
  let p := s.pipesIn.length
  if p = 1 then []
  else s.loop.votes.foldl (fun l q => insertAsc l (freePlace l 0 p (s.pipesIn.idxOf q.2))) []

/-- What the check pipe does in a stage: it goes through the enabled slots in ascending order from NEXT_SLOT on and around, or from the first one
in a self-check stage. -/
def State.checkRun (s : State) (order : List Nat) (misses : List CheckMiss) : CheckRun :=
  let from_ := if s.loop.selfDue then 0 else s.rd Reg.LOOP_CHECK_NEXT_SLOT
  let on := s.enabledSlots
  let turn := on.filter (fun n => decide (from_ ≤ n)) ++ on.filter (fun n => decide (n < from_))
  let r : CheckRun := { next := s.startCycle + 2, stop := !(s.flag Reg.LOOP_STAT_CHECK_OK) || s.pipesIn.isEmpty, taken := s.takenFirst }
  turn.foldl (s.checkOne order misses s.checkRoom) r

/-! ### Latched inputs (R287, R291) -/

/-- A raw number scaled to engineering units, rounded once to binary32 (R227, R298). -/
def scaled (v : Int) (div : Nat) : Word := f32OfRat ((v : Rat) / (div : Nat))

/-- A sample; a value that is not finite is never new (R291). -/
def sampleOf (value : Word) (new : Bool) (raw : Word) : Sample := { value := value, new := new && f32Finite value, raw := raw }

/-- The raw field of a cell's ledger that a selector names, and its scale (R227, R291). -/
def State.cellField (s : State) (c f : Nat) : Int × Nat × Nat :=
  if f = 0 then (s.rd (Reg.CELL_LEDGER_UDC c), s.rd (Reg.CELL_LEDGER_UDC c), 20)
  else if f = 1 then (s.rdS (Reg.CELL_LEDGER_IAC c), s.rd (Reg.CELL_LEDGER_IAC c), 20)
  else if f = 2 then (s.rdS (Reg.CELL_LEDGER_IDAB c), s.rd (Reg.CELL_LEDGER_IDAB c), 20)
  else if f = 3 then (s.rdS (Reg.CELL_LEDGER_TEMP0 c), s.rd (Reg.CELL_LEDGER_TEMP0 c), 10)
  else if f = 4 then (s.rdS (Reg.CELL_LEDGER_TEMP1 c), s.rd (Reg.CELL_LEDGER_TEMP1 c), 10)
  else (s.rdS (Reg.CELL_LEDGER_TEMP2 c), s.rd (Reg.CELL_LEDGER_TEMP2 c), 10)

/-- The previous stage made a ledger cut, and a measurement handover (R287). -/
def State.cutNow (s : State) : Bool := s.link.cutAt.any (fun k => k + 1 == s.stage)
def State.measNow (s : State) : Bool := s.meas.cutAt.any (fun k => k + 1 == s.stage)

/-- The source that a selector names, as latched (R291). -/
def State.sampleSel (s : State) (sel : Nat) : Sample :=
  let ix := sel % 8192
  match sel / 8192 with
  | 0 => ⟨0, true, 0⟩
  | 1 =>
    let c := ix / 16
    let (v, raw, div) := s.cellField c (ix % 16)
    sampleOf (scaled v div) (usable (s.rd (Reg.CELL_LEDGER_STATUS c)) && s.cutNow) (BitVec.ofNat 32 raw)
  | 2 =>
    let ok := s.flag (Reg.MEAS_RESULT_NEW ix) && !(s.flag (Reg.MEAS_RESULT_SETTLE ix)) && !(s.flag (Reg.MEAS_RESULT_STALE ix))
      && !(s.flag (Reg.MEAS_RESULT_OVR ix))
    sampleOf (BitVec.ofNat 32 (s.rd (Reg.MEAS_RESULT_VALUE ix))) (ok && s.measNow) (BitVec.ofNat 32 (s.rd (Reg.MEAS_RESULT_CODE ix)))
  | 3 =>
    let w := BitVec.ofNat 32 (s.rd (Reg.LOOP_SLOT_STATE_OUT ix))
    let st := s.rd (Reg.LOOP_SLOT_STATE_STATE ix)
    sampleOf w (((assocGet s.loop.slots ix).any (fun q => q.fin)) && (st == 1 || st == 2)) w
  | 4 => let w := coreWord (s.setpoint ix).value; sampleOf w true w
  | _ =>
    match assocGet s.pol.sigs ix with
    | some w => sampleOf w (s.pol.newSigs.contains ix) w
    | none => ⟨0, false, 0⟩

/-- A selector of a cell whose ledger has status FALLEN_BACK (R312). -/
def State.plantLost (s : State) (sel : Nat) : Bool := sel / 8192 == 1 && s.rd (Reg.CELL_LEDGER_STATUS (sel % 8192 / 16)) == 2

/-- A register as a word. -/
def State.rdW (s : State) (f : Fld) : Word := BitVec.ofNat 32 (s.rd f)

/-- A slot's configuration (R292, R293). -/
def State.slotCfg (s : State) (n : Nat) : SlotCfg :=
  { dOnMeas := s.flag (Reg.LOOP_SLOT_CFG_D_ON_MEAS n), noisy := s.flag (Reg.LOOP_SLOT_CFG_NOISY n)
    schedEn := s.flag (Reg.LOOP_SLOT_CFG_SCHED_EN n), outHi := s.rdW (Reg.LOOP_SLOT_CFG_OUT_HI n)
    outLo := s.rdW (Reg.LOOP_SLOT_CFG_OUT_LO n), fbOut := s.rdW (Reg.LOOP_SLOT_CFG_FB_OUT n)
    iPreset := s.rdW (Reg.LOOP_SLOT_CFG_I_PRESET n), maxAge := s.rd (Reg.LOOP_SLOT_CFG_MAX_AGE n)
    hold := s.rd (Reg.LOOP_SLOT_CFG_HOLD n), freezeN := s.rd (Reg.LOOP_SLOT_CFG_FREEZE_N n)
    nReg := s.rd (Reg.LOOP_SLOT_CFG_N_REG n), hyst := s.rdW (Reg.LOOP_SLOT_CFG_SCHED_HYST n)
    bounds := (List.range 7).map (fun i => s.word (0x07100024 + 0x40 * n + 4 * i))
    kp := fun r => s.rdW (Reg.LOOP_REGION_KP n r), ki := fun r => s.rdW (Reg.LOOP_REGION_KI n r)
    kd := fun r => s.rdW (Reg.LOOP_REGION_KD n r), tf := fun r => s.rdW (Reg.LOOP_REGION_TF n r) }

/-- What the slot's last evaluation stored (R295). -/
def State.slotMem (s : State) (n : Nat) : SlotMem :=
  { out := s.rdW (Reg.LOOP_SLOT_STATE_OUT n), i := s.rdW (Reg.LOOP_SLOT_STATE_I n), d := s.rdW (Reg.LOOP_SLOT_STATE_D n)
    y := s.rdW (Reg.LOOP_SLOT_STATE_Y_PREV n), state := s.rd (Reg.LOOP_SLOT_STATE_STATE n)
    region := s.rd (Reg.LOOP_SLOT_STATE_REGION n), heldCnt := s.rd (Reg.LOOP_SLOT_STATE_HELD_CNT n)
    lastRaw := s.rdW (Reg.LOOP_SLOT_STATE_LAST_RAW n), freeze := s.rd (Reg.LOOP_SLOT_STATE_FREEZE_CNT n)
    fallen := s.flag (Reg.LOOP_SLOT_STATE_FALLEN n), satHi := s.flag (Reg.LOOP_SLOT_STATE_SAT_HI n)
    satLo := s.flag (Reg.LOOP_SLOT_STATE_SAT_LO n) }

/-- The modulator's saturation of the slot's destination, and its sign (R300). -/
def State.extOf (s : State) (n : Nat) : Bool × Bool :=
  let kind := s.rd (Reg.LOOP_SLOT_CFG_DEST_KIND n)
  let c := s.rd (Reg.LOOP_SLOT_CFG_DEST_INDEX n)
  let sat := (kind == 1 && s.flag (Reg.MOD_CELL_SAT_AC c)) || (kind == 2 && s.flag (Reg.MOD_CELL_SAT_DAB c))
  let out := f32Rat (s.rdW (Reg.LOOP_SLOT_STATE_OUT n))
  (sat && decide (0 < out), sat && decide (out < 0))

/-- What is latched for slot n (R287). -/
def State.slotIn (s : State) (n : Nat) : SlotIn :=
  let sels := [s.rd (Reg.LOOP_SLOT_CFG_PV_SRC n), s.rd (Reg.LOOP_SLOT_CFG_SP_SRC n), s.rd (Reg.LOOP_SLOT_CFG_FF_SRC n),
               s.rd (Reg.LOOP_SLOT_CFG_SCHED_SRC n)]
  { pv := s.sampleSel (sels.getD 0 0), sp := s.sampleSel (sels.getD 1 0), ff := s.sampleSel (sels.getD 2 0)
    sched := s.sampleSel (sels.getD 3 0), auto := s.rd (Reg.LOOP_SLOT_MODE_MODE n) == 1
    manOut := s.rdW (Reg.LOOP_SLOT_MODE_MAN_OUT n), h := stageH s.ts
    extHi := (s.extOf n).1, extLo := (s.extOf n).2, plant := sels.any s.plantLost }

/-- The run data of a slot; a slot without any has its first evaluation before it (R305). -/
def State.slotRun (s : State) (n : Nat) : SlotRun := (assocGet s.loop.slots n).getD {}

/-- The evaluation of slot n against what is latched in this state. -/
def State.evalOf (s : State) (n : Nat) : SlotOut := evalSlot (s.slotCfg n) (s.slotIn n) (s.slotMem n) (s.slotRun n)

/-! ### Storing results -/

/-- Sets a slot's run data. -/
def State.setSlotRun (s : State) (n : Nat) (q : SlotRun) : State :=
  { s with loop := { s.loop with slots := assocInsert (assocErase s.loop.slots n) n q } }

/-- Writes what an evaluation leaves into the slot's image (R286, R295). -/
def State.storeSlot (s : State) (n : Nat) (plant : Bool) (o : SlotOut) : State :=
  let m := o.mem
  let s := s.setSlotRun n o.run
  let s := (s.wr (Reg.LOOP_SLOT_STATE_OUT n) m.out.toNat).wr (Reg.LOOP_SLOT_STATE_I n) m.i.toNat
  let s := (s.wr (Reg.LOOP_SLOT_STATE_D n) m.d.toNat).wr (Reg.LOOP_SLOT_STATE_Y_PREV n) m.y.toNat
  let s := (s.wr (Reg.LOOP_SLOT_STATE_STATE n) m.state).wrB (Reg.LOOP_SLOT_STATE_FALLEN n) m.fallen
  let s := (s.wrB (Reg.LOOP_SLOT_STATE_WARMING n) o.warming).wrB (Reg.LOOP_SLOT_STATE_OVERRUN n) false
  let s := (s.wrB (Reg.LOOP_SLOT_STATE_SAT_HI n) m.satHi).wrB (Reg.LOOP_SLOT_STATE_SAT_LO n) m.satLo
  let s := (s.wrB (Reg.LOOP_SLOT_STATE_I_INHIBIT n) o.inhibit).wrB (Reg.LOOP_SLOT_STATE_AGED n) o.aged
  let s := (s.wrB (Reg.LOOP_SLOT_STATE_LOST n) (o.lost || o.frozen)).wrB (Reg.LOOP_SLOT_STATE_FROZEN n) o.frozen
  let s := (s.wrB (Reg.LOOP_SLOT_STATE_PLANT_LOST n) plant).wrB (Reg.LOOP_SLOT_STATE_NUMERIC n) o.numeric
  let s := (s.wr (Reg.LOOP_SLOT_STATE_REGION n) m.region).wr (Reg.LOOP_SLOT_STATE_HELD_CNT n) m.heldCnt
  let s := (s.wr (Reg.LOOP_SLOT_STATE_INPUT_AGE n) o.age).wr (Reg.LOOP_SLOT_STATE_LAST_RAW n) m.lastRaw.toNat
  (s.wr (Reg.LOOP_SLOT_STATE_FREEZE_CNT n) m.freeze).wr (Reg.LOOP_SLOT_STATE_EVAL_STAGE n) s.stage32

/-- The fault of a fallback to its owner (R311); slot 1072 is the bus loop (R337). -/
def State.fallbackFault (s : State) (n : Nat) : State :=
  let owner := s.rd (Reg.LOOP_SLOT_CFG_OWNER n)
  let kind := s.rd (Reg.LOOP_SLOT_CFG_FB_KIND n)
  if !s.switching then s
  else
  let s := if n = 1072 then s.raise Code.BUS_LOOP_LOST .f3 (subj 5 n) else s
  if kind = 1 then s.setCell owner { s.cell owner with slotLost := true }
  else if kind = 2 then s.raise Code.ARM_LOOP_LOST .f2 (subj 3 owner)
  else if kind = 3 ∧ s.driveActive then s.latchTrip 0x0D52
  else s

/-- A fallback (R311). -/
def State.fallBack (s : State) (n : Nat) : State :=
  let s := (s.wr (Reg.LOOP_SLOT_MODE_MODE n) 2).wr (Reg.LOOP_SLOT_MODE_MAN_OUT n) (s.rd (Reg.LOOP_SLOT_CFG_FB_OUT n))
  (s.event Ev.LOOP_FALLBACK (subj 5 n)).fallbackFault n

/-- Takes a slot's evaluation: its image, its region's journal entry (R306) and its fallback. -/
def State.takeSlot (s0 s : State) (n : Nat) : State :=
  let o := s0.evalOf n
  let old := s0.rd (Reg.LOOP_SLOT_STATE_REGION n)
  let s := s.storeSlot n (s0.slotIn n).plant o
  let s := if o.mem.region ≠ old then s.adapt 5 (subj 5 n) (beBytes 1 old ++ beBytes 1 o.mem.region) else s
  if o.fell then s.fallBack n else s

/-- A slot that is not issued (R313). -/
def State.overrunSlot (s : State) (n : Nat) : State :=
  let s := s.setSlotRun n { s.slotRun n with fin := false }
  (((s.wr (Reg.LOOP_SLOT_STATE_OVERRUN n) 1).inc (Reg.LOOP_SLOT_STATE_OVERRUN_CNT n)).inc Reg.LOOP_STAT_OVERRUN_SLOTS)

/-- A slot that has been disabled since its last evaluation (R297): it is no longer in a MANUAL that a fallback entered. -/
def State.slotOff (s : State) (n : Nat) : State :=
  let s := { s with loop := { s.loop with slots := assocErase s.loop.slots n } }
  ((s.wr (Reg.LOOP_SLOT_STATE_STATE n) 0).wr (Reg.LOOP_SLOT_STATE_OUT n) 0).wr (Reg.LOOP_SLOT_STATE_FALLEN n) 0

/-! ### Overruns (R313 to R315) -/

/-- Counts a stage with its overrun slots. -/
def State.countOverrun (s : State) (late : List Nat) : State :=
  let s := late.foldl State.overrunSlot { s with loop := { s.loop with late := late } }
  if late = [] then s.wr Reg.LOOP_STAT_CONSEC 0
  else
    let n := s.rd Reg.LOOP_STAT_CONSEC + 1
    let s := (s.wrSat Reg.LOOP_STAT_CONSEC n).inc Reg.LOOP_STAT_OVERRUN_STAGES
    if n = 3 then s.raise Code.LOOP_OVERRUN .f2 else s

/-! ### The check pipe (R316 to R318) -/

/-- A retired loop pipe (R317); the last one leaves no engine. -/
def State.retirePipe (s : State) (p : Nat) : State :=
  let old := s.rd Reg.LOOP_STAT_PIPES
  if old / 2 ^ p % 2 = 0 then s
  else
    let s := (s.wr Reg.LOOP_STAT_PIPES (old - 2 ^ p)).raise Code.LOOP_PIPE_RETIRED .f0 0 (beBytes 1 p)
    if old = 2 ^ p then s.raise Code.LOOP_ENGINE_LOST .f3 else s

/-- A mismatch found at a slot that a loop pipe evaluated: its count and its journal entry (R317). -/
def State.mismatch (s : State) (q : CheckMiss × Nat) : State :=
  let n := q.1.slot.val
  let s := (s.inc Reg.LOOP_CHECK_MISMATCH).event Ev.LOOP_CHECK_MISMATCH (subj 5 n) (beBytes 1 q.2 ++ beBytes 1 4)
  (s.wr Reg.LOOP_CHECK_LAST_SLOT n).wr Reg.LOOP_CHECK_LAST_STAGE s.stage32

/-- The vote on a mismatch (R317); without another loop pipe none is taken and the engine is lost. -/
def State.decideMiss (s : State) (single : Bool) (q : CheckMiss × Nat) : State :=
  if single ∨ q.1.vote = 2 then (s.wr Reg.LOOP_CHECK_LAST_UNIT 5).raise Code.LOOP_ENGINE_LOST .f3
  else if q.1.vote = 0 then (s.wr Reg.LOOP_CHECK_LAST_UNIT q.2).retirePipe q.2
  else ((s.wr Reg.LOOP_CHECK_LAST_UNIT 4).wr Reg.LOOP_STAT_CHECK_OK 0).raise Code.LOOP_CHECK_RETIRED .f0

/-- Takes what the check pipe has done in a stage: its counts, the mismatches, the votes left by the last stage and those of this one, and the
result of a self-check. -/
def State.takeCheck (s0 s : State) (r : CheckRun) : State :=
  let found := r.voted ++ r.later
  let single := decide (s0.pipesIn.length = 1)
  let next := match r.checked.getLast? with
    | some l => (s0.enabledSlots.find? (fun n => decide (l < n))).getD (s0.enabledSlots.headD 0)
    | none => s0.rd Reg.LOOP_CHECK_NEXT_SLOT
  let s := s.wr Reg.LOOP_CHECK_CHECKED r.checked.length
  let s := if s0.loop.selfDue then
      { s with loop := { s.loop with selfDue := false, selfOk := some (decide (found = []) && s0.flag Reg.LOOP_STAT_CHECK_OK) } }
    else s.wr Reg.LOOP_CHECK_NEXT_SLOT next
  let s := s0.loop.votes.foldl (State.decideMiss · single ·) s
  let s := found.foldl State.mismatch s
  let wrong := (found.filter (fun q => q.1.vote == 0)).foldl (fun l q => assocInsert (assocErase l q.1.slot.val) q.1.slot.val q.1.wrong) []
  let s := { s with loop := { s.loop with wrong := wrong, votes := r.later } }
  r.voted.foldl (State.decideMiss · single ·) s

/-! ### The stage -/

/-- The LOOP cycles that a porter waits for its input set (R466). -/
def State.latchCycles (s : State) : Nat := (if s.onSafeClock then s.ts * 4 - 80 else s.ts * 8 - 160) - s.loopCycles

/-- The last result after the boundary in units of 1.25 ns, from the issue places used (R288, R320, R466). -/
def State.lastResult (s : State) (places : List Nat) : Nat :=
  match places with
  | [] => 0
  | _ =>
    let cycle := s.latchCycles + s.startCycle + (places.foldl max 0) / s.pipesIn.length + 2
    if s.onSafeClock then cycle * 2 else cycle

/-- The slots of the issue order that finish: those whose result is ready by the loop deadline. -/
def State.finishing (s : State) (taken order : List Nat) : List Nat :=
  order.filter (fun n => decide (placeOf taken (order.idxOf n) < s.issuePlaces))

/-- The loop engine's stage on the latched inputs of a state. -/
def State.runLoop (s0 : State) (misses : List CheckMiss) (ecc : List EccHit) : State :=
  let order := s0.issueOrder
  let r := s0.checkRun order misses
  let run := s0.finishing r.taken order
  let late := order.filter (fun n => !(run.contains n))
  let s := (ecc.filter (fun e => memRegion (e.word * 8) == 1)).foldl State.eccHit s0
  let s := { s with loop := { s.loop with issued := some s0.stage, wrong := [], late := [] } }
  let s := (s0.loop.slots.filter (fun p => !(order.contains p.1))).foldl (fun t p => t.slotOff p.1) s
  let s := run.foldl (fun t n => s0.takeSlot t n) s
  let s := s0.takeCheck s r
  let s := s.countOverrun late
  let fresh (p : Nat × ArmRun) : Nat × ArmRun :=
    if s0.pol.newSigs.contains (0x400 + p.1) then (p.1, { p.2 with mul := 1, div := 1 }) else p
  let s := { s with pol := { s.pol with arms := s.pol.arms.map fresh } }
  let places := run.map (fun n => placeOf r.taken (order.idxOf n)) ++ r.taken
  (s.wr Reg.LOOP_STAT_EVALUATED run.length).wr Reg.LOOP_STAT_LAST_RESULT (s0.lastResult places)

/-- LOOP_ISSUE (R288). `misses`: the recomputations of the check pipe that differ; `ecc`: words of the slot images met with an error. -/
def execLoopIssue (misses : List CheckMiss) (ecc : List EccHit) (s : State) : Res :=
  onRun s (fun s => if s.loop.issued = some s.stage then s else s.runLoop misses ecc)

/-! ### The output set (R289) -/

/-- What a slot delivers: its output, or what a failing pipe has made of it (R317). -/
def State.slotOut (s : State) (n : Nat) : Word :=
  match assocGet s.loop.wrong n with
  | some w => w
  | none => s.rdW (Reg.LOOP_SLOT_STATE_OUT n)

/-- The output set: every destination from the enabled slot that names it. -/
def State.outputSet (s : State) : OutputSet :=
  s.enabledSlots.foldl (fun o n =>
    let v := s.slotOut n
    let ix := s.rd (Reg.LOOP_SLOT_CFG_DEST_INDEX n)
    match s.rd (Reg.LOOP_SLOT_CFG_DEST_KIND n) with
    | 1 => { o with vref := assocPut o.vref 0 ix v }
    | 2 => { o with phi := assocPut o.phi 0 ix v }
    | 3 => { o with drv := o.drv.set ix v }
    | 4 => { o with brake := v }
    | _ => o) {}

/-- LOOP_OUTPUT_HANDOVER (R289). -/
def execLoopOutputHandover (s : State) : Res :=
  onRun s (fun s =>
    if s.loop.issued ≠ some s.stage ∨ s.loop.handed = some s.stage then s
    else { s with loop := { s.loop with prev := s.loop.out, out := s.outputSet, handed := some s.stage } })

/-! ### LOOP_SLOT_MODE -/

/-- The action of a write of LOOP_SLOT_MODE (R294): MODE 0b00 and 0b11 are refused. -/
def actLoopSlotModeWrite (n : Fin 2048) (mode : BitVec 2) (manOut : Word) : Action := fun s =>
  if mode = 0 ∨ mode = 3 then s.no Status.VALUE_OUT_OF_RANGE
  else ((s.wr (Reg.LOOP_SLOT_MODE_MODE n) mode.toNat).wr (Reg.LOOP_SLOT_MODE_MAN_OUT n) manOut.toNat).ok

/-- LOOP_SLOT_MODE_WRITE (R294). -/
def execLoopSlotModeWrite (r : Req) (slot : Fin 2048) (mode : BitVec 2) (manOut : Word) (s : State) : Res :=
  execVerb s r Verb.SET 0 false (.loopSlotModeWrite r slot mode manOut) (actLoopSlotModeWrite slot mode manOut)

end Sys2Proof.Machine
end

