-- ==== Sys2Proof/Machine/EdgeStage.lean ====
section
/-! DEFINITION. The EDGE island's part of a stage: the cell back end with the modulator's path of taking a cell out (R254, R259, R273,
R348), the drive back end and HVS (R255, R274, R276, R388), and the events of the safe state (R275). -/

namespace Sys2Proof.Machine

open Sys2Proof

/-- EDGE works: its clock runs and it is not halted (R275, R277). -/
def State.edgeRuns (s : State) : Bool := !s.mod.edgeStopped && !s.mod.edgeHalted

/-! ### The modulator's path (R348) -/

/-- The arm's part of what the cores keep. -/
def State.armRun (s : State) (a : Nat) : ArmRun := (assocGet s.pol.arms a).getD {}
def State.setArmRun (s : State) (a : Nat) (r : ArmRun) : State :=
  { s with pol := { s.pol with arms := assocInsert (assocErase s.pol.arms a) a r } }

/-- A cell that the modulator's path bypasses now: active, its ledger with a cause, and not bypassed on this path already. -/
def State.bypassNow (s : State) (c : Nat) : Bool := s.active c && s.tripped c && (s.cell c).bypass != 0x5A

/-- Orders the bypass of a cell in the waybills of the stage that follows. -/
def State.orderBypass (s : State) (c : Nat) : State :=
  let r := s.cell c
  (s.setCell c { r with mode := 1, bypass := 0x5A, bypassAt := s.stage + 1 }).unrank c

/-- The bypasses of one arm: the ranks of the others and the factor on their VREF. -/
def State.bypassArm (s : State) (a : Nat) : State :=
  let hit := (s.cellsOfArm a).filter s.bypassNow
  let lost := hit.filter (fun c => s.flag (Reg.MOD_CELL_RANKED c))
  let n := ((s.cellsOfArm a).filter (fun c => s.flag (Reg.MOD_CELL_RANKED c))).length
  let s := hit.foldl State.orderBypass s
  if lost = [] then s
  else
    let left := sortBy (fun c => s.rd (Reg.MOD_CELL_RANK c)) ((s.cellsOfArm a).filter (fun c => s.flag (Reg.MOD_CELL_RANKED c)))
    let r := s.armRun a
    let s := if left = [] then s else s.setArmRun a { r with mul := r.mul * n, div := r.div * left.length }
    s.rankArm a left

/-! ### The cell back end (R254) -/

/-- An output as a real number. -/
def outRat (w : Word) : Rat := (f32Val w).getD 0

/-- The mode that a cell's waybill carries: SAFE while the safe state of R275 is in force, else the policy's (R273). -/
def State.modeSent (s : State) (c : Nat) : Nat := if s.flag Reg.MOD_STAT_SAFE then 2 else (s.cell c).mode

/-- The edges of one cell for the waybills of stage k. -/
def State.edgesOf (s : State) (k c : Nat) : State :=
  let r := s.cell c
  let a := s.armRun (s.rd (Reg.CELL_ID_ARM c))
  let v := outRat ((assocGet s.loop.out.vref c).getD 0)
  let vref := if s.flag (Reg.MOD_CELL_RANKED c) then v * (a.mul : Rat) / (a.div : Rat) else v
  s.takeCellStage c r.mode r.bypass r.ilim (s.cellStage c k (s.modeSent c) vref (outRat ((assocGet s.loop.out.phi c).getD 0)))

/-- The saturated cells of an arm (R283). -/
def State.countSat (s : State) (a : Nat) : State :=
  s.wr (Reg.MOD_ARM_SAT_CELLS a) ((s.cellsOfArm a).filter (fun c => s.flag (Reg.MOD_CELL_SAT_AC c))).length

/-- Marks the waybill fields of a route as handed over. -/
def State.handOver (s : State) (n : Nat) : State := s.setRoute n { s.route n with handed := true }

/-- EDGE_COMPUTATION (R254). It starts with the output set of the stage; `margin`: the smallest time between a handover and the waybill
cut, in units of 1.25 ns (R281). -/
def execEdgeComputation (margin : BitVec 16) (s : State) : Res :=
  onRun s (fun s =>
    if s.loop.handed ≠ some s.stage ∨ !s.edgeRuns then s
    else
      let s := s.arms.foldl State.bypassArm s
      let s := s.fitted.foldl (fun t c => t.edgesOf (s.stage + 1) c) s
      let s := s.arms.foldl State.countSat s
      let s := { s with link := { s.link with handedAt := some s.stage } }
      (s.routes.foldl State.handOver s).wr Reg.MOD_STAT_CUT_MARGIN margin.toNat)

/-! ### The drive back end and HVS -/

/-- A pulse of the bootstrap charge is ordered in this stage: one every 10 stages, from the second stage of CHARGING on (R398). -/
def State.bootPulse (s : State) : Bool :=
  s.drive == Drv.CHARGING && decide (1 ≤ s.drv.stepN ∧ (s.drv.stepN - 1) % 10 = 0 ∧ (s.drv.stepN - 1) / 10 < s.rd Reg.DRV_CFG_BOOT_PULSES)

/-- DRIVE_EDGE_SET (R255). The set of the next stage, from the outputs handed over in the last one. -/
def execDriveEdgeSet (s : State) : Res :=
  onRun s (fun s =>
    if !s.edgeRuns then s
    else
      let o := if s.loop.handed = some s.stage then s.loop.prev else s.loop.out
      let (e, s) := s.driveSet (s.stage + 1) (s.flag Reg.MOD_DRV_STARTED && !(s.flag Reg.MOD_STAT_SAFE)) (o.drv.map outRat) (outRat o.brake)
      { s with mod := { s.mod with sent := some { e with boot := s.bootPulse } } })

/-- A trip is latched at HVS, or the drive stage is tripped: edge sets act no more (R388). -/
def State.tripHeld (s : State) : Bool := s.drv.fresh != [] || s.drv.atB != [] || s.drv.reported != [] || s.drive == Drv.TRIPPED

/-- The driver enable: the grant and not STO (R394). -/
def State.driverEnable (s : State) : Bool := s.drv.grant && !s.drv.sto

/-- EDGE_SET_CHECK (R276). The present stage's edges have been placed (log entry 62). `arrived`: the set has come across the isolation link with a valid check code. -/
def execEdgeSetCheck (arrived : Bool) (s : State) : Res :=
  onRun s (fun s =>
    let s := s.placeEdges
    let good := s.mod.sent.filter (fun e => arrived && e.stage == s.stage + 1)
    let s := { s with mod := { s.mod with sent := none }, drv := { s.drv with goodSets := if good.isSome then s.drv.goodSets + 1 else 0 } }
    match good with
    | some e =>
      let gates := e.gates && s.driverEnable && !s.tripHeld
      let s := { s with mod := { s.mod with applied := { e with gates := gates, boot := e.boot && s.driverEnable && !s.tripHeld } } }
      ((s.wr Reg.MOD_DRV_HOLDING 0).wr Reg.MOD_DRV_HOLD_COUNT 0).wr Reg.MOD_DRV_LAST_SET_STAGE e.stage
    | none =>
      let n := min 3 (s.rd Reg.MOD_DRV_HOLD_COUNT + 1)
      let s := ((s.inc Reg.MOD_DRV_SETS_MISSING).wr Reg.MOD_DRV_HOLD_COUNT n).wrB Reg.MOD_DRV_HOLDING (decide (n < 3))
      if n < 3 then s else s.gatesOff.latchTrip 0x0D51)

/-! ### The safe state (R275) -/

/-- EDGE_CLOCK_STOPPED (R275). -/
def execEdgeClockStopped (s : State) : Res :=
  onRun s (fun s => (({ s with mod := { s.mod with edgeStopped := true } }).safeState 3 Code.EDGE_LOST))

/-- A unit is halted; whether that is a core or the EDGE island the command does not say, so it is free (log entry 74). -/
def State.haltUnit (s : State) : State :=
  let (w, s) := s.takeFree
  { s with mod := { s.mod with halted := true, edgeHalted := s.mod.edgeHalted || w.getLsbD 0 } }

/-- DEBUG_HALT (R275). The debug controller can be reached in life-cycle BLANK only. -/
def execDebugHalt (s : State) : Res :=
  onRun s (fun s => if s.rd Reg.LC_STATE_STATE ≠ 0 then s else s.haltUnit.safeState 2 Code.MON_HALT)

end Sys2Proof.Machine
end

