-- ==== Sys2Proof/Machine/Signals.lean ====
section
/-! DEFINITION. The policy signals that the cores compute in each stage (R339 to R342, R353): the grid tracker, arm currents and voltage
shares, power sharing and the effective power limit; and the setpoints with their ramps (R343, R344). -/

namespace Sys2Proof.Machine

open Sys2Proof

/-! ### What the cores see in a stage -/

/-- The ledgers as they stand at a boundary (R339), with what a thermal shutdown adds to TRIP (R573). -/
def State.viewOf (s : State) (c : Nat) : CellView :=
  { udc := s.rd (Reg.CELL_LEDGER_UDC c), iac := s.rdS (Reg.CELL_LEDGER_IAC c), idab := s.rdS (Reg.CELL_LEDGER_IDAB c), trip := s.tripOf c
    state := s.rd (Reg.CELL_LEDGER_STATE c), status := s.rd (Reg.CELL_LEDGER_STATUS c) }

/-- A measurement result as the cores see it. -/
def State.measOf (s : State) (ix : Nat) : Rat × Bool :=
  match assocGet s.pol.meas ix with
  | some (w, new) => (outRat w, new)
  | none => (0, false)

/-- The results that the cores work on: those that POL_GRID names, the phase currents and the bus voltage (R340, R402, R427). -/
def State.measUsed (s : State) : List Nat :=
  [s.rd Reg.POL_GRID_VSRC0 % 8192, s.rd Reg.POL_GRID_VSRC1 % 8192, s.rd Reg.POL_GRID_VSRC2 % 8192, 256, 257, 258, 259]

/-- What the cores work on in the stage that begins: the ledgers and the results latched at its boundary. -/
def State.snapView (s : State) : State :=
  let view := s.fitted.map (fun c => (c, s.viewOf c))
  let meas := s.measUsed.map (fun ix => (ix, ((s.sampleSel (0x4000 + ix)).value, (s.sampleSel (0x4000 + ix)).new)))
  { s with pol := { s.pol with view := view, meas := meas } }

/-- Hands a signal over, unless the stage's signals are late (R339). -/
def State.handSig (s : State) (ix : Nat) (q : Rat) : State :=
  if s.pol.lateNow then s
  else { s with pol := { s.pol with sigs := assocInsert (assocErase s.pol.sigs ix) ix (coreWord q), newSigs := s.pol.newSigs ++ [ix] } }

/-- A slot's output as the cores read it. -/
def State.slotVal (s : State) (n : Nat) : Rat := outRat (s.rdW (Reg.LOOP_SLOT_STATE_OUT n))

/-- The ranked cells of an arm in rank order (R257). -/
def State.rankedNow (s : State) (a : Nat) : List Nat :=
  sortBy (fun c => s.rd (Reg.MOD_CELL_RANK c)) ((s.cellsOfArm a).filter (fun c => s.flag (Reg.MOD_CELL_RANKED c)))

/-- The least limit factor of cells, in eighths (R353, R572). -/
def State.leastF (s : State) (l : List Nat) : Nat := (l.map (fun c => s.rd (Reg.CELL_THERM_F_C c))).foldl min 8

/-! ### Setpoints (R343, R344) -/

/-- Shows a converter setpoint in POL_SETPOINT (R365). -/
def State.showSetpoint (s : State) (id : Nat) : State :=
  if 1 ≤ id ∧ id ≤ 4 then
    let r := s.setpoint id
    (((s.wrF (Reg.POL_SETPOINT_VALUE (id - 1)) r.value).wrF (Reg.POL_SETPOINT_TARGET (id - 1)) r.target).wrF
      (Reg.POL_SETPOINT_RATE (id - 1)) r.rate).wrB (Reg.POL_SETPOINT_RAMPING (id - 1)) r.moving
  else s

/-- Puts a setpoint in force. -/
def State.putSetpoint (s : State) (id : Nat) (r : SetRun) : State :=
  State.showSetpoint { s with pol := { s.pol with sets := assocInsert (assocErase s.pol.sets id) id r } } id

/-- Moves a value towards another by at most a step. -/
def towards (x target step : Rat) : Rat := if x < target then min target (x + step) else max target (x - step)

/-- A running ramp's movement at a boundary: RATE × Ts towards TARGET. -/
def SetRun.tick (r : SetRun) (ts : Rat) : SetRun :=
  if r.moving then
    let v := towards r.value r.target (r.rate * ts)
    { r with value := v, moving := decide (v ≠ r.target) }
  else r

/-- One step of every running ramp, and then the setpoints that take effect at this boundary (R166, R344). -/
def State.tickSetpoints (s : State) : State :=
  let s := (s.pol.sets.filter (fun p => p.2.moving)).foldl (fun t p => t.putSetpoint p.1 (p.2.tick t.tsSec)) s
  let due := s.pol.setDue
  let s := due.foldl (fun t p =>
    t.putSetpoint p.1 (if p.2.moving then { p.2 with value := (t.setpoint p.1).value, moving := decide ((t.setpoint p.1).value ≠ p.2.target) } else p.2)) s
  { s with pol := { s.pol with setDue := [] } }

/-- The run-up ramps' movement in a stage. -/
def State.tickRunUp (s : State) : State :=
  let u := s.pol.udcNow.map (fun x => towards x (s.setpoint 2).value (s.f32 Reg.POL_SEQ_UDC_RATE * s.tsSec))
  let v := s.pol.vbusNow.map (fun x => towards x (s.setpoint 1).value (s.f32 Reg.POL_SEQ_VBUS_RATE * s.tsSec))
  { s with pol := { s.pol with udcNow := u, vbusNow := v } }

/-! ### Grid tracking (R340) -/

/-- The nominal frequency. -/
def State.fNom (s : State) : Rat := if s.flag Reg.POL_GRID_F60 then 60 else 50

/-- Whether a voltage lies within shares of the nominal phase peak √2 × V_NOM_LL / √3, compared as squares. -/
def State.ofPeak (s : State) (lo hi v : Rat) : Bool :=
  let p := s.f32 Reg.POL_GRID_V_NOM_LL * s.f32 Reg.POL_GRID_V_NOM_LL * 2 / 3
  decide (0 ≤ v ∧ lo * lo * p ≤ v * v ∧ v * v ≤ hi * hi * p)

/-- The part of an angle in turns below one turn. -/
def fracOf (q : Rat) : Rat := q - (q.floor : Rat)

/-- The magnitude of a number. -/
def absRat (q : Rat) : Rat := if q < 0 then -q else q

/-- The sources of the phase voltages. -/
def State.vsrc (s : State) : List Nat := [s.rd Reg.POL_GRID_VSRC0, s.rd Reg.POL_GRID_VSRC1, s.rd Reg.POL_GRID_VSRC2]

/-- A phase voltage: its value, and whether it is fresh. A source of 0 gives 0.0 in every stage. -/
def State.phaseV (s : State) (i : Nat) : Rat × Bool :=
  let x := s.vsrc.getD i 0
  if x = 0 then (0, true) else s.measOf (x % 8192)

/-- The tracker's lock after a stage. -/
def State.setLock (s : State) (now : Bool) : State :=
  let was := s.flag Reg.POL_GRID_STAT_LOCKED
  let s := s.wrB Reg.POL_GRID_STAT_LOCKED now
  let s := { s with pol := { s.pol with lockNs := if now then s.pol.lockNs + s.tsNs else 0 } }
  if now && !was then (s.inc Reg.POL_GRID_STAT_LOCK_COUNT).wr Reg.POL_GRID_STAT_LOSS_PENDING 0
  else if was && !now then ({ s with pol := { s.pol with lossAt := s.timeOf 1 } }).wr Reg.POL_GRID_STAT_LOSS_PENDING 1
  else s

/-- The tracker's stage on fresh voltages. While V̂_g is 0 the quotient q has no value: it is free (log entry 2). -/
def State.trackFresh (s : State) : State :=
  let v0 := (s.phaseV 0).1
  let v1 := (s.phaseV 1).1
  let v2 := (s.phaseV 2).1
  let th := outRat s.pol.theta
  let va := (2 * v0 - v1 - v2) / 3
  let vb := (v1 - v2) / Config.sqrt 3
  let vd := va * Config.cosTurn th + vb * Config.sinTurn th
  let vq := -va * Config.sinTurn th + vb * Config.cosTurn th
  let peak := Config.lowPass (s.f32 Reg.POL_GRID_STAT_V_PK) vd (s.tsSec * 50)
  let (q, s) : Rat × State := if peak = 0 then (outRat s.takeFree.1, s.takeFree.2) else (vq / peak, s)
  let sum := outRat s.pol.qInt + q * s.tsSec
  let f := s.fNom + (s.f32 Reg.POL_GRID_KP_PLL * q + s.f32 Reg.POL_GRID_KI_PLL * sum) / (2 * Config.pi)
  let s := { s with pol := { s.pol with theta := coreWord (fracOf (th + f * s.tsSec)), omega := coreWord f, qInt := coreWord sum, coast := 0 } }
  let s := ((s.wrF Reg.POL_GRID_STAT_F_HZ f).wrF Reg.POL_GRID_STAT_V_PK peak).wrF Reg.POL_GRID_STAT_Q_PU q
  let near := decide (absRat (f - s.fNom) ≤ s.fNom / 20)
  let lock := decide (absRat q ≤ 1 / 50) && near && s.ofPeak (9 / 10) (11 / 10) peak && s.vsrc.all (fun x => x != 0)
  let lose := decide (1 / 10 < absRat q) || !near || !(s.ofPeak (1 / 2) (23 / 20) peak)
  s.setLock (if s.flag Reg.POL_GRID_STAT_LOCKED then !lose else lock)

/-- The grid tracker's stage. It coasts at its last frequency for up to 2 stages without fresh voltages. -/
def State.trackGrid (s : State) : State :=
  if !s.pol.tracking then s
  else if [0, 1, 2].all (fun i => (s.phaseV i).2) then s.trackFresh
  else
    let n := s.pol.coast + 1
    let th := fracOf (outRat s.pol.theta + outRat s.pol.omega * s.tsSec)
    let s := { s with pol := { s.pol with theta := coreWord th, coast := n } }
    s.setLock (s.flag Reg.POL_GRID_STAT_LOCKED && decide (n ≤ 2))

/-- V̂_g, and whether it is below 50 % of its nominal value. -/
def State.gridPeak (s : State) : Rat := s.f32 Reg.POL_GRID_STAT_V_PK
def State.gridLow (s : State) : Bool :=
  let p := s.f32 Reg.POL_GRID_V_NOM_LL * s.f32 Reg.POL_GRID_V_NOM_LL * 2 / 3
  decide (s.gridPeak ≤ 0 ∨ s.gridPeak * s.gridPeak * 4 < p)

/-! ### Arms (R341) -/

/-- The sum and the mean of a list. -/
def sumRat (l : List Rat) : Rat := l.foldl (fun a b => a + b) 0
def meanRat (l : List Rat) : Rat := sumRat l / (l.length : Rat)

/-- The median: of an even number of values, the mean of the two middle ones. -/
def medianRat (l : List Rat) : Rat :=
  let m := l.foldl (fun acc x => (acc.filter (fun y => decide (y ≤ x))) ++ [x] ++ acc.filter (fun y => decide (x < y))) []
  (m.getD ((m.length - 1) / 2) 0 + m.getD (m.length / 2) 0) / 2

/-- The factor r of step X2 (R333). -/
def State.rampFactor (s : State) : Rat :=
  if s.station = 7 ∧ s.step_ = 11 then max 0 (1 - (s.pol.rampN : Rat) / (s.stagesOfMs (s.rd Reg.POL_SEQ_T_RAMPDOWN_MS) : Rat)) else 1

/-- The signals of one running arm. An arm without a usable ledger keeps its last ones. -/
def State.armSignals (s : State) (a : Nat) : State :=
  let cells := s.rankedNow a
  let ledgers := (cells.map s.view).filter CellView.ok
  if ledgers = [] then s
  else
    let n : Rat := (cells.length : Rat)
    let ia := s.f32 Reg.POL_CFG_I_ARM_MAX * (s.leastF cells : Rat) / 8
    let ubar := meanRat (ledgers.map CellView.u)
    let iarm := medianRat (ledgers.map CellView.i)
    let phase := s.rd (Reg.ARM_CFG_PHASE a)
    let th := outRat s.pol.theta - (phase : Rat) / 3
    let cs := Config.cosTurn th
    let sn := Config.sinTurn th
    let r := s.armRun a
    let gen := Config.quadrature r.gen1 r.gen2 iarm (outRat s.pol.omega) s.tsSec
    let beta := outRat gen.2
    let id := iarm * cs + beta * sn
    let iq := -iarm * sn + beta * cs
    let pa := sumRat (ledgers.map (fun v => v.u * v.d))
    let idRef := if s.gridLow then 0
      else clampRat (-ia) ia (2 * (pa + s.f32 Reg.POL_CFG_K_E * n * (s.udcRef - ubar)) / s.gridPeak)
    let top := Config.sqrt (ia * ia - idRef * idRef)
    let iqRef := if s.gridLow then 0 else clampRat (-top) top (2 * (s.setpoint 3).value / ((s.runningArms.length : Rat) * s.gridPeak))
    let sgn : Rat := if 0 < iarm then 1 else if iarm < 0 then -1 else 0
    let opening := sumRat (((s.cellsOfArm a).filter (fun c => s.svc c == Svc.OPENING)).map (fun c => (s.view c).u))
    let varm := (s.phaseV phase).1 - (s.slotVal (1024 + 2 * a) * cs - s.slotVal (1025 + 2 * a) * sn) - sgn * opening
    let corr := sumRat (cells.map (fun c => s.slotVal c - s.f32 (Reg.CELL_SVC_VSHARE c)))
    let share := (varm - corr) / n
    let f := s.rampFactor
    let s := s.setArmRun a { r with iarm := coreWord iarm, gen1 := gen.1, gen2 := gen.2 }
    let s := ((s.handSig (0x400 + a) ubar).handSig (0x420 + a) iarm).handSig (0x440 + a) id
    let s := ((s.handSig (0x460 + a) iq).handSig (0x480 + a) (f * idRef)).handSig (0x4A0 + a) (f * iqRef)
    let s := ((s.wrF (Reg.POL_ARM_UBAR a) ubar).wrF (Reg.POL_ARM_ID a) id).wrF (Reg.POL_ARM_IQ a) iq
    let s := (s.wrF (Reg.POL_ARM_ID_REF a) (f * idRef)).wrF (Reg.POL_ARM_IQ_REF a) (f * iqRef)
    cells.foldl (fun t c =>
      let t := t.handSig (0x200 + c) share
      if t.pol.lateNow then t else t.wrF (Reg.CELL_SVC_VSHARE c) share) s

/-! ### Power (R342, R353) -/

/-- The ranked cells of every running arm. -/
def State.allRanked (s : State) : List Nat := (s.runningArms.map s.rankedNow).flatten

/-- A cell's DAB setpoint; none where it keeps the one last handed over. -/
def State.dabOf (s : State) (ranked : List Nat) (sumF : Nat) (c : Nat) : Option Rat :=
  let v := s.view c
  let f : Rat := (s.rd (Reg.CELL_THERM_F_C c) : Rat) / 8
  let works := v.ok && decide (5 ≤ v.u)
  if ranked.contains c then
    if works then
      let top := s.f32 Reg.POL_CFG_I_DAB_MAX * f
      some (clampRat (-top) top (s.rampFactor * s.slotVal 1072 * f / ((sumF : Rat) / 8 * v.u)))
    else none
  else if s.svc c = Svc.SPARE then
    let top := s.f32 Reg.POL_CFG_I_SPARE_MAX
    if works then some (clampRat (-top) top (s.f32 Reg.POL_CFG_K_S * (v.u - s.udcRef))) else none
  else some 0

/-- The DAB setpoints of every cell. -/
def State.dabSignals (s : State) : State :=
  let ranked := s.allRanked
  let sumF := (ranked.map (fun c => s.rd (Reg.CELL_THERM_F_C c))).sum
  s.fitted.foldl (fun t c =>
    match s.dabOf ranked sumF c with
    | some q =>
      let t := t.handSig c q
      if t.pol.lateNow then t else t.wrF (Reg.CELL_SVC_DAB_SP c) q
    | none => t.handSig c (t.f32 (Reg.CELL_SVC_DAB_SP c))) s

/-- The effective power limit (R353). -/
def State.powerLimit (s : State) : Rat :=
  let en : Rat := (s.groups.length : Rat)
  let share := if s.groups = [] then 0 else (s.runningGroups.length : Rat) / en
  let least := (s.runningArms.map (fun a =>
    let cells := s.rankedNow a
    let active := s.rd (Reg.ARM_CFG_ACTIVE a)
    if active = 0 then 0 else (cells.length : Rat) * (s.leastF cells : Rat) / 8 / (active : Rat))).foldl min share
  (s.setpoint 4).value * least

/-- The signals of a stage but for those of the drive stage (R339). -/
def State.signals (s : State) : State :=
  let s := { s with pol := { s.pol with newSigs := [] } }
  let s := s.trackGrid
  let s := s.runningArms.foldl State.armSignals s
  let s := s.dabSignals
  let s := (s.handSig 0x500 s.vbusRef).handSig 0x501 s.udcRef
  s.wrF Reg.POL_STATE_P_LIMIT_EFF s.powerLimit

end Sys2Proof.Machine
end

