-- ==== Sys2Proof/Machine/Service.lean ====
section
/-! DEFINITION. Cell service by the cores in each stage (R345 to R351), the filling of arms (R202), the orders of the waybills (R346), derating
(R353) and capacitor health (R354 to R356). -/

namespace Sys2Proof.Machine

open Sys2Proof

/-! ### Where the slots work -/

/-- The balance slots of ranked cells are in AUTO: from step S2 to step X2 (R331, R333). -/
def State.balanceOn (s : State) : Bool :=
  s.runs || (s.station == 4 && decide (7 ≤ s.step_)) || (s.station == 7 && (s.step_ == 10 || s.step_ == 11))

/-- The DAB slots of ranked cells and spares are in AUTO: from step S3 to step X2. -/
def State.dabOn (s : State) : Bool :=
  s.runs || (s.station == 4 && decide (8 ≤ s.step_)) || (s.station == 7 && (s.step_ == 10 || s.step_ == 11))

/-- The arm's group is stopped, or the arm is not enabled. -/
def State.armIdle (s : State) (c : Nat) : Bool :=
  let a := s.rd (Reg.CELL_ID_ARM c)
  !(s.armOn a) || s.armStopped a

/-- A cell becomes a spare; where the DAB slots work, its own charges it (R342). -/
def State.toSpare (s : State) (c : Nat) : State :=
  let s := ((s.setSvc c Svc.SPARE).wr (Reg.CELL_SVC_CAUSE c) 0).wr (Reg.CELL_SVC_FOR_VALID c) 0
  if s.dabOn && !(s.armIdle c) then s.slotAuto (512 + c) else s

/-- A cell comes into service at a position's rank; its slots work as the station's step has them. -/
def State.toService (s : State) (c : Nat) : State :=
  let s := s.setSvc c Svc.IN_SERVICE
  let s := if s.balanceOn && !(s.armIdle c) then s.slotAuto c else s
  if s.dabOn && !(s.armIdle c) then s.slotAuto (512 + c) else s

/-! ### Spares -/

/-- The position whose rank a cell holds or takes. -/
def State.holds (s : State) (c p : Nat) : Bool := s.active c && s.flag (Reg.CELL_SVC_FOR_VALID c) && s.rd (Reg.CELL_SVC_FOR_POS c) == p

/-- The vacant ranks of an arm: active positions whose rank no cell holds, ascending (R350). -/
def State.vacant (s : State) (a : Nat) : List Nat :=
  let cells := s.cellsOfArm a
  ((cells.filter (fun c => !(s.flag (Reg.CELL_ID_ROLE c)))).map (fun c => s.rd (Reg.CELL_ID_ARM_POS c))).filter
    (fun p => !(cells.any (fun c => s.holds c p)))

/-- A spare is opened for a rank (R350, step 1); its slots rest at MANUAL 0 until it is ranked (R342). -/
def State.insertSpare (s : State) (c p : Nat) : State :=
  let s := ((s.setSvc c Svc.OPENING).wr (Reg.CELL_SVC_FOR_POS c) p).wr (Reg.CELL_SVC_FOR_VALID c) 1
  let s := s.slotsManual (cellSlots c)
  ((s.inc (Reg.CELL_SVC_INSERT_COUNT c)).inc Reg.POL_EVENTS_INSERTIONS).adapt 1 (subj 1 c) (beBytes 1 p)

/-- An F3 fault is to be raised at this stage's boundary. -/
def State.f3Coming (s : State) : Bool := s.flt.pending.any (fun f => f.cls == .f3)

/-- The arm's group is to be stopped at this stage's boundary, by an F2 fault that names one of its arms or by a STOP of one (R351). -/
def State.stopComing (s : State) (a : Nat) : Bool :=
  let same (b : Nat) : Bool := s.groupOf b == s.groupOf a
  s.flt.pending.any (fun f => f.cls == .f2 && f.subject / 4096 == 3 && same (f.subject % 4096)) || s.pol.groupStops.any same

/-- Fills an arm's vacant ranks with its READY spares, both in ascending order. -/
def State.insertArm (s : State) (a : Nat) : State :=
  (List.zip (s.readySpares a) (s.vacant a)).foldl (fun t p => t.insertSpare p.1 p.2) s

/-- The cells in service, and those with the spares that are opening. -/
def State.inService (s : State) (a : Nat) : Nat := ((s.cellsOfArm a).filter (fun c => s.svc c == Svc.IN_SERVICE)).length
def State.orOpening (s : State) (a : Nat) : Nat := ((s.cellsOfArm a).filter s.active).length

/-! ### Taking cells out (R347) -/

/-- A cell leaves service (R347, R348): its bypass is ordered, its rank and its slots are taken from it, and the action is
journalled (R24). -/
def State.takeOut1 (s : State) (c cause : Nat) : State :=
  let s := ((s.setSvc c Svc.BYPASSING).wr (Reg.CELL_SVC_CAUSE c) cause).wr (Reg.CELL_SVC_FOR_VALID c) 0
  let s := ((s.inc (Reg.CELL_SVC_BYPASS_COUNT c)).inc Reg.POL_EVENTS_BYPASSES).slotsManual (cellSlots c)
  let r := s.cell c
  let s := if r.bypass = 0x5A then s else s.setCell c { r with mode := 1, bypass := 0x5A, bypassAt := s.stage + 2 }
  let s := s.unrank c
  let s := if cause ≤ 6 then s.raise Code.CELL_BYPASS .f1 (subj 1 c) (beBytes 1 cause) else s
  s.adapt 1 (subj 1 c) (beBytes 1 cause)

/-- Ledger counts of the stage: the run of lost ledgers, and the notice of new flags (R347). -/
def State.watchLedger (s : State) (c : Nat) : State :=
  let v := s.view c
  let r := s.cell c
  if !v.ok then s.setCell c { r with lost := s.lostNow c }
  else
    let bits := v.trip % 128
    let s := s.setCell c { r with lost := 0, flags := bits }
    if bits ≠ 0 ∧ bits ≠ r.flags then s.raise Code.CELL_FLAG .f0 (subj 1 c) (beBytes 1 bits) else s

/-! ### Bypass confirmation and returns (R349) -/

/-- The index of the first ledger that may decide a bypass first ordered in the waybills of stage j: the first one sampled at least 3.0 µs
after the start of that cell stage (R218, R349; log entry 20). -/
def State.firstDue (s : State) (j : Nat) : Nat := j - 1 + (980 + s.ts - 1) / s.ts

/-- A bypass that is not confirmed. -/
def State.bypassFail (s : State) (c : Nat) : State :=
  (s.wr (Reg.CELL_SVC_CAUSE c) 7).raise Code.BYPASS_FAIL .f2 (subj 3 (s.rd (Reg.CELL_ID_ARM c))) (beBytes 2 c)

/-- A cell in BYPASSING in a stage. -/
def State.confirm (s : State) (c : Nat) : State :=
  let v := s.view c
  let cause := s.rd (Reg.CELL_SVC_CAUSE c)
  if s.svc c ≠ Svc.BYPASSING ∨ cause = 7 ∨ !v.ok ∨ s.stage ≤ s.firstDue (s.cell c).bypassAt then s
  else if v.state / 8 % 2 = 1 then (if cause = 8 ∨ cause = 9 then s.toSpare c else s.setSvc c Svc.FAULTED)
  else s.bypassFail c

/-- A cell that answers again after having been absent. -/
def State.comeBack (s : State) (c : Nat) : State :=
  if s.svc c = Svc.ABSENT ∧ s.answering c ∧ 200 ≤ (s.cell c).clean then s.toSpare c else s

/-! ### Filling the arms (R202) -/

/-- A cell that a START may put in service. -/
def State.fit (s : State) (c : Nat) : Bool :=
  s.answering c && (s.svc c == Svc.SPARE || s.svc c == Svc.OPENING || s.svc c == Svc.IN_SERVICE)

/-- The cells that a START puts in service in an arm, each with the position whose rank it holds. -/
def State.filling (s : State) (a : Nat) : List (Nat × Nat) :=
  let cells := s.cellsOfArm a
  let active := cells.filter (fun c => !(s.flag (Reg.CELL_ID_ROLE c)))
  let own := (active.filter s.fit).map (fun c => (c, s.rd (Reg.CELL_ID_ARM_POS c)))
  let open_ := (active.filter (fun c => !(s.fit c))).map (fun c => s.rd (Reg.CELL_ID_ARM_POS c))
  own ++ List.zip (cells.filter (fun c => s.flag (Reg.CELL_ID_ROLE c) && s.fit c)) open_

/-- The enabled arms that would fall short. -/
def State.shortArms (s : State) : List Nat :=
  s.arms.filter (fun a => decide ((s.filling a).length < s.rd (Reg.ARM_CFG_MIN_ACTIVE a)))

/-- Fills one arm. -/
def State.fillArm (s : State) (a : Nat) : State :=
  let fill := s.filling a
  let s := ((s.cellsOfArm a).filter (fun c => s.fit c && !(fill.any (fun p => p.1 == c)))).foldl State.toSpare s
  let s := fill.foldl (fun t p => ((t.toService p.1).wr (Reg.CELL_SVC_FOR_POS p.1) p.2).wr (Reg.CELL_SVC_FOR_VALID p.1) 1) s
  s.rerank a

/-- The check of R203: the enabled arms with fewer cells in service than MIN_ACTIVE. -/
def State.armsBelow (s : State) : List Nat := s.arms.filter (fun a => decide (s.inService a < s.rd (Reg.ARM_CFG_MIN_ACTIVE a)))

/-! ### Arms and derating (R351, R353, R367) -/

/-- A running arm falls below MIN_ACTIVE, and its READY spares, which fill its vacant ranks, leave it there (R350). -/
def State.checkShort (s : State) (a : Nat) : State :=
  let n := (s.readySpares a).length
  let v := (s.vacant a).length
  if decide (n ≤ v) && decide (s.orOpening a + n < s.rd (Reg.ARM_CFG_MIN_ACTIVE a)) then
    s.raise Code.ARM_SHORT .f2 (subj 3 a)
  else s

/-- A running arm that runs short: fewer ranked cells than active positions, and no spare opening (R353). -/
def State.runsShort (s : State) (a : Nat) : Bool := decide (s.orOpening a < s.rd (Reg.ARM_CFG_ACTIVE a))

/-- POL_ARM after a stage. -/
def State.showArm (s : State) (a : Nat) : State :=
  let st := if !(s.armOn a) then ArmSt.DISABLED else if s.armStopped a then ArmSt.STOPPED
    else if s.switching then (if s.runsShort a then ArmSt.SHORT else ArmSt.RUNNING) else ArmSt.IDLE
  let s := (s.wr (Reg.POL_ARM_STATE a) st).wr (Reg.POL_ARM_RANKED a) (s.rankedNow a).length
  (s.wr (Reg.POL_ARM_READY_SPARES a) (s.readySpares a).length).wr (Reg.POL_ARM_FMIN a) (s.leastF (s.rankedNow a))

/-- The derating conditions of R353. -/
def State.derating (s : State) : Bool × Bool × Bool :=
  (decide (s.leastF s.allRanked < 8), s.runningArms.any s.runsShort, s.switching && s.arms.any s.armStopped)

def State.showDerating (s : State) : State :=
  let (t, sh, g) := s.derating
  ((s.wrB Reg.POL_STATE_DERATE_THERMAL t).wrB Reg.POL_STATE_DERATE_SHORT sh).wrB Reg.POL_STATE_DERATE_GROUP g

def State.derated (s : State) : Bool :=
  s.flag Reg.POL_STATE_DERATE_THERMAL || s.flag Reg.POL_STATE_DERATE_SHORT || s.flag Reg.POL_STATE_DERATE_GROUP

/-! ### Capacitor health (R354 to R356) -/

/-- A window's result: the estimate, RATIO, the runs and the flags. -/
def State.capWindow (s : State) (c : Nat) (r : CellRun) : State :=
  let n := r.capB
  if r.capSumUU < (n : Rat) then s
  else
    let est := r.capSumQU / r.capSumUU * 1000000
    let ratio := (est / s.f32 Reg.POL_CAP_C_NOM * 32768).floor.toNat
    let ratio := min 0xFFFF ratio
    let low := decide (ratio < s.rd Reg.POL_CAP_WATCH)
    let bad := decide (ratio < s.rd Reg.POL_CAP_SERVICE)
    let s := (s.wrF (Reg.CELL_CAP_C_EST c) est).wr (Reg.CELL_CAP_RATIO c) ratio
    let s := (s.inc (Reg.CELL_CAP_WINDOWS c)).wr (Reg.CELL_CAP_LAST_STAGE c) s.stage32
    let s := if low then s.inc (Reg.CELL_CAP_LOW_RUN c) else s.wr (Reg.CELL_CAP_LOW_RUN c) 0
    let w := if low && !(s.flag (Reg.CELL_CAP_WATCH c)) then r.capLowW + 1 else 0
    let v := if bad && !(s.flag (Reg.CELL_CAP_SERVICE c)) then r.capLowS + 1 else 0
    let s := s.setCell c { s.cell c with capLowW := w, capLowS := v }
    let s := if w = 10 ∨ (0 < w ∧ s.rd (Reg.CELL_CAP_LOW_RUN c) = 10) then (s.see (Reg.CELL_CAP_WATCH c)).adapt 7 (subj 1 c) (beBytes 1 1) else s
    if v = 10 then ((s.see (Reg.CELL_CAP_SERVICE c)).adapt 7 (subj 1 c) (beBytes 1 2)).raise Code.CELL_CAP_SERVICE .f0 (subj 1 c) else s

/-- A stage of one cell's estimation. -/
def State.capStage (s : State) (c : Nat) : State :=
  let v := s.view c
  let r := s.cell c
  let rank := s.rd (Reg.MOD_CELL_RANK c) + 1
  let flow := if v.udc = 0 then 0 else outRat ((assocGet s.loop.out.vref c).getD 0) * v.i / v.u - v.d
  let r := if r.capN = 0 then { r with capU0 := v.udc, capQ := 0, capBad := false, capRank := rank } else r
  let bad := v.status != 0 || v.udc == 0 || rank != r.capRank
  let r := { r with capN := r.capN + 1, capQ := r.capQ + flow * s.tsSec, capBad := r.capBad || bad, capRank := rank }
  if r.capN < s.rd Reg.POL_CAP_BLOCK_STAGES then s.setCell c r
  else
    let du : Rat := ((v.udc : Rat) - (r.capU0 : Rat)) / 20
    let r := { r with capN := 0 }
    let r := if r.capBad then r
      else { r with capB := r.capB + 1, capSumQU := r.capSumQU + r.capQ * du, capSumUU := r.capSumUU + du * du }
    if r.capB < s.rd Reg.POL_CAP_WINDOW_BLOCKS then s.setCell c r
    else (s.setCell c { r with capB := 0, capSumQU := 0, capSumUU := 0 }).capWindow c r

/-- A cell whose estimation runs, or begins anew when it next does. -/
def State.capCell (s : State) (c : Nat) : State :=
  if s.runs && s.svc c == Svc.IN_SERVICE && s.f32 Reg.POL_CAP_C_NOM != 0 then s.capStage c
  else
    let r := s.cell c
    if r.capN = 0 ∧ r.capB = 0 then s else s.setCell c { r with capN := 0, capB := 0, capSumQU := 0, capSumUU := 0 }

/-! ### The stage of cell service -/

/-- The service part of a policy stage. -/
def State.serviceStage (s : State) : State :=
  let s := s.fitted.foldl State.watchLedger s
  let s := s.fitted.foldl State.confirm s
  let s := s.fitted.foldl State.comeBack s
  let opening := s.fitted.filter (fun c => s.svc c == Svc.OPENING)
  let s0 := s
  let s := (s.fitted.filter s.active).foldl (fun t c =>
    match s0.causeAt c (s0.cell c).lost with
    | some k => t.takeOut1 c k
    | none => if opening.contains c then t.toService c else t) s
  let s := s.arms.foldl State.rerank s
  let s := s.runningArms.foldl State.checkShort s
  let s := if s.f3Coming then s else (s.runningArms.filter (fun a => !(s.stopComing a))).foldl State.insertArm s
  let s := s.fitted.foldl (fun t c => t.wrB (Reg.CELL_SVC_READY c) (t.ready c)) s
  let s := s.fitted.foldl State.capCell s
  ((List.range 24).foldl State.showArm s).showDerating

/-- What has taken cells out in the stage that has ended, for the cores to act on in the one that begins (R348). -/
def State.takeCauses (s : State) : State :=
  let lost := s.fitted.filter (fun c => (s.cell c).slotLost)
  let s := lost.foldl (fun t c => t.setCell c { t.cell c with slotLost := false }) s
  { s with pol := { s.pol with takeNow := s.pol.takeOuts, lostNow := lost, takeOuts := [] } }

/-! ### The waybill orders (R346) -/

/-- ILIM in 0.1 A, to the nearest. -/
def State.ilim (s : State) (f : Nat) : Nat := min 0xFFFF ((s.f32 Reg.POL_CFG_ILIM_NOM * 10 * (f : Rat) / 8 + 1 / 2).floor.toNat)

/-- MODE, BYPASS and the limit factor that the policy orders for a cell; those of a stopped group are blocked (R351), and one refused for its
serial gets a safe-state waybill in every state of service (R197). -/
def State.ordersFor (s : State) (c : Nat) : Nat × Nat × Nat :=
  let st := s.svc c
  if st = Svc.REFUSED ∨ s.flag (Reg.CELL_LINK_MISMATCH c) then (2, 0x00, 8)
  else if st = Svc.OPENING then (1, 0xA5, 8)
  else if st = Svc.IN_SERVICE then
    let f := s.rd (Reg.CELL_THERM_F_C c)
    if s.balanceOn then (if s.armStopped (s.rd (Reg.CELL_ID_ARM c)) then (1, 0x00, f) else (0, 0x00, f))
    else (1, 0xA5, f)
  else (1, 0x5A, 8)

/-- Gives a cell its orders for the next edge computation. -/
def State.order (s : State) (c : Nat) : State :=
  let (m, b, f) := s.ordersFor c
  s.setCell c { s.cell c with mode := m, bypass := b, ilim := s.ilim f }

/-- Gives every fitted cell its orders. -/
def State.orders (s : State) : State := s.fitted.foldl State.order s

end Sys2Proof.Machine
end

