-- ==== Sys2Proof/Machine/Policy.lean ====
section
/-! DEFINITION. The sequencing of the station in each stage (R325, R326, R329 to R334, R340, R353), the commands that move it (R327, R328,
R343, R347, R349, R351) and the events of its bounds. -/

namespace Sys2Proof.Machine

open Sys2Proof

/-! ### Conditions of the steps -/

/-- Starts a step (R329). -/
def State.stepTo (s : State) (n : Nat) : State :=
  { (s.wr Reg.POL_STATE_STEP n) with pol := { s.pol with stepN := 0, dwell := 0 } }

/-- The island runs without an internal fault (R326): not starting, not in keep-alive, not locked out for INTERNAL. -/
def State.islandOk (s : State) : Bool :=
  s.rd Reg.SAFE_STAT_STATE != 0 && s.rd Reg.SAFE_STAT_STATE != 6 && !(s.flag Reg.SAFE_LOCK_LOCKED && s.rd Reg.SAFE_LOCK_CAUSE == 4)

/-- The checks of R326, in their order. -/
def State.selfChecks (s : State) : List Bool :=
  [s.rd Reg.CLK_STAT_LOCKED % 4 == 3, s.rd Reg.ID_STRAP_ROLE != 0, s.rd Reg.MEM_STAT_BANK_FAIL == 0,
   s.rd Reg.LOOP_STAT_PIPES == 15 && s.flag Reg.LOOP_STAT_CHECK_OK, s.islandOk]

/-- RUN_TOL of a reference (R331). -/
def State.inTol (s : State) (x ref : Rat) : Bool := decide (absRat (x - ref) ≤ absRat ref * (s.rd Reg.POL_SEQ_RUN_TOL : Rat) / 1000)

/-- The station mean of UBAR. -/
def State.meanUbar (s : State) : Rat := meanRat (s.runningArms.map (fun a => s.f32 (Reg.POL_ARM_UBAR a)))

/-- The measured bus voltage (R427). -/
def State.vbus (s : State) : Rat := (s.measOf 259).1

/-! ### Steps (R330, R331, R333) -/

/-- PRECHARGE's steps. -/
def State.prechargeStep (s : State) : State :=
  match s.step_ with
  | 1 => (s.stepTo 2).wr Reg.POL_STATE_PRECHARGE_REQ 1
  | 2 => if s.isClosed 2 then s.stepTo 3 else s
  | 3 =>
    if s.allRanked.all (fun c => (s.view c).ok && decide (s.f32 Reg.POL_SEQ_U_PASSIVE ≤ (s.view c).u)) then
      (s.stepTo 4).wr Reg.POL_STATE_BREAKER_REQ 1
    else s
  | 4 => if s.isClosed 1 then (s.stepTo 5).wr Reg.POL_STATE_PRECHARGE_REQ 0 else s
  | _ => if s.isOpenFb 2 && decide (4 ≤ s.rd Reg.POL_STATE_TARGET) then s.goTo St.SYNC 0x0205 else s

/-- The end of S4 with the target RUN (R203, R332). -/
def State.enterRun (s : State) : State :=
  if s.armsBelow = [] then s.goTo (if s.derated then St.DERATED else St.RUN) 0x0209
  else
    let s := s.armsBelow.foldl (fun t a => t.event Ev.ARM_NOT_READY (subj 3 a)) s
    ({ s with pol := { s.pol with stopFault := false } }).goTo St.STOPPING 0x0301

/-- SYNC's steps. -/
def State.syncStep (s : State) : State :=
  match s.step_ with
  | 6 =>
    if s.flag Reg.POL_GRID_STAT_LOCKED && decide (msNs (s.rd Reg.POL_GRID_LOCK_MS) ≤ s.pol.lockNs) then
      let s := (s.allRanked ++ (s.runningArms.map armSlots).flatten).foldl State.slotAuto s
      { (s.stepTo 7) with pol := { (s.stepTo 7).pol with udcNow := some s.meanUbar } }
    else s
  | 7 =>
    let s := s.tickRunUp
    if s.udcRef = (s.setpoint 2).value ∧ s.runningArms.all (fun a => s.inTol (s.f32 (Reg.POL_ARM_UBAR a)) s.udcRef) then
      let spares := s.fitted.filter (fun c => s.svc c == Svc.SPARE && !(s.armIdle c))
      let s := ((s.allRanked ++ spares).map (fun c => 512 + c) ++ [1072]).foldl State.slotAuto s
      { (s.stepTo 8) with pol := { (s.stepTo 8).pol with vbusNow := some s.vbus } }
    else s
  | 8 =>
    let s := s.tickRunUp
    if s.vbusRef = (s.setpoint 1).value then { (s.stepTo 9) with pol := { (s.stepTo 9).pol with udcNow := none, vbusNow := none } } else s
  | _ =>
    let near := s.inTol s.meanUbar (s.setpoint 2).value && s.inTol s.vbus (s.setpoint 1).value
    let n := if near then s.pol.dwell + 1 else 0
    let full := decide (s.rd Reg.POL_SEQ_RUN_DWELL ≤ n)
    let s := { s with pol := { s.pol with dwell := min n (s.rd Reg.POL_SEQ_RUN_DWELL), held := s.pol.held || full } }
    if full && s.rd Reg.POL_STATE_TARGET == 5 then s.enterRun else s

/-- STOPPING's steps. -/
def State.stopStep (s : State) : State :=
  match s.step_ with
  | 10 => if s.driveActive then s else { (s.stepTo 11) with pol := { (s.stepTo 11).pol with rampN := 0 } }
  | 11 =>
    let s := { s with pol := { s.pol with rampN := s.pol.rampN + 1 } }
    if s.stagesOfMs (s.rd Reg.POL_SEQ_T_RAMPDOWN_MS) ≤ s.pol.rampN then (s.stepTo 12).slotsManual s.policySlots else s
  | 12 => (s.stepTo 13).wr Reg.POL_STATE_BREAKER_REQ 0
  | 13 => if s.isOpenFb 1 && s.isOpenFb 2 then s.stepTo 14 else s
  | _ => s.goTo St.STANDBY 0x020E

/-- SELFTEST (R326): the first failing check is named, or STANDBY follows. -/
def State.selfTest (s : State) : State :=
  let n := s.selfChecks.idxOf false
  if n < 5 then s.wr Reg.POL_STATE_CAUSE (0x0310 + n) else s.goTo St.STANDBY 0x0304

/-- The sequence's part of a stage, unless a change of state is ordered already. -/
def State.sequence (s : State) : State :=
  if s.pol.goto.isSome then s
  else
    let s := { s with pol := { s.pol with stepN := s.pol.stepN + 1 } }
    if s.station = 1 then s.selfTest
    else if s.station = 3 then s.prechargeStep
    else if s.station = 4 then s.syncStep
    else if s.station = 5 then (if s.derated then s.goTo St.DERATED 0x0302 else s)
    else if s.station = 6 then { s with pol := { s.pol with clearN := if s.derated then 0 else min 20000 (s.pol.clearN + 1) } }
    else if s.station = 7 then s.stopStep
    else s

/-- The bus monitors of R334. -/
def State.busStage (s : State) : State :=
  let v := s.vbus
  let r := (s.setpoint 1).value
  let hi := if decide (4 ≤ s.station ∧ s.station ≤ 7) && decide (r * 23 / 20 < v) then s.pol.busHigh + 1 else 0
  let lo := if s.runs && decide (v < r * 7 / 10) then s.pol.busLow + 1 else 0
  let s := { s with pol := { s.pol with busHigh := min hi 21, busLow := min lo 2001 } }
  let s := if hi = 20 then s.raise Code.BUS_OV .f3 else s
  if lo = 2000 then s.raise Code.BUS_UV .f3 else s

/-- What POL_STATE shows of its surroundings (R359). -/
def State.showStation (s : State) : State :=
  ((s.wr Reg.POL_STATE_GRID_LOCKED (s.rd Reg.POL_GRID_STAT_LOCKED)).wrB Reg.POL_STATE_BREAKER_CLOSED (s.isClosed 1)).wrB
    Reg.POL_STATE_PRECHARGE_CLOSED (s.isClosed 2)

/-- The cores' stage but for the drive stage (R339). -/
def State.policyStage (s : State) : State := (((s.signals.busStage).serviceStage).sequence).showStation

/-- The change that is ordered; in the recovery program the station stays in OFF (R592). -/
def State.ordered (s : State) : Option (Nat × Nat) := if s.recovery then none else s.pol.goto

/-- The station enters the state that an order names. -/
def State.takeOrder (halted : Bool) (s : State) : Option (Nat × Nat) → State
  | none => s
  | some (st, cause) =>
    if halted && st == St.PRECHARGE && cause == 0x0111 then s
    else
      let s := if st = St.PRECHARGE then s.arms.foldl State.fillArm s else s
      let s := s.enter st cause
      if st = St.STOPPING ∧ s.step_ = 10 then (if s.pol.stopFault then s.driveOff else s.driveStop) else s

/-- A change of the station state that has been ordered takes effect (R325). A STOP or TRIP of the stage has superseded its START (R158). -/
def State.applyGoto (s : State) : State :=
  let want := s.pol.target
  let t := ({ s with pol := { s.pol with goto := none, target := 0 } }).takeOrder s.pol.haltConv s.ordered
  if (t.station = 3 ∨ t.station = 4) ∧ t.rd Reg.POL_STATE_TARGET < want then t.wr Reg.POL_STATE_TARGET want else t

/-! ### Leaving STANDBY (R328, R338) -/

/-- A slot's selectors, destination and fallback. -/
structure SlotShape where
  pv : Nat
  sp : Nat
  ff : Nat
  destKind : Nat
  destIndex : Nat
  fbKind : Nat
  owner : Nat
  deriving DecidableEq, Repr

/-- A slot's shape as configured; without a destination its index says nothing. -/
def State.shapeOf (s : State) (n : Nat) : SlotShape :=
  { pv := s.rd (Reg.LOOP_SLOT_CFG_PV_SRC n), sp := s.rd (Reg.LOOP_SLOT_CFG_SP_SRC n), ff := s.rd (Reg.LOOP_SLOT_CFG_FF_SRC n)
    destKind := s.rd (Reg.LOOP_SLOT_CFG_DEST_KIND n), destIndex := if s.rd (Reg.LOOP_SLOT_CFG_DEST_KIND n) = 0 then 0 else s.rd (Reg.LOOP_SLOT_CFG_DEST_INDEX n)
    fbKind := s.rd (Reg.LOOP_SLOT_CFG_FB_KIND n), owner := s.rd (Reg.LOOP_SLOT_CFG_OWNER n) }

/-- The shape that the slot map gives a slot (R337). -/
def State.shapeWanted (s : State) (n : Nat) : SlotShape :=
  let c := n % 512
  let a := s.rd (Reg.CELL_ID_ARM c)
  let m := (n - 1024) / 2
  if n < 512 then ⟨0x2000 + 16 * c, 0xA400 + a, 0xA200 + c, 1, c, 1, c⟩
  else if n < 1024 then ⟨0x2002 + 16 * c, 0xA000 + c, 0, 2, c, 1, c⟩
  else if n % 2 = 0 then ⟨0xA440 + m, 0xA480 + m, 0, 0, 0, 2, m⟩
  else ⟨0xA460 + m, 0xA4A0 + m, 0, 0, 0, 2, m⟩

/-- A balance slot's schedule and gains (R338). -/
def State.balanceOk (s : State) (c : Nat) : Bool :=
  let z (f : Fld) : Bool := s.f32 f == 0
  s.flag (Reg.LOOP_SLOT_CFG_SCHED_EN c) && s.rd (Reg.LOOP_SLOT_CFG_SCHED_SRC c) == 0xA420 + s.rd (Reg.CELL_ID_ARM c)
    && s.rd (Reg.LOOP_SLOT_CFG_N_REG c) == 1 && z (Reg.LOOP_SLOT_CFG_BOUND0 c) && [0, 1].all (fun r => z (Reg.LOOP_REGION_KI c r)
    && z (Reg.LOOP_REGION_KD c r)) && decide (s.f32 (Reg.LOOP_REGION_KP c 0) ≤ 0 ∧ 0 ≤ s.f32 (Reg.LOOP_REGION_KP c 1))

/-- Whether a slot is as the slot map has it (R338). -/
def State.slotMapped (s : State) (n : Nat) : Bool :=
  let on := s.flag (Reg.LOOP_SLOT_CFG_EN n)
  let as := on && s.shapeOf n == s.shapeWanted n
  if n < 1024 then
    if n % 512 < s.rd Reg.ROUTE_TABLE_TOTAL_CELLS then as && (decide (512 ≤ n) || s.balanceOk n) else !on
  else if n < 1072 then as || !(s.armOn ((n - 1024) / 2))
  else on

/-- The first slot that breaks the slot map. -/
def State.firstBadSlot (s : State) : Option Nat := (List.range 1073).find? (fun n => !(s.slotMapped n))

/-- ACTIVE × UDC_REF ≥ 1.05 × √2 × V_NOM_LL / √3 for every enabled arm, compared as squares (R328). -/
def State.udcEnough (s : State) (udc : Rat) : Bool :=
  s.arms.all (fun a =>
    let u := (s.rd (Reg.ARM_CFG_ACTIVE a) : Rat) * udc
    decide (s.f32 Reg.POL_GRID_V_NOM_LL * s.f32 Reg.POL_GRID_V_NOM_LL * 2 / 3 * (21 / 20) * (21 / 20) ≤ u * u))

/-- Every enabled route is READY or DEGRADED. -/
def State.routesReady (s : State) : Bool := s.routes.all (fun n => s.rd (Reg.ROUTE_STAT_STATE n) == 3 || s.rd (Reg.ROUTE_STAT_STATE n) == 4)

/-- A command that leaves STANDBY towards PRECHARGE with a run-up target (R129, R327, R328). -/
def State.leaveStandby (s : State) (target cause : Nat) : VRes :=
  let lc := s.rd Reg.LC_STATE_STATE
  if lc = 0 ∨ lc = 4 then s.no Status.LIFECYCLE_REFUSED
  else if !s.pol.configOk || !s.routesReady then s.no Status.STATE_REFUSED
  else match s.firstBadSlot with
    | some n => (s.event Ev.SLOT_MAP_INVALID (subj 5 n)).no Status.STATE_REFUSED
    | none =>
      if !(s.udcEnough (s.setpoint 2).value) then s.no Status.VALUE_OUT_OF_RANGE
      else if s.rd Reg.SAFE_STAT_DEMAND ≠ 0 ∨ !(s.flag Reg.SAFE_STAT_OUT_ALLOWED) then s.no Status.STATE_REFUSED
      else if s.shortArms ≠ [] then
        (s.shortArms.foldl (fun t a => t.event Ev.ARM_NOT_READY (subj 3 a)) s).no Status.STATE_REFUSED
      else (({ s with pol := { s.pol with target := max s.pol.target target } }).goTo St.PRECHARGE cause).okNext

/-! ### STATE, START, STOP, TRIP -/

/-- A controlled stop by command. -/
def State.stopBy (s : State) (cause : Nat) : State := ({ s with pol := { s.pol with stopFault := false } }).goTo St.STOPPING cause

/-- The report of STATE (R165). -/
def State.report (s : State) : List Byte :=
  beBytes 1 s.station ++ beBytes 1 (s.rd Reg.POL_STATE_PREV) ++ beBytes 6 s.pol.entryStage ++ beBytes 2 (s.rd Reg.POL_STATE_CAUSE)

/-- A raised run-up target. -/
def State.aim (s : State) (target : Nat) : State := { s with pol := { s.pol with target := max s.pol.target target } }

/-- The action of STATE (R327). -/
def actState (target : Option Byte) : Action := fun s =>
  let st := s.station
  let done (r : VRes) : VRes := if r.status = Status.OK then { r with payload := s.report } else r
  done (match target with
    | none => s.ok
    | some t =>
      match t.toNat with
      | 0 => if 2 < st then s.no Status.STATE_REFUSED else if st = 0 then s.ok else (s.goTo St.OFF 0x0110).okNext
      | 1 =>
        if s.rd Reg.LC_STATE_STATE = 4 then s.no Status.LIFECYCLE_REFUSED
        else if 2 < st then s.no Status.STATE_REFUSED
        else if st = 1 then s.ok else (s.goTo St.SELFTEST 0x0110).okNext
      | 2 => if st = 2 ∨ st = 7 then s.ok else if 3 ≤ st ∧ st ≤ 6 then (s.stopBy 0x0110).okNext else s.no Status.STATE_REFUSED
      | 3 => if st = 2 then s.leaveStandby 3 0x0110 else if st = 3 then s.ok else s.no Status.STATE_REFUSED
      | 4 =>
        if st = 2 then s.leaveStandby 4 0x0110 else if st = 3 then (s.aim 4).okNext else if st = 4 then s.ok
        else s.no Status.STATE_REFUSED
      | _ => s.no Status.VALUE_OUT_OF_RANGE)

/-- STATE (R327). -/
def execState (r : Req) (target : Option Byte) (s : State) : Res :=
  execVerb s r Verb.STATE 0 true (.state r target) (actState target)

/-- The action of START with TARGET 0 (R158, R202, R327). Its reply waits for the boundary. -/
def actStartConverter : Action := fun s =>
  let st := s.station
  let held (r : VRes) : VRes :=
    if r.status = Status.OK then
      { r with st := { r.st with pol := { r.st.pol with launchConv := true } }, hold := some (.start false), stage := s.stage + 1 }
    else r
  if s.pol.haltConv then s.no Status.STATE_REFUSED
  else if st = 2 then held (s.leaveStandby 5 0x0111)
  else if st = 3 ∨ st = 4 then held ((s.aim 5).okNext)
  else if s.runs then held s.ok
  else s.no Status.STATE_REFUSED

/-- START_CONVERTER (R202). -/
def execStartConverter (r : Req) (s : State) : Res := execVerb s r Verb.START 0 false (.startConverter r) actStartConverter

/-- The action of STOP with TARGET 0. -/
def actStopConverter : Action := fun s =>
  let s' := { s with pol := { s.pol with haltConv := true } }
  if 3 ≤ s.station ∧ s.station ≤ 6 then (s'.stopBy 0x0112).okNext else s'.ok

/-- STOP_CONVERTER (R327). -/
def execStopConverter (r : Req) (s : State) : Res := execVerb s r Verb.STOP 0 false (.stopConverter r) actStopConverter

/-- The action of STOP with TARGET 2. -/
def actStopArm (arm : Byte) : Action := fun s =>
  let a := arm.toNat
  if 23 < a ∨ !(s.armOn a) then s.no Status.VALUE_OUT_OF_RANGE
  else if 4 ≤ s.station ∧ s.station ≤ 6 then ({ s with pol := { s.pol with groupStops := s.pol.groupStops ++ [a] } }).okNext
  else s.no Status.STATE_REFUSED

/-- STOP_ARM (R327, R351). -/
def execStopArm (r : Req) (arm : Byte) (s : State) : Res := execVerb s r Verb.STOP 0 false (.stopArm r arm) (actStopArm arm)

/-- The action of TRIP (R451, R454): HOST_TRIP is raised, and the command journalled with its reason. -/
def actTrip (reason : BitVec 16) : Action := fun s =>
  let s := { s with pol := { s.pol with haltConv := true, haltDrive := true } }
  ((s.event Ev.TRIP_COMMAND 0 (beBytes 2 reason.toNat)).raise Code.HOST_TRIP .f3).okNext

/-- TRIP (R451). -/
def execTrip (r : Req) (reason : BitVec 16) (s : State) : Res := execVerb s r Verb.TRIP 0 false (.trip r reason) (actTrip reason)

/-! ### SETPOINT and RAMP (R166, R343, R403) -/

/-- The range of a setpoint's ID; none where the ID does not exist. -/
def State.setpointRange (s : State) (id : Nat) : Option (Rat × Rat) :=
  let rpm : Rat := (s.f32 Reg.DRV_MOTOR_MAX_RPM)
  let imax := s.f32 Reg.DRV_MOTOR_I_MAX
  if id = 1 then some (750, 1500) else if id = 2 then some (600, 1200)
  else if id = 3 then some (-(s.f32 Reg.POL_CFG_Q_MAX), s.f32 Reg.POL_CFG_Q_MAX)
  else if id = 4 then some (0, 60000000)
  else if id = 0x100 then some (-rpm, rpm) else if id = 0x101 then some (-imax, 0)
  else if id = 0x102 then some (0, imax) else if id = 0x103 then some (1, 10000)
  else if 0x200 ≤ id ∧ id < 0x240 then some (-(2 ^ 128 : Nat), (2 ^ 128 : Nat))
  else none

/-- The greatest rate of a RAMP (R343, R403). -/
def maxRate (id : Nat) : Option Rat :=
  if id = 1 then some 20000 else if id = 2 then some 5000 else if id = 0x100 then some 10000 else none

/-- Why a value is refused for a setpoint, if it is. -/
def State.setpointRefusal (s : State) (id : Nat) (w : Word) : Option Nat :=
  match s.setpointRange id with
  | none => some Status.VALUE_OUT_OF_RANGE
  | some (lo, hi) =>
    let v := f32Rat w
    if !(f32Finite w) ∨ v < lo ∨ hi < v then some Status.VALUE_OUT_OF_RANGE
    else if id = 2 ∧ !(s.udcEnough v) then some Status.VALUE_OUT_OF_RANGE
    else none

/-- A SETPOINT's refusal of one entry. -/
def State.entryRefusal (s : State) (e : BitVec 16 × Word) : Option Nat :=
  match s.setpointRefusal e.1.toNat e.2 with
  | some st => some st
  | none => if (e.1 = 1 ∨ e.1 = 2) ∧ s.switching then some Status.BUSY_RUNNING else none

/-- A setpoint or ramp to take effect at the next boundary; it replaces what is pending on its ID. -/
def State.dueSet (s : State) (id : Nat) (r : SetRun) : State :=
  { s with pol := { s.pol with setDue := assocInsert (assocErase s.pol.setDue id) id r } }

/-- The action of SETPOINT (R166). -/
def actSetpoint (entries : List (BitVec 16 × Word)) : Action := fun s =>
  match entries.findSome? s.entryRefusal with
  | some st => s.no st
  | none => (entries.foldl (fun t e => t.dueSet e.1.toNat ⟨f32Rat e.2, f32Rat e.2, 0, false⟩) s).okNext

/-- SETPOINT (R166). -/
def execSetpoint (r : Req) (entries : List (BitVec 16 × Word)) (s : State) : Res :=
  execVerb s r Verb.SETPOINT 0 false (.setpoint r entries) (actSetpoint entries)

/-- The action of RAMP (R166, R343). -/
def actRamp (id : BitVec 16) (target rate : Word) : Action := fun s =>
  match s.setpointRefusal id.toNat target with
  | some st => s.no st
  | none =>
    let q := f32Rat rate
    if !(f32Finite rate) ∨ q ≤ 0 ∨ (maxRate id.toNat).any (fun m => decide (m < q)) then s.no Status.VALUE_OUT_OF_RANGE
    else (s.dueSet id.toNat ⟨0, f32Rat target, q, true⟩).okNext

/-- RAMP (R166). -/
def execRamp (r : Req) (id : BitVec 16) (target rate : Word) (s : State) : Res :=
  execVerb s r Verb.RAMP 0 false (.ramp r id target rate) (actRamp id target rate)

/-! ### TAKE_OUT and RELEASE -/

/-- The action of a write of TAKE_OUT (R347, R368). -/
def actTakeOut (c : Nat) : Action := fun s =>
  if !(s.active c) || s.leaving c || (s.cell c).slotLost then s.no Status.STATE_REFUSED
  else ({ s with pol := { s.pol with takeOuts := s.pol.takeOuts ++ [c] } }).ok

/-- TAKE_OUT (R347). -/
def execTakeOut (r : Req) (cell : Fin 512) (s : State) : Res := execVerb s r Verb.SET 0 false (.takeOut r cell) (actTakeOut cell)

/-- The action of a write of RELEASE (R349). -/
def actRelease (c : Nat) : Action := fun s =>
  if s.svc c = Svc.FAULTED ∧ 200 ≤ (s.cell c).clean ∧ !(s.tripped c) then (s.toSpare c).ok else s.no Status.STATE_REFUSED

/-- RELEASE (R349). -/
def execRelease (r : Req) (cell : Fin 512) (s : State) : Res := execVerb s r Verb.SET 0 false (.release r cell) (actRelease cell)

/-! ### Bounds and deadlines -/

/-- POLICY_SIGNAL_DEADLINE (R339). `late`: the signals of the stage are not handed over in time. -/
def execPolicySignalDeadline (late : Bool) (s : State) : Res :=
  onRun s (fun s =>
    if late then
      let n := s.pol.lateRow + 1
      let s := ({ s with pol := { s.pol with lateNow := true, lateRow := n } }).inc Reg.POL_EVENTS_LATE
      if n = 2 then s.raise Code.POLICY_LATE .f3 else s
    else { s with pol := { s.pol with lateNow := false, lateRow := 0 } })

/-- BYPASS_CONFIRM_TIMEOUT (R349). 8 stages after the first ledger due none has come. -/
def execBypassConfirmTimeout (cell : Fin 512) (s : State) : Res :=
  onRun s (fun s => if s.svc cell = Svc.BYPASSING ∧ s.rd (Reg.CELL_SVC_CAUSE cell) ≠ 7 ∧ s.firstDue (s.cell cell).bypassAt + 8 ≤ s.stage then
    s.bypassFail cell else s)

/-- A step in which a switching device's position is awaited and not reported (R324, R330, R333). -/
def State.awaitsContact (s : State) : Bool :=
  (s.station == 3 && ((s.step_ == 2 && !(s.isClosed 2)) || (s.step_ == 4 && !(s.isClosed 1)) || (s.step_ == 5 && !(s.isOpenFb 2))))
    || (s.station == 7 && s.step_ == 13 && !(s.isOpenFb 1 && s.isOpenFb 2))

/-- The present step, and the present state, have lasted this long (R330, R331, R333). -/
def State.stepLasts (s : State) (ms : Nat) : Bool := s.heldFor (s.pol.stepN * s.tsNs) (ms * 1000000)
def State.stateLasts (s : State) (ms : Nat) : Bool := s.heldFor ((s.stage - s.pol.entryStage) * s.tsNs) (ms * 1000000)

/-- CONTACT_TIMEOUT (R324). After T_CONTACT_MS. -/
def execContactTimeout (s : State) : Res :=
  onRun s (fun s => if s.awaitsContact && s.stepLasts (s.rd Reg.POL_SEQ_T_CONTACT_MS) then s.raise Code.CONTACT_TIMEOUT .f3 else s)

/-- PRECHARGE_TIMEOUT (R330). T_PRECHARGE_MS after the end of P2. -/
def execPrechargeTimeout (s : State) : Res :=
  onRun s (fun s => if s.station = 3 ∧ s.step_ = 3 ∧ s.stepLasts (s.rd Reg.POL_SEQ_T_PRECHARGE_MS) then s.raise Code.PRECHARGE_TIMEOUT .f3 else s)

/-- SYNC_TIMEOUT (R331). T_SYNC_MS after the entry to SYNC. -/
def execSyncTimeout (s : State) : Res :=
  onRun s (fun s => if s.station = 4 ∧ !s.pol.held ∧ s.stateLasts (s.rd Reg.POL_SEQ_T_SYNC_MS) then s.raise Code.SYNC_TIMEOUT .f3 else s)

/-- STOP_TIMEOUT (R333). T_STOP_MS after the entry to STOPPING. -/
def execStopTimeout (s : State) : Res :=
  onRun s (fun s => if s.station = 7 ∧ s.stateLasts (s.rd Reg.POL_SEQ_T_STOP_MS) then s.raise Code.STOP_TIMEOUT .f3 else s)

/-- RAMPDOWN_END (R333). The ramp factor has reached 0; step X3 follows at the next boundary. -/
def execRampdownEnd (s : State) : Res :=
  onRun s (fun s =>
    if s.station = 7 ∧ s.step_ = 11 ∧ s.stagesOfMs (s.rd Reg.POL_SEQ_T_RAMPDOWN_MS) ≤ s.pol.rampN + 1 then
      { s with pol := { s.pol with rampN := s.stagesOfMs (s.rd Reg.POL_SEQ_T_RAMPDOWN_MS) } }
    else s)

/-- DERATE_CLEAR (R325). No derating condition for 20,000 stages in a row. -/
def execDerateClear (s : State) : Res :=
  onRun s (fun s => if s.station = 6 ∧ !s.derated ∧ 20000 ≤ s.pol.clearN + 1 then s.goTo St.RUN 0x0302 else s)

/-- GRID_LOST (R340). The loss has persisted for LOSS_MS. -/
def execGridLost (s : State) : Res :=
  onRun s (fun s =>
    if s.flag Reg.POL_GRID_STAT_LOSS_PENDING && s.passed s.pol.lossAt (s.rd Reg.POL_GRID_LOSS_MS * 1000000) then
      let s := s.wr Reg.POL_GRID_STAT_LOSS_PENDING 0
      if 4 ≤ s.station ∧ s.station ≤ 7 then s.raise Code.GRID_LOST .f3 else s
    else s)

end Sys2Proof.Machine
end

