-- ==== Sys2Proof/Machine/Drive.lean ====
section
/-! DEFINITION. The isolated drive stage (R370 to R420): what HVS reports, trips and their effect, protection and brake, adaptive
switching times, STO, starting and stopping, the motor's signals, encoder, observer and thermistors. -/

namespace Sys2Proof.Machine

open Sys2Proof

/-! ### What the HV die works with (R390) -/

/-- The logic side writes the active values over the isolation link, where it is up (R390). -/
def State.writeHv (s : State) : State :=
  if s.drv.hvLink then { s with drv := { s.drv with hvRegs := s.regs.filter (fun p => hvHolds p.1) } } else s

/-- Whether a trip is latched: at HVS, or in effect. -/
def State.tripOn (s : State) (code : Nat) : Bool := (s.drv.fresh ++ s.drv.atB ++ s.drv.reported ++ s.drv.latched).contains code

/-- PLL_HV is locked (R88). -/
def State.hvLocked (s : State) : Bool := s.rd Reg.CLK_STAT_LOCKED / 2 ^ 3 % 2 == 1

/-! ### Trips (R391, R392) -/

/-- The SUBJECT of a trip: its channel or its leg (R454). -/
def tripSubject (code : Nat) : Nat :=
  if code < 0x0D17 then subj 7 (code % 16)
  else if code < 0x0D23 then subj 6 (code % 16)
  else if 0x0D40 ≤ code ∧ code < 0x0D43 then subj 6 (code % 16)
  else 0

/-- A trip's bit in DRV_TRIP (R411). -/
def tripBit (code : Nat) : Nat :=
  if code < 0x0D17 then code - 0x0D10
  else if code < 0x0D23 then code - 0x0D20 + 7
  else if code = 0x0D30 then 10
  else if code = 0x0D31 then 11
  else if code < 0x0D43 then code - 0x0D40 + 12
  else if code = 0x0D44 then 15
  else if code = 0x0D50 then 16
  else if code = 0x0D51 then 17
  else if code = 0x0D52 then 18
  else if code = 0x0D60 then 19
  else if code = 0x0D61 then 20
  else if code = 0x0D62 then 21
  else if code = 0x0D74 then 24
  else 22 + (code - 0x0D70) % 2

/-- Shows a trip in DRV_TRIP and raises its class D fault. -/
def State.showTrip (s : State) (code : Nat) : State :=
  let w := s.word 0x09000004 ||| ((1 : Word) <<< tripBit code)
  let w := if s.drv.softAll then w ||| ((1 : Word) <<< 25) else w
  ({ (s.setWord 0x09000004 w) with drv := { s.drv with latched := s.drv.latched ++ [code] } }).raise code .d (tripSubject code)

/-- The trips that the stage's status frame has told take effect at the boundary (R392). -/
def State.driveTrips (s : State) : State :=
  let codes := s.drv.reported.filter (fun c => !(s.drv.latched.contains c))
  let s := { s with drv := { s.drv with reported := [] } }
  match codes with
  | [] => s
  | first :: _ =>
    let s := codes.foldl State.showTrip s
    if s.drive = Drv.TRIPPED then s
    else
      let s := ((s.wr Reg.DRV_STAT_CAUSE first).driveTo Drv.TRIPPED).inc Reg.DRV_EVENTS_TRIPS
      let s := (s.slotsManual (driveSlots.take 6)).wr Reg.MOD_DRV_STARTED 0
      { s with pol := { s.pol with sigs := assocInsert (assocErase s.pol.sigs 0x502) 0x502 0 } }

/-- The status frame of the next stage carries what is latched by its boundary (R371). -/
def State.latchAtBoundary (s : State) : State := { s with drv := { s.drv with atB := s.drv.atB ++ s.drv.fresh, fresh := [] } }

def ntcTempFld (i : Nat) : Fld := if i = 0 then Reg.DRV_NTC_TEMP0 else Reg.DRV_NTC_TEMP1
def ntcStatFld (i : Nat) : Fld := if i = 0 then Reg.DRV_NTC_STAT0 else Reg.DRV_NTC_STAT1

/-- The supplies and comparators as a status frame tells them. -/
def DriveRun.told (d : DriveRun) (hb : BitVec 3) (legs : LegSense) (ov ds6 : Bool) : DriveRun :=
  { d with hb := hb, oc := legs.oc, ov := ov, ds6 := ds6, swLow := legs.swLow, atB := [], swNew := [], ntcNew := none }

/-- A switching time joins its channel's measurements of the carrier cycle (R379). -/
def addTime (l : List (Nat × Nat)) (p : Nat × Nat) : List (Nat × Nat) :=
  let (n, t) := l.getD p.1 (0, 0)
  l.set p.1 (n + 1, t + p.2)

/-- The readings of the thermistors that a status frame carries. -/
def State.showNtc (s : State) : State :=
  match s.drv.ntcNew with
  | some l => ([0, 1] : List Nat).foldl (fun t i =>
      let (temp, st) := l.getD i (0, 0)
      (t.wrS (ntcTempFld i) temp).wr (ntcStatFld i) st) s
  | none => s

/-- HVS_STATUS_FRAME (R371): the trips latched by the boundary, the supplies, the switching times and the thermistors' readings. A porter's own
latches are held and journalled (R467), and it discards its own switching times (R381). `hb`: the legs with their bootstrap supply above its
rising threshold; `legs`, `ov` and `ds6`: the comparators. -/
def execHvsStatusFrame (hb : BitVec 3) (legs : LegSense) (ov ds6 : Bool) (s : State) : Res :=
  onRun s (fun s =>
    if !s.drv.hvLink then s
    else
      let atB := s.drv.atB
      let sw := s.drv.swNew.foldl addTime s.drv.sw
      let s := s.showNtc
      let s := { s with drv := s.drv.told hb legs ov ds6 }
      if s.duo.role = 2 then
        let new := atB.filter (fun c => !(s.drv.held.contains c))
        new.foldl (fun t c => t.journal c FaultClass.d.code (tripSubject c) []) { s with drv := { s.drv with held := s.drv.held ++ new } }
      else { s with drv := { s.drv with sw := sw, reported := s.drv.reported ++ atB } })

/-- A count of cases in a row. -/
def runCount (hit : Bool) (n : Nat) : Nat := if hit then n + 1 else 0

/-- The time in ns for which a condition has held, one stage on. -/
def State.heldNs (s : State) (now : Bool) (ns : Nat) : Nat := if now then ns + s.tsNs else 0

/-! ### Short circuits (R385 to R388) -/

/-- The channels named by a set of bits. -/
def channelsOf (on : BitVec 7) : List Nat := (List.range 7).filter on.getLsbD

/-- A short report of a leg, with the channels that would turn off two-level. The first decides; another leg's within 100 ns of it changes
every channel that is not yet off to the two-level path (R387). -/
def State.shortReport (s : State) (leg code : Nat) (first : List Nat) (quick : Bool) (on : BitVec 7) : State :=
  if !(s.driveActive || (s.drive == Drv.OFF && tripInOff code)) then s
  else
    let d := s.drv
    let d :=
      if d.shorts = [] then { d with soft := first }
      else if quick && !(d.shorts.contains leg) then { d with soft := channelsOf on, softAll := true }
      else d
    let s := if d.softAll then { s with mod := { s.mod with gate := { s.mod.gate with clamp := s.mod.gate.clamp &&& ~~~on } } } else s
    ({ s with drv := { d with shorts := if d.shorts.contains leg then d.shorts else d.shorts ++ [leg] } }.inc Reg.DRV_EVENTS_SHORTS).latchTrip
      code

/-- DESAT (R385). `quick`: within 100 ns of the first short report; `on`: the channels whose gate is not yet below the Miller threshold. -/
def execDesat (ch : Fin 7) (quick : Bool) (on : BitVec 7) (s : State) : Res :=
  onRun s (fun s =>
    if s.hvVal (Reg.DRV_GATE_DS_EN ch) = 0 ∨ s.drive = Drv.OFF ∨ s.drive = Drv.TRIPPED then s
    else
      let lost := ch.val == 6 && s.ovBrake
      let s := s.shortReport (if ch.val = 6 then 3 else ch.val % 3) (0x0D10 + ch.val) [ch.val] quick on
      let s := if ch.val = 6 then { s with drv := { s.drv with ds6 := true, brakeCut := true } } else s
      if lost then s.raise Code.DRV_BRAKE_LOST .f3 (subj 7 6) else s)

/-- OC_FAST (R386). `centivolts`: |IS_x| in units of 10 mV. -/
def execOcFast (leg : Fin 3) (centivolts : BitVec 16) (quick : Bool) (on : BitVec 7) (s : State) : Res :=
  onRun s (fun s =>
    if centivolts.toNat ≤ s.hvVal Reg.DRV_PROT_OC_V then s
    else
      let s := { s with drv := { s.drv with oc := s.drv.oc ||| ((1 : BitVec 3) <<< leg.val) } }
      s.shortReport leg.val (0x0D20 + leg.val) ((channelsOf on).filter (fun c => c == leg.val || c == leg.val + 3)) quick on)

/-- SOFT_TURNOFF_END (R387). -/
def execSoftTurnoffEnd (s : State) : Res :=
  onRun s (fun s =>
    let c := if s.flag Reg.DRV_CFG_MILLER_EN then s.mod.gate.clamp ||| chanMask s.drv.soft else s.mod.gate.clamp
    { s with drv := { s.drv with soft := [] }, mod := { s.mod with gate := { s.mod.gate with clamp := c } } })

/-- The gates of channels 0 to 5 are off. -/
def State.gatesLow (s : State) : Bool := (s.mod.gate.on &&& 0x3F) == 0 && s.drv.soft.all (fun c => c == 6)

/-- DRV_SHORT_PERSIST (R392): the comparator stands 10 µs after every gate of channels 0 to 5 is off. -/
def execDrvShortPersist (leg : Fin 3) (s : State) : Res :=
  onRun s (fun s =>
    if s.tripOn (0x0D20 + leg.val) && s.drv.oc.getLsbD leg && s.gatesLow && s.heldFor s.drv.offNs 10000 then s.raise Code.DRV_SHORT_PERSIST .f3 (subj 6 leg) else s)

/-! ### Bus over-voltage and brake (R389) -/

/-- OV_TRIP (R389). `volts`: the bus voltage. It needs neither VIN nor the logic side. -/
def execOvTrip (volts : BitVec 16) (s : State) : Res :=
  always s (fun s =>
    if s.flag Reg.ID_SUPPLY_STAT_VGD_OK && decide (s.hvVal Reg.DRV_PROT_OV_TRIP_V ≤ volts.toNat) then
      ({ s with drv := { s.drv with ov := true } }).latchTrip 0x0D30
    else s)

/-- DRV_BUS_OV (R392): the comparator stands 10 ms after the trip. -/
def execDrvBusOv (s : State) : Res :=
  onRun s (fun s => if s.tripOn 0x0D30 && s.drv.ov && s.heldFor s.drv.ovNs 10000000 then s.raise Code.DRV_BUS_OV .f3 else s)

/-- OV_BRAKE_ON (R389). It needs neither VIN nor the logic side. -/
def execOvBrakeOn (volts : BitVec 16) (s : State) : Res :=
  always s (fun s =>
    if s.flag Reg.ID_SUPPLY_STAT_VGD_OK && !s.drv.brake && decide (s.hvVal Reg.DRV_PROT_OV_BRAKE_ON_V ≤ volts.toNat) then
      let s := { s with drv := { s.drv with brake := true } }
      let s := if s.ovBrake then { s with mod := { s.mod with gate := { s.mod.gate with clamp := s.mod.gate.clamp &&& ~~~(chanMask [6]) } } } else s
      if s.running then s.inc Reg.DRV_EVENTS_OV_BRAKE_ON else s
    else s)

/-- OV_BRAKE_OFF (R389). -/
def execOvBrakeOff (volts : BitVec 16) (s : State) : Res :=
  always s (fun s =>
    if volts.toNat + s.hvVal Reg.DRV_PROT_OV_BRAKE_HYST ≤ s.hvVal Reg.DRV_PROT_OV_BRAKE_ON_V then
      let s := if s.ovBrake && !(s.mod.gate.on.getLsbD 6) && s.flag Reg.DRV_CFG_MILLER_EN then
          { s with mod := { s.mod with gate := { s.mod.gate with clamp := s.mod.gate.clamp ||| chanMask [6] } } }
        else s
      { s with drv := { s.drv with brake := false } }
    else s)

/-- BOOTSTRAP_UV (R383). -/
def execBootstrapUv (leg : Fin 3) (s : State) : Res :=
  onRun s (fun s => if s.driveActive then s.latchTrip (0x0D40 + leg.val) else s)

/-! ### Adaptive switching time (R377 to R381) -/

/-- SWITCH_TIME_MEASURE (R378). `first`: from the gate edge to the first crossing, `span`: between the crossings, both in counts of
1.25 ns. The next status frame carries it. -/
def execSwitchTimeMeasure (ch : Fin 6) (first span : BitVec 16) (s : State) : Res :=
  onRun s (fun s =>
    if s.rd Reg.DRV_CFG_ATTR * 2 < first.toNat ∨ 800 < span.toNat then s
    else { s with drv := { s.drv with swNew := s.drv.swNew ++ [(ch.val, span.toNat)] } })

/-- A channel's level at the end of a drive carrier cycle (R379). The journal entry's SUBJECT is the leg, as R24 has it, and its DATA names the
channel (DESIGN CHOICE, log entry 67). -/
def State.adaptChannel (s : State) (ch : Nat) : State :=
  let (n, t) := s.drv.sw.getD ch (0, 0)
  let s := (s.wr (Reg.DRV_CHAN_MEAS_COUNT ch) (min 255 n)).wr (Reg.DRV_CHAN_T_SW ch) (if n = 0 then 0xFFFF else (2 * t + n) / (2 * n))
  let old := s.rd (Reg.DRV_CHAN_LEVEL ch)
  let ns : Rat := (t : Rat) * (5 / 4) / (n : Rat)
  let goal : Rat := s.rd (Reg.DRV_GATE_T_TARGET ch)
  let new :=
    if !(s.flag Reg.DRV_CFG_ADAPT_EN) then s.rd (Reg.DRV_GATE_INIT_LVL ch)
    else if n = 0 then old
    else if goal * 11 / 10 < ns then (if old < s.rd (Reg.DRV_GATE_MAX_LVL ch) then old + 1 else old)
    else if ns < goal * 9 / 10 then (if s.rd (Reg.DRV_GATE_MIN_LVL ch) < old then old - 1 else old)
    else old
  if new = old then s
  else ((s.wr (Reg.DRV_CHAN_LEVEL ch) new).inc (Reg.DRV_CHAN_LEVEL_CHANGES ch)).adapt 4 (subj 6 (ch % 3))
    (beBytes 1 ch ++ beBytes 1 old ++ beBytes 1 new)

/-- The present stage is the last of a carrier cycle of DRV_N stages (R262, R379). -/
def State.cycleEnds (s : State) : Bool := (s.stage + 1) % s.rd Reg.MOD_CFG_DRV_N == 0

/-- ADAPT_LEVEL (R379), at the end of a carrier cycle. -/
def execAdaptLevel (s : State) : Res :=
  onRun s (fun s =>
    if !s.cycleEnds then s else
    let s := (List.range 6).foldl State.adaptChannel s
    { s with drv := { s.drv with sw := List.replicate 6 (0, 0) } })

/-- Every channel takes its INIT_LVL (R380). -/
def State.initLevels (s : State) : State :=
  let s := (List.range 7).foldl (fun t ch => t.wr (Reg.DRV_CHAN_LEVEL ch) (t.rd (Reg.DRV_GATE_INIT_LVL ch))) s
  { s with drv := { s.drv with sw := List.replicate 6 (0, 0) } }

/-! ### STO (R394) -/

/-- The driver enable goes or comes at the HV die: without it the gates turn off, and edge sets act no more. -/
def State.gateEnable (s : State) : State := if s.driverEnable then s else s.gatesOff

/-- STO_LINE_CHANGE (R394). The lines act on the HV die whether the controller runs or not. -/
def execStoLineChange (asserted : Bool) (s : State) : Res :=
  always s (fun s => ({ s with drv := { s.drv with sto := asserted } }).gateEnable)

/-! ### Starting and stopping (R396 to R400) -/

/-- Whether a drive slot is as R400 has it. -/
def State.driveSlotOk (s : State) (n : Nat) : Bool :=
  let x := n - 1080
  let z (f : Fld) (q : Rat) : Bool := s.f32 f == q
  let common := s.flag (Reg.LOOP_SLOT_CFG_EN n) && !(s.flag (Reg.LOOP_SLOT_CFG_SCHED_EN n)) && z (Reg.LOOP_REGION_KD n 0) 0
    && s.rd (Reg.LOOP_SLOT_CFG_FB_KIND n) == (if n = 1086 then 0 else 3)
  if n < 1083 then
    common && s.rd (Reg.LOOP_SLOT_CFG_DEST_KIND n) == 0
      && s.rd (Reg.LOOP_SLOT_CFG_PV_SRC n) == 0xA800 + [0, 2, 3].getD x 0 && s.rd (Reg.LOOP_SLOT_CFG_SP_SRC n) == 0xA800 + [1, 4, 5].getD x 0
  else
    common && s.rd (Reg.LOOP_SLOT_CFG_DEST_KIND n) == (if n = 1086 then 4 else 3)
      && s.rd (Reg.LOOP_SLOT_CFG_DEST_INDEX n) == (if n = 1086 then 0 else n - 1083)
      && s.rd (Reg.LOOP_SLOT_CFG_PV_SRC n) == 0 && s.rd (Reg.LOOP_SLOT_CFG_SP_SRC n) == 0xA806 + (n - 1083)
      && z (Reg.LOOP_REGION_KP n 0) 1 && z (Reg.LOOP_REGION_KI n 0) 0 && z (Reg.LOOP_SLOT_CFG_OUT_HI n) 1
      && z (Reg.LOOP_SLOT_CFG_OUT_LO n) (if n = 1086 then 0 else -1) && z (Reg.LOOP_SLOT_CFG_I_PRESET n) 0
      && (decide (n ≠ 1086) || z (Reg.LOOP_SLOT_CFG_FB_OUT n) 0)

/-- A thermistor that is enabled reads over-range or short. -/
def State.ntcBad (s : State) : Bool :=
  [s.rd Reg.DRV_NTC_STAT0, s.rd Reg.DRV_NTC_STAT1].any (fun x => x == 1 || x == 2)

/-- The action of START with TARGET 1 (R158, R397). Its reply waits for the boundary. -/
def actStartDrive : Action := fun s =>
  let held (r : VRes) : VRes := { r with hold := some (.start true), stage := s.stage + 1 }
  if s.pol.haltDrive then s.no Status.STATE_REFUSED
  else if !s.runs then s.no Status.STATE_REFUSED
  else if s.drive = Drv.CHARGING ∨ s.drive = Drv.RUNNING then held s.ok
  else if !(s.flag Reg.ID_SUPPLY_STAT_VGD_OK) || !s.drv.hvLink || !s.hvLocked then s.no Status.NOT_READY
  else if s.drive ≠ Drv.OFF ∨ s.drv.sto ∨ !s.drv.grant then s.no Status.STATE_REFUSED
  else if s.ntcBad then s.no Status.NOT_READY
  else match driveSlots.find? (fun n => !(s.driveSlotOk n)) with
    | some n => (s.event Ev.DRV_SLOT_MAP_INVALID (subj 5 n)).no Status.STATE_REFUSED
    | none => held ({ s with pol := { s.pol with launchDrive := true } }).ok

/-- START_DRIVE (R397). -/
def execStartDrive (r : Req) (s : State) : Res := execVerb s r Verb.START 0 false (.startDrive r) actStartDrive

/-- The action of STOP with TARGET 1. -/
def actStopDrive : Action := fun s =>
  let s := { s with pol := { s.pol with haltDrive := true } }
  if s.drive = Drv.CHARGING ∨ s.drive = Drv.RUNNING then ({ s with drv := { s.drv with stopDue := true } }).okNext else s.ok

/-- STOP_DRIVE (R396). -/
def execStopDrive (r : Req) (s : State) : Res := execVerb s r Verb.STOP 0 false (.stopDrive r) actStopDrive

/-- Step D1: CHARGING begins (R398). -/
def State.startDrive (s : State) : State :=
  let s := s.driveTo Drv.CHARGING
  { s with drv := { s.drv with stepN := 0, boot := 0, y2 := false, onObs := false, shorts := [], soft := [], softAll := false } }

/-- BOOT_CHARGE_CHECK (R398). Step D3, on HB_OK of the last status frame. -/
def execBootChargeCheck (s : State) : Res :=
  onRun s (fun s =>
    if s.drive = Drv.CHARGING ∧ s.drv.boot = 0 ∧ s.rd Reg.DRV_CFG_BOOT_PULSES * 10 + 2 ≤ s.drv.stepN then
      if s.drv.hb = 7 then { s with drv := { s.drv with boot := 1 } } else s.latchTrip 0x0D44
    else s)

/-- The observer is valid (R405). -/
def State.obsValid (s : State) : Bool := decide (100 ≤ s.drv.obsN)

/-- Step D4. With FEEDBACK at the observer and the observer not valid, the start is open loop; the angle at which its ramp begins is
free (log entry 2). -/
def State.stepD4 (s : State) : State :=
  let s := (s.initLevels).wr Reg.MOD_DRV_STARTED 1
  let s := { s with drv := { s.drv with boot := 2, speedRef := s.f32 Reg.DRV_ENC_SPEED } }
  if s.flag Reg.DRV_CFG_FEEDBACK && !s.obsValid then
    let w := s.takeFree
    let s := { w.2 with drv := { w.2.drv with rampTheta := fracOf (outRat w.1), rampRpm := 0 } }
    let s := (s.wr Reg.DRV_STAT_OPEN_LOOP 1).slotManual 1080 (BitVec.ofNat 32 (s.rd Reg.DRV_MOTOR_I_START))
    (driveSlots.drop 1).foldl State.slotAuto s
  else (driveSlots.foldl State.slotAuto s).wr Reg.DRV_STAT_OPEN_LOOP 0

/-- Step Y1 can be complete: the speed has lain below ZERO_RPM for 20,000 stages, or T_DRV_STOP_MS has elapsed since the entry (R399). -/
def State.stopEnds (s : State) (late : Bool) : Bool :=
  if late then s.heldFor (s.drv.stepN * s.tsNs) (s.rd Reg.DRV_MOTOR_T_DRV_STOP_MS * 1000000) else decide (20000 ≤ s.drv.zeroN)

/-- DRIVE_STOP_END (R399). `late`: T_DRV_STOP_MS has elapsed. Step Y2 begins. -/
def execDriveStopEnd (late : Bool) (s : State) : Res :=
  onRun s (fun s =>
    if s.drive = Drv.STOPPING ∧ !s.drv.y2 ∧ s.stopEnds late then
      let s := if late then s.event Ev.DRV_STOP_TIMEOUT else s
      let s := (s.slotsManual driveSlots).wr Reg.MOD_DRV_STARTED 0
      { s with drv := { s.drv with y2 := true } }
    else s)

/-- The speed lies above 1.1 times MAX_RPM (R391). -/
def State.tooFast (s : State) (rpm : Rat) : Bool := decide (s.f32 Reg.DRV_MOTOR_MAX_RPM * 11 / 10 < absRat rpm)

/-- OVERSPEED (R391): the speed has lain above the limit for 10 stages. -/
def execOverspeed (s : State) : Res :=
  onRun s (fun s =>
    if s.driveActive && s.tooFast (s.f32 Reg.DRV_ENC_SPEED) && decide (10 ≤ s.drv.overN) then s.latchTrip 0x0D62 else s)

/-! ### The encoder (R404) -/

/-- The place of a pair of levels in the quadrature cycle, A leading in the positive direction (log entry 21). -/
def quad (a b : Bool) : Nat := if a then (if b then 2 else 1) else (if b then 3 else 0)

/-- The counts of a revolution. -/
def State.encRev (s : State) : Nat := 4 * s.rd Reg.DRV_ENC_LINES

/-- A difference of two 32-bit counts. -/
def countDiff (x y : Nat) : Int := toSigned 32 (x + 2 ^ 32 - y % 2 ^ 32)

/-- An index pulse: the interval since the last one is checked. -/
def State.encIndex (s : State) : State :=
  let bad := match s.drv.zAt with
    | some p => decide (4 < ((countDiff s.drv.encPos p).natAbs : Int) - s.encRev ∨ 4 < (s.encRev : Int) - (countDiff s.drv.encPos p).natAbs)
    | none => false
  let s := if s.flag Reg.DRV_CFG_Z_EN && bad then s.inc Reg.DRV_ENC_MISCOUNT else s
  { s with drv := { s.drv with zAt := some s.drv.encPos, zBad := if bad then s.drv.zBad + 1 else 0 } }

/-- ENCODER_EDGE (R404). The accepted levels of ENC_A, ENC_B and ENC_Z after a transition. Before its bank is classified the pads take nothing
in (R35, R36). -/
def execEncoderEdge (a b z : Bool) (s : State) : Res :=
  onRun s (fun s =>
    if s.rd Reg.ID_VIO_STAT_CLASS2 = 0 then s else
    let d := (quad a b + 4 - quad s.drv.encA s.drv.encB) % 4
    let rise := z && !s.drv.encZ
    let pos := if d = 1 then (s.drv.encPos + 1) % 2 ^ 32 else if d = 3 then (s.drv.encPos + 2 ^ 32 - 1) % 2 ^ 32 else s.drv.encPos
    let s := { s with drv := { s.drv with encA := a, encB := b, encZ := z, encPos := pos } }
    let s := if d = 2 then ({ s with drv := { s.drv with illegal := (s.drv.illegal ++ [s.stage]).drop (s.drv.illegal.length - 15) } }).inc Reg.DRV_ENC_ILLEGAL
      else s
    if rise then s.encIndex else s)

/-- The encoder counts as failed now (R404). -/
def State.encFailed (s : State) : Bool :=
  (decide (s.drv.illegal.length = 16) && decide ((s.stage - s.drv.illegal.headD 0) * s.tsNs ≤ 1000000))
    || (s.flag Reg.DRV_CFG_Z_EN && (decide (3 ≤ s.drv.zBad) || match s.drv.zAt with
      | some p => decide (11 * s.encRev < 10 * (countDiff s.drv.encPos p).natAbs)
      | none => false))
    || s.rd Reg.ID_VIO_STAT_CLASS2 == 0 || decide (200 ≤ s.drv.apart)

/-- The encoder's position is latched, and its speed is the mean over 2^SPEED_AVG stages. -/
def State.latchEncoder (s : State) : State :=
  let h := (s.drv.encPos :: s.drv.encHist).take 65
  let m := min (2 ^ s.rd Reg.DRV_ENC_SPEED_AVG) (h.length - 1)
  let turns : Rat := (countDiff (h.headD 0) (h.getD m 0) : Rat) / (s.encRev : Rat)
  let rpm := if m = 0 then 0 else turns * 60 / ((m : Rat) * s.tsSec)
  let s := s.wr Reg.DRV_ENC_POSITION s.drv.encPos
  { s with drv := { s.drv with encHist := h, encRpm := rpm, encNs := s.heldNs (!s.encFailed) s.drv.encNs } }

/-! ### The motor's signals (R401 to R406) -/

/-- The observer is the feedback in use. -/
def State.usesObs (s : State) : Bool := s.flag Reg.DRV_CFG_FEEDBACK || s.drv.onObs

/-- The electrical angle in turns by the encoder. -/
def State.encTheta (s : State) : Rat :=
  fracOf ((s.rd Reg.DRV_MOTOR_POLE_PAIRS : Rat) * (s.rd Reg.DRV_ENC_POSITION : Rat) / (s.encRev : Rat) + (s.rd Reg.DRV_ENC_ANGLE_OFS : Rat) / 65536)

/-- The angle in turns and the speed in rpm of the feedback in use. -/
def State.feedback (s : State) : Rat × Rat :=
  if s.flag Reg.DRV_STAT_OPEN_LOOP then (s.drv.rampTheta, s.drv.rampRpm)
  else if s.usesObs then (outRat s.drv.obsTheta, outRat s.drv.obsRpm)
  else (s.encTheta, s.drv.encRpm)

/-- A quotient of the cores; free where its divisor is 0 (log entry 2). -/
def State.quot (s : State) (x y : Rat) : Rat × State := if y = 0 then (outRat s.takeFree.1, s.takeFree.2) else (x / y, s)

/-- The drive's signals of a stage (R402). -/
def State.driveSignals (s : State) : State :=
  let scale := s.f32 Reg.DRV_PROT_IS_SCALE
  let i0 := (s.measOf 256).1 * scale
  let i1 := (s.measOf 257).1 * scale
  let i2 := (s.measOf 258).1 * scale
  let vbus := (s.measOf 259).1
  let root3 := Config.sqrt 3
  let fb := s.feedback
  let poles : Rat := s.rd Reg.DRV_MOTOR_POLE_PAIRS
  let turnsPerS := fb.2 / 60 * poles
  let ia := (2 * i0 - i1 - i2) / 3
  let ib := (i1 - i2) / root3
  let cs := Config.cosTurn fb.1
  let sn := Config.sinTurn fb.1
  let id := ia * cs + ib * sn
  let iq := -ia * sn + ib * cs
  let idRef := (s.setpoint 0x101).value
  let ilim := min (s.setpoint 0x102).value (s.f32 Reg.DRV_MOTOR_I_MAX * (s.rd Reg.THERM_DRV_F_DRV : Rat) / 8)
  let we := absRat (2 * Config.pi * turnsPerS)
  let lim := min ilim (Config.sqrt (ilim * ilim - idRef * idRef))
  let (iqp, s) := if turnsPerS = 0 then (lim, s) else s.quot (s.f32 Reg.POL_STATE_P_LIMIT_EFF) (3 / 2 * s.f32 Reg.DRV_MOTOR_PSI * we)
  let lim := min lim iqp
  let iqRef := clampRat (-lim) lim (s.slotVal 1080)
  let vd := s.slotVal 1081
  let vq := s.slotVal 1082
  let ta := fracOf (fb.1 + turnsPerS * (9 / 2) * s.tsSec)
  let va := vd * Config.cosTurn ta - vq * Config.sinTurn ta
  let vb := vd * Config.sinTurn ta + vq * Config.cosTurn ta
  let (m0, s) := s.quot va (vbus / 2)
  let (m1, s) := s.quot (-va / 2 + root3 / 2 * vb) (vbus / 2)
  let (m2, s) := s.quot (-va / 2 - root3 / 2 * vb) (vbus / 2)
  let (brk, s) := s.quot (vbus - 21 / 20 * s.vbusRef) (1 / 20 * s.vbusRef)
  let sigs := [fb.2, s.drv.speedRef, id, iq, idRef, iqRef, m0, m1, m2, clampRat 0 1 brk]
  let s := sigs.zipIdx.foldl (fun t p => t.handSig (0x800 + p.2) p.1) s
  let s := (s.handSig 0x502 (3 / 2 * (vd * id + vq * iq))).wrF Reg.DRV_ENC_SPEED fb.2
  let o := Config.observer s.drv.obsTheta s.drv.obsRpm
    [va, vb, ia, ib, s.f32 Reg.DRV_MOTOR_RS, s.f32 Reg.DRV_MOTOR_LD, s.f32 Reg.DRV_MOTOR_LQ, s.f32 Reg.DRV_MOTOR_PSI, poles, s.tsSec]
  let fast := decide (s.f32 Reg.DRV_MOTOR_OBS_MIN_RPM ≤ absRat (outRat o.2))
  let n := if fast then s.drv.obsN + 1 else 0
  let diff := fracOf (s.encTheta - outRat o.1)
  let away := decide (100 ≤ n) && decide (1 / 8 < diff ∧ diff < 7 / 8)
  let slow := s.drive == Drv.STOPPING && decide (absRat fb.2 < s.f32 Reg.DRV_MOTOR_ZERO_RPM)
  { s with
    drv := { s.drv with
      obsTheta := o.1
      obsRpm := o.2
      obsN := n
      apart := if away then s.drv.apart + 1 else 0
      overN := runCount (s.tooFast fb.2) s.drv.overN
      zeroN := runCount slow s.drv.zeroN } }

/-- A failed encoder trips the drive stage, or hands over to the observer (R404, R406). -/
def State.watchEncoder (s : State) : State :=
  if s.driveActive && !s.usesObs && s.encFailed then
    if s.flag Reg.DRV_CFG_ENC_FALLBACK && s.obsValid then
      ({ s with drv := { s.drv with onObs := true } }).raise Code.ENC_TO_OBSERVER .f0
    else s.latchTrip 0x0D60
  else s

/-- A stage of the open-loop start: its ramp, and its end (R405). -/
def State.openLoop (s : State) : State :=
  if s.flag Reg.DRV_STAT_OPEN_LOOP && s.driveActive then
    let rpm := s.drv.rampRpm + s.f32 Reg.DRV_MOTOR_START_RATE * s.tsSec
    let th := fracOf (s.drv.rampTheta + rpm / 60 * (s.rd Reg.DRV_MOTOR_POLE_PAIRS : Rat) * s.tsSec)
    let s := { s with drv := { s.drv with rampRpm := rpm, rampTheta := th } }
    let least := s.f32 Reg.DRV_MOTOR_OBS_MIN_RPM
    if s.obsValid && decide (least ≤ rpm) then
      (({ s with drv := { s.drv with speedRef := outRat s.drv.obsRpm } }).wr Reg.DRV_STAT_OPEN_LOOP 0).slotAuto 1080
    else if 2 * least ≤ rpm then s.latchTrip 0x0D61
    else s
  else s

/-- SPEED_REF_NOW's movement in a stage: towards SPEED_REF, or towards 0 while stopping (R399, R403). -/
def State.moveSpeedRef (s : State) : State :=
  let goal := if s.drive = Drv.STOPPING then 0 else (s.setpoint 0x100).value
  { s with drv := { s.drv with speedRef := towards s.drv.speedRef goal ((s.setpoint 0x103).value * s.tsSec) } }

/-- The cores' stage for the drive stage. -/
def State.driveStage (s : State) : State := (s.moveSpeedRef.driveSignals.watchEncoder).openLoop

/-! ### The stage boundary -/

/-- The sequences' progress at a boundary (R398, R399). -/
def State.driveSequence (s : State) : State :=
  if s.drive = Drv.CHARGING then
    let s := { s with drv := { s.drv with stepN := s.drv.stepN + 1 } }
    if s.drv.boot = 1 then s.stepD4
    else if s.drv.boot = 2 then (({ s with drv := { s.drv with boot := 0 } }).driveTo Drv.RUNNING).inc Reg.DRV_EVENTS_STARTS
    else s
  else if s.drive = Drv.STOPPING then
    if s.drv.y2 then ({ s with drv := { s.drv with y2 := false } }).driveTo Drv.OFF
    else { s with drv := { s.drv with stepN := s.drv.stepN + 1 } }
  else s

/-- What the commands of the stage order of the drive stage (R158, R396). -/
def State.driveOrders (s : State) : State :=
  let s := if s.drv.clearDue && s.drive == Drv.TRIPPED then s.driveTo Drv.OFF else s
  let s := s.driveTrips
  let s := if s.drv.stopDue then s.driveStop else s
  let s := if s.pol.launchDrive && !s.pol.haltDrive && s.drive == Drv.OFF then s.startDrive else s
  let s := { s with drv := { s.drv with clearDue := false, stopDue := false } }
  if s.drv.sto && s.driveActive then s.driveOff else s

/-- Shows the drive stage in DRV_STAT (R410). -/
def State.showDrive (s : State) : State :=
  let s := (s.wrB Reg.DRV_STAT_STO s.drv.sto).wrB Reg.DRV_STAT_GRANT s.drv.grant
  let s := (s.wrB Reg.DRV_STAT_HV_LINK s.drv.hvLink).wrB Reg.DRV_STAT_OV_BRAKE s.ovBrake
  let s := (s.wr Reg.DRV_STAT_HB_OK s.drv.hb.toNat).wrB Reg.DRV_STAT_SOFT_ACTIVE (s.drv.soft != [])
  let s := if s.driveActive then s else s.wr Reg.DRV_STAT_OPEN_LOOP 0
  s.wrB Reg.DRV_STAT_FEEDBACK_NOW s.usesObs

/-- How long the conditions of R391 and R392 have held, one stage on. -/
def State.holdTimes (s : State) : State :=
  { s with
    drv := { s.drv with
      vgdNs := s.heldNs (s.flag Reg.ID_SUPPLY_STAT_VGD_OK) s.drv.vgdNs
      hvNs := s.heldNs s.hvLocked s.drv.hvNs
      offNs := s.heldNs s.gatesLow s.drv.offNs
      ovNs := s.heldNs (s.tripOn 0x0D30 && s.drv.ov) s.drv.ovNs } }

/-- The drive stage at a boundary, in the stage that begins. -/
def State.driveBoundary (s : State) : State :=
  let run := s.drive == Drv.CHARGING || s.drive == Drv.STOPPING
  let s := if run then s.driveSequence else s
  let s := s.driveOrders.latchAtBoundary
  let s := s.holdTimes
  s.latchEncoder.showDrive

/-! ### Clearing (R393) -/

/-- A latched trip has its clear condition (R391). -/
def State.tripClear (s : State) (code : Nat) : Bool :=
  if code < 0x0D17 then !(s.drv.fresh.contains code)
  else if code < 0x0D23 then !(s.drv.oc.getLsbD (code % 16))
  else if code = 0x0D30 then !s.drv.ov
  else if code = 0x0D31 then decide (10000000 ≤ s.drv.vgdNs)
  else if code < 0x0D45 then s.flag Reg.ID_SUPPLY_STAT_VGD_OK
  else if code = 0x0D50 then decide (10000000 ≤ s.drv.hvNs)
  else if code = 0x0D51 then decide (3 ≤ s.drv.goodSets)
  else if code = 0x0D60 then decide (100000000 ≤ s.drv.encNs)
  else if code = 0x0D62 then decide (absRat (s.f32 Reg.DRV_ENC_SPEED) < s.f32 Reg.DRV_MOTOR_MAX_RPM)
  else if 0x0D70 ≤ code ∧ code < 0x0D74 then decide (100 ≤ s.drv.ntcIn.getD (code % 2) 0)
  else if code = 0x0D74 then
    !s.therm.hvShut && [0, 1].all (fun i => decide ((s.therm.ntc.getD i {}).code < 3) || !(s.rd Reg.DRV_NTC_NTC_EN / 2 ^ i % 2 == 1))
  else true

/-- Why CLEAR with DRIVE is refused, if it is. -/
def State.clearDriveRefusal (s : State) : Option Nat :=
  if s.drv.soft ≠ [] ∨ (s.drv.fresh ++ s.drv.atB ++ s.drv.reported ++ s.drv.latched).any (fun c => !(s.tripClear c)) then
    some Status.TRIP_STILL_ACTIVE
  else none

/-- CLEAR with DRIVE, accepted: DRV_TRIP is cleared, and OFF follows at the boundary. -/
def State.clearDriveTrips (s : State) : State :=
  let s := (s.setWord 0x09000004 0).wr Reg.DRV_STAT_CAUSE 0
  { s with drv := { s.drv with latched := [], shorts := [], softAll := false, brakeCut := false, clearDue := true } }

/-! ### Thermistors (R407, R571) -/

/-- The thresholds of the thermistors in 0.1 °C (R579). -/
def State.ntcLimits (s : State) : List Int :=
  [s.rd Reg.THERM_NTC_LIM_WARN * 10, s.rd Reg.THERM_NTC_LIM_THROTTLE * 10, s.rd Reg.THERM_NTC_LIM_SHUTDOWN * 10]

/-- Shows the level of a thermistor (R580). -/
def ntcLevelFld (i : Nat) : Fld := if i = 0 then Reg.THERM_DRV_LEVEL_NTC0 else Reg.THERM_DRV_LEVEL_NTC1

/-- The last samples of a thermistor with a further one; a sample above 5.0 V counts as full scale (log entry 6). -/
def State.ntcSamples (s : State) (i code : Nat) (overScale : Bool) : List Nat :=
  ((if overScale then 4096 else code) :: s.drv.ntc.getD i []).take 8

/-- The samples of a thermistor, and its readings in a row that are open while the drive runs, shorted, and within the range. -/
def DriveRun.countNtc (d : DriveRun) (i : Nat) (l : List Nat) (opened low inRange : Bool) : DriveRun :=
  { d with
    ntc := d.ntc.set i l
    ntcOver := d.ntcOver.set i (runCount opened (d.ntcOver.getD i 0))
    ntcShort := d.ntcShort.set i (runCount low (d.ntcShort.getD i 0))
    ntcIn := d.ntcIn.set i (runCount inRange (d.ntcIn.getD i 0)) }

/-- A reading waits for the next status frame. -/
def DriveRun.readNtc (d : DriveRun) (i : Nat) (temp : Int) (st : Nat) : DriveRun :=
  { d with ntcNew := some ((d.ntcNew.getD [(0, 0), (0, 0)]).set i (temp, st)) }

/-- The level of a thermistor after a reading, and what it orders (R564, R571). -/
def State.levelNtc (s : State) (i : Nat) (reading : Int) : State :=
  let old := s.therm.ntc.getD i {}
  let new := old.next 2 s.ntcLimits reading
  let f := stepFactor (s.therm.fNtc.getD i 8) (stepAtOnce old.code new.code)
  let steps := if stepAtOnce old.code new.code = 0 then s.therm.stepAt else s.therm.stepAt.setIfInBounds (2 + i) (s.timeOf 1)
  let s := ({ s with therm := { s.therm with ntc := s.therm.ntc.set i new, fNtc := s.therm.fNtc.setIfInBounds i f, stepAt := steps } }).wr (ntcLevelFld i) new.code
  if new.code = 3 ∧ old.code ≠ 3 then s.latchTrip 0x0D74 else s

/-- The trips of an open and of a shorted thermistor (R407). -/
def State.tripNtc (s : State) (i : Nat) : State :=
  let s := if s.drv.ntcOver.getD i 0 = 100 then s.latchTrip (0x0D70 + i) else s
  if s.drv.ntcShort.getD i 0 = 100 then s.latchTrip (0x0D72 + i) else s

/-- One thermistor's sample: its reading is the mean of the last 8. -/
def State.sampleNtc (s : State) (i code : Nat) (overScale : Bool) : State :=
  let on := s.rd Reg.DRV_NTC_NTC_EN / 2 ^ i % 2 == 1
  let l := s.ntcSamples i code overScale
  let mean : Rat := (l.sum : Rat) / (l.length : Rat)
  let high := decide (mean = 4096)
  let low := decide (mean * 5 / 4096 < 1 / 20)
  let temp := Config.ntcTemp mean
  let s := { s with drv := s.drv.readNtc i temp (if !on then 3 else if high then 1 else if low then 2 else 0) }
  let s := { s with drv := s.drv.countNtc i l (high && s.drive == Drv.RUNNING) low (!high && !low) }
  if !on then s
  else (s.levelNtc i (if low then max temp (s.ntcLimits.getD 2 0) else temp)).tripNtc i

/-- The motor current factor, from the next boundary on (R571). -/
def State.driveFactor (s : State) : Nat :=
  [0, 1].foldl (fun f i => if s.rd Reg.DRV_NTC_NTC_EN / 2 ^ i % 2 = 1 then min f (s.therm.fNtc.getD i 8) else f) s.therm.fHv

/-- NTC_SAMPLE (R407). The codes of the two thermistors, and whether an input lies above 5.0 V. -/
def execNtcSample (code0 code1 : BitVec 12) (over0 over1 : Bool) (s : State) : Res :=
  onRun s (fun s => if s.drv.hvLink then (s.sampleNtc 0 code0.toNat over0).sampleNtc 1 code1.toNat over1 else s)

end Sys2Proof.Machine
end

