-- ==== Sys2Proof/Machine/Meas.lean ====
section
/-! DEFINITION. The measurement system (R421 to R446): itineraries, results and their handover, the sigma-delta path, relief runs and
calibration. -/

namespace Sys2Proof.Machine

open Sys2Proof

/-! ### The result table (R428, R442) -/

/-- An entry as MEAS holds it. -/
def State.entryOf (s : State) (i : Nat) : MeasEntry := (assocGet s.meas.table i).getD {}
def State.setEntry (s : State) (i : Nat) (e : MeasEntry) : State :=
  { s with meas := { s.meas with table := assocInsert (assocErase s.meas.table i) i e } }

/-- A converter's itinerary. -/
def State.adcOf (s : State) (x : Fin 4) : AdcRun := s.meas.adc[x]
def State.setAdc (s : State) (x : Fin 4) (r : AdcRun) : State := { s with meas := { s.meas with adc := s.meas.adc.set x r } }

/-- A write into an entry. One that is already new is replaced and counted as an overrun. -/
def MeasEntry.put (old new : MeasEntry) : MeasEntry :=
  { new with stale := false, new := true, age := 0, overran := old.new, count := if old.new then min 0xFFFF (old.count + 1) else old.count }

/-- A quotient rounded to the nearest integer, ties away from zero (R425). -/
def roundAway (q : Rat) : Int := if q < 0 then -((-q + 1 / 2).floor) else (q + 1 / 2).floor

/-- A corrected code (R445): exact, with the coefficients of a converter and a gain. -/
def State.corrected (s : State) (x g : Nat) (raw : Int) : Rat :=
  let a := 0x0A000300 + 0x20 * x + 4 * g
  let w := s.word a
  (raw : Rat) * (1 + (toSigned 16 (w.toNat % 65536) : Rat) / (2 ^ 18 : Nat)) - (toSigned 16 (w.toNat / 65536) : Rat) / 16

/-- A code held at full scale (R422). -/
def clampCode (v : Int) : Int := max (-32767) (min 32767 v)

/-- The stage of a sample, some boundaries ago. -/
def State.stageAgo (s : State) (ago : Byte) : Nat := (s.stage + 2 ^ 48 - ago.toNat) % 2 ^ 32

/-! ### Itineraries (R423 to R425) -/

/-- The converter that carries out an itinerary: ADC4 in a relief run (R434). -/
def State.relieved (s : State) (x : Fin 4) : Bool := s.flag (Reg.MEAS_DATA_RELIEVED x)

/-- An instant of the drive carrier, delayed, falls in the present stage: the carrier's position in fine counts (R262, R423). -/
def State.carrierHere (s : State) (x : Fin 4) (j pos : Nat) : Bool :=
  let T := s.drvPeriod
  decide ((pos + 16 * s.rd (Reg.MEAS_STOP_DELAY x j) + T - s.stage % s.rd Reg.MOD_CFG_DRV_N * s.stageFine % T) % T < s.stageFine)

/-- A trigger instant of a stop falls in the present stage: the valley and the peak of the drive carrier are those that HVS applies (R423). -/
def State.instantHere (s : State) (x : Fin 4) (j : Nat) : Bool :=
  let valley := s.carrierHere x j 0
  let peak := s.carrierHere x j (s.drvPeriod / 2)
  if s.rd (Reg.MEAS_STOP_TRIGGER x j) = 2 then
    (match s.rd (Reg.MEAS_ADC_CFG_EVENT x) with | 0 => valley | 1 => peak | _ => valley || peak)
  else true

/-- The stops whose instant of the stage has come. -/
def AdcRun.firedIn (r : AdcRun) (stage : Nat) : List Nat := if r.fired.1 = stage then r.fired.2 else []

/-- The next stop to be triggered: that at which an idle converter waits, or the one after the stop in progress. -/
def State.awaited (s : State) (x : Fin 4) : Nat :=
  let r := s.adcOf x
  if r.busy then (r.stop + 1) % s.rd (Reg.MEAS_ADC_CFG_STOP_COUNT x) else r.stop

/-- The stop has a trigger: STAGE or EVENT. -/
def State.timedStop (s : State) (x : Fin 4) (j : Nat) : Bool := s.rd (Reg.MEAS_STOP_TRIGGER x j) != 0

/-- The awaited stop can start, or its instant pass, in the present stage. -/
def State.triggerComes (s : State) (x : Fin 4) : Bool :=
  let j := s.awaited x
  if s.timedStop x j then s.instantHere x j && !(((s.adcOf x).firedIn s.stage).contains j) else !(s.adcOf x).busy

/-- ADC_STOP_TRIGGER (R423, R424). `late`: the instant falls less than ACQ after the multiplexer switched. An instant that passes while an
earlier stop is converted is missed. -/
def execAdcStopTrigger (x : Fin 4) (late : Bool) (s : State) : Res :=
  onRun s (fun s =>
    if !(s.flag (Reg.MEAS_ADC_CFG_EN x)) || !s.triggerComes x then s
    else
      let r := s.adcOf x
      let j := s.awaited x
      let timed := s.timedStop x j
      let s := s.setAdc x { r with busy := true, fired := if timed then (s.stage, r.firedIn s.stage ++ [j]) else r.fired }
      if r.busy then s.inc (Reg.MEAS_ADC_CFG_TRIG_MISSED x)
      else if late && timed then s.inc (Reg.MEAS_ADC_CFG_TRIG_LATE x)
      else s)

/-- The result of a stop: its conversions as raw codes with their OVR. A change of gain makes the first one a settling conversion, which is
left out of a mean of more than one. -/
def State.stopResult (s : State) (x : Fin 4) (convs : List (BitVec 16 × Bool)) : Option MeasEntry :=
  let r := s.adcOf x
  let j := r.stop
  let g := s.rd (Reg.MEAS_STOP_GAIN x j)
  let n := s.rd (Reg.MEAS_STOP_REPEAT x j)
  let changed := decide (r.gain ≠ none ∧ r.gain ≠ some g)
  let counted := if changed ∧ n ≠ 0 then convs.drop 1 else convs
  if counted.length ≠ n + 1 then none
  else
    let adc := if s.relieved x then 4 else x.val
    let mean := sumRat (counted.map (fun c => s.corrected adc g (toSigned 16 c.1.toNat))) / (n + 1 : Nat)
    let code := clampCode (roundAway mean)
    let i := s.rd (Reg.MEAS_STOP_RESULT x j)
    let volts : Rat := (code : Rat) * (5 / 2) / ((32768 * 2 ^ g : Nat) : Rat)
    some { value := f32OfRat (volts * s.f32 (Reg.MEAS_SCALE_SCALE i) + s.f32 (Reg.MEAS_SCALE_OFFSET i))
           code := ofSigned 16 code, ovr := counted.any (fun c => c.2), settle := changed && n == 0
           source := if s.relieved x then 1 else 0, stop := j, conv := x }

/-- The data register of a converter (R428, R441). -/
def State.showData (s : State) (adc i : Nat) (e : MeasEntry) : State :=
  let s := ((s.wr (Reg.MEAS_DATA_CODE adc) e.code).wrB (Reg.MEAS_DATA_OVR adc) e.ovr).wrB (Reg.MEAS_DATA_SETTLE adc) e.settle
  let s := ((s.wrB (Reg.MEAS_DATA_STALE adc) e.stale).wrB (Reg.MEAS_DATA_OVERRUN adc) e.overran).wr (Reg.MEAS_DATA_STOP adc) e.stop
  s.wr (Reg.MEAS_DATA_RESULT adc) i

/-- ADC_RESULT_WRITE (R425). The conversions of the stop in progress, the boundaries since the mean sample instant and its place after
the boundary before it. -/
def execAdcResultWrite (x : Fin 4) (convs : List (BitVec 16 × Bool)) (ago : Byte) (sample : BitVec 16) (s : State) : Res :=
  onRun s (fun s =>
    let r := s.adcOf x
    if !(s.flag (Reg.MEAS_ADC_CFG_EN x)) || !r.busy then s
    else match s.stopResult x convs with
      | none => s
      | some e =>
        let i := s.rd (Reg.MEAS_STOP_RESULT x r.stop)
        let e := (s.entryOf i).put { e with stage := s.stageAgo ago, sample := sample.toNat }
        let s := (s.setEntry i e).showData (if s.relieved x then 4 else x.val) i e
        let s := if s.relieved x then { s with meas := { s.meas with last4 := (x.val, 0) } } else s
        s.setAdc x { r with stop := (r.stop + 1) % s.rd (Reg.MEAS_ADC_CFG_STOP_COUNT x), busy := false
                            gain := some (s.rd (Reg.MEAS_STOP_GAIN x r.stop)), age := if s.relieved x then r.age else 0 })

/-! ### The handover cut (R428) -/

/-- An entry that a cut has taken. -/
def MeasEntry.taken (e : MeasEntry) : MeasEntry := { e with new := false, age := e.age + 1 }

/-- Hands one entry over to LOOP. -/
def State.handEntry (s : State) (p : Nat × MeasEntry) : State :=
  let i := p.1
  let e := p.2
  let s := ((s.wr (Reg.MEAS_RESULT_VALUE i) e.value.toNat).wr (Reg.MEAS_RESULT_CODE i) e.code).wrB (Reg.MEAS_RESULT_OVR i) e.ovr
  let s := ((s.wrB (Reg.MEAS_RESULT_SETTLE i) e.settle).wrB (Reg.MEAS_RESULT_STALE i) e.stale).wrB (Reg.MEAS_RESULT_OVERRUN i) e.overran
  let s := ((s.wrB (Reg.MEAS_RESULT_NEW i) e.new).wr (Reg.MEAS_RESULT_SOURCE i) e.source).wr (Reg.MEAS_RESULT_STOP i) e.stop
  let s := ((s.wr (Reg.MEAS_RESULT_STAGE i) e.stage).wr (Reg.MEAS_RESULT_SAMPLE i) e.sample).wr (Reg.MEAS_RESULT_OVERRUN_CNT i) e.count
  s.setEntry i e.taken

/-- The hand over of the whole table. A porter in step takes the keeper's results in place of its own (R466). -/
def State.handTable (s : State) : State :=
  if s.duo.role = 2 then { s with meas := { s.meas with table := s.meas.table.map (fun p => (p.1, p.2.taken)) } }
  else s.meas.table.foldl State.handEntry s

/-- The times of the measurement system, one cut on (R428, R434, R435). -/
def State.ageMeas (s : State) : State :=
  let auto := s.rd Reg.MEAS_CAL_CFG_AUTO_S != 0
  let run := s.meas.relief.any (fun p => p.2 == .running)
  { s with
    meas := { s.meas with
      cutAt := some s.stage
      adc := s.meas.adc.map (fun r => { r with age := r.age + 1 })
      last4 := (s.meas.last4.1, s.meas.last4.2 + 1)
      reliefNs := s.heldNs run s.meas.reliefNs
      autoNs := s.heldNs auto s.meas.autoNs } }

/-- A bit of a set of four. -/
def bit4 (n : Nat) (m : Fin 4) : Bool := n / 2 ^ m.val % 2 == 1
def putBit4 (n : Nat) (m : Fin 4) (b : Bool) : Nat := if bit4 n m = b then n else if b then n + 2 ^ m.val else n - 2 ^ m.val

/-- The notice of a lost bitstream (R432). -/
def State.tellLost (s : State) (m : Fin 4) : State := s.raise Code.MEAS_SD_LOST .f0 (subj 10 (256 + m.val))

/-- From the cut on, a bitstream that is lost shows in LOST and in its result, and is journalled (R432). -/
def State.cutLost (s : State) (m : Fin 4) : State :=
  if !(bit4 s.meas.sdFell m) then s
  else
    let s := s.wr Reg.MEAS_SD_STAT_LOST (putBit4 (s.rd Reg.MEAS_SD_STAT_LOST) m true)
    (({ s with meas := { s.meas with sdFell := putBit4 s.meas.sdFell m false } }).setEntry (256 + m.val)
      { s.entryOf (256 + m.val) with stale := true }).tellLost m

/-- MEAS_HANDOVER_CUT (R428). Once in a stage. -/
def execMeasHandoverCut (s : State) : Res :=
  onRun s (fun s =>
    if s.meas.cutAt = some s.stage then s
    else (([0, 1, 2, 3] : List (Fin 4)).foldl State.cutLost s.ageMeas).handTable)

/-- Marks an entry as stale where its converter's bound has passed. -/
def State.staleEntry (limit : Nat) (x : Fin 4) (s : State) (p : Nat × MeasEntry) : State :=
  if p.1 < 256 ∧ p.2.conv = x.val ∧ limit ≤ p.2.age then s.setEntry p.1 { p.2 with stale := true } else s

/-- The entries of a converter become stale that it has not written for `limit` stages. -/
def State.staleFrom (s : State) (x : Fin 4) (limit : Nat) : State := s.meas.table.foldl (State.staleEntry limit x) s

/-- The data registers become STALE of a converter that has written nothing for `limit` stages: its own, and that of ADC4 where it last wrote
for this converter (R428). -/
def State.staleData (s : State) (x : Fin 4) (limit : Nat) : State :=
  let s := if limit ≤ (s.adcOf x).age then s.wr (Reg.MEAS_DATA_STALE x) 1 else s
  if s.meas.last4.1 = x.val ∧ limit ≤ s.meas.last4.2 then s.wr (Reg.MEAS_DATA_STALE 4) 1 else s

/-- RESULT_STALE (R428). TIMEOUT stages have passed without a write. -/
def execResultStale (x : Fin 4) (s : State) : Res :=
  onRun s (fun s =>
    let limit := s.rd (Reg.MEAS_ADC_CFG_TIMEOUT x)
    (s.staleFrom x limit).staleData x limit)

/-! ### The sigma-delta path (R429 to R432) -/

/-- The voltage range of a modulator, and what its bus divider multiplies (R427). -/
def sdScale (m : Fin 4) : Rat := if m.val = 3 then 4 / 32768 * 500 else 16 / 5 / 32768

/-- Filter outputs that carry SETTLE still come. -/
def State.setSettle (s : State) (m : Fin 4) (n : Nat) : State :=
  ({ s with meas := { s.meas with settle := s.meas.settle.set m n } }).wr Reg.MEAS_SD_STAT_SETTLING
    (putBit4 (s.rd Reg.MEAS_SD_STAT_SETTLING) m (n != 0))

/-- Whether a calibration's offset lies within ±20 mV and its gain within ±2 %, for a full scale of 32,768 codes (R436). -/
def coefOk (fullScale : Rat) (c : Int × Int) : Bool :=
  decide (absRat (c.1 : Rat) / 16 * fullScale / 32768 ≤ 1 / 50 ∧ absRat (c.2 : Rat) ≤ (2 ^ 18 : Nat) / 50 ∧ -32768 ≤ c.1 ∧ c.1 ≤ 32767)

/-- Puts an output into the offset calibration: the first 1,024 with the input shorted, the next 1,024 with no current flowing. -/
def sdTake (p : Nat × Int × Int) (raw : Int) : Nat × Int × Int :=
  if p.1 < 1024 then (p.1 + 1, p.2.1 + raw, p.2.2) else if p.1 < 2048 then (p.1 + 1, p.2.1, p.2.2 + raw) else p

/-- The offset that a calibration gives a modulator, in 1/16 code: for IS0 to IS2 with no current flowing, for DCP with the input
shorted. -/
def sdOffset (m : Nat) (p : Nat × Int × Int) : Int := roundAway ((if m = 3 then p.2.1 else p.2.2 : Int) * 16 / 1024)

/-- Shows a finished calibration of a converter: its coefficients where it succeeded, its counts (R445). -/
def State.showCal (s : State) (x : Nat) (cs : List (Int × Int)) (ok : Bool) : State :=
  let s := if ok then
      cs.zipIdx.foldl (fun t p => t.setWord (0x0A000300 + 0x20 * x + 4 * p.2)
        (BitVec.ofNat 32 (ofSigned 16 p.1.1 * 65536 + ofSigned 16 p.1.2))) s
    else s.inc (Reg.MEAS_CAL_FAIL_COUNT x)
  (s.wr (Reg.MEAS_CAL_CAL_STAGE x) s.stage32).inc (Reg.MEAS_CAL_CAL_COUNT x)

/-- The end of the offset calibration (R436). -/
def State.endSdCal (s : State) (l : List (Nat × Int × Int)) : State :=
  let offs := l.zipIdx.map (fun p => sdOffset p.2 p.1)
  let ok := offs.zipIdx.all (fun p => coefOk (if p.2 = 3 then 4 else 16 / 5) (p.1, 0))
  let s := { s with meas := { s.meas with calSd := none } }
  let s := offs.zipIdx.foldl (fun t p =>
    t.showCal (5 + p.2) [(p.1, toSigned 16 (t.rd (Reg.MEAS_CAL_GAIN_CORR0 (5 + p.2))))] ok) s
  if ok then s.endOps (fun o => o == .calSd) Status.OK (offs.map (fun o => beBytes 2 (ofSigned 16 o))).flatten
  else s.endOps (fun o => o == .calSd) Status.CAL_FAILED []

/-- An output's part in the offset calibration. -/
def State.sdCalStep (s : State) (m : Fin 4) (raw : Int) : State :=
  match s.meas.calSd with
  | none => s
  | some l =>
    let l := l.set m (sdTake (l.getD m (0, 0, 0)) raw)
    if l.all (fun p => p.1 == 2048) then s.endSdCal l else { s with meas := { s.meas with calSd := some l } }

/-- A bitstream is lost (R432). -/
def State.sdDown (s : State) (m : Fin 4) : Bool := bit4 (s.rd Reg.MEAS_SD_STAT_LOST) m || bit4 s.meas.sdFell m

/-- SD_FILTER_OUTPUT (R429). The raw code of a filter's output, whether the input lies outside its range, and its sample instant. -/
def execSdFilterOutput (m : Fin 4) (code : BitVec 16) (ovr : Bool) (ago : Byte) (sample : BitVec 16) (s : State) : Res :=
  onRun s (fun s =>
    if s.sdDown m then s
    else
      let raw := toSigned 16 code.toNat
      let v := max (-32768) (min 32767 (roundAway (s.corrected (5 + m.val) 0 raw)))
      let left := s.meas.settle.getD m 0
      let i := 256 + m.val
      let e : MeasEntry := { value := f32OfRat ((v : Rat) * sdScale m), code := ofSigned 16 v, ovr := ovr, settle := left != 0, source := 2
                             stage := s.stageAgo ago, sample := sample.toNat }
      let s := s.setEntry i ((s.entryOf i).put e)
      (s.setSettle m (left - 1)).sdCalStep m raw)

/-- SD_BITSTREAM_LOST (R432). It shows from the next cut on. -/
def execSdBitstreamLost (m : Fin 4) (s : State) : Res :=
  onRun s (fun s =>
    if s.sdDown m then s
    else ({ s with meas := { s.meas with sdFell := putBit4 s.meas.sdFell m true } }).inc Reg.MEAS_SD_STAT_LOSS_COUNT)

/-- SD_BITSTREAM_RECOVER (R432). A loss that ends before a cut is journalled all the same. -/
def execSdBitstreamRecover (m : Fin 4) (s : State) : Res :=
  onRun s (fun s =>
    if !(s.sdDown m) then s
    else
      let s := if bit4 s.meas.sdFell m then s.tellLost m else s
      let s := { s with meas := { s.meas with sdFell := putBit4 s.meas.sdFell m false } }
      (s.wr Reg.MEAS_SD_STAT_LOST (putBit4 (s.rd Reg.MEAS_SD_STAT_LOST) m false)).setSettle m 3)

/-! ### Relief runs and calibration (R434 to R436) -/

/-- Shows the queue in MEAS_RELIEF. -/
def State.showQueue (s : State) : State := s.wr Reg.MEAS_RELIEF_QUEUED (s.meas.queue.foldl (fun n x => n + 2 ^ x) 0)

/-- A request for a relief run; one for a converter that has an entry is attached to it. -/
def State.askRelief (s : State) (x : Nat) : State :=
  if s.meas.queue.contains x || (s.meas.relief.map (fun p => p.1)) == some x then s
  else ({ s with meas := { s.meas with queue := s.meas.queue ++ [x] } }).showQueue

/-- The action of CAL 0x0A00 + x. -/
def actCalAdc (x : Fin 4) (param : Word) : Action := fun s =>
  if param ≠ 0 then s.no Status.VALUE_OUT_OF_RANGE else (s.askRelief x).wait (.cal x) s.stage

/-- CAL_ADC (R436). -/
def execCalAdc (r : Req) (x : Fin 4) (param : Word) (s : State) : Res :=
  execVerb s r Verb.CAL 0 false (.calAdc r x param) (actCalAdc x param)

/-- The action of CAL 0x0A04. -/
def actCalAdc4 (param : Word) : Action := fun s =>
  if param ≠ 0 then s.no Status.VALUE_OUT_OF_RANGE
  else if s.meas.queue ≠ [] ∨ s.meas.relief.isSome ∨ s.meas.cal4 then s.no Status.RESOURCE_BUSY
  else ({ s with meas := { s.meas with cal4 := true } }).wait .cal4 s.stage

/-- CAL_ADC4 (R436). -/
def execCalAdc4 (r : Req) (param : Word) (s : State) : Res := execVerb s r Verb.CAL 0 false (.calAdc4 r param) (actCalAdc4 param)

/-- The action of CAL 0x0A10. -/
def actCalSdOffset (param : Word) : Action := fun s =>
  if param ≠ 0 then s.no Status.VALUE_OUT_OF_RANGE
  else if s.station ≠ St.STANDBY then s.no Status.BUSY_RUNNING
  else if s.meas.calSd.isSome then s.no Status.RESOURCE_BUSY
  else ({ s with meas := { s.meas with calSd := some (List.replicate 4 (0, 0, 0)) } }).wait .calSd s.stage

/-- CAL_SD_OFFSET (R436). It ends with the last of its filter outputs. -/
def execCalSdOffset (r : Req) (param : Word) (s : State) : Res :=
  execVerb s r Verb.CAL 0 false (.calSdOffset r param) (actCalSdOffset param)

/-- RELIEF_RUN_START (R434). ADC4 takes the first request of the queue. -/
def execReliefRunStart (s : State) : Res :=
  onRun s (fun s =>
    match s.meas.queue with
    | x :: rest =>
      if s.meas.relief.isSome || s.meas.cal4 then s
      else
        let s := ({ s with meas := { s.meas with queue := rest, relief := some (x, .connected), coefs := none } }).showQueue
        (((s.wr Reg.MEAS_RELIEF_BUSY 1).wr Reg.MEAS_RELIEF_SERVING x).wr (Reg.MEAS_DATA_RELIEF_OF 4) x).inc Reg.MEAS_RELIEF_RUNS
    | [] => s)

/-- The gain of an itinerary's next stop is set before it is taken over, so that no result settles for it (R434). -/
def State.preset (s : State) (x : Fin 4) : State :=
  let r := s.adcOf x
  s.setAdc x { r with gain := some (s.rd (Reg.MEAS_STOP_GAIN x r.stop)) }

/-- RELIEF_HANDOVER (R434). -/
def execReliefHandover (s : State) : Res :=
  onRun s (fun s =>
    match s.meas.relief with
    | some (n, .connected) =>
      let x := Fin.ofNat 4 n
      if (s.adcOf x).busy then s
      else (({ s with meas := { s.meas with relief := some (n, .running), reliefNs := 0 } }).preset x).wr (Reg.MEAS_DATA_RELIEVED x) 1
    | _ => s)

/-- The full scale of a gain. -/
def gainScale (g : Nat) : Rat := 5 / 2 / (2 ^ g : Nat)

/-- Whether a converter's coefficients for its four gains are within their bounds. -/
def coefsOk (cs : Coefs) : Bool := decide (cs.length = 4) && cs.zipIdx.all (fun p => coefOk (gainScale p.2) p.1)

/-- RELIEF_CAL_END (R434), 2.0 ms after the handover. The coefficients that the converter has found. -/
def execReliefCalEnd (coefs : List (Int × Int)) (s : State) : Res :=
  onRun s (fun s =>
    match s.meas.relief with
    | some (n, .running) => if !(s.heldFor s.meas.reliefNs 2000000) then s else { s with meas := { s.meas with relief := some (n, .calibrated), coefs := some coefs } }
    | _ => s)

/-- The reply of a calibration (R436). -/
def coefBytes (cs : Coefs) : List Byte := (cs.map (fun c => beBytes 2 (ofSigned 16 c.1) ++ beBytes 2 (ofSigned 16 c.2))).flatten

/-- A calibration's end: coefficients, counts and replies. -/
def State.endCal (s : State) (x : Nat) (cs : Coefs) (f : LongOp → Bool) : State :=
  let ok := coefsOk cs
  let s := s.showCal x cs ok
  if ok then s.endOps f Status.OK (coefBytes cs) else s.endOps f Status.CAL_FAILED []

/-- RELIEF_HANDBACK (R434). -/
def execReliefHandback (s : State) : Res :=
  onRun s (fun s =>
    match s.meas.relief with
    | some (n, .calibrated) =>
      let x := Fin.ofNat 4 n
      if (s.adcOf x).busy then s
      else
        let cs := s.meas.coefs.getD []
        let s := (({ s with meas := { s.meas with relief := none, coefs := none } }).preset x).wr (Reg.MEAS_DATA_RELIEVED x) 0
        let s := ((s.wr Reg.MEAS_RELIEF_BUSY 0).wr Reg.MEAS_RELIEF_SERVING 7).wr (Reg.MEAS_DATA_RELIEF_OF 4) 7
        s.endCal n cs (fun o => o == .cal n)
    | _ => s)

/-- ADC4_CAL_DONE (R436). -/
def execAdc4CalDone (coefs : List (Int × Int)) (s : State) : Res :=
  onRun s (fun s =>
    if s.meas.cal4 then ({ s with meas := { s.meas with cal4 := false } }).endCal 4 coefs (fun o => o == LongOp.cal4) else s)

/-- AUTO_CAL_REQUEST (R435): one every AUTO_S / 4 seconds. -/
def execAutoCalRequest (s : State) : Res :=
  onRun s (fun s =>
    let every := s.rd Reg.MEAS_CAL_CFG_AUTO_S * 250000000
    if every = 0 ∨ !(s.heldFor s.meas.autoNs every) then s
    else ({ s with meas := { s.meas with auto := (s.meas.auto + 1) % 4, autoNs := s.meas.autoNs - every } }).askRelief s.meas.auto)

/-! ### Commits (R431, R437) -/

/-- A commit has changed a converter's itinerary: it starts again at stop 0. A disabled converter's results are stale. -/
def State.restartAdc (s : State) (x : Fin 4) : State :=
  let r := s.adcOf x
  let s := s.setAdc x { r with stop := 0, busy := false, fired := (0, []) }
  if s.flag (Reg.MEAS_ADC_CFG_EN x) then s else (s.staleFrom x 0).staleData x 0

end Sys2Proof.Machine
end

