-- ==== Sys2Proof/Machine/SafetyIsland.lean ====
section
/-! DEFINITION. The safety island (R491 to R523): its cycle of 250 µs, demands, the SS1 delay, STO and the outputs, lock-outs and their
release, the link to the controller die, and its parameters. -/

namespace Sys2Proof.Machine

open Sys2Proof

/-! ### Small parts -/

/-- A number with one bit set or cleared. -/
def withBit (v i : Nat) (b : Bool) : Nat := v - v / 2 ^ i % 2 * 2 ^ i + (if b then 2 ^ i else 0)

def State.pair (s : State) (i : Fin 8) : PairRun := s.isl.pairs[i]
def State.setPair (s : State) (i : Fin 8) (p : PairRun) : State := { s with isl := { s.isl with pairs := s.isl.pairs.set i p } }
def State.outp (s : State) (j : Fin 4) : OutRun := s.isl.outs[j]
def State.setOutp (s : State) (j : Fin 4) (o : OutRun) : State := { s with isl := { s.isl with outs := s.isl.outs.set j o } }

def pairIdx : List (Fin 8) := [0, 1, 2, 3, 4, 5, 6, 7]
def outIdx : List (Fin 4) := [0, 1, 2, 3]

/-- The KIND of a pair in the active set (R493). -/
def State.pairKind (s : State) (i : Fin 8) : Nat := s.rd (Reg.SAFE_PARAM_ACTIVE_IN_KIND i)

/-- Whether each channel of a pair is open: it has left its closed-state level (R493). -/
def State.openA (s : State) (i : Fin 8) : Bool := s.flag (Reg.SAFE_IN_A_ON i) == (s.pairKind i == 4)
def State.openB (s : State) (i : Fin 8) : Bool :=
  s.flag (Reg.SAFE_IN_B_ON i) == (s.pairKind i == 4 || s.flag (Reg.SAFE_PARAM_ACTIVE_IN_ANTIVALENT i))

/-- The channels of a pair disagree (R495). -/
def State.pairSplit (s : State) (i : Fin 8) : Bool := s.openA i != s.openB i

/-- The accepted level and the count after one more reading (R494). -/
def acceptLevel (cur : Bool) (n : Nat) (l : PadLevel) : Bool × Nat :=
  match l with
  | .between => (cur, 0)
  | .on => if cur then (cur, 0) else if 3 ≤ n then (true, 0) else (cur, n + 1)
  | .off => if !cur then (cur, 0) else if 3 ≤ n then (false, 0) else (cur, n + 1)

/-- Demands of pairs with FUNCTION STO, and with FUNCTION SS1. -/
def State.stoDemand (s : State) : Bool := pairIdx.any (fun i => (s.pair i).demand && !(s.flag (Reg.SAFE_PARAM_ACTIVE_IN_FUNCTION i)))
def State.ss1Demand (s : State) : Bool := pairIdx.any (fun i => (s.pair i).demand && s.flag (Reg.SAFE_PARAM_ACTIVE_IN_FUNCTION i))

/-- A lock-out is in force. -/
def State.locked (s : State) : Bool := s.flag Reg.SAFE_LOCK_LOCKED

/-- The island is in keep-alive, or its VIN detector acts (R46, R512). -/
def State.islandKept (s : State) : Bool :=
  decide (s.power.region ≠ .full) || s.power.stopping.any (fun p => p.1 == .brownout || p.1 == .overvoltage)

/-! ### Lock-out (R508) -/

/-- A report to the policy (R502, R508). -/
def State.islandReport (s : State) (code : Nat) (data : List Byte) : State :=
  { s with isl := { s.isl with reports := s.isl.reports ++ [(code, data)] } }

/-- The NONCE is replaced (R508, R510): its new value is free (log entry 2). -/
def State.newNonce (s : State) : State :=
  let (w, s) := s.takeFree
  s.wr Reg.SAFE_LOCK_NONCE w.toNat

/-- A cause of a lock-out: the first one locks the island out, a later one is counted and reported. -/
def State.lockOut (s : State) (cause subject : Nat) : State :=
  let was := s.locked
  let s := (s.inc Reg.SAFE_LOCK_LOCK_COUNT).islandReport Code.SAFE_LOCKOUT (beBytes 1 cause ++ beBytes 1 subject)
  let s := { s with isl := { s.isl with causes := s.isl.causes ++ [(cause, subject)] } }
  if was then s
  else
    let s := ((s.wr Reg.SAFE_LOCK_LOCKED 1).wr Reg.SAFE_LOCK_CAUSE cause).wr Reg.SAFE_LOCK_SUBJECT subject
    let s := s.wr Reg.SAFE_LOCK_STAGE (if s.flag Reg.SAFE_STAT_CTRL_LINK then s.isl.msgStage else 0)
    (s.newNonce).inc Reg.SAFE_EVENTS_LOCKOUTS

/-- Whether a cause is still present. -/
def State.causePresent (s : State) (c : Nat × Nat) : Bool :=
  match c.1 with
  | 1 => s.pairSplit (Fin.ofNat 8 c.2)
  | 2 => !(s.outp (Fin.ofNat 4 c.2)).low && !(s.flag (Reg.SAFE_OUT_ON (Fin.ofNat 4 c.2)))
  | 3 => !(s.flag (Reg.SAFE_OUT_FB_OPEN (Fin.ofNat 4 c.2))) && !(s.flag (Reg.SAFE_OUT_ON (Fin.ofNat 4 c.2)))
  | 4 => !s.isl.checkOk
  | 6 => s.isl.paramBad
  | _ => false

/-! ### STO and the outputs (R499 to R501, R504, R511, R512) -/

/-- What keeps STO asserted, the controller link apart. -/
def State.stoHeld (s : State) : Bool :=
  s.stoDemand || (s.ss1Demand && s.isl.ss1.isNone) || s.rd Reg.SAFE_STAT_STARTUP_PENDING != 0 || s.locked || s.islandKept

/-- Whether an output is to be energised (R504). ENABLE does not follow the controller link (R511). -/
def State.outWanted (s : State) (j : Fin 4) : Bool :=
  match s.rd (Reg.SAFE_PARAM_ACTIVE_OUT_ROLE j) with
  | 1 => s.flag Reg.SAFE_STAT_OUT_ALLOWED && s.isl.reqMain
  | 2 => s.flag Reg.SAFE_STAT_OUT_ALLOWED && s.isl.reqPre
  | 3 => !s.stoHeld && s.isl.ss1.isNone
  | _ => false

/-- Switches an output where that is due. -/
def State.driveOut (s : State) (j : Fin 4) : State :=
  let on := s.outWanted j
  if on = s.flag (Reg.SAFE_OUT_ON j) then s
  else (s.wrB (Reg.SAFE_OUT_ON j) on).setOutp j { s.outp j with since := 0, waits := true }

/-- The island's STATE (R518). -/
def State.islandState (s : State) : Nat :=
  if !s.isl.started then 0
  else if s.islandKept then 6
  else if s.locked then 5
  else if s.isl.ss1.isSome then 3
  else if s.rd Reg.SAFE_STAT_STARTUP_PENDING ≠ 0 then 1
  else if s.flag Reg.SAFE_STAT_STO then 4
  else 2

/-- The status registers that follow from the rest (R518, R519, R521). -/
def State.showPair (s : State) (i : Fin 8) : State :=
  let p := s.pair i
  let st := if s.pairKind i = 0 then 0 else if p.fault then 4 else if p.await then 3 else if p.demand then 2 else 1
  let s := (s.wr (Reg.SAFE_IN_PAIR_STATE i) st).wrSat (Reg.SAFE_IN_DISC_MS i) (p.disc / 4)
  s.wr Reg.SAFE_STAT_DEMAND (withBit (s.rd Reg.SAFE_STAT_DEMAND) i p.demand)

def State.showIsland (s : State) : State :=
  let s := pairIdx.foldl State.showPair s
  let s := (s.wr Reg.SAFE_STAT_STATE s.islandState).wrSat Reg.SAFE_STAT_SS1_LEFT (s.isl.ss1.getD 0 / 4)
  s.wrB Reg.SAFE_LOCK_CAUSE_PRESENT (s.locked && s.causePresent (s.rd Reg.SAFE_LOCK_CAUSE, s.rd Reg.SAFE_LOCK_SUBJECT))

/-- Asserts STO where it is due, and releases it at the end of a cycle (`ending`) in which nothing holds it; the STO lines act on the HV
die (R394, R499), and the outputs follow. -/
def State.islandAct (ending : Bool) (s : State) : State :=
  let s := if s.stoDemand || s.locked then { s with isl := { s.isl with ss1 := none } } else s
  let due := s.stoHeld || !s.isl.linkHeld
  let sto := due || (!ending && s.flag Reg.SAFE_STAT_STO)
  let s := if sto = s.flag Reg.SAFE_STAT_STO then s else ({ s with drv := { s.drv with sto := sto } }).gateEnable
  let s := (s.wrB Reg.SAFE_STAT_STO sto).wrB Reg.SAFE_STAT_OUT_ALLOWED (!sto && s.isl.ss1.isNone)
  (outIdx.foldl State.driveOut s).showIsland

/-! ### The cycle (R492 to R498, R500, R505 to R507) -/

/-- Reads the pads of a pair and of a feedback input. -/
def State.readPair (l : Vector (PadLevel × PadLevel) 8) (s : State) (i : Fin 8) : State :=
  let p := s.pair i
  let a := acceptLevel (s.flag (Reg.SAFE_IN_A_ON i)) p.na l[i].1
  let b := acceptLevel (s.flag (Reg.SAFE_IN_B_ON i)) p.nb l[i].2
  ((s.wrB (Reg.SAFE_IN_A_ON i) a.1).wrB (Reg.SAFE_IN_B_ON i) b.1).setPair i { p with na := a.2, nb := b.2 }

def State.readFb (l : Vector PadLevel 4) (s : State) (j : Fin 4) : State :=
  let o := s.outp j
  let f := acceptLevel (s.flag (Reg.SAFE_OUT_FB_OPEN j)) o.nf l[j]
  (s.wrB (Reg.SAFE_OUT_FB_OPEN j) f.1).setOutp j { o with nf := f.2 }

/-- A disagreement of some quarters of a millisecond is a fault (R495): beyond T_DISC + 1 ms always, within T_DISC − 1 ms never, and between
the two as the island's timing happens to take it. -/
def discFault (tDisc quarters : Nat) (between : Bool) : Bool :=
  decide (4 * (tDisc + 1) < quarters) || (decide (4 * (tDisc - 1) ≤ quarters) && between)

/-- Times the disagreement of a pair in use. -/
def State.timePair (disc : BitVec 8) (s : State) (i : Fin 8) : State :=
  let p := s.pair i
  if s.pairKind i = 0 then s
  else if s.pairSplit i then
    let p := { p with disc := p.disc + 1 }
    if !p.faulted && discFault (s.rd (Reg.SAFE_PARAM_ACTIVE_IN_T_DISC i)) p.disc (disc.getLsbD i) then
      let s := (s.setPair i { p with faulted := true, fault := true, both := false }).inc (Reg.SAFE_IN_DISC_FAULTS i)
      let s := if s.pairKind i = 4 then { s with isl := { s.isl with pressBad := true } } else s
      s.lockOut 1 i
    else s.setPair i p
  else
    let s := if p.faulted then s else s.wrSat (Reg.SAFE_IN_MAX_DISC_MS i) (max (s.rd (Reg.SAFE_IN_MAX_DISC_MS i)) (p.disc / 4))
    s.setPair i { p with disc := 0, faulted := false }

/-- A demand of a pair begins (R495, R500, R502). -/
def State.beginDemand (s : State) (i : Fin 8) : State :=
  let first := if s.openA i then 0 else 1
  let ss1 := s.flag (Reg.SAFE_PARAM_ACTIVE_IN_FUNCTION i)
  let alone := !s.stoDemand && !s.ss1Demand && !s.locked
  let s := s.setPair i { s.pair i with demand := true, await := false }
  let s := (s.inc (Reg.SAFE_IN_DEMANDS i)).inc Reg.SAFE_EVENTS_DEMANDS
  let s := s.islandReport (if ss1 then Code.SAFE_SS1 else Code.SAFE_STO) (beBytes 1 i ++ beBytes 1 first)
  if ss1 && alone && s.isl.ss1.isNone then
    { s with isl := { s.isl with ss1 := some (40 * s.rd Reg.SAFE_PARAM_ACTIVE_T_SS1) } }
  else s

/-- A pair's demand and its start-up test (R495, R496, R498). -/
def State.evalPair (s : State) (i : Fin 8) : State :=
  let k := s.pairKind i
  if k = 0 ∨ k = 4 then s
  else
    let p := s.pair i
    let pending := s.rd Reg.SAFE_STAT_STARTUP_PENDING / 2 ^ i.val % 2 == 1
    if s.openA i || s.openB i then
      let p := { p with both := p.both || (s.openA i && s.openB i), await := false }
      let s := s.setPair i p
      if !p.demand && !pending then s.beginDemand i else s
    else if !p.both then s
    else
      let s := (s.setPair i { p with both := false, fault := false }).wr (Reg.SAFE_IN_CYCLED i) 1
      if pending then s.wr Reg.SAFE_STAT_STARTUP_PENDING (withBit (s.rd Reg.SAFE_STAT_STARTUP_PENDING) i false)
      else if p.demand && s.flag (Reg.SAFE_PARAM_ACTIVE_IN_MANUAL_RESET i) then
        s.setPair i { p with both := false, fault := false, await := true }
      else s.setPair i { p with both := false, fault := false, demand := false }

/-- Ends the demand of a pair that awaits its manual reset. -/
def State.endAwait (s : State) (i : Fin 8) : State :=
  let p := s.pair i
  if p.await then s.setPair i { p with await := false, demand := false } else s

/-- The reset operation (R497): pressed for 200 ms to 10 s, both ON and both OFF within T_DISC of each other. -/
def State.resetOp (s : State) : State :=
  match pairIdx.find? (fun i => s.pairKind i == 4) with
  | none => s
  | some r =>
    let a := s.flag (Reg.SAFE_IN_A_ON r)
    let b := s.flag (Reg.SAFE_IN_B_ON r)
    match s.isl.press with
    | none =>
      if a && b then { s with isl := { s.isl with press := some 0, letGo := false } }
      else if !a && !b then { s with isl := { s.isl with pressBad := false } }
      else s
    | some n =>
      let letGo := s.isl.letGo || !(a && b)
      let n := if s.isl.letGo then n else n + 1
      if a || b then { s with isl := { s.isl with press := some n, letGo := letGo } }
      else
        let good := !s.isl.pressBad && decide (800 ≤ n ∧ n ≤ 40000)
        let s := { s with isl := { s.isl with press := none, letGo := false, pressBad := false } }
        if good then (pairIdx.foldl State.endAwait { s with isl := { s.isl with validN := 0 } }).wr Reg.SAFE_STAT_RESET_VALID 1 else s

/-- Reads back an output (R505). -/
def State.readOut (l : Vector OutRead 4) (s : State) (j : Fin 4) : State :=
  let r := l[j]
  let o := s.outp j
  let out := if s.flag (Reg.SAFE_OUT_ON j) then !r.high && o.rest == 0 && o.pulse.isNone else !r.low
  let bad := if out then min 5 (o.bad + 1) else 0
  let s := (s.wrB (Reg.SAFE_OUT_READ_HIGH j) r.high).wrB (Reg.SAFE_OUT_LIMITING j) r.limit
  let s := s.setOutp j { o with bad := bad, low := r.low, rest := o.rest - 1 }
  if bad = 4 then (s.inc Reg.SAFE_EVENTS_TEST_FAILS).lockOut 2 j else s

/-- Judges a test pulse at the end of the cycle of its readback, or discards it where the output has been switched off (R505, R506). -/
def State.judgePulse (s : State) (j : Fin 4) : State :=
  let o := s.outp j
  match o.pulse with
  | none => s
  | some (pass, next) =>
    if !(s.flag (Reg.SAFE_OUT_ON j)) then
      ((s.setOutp j { o with pulse := none }).wr (Reg.SAFE_OUT_LAST_TEST j) 3).inc (Reg.SAFE_OUT_DISCARDED j)
    else if next then s.setOutp j { o with pulse := some (pass, false) }
    else
      let s := (s.setOutp j { o with pulse := none }).wr (Reg.SAFE_OUT_LAST_TEST j) (if pass then 1 else 2)
      if pass then s else (s.inc Reg.SAFE_EVENTS_TEST_FAILS).lockOut 2 j

/-- Whether the feedback of an output matches (R507). -/
def State.fbMatches (s : State) (j : Fin 4) : Bool :=
  let isOpen := s.flag (Reg.SAFE_OUT_FB_OPEN j)
  if s.flag (Reg.SAFE_OUT_ON j) then !isOpen
  else if s.flag (Reg.SAFE_PARAM_ACTIVE_OUT_FB_SHARED j) then
    isOpen || !(pairIdx.any (fun i => (s.pair i).demand) || s.isl.ss1.isSome || s.locked)
  else isOpen

/-- Compares the feedback of an output. -/
def State.checkFb (s : State) (j : Fin 4) : State :=
  let o := s.outp j
  if !(s.flag (Reg.SAFE_PARAM_ACTIVE_OUT_FB_EN j)) then (s.wr (Reg.SAFE_OUT_FB_OK j) 1).setOutp j { o with since := o.since + 1, mis := 0 }
  else if s.fbMatches j then
    let s := if o.waits then s.wrSat (Reg.SAFE_OUT_FB_LAST_MS j) (o.since / 4) else s
    (s.wr (Reg.SAFE_OUT_FB_OK j) 1).setOutp j { o with waits := false, faulted := false, since := o.since + 1, mis := 0 }
  else (s.wr (Reg.SAFE_OUT_FB_OK j) 0).setOutp j { o with since := o.since + 1, mis := o.mis + 1 }

/-- The self-checks and the comparison of the cores (R492, R508). -/
def State.checkIsland (s : State) (agree check : Bool) : State :=
  let n := if agree then 0 else s.isl.disagree + 1
  let s := { s with isl := { s.isl with disagree := n, checkOk := check && decide (n < 3) } }
  if !s.isl.checkOk && !(s.isl.causes.any (fun c => c.1 == 4)) then s.lockOut 4 0xFF else s

/-- The times of the island, one cycle on. -/
def State.tickIsland (s : State) : State :=
  { s with
    isl := { s.isl with
      ss1 := s.isl.ss1.map (fun n => n - 1)
      cycle := (s.isl.cycle + 1) % 80
      validN := s.isl.validN + 1
      quiet := s.isl.quiet + 1
      up := s.isl.up + 1 } }

/-- SAFETY_CYCLE (R492). -/
def execSafetyCycle (c : CycleIn) (s : State) : Res :=
  always s (fun s =>
    if !s.isl.started then s
    else
      let s := outIdx.foldl (State.readFb c.sfb) (pairIdx.foldl (State.readPair c.sin) s.tickIsland)
      let s := pairIdx.foldl State.evalPair (pairIdx.foldl (State.timePair c.disc) s)
      let s := (outIdx.foldl (State.readOut c.outs) s.resetOp).checkIsland c.agree c.check
      let s := (outIdx.foldl State.judgePulse (s.islandAct true)).islandAct true
      (outIdx.foldl State.checkFb s).showIsland)

/-- RESET_VALIDITY_EXPIRY (R497), 30 s after the operation. -/
def execResetValidityExpiry (s : State) : Res :=
  always s (fun s => if s.isl.started && decide (119999 ≤ s.isl.validN) then s.wr Reg.SAFE_STAT_RESET_VALID 0 else s)

/-- SS1_DELAY_END (R500), when nothing is left of the delay by the end of the present cycle. STO is asserted at least until the end of the next cycle. -/
def execSs1DelayEnd (s : State) : Res :=
  always s (fun s =>
    if !s.isl.started || !(s.isl.ss1.any (fun n => decide (n ≤ 1))) then s
    else
      let s := { s with isl := { s.isl with ss1 := none }, drv := { s.drv with sto := true } }
      ((s.gateEnable).wr Reg.SAFE_STAT_STO 1).islandAct false)

/-- The present cycle is that of an output's test pulse: every 20 ms, at an offset of 5 ms for each output; after a discarded test at least 20 ms
after the output is next energised (R505, R506). -/
def State.pulseDue (s : State) (j : Fin 4) : Bool :=
  s.isl.cycle == 20 * j.val && !(s.rd (Reg.SAFE_OUT_LAST_TEST j) == 3 && decide ((s.outp j).since < 80))

/-- OUTPUT_TEST_PULSE (R505). `low`: the pad reads at or below 5 V 100 µs after the pulse began. `next`: that readback falls into
the cycle after the one in which the pulse began. -/
def execOutputTestPulse (j : Fin 4) (low next : Bool) (s : State) : Res :=
  always s (fun s =>
    if s.isl.started && s.flag (Reg.SAFE_OUT_ON j) && (s.outp j).pulse.isNone && s.pulseDue j then
      (s.inc (Reg.SAFE_OUT_TESTS j)).setOutp j { s.outp j with pulse := some (low, next), rest := 6 }
    else s)

/-- A mismatch of the feedback has lasted 200 ms, and the last switching lies 200 ms back, at a resolution of 1 ms (R507). -/
def State.misLasts (s : State) (j : Fin 4) : Bool := decide (796 ≤ (s.outp j).mis ∧ 796 ≤ (s.outp j).since)

/-- FEEDBACK_MISMATCH (R507). -/
def execFeedbackMismatch (j : Fin 4) (s : State) : Res :=
  always s (fun s =>
    let o := s.outp j
    if s.isl.started && s.flag (Reg.SAFE_PARAM_ACTIVE_OUT_FB_EN j) && !(s.flag (Reg.SAFE_OUT_FB_OK j)) && !o.faulted && s.misLasts j then
      ((s.setOutp j { o with faulted := true }).lockOut 3 j).islandAct false
    else s)

/-! ### The controller link (R511) -/

/-- CONTROLLER_MESSAGE (R511). The message of a stage carries the policy's requests and the stage counter. -/
def execControllerMessage (s : State) : Res :=
  onRun s (fun s =>
    if !s.isl.started then s
    else
      let up := if s.flag Reg.SAFE_STAT_CTRL_LINK then s.isl.up else 0
      let s := { s with isl := { s.isl with reqMain := s.flag Reg.POL_STATE_BREAKER_REQ, reqPre := s.flag Reg.POL_STATE_PRECHARGE_REQ,
                                            msgStage := s.stage32, quiet := 0, up := up } }
      s.wr Reg.SAFE_STAT_CTRL_LINK 1)

/-- CONTROLLER_LINK_LOSS (R511): no message for 1 ms. -/
def execControllerLinkLoss (s : State) : Res :=
  always s (fun s =>
    if !s.isl.started || !(s.flag Reg.SAFE_STAT_CTRL_LINK) || decide (s.isl.quiet < 3) then s
    else
      let s := { s with isl := { s.isl with reqMain := false, reqPre := false, linkHeld := false } }
      ((s.wr Reg.SAFE_STAT_CTRL_LINK 0).inc Reg.SAFE_EVENTS_CTRL_LOSSES).islandAct false)

/-- CONTROLLER_LINK_RESTORE (R511): the link has been valid for 10 ms, which is at least 39 cycles. STO may be released at the end of a cycle from now on. -/
def execControllerLinkRestore (s : State) : Res :=
  always s (fun s =>
    if s.isl.started && s.flag Reg.SAFE_STAT_CTRL_LINK && decide (39 ≤ s.isl.up) then { s with isl := { s.isl with linkHeld := true } } else s)

/-! ### Starting (R492, R498, R514) -/

/-- The words of the active and of the pending parameter set (R522). -/
def safeWords : List Nat := (List.range 16).map (fun k => 4 * k)
def State.activeSet (s : State) : List Word := safeWords.map (fun o => s.word (0x0C000400 + o))
def State.pendingSet (s : State) : List Word := safeWords.map (fun o => s.word (0x0C000440 + o))
def State.setPending (s : State) (ws : List Word) : State :=
  (safeWords.zip ws).foldl (fun t p => t.setWord (0x0C000440 + p.1) p.2) s
def State.setActive (s : State) (ws : List Word) : State :=
  (safeWords.zip ws).foldl (fun t p => t.setWord (0x0C000400 + p.1) p.2) s

/-- The CRC of the pending image (R148, R522). -/
def State.pendingCrc (s : State) : Nat := crc32c 0xFFFFFFFF ((s.pendingSet.take 15).map wordBytes).flatten

/-- Shows whether the pending copy differs from the active set, and the active set's CRC. -/
def State.showParams (s : State) : State :=
  (s.wrB Reg.SAFE_STAT_PARAM_PENDING (s.pendingSet != s.activeSet)).wr Reg.SAFE_STAT_PARAM_CRC (s.rd Reg.SAFE_PARAM_ACTIVE_CRC)

/-- The island off: its registers are at their reset values but for what its store keeps: the lock-out, the active set and the events (R508,
R514, R521, R523). -/
def State.islandOff (s : State) : State :=
  let s := { s with regs := s.regs.filter (fun p => !(decide (0x0C000000 ≤ p.1 ∧ p.1 < 0x0C000300))) }
  { s with isl := { causes := s.isl.causes, reports := s.isl.reports, paramBad := s.isl.paramBad } }

/-- Takes the pads' levels as accepted ones (log entry 22). -/
def State.startPair (l : Vector (PadLevel × PadLevel) 8) (s : State) (i : Fin 8) : State :=
  let s := (s.wrB (Reg.SAFE_IN_A_ON i) (l[i].1 == .on)).wrB (Reg.SAFE_IN_B_ON i) (l[i].2 == .on)
  s.wr Reg.SAFE_STAT_STARTUP_PENDING (withBit (s.rd Reg.SAFE_STAT_STARTUP_PENDING) i
    (s.pairKind i != 0 && s.flag (Reg.SAFE_PARAM_ACTIVE_IN_STARTUP_TEST i)))
def State.startFb (l : Vector PadLevel 4) (s : State) (j : Fin 4) : State := s.wrB (Reg.SAFE_OUT_FB_OPEN j) (l[j] == .on)

/-- A start of the island. -/
def State.islandStart (s : State) (i : IslandIn) : State :=
  let s := s.islandOff
  let s := { s with isl := { s.isl with started := true, checkOk := i.check, paramBad := !i.paramOk } }
  let s := outIdx.foldl (State.startFb i.sfb) (pairIdx.foldl (State.startPair i.sin) s)
  let s := (s.setPending s.activeSet).showParams
  let s := if i.check then s else s.lockOut 4 0xFF
  let s := if i.paramOk then s else s.lockOut 6 0xFF
  ({ s with drv := { s.drv with sto := true } }.gateEnable).islandAct false

/-- ISLAND_START (R498). The island starts once VIN has left the Off region. -/
def execIslandStart (i : IslandIn) (s : State) : Res :=
  always s (fun s => if s.isl.started || decide (s.power.region = .off) then s else s.islandStart i)

/-- ISLAND_WATCHDOG (R492). -/
def execIslandWatchdog (i : IslandIn) (s : State) : Res :=
  always s (fun s => if s.isl.started then ((s.islandStart i).lockOut 4 0xFF).islandAct false else s)

/-- PROGRAM_CRC_CHECK (R492). A core's program memory fails its CRC. -/
def execProgramCrcCheck (ok : Bool) (s : State) : Res :=
  always s (fun s =>
    if !s.isl.started || ok then s
    else
      let s := { s with isl := { s.isl with checkOk := false } }
      (if s.isl.causes.any (fun c => c.1 == 4) then s else s.lockOut 4 0xFF).islandAct false)

/-! ### CLEAR with SAFETY (R509, R510) -/

/-- The token that matches the island (R509). -/
def State.safetyToken (s : State) : List Byte :=
  let nonce := s.rd Reg.SAFE_LOCK_NONCE
  let body := beBytes 4 nonce ++ beBytes 1 (if s.locked then s.rd Reg.SAFE_LOCK_CAUSE else 0) ++ [0]
    ++ beBytes 2 (s.rd Reg.SAFE_LOCK_LOCK_COUNT) ++ beBytes 4 (s.rd Reg.ID_DEVICE_SERIAL_HI) ++ beBytes 4 (s.rd Reg.ID_DEVICE_SERIAL_LO)
    ++ beBytes 4 (s.rd Reg.SAFE_STAT_PARAM_CRC) ++ List.replicate 8 0
  body ++ beBytes 4 (crc32c (0xFFFFFFFF ^^^ nonce) body)

/-- Why CLEAR with SAFETY is refused, if it is. -/
def State.safetyRefusal (s : State) (token : List Byte) (faultsAlso : Bool) : Option Nat :=
  if token ≠ s.safetyToken then some Status.SAFETY_TOKEN_INVALID
  else if !(s.flag Reg.SAFE_STAT_RESET_VALID) then some Status.STATE_REFUSED
  else if s.isl.causes.any s.causePresent then some Status.STATE_REFUSED
  else if s.station = St.LOCKED_OUT && !faultsAlso then some Status.STATE_REFUSED
  else none

/-- An accepted SAFETY bit: the reset operation is used up, and a lock-out is released. -/
def State.safetyRelease (s : State) : State :=
  let s := ((s.wr Reg.SAFE_STAT_RESET_VALID 0).wr Reg.SAFE_LOCK_LOCKED 0).wr Reg.SAFE_LOCK_CAUSE 0
  let s := (s.wr Reg.SAFE_LOCK_SUBJECT 0xFF).wr Reg.SAFE_LOCK_CAUSE_PRESENT 0
  let s := { s with isl := { s.isl with causes := [] } }
  (pairIdx.foldl (fun t i => t.setPair i { t.pair i with fault := false }) s).showIsland

/-! ### Parameters (R514, R515) -/

/-- Why a parameter command is refused, if it is. -/
def State.safeParamRefusal (s : State) : Option Nat :=
  if s.rd Reg.LC_STATE_STATE ≠ 1 ∧ s.rd Reg.LC_STATE_STATE ≠ 3 then some Status.LIFECYCLE_REFUSED
  else if s.station ∉ [St.OFF, St.SELFTEST, St.STANDBY, St.TRIPPED, St.LOCKED_OUT] then some Status.BUSY_RUNNING
  else none

/-- The word of the pending copy that an ITEM names, with its new value, where the value is one it may take. -/
def safeItem (item value : Nat) : Option (Nat × Nat) :=
  if item < 8 then
    (if value / 512 % 256 = 0 ∧ value / 2097152 ≤ 4 ∧ 10 ≤ value % 512 ∧ value % 512 ≤ 500 then some (4 * item, value) else none)
  else if 16 ≤ item ∧ item < 20 then (if value % 1048576 = 0 then some (0x20 + 4 * (item - 16), value) else none)
  else if item = 32 then (if 1 ≤ value ∧ value ≤ 6000 then some (0x30, value) else none)
  else none

/-- The action of SAFE_PARAM_WRITE. -/
def actSafeParamWrite (param : Word) : Action := fun s =>
  match s.safeParamRefusal with
  | some st => s.no st
  | none =>
    match safeItem (param.toNat / 2 ^ 24) (param.toNat % 2 ^ 24) with
    | none => s.no Status.VALUE_OUT_OF_RANGE
    | some (o, v) =>
      let s := s.setWord (0x0C000440 + o) (BitVec.ofNat 32 v)
      let s := (s.wr Reg.SAFE_PARAM_PENDING_CRC s.pendingCrc).showParams
      s.ok (beBytes 4 (s.rd Reg.SAFE_PARAM_PENDING_CRC))

/-- SAFE_PARAM_WRITE (R514). -/
def execSafeParamWrite (r : Req) (param : Word) (s : State) : Res :=
  execVerb s r Verb.TEST 0 false (.safeParamWrite r param) (actSafeParamWrite param)

/-- Why the pending set may not be committed (R515). -/
def State.pendingBad (s : State) : Bool :=
  let kind (i : Nat) := s.rd (Reg.SAFE_PARAM_PENDING_IN_KIND i)
  let eight := List.range 8
  let four := List.range 4
  let reset := eight.filter (fun i => kind i == 4)
  let odd (i : Nat) := s.flag (Reg.SAFE_PARAM_PENDING_IN_FUNCTION i) || s.flag (Reg.SAFE_PARAM_PENDING_IN_ANTIVALENT i)
    || s.flag (Reg.SAFE_PARAM_PENDING_IN_STARTUP_TEST i) || s.flag (Reg.SAFE_PARAM_PENDING_IN_MANUAL_RESET i)
  let tDisc (i : Nat) := s.rd (Reg.SAFE_PARAM_PENDING_IN_T_DISC i)
  let role (r : Nat) := four.filter (fun j => s.rd (Reg.SAFE_PARAM_PENDING_OUT_ROLE j) == r)
  let fbEn (j : Nat) := s.flag (Reg.SAFE_PARAM_PENDING_OUT_FB_EN j)
  let ss1 := s.rd Reg.SAFE_PARAM_PENDING_T_SS1
  reset.length != 1 || reset.any odd || !(eight.any (fun i => kind i == 1))
    || eight.any (fun i => kind i != 0 && (decide (tDisc i < 10) || decide (500 < tDisc i)))
    || (role 1).length != 1 || (role 2).length != 1 || !(role 1).all fbEn || !(role 2).all fbEn
    || four.any (fun j => s.flag (Reg.SAFE_PARAM_PENDING_OUT_FB_SHARED j) && !(fbEn j)) || decide (ss1 < 1) || decide (6000 < ss1)

/-- The action of SAFE_PARAM_COMMIT: its checks, and the write of the store, whose end replies. -/
def actSafeParamCommit (param : Word) : Action := fun s =>
  match s.safeParamRefusal with
  | some st => s.no st
  | none =>
    if param.toNat ≠ s.pendingCrc then { (s.no Status.TEST_FAILED) with payload := beBytes 4 s.pendingCrc }
    else if s.pendingBad then s.no Status.VALUE_OUT_OF_RANGE
    else s.wait (.safeCommit s.pendingSet) s.stage

/-- SAFE_PARAM_COMMIT (R515). -/
def execSafeParamCommit (r : Req) (param : Word) (s : State) : Res :=
  execVerb s r Verb.TEST 0 false (.safeParamCommit r param) (actSafeParamCommit param)

/-- The action of SAFE_PARAM_DISCARD. -/
def actSafeParamDiscard (param : Word) : Action := fun s =>
  match s.safeParamRefusal with
  | some st => s.no st
  | none =>
    if param ≠ 0 then s.no Status.VALUE_OUT_OF_RANGE
    else ((s.setPending s.activeSet).showParams).ok (beBytes 4 (s.rd Reg.SAFE_PARAM_ACTIVE_CRC))

/-- SAFE_PARAM_DISCARD (R514). -/
def execSafeParamDiscard (r : Req) (param : Word) (s : State) : Res :=
  execVerb s r Verb.TEST 0 false (.safeParamDiscard r param) (actSafeParamDiscard param)

/-- A pair that the new set does not use has no demand. -/
def State.dropUnused (s : State) (i : Fin 8) : State := if s.pairKind i = 0 then s.setPair i { na := (s.pair i).na, nb := (s.pair i).nb } else s

/-- Ends one commit: the new set governs, and the island locks out with PARAM_CHANGED (R515). -/
def State.commitSafe (s : State) (ws : List Word) : State :=
  let s := pairIdx.foldl State.dropUnused ((s.setActive ws).showParams)
  let s := { s with isl := { s.isl with paramBad := false } }
  (s.lockOut 5 0xFF).islandAct false

/-- A commit of the safety parameters. -/
def LongOp.isSafe : LongOp → Bool
  | .safeCommit _ => true
  | _ => false

/-- A session's commit of the safety parameters. -/
def State.safeCommitOf (s : State) (i : Fin 4) : Option (List Word) :=
  match (s.sess i).opWith LongOp.isSafe with
  | some (.safeCommit ws) => some ws
  | _ => none

/-- SAFE_PARAM_COMMIT_DONE (R515). -/
def execSafeParamCommitDone (s : State) : Res :=
  onRun s (fun s =>
    match ([0, 1, 2, 3] : List (Fin 4)).find? (fun i => (s.safeCommitOf i).isSome) with
    | none => s
    | some i =>
      match s.safeCommitOf i with
      | some ws =>
        let s := s.commitSafe ws
        s.endBusy i (.safeCommit ws) Status.OK (beBytes 4 (s.rd Reg.SAFE_PARAM_ACTIVE_CRC))
      | none => s)

end Sys2Proof.Machine
end

