-- ==== Sys2Proof/Machine/Eth.lean ====
section
/-! DEFINITION. The Ethernet ports (R524 to R528), timed frames and telegrams (R530 to R532) and the precision time protocol (R533 to R537). -/

namespace Sys2Proof.Machine

open Sys2Proof

/-! ### Ports -/

def State.ethRun (s : State) (p : Fin 2) : EthRun := s.net.eth[p]
def State.setEth (s : State) (p : Fin 2) (e : EthRun) : State := { s with net := { s.net with eth := s.net.eth.set p e } }

/-- A frame as a port sends it: with TAGGED set it carries a tag (R525). -/
def State.tagOut (s : State) (p : Fin 2) (o : Out) : Out :=
  if s.flag (Reg.ETH_CFG_TAGGED p) then .tagged (s.rd (Reg.ETH_CFG_PCP p)) (s.rd (Reg.ETH_CFG_VID p)) o else o

/-- Sends a frame on a port whose link is up. -/
def State.sendEth (s : State) (p : Fin 2) (o : Out) : State :=
  if s.flag (Reg.ETH_STAT_LINK p) then (s.inc (Reg.ETH_STAT_TX_FRAMES p)).put (s.tagOut p o) else s

/-- A port's address, and the MAC address that every station hears. -/
def State.ethIp (s : State) (p : Fin 2) : Nat := s.rd (Reg.ETH_CFG_IP p)
def broadcastMac : Nat := 0xFFFFFFFFFFFF

/-- An ARP request of a port (R527). -/
def State.askArp (s : State) (p : Fin 2) (ip : Nat) : State := s.sendEth p (.arp p false broadcastMac (s.ethIp p) ip)

/-! ### GRID_TIME's states (R535) -/

/-- Sets the state of GRID_TIME. -/
def State.setGrid (s : State) (st : Nat) : State :=
  let s := ((s.wr Reg.TIME_GRID_STAT_STATE st).wrB (Reg.TIME_BASE_SYNCED 0) (2 ≤ st)).wrB (Reg.TIME_BASE_HOLDOVER 0) (st = 3)
  let s := { s with net := { s.net with ptp := { s.net.ptp with first := decide (st = 1), good := 0, bad := 0 } } }
  if st = 3 then { s with net := { s.net with ptp := { s.net.ptp with holdAt := s.timeOf 1 } } }
  else if st = 2 then
    { s with net := { s.net with ptp := { s.net.ptp with lockedGm := s.rd Reg.PTP_PARENT_GM_ID_HI * 2 ^ 32 + s.rd Reg.PTP_PARENT_GM_ID_LO } } }
  else s

/-- The loss of the parent: LOCKED goes to HOLDOVER, ACQUIRING to FREE_RUN. -/
def State.gridLoss (s : State) : State :=
  match s.rd Reg.TIME_GRID_STAT_STATE with
  | 2 => s.setGrid 3
  | 1 => s.setGrid 0
  | _ => s

/-! ### PTP port states (R533, R534, R537, R558) -/

def State.setPtp (s : State) (f : PtpRun → PtpRun) : State := { s with net := { s.net with ptp := f s.net.ptp } }

/-- Whether a port takes part in PTP (R537, R557). -/
def State.ptpOn (s : State) (p : Fin 2) : Bool :=
  s.flag Reg.PTP_CFG_EN && s.flag (Reg.ETH_STAT_LINK p)
    && (if s.rd Reg.PTP_CFG_CLOCK = 2 then s.rd Reg.PTP_CFG_PORTS / 2 ^ p.val % 2 == 1 else p == 0)

/-- The port is a slave or on its way to be one. -/
def State.ptpSlave (s : State) (p : Fin 2) : Bool := 8 ≤ s.rd (Reg.PTP_PORT_STATE p)

/-- Starts PTP on a port, or stops it (portState LISTENING or DISABLED). -/
def State.ptpBegin (s : State) (p : Fin 2) : State :=
  let s := s.setPtp (fun q => { q with heard := q.heard.set p [], timer := q.timer.set p (s.timeOf 1), asked := q.asked.set p false })
  s.wr (Reg.PTP_PORT_STATE p) (if s.ptpOn p then 4 else 3)

/-- ETH_LINK_UP (R524). The conditions have held for 10 ms; a PHY that reports another speed or half duplex leaves the port down. -/
def execEthLinkUp (p : Fin 2) (speedBad remoteFault : Bool) (s : State) : Res :=
  onRun s (fun s =>
    if !(s.flag (Reg.ETH_CFG_EN p)) || s.flag (Reg.ETH_STAT_LINK p) || s.rd Reg.CLK_STAT_LOCKED / 4 % 2 == 0 then s
    else
      let s := s.wrB (Reg.ETH_STAT_REMOTE_FAULT p) remoteFault
      if speedBad && s.flag (Reg.ETH_CFG_AN_EN p) && s.rd (Reg.ETH_CFG_MODE p) == 1 then s.wr (Reg.ETH_STAT_SPEED_BAD p) 1
      else
        let s := ((s.wr (Reg.ETH_STAT_SPEED_BAD p) 0).wr (Reg.ETH_STAT_LINK p) 1).wrB (Reg.ETH_STAT_AN_DONE p) (s.flag (Reg.ETH_CFG_AN_EN p))
        let s := s.setEth p { s.ethRun p with hops := (s.ethRun p).hops.filter (fun h => h.mac.isSome), timed := [], sync := none }
        (s.askArp p (s.ethIp p)).ptpBegin p)

/-- A link goes down (R524, R535). -/
def State.ethDown (s : State) (p : Fin 2) : State :=
  if !(s.flag (Reg.ETH_STAT_LINK p)) then s
  else
    let s := if s.ptpSlave p then (s.gridLoss).setPtp (fun q => { q with parent := none }) else s
    let s := ((s.wr (Reg.ETH_STAT_LINK p) 0).wr (Reg.ETH_STAT_AN_DONE p) 0).inc (Reg.ETH_STAT_LINK_DOWNS p)
    (s.setEth p { s.ethRun p with timed := [] }).ptpBegin p

/-- ETH_LINK_DOWN (R524). -/
def execEthLinkDown (p : Fin 2) (s : State) : Res := onRun s (fun s => s.ethDown p)

/-! ### Frames (R525 to R527) -/

/-- Whether a frame's tag is one the port takes. -/
def State.tagOk (s : State) (p : Fin 2) (vid : Option (BitVec 12)) : Bool :=
  match vid with
  | some v =>
    if v = 0 then !(s.flag (Reg.ETH_CFG_TAGGED p)) || s.flag (Reg.ETH_CFG_UNTAGGED_OK p)
    else s.flag (Reg.ETH_CFG_TAGGED p) && v.toNat == s.rd (Reg.ETH_CFG_VID p)
  | none => !(s.flag (Reg.ETH_CFG_TAGGED p)) || s.flag (Reg.ETH_CFG_UNTAGGED_OK p)

/-- Whether a port accepts a frame by its destination and kind (R525). -/
def State.ethAccepts (s : State) (p : Fin 2) (f : EthFrame) : Bool :=
  let own (a : Word) : Bool := a.toNat == s.ethIp p
  match f.dest, f.body with
  | .own, .arpRequest .. => true
  | .own, .arpReply _ => true
  | .own, .icmpEcho _ a _ => own a
  | .own, .icmpOther a => own a
  | .own, .ipv4 a => own a
  | .broadcast, .arpRequest _ a => own a
  | .ptp, .ptp => true
  | _, _ => false

/-- A next hop has answered: at most 8 entries are resolved (R527). -/
def learnHop (l : List ArpEntry) (ip mac : Nat) : List ArpEntry :=
  match l.find? (fun h => h.ip == ip) with
  | none => l
  | some h =>
    let rest := l.filter (fun h => h.ip != ip)
    { ip := ip, mac := some mac, at_ := h.at_ } :: ((rest.filter (fun h => h.mac.isSome)).take 7 ++ rest.filter (fun h => h.mac.isNone))

/-- What an accepted frame brings about. -/
def State.takeFrame (s : State) (p : Fin 2) (f : EthFrame) : State :=
  match f.body with
  | .arpRequest from_ a =>
    if a.toNat = s.ethIp p then s.sendEth p (.arp p true f.src.toNat (s.ethIp p) from_.toNat) else s
  | .arpReply ip => s.setEth p { s.ethRun p with hops := learnHop (s.ethRun p).hops ip.toNat f.src.toNat }
  | .icmpEcho from_ _ payload =>
    let now := (s.timeOf 1 + f.elapsed) / 65536
    let recent := (s.ethRun p).icmp.filter (fun t => decide (now < t + 1000000000))
    if 1472 < payload.length ∨ 100 ≤ recent.length then s.inc (Reg.ETH_STAT_ICMP_DROPPED p)
    else (s.setEth p { s.ethRun p with icmp := now :: recent }).sendEth p (.icmp p f.src.toNat from_.toNat payload)
  | .icmpOther _ => s.inc (Reg.ETH_STAT_ICMP_DROPPED p)
  | _ => s

/-- ETH_FRAME_RECEIVED (R525). A command datagram or a PTP message in an accepted frame comes as a command of its own. -/
def execEthFrameReceived (p : Fin 2) (f : EthFrame) (s : State) : Res :=
  onRun s (fun s =>
    if !(s.flag (Reg.ETH_STAT_LINK p)) then s
    else if !f.fcsOk then s.inc (Reg.ETH_STAT_FCS_ERR p)
    else if f.body = .pause then s
    else if (if f.vid.isSome then 1522 else 1518) < f.length || !(s.tagOk p f.vid) || f.full || !(s.ethAccepts p f) then
      s.inc (Reg.ETH_STAT_RX_DROPPED p)
    else (s.inc (Reg.ETH_STAT_RX_FRAMES p)).takeFrame p f)

/-- ARP_RESOLVE_RETRY (R527). A next hop that has not answered is requested again after 1 s, three times in all. -/
def execArpResolveRetry (p : Fin 2) (ip : Word) (s : State) : Res :=
  onRun s (fun s =>
    let e := s.ethRun p
    match e.hops.find? (fun h => h.ip == ip.toNat) with
    | some h =>
      if h.mac = none ∧ h.tries < 3 ∧ s.passed h.at_ 1000000000 then
        (s.setEth p { e with hops := { h with tries := h.tries + 1, at_ := s.timeOf 1 } :: e.hops.filter (fun g => g.ip != h.ip) }).askArp p h.ip
      else s
    | none => s)

/-- ARP_RENEWAL (R527). A resolved entry is requested again every 60 s; three renewals in a row without an answer remove it. -/
def execArpRenewal (p : Fin 2) (ip : Word) (s : State) : Res :=
  onRun s (fun s =>
    let e := s.ethRun p
    let rest := e.hops.filter (fun g => g.ip != ip.toNat)
    match e.hops.find? (fun h => h.ip == ip.toNat) with
    | some h =>
      if h.mac.isNone || !(s.passed h.at_ 60000000000) then s
      else
        let fails := if h.asked then h.fails + 1 else h.fails
        if 3 ≤ fails then s.setEth p { e with hops := rest }
        else (s.setEth p { e with hops := { h with asked := true, fails := fails, at_ := s.timeOf 1 } :: rest }).askArp p h.ip
    | none => s)

/-! ### The management interface (R528, R555) -/

/-- The action of a write of START. -/
def actMdioStart (p : Fin 2) (op : Bool) (phyad regad : BitVec 5) (data : BitVec 16) : Action := fun s =>
  if s.flag (Reg.ETH_MDIO_BUSY p) then s.no Status.RESOURCE_BUSY
  else
    let s := ((s.wrB (Reg.ETH_MDIO_OP p) op).wr (Reg.ETH_MDIO_PHYAD p) phyad.toNat).wr (Reg.ETH_MDIO_REGAD p) regad.toNat
    ((s.wr (Reg.ETH_MDIO_DATA p) data.toNat).wr (Reg.ETH_MDIO_BUSY p) 1).ok

/-- MDIO_START (R528). -/
def execMdioStart (r : Req) (p : Fin 2) (op : Bool) (phyad regad : BitVec 5) (data : BitVec 16) (s : State) : Res :=
  execVerb s r Verb.SET 0 false (.mdioStart r p op phyad regad data) (actMdioStart p op phyad regad data)

/-- MDIO_CYCLE_DONE (R528). `data`: what a read cycle has read; before its bank is classified the pads take nothing in
(R35, R36), and what the cycle reads is free (log entry 72). -/
def execMdioCycleDone (p : Fin 2) (data : BitVec 16) (s : State) : Res :=
  onRun s (fun s =>
    if !(s.flag (Reg.ETH_MDIO_BUSY p)) then s
    else
      let s := s.wr (Reg.ETH_MDIO_BUSY p) 0
      if s.flag (Reg.ETH_MDIO_OP p) then s
      else if s.rd Reg.ID_VIO_STAT_CLASS1 = 0 then
        let (w, s) := s.takeFree
        s.wr (Reg.ETH_MDIO_DATA p) w.toNat
      else s.wr (Reg.ETH_MDIO_DATA p) data.toNat)

/-! ### Telegrams (R530 to R532, R538) -/

def State.telRun (s : State) (t : Fin 4) : TelRun := s.net.tel[t]
def State.setTel (s : State) (t : Fin 4) (x : TelRun) : State := { s with net := { s.net with tel := s.net.tel.set t x } }

/-- The launch instant of a sequence, in ns of GRID_TIME. -/
def State.launchNs (s : State) (t : Fin 4) (n : Nat) : Nat :=
  s.rd (Reg.ETH_TELEGRAM_PHASE_NS t) + n * s.rd (Reg.ETH_TELEGRAM_PERIOD_MS t) * 1000000

/-- The first sequence whose launch instant is at or after an instant. -/
def State.firstLaunch (s : State) (t : Fin 4) (now : Nat) : Nat :=
  let period := s.rd (Reg.ETH_TELEGRAM_PERIOD_MS t) * 1000000
  (now - s.rd (Reg.ETH_TELEGRAM_PHASE_NS t) + (period - 1)) / period

/-- A telegram at a stage boundary: launch instants that have gone by are skipped, and the range is captured while the launch is at least
50 µs away (R531, R532). -/
def State.tickTelegram (s : State) (t : Fin 4) : State :=
  if !(s.flag (Reg.ETH_TELEGRAM_EN t)) then s.setTel t {}
  else
    let now := s.stampNs 0
    let first := s.firstLaunch t now
    let x := s.telRun t
    let n := max first (x.next.getD first)
    let s := if s.isKeeper then s.inc (Reg.ETH_TELEGRAM_SKIPPED t) (first - x.next.getD first) else s
    let cap := if now + 50000 ≤ s.launchNs t n then
        some (s.stage, s.captureBytes none (s.rd (Reg.ETH_TELEGRAM_START t)) (s.rd (Reg.ETH_TELEGRAM_LENGTH t)))
      else x.cap
    s.setTel t { next := some n, cap := cap }

/-- The payload of a telegram (R531). -/
def State.telegramBytes (s : State) (t : Fin 4) (n stage : Nat) (data : List Byte) : List Byte :=
  let launch := s.launchNs t n
  let flags := (if s.flag (Reg.TIME_BASE_SYNCED 0) then 128 else 0) + (if s.isKeeper then 64 else 0)
  let body := beBytes 2 0xD7A2 ++ beBytes 1 1 ++ beBytes 1 t ++ beBytes 4 n ++ beBytes 6 stage ++ beBytes 1 flags ++ beBytes 1 0
    ++ beBytes 4 (launch / 1000000000) ++ beBytes 4 (launch % 1000000000) ++ data
  body ++ beBytes 4 (crc32c (0xFFFFFFFF ^^^ (n % 2 ^ 32)) body)

/-- The next hop towards an address: itself inside the port's prefix, otherwise the gateway, if there is one (R527). -/
def State.nextHop (s : State) (p : Fin 2) (ip : Nat) : Option Nat :=
  let m := 2 ^ (32 - s.rd (Reg.ETH_CFG_PREFIX p))
  if ip / m = s.ethIp p / m then some ip
  else if s.rd (Reg.ETH_CFG_GATEWAY p) = 0 then none
  else some (s.rd (Reg.ETH_CFG_GATEWAY p))

/-- Sends a telegram to its next hop, or counts it as unresolved. -/
def State.sendTelegram (s : State) (t : Fin 4) (p : Fin 2) (n stage : Nat) (data : List Byte) : State :=
  let ip := s.rd (Reg.ETH_TELEGRAM_DEST_IP t)
  let e := s.ethRun p
  match s.nextHop p ip with
  | none => s.inc (Reg.ETH_STAT_UNRESOLVED p)
  | some hop =>
    match e.hops.find? (fun h => h.ip == hop) with
    | none => ((s.inc (Reg.ETH_STAT_UNRESOLVED p)).setEth p { e with hops := { ip := hop, at_ := s.timeOf 1 } :: e.hops }).askArp p hop
    | some h =>
      match h.mac with
      | none => s.inc (Reg.ETH_STAT_UNRESOLVED p)
      | some mac =>
        let s := s.sendEth p (.datagram p mac ip (s.rd (Reg.ETH_TELEGRAM_DEST_PORT t)) (s.telegramBytes t n stage data))
        (s.inc (Reg.ETH_TELEGRAM_SENT t)).wr (Reg.ETH_TELEGRAM_LAST_SEQ t) n

/-- An instant of GRID_TIME in ns lies in the present stage or before it. -/
def State.gridReaches (s : State) (ns : Nat) : Bool := decide (ns < (s.later (s.tsNs * 65536)).stampNs 0 + 1)

/-- TELEGRAM_LAUNCH (R531). The launch instant of the next sequence. -/
def execTelegramLaunch (t : Fin 4) (s : State) : Res :=
  onRun s (fun s =>
    let x := s.telRun t
    match x.next, x.cap with
    | some n, some (stage, data) =>
      let p : Fin 2 := if s.flag (Reg.ETH_TELEGRAM_PORT t) then 1 else 0
      if !(s.gridReaches (s.launchNs t n)) then s
      else
      let s := s.setTel t { x with next := some (n + 1) }
      if !(s.flag (Reg.ETH_TELEGRAM_EN t)) || !s.isKeeper then s
      else if !(s.flag (Reg.ETH_STAT_LINK p)) then s.inc (Reg.ETH_TELEGRAM_SKIPPED t)
      else s.sendTelegram t p n stage data
    | _, _ => s)

/-! ### The best master clock algorithm (R533, R534) -/

/-- The clockIdentity: the EUI-64 of ETHA's MAC address. -/
def State.clockId (s : State) : Nat :=
  let mac := s.rd (Reg.ETH_CFG_MAC_HI 0) * 2 ^ 32 + s.rd (Reg.ETH_CFG_MAC_LO 0)
  mac / 2 ^ 24 * 2 ^ 40 + 0xFFFE * 2 ^ 24 + mac % 2 ^ 24

/-- The identity of an own port. -/
def State.portId (s : State) (p : Fin 2) : Nat := s.clockId * 65536 + (p.val + 1)

/-- The own clock's data set (R534). -/
def State.ownSet (s : State) : Announce :=
  { sender := BitVec.ofNat 80 (s.clockId * 65536), gm := BitVec.ofNat 64 s.clockId
    priority1 := BitVec.ofNat 8 (s.rd Reg.PTP_CFG_PRIORITY1)
    clkClass := BitVec.ofNat 8 (match s.rd Reg.TIME_GRID_STAT_STATE with | 2 => s.rd Reg.PTP_PARENT_GM_CLASS | 3 => 165 | _ => 248)
    accuracy := 0xFE, variance := 0xFFFF, priority2 := BitVec.ofNat 8 (s.rd Reg.PTP_CFG_PRIORITY2), steps := 0
    utcOffset := 0, utcValid := false, leap61 := false, leap59 := false }

/-- How two data sets compare: the first or the second is better, or better by topology. -/
inductive Better where
  | first | firstByTopology | same | secondByTopology | second
  deriving DecidableEq, Repr

/-- Lexicographic comparison: whether the first list comes before the second. -/
def lexLess : List Nat → List Nat → Bool
  | a :: t, b :: u => if a < b then true else if b < a then false else lexLess t u
  | _, _ => false

/-- The data set comparison algorithm of IEEE 1588-2019, with the identities of the ports that received the two (log entry 23). -/
def compareSets (a b : Announce) (ra rb : Nat) : Better :=
  let sa := a.steps.toNat
  let sb := b.steps.toNat
  let ia := a.sender.toNat
  let ib := b.sender.toNat
  if a.gm = b.gm then
    if sa + 1 < sb then .first
    else if sb + 1 < sa then .second
    else if sb < sa then (if ra < ia then .second else if ia < ra then .secondByTopology else .same)
    else if sa < sb then (if rb < ib then .first else if ib < rb then .firstByTopology else .same)
    else if ia < ib then .firstByTopology
    else if ib < ia then .secondByTopology
    else if ra % 65536 < rb % 65536 then .firstByTopology
    else if rb % 65536 < ra % 65536 then .secondByTopology
    else .same
  else
    let key (x : Announce) := [x.priority1.toNat, x.clkClass.toNat, x.accuracy.toNat, x.variance.toNat, x.priority2.toNat, x.gm.toNat]
    if lexLess (key a) (key b) then .first else .second

/-- The first is better, be it by topology. -/
def Better.isFirst : Better → Bool
  | .first => true
  | .firstByTopology => true
  | _ => false

/-- A master that a port has heard within the window of 4 announce intervals (log entry 23). -/
def State.heardLately (s : State) (h : Heard) : Bool := decide (s.timeOf 1 ≤ h.at_ + 4 * unitsPerSecond)

/-- The best qualified master heard on a port: heard twice, within the window, fewer than 255 steps away. -/
def State.bestOn (s : State) (p : Fin 2) : Option Announce :=
  let l := (s.net.ptp.heard[p]).filterMap (fun h => if 2 ≤ h.count ∧ h.ann.steps.toNat < 255 ∧ s.heardLately h then some h.ann else none)
  l.foldl (fun b a => match b with
    | none => some a
    | some x => if (compareSets a x (s.portId p) (s.portId p)).isFirst then some a else some x) none

/-- The best master of the clock, with its port. -/
def State.bestMaster (s : State) : Option (Announce × Fin 2) :=
  let pick (p : Fin 2) := if s.ptpOn p then s.bestOn p else none
  match pick 0, pick 1 with
  | some a, some b => if (compareSets b a (s.portId 1) (s.portId 0)).isFirst then some (b, 1) else some (a, 0)
  | some a, none => some (a, 0)
  | none, some b => some (b, 1)
  | none, none => none

/-- The state that the algorithm decides for a port: LISTENING 4, MASTER 6, PASSIVE 7, SLAVE 9; 0 where it decides none. `timedOut`: the port's
announce receipt has timed out. -/
def State.decidePort (s : State) (p : Fin 2) (timedOut : Bool) : Nat :=
  let own := s.ownSet
  let slaveOnly := s.rd Reg.PTP_CFG_CLOCK == 0
  match s.bestMaster with
  | none => if slaveOnly then 4 else if timedOut then 6 else 0
  | some (e, q) =>
    let mine := s.bestOn p
    if slaveOnly then (if q = p then 9 else if mine.isSome then 7 else 4)
    else if own.clkClass.toNat ≤ 127 then
      (match mine with
       | none => if timedOut then 6 else 0
       | some x => if (compareSets own x 0 (s.portId p)).isFirst then 6 else 7)
    else if (compareSets own e 0 (s.portId q)).isFirst then 6
    else if q = p then 9
    else match mine with
      | none => if timedOut then 6 else 0
      | some x => if compareSets e x (s.portId q) (s.portId p) = .firstByTopology then 7 else 6

/-- Reports a master as the parent (R559). -/
def State.showParent (s : State) (a : Announce) (steps port : Nat) : State :=
  let old := s.rd Reg.PTP_PARENT_GM_ID_HI * 2 ^ 32 + s.rd Reg.PTP_PARENT_GM_ID_LO
  let s := if old = a.gm.toNat then s else s.inc Reg.PTP_PARENT_GM_CHANGES
  let s := (s.wr Reg.PTP_PARENT_GM_ID_HI (a.gm.toNat / 2 ^ 32)).wr Reg.PTP_PARENT_GM_ID_LO a.gm.toNat
  let s := ((s.wr Reg.PTP_PARENT_GM_CLASS a.clkClass.toNat).wr Reg.PTP_PARENT_GM_ACCURACY a.accuracy.toNat).wr Reg.PTP_PARENT_STEPS_REMOVED steps
  let s := ((s.wr Reg.PTP_PARENT_UTC_OFFSET a.utcOffset.toNat).wrB Reg.PTP_PARENT_UTC_VALID a.utcValid).wrB Reg.PTP_PARENT_LEAP61 a.leap61
  (s.wrB Reg.PTP_PARENT_LEAP59 a.leap59).wr Reg.PTP_PARENT_PARENT_PORT port

/-- A slave port has a parent: a new grandmaster makes a locked GRID_TIME acquire anew (R535). -/
def State.followParent (s : State) (a : Announce) (p : Fin 2) : State :=
  let s := s.showParent a (a.steps.toNat + 1) p
  let now := s.timeOf 1
  let s := s.setPtp (fun q => { q with parent := some a.sender.toNat, syncAt := if q.parent = some a.sender.toNat then q.syncAt else now })
  if s.rd Reg.TIME_GRID_STAT_STATE = 2 ∧ a.gm.toNat ≠ s.net.ptp.lockedGm then s.setGrid 1 else s

/-- A port enters SLAVE, or stays UNCALIBRATED without a measured link delay (R534). -/
def State.enterSlave (s : State) (p : Fin 2) : State :=
  if !(s.flag (Reg.PTP_PORT_DELAY_VALID p)) then s.wr (Reg.PTP_PORT_STATE p) 8
  else if s.rd (Reg.PTP_PORT_STATE p) = 9 then s
  else
    let s := s.wr (Reg.PTP_PORT_STATE p) 9
    if s.rd Reg.TIME_GRID_STAT_STATE = 0 then s.setGrid 1 else s

/-- Applies what the algorithm decides for a port. -/
def State.applyPort (timedOut : Option (Fin 2)) (s : State) (p : Fin 2) : State :=
  if !(s.ptpOn p) then s
  else match s.decidePort p (timedOut == some p) with
    | 0 => s
    | 9 =>
      match s.bestOn p with
      | some a => (s.followParent a p).enterSlave p
      | none => s
    | st => s.wr (Reg.PTP_PORT_STATE p) st

/-- Runs the algorithm: without a slave port left the parent is gone. -/
def State.runBmca (s : State) (timedOut : Option (Fin 2)) : State :=
  let had := s.net.ptp.parent.isSome
  let s := ([0, 1] : List (Fin 2)).foldl (State.applyPort timedOut) s
  if s.ptpSlave 0 || s.ptpSlave 1 then s
  else
    let s := if had then (s.gridLoss).setPtp (fun q => { q with parent := none }) else s
    if s.rd (Reg.PTP_PORT_STATE 0) = 6 ∨ s.rd (Reg.PTP_PORT_STATE 1) = 6 then s.showParent s.ownSet 0 0 else s

/-- PTP_ANNOUNCE_RECEIVED (R537). -/
def execPtpAnnounceReceived (p : Fin 2) (domain : Byte) (a : Announce) (s : State) : Res :=
  onRun s (fun s =>
    if !(s.ptpOn p) || domain.toNat != s.rd Reg.PTP_CFG_DOMAIN || a.sender.toNat / 65536 == s.clockId then s
    else
      let old := s.net.ptp.heard[p]
      let now := s.timeOf 1
      let n := match old.find? (fun h => h.ann.sender == a.sender) with
        | some h => if s.heardLately h then 2 else 1
        | none => 1
      let own := !(s.ptpSlave p) || s.net.ptp.parent == some a.sender.toNat
      let s := s.setPtp (fun q => { q with
        heard := q.heard.set p ({ ann := a, count := n, at_ := now } :: old.filter (fun h => h.ann.sender != a.sender))
        timer := if own then q.timer.set p now else q.timer })
      s.runBmca none)

/-- PTP_ANNOUNCE_TIMEOUT (R533). The port, no master itself, has heard no Announce for 3 intervals, a slave none of its parent. -/
def execPtpAnnounceTimeout (p : Fin 2) (s : State) : Res :=
  onRun s (fun s =>
    if !(s.ptpOn p) || s.rd (Reg.PTP_PORT_STATE p) == 6 || !(s.passed s.net.ptp.timer[p] 3000000000) then s
    else
      let now := s.timeOf 1
      let s := (s.inc (Reg.PTP_PORT_ANNOUNCE_TIMEOUTS p)).setPtp (fun q => { q with
        heard := q.heard.set p (if s.ptpSlave p then q.heard[p].filter (fun h => some h.ann.sender.toNat != q.parent) else [])
        timer := q.timer.set p now })
      let s := if s.ptpSlave p then s.wr (Reg.PTP_PORT_STATE p) 4 else s
      s.runBmca (some p))

/-- A commit that changes PTP_CFG restarts the protocol (R557). -/
def State.restartPtp (s : State) : State :=
  let s := (s.gridLoss).setPtp (fun q => { q with parent := none })
  (s.ptpBegin 0).ptpBegin 1

/-! ### Sync and peer delay (R534, R535) -/

/-- Removes an offset, given in units of 2^-16 ns, as R82 has it: by slewing up to STEP_US, and by one step above. -/
def State.removeOffset (s : State) (offset : Int) : State :=
  let big := decide ((s.rd Reg.TIME_GRID_CTRL_STEP_US : Int) * 1000 * 65536 < offset.natAbs)
  let busy := s.flag Reg.TIME_GRID_CTRL_NO_STEP_IN_RUN && decide (s.station ∈ [St.PRECHARGE, St.SYNC, St.RUN, St.DERATED, St.STOPPING])
  if big && !busy then { s with clk := { s.clk with stepDue := some (-offset), slewLeft := 0 } }
  else { s with clk := { s.clk with slewLeft := -offset } }

/-- The servo's correction of the rate, held to ±SLEW_PPM (R535); what an earlier offset has left to slew is in its offset. -/
def State.servoStep (s : State) (offset : Int) : State :=
  let r := Config.servo s.net.ptp.integral ((offset : Rat) / 65536)
  let top : Int := (s.rd Reg.TIME_GRID_CTRL_SLEW_PPM * 2 ^ 32 / 1000000 : Nat)
  let s := s.setPtp (fun q => { q with integral := r.1 })
  { s with clk := { s.clk with slewLeft := 0, gridRate := max (-top) (min top r.2) } }

/-- The state of GRID_TIME after an offset (R535). -/
def State.gridAfter (s : State) (offset : Int) : State :=
  let lock : Int := (s.rd Reg.PTP_CFG_LOCK_NS : Int) * 65536
  let near := decide (offset.natAbs ≤ lock)
  let far := decide (4 * lock < offset.natAbs)
  let q := s.net.ptp
  match s.rd Reg.TIME_GRID_STAT_STATE with
  | 1 =>
    let n := if near then q.good + 1 else 0
    if 8 ≤ n then s.setGrid 2 else s.setPtp (fun q => { q with first := false, good := n })
  | 2 =>
    let n := if far then q.bad + 1 else 0
    if 3 ≤ n then s.setGrid 1 else s.setPtp (fun q => { q with bad := n })
  | 3 =>
    let same := s.rd Reg.PTP_PARENT_GM_ID_HI * 2 ^ 32 + s.rd Reg.PTP_PARENT_GM_ID_LO == q.lockedGm
    if same && near then s.setGrid 2 else s.setGrid 1
  | _ => s

/-- A latency of the port's configuration, given in 0.1 ns, in units of 2^-16 ns. -/
def latencyUnits (lat : Nat) : Nat := lat * 65536 / 10

/-- The offset of a Sync of the parent: t2 − t1 − correctionField, less the mean link delay. The receive stamp t2 is the PCS instant less RX_LAT (R529). -/
def State.syncOffset (s : State) (p : Fin 2) (delta : Int) : Int :=
  delta - (latencyUnits (s.rd (Reg.ETH_CFG_RX_LAT p)) : Nat) - (s.rd (Reg.PTP_PORT_LINK_DELAY p) * 65536 / 10 : Nat)

/-- A Sync of the parent disciplines GRID_TIME. OFFSET_NS takes the whole ns at or below the measured offset (R103; log entry 64). -/
def State.takeSync (s : State) (p : Fin 2) (delta : Int) : State :=
  let now := s.timeOf 1
  let s := (s.enterSlave p).setPtp (fun q => { q with syncAt := now })
  let offset := s.syncOffset p delta
  let ns := offset / 65536
  let s := s.wrS Reg.TIME_GRID_OFFSET_OFFSET_NS (max (-2147483647) (min 2147483647 ns))
  let big := decide ((s.rd Reg.TIME_GRID_CTRL_STEP_US : Int) * 1000 * 65536 < offset.natAbs)
  let s := if s.net.ptp.first || big then s.removeOffset offset else s.servoStep offset
  s.gridAfter offset

/-- PTP_SYNC_RECEIVED (R529, R535). `delta`: the PCS instant of the message on GRID_TIME, less t1 and correctionField, in units of 2^-16 ns. -/
def execPtpSyncReceived (p : Fin 2) (domain : Byte) (sender : BitVec 80) (delta : Int) (s : State) : Res :=
  onRun s (fun s =>
    if !(s.ptpOn p) || domain.toNat != s.rd Reg.PTP_CFG_DOMAIN then s
    else
      let s := s.inc (Reg.PTP_PORT_SYNC_RX p)
      if s.ptpSlave p && s.flag (Reg.PTP_PORT_DELAY_VALID p) && s.net.ptp.parent == some sender.toNat then s.takeSync p delta else s)

/-- PTP_SYNC_LOSS (R535). No Sync of the parent has come for 3 s. The slave port goes back to UNCALIBRATED (log entry 23). -/
def execPtpSyncLoss (s : State) : Res :=
  onRun s (fun s =>
    if s.net.ptp.parent.isNone || !(s.passed s.net.ptp.syncAt 3000000000) then s
    else
      let back (s : State) (p : Fin 2) : State := if s.ptpSlave p then s.wr (Reg.PTP_PORT_STATE p) 8 else s
      back (back s.gridLoss 0) 1)

/-- PTP_HOLDOVER_EXPIRY (R535). HOLDOVER_S have gone by in HOLDOVER. -/
def execPtpHoldoverExpiry (s : State) : Res :=
  onRun s (fun s =>
    if s.rd Reg.TIME_GRID_STAT_STATE = 3 ∧ s.passed s.net.ptp.holdAt (s.rd Reg.PTP_CFG_HOLDOVER_S * 1000000000) then s.setGrid 0 else s)

/-- A message of a port, with its sequence. -/
def State.sendPtp (s : State) (p : Fin 2) (kind : Nat) : State :=
  let n := s.net.ptp.seq[p]
  (s.setPtp (fun q => { q with seq := q.seq.set p ((n + 1) % 65536) })).sendEth p (.ptp p kind n)

/-- The next launch instant of a port's Sync, in ns of GRID_TIME: a whole second, and 250 ms later on ETHB. -/
def State.syncInstant (s : State) (p : Fin 2) : Nat :=
  let shift := 250000000 * p.val
  (s.stampNs 0 + 1000000000 - shift) / 1000000000 * 1000000000 + shift

/-- PTP_SYNC_SEND (R534). A master port queues its Sync as a timed frame for its next launch instant; a port holds at most 8 (R530). -/
def execPtpSyncSend (p : Fin 2) (s : State) : Res :=
  onRun s (fun s =>
    let e := s.ethRun p
    let at_ := s.syncInstant p
    if s.ptpOn p && s.rd (Reg.PTP_PORT_STATE p) == 6 && decide (e.timed.length < 8) && e.sync != some at_ then
      let n := s.net.ptp.seq[p]
      (s.setPtp (fun q => { q with seq := q.seq.set p ((n + 1) % 65536) })).setEth p { e with timed := e.timed ++ [⟨n, at_⟩], sync := some at_ }
    else s)

/-- TIMED_FRAME_LAUNCH (R530). The oldest timed frame starts at its instant, with its Follow_Up where the port sends two-step; a late one is
not sent. -/
def execTimedFrameLaunch (p : Fin 2) (late : Bool) (s : State) : Res :=
  onRun s (fun s =>
    let e := s.ethRun p
    match e.timed with
    | [] => s
    | f :: rest =>
      if !late && !(s.gridReaches f.launch) then s
      else
      let s := s.setEth p { e with timed := rest }
      if late || !(s.flag (Reg.ETH_STAT_LINK p)) then s
      else
        let s := (s.inc (Reg.PTP_PORT_SYNC_TX p)).sendEth p (.ptp p 0 f.seq)
        if s.flag Reg.PTP_CFG_TWO_STEP then s.sendEth p (.ptp p 8 f.seq) else s)

/-- PTP_ANNOUNCE_SEND (R534). -/
def execPtpAnnounceSend (p : Fin 2) (s : State) : Res :=
  onRun s (fun s => if s.ptpOn p && s.rd (Reg.PTP_PORT_STATE p) == 6 then s.sendPtp p 11 else s)

/-- PTP_PDELAY_REQUEST (R534). -/
def execPtpPdelayRequest (p : Fin 2) (s : State) : Res := 
  onRun s (fun s => if s.ptpOn p then (s.setPtp (fun q => { q with asked := q.asked.set p true })).sendPtp p 2 else s)

/-- PTP_PDELAY (R529, R534). The measurement that a port's last Pdelay_Req began has ended. The times from the request's PCS instant to the response's, and from the request's arrival to the response's start at the
other end, in 0.1 ns; none where the measurement failed. The transmit stamp is the PCS instant plus TX_LAT, the receive stamp the PCS instant less
RX_LAT. -/
def execPtpPdelay (p : Fin 2) (times : Option (Nat × Nat)) (s : State) : Res :=
  onRun s (fun s =>
    if !(s.ptpOn p) || !s.net.ptp.asked[p] then s
    else
      let s := s.setPtp (fun q => { q with asked := q.asked.set p false })
      match times with
      | none => s.inc (Reg.PTP_PORT_PDELAY_FAIL p)
      | some (all, there) =>
        let stamps := all - s.rd (Reg.ETH_CFG_RX_LAT p) - s.rd (Reg.ETH_CFG_TX_LAT p)
        let s := (s.wrSat (Reg.PTP_PORT_LINK_DELAY p) ((stamps - there) / 2)).wr (Reg.PTP_PORT_DELAY_VALID p) 1
        if s.rd (Reg.PTP_PORT_STATE p) = 8 then s.enterSlave p else s)

end Sys2Proof.Machine
end

