-- ==== Sys2Proof/Machine/Can.lean ====
section
/-! DEFINITION. The CAN FD controllers (R539 to R549) and the CAN time (R550 to R552). -/

namespace Sys2Proof.Machine

open Sys2Proof

/-! ### Controllers and objects -/

def State.canRun (s : State) (c : Fin 2) : CanRun := s.net.can[c]
def State.setCan (s : State) (c : Fin 2) (x : CanRun) : State := { s with net := { s.net with can := s.net.can.set c x } }

/-- The mode a controller runs in: 0 off, 1 normal, 2 listen-only, 3 loopback; a porter listens only (R540, R552). -/
def State.canMode (s : State) (c : Fin 2) : Nat := if s.isKeeper then s.rd (Reg.CAN_CFG_MODE c) else 2

/-- A controller is bus-off. -/
def State.busOff (s : State) (c : Fin 2) : Bool := s.rd (Reg.CAN_STAT_ERR_STATE c) == 2

/-- The enabled message objects of a controller, ascending. -/
def State.canObjs (s : State) (c : Fin 2) : List Nat :=
  let base := 0x0D201000 + 0x10000 * c.val
  s.regs.filterMap (fun p =>
    if base ≤ p.1 ∧ p.1 < base + 126 * 0x80 ∧ (p.1 - base) % 0x80 = 0 ∧ p.2.getLsbD 31 then some ((p.1 - base) / 0x80) else none)

/-- The data length of a DLC (ISO 11898-1). -/
def dlcLength (fdf : Bool) (dlc : Nat) : Nat :=
  if dlc ≤ 8 then dlc else if fdf then [12, 16, 20, 24, 32, 48, 64].getD (dlc - 9) 64 else 8

/-- The status of a controller's error counting (ISO 11898-1). -/
def State.showErr (s : State) (c : Fin 2) : State :=
  if s.rd (Reg.CAN_STAT_ERR_STATE c) < 2 then
    s.wrB (Reg.CAN_STAT_ERR_STATE c) (decide (127 < s.rd (Reg.CAN_STAT_TEC c) ∨ 127 < s.rd (Reg.CAN_STAT_REC c)))
  else s

/-! ### Transmission (R542 to R544) -/

/-- The data of a transmit object: from its source address in the words of the last stage boundary, or from DATA. -/
def State.txData (s : State) (c : Fin 2) (n : Nat) (host : Bool) : List Byte :=
  let len := dlcLength (s.flag (Reg.CAN_OBJ_FDF c n)) (s.rd (Reg.CAN_OBJ_DLC c n))
  let src := s.rd (Reg.CAN_OBJ_SRC_ADDR c n)
  if host || src == 0 then (((List.range 16).map (fun k => wordBytes (s.word (0x0D201040 + 0x10000 * c.val + 0x80 * n + 4 * k)))).flatten).take len
  else ({ s with regs := s.atB }).captureBytes none src len

/-- Sets or clears an object's pending transmission. -/
def State.setTx (s : State) (c : Fin 2) (n : Nat) (t : Option CanTx) : State :=
  let x := s.canRun c
  let rest := assocErase x.tx n
  let s := s.setCan c { x with tx := match t with | some t => assocInsert rest n t | none => rest }
  s.wrB (Reg.CAN_OBJ_PENDING c n) t.isSome

/-- Queues a frame of an object (R542). `started`: the object's previous frame is on the bus. -/
def State.queueTx (s0 : State) (c : Fin 2) (n : Nat) (data : List Byte) (oneShot started : Bool) : State :=
  let k := (s0.canRun c).events + 1
  let s := s0.setCan c { s0.canRun c with events := k }
  let new : CanTx := { data := data, oneShot := oneShot, at_ := k, born := s0.timeOf 1 }
  match assocGet (s.canRun c).tx n with
  | none => s.setTx c n (some new)
  | some t =>
    if started then
      let s := if t.next.isSome then s.inc (Reg.CAN_OBJ_FAILS c n) else s
      s.setTx c n (some { t with next := some (data, oneShot) })
    else (s.inc (Reg.CAN_OBJ_FAILS c n)).setTx c n (some new)

/-- A HOST trigger (R542, R549). -/
def State.hostTx (s : State) (c : Fin 2) (n : Nat) (started : Bool) : State :=
  if s.flag (Reg.CAN_OBJ_EN c n) && s.flag (Reg.CAN_OBJ_DIR c n) && s.rd (Reg.CAN_OBJ_TRIGGER c n) == 0 then
    let s := s.queueTx c n (s.txData c n true) (s.flag (Reg.CAN_OBJ_ONE_SHOT c n)) started
    if s.busOff c && !(s.flag (Reg.CAN_OBJ_ONE_SHOT c n)) then s.wr (Reg.CAN_OBJ_STATUS c n) Status.PENDING_BUSOFF else s
  else s

/-- A STAGE or CYCLE trigger (R542, R549). -/
def State.timedTx (s : State) (c : Fin 2) (n : Nat) (started : Bool) : State :=
  if s.busOff c then s.wr (Reg.CAN_OBJ_STATUS c n) Status.TX_ABORTED_BUSOFF
  else s.queueTx c n (s.txData c n false) true started

/-- The frame that waited for the end of an object's frame becomes its frame; or none is left. -/
def State.nextTx (s : State) (c : Fin 2) (n : Nat) (t : CanTx) : State :=
  s.setTx c n (t.next.map (fun p => { data := p.1, oneShot := p.2, at_ := (s.canRun c).events, born := s.timeOf 1 }))

/-- The action of a write of TX_REQ. -/
def actTxReq (c : Fin 2) (n : Fin 128) (started : Bool) : Action := fun s =>
  if 126 ≤ n.val then s.no Status.READ_ONLY else (s.hostTx c n started).ok

/-- TX_REQ (R542). `started`: the object's previous frame is on the bus. -/
def execTxReq (r : Req) (c : Fin 2) (n : Fin 128) (started : Bool) (s : State) : Res :=
  execVerb s r Verb.SET 0 false (.txReq r c n started) (actTxReq c n started)

/-- CAN_CYCLE_TRIGGER (R542). The trigger's offset into a basic cycle whose count matches. -/
def execCanCycleTrigger (c : Fin 2) (n : Fin 126) (started : Bool) (s : State) : Res :=
  onRun s (fun s =>
    let due := s.rd (Reg.CAN_STAT_CYCLE_COUNT c) &&& s.rd (Reg.CAN_OBJ_CYC_MASK c n) == s.rd (Reg.CAN_OBJ_CYC_MATCH c n)
    if s.flag (Reg.CAN_OBJ_EN c n) && s.flag (Reg.CAN_OBJ_DIR c n) && s.rd (Reg.CAN_OBJ_TRIGGER c n) == 2
        && s.rd (Reg.CAN_CFG_TIME_ROLE c) != 0 && s.net.busFrom.isSome && due then
      s.timedTx c n started
    else s)

/-- The STAGE triggers of a controller at a stage boundary. -/
def State.stageTx (on : Option (Fin 128)) (c : Fin 2) (s : State) (n : Nat) : State :=
  if s.flag (Reg.CAN_OBJ_DIR c n) && s.rd (Reg.CAN_OBJ_TRIGGER c n) == 1
      && s.stage % s.rd (Reg.CAN_OBJ_PERIOD c n) == s.rd (Reg.CAN_OBJ_PHASE c n) then
    s.timedTx c n (on.any (fun m => m.val == n))
  else s

/-- The controller tries to send: normal or loopback, and not bus-off. -/
def State.canTries (s : State) (c : Fin 2) : Bool := (s.canMode c == 1 || s.canMode c == 3) && !(s.busOff c)

/-- A frame of the controller can get out: its pads work, or it loops back (R35, R36, R540). -/
def State.canSends (s : State) (c : Fin 2) : Bool := s.canTries c && (s.rd Reg.ID_VIO_STAT_CLASS0 != 0 || s.canMode c == 3)

/-- A frame format that the controller sends: CAN FD frames with FD_EN alone (R560). -/
def State.canFormat (s : State) (c : Fin 2) (fdf : Bool) : Bool := !fdf || s.flag (Reg.CAN_CFG_FD_EN c)

/-- Puts a frame out on the bus. In loopback it stays inside, and the controller receives it; its age at the coming boundary is a free
value (R540; log entry 24). -/
def State.emitCan (s : State) (c : Fin 2) (id : Nat) (ide fdf brs : Bool) (dlc : Nat) (data : List Byte) : State :=
  if s.canMode c = 3 then
    let (w, s) := s.takeFree
    let f : CanFrame := ⟨ide, fdf, brs, false, false, BitVec.ofNat 29 id, BitVec.ofNat 4 dlc, data⟩
    s.setCan c { s.canRun c with inbox := (s.canRun c).inbox ++ [(f, w.toNat)] }
  else s.put (.can c id ide fdf brs data)

/-- The DLC of a number of bytes (ISO 11898-1). -/
def lengthDlc (n : Nat) : Nat := if n ≤ 8 then n else 9 + ([12, 16, 20, 24, 32, 48].filter (fun k => decide (k < n))).length

/-! ### Arbitration (R543) -/

/-- The place of an object's frame in the order of priority: its base identifier, a base frame ahead of an extended one, the rest of the identifier, and
its index; of the reply segments, object 127 with CMD_CAN_PATH's identifier (R151). -/
def State.canOrder (s : State) (c : Fin 2) (n : Nat) : Nat :=
  let ide := if n = 127 then s.flag (Reg.CMD_CAN_PATH_RSP_IDE c) else s.flag (Reg.CAN_OBJ_IDE c n)
  let id := if n = 127 then s.rd (Reg.CMD_CAN_PATH_RSP_ID c) else s.rd (Reg.CAN_OBJ_ID c n)
  ((if ide then id / 2 ^ 18 * 2 + 1 else id % 2048 * 2) * 2 ^ 18 + (if ide then id % 2 ^ 18 else 0)) * 128 + n

/-- Whether an object's frame can have been offered at the start of the arbitration it won: no frame ahead of it in priority was pending when the
transmission before it ended or it was queued itself, whichever came later. -/
def State.canOffered (s : State) (c : Fin 2) (n at_ : Nat) : Bool :=
  let x := s.canRun c
  let from_ := max at_ x.lastEnd
  x.tx.all (fun p => p.1 == n || !(s.canFormat c (s.flag (Reg.CAN_OBJ_FDF c p.1))) || decide (s.canOrder c n < s.canOrder c p.1 ∨ from_ < p.2.at_))
    && (n == 127 || !(s.canFormat c true) || !x.reply || s.canTx[c].isEmpty || decide (s.canOrder c n < s.canOrder c 127))

/-- A transmission of the controller has ended: the next arbitration offers what is pending now. -/
def State.canEnd (s : State) (c : Fin 2) : State :=
  let x := s.canRun c
  s.setCan c { x with events := x.events + 1, lastEnd := x.events + 1, reply := !(s.canTx[c].isEmpty) }

/-- The counts of a frame sent without error. -/
def State.canSent (s : State) (c : Fin 2) : State :=
  let s := s.inc (Reg.CAN_STAT_TX_FRAMES c)
  (s.wr (Reg.CAN_STAT_TEC c) (s.rd (Reg.CAN_STAT_TEC c) - 1)).showErr c

/-- The segment of a reply that a controller sends (R151): when its last segment has gone the reply is sent. -/
def State.sendSegment (s : State) (c : Fin 2) : State :=
  match s.canTx[c] with
  | ⟨b :: rest, at_⟩ :: more =>
    let s := s.emitCan c (s.rd (Reg.CMD_CAN_PATH_RSP_ID c)) (s.flag (Reg.CMD_CAN_PATH_RSP_IDE c)) true true (lengthDlc b.length) b
    (if rest = [] then s.nextReply c else { s with canTx := s.canTx.set c (⟨rest, at_⟩ :: more) }).canSent c
  | ⟨[], _⟩ :: _ => s.nextReply c
  | [] => s

/-- CAN_TX_DONE (R543, R544). Object 127 carries the segments of the command path's replies (R151). -/
def execCanTxDone (c : Fin 2) (n : Fin 128) (s : State) : Res :=
  onRun s (fun s =>
    if n = 127 then
      if s.canSends c && s.canFormat c true && !(s.canTx[c].isEmpty) && s.canOffered c 127 0 then (s.sendSegment c).canEnd c else s
    else match assocGet (s.canRun c).tx n with
    | some t =>
      if !(s.canSends c) || !(s.canFormat c (s.flag (Reg.CAN_OBJ_FDF c n))) || !(s.canOffered c n t.at_) then s
      else
        let s := s.emitCan c (s.rd (Reg.CAN_OBJ_ID c n)) (s.flag (Reg.CAN_OBJ_IDE c n)) (s.flag (Reg.CAN_OBJ_FDF c n))
          (s.flag (Reg.CAN_OBJ_BRS c n)) (s.rd (Reg.CAN_OBJ_DLC c n)) t.data
        let s := (s.wr (Reg.CAN_OBJ_STATUS c n) Status.OK).inc (Reg.CAN_OBJ_DONE c n)
        (((s.canSent c).nextTx c n t)).canEnd c
    | none => s)

/-- The code of an error in LAST_ERR (R562). -/
def CanErr.code : CanErr → Nat
  | .bit => 1 | .stuff => 2 | .form => 3 | .ack => 4 | .crc => 5 | .arbitration => 6

/-- Withdraws a one-shot frame without success (R544). -/
def State.failTx (s : State) (c : Fin 2) (n : Nat) (t : CanTx) (err : Nat) : State :=
  let s := ((s.wr (Reg.CAN_OBJ_STATUS c n) Status.NO_ACK).wr (Reg.CAN_OBJ_LAST_ERR c n) err).inc (Reg.CAN_OBJ_FAILS c n)
  s.nextTx c n t

/-- The counts of an error in a transmission (R549): not in TEC for an acknowledgement error of an error-passive transmitter. -/
def State.canErr (s : State) (c : Fin 2) (err : CanErr) : State :=
  let passive := s.rd (Reg.CAN_STAT_ERR_STATE c) == 1
  let s := s.inc (Reg.CAN_STAT_ERR_FRAMES c)
  (if err == .ack && passive then s else s.wrSat (Reg.CAN_STAT_TEC c) (s.rd (Reg.CAN_STAT_TEC c) + 8)).showErr c

/-- CAN_TX_ERROR (R544). A lost arbitration leaves the frame pending. An error is counted, but not an acknowledgement error of an
error-passive transmitter in TEC (R549). -/
def execCanTxError (c : Fin 2) (n : Fin 128) (err : CanErr) (s : State) : Res :=
  onRun s (fun s =>
    if n = 127 then
      if !(s.canTries c) || s.canTx[c].isEmpty then s
      else if err == .arbitration then s.canEnd c
      else (s.canErr c err).canEnd c
    else match assocGet (s.canRun c).tx n with
    | some t =>
      if !(s.canTries c) then s
      else if err == .arbitration then s.canEnd c
      else
        let s := s.canErr c err
        (if t.oneShot then s.failTx c n t err.code else s.wr (Reg.CAN_OBJ_LAST_ERR c n) err.code).canEnd c
    | none => s)

/-- CAN_ONESHOT_DEADLINE (R544). A frame of a HOST object has its deadline 10 ms after TX_REQ, one of another at its next trigger. -/
def execCanOneshotDeadline (c : Fin 2) (n : Fin 126) (s : State) : Res :=
  onRun s (fun s =>
    match assocGet (s.canRun c).tx n with
    | some t =>
      let due := s.rd (Reg.CAN_OBJ_TRIGGER c n) != 0 || s.passed t.born 10000000
      if t.oneShot && due then s.failTx c n t 6 else s
    | none => s)

/-! ### Bus-off (R549) -/

/-- A nominal bit time in ns (R539). -/
def State.canBits (s : State) (c : Fin 2) (n : Nat) : Nat :=
  n * (s.rd (Reg.CAN_CFG_NBRP c) * (1 + s.rd (Reg.CAN_CFG_NTSEG1 c) + s.rd (Reg.CAN_CFG_NTSEG2 c))) * 25 / 2

/-- Starts the recovery of a controller, unless it is in progress (R549). -/
def State.canRecover (s : State) (c : Fin 2) : State :=
  if s.flag (Reg.CAN_STAT_RECOVERING c) then s
  else (s.setCan c { s.canRun c with healAt := s.timeOf 1 }).wr (Reg.CAN_STAT_RECOVERING c) 1

/-- A pending frame at bus-off. -/
def State.busOffTx (c : Fin 2) (s : State) (p : Nat × CanTx) : State :=
  if p.2.oneShot then (s.setTx c p.1 none).wr (Reg.CAN_OBJ_STATUS c p.1) Status.TX_ABORTED_BUSOFF
  else s.wr (Reg.CAN_OBJ_STATUS c p.1) Status.PENDING_BUSOFF

/-- CAN_BUSOFF (R549). TEC is above 255 then (ISO 11898-1; log entry 24). -/
def execCanBusoff (c : Fin 2) (s : State) : Res :=
  onRun s (fun s =>
    if !(s.canTries c) then s
    else
      let s := ((s.wr (Reg.CAN_STAT_ERR_STATE c) 2).inc (Reg.CAN_STAT_BUSOFFS c)).wr (Reg.CAN_STAT_TEC c) (max 256 (s.rd (Reg.CAN_STAT_TEC c)))
      let s := if s.flag (Reg.CAN_CFG_AUTO_RECOVER c) then s.canRecover c else s.wr (Reg.CAN_STAT_RECOVERING c) 0
      (s.canRun c).tx.foldl (State.busOffTx c) s)

/-- CAN_RECOVERY_DONE (R549). 128 occurrences of 11 recessive bits have been seen. -/
def execCanRecoveryDone (c : Fin 2) (s : State) : Res :=
  onRun s (fun s =>
    if s.flag (Reg.CAN_STAT_RECOVERING c) && s.passed (s.canRun c).healAt (s.canBits c 1408) then
      ((s.wr (Reg.CAN_STAT_RECOVERING c) 0).wr (Reg.CAN_STAT_ERR_STATE c) 0).wr (Reg.CAN_STAT_TEC c) 0 |>.wr (Reg.CAN_STAT_REC c) 0
    else s)

/-! ### Reception (R545 to R548) -/

/-- Whether an enabled object takes a frame. -/
def State.objTakes (s : State) (c : Fin 2) (f : CanFrame) (n : Nat) : Bool :=
  !(s.flag (Reg.CAN_OBJ_DIR c n)) && ((s.rd (Reg.CAN_OBJ_ID c n) ^^^ f.id.toNat) &&& s.rd (Reg.CAN_OBJ_MASK c n)) == 0
    && s.flag (Reg.CAN_OBJ_IDE c n) == f.ide && (!(s.flag (Reg.CAN_OBJ_MASK_FDF c n)) || s.flag (Reg.CAN_OBJ_FDF c n) == f.fdf)

/-- The bytes of a received frame, 0 beyond its length. -/
def CanFrame.bytes (f : CanFrame) : List Byte :=
  let n := if f.rtr then 0 else dlcLength f.fdf f.dlc.toNat
  f.data.take n ++ List.replicate (64 - (f.data.take n).length) 0

/-- An entry of the pool (R546). -/
def State.rxEntry (s : State) (c : Fin 2) (n : Nat) (f : CanFrame) (ageNs : Nat) : List Byte :=
  let age := min 0xFFFF (ageNs / 100)
  let stamp := s.stampNs 3 - 100 * age
  let b (x : Bool) (k : Nat) : Nat := if x then 2 ^ k else 0
  beBytes 1 (128 * c.val + n) ++ beBytes 4 (b f.ide 31 + b f.fdf 30 + b f.brs 29 + f.id.toNat)
    ++ beBytes 1 (b f.esi 7 + b f.rtr 6 + f.dlc.toNat) ++ beBytes 2 age ++ f.bytes
    ++ beBytes 4 (stamp / 1000000000) ++ beBytes 4 (stamp % 1000000000)

/-- A frame that an object takes. -/
def State.countTaken (s : State) (c : Fin 2) (n : Nat) : State :=
  let x := s.canRun c
  let s := s.setCan c { x with taken := assocInsert (assocErase x.taken n) n (s.timeOf 1) }
  ((s.inc (Reg.CAN_OBJ_DONE c n)).inc (Reg.CAN_STAT_RX_FRAMES c)).wr (Reg.CAN_OBJ_STALE c n) 0

/-- Writes a frame into a queue, or loses it where every entry is owned. -/
def State.queueRx (s : State) (c : Fin 2) (n : Nat) (f : CanFrame) (ageNs : Nat) : State :=
  let depth := s.rd (Reg.CAN_OBJ_DEPTH c n)
  let count := s.rd (Reg.CAN_OBJ_COUNT c n)
  let base := s.rd (Reg.CAN_OBJ_BASE c n)
  if depth ≤ count then
    ((s.wr (Reg.CAN_OBJ_FULL c n) 1).inc (Reg.CAN_OBJ_FAILS c n)).inc (Reg.CAN_STAT_RX_LOST c)
  else
    let e := base + (s.rd (Reg.CAN_OBJ_HEAD c n) - base + count) % depth
    let bytes := s.rxEntry c n f ageNs
    let a := 0x0D208000 + 0x10000 * c.val + 0x50 * e
    let s := (List.range 20).foldl (fun t k => t.setWord (a + 4 * k) (wordAt bytes (4 * k))) s
    (s.wr (Reg.CAN_OBJ_COUNT c n) (count + 1)).countTaken c n

/-- Applies the value of a SETPOINT object's frame (R547). -/
def State.canSetpoint (s : State) (c : Fin 2) (n : Nat) (f : CanFrame) : State :=
  let id := s.rd (Reg.CAN_OBJ_SP_ID c n)
  let w := wordAt f.bytes (s.rd (Reg.CAN_OBJ_BYTE_OFS c n))
  match s.entryRefusal (BitVec.ofNat 16 id, w) with
  | some _ => s.inc (Reg.CAN_OBJ_FAILS c n)
  | none => s.dueSet id ⟨f32Rat w, f32Rat w, 0, false⟩

/-- Takes the frames of an input set, in their order; of several frames of a SETPOINT object the last one governs. -/
def deliverFrames (c : Fin 2) : List (CanFrame × Nat) → State → State
  | [], s => s
  | (f, age) :: t, s =>
    let obj (f : CanFrame) := (s.canObjs c).find? (s.objTakes c f)
    match obj f with
    | none => deliverFrames c t s
    | some n =>
      if s.flag (Reg.CAN_OBJ_RX_KIND c n) then
        let s' := s.countTaken c n
        deliverFrames c t (if t.any (fun g => obj g.1 == some n) then s' else s'.canSetpoint c n f)
      else deliverFrames c t (s.queueRx c n f age)

/-- The input set of a stage boundary takes a controller's frames. -/
def State.deliverCan (s : State) (c : Fin 2) : State :=
  let x := s.canRun c
  deliverFrames c x.inbox (s.setCan c { x with inbox := [] })

/-- Releases the oldest entries of a queue (R546). -/
def State.ackRx (s : State) (c : Fin 2) (n k : Nat) : State :=
  let depth := s.rd (Reg.CAN_OBJ_DEPTH c n)
  let base := s.rd (Reg.CAN_OBJ_BASE c n)
  let s := s.wr (Reg.CAN_OBJ_HEAD c n) (base + (s.rd (Reg.CAN_OBJ_HEAD c n) - base + k) % depth)
  (s.wr (Reg.CAN_OBJ_COUNT c n) (s.rd (Reg.CAN_OBJ_COUNT c n) - k)).wr (Reg.CAN_OBJ_FULL c n) 0

/-- The action of a write of ACK. -/
def actAck (c : Fin 2) (n : Fin 128) (count : BitVec 6) : Action := fun s =>
  if 126 ≤ n.val then s.no Status.READ_ONLY
  else if s.rd (Reg.CAN_OBJ_COUNT c n) < count.toNat then s.no Status.VALUE_OUT_OF_RANGE
  else if count = 0 then s.ok
  else (s.ackRx c n count.toNat).ok

/-- ACK (R546). -/
def execAck (r : Req) (c : Fin 2) (n : Fin 128) (count : BitVec 6) (s : State) : Res :=
  execVerb s r Verb.SET 0 false (.ack r c n count) (actAck c n count)

/-- CAN_RX_STALE (R548). No frame has been taken for TIMEOUT_MS. -/
def execCanRxStale (c : Fin 2) (n : Fin 126) (s : State) : Res :=
  onRun s (fun s =>
    if s.flag (Reg.CAN_OBJ_EN c n) && !(s.flag (Reg.CAN_OBJ_DIR c n)) && s.rd (Reg.CAN_OBJ_TIMEOUT_MS c n) != 0
        && s.passed ((assocGet (s.canRun c).taken n).getD s.power.startMono) (s.rd (Reg.CAN_OBJ_TIMEOUT_MS c n) * 1000000) then
      s.wr (Reg.CAN_OBJ_STALE c n) 1
    else s)

/-! ### CAN time (R550, R551) -/

/-- A basic cycle starts: its count, and the age of its start at the coming boundary. BUS_TIME is SYNCED from a master's first and a slave's
second reference message on. -/
def State.beginCycle (s : State) (c : Fin 2) (count ageNs : Nat) (master : Bool) : State :=
  let x := s.canRun c
  let s := s.setCan c { x with starts := x.starts ++ [ageNs], refs := x.refs + 1, nominal := 0, follows := !master, refAt := s.timeOf 1 }
  let s := (s.wr (Reg.CAN_STAT_CYCLE_COUNT c) count).wrB (Reg.CAN_STAT_MASTER_NOW c) master
  let s := s.wr (Reg.TIME_BASE_HOLDOVER 3) 0
  if master || 1 ≤ x.refs then s.wr (Reg.TIME_BASE_SYNCED 3) 1 else s

/-- Whether a frame is a reference message for a controller (R550). -/
def State.isReference (s : State) (c : Fin 2) (f : CanFrame) : Bool :=
  s.rd (Reg.CAN_CFG_TIME_ROLE c) != 0 && !f.fdf && !f.rtr && f.dlc == 1 && f.ide == s.flag (Reg.CAN_CFG_REF_IDE c)
    && f.id.toNat / 8 == s.rd (Reg.CAN_CFG_REF_ID c) / 8

/-- Takes a reference message: a slave follows it, and a master follows one of a lower identifier (R550). -/
def State.takeReference (s : State) (c : Fin 2) (f : CanFrame) (ageNs : Nat) : State :=
  let master := s.rd (Reg.CAN_CFG_TIME_ROLE c) == 2 && s.canMode c != 2
  if master && decide (s.rd (Reg.CAN_CFG_REF_ID c) ≤ f.id.toNat) then s
  else s.beginCycle c ((byteAt f.data 0).toNat % 64) ageNs false

/-- CAN_FRAME_RECEIVED (R545). From the bus, not in loopback: a frame without error, with the time from its start to the stage boundary that ends the stage of its end. -/
def execCanFrameReceived (c : Fin 2) (f : CanFrame) (ageNs : Nat) (s : State) : Res :=
  onRun s (fun s =>
    if !s.isKeeper || s.canMode c == 0 || s.canMode c == 3 || !(s.canHears c) || s.busOff c || (f.fdf && !(s.flag (Reg.CAN_CFG_FD_EN c))) then s
    else
      let rec_ := s.rd (Reg.CAN_STAT_REC c)
      let s := (s.wr (Reg.CAN_STAT_REC c) (if 127 < rec_ then 127 else rec_ - 1)).showErr c
      let x := s.canRun c
      let s := s.setCan c { x with inbox := x.inbox ++ [(f, ageNs)] }
      if s.isReference c f then s.takeReference c f ageNs else s)

/-- Sends an own reference message (R550). Its basic cycle starts whether or not the message is acknowledged. -/
def State.sendReference (s : State) (c : Fin 2) (ageNs : Nat) (acked : Bool) : State :=
  let count := if s.net.busFrom.isSome || (s.canRun c).refs != 0 then (s.rd (Reg.CAN_STAT_CYCLE_COUNT c) + 1) % 64 else 0
  let s := s.emitCan c (s.rd (Reg.CAN_CFG_REF_ID c)) (s.flag (Reg.CAN_CFG_REF_IDE c)) false false 1 (beBytes 1 count)
  let f : CanFrame := ⟨s.flag (Reg.CAN_CFG_REF_IDE c), false, false, false, false, BitVec.ofNat 29 (s.rd (Reg.CAN_CFG_REF_ID c)), 1, beBytes 1 count⟩
  let s := s.setCan c { s.canRun c with told := (s.canRun c).told ++ [(f, ageNs)] }
  let s := if acked then s.inc (Reg.CAN_STAT_TX_FRAMES c) else s
  s.beginCycle c count ageNs true

/-- The last reference lies this long back, in ns, or there was none. -/
def State.refPassed (s : State) (c : Fin 2) (ns : Nat) : Bool := (s.canRun c).refs == 0 || s.passed (s.canRun c).refAt ns

/-- CAN_REFERENCE_SEND (R550). The cycle time of the time master has reached T_CYCLE. -/
def execCanReferenceSend (c : Fin 2) (ageNs : Nat) (acked : Bool) (s : State) : Res :=
  onRun s (fun s =>
    if s.rd (Reg.CAN_CFG_TIME_ROLE c) == 2 && s.canSends c && !(s.canRun c).follows && s.refPassed c (s.tCycle c / 65536) then s.sendReference c ageNs acked else s)

/-- CAN_BACKUP_MASTER_TIMEOUT (R550). No reference has come for T_CYCLE and 8 nominal bit times for each step of the own priority. -/
def execCanBackupMasterTimeout (c : Fin 2) (ageNs : Nat) (acked : Bool) (s : State) : Res :=
  onRun s (fun s =>
    if s.rd (Reg.CAN_CFG_TIME_ROLE c) == 2 && s.canSends c && (s.canRun c).follows
        && s.refPassed c (s.tCycle c / 65536 + s.canBits c (8 * (s.rd (Reg.CAN_CFG_REF_ID c) % 8))) then s.sendReference c ageNs acked else s)

/-- BUS_TIME_CYCLE_MISSING (R551). No cycle has started for T_CYCLE: a nominal cycle begins; the eighth in a row clears SYNCED. -/
def execBusTimeCycleMissing (s : State) : Res :=
  onRun s (fun s =>
    match s.timeCan, s.net.busFrom with
    | some c, some f =>
      let x := s.canRun c
      if x.starts ≠ [] || !(decide (f + s.tCycle c < s.timeOf 3 + s.tsNs * 65536)) then s
      else
      let s := s.setCan c { x with nominal := x.nominal + 1 }
      let s := { s with net := { s.net with busFrom := some (f + s.tCycle c) } }
      let s := (s.wr (Reg.CAN_STAT_CYCLE_COUNT c) ((s.rd (Reg.CAN_STAT_CYCLE_COUNT c) + 1) % 64)).wr (Reg.TIME_BASE_HOLDOVER 3) 1
      if 8 ≤ x.nominal + 1 then s.wr (Reg.TIME_BASE_SYNCED 3) 0 else s
    | _, _ => s)

/-- BUS_TIME at a stage boundary, once it has gone on with MONO: the starts since the last boundary align it, and it holds at the end of the
present cycle (R551). -/
def State.tickBus (s : State) : State :=
  match s.timeCan with
  | none => { s with net := { s.net with busFrom := none } }
  | some c =>
    let x := s.canRun c
    let t := s.tCycle c
    let r := x.starts.foldl (fun (r : Nat × Option Nat) age => let q := alignBus t r.1 r.2 age; (q.1, some q.2)) (s.timeOf 3, s.net.busFrom)
    let v := match r.2 with | some f => min r.1 (f + t) | none => r.1
    let s := (s.setTime 3 v).setCan c { x with starts := [], told := [] }
    { s with net := { s.net with busFrom := r.2 } }

/-- A CAN record that a porter latches, with the age that its frame has at the coming boundary: its objects take the frame, but not the keeper's own
reference, and a reference starts a basic cycle (R463, R552). -/
def State.hearRecord (s : State) (c : Fin 2) (f : CanFrame) (ageNs : Nat) : State :=
  let ref := s.isReference c f
  let s' := if ref && s.rd (Reg.CAN_CFG_TIME_ROLE c) == 2 && f.id.toNat == s.rd (Reg.CAN_CFG_REF_ID c) then s
    else s.setCan c { s.canRun c with inbox := (s.canRun c).inbox ++ [(f, ageNs)] }
  if ref then s'.takeReference c f (ageNs + s.tsNs) else s'

/-! ### Commits (R540, R541, R545) -/

/-- Restarts a controller: pending transmissions are dropped and the counters are 0; the queues are kept. -/
def State.restartCan (s : State) (c : Fin 2) : State :=
  let x := s.canRun c
  let s := x.tx.foldl (fun t p => t.wr (Reg.CAN_OBJ_PENDING c p.1) 0) s
  let s := s.setCan c { inbox := x.inbox, taken := x.taken }
  let s := ((s.wr (Reg.CAN_STAT_TEC c) 0).wr (Reg.CAN_STAT_REC c) 0).wr (Reg.CAN_STAT_RECOVERING c) 0
  let s := ((s.wr (Reg.CAN_STAT_MASTER_NOW c) 0).wr (Reg.CAN_STAT_CYCLE_COUNT c) 0).wr (Reg.CAN_STAT_ERR_STATE c) (if s.canMode c = 0 then 3 else 0)
  let s := (s.wr (Reg.TIME_BASE_SYNCED 3) 0).wr (Reg.TIME_BASE_HOLDOVER 3) 0
  { s with net := { s.net with busFrom := none } }

/-- The ring of one object, from a pool index on: an object whose ring changes starts empty (log entry 24). -/
def State.assignRing (c : Fin 2) (old : State) (r : State × Nat) (n : Nat) : State × Nat :=
  let s := r.1
  if s.flag (Reg.CAN_OBJ_DIR c n) || s.flag (Reg.CAN_OBJ_RX_KIND c n) then r
  else
    let depth := s.rd (Reg.CAN_OBJ_DEPTH c n)
    let kept := old.flag (Reg.CAN_OBJ_EN c n) && old.rd (Reg.CAN_OBJ_BASE c n) == r.2 && old.rd (Reg.CAN_OBJ_DEPTH c n) == depth
      && !(old.flag (Reg.CAN_OBJ_DIR c n)) && !(old.flag (Reg.CAN_OBJ_RX_KIND c n))
    let s := if kept then s
      else (((s.wr (Reg.CAN_OBJ_BASE c n) r.2).wr (Reg.CAN_OBJ_HEAD c n) r.2).wr (Reg.CAN_OBJ_COUNT c n) 0).wr (Reg.CAN_OBJ_FULL c n) 0
    (s, r.2 + depth)

/-- An object whose configuration changes starts its time without a frame anew (R548). -/
def State.restartTimeout (c : Fin 2) (old s : State) (n : Nat) : State :=
  let a := 0x0D201000 + 0x10000 * c.val + 0x80 * n
  if (List.range 7).any (fun k => old.word (a + 4 * k) != s.word (a + 4 * k)) then
    let x := s.canRun c
    s.setCan c { x with taken := assocInsert (assocErase x.taken n) n (s.timeOf 1) }
  else s

/-- The rings of a controller after a commit (R545). -/
def State.assignRings (s old : State) (c : Fin 2) : State :=
  let t := ((s.canObjs c).foldl (State.assignRing c old) (s, 0)).1
  (t.canObjs c).foldl (State.restartTimeout c old) t

/-- The queue entries that a controller's objects ask for (R545). -/
def State.ringTotal (s : State) (c : Fin 2) : Nat :=
  (s.canObjs c).foldl (fun k n =>
    if s.flag (Reg.CAN_OBJ_DIR c n) || s.flag (Reg.CAN_OBJ_RX_KIND c n) then k else k + s.rd (Reg.CAN_OBJ_DEPTH c n)) 0

/-- Objects 126 and 127 read back from CMD_CAN_PATH (R151, R541). -/
def State.showCanPath (s : State) (c : Fin 2) : State :=
  let s := ((s.wr (Reg.CAN_OBJ_EN c 126) 1).wr (Reg.CAN_OBJ_FDF c 126) 1).wr (Reg.CAN_OBJ_BRS c 126) 1
  let s := (s.wr (Reg.CAN_OBJ_IDE c 126) (s.rd (Reg.CMD_CAN_PATH_REQ_IDE c))).wr (Reg.CAN_OBJ_ID c 126) (s.rd (Reg.CMD_CAN_PATH_REQ_ID c))
  let s := ((s.wr (Reg.CAN_OBJ_EN c 127) 1).wr (Reg.CAN_OBJ_FDF c 127) 1).wr (Reg.CAN_OBJ_BRS c 127) 1
  let s := (s.wr (Reg.CAN_OBJ_DIR c 127) 1).wr (Reg.CAN_OBJ_IDE c 127) (s.rd (Reg.CMD_CAN_PATH_RSP_IDE c))
  s.wr (Reg.CAN_OBJ_ID c 127) (s.rd (Reg.CMD_CAN_PATH_RSP_ID c))

end Sys2Proof.Machine
end

