-- ==== Sys2Proof/Machine/Checks.lean ====
section
/-! DEFINITION. The checks that an APPLY makes of its shadow set across objects (R163): each block's conditions on the state `t` that the
commit would leave, with the status and the address that the reply names (R67, R72, R74, R79, R181, R191, R279, R283, R296, R358,
R409, R426, R431, R438, R540, R541, R545, R547, R553, R556, R562, R575). -/

namespace Sys2Proof.Machine

open Sys2Proof

/-- A refusal of an APPLY: its status and the failing address. -/
abbrev ApplyFail := Option (Nat × Nat)

/-- Fails with a status at an address where a condition holds. -/
def failIf (c : Bool) (status addr : Nat) : ApplyFail := if c then some (status, addr) else none

/-- Out of range at an address where a condition holds. -/
def badIf (c : Bool) (addr : Nat) : ApplyFail := failIf c Status.VALUE_OUT_OF_RANGE addr

/-- The first failure of a list. -/
def firstFail (l : List ApplyFail) : ApplyFail := l.findSome? id

/-- A shadow set's objects from an address to below another, by address. -/
def carried (sh : List (Nat × List Byte)) (lo hi : Nat) : List Nat := (sh.map (fun p => p.1)).filter (fun a => decide (lo ≤ a ∧ a < hi))

/-- Checks that apply where a set carries an object of a span; the first such object is given to them. -/
def ifCarried (sh : List (Nat × List Byte)) (lo hi : Nat) (f : Nat → List ApplyFail) : ApplyFail :=
  match carried sh lo hi with
  | a :: _ => firstFail (f a)
  | [] => none

/-- PRECHARGE, SYNC, RUN, DERATED or STOPPING: the states in which APPLYs answer BUSY_RUNNING. -/
def State.busyStation (s : State) : Bool := s.switching

/-- Whether a field would change. -/
def State.changed (s t : State) (f : Fld) : Bool := s.rd f != t.rd f

/-- Whether a binary32 field is not finite. -/
def State.notFinite (t : State) (f : Fld) : Bool := !(f32Finite (BitVec.ofNat 32 (t.rd f)))

/-! ### Clocks and the stage period (R67, R72, R74, R79) -/

/-- The bounds of SLOPE_LIMIT and of END_OFFSET of a ramp generator (R60, R72). -/
def slopeTop (g : Nat) : Nat := if g = 0 then 1000 else 4000
def offsetLow (g : Nat) : Int := if g = 0 then -100000 else -5000

/-- A ramp generator's object. -/
def State.rampFails (t : State) (g : Nat) : List ApplyFail :=
  let a := 0x01000100 + 0x100 * g
  badIf (decide (slopeTop g < t.rd (Reg.CLK_RAMP_SLOPE_LIMIT g))) a ::
    (List.range 16).map (fun j =>
      let e := t.rdS (Reg.CLK_RAMP_SEG_END_OFFSET g j)
      badIf (decide (e < offsetLow g ∨ 0 < e)) (a + 0x10 + 8 * j))

/-- The spread's slope of 2 × DEPTH × FMOD in 0.1 ppm/µs exceeds a limit (R74). -/
def State.spreadTooSteep (t : State) : Bool :=
  decide (t.rd (Reg.CLK_RAMP_SLOPE_LIMIT 1) * 1000 < 2 * t.rd Reg.CLK_LANE_SPREAD_DEPTH * t.rd Reg.CLK_LANE_SPREAD_FMOD)

/-- The checks of the clocks' objects. -/
def State.clockFail (s t : State) (sh : List (Nat × List Byte)) : ApplyFail :=
  firstFail
    [ifCarried sh 0x01000008 0x0100000C (fun a =>
       [failIf (s.changed t Reg.CLK_SYS_TARGET_OFFSET_PPM && s.busyStation) Status.BUSY_RUNNING a]),
     ifCarried sh 0x01000010 0x01000014 (fun a =>
       [badIf (t.flag Reg.CLK_LANE_SPREAD_EN && (t.spreadTooSteep || s.clk.rampLane.running)) a]),
     ifCarried sh 0x01000018 0x0100001C (fun a =>
       [badIf (decide (t.ts < 250 ∨ 5000 < t.ts)) a,
        badIf (decide (t.ts < 500) && decide (256 < max (s.rd Reg.ROUTE_TABLE_TOTAL_CELLS)
          (((List.range 24).map (fun n => t.rd (Reg.ROUTE_CFG_CELL_COUNT n))).foldl (· + ·) 0))) a,
        failIf (s.changed t Reg.CLK_STAGE_PERIOD_TS && decide (2 < s.station)) Status.BUSY_RUNNING a]),
     ifCarried sh 0x01000100 0x01000104 (fun _ => t.rampFails 0),
     ifCarried sh 0x01000200 0x01000204 (fun a => t.rampFails 1 ++ [badIf (t.flag Reg.CLK_LANE_SPREAD_EN && t.spreadTooSteep) a])]

/-! ### The command path on CAN (R181) -/

/-- A controller's request and reply identifiers with their kinds. -/
def State.reqId (t : State) (c : Nat) : Nat := t.rd (Reg.CMD_CAN_PATH_REQ_IDE c) * 2 ^ 29 + t.rd (Reg.CMD_CAN_PATH_REQ_ID c)
def State.rspId (t : State) (c : Nat) : Nat := t.rd (Reg.CMD_CAN_PATH_RSP_IDE c) * 2 ^ 29 + t.rd (Reg.CMD_CAN_PATH_RSP_ID c)

/-- A base identifier above 0x7FF. -/
def baseIdBad (v : Nat) : Bool := decide (0x7FF < v ∧ v < 2 ^ 29)

/-- The checks of CMD_CAN_PATH. -/
def State.canPathFail (t : State) (sh : List (Nat × List Byte)) : ApplyFail :=
  ifCarried sh 0x03000010 0x03000020 (fun a =>
    [badIf (baseIdBad (t.reqId 0) || baseIdBad (t.rspId 0)) 0x03000010, badIf (baseIdBad (t.reqId 1) || baseIdBad (t.rspId 1)) 0x03000018,
     badIf ([0, 1].any (fun c => t.reqId c == t.rspId 0 || t.reqId c == t.rspId 1)) a, badIf (t.reqId 0 == t.reqId 1) a])

/-! ### The route table (R191) -/

/-- The cell counts of the routes, and their total. -/
def State.cellCounts (t : State) : List Nat := (List.range 24).map (fun n => t.rd (Reg.ROUTE_CFG_CELL_COUNT n))
def State.cellTotal (t : State) : Nat := t.cellCounts.foldl (· + ·) 0

/-- A cell's serial. -/
def State.serialOf (t : State) (c : Nat) : Nat := t.rd (Reg.CELL_ID_SERIAL_HI c) * 2 ^ 32 + t.rd (Reg.CELL_ID_SERIAL_LO c)

/-- An arm's place: its arm and its position. -/
def State.placeOf (t : State) (c : Nat) : Nat := t.rd (Reg.CELL_ID_ARM c) * 64 + t.rd (Reg.CELL_ID_ARM_POS c)

/-- The first item of a list of keys that stands in the list before it. -/
def firstTwin : List (Nat × Nat) → List Nat → Option Nat
  | [], _ => none
  | (c, k) :: t, seen => if seen.contains k then some c else firstTwin t (k :: seen)

/-- The address of a cell's CELL_ID. -/
def cellIdAddr (c : Nat) : Nat := 0x05000000 + 0x100 * c

/-- The positions of an arm: those of its cells, as fitted by the counts. -/
def State.armPlaces (t : State) (total a : Nat) : List Nat :=
  ((List.range total).filter (fun c => t.rd (Reg.CELL_ID_ARM c) == a)).map (fun c => t.rd (Reg.CELL_ID_ARM_POS c))

/-- An enabled arm's failing condition, if any: no cells, a gap, a group without exactly one arm of each phase, MIN_ACTIVE (R185). -/
def State.armBad (t : State) (total a : Nat) : Bool :=
  let places := t.armPlaces total a
  let g := t.rd (Reg.ARM_CFG_GROUP a)
  let of (ph : Nat) : Nat := ((List.range 24).filter (fun b => t.armOn b && t.rd (Reg.ARM_CFG_GROUP b) == g && t.rd (Reg.ARM_CFG_PHASE b) == ph)).length
  let active := ((List.range total).filter (fun c => t.rd (Reg.CELL_ID_ARM c) == a && !(t.flag (Reg.CELL_ID_ROLE c)))).length
  let least := t.rd (Reg.ARM_CFG_MIN_ACTIVE a)
  t.armOn a && (places.isEmpty || places.any (fun p => decide (places.length ≤ p)) || [0, 1, 2].any (fun ph => of ph != 1)
    || least == 0 || decide (active < least))

/-- The conditions of R191 that do not depend on the station state. -/
def State.routeTableFails (t : State) (a : Nat) : List ApplyFail :=
  let total := t.cellTotal
  let fitted := List.range (min total 512)
  let routes := List.range 24
  let arms := List.range 24
  [(routes.find? (fun n => decide (32 < t.rd (Reg.ROUTE_CFG_CELL_COUNT n)))).bind (fun n => badIf true (0x04000100 + 0x10 * n)),
   badIf (decide (512 < total)) a, badIf (decide (256 < total ∧ t.ts < 500)) a,
   ((List.range 512).find? (fun c =>
      if c < total then t.serialOf c == 0
      else t.serialOf c != 0 || t.placeOf c != 0 || t.flag (Reg.CELL_ID_ROLE c))).bind (fun c => badIf true (cellIdAddr c)),
   (firstTwin (fitted.map (fun c => (c, t.serialOf c))) []).bind (fun c => badIf true (cellIdAddr c)),
   (fitted.find? (fun c => !(t.armOn (t.rd (Reg.CELL_ID_ARM c))))).bind (fun c => badIf true (cellIdAddr c)),
   (firstTwin (fitted.map (fun c => (c, t.placeOf c))) []).bind (fun c => badIf true (cellIdAddr c)),
   (arms.find? (t.armBad (min total 512))).bind (fun b => badIf true (0x04000800 + 8 * b)),
   (routes.find? (fun n => (t.rd (Reg.ROUTE_CFG_CELL_COUNT n) != 0) != t.flag (Reg.ROUTE_CFG_EN n))).bind
     (fun n => badIf true (0x04000100 + 0x10 * n))]

/-- The first part of the route table that a set carries. -/
def routeTableIn (sh : List (Nat × List Byte)) : Option Nat := (sh.map (fun p => p.1)).find? identityObject

/-- The checks of R191. -/
def State.routeTableFail (s t : State) (sh : List (Nat × List Byte)) : ApplyFail :=
  match routeTableIn sh with
  | some a => firstFail (failIf (decide (2 < s.station)) Status.BUSY_RUNNING a :: t.routeTableFails a)
  | none => none

/-! ### The modulator (R279, R283) -/

/-- The fields of a leg group. -/
def groupFields (g : Nat) : List Fld :=
  [Reg.MOD_GROUP_TMIN g, Reg.MOD_GROUP_DT g, Reg.MOD_GROUP_REFRESH_EN g, Reg.MOD_GROUP_T_RF g, Reg.MOD_GROUP_T_REFRESH g]

/-- A leg group's times against its carrier's period, all in counts of 1.25 ns. -/
def State.groupBad (t : State) (g : Nat) : Bool :=
  let dt := t.rd (Reg.MOD_GROUP_DT g)
  let tmin := t.rd (Reg.MOD_GROUP_TMIN g)
  let tc := t.acPeriod / 16
  let tdab := t.dabPeriod / 16
  let tdrv := t.drvPeriod / 16
  let trf := t.rd (Reg.MOD_GROUP_T_RF g)
  let tr := t.rd (Reg.MOD_GROUP_T_REFRESH g)
  (match g with
    | 0 => decide (tc < 2 * (dt + tmin))
    | 1 => decide (tdab < 4 * (dt + tmin))
    | 2 => decide (tdab < 4 * (dt + tmin))
    | 3 => decide (tdrv < 2 * (dt + tmin))
    | _ => decide (tdrv < 2 * tmin))
  || (t.flag (Reg.MOD_GROUP_REFRESH_EN g)
      && (decide (trf < tmin) || decide (tr < 10) || decide (tr * 800 < 2 * (trf + 2 * dt + tmin))))

/-- The checks of MOD_CFG and MOD_GROUP. -/
def State.modFails (s t : State) (a : Nat) : List ApplyFail :=
  let any (l : List Fld) : Bool := l.any (s.changed t)
  [failIf (any (Reg.MOD_CFG_DAB_Q :: Reg.MOD_CFG_AC_NC :: ([0, 1, 2].map groupFields).flatten) && s.busyStation) Status.BUSY_RUNNING a,
   failIf (any (Reg.MOD_CFG_DRV_N :: Reg.MOD_CFG_ZSI :: ([3, 4].map groupFields).flatten) && s.driveActive) Status.BUSY_RUNNING a]
  ++ [0, 1, 2, 3, 4].map (fun g => badIf (t.groupBad g) (0x06000100 + 0x10 * g))

/-- The checks of the modulator's objects. -/
def State.modFail (s t : State) (sh : List (Nat × List Byte)) : ApplyFail :=
  firstFail
    (ifCarried sh 0x06000000 0x0600000C (s.modFails t) :: ifCarried sh 0x06000100 0x06000150 (s.modFails t) ::
      (carried sh 0x06000400 0x060004C0).map (fun a => badIf (decide (t.acPeriod ≤ t.rd (Reg.MOD_ARM_ARM_PHASE ((a - 0x06000400) / 8)))) a))

/-! ### The loop engine (R296) -/

/-- A slot's bounds in use. -/
def State.slotBounds (t : State) (n : Nat) : List Fld :=
  (List.range (t.rd (Reg.LOOP_SLOT_CFG_N_REG n))).map (fun i => ⟨0x07100024 + 0x40 * n + 4 * i, 31, 0⟩)

/-- The gaps between neighbours of a list. -/
def gaps : List Rat → List Rat
  | x :: y :: t => (y - x) :: gaps (y :: t)
  | _ => []

/-- An enabled slot's conditions within itself. -/
def State.slotBad (t : State) (n : Nat) : Bool :=
  let hi := t.f32 (Reg.LOOP_SLOT_CFG_OUT_HI n)
  let lo := t.f32 (Reg.LOOP_SLOT_CFG_OUT_LO n)
  let fb := t.f32 (Reg.LOOP_SLOT_CFG_FB_OUT n)
  let hyst := t.f32 (Reg.LOOP_SLOT_CFG_SCHED_HYST n)
  let gs := gaps ((t.slotBounds n).map t.f32)
  [Reg.LOOP_SLOT_CFG_OUT_HI n, Reg.LOOP_SLOT_CFG_OUT_LO n, Reg.LOOP_SLOT_CFG_FB_OUT n, Reg.LOOP_SLOT_CFG_I_PRESET n,
    Reg.LOOP_SLOT_CFG_SCHED_HYST n].any t.notFinite
  || decide (hi ≤ lo) || decide (fb < lo ∨ hi < fb)
  || (List.range (t.rd (Reg.LOOP_SLOT_CFG_N_REG n) + 1)).any (fun r =>
      [Reg.LOOP_REGION_KP n r, Reg.LOOP_REGION_KI n r, Reg.LOOP_REGION_KD n r, Reg.LOOP_REGION_TF n r].any t.notFinite
        || decide (t.f32 (Reg.LOOP_REGION_TF n r) < 0))
  || (t.slotBounds n).any t.notFinite || gs.any (fun x => decide (x ≤ 0)) || decide (hyst < 0) || gs.any (fun x => decide (x ≤ 2 * hyst))
  || (t.flag (Reg.LOOP_SLOT_CFG_SCHED_EN n) && decide (t.rd (Reg.LOOP_SLOT_CFG_SCHED_SRC n) < 8192))
  || (match t.rd (Reg.LOOP_SLOT_CFG_DEST_KIND n) with
      | 3 => decide (2 < t.rd (Reg.LOOP_SLOT_CFG_DEST_INDEX n))
      | 4 => decide (t.rd (Reg.LOOP_SLOT_CFG_DEST_INDEX n) ≠ 0)
      | _ => false)
  || (match t.rd (Reg.LOOP_SLOT_CFG_FB_KIND n) with
      | 1 => false
      | 2 => decide (23 < t.rd (Reg.LOOP_SLOT_CFG_OWNER n))
      | _ => decide (t.rd (Reg.LOOP_SLOT_CFG_OWNER n) ≠ 0))

/-- A slot's destination, or none. -/
def State.slotDest (t : State) (n : Nat) : Nat := t.rd (Reg.LOOP_SLOT_CFG_DEST_KIND n) * 512 + t.rd (Reg.LOOP_SLOT_CFG_DEST_INDEX n)

/-- The checks of LOOP_SLOT_CFG and LOOP_REGION. -/
def State.loopFail (t : State) (sh : List (Nat × List Byte)) : ApplyFail :=
  match carried sh 0x07100000 0x07300000 with
  | [] => none
  | _ =>
    let on := t.enabledSlots
    let at_ (n : Nat) : Nat := 0x07100000 + 0x40 * n
    match on.find? t.slotBad with
    | some n => badIf true (at_ n)
    | none =>
      (firstTwin ((on.filter (fun n => t.rd (Reg.LOOP_SLOT_CFG_DEST_KIND n) != 0)).map (fun n => (n, t.slotDest n))) []).bind
        (fun n => badIf true (at_ n))

/-! ### Policy and drive stage (R358, R409) -/

/-- The checks of POL_CFG, POL_SEQ, POL_GRID and POL_CAP. -/
def State.polFail (s t : State) (sh : List (Nat × List Byte)) : ApplyFail :=
  ifCarried sh 0x08000100 0x08000600 (fun a =>
    [failIf s.busyStation Status.BUSY_RUNNING a,
     badIf (decide (t.f32 Reg.POL_CFG_ILIM_NOM < t.f32 Reg.POL_CFG_I_ARM_MAX * 11 / 10)) a,
     badIf (decide (t.f32 Reg.POL_CFG_U_OV ≤ t.f32 Reg.POL_CFG_U_UV)) a,
     badIf (decide (t.rd Reg.POL_CAP_WATCH < t.rd Reg.POL_CAP_SERVICE)) a])

/-- What relates the fields of the drive stage's objects. -/
def State.driveFails (t : State) (a : Nat) : List ApplyFail :=
  [badIf ((List.range 7).any (fun ch => decide (t.rd (Reg.DRV_GATE_INIT_LVL ch) < t.rd (Reg.DRV_GATE_MIN_LVL ch))
     || decide (t.rd (Reg.DRV_GATE_MAX_LVL ch) < t.rd (Reg.DRV_GATE_INIT_LVL ch)))) a,
   badIf (decide (t.rd Reg.DRV_PROT_OV_TRIP_V < t.rd Reg.DRV_PROT_OV_BRAKE_ON_V + 20)) a,
   badIf (decide (t.rd Reg.DRV_PROT_OV_BRAKE_ON_V < 600 + t.rd Reg.DRV_PROT_OV_BRAKE_HYST)) a,
   badIf (decide ((1000000000 : Rat) < 4 * (t.rd Reg.DRV_ENC_LINES : Rat) * (11 / 10) * t.f32 Reg.DRV_MOTOR_MAX_RPM / 60
     * (2 * 20 * (t.rd Reg.DRV_ENC_FILT : Rat)))) a,
   badIf (decide (t.rd Reg.POL_SEQ_T_STOP_MS ≤ t.rd Reg.DRV_MOTOR_T_DRV_STOP_MS + t.rd Reg.POL_SEQ_T_RAMPDOWN_MS)) a]

/-- The checks of the drive stage's objects: DRV_PROT may be applied in any state. -/
def State.driveFail (s t : State) (sh : List (Nat × List Byte)) : ApplyFail :=
  ifCarried sh 0x09000100 0x09000600 (fun a =>
    failIf ((carried sh 0x09000100 0x09000310 ++ carried sh 0x09000400 0x09000600) != [] && s.driveActive) Status.BUSY_RUNNING a
      :: t.driveFails a)

/-! ### Measurement (R426, R431, R438) -/

/-- The stops of an enabled converter that its itinerary runs. -/
def State.stopsOf (t : State) (x : Nat) : List Nat := if t.flag (Reg.MEAS_ADC_CFG_EN x) then List.range (t.rd (Reg.MEAS_ADC_CFG_STOP_COUNT x)) else []

/-- The result indices that a converter writes. -/
def State.resultsOf (t : State) (x : Nat) : List Nat := (t.stopsOf x).map (fun j => t.rd (Reg.MEAS_STOP_RESULT x j))

/-- The checks of the converters' itineraries. -/
def State.adcFails (t : State) (a : Nat) : List ApplyFail :=
  [badIf ([(0, 1), (0, 2), (0, 3), (1, 2), (1, 3), (2, 3)].any (fun p => (t.resultsOf p.1).any (fun r => (t.resultsOf p.2).contains r))) a,
   badIf ([0, 1, 2, 3].any (fun x => (t.stopsOf x).any (fun j =>
     t.rd (Reg.MEAS_STOP_TRIGGER x j) == 1 && decide (t.ts * 8 ≤ t.rd (Reg.MEAS_STOP_DELAY x j))))) a]

/-- The checks of the measurement's objects. -/
def State.measFail (s t : State) (sh : List (Nat × List Byte)) : ApplyFail :=
  firstFail
    ([ifCarried sh 0x0A000000 0x0A000040 t.adcFails,
      ifCarried sh 0x0A000200 0x0A000208 (fun a =>
        [failIf ([Reg.MEAS_SD_CFG_OSR0, Reg.MEAS_SD_CFG_OSR1, Reg.MEAS_SD_CFG_OSR2].any (s.changed t) && s.driveActive) Status.BUSY_RUNNING a,
         failIf (s.changed t Reg.MEAS_SD_CFG_OSR3 && s.busyStation) Status.BUSY_RUNNING a]),
      ifCarried sh 0x0A010000 0x0A010800 t.adcFails]
    ++ (carried sh 0x0A030000 0x0A030800).map (fun a =>
      let i := (a - 0x0A030000) / 8
      badIf (t.notFinite (Reg.MEAS_SCALE_SCALE i) || t.notFinite (Reg.MEAS_SCALE_OFFSET i) || decide (t.f32 (Reg.MEAS_SCALE_SCALE i) = 0)) a))

/-! ### Networks (R539 to R547, R553, R556, R562) -/

/-- A port's gateway lies inside its prefix, or is 0. -/
def State.gatewayBad (t : State) (p : Nat) : Bool :=
  let gw := t.rd (Reg.ETH_CFG_GATEWAY p)
  let m := 2 ^ (32 - t.rd (Reg.ETH_CFG_PREFIX p))
  gw != 0 && gw / m != t.rd (Reg.ETH_CFG_IP p) / m

/-- A telegram's range and phase. -/
def State.telegramBad (t : State) (i : Nat) : Bool :=
  decide (0x10000000 < t.rd (Reg.ETH_TELEGRAM_START i) + t.rd (Reg.ETH_TELEGRAM_LENGTH i))
    || decide (t.rd (Reg.ETH_TELEGRAM_PERIOD_MS i) * 1000000 ≤ t.rd (Reg.ETH_TELEGRAM_PHASE_NS i))

/-- A controller's bit times: nominal 125 kbit/s to 1 Mbit/s, data from the nominal rate to 8 Mbit/s (R539), in FIELD cycles of 12.5 ns. -/
def State.canBitBad (t : State) (c : Nat) : Bool :=
  let n := t.rd (Reg.CAN_CFG_NBRP c) * (1 + t.rd (Reg.CAN_CFG_NTSEG1 c) + t.rd (Reg.CAN_CFG_NTSEG2 c))
  let d := t.rd (Reg.CAN_CFG_DBRP c) * (1 + t.rd (Reg.CAN_CFG_DTSEG1 c) + t.rd (Reg.CAN_CFG_DTSEG2 c))
  decide (n < 80 ∨ 640 < n) || decide (d < 10 ∨ n < d) || decide (t.rd (Reg.CAN_CFG_NTSEG2 c) < t.rd (Reg.CAN_CFG_NSJW c))
    || decide (t.rd (Reg.CAN_CFG_DTSEG2 c) < t.rd (Reg.CAN_CFG_DSJW c))
    || (!(t.flag (Reg.CAN_CFG_REF_IDE c)) && decide (0x7FF < t.rd (Reg.CAN_CFG_REF_ID c)))

/-- An enabled message object's fields. -/
def State.canObjBad (t : State) (c : Fin 2) (n : Nat) : Bool :=
  let id := t.rd (Reg.CAN_OBJ_ID c n)
  let ide := t.flag (Reg.CAN_OBJ_IDE c n)
  let trig := t.rd (Reg.CAN_OBJ_TRIGGER c n)
  let w := t.word (0x0D201014 + 0x10000 * c.val + 0x80 * n)
  (!ide && decide (0x7FF < id))
  || (if t.flag (Reg.CAN_OBJ_DIR c n) then
        (trig == 1 && decide (t.rd (Reg.CAN_OBJ_PERIOD c n) ≤ t.rd (Reg.CAN_OBJ_PHASE c n)))
        || (trig == 2 && (t.rd (Reg.CAN_CFG_TIME_ROLE c) == 0
              || decide (t.rd (Reg.CAN_CFG_T_CYCLE_US c) ≤ t.rd (Reg.CAN_OBJ_TX_OFS_US c n))))
        || decide (w.toNat % 4 ≠ 0 ∨ 0x10000000 ≤ w.toNat)
      else
        t.flag (Reg.CAN_OBJ_RX_KIND c n)
          && ((t.setpointRange (w.toNat / 65536)).isNone || decide (60 < w.toNat / 256 % 256)))

/-- The checks of the controllers. -/
def State.canFails (t : State) (a : Nat) : List ApplyFail :=
  [badIf (t.canBitBad 0) 0x0D200000, badIf (t.canBitBad 1) 0x0D210000,
   badIf (t.rd (Reg.CAN_CFG_TIME_ROLE 0) != 0 && t.rd (Reg.CAN_CFG_TIME_ROLE 1) != 0) a]
  ++ ([0, 1] : List (Fin 2)).map (fun c =>
      ((t.canObjs c).find? (t.canObjBad c)).bind (fun n => badIf true (0x0D201000 + 0x10000 * c.val + 0x80 * n)))
  ++ ([0, 1] : List (Fin 2)).map (fun c => badIf (decide (256 < t.ringTotal c)) a)

/-- The checks of the networks' objects. -/
def State.netFail (t : State) (sh : List (Nat × List Byte)) : ApplyFail :=
  firstFail
    ((carried sh 0x0D000000 0x0D000080).map (fun a => badIf (t.gatewayBad ((a - 0x0D000000) / 0x40)) a)
    ++ (carried sh 0x0D000400 0x0D000480).map (fun a => badIf (t.telegramBad ((a - 0x0D000400) / 0x20)) a)
    ++ [ifCarried sh 0x0D200000 0x0D220000 t.canFails])

/-! ### Thermal limits (R575) -/

/-- A word of thresholds in °C that breaks R575. -/
def thermBad (w : Word) : Bool :=
  let a := getBits w 23 16
  let b := getBits w 15 8
  let c := getBits w 7 0
  [a, b, c].any (fun x => decide (x < 20 ∨ 200 < x)) || decide (b < a + 5) || decide (c < b + 5)

/-- The checks of the thermal limits. -/
def State.thermFail (t : State) (sh : List (Nat × List Byte)) : ApplyFail :=
  firstFail ((carried sh 0x0E000300 0x0E00031C).map (fun a => badIf (thermBad (t.word a)) a))

/-! ### All of them -/

/-- The first failing check of a set, in ascending order of the blocks (R163). -/
def State.applyFail (s : State) (sh : List (Nat × List Byte)) : ApplyFail :=
  let t := s.commitSet sh
  firstFail [s.clockFail t sh, t.canPathFail sh, s.routeTableFail t sh, s.modFail t sh, t.loopFail sh, s.polFail t sh, s.driveFail t sh,
    s.measFail t sh, t.netFail sh, t.thermFail sh]

end Sys2Proof.Machine
end

