-- ==== Sys2Proof/Machine/Store.lean ====
section
/-! DEFINITION. Memory and flash (chapters 04 and 17): write-backs and the preserving March C− (R112, R124 to R127), tamper and wipes (R119 to
R121), SNAPSHOT and CRC (R108 to R110, R173), configuration records (R128), the life cycle (R130 to R133) and firmware images (R171,
R589 to R592). -/

namespace Sys2Proof.Machine

open Sys2Proof

/-! ### Errors and the preserving test -/

/-- ECC_WRITEBACK (R112). The word is written back, unless a port has written it first. -/
def execEccWriteback (word : Nat) (s : State) : Res :=
  onRun s (fun s => { s with sto := { s.sto with ecc := s.sto.ecc.filter (fun w => w != word) } })

/-- The window's word that stands at a place of a bank (R111). -/
def wordOfBank (bank ix : Nat) : Nat := ix * 64 + bank

/-- A failing word of the block under test (R126): its bank, row and word. -/
def State.marchFail (s : State) (ix : Nat) : State :=
  let bank := s.rd Reg.MEM_MARCH_STAT_BANK
  let s := (s.wr Reg.MEM_MARCH_FAIL_BANK bank).wr Reg.MEM_MARCH_FAIL_ROW (ix / 256)
  let s := (s.wr Reg.MEM_MARCH_FAIL_WORD (ix % 256)).see Reg.MEM_MARCH_STAT_FAIL_SEEN
  s.raiseEach Code.MEM_MARCH_FAIL .f0

/-- The errors that the reads of the block meet (R112, R113); the engine's writes stand in place of a write-back. -/
def State.marchReads (s : State) (ecc : List (Fin 16 × Bool)) : State :=
  let word (w : Fin 16) : Nat := wordOfBank (s.rd Reg.MEM_MARCH_STAT_BANK) (s.sto.march * 16 + w.val)
  let t := ecc.foldl (fun t p => t.eccHit ⟨word p.1, p.2⟩) s
  let block := ([0, 1, 2, 3, 4, 5, 6, 7, 8, 9, 10, 11, 12, 13, 14, 15] : List (Fin 16)).map word
  { t with sto := { t.sto with ecc := t.sto.ecc.filter (fun w => !(block.contains w)) } }

/-- The next block: 16,384 blocks a bank, 64 banks a pass (R124). -/
def State.marchNext (s : State) : State :=
  if s.sto.march + 1 < 16384 then { s with sto := { s.sto with march := s.sto.march + 1 } }
  else
    let s := { s with sto := { s.sto with march := 0 } }
    let bank := s.rd Reg.MEM_MARCH_STAT_BANK
    if bank < 63 then s.wr Reg.MEM_MARCH_STAT_BANK (bank + 1)
    else (s.wr Reg.MEM_MARCH_STAT_BANK 0).inc Reg.MEM_MARCH_STAT_PASS_COUNT

/-- MARCH_PRESERVING_BLOCK (R124 to R127). The block keeps its content, whatever is found; a zero fill suspends the test (R120). -/
def execMarchPreservingBlock (failWord : Option (Fin 16)) (ecc : List (Fin 16 × Bool)) (s : State) : Res :=
  onRun s (fun s =>
    if !(s.flag Reg.MEM_MARCH_STAT_RUNNING) || s.flag Reg.MEM_TAMPER_STAT_WIPING then s
    else
      let s := match failWord with
        | some w => s.marchFail (s.sto.march * 16 + w.val)
        | none => s
      (s.marchReads ecc).marchNext)

/-- A change of BG_EN (R127). -/
def State.showMarch (s : State) : State := s.wr Reg.MEM_MARCH_STAT_RUNNING (s.rd Reg.MEM_MARCH_CTRL_BG_EN)

/-! ### Tamper (R119 to R121) -/

/-- The SEEN bit of a tamper source (R143). -/
def TamperSrc.bit : TamperSrc → Nat
  | .tamp => 1 | .lid => 2 | .supplyGlitch => 4 | .clockGlitch => 8

/-- Its bit in SEEN (R143). -/
def TamperSrc.seen (src : TamperSrc) : Fld :=
  match src with
  | .tamp => ⟨0x02000020, 4, 4⟩
  | .lid => ⟨0x02000020, 5, 5⟩
  | .supplyGlitch => ⟨0x02000020, 6, 6⟩
  | .clockGlitch => ⟨0x02000020, 7, 7⟩

/-- Ends an unlock of the monitor (R588). -/
def State.lockMon (s : State) : State :=
  if s.flag Reg.CMD_MON_STAT_UNLOCKED then
    ((s.wr Reg.CMD_MON_STAT_UNLOCKED 0).wr Reg.CMD_MON_STAT_LOCK_IN_S 0).event Ev.MON_LOCKED
  else s

/-- A transition in progress meets a tamper event: whether its new key stood installed by then is open (R133). -/
def LongOp.tamper (b : Bool) : LongOp → LongOp
  | .lifecycle t k w => .lifecycle t k (w || b)
  | op => op

/-- Changes the operations in execution. -/
def State.mapOps (s : State) (f : LongOp → LongOp) : State :=
  ([0, 1, 2, 3] : List (Fin 4)).foldl (fun t i =>
    let x := t.sess i
    { t with ses := t.ses.set i { x with busy := x.busy.map (fun b => { b with op := f b.op }), orphans := x.orphans.map (fun p => (p.1, { p.2 with op := f p.2.op })) } }) s

/-- TAMPER_EVENT (R119 to R121). It counts in every region but Off; the clock detector is not active in keep-alive. -/
def execTamperEvent (src : TamperSrc) (s : State) : Res :=
  always s (fun s =>
    if s.power.region = .off ∨ (src = .clockGlitch ∧ s.power.region ≠ .full) then s
    else
      let s := s.wipe.see src.seen
      let s := match src with
        | .tamp => s.wr Reg.MEM_TAMPER_STAT_TAMP_NOW 1
        | .lid => s.wr Reg.MEM_TAMPER_STAT_LID_NOW 1
        | _ => s
      let (w, s) := s.takeFree
      ((s.mapOps (LongOp.tamper (w.getLsbD 0))).lockMon).raiseEach Code.TAMPER .f0)

/-- The zero fill of the secure region, after which its gate opens again. -/
def State.fillSecure (s : State) : State :=
  let s := s.wr Reg.MEM_TAMPER_STAT_WIPING 0
  { s with mem := memClear s.mem secureBase memEnd, power := { s.power with fillDue := false, gateShut := false } }

/-- SECURE_REGION_FILL (R120). -/
def execSecureRegionFill (s : State) : Res :=
  always s (fun s => if s.power.region = .full ∧ s.power.fillDue then s.fillSecure else s)

/-- TAMPER_FLASH_MARKER (R120). The flash copy is never loaded again. -/
def execTamperFlashMarker (s : State) : Res :=
  always s (fun s =>
    if s.power.region ≠ .off ∧ s.power.markDue then
      { s with flash := { s.flash with copyValid := false }, power := { s.power with markDue := false } }
    else s)

/-! ### SNAPSHOT and CRC -/

/-- The action of SNAPSHOT (R108, R109): the capture is made at the next boundary. -/
def actSnapshot (ranges : List (Word × Word)) : Action := fun s =>
  match snapshotRefusal ranges with
  | some st => s.no st
  | none => s.wait (.snapshot ranges none) (s.stage + 1)

/-- SNAPSHOT (R108 to R110). -/
def execSnapshot (r : Req) (ranges : List (Word × Word)) (s : State) : Res :=
  execVerb s r Verb.SNAPSHOT 0 false (.snapshot r ranges) (actSnapshot ranges)

/-- The bytes of a session's ranges, concatenated in their order (R110). -/
def State.snapBytes (s : State) (ranges : List (Word × Word)) : List Byte :=
  (ranges.map (fun p => s.captureBytes none p.1.toNat p.2.toNat)).flatten

/-- A session's capture is copied to its buffer (R108, R110). -/
def State.copySnap (s : State) (i : Fin 4) (bytes : List Byte) : State :=
  let s := s.store (snapAddr i) bytes
  let s := ((s.wr (Reg.MEM_SNAP_VALID i) 0).wr (Reg.MEM_SNAP_COPYING i) 1).wr (Reg.MEM_SNAP_LENGTH i) bytes.length
  ((s.wr (Reg.MEM_SNAP_STAGE_HI i) (s.stage / 2 ^ 32)).wr (Reg.MEM_SNAP_STAGE_LO i) s.stage).wr (Reg.MEM_SNAP_BOOT i) s.boot16

/-- A capture of the present boundary, where a session waits for one. -/
def State.captureFor (image : State) (s : State) (i : Fin 4) : State :=
  (s.sess i).ops.foldl (fun t b => match b.op with
    | .snapshot ranges none => t.copySnap i (image.snapBytes ranges)
    | _ => t) s

/-- The operation once its capture is made. -/
def LongOp.taken (k : Nat) : LongOp → LongOp
  | .snapshot ranges none => .snapshot ranges (some k)
  | op => op

/-- The captures of SNAPSHOT at a stage boundary (R108). -/
def State.captureSnaps (s : State) : State :=
  let image := s.asOfBoundary
  (([0, 1, 2, 3] : List (Fin 4)).foldl (State.captureFor image) s).mapOps (LongOp.taken s.stage)

/-- A capture that the present boundary has made, once more after the commit of that boundary (R110). -/
def State.recaptureFor (image : State) (s : State) (i : Fin 4) : State :=
  (s.sess i).ops.foldl (fun t b => match b.op with
    | .snapshot ranges (some k) => if k = s.stage then t.copySnap i (image.snapBytes ranges) else t
    | _ => t) s

def State.recaptureSnaps (s : State) : State := ([0, 1, 2, 3] : List (Fin 4)).foldl (State.recaptureFor s.asOfBoundary) s

/-- The reply of CRC (R165): the CRC and the stage. -/
def crcReply (crc stage : Nat) : List Byte := beBytes 4 crc ++ beBytes 6 stage ++ [0, 0]

/-- The verbs that hold the flash (R175). -/
def LongOp.flash : LongOp → Bool
  | .lifecycle _ _ _ | .saveConfig _ | .fwBegin | .fwCommit _ | .flashCrc _ => true
  | _ => false

/-- The flash is held. -/
def State.flashBusy (s : State) : Bool := (s.findOp LongOp.flash).isSome

/-- The action of CRC (R173). -/
def actCrc (channel : Byte) (start : Word) (len : ReadOf 32) : Action := fun s =>
  let ch := channel.toNat
  let a := start.toNat
  let n := len.n.toNat
  if 6 < ch then s.no Status.VALUE_OUT_OF_RANGE
  else if 2 ≤ ch ∧ ch ≤ 5 then
    if a ≠ 0 ∨ n ≠ 0 then s.no Status.VALUE_OUT_OF_RANGE
    else if s.flashBusy then s.no Status.RESOURCE_BUSY
    else s.wait (.flashCrc ch) s.stage
  else if a % 4 ≠ 0 ∨ n < 4 ∨ n % 4 ≠ 0 ∨ (if ch = 6 then 1048576 else 262144) < n then s.no Status.VALUE_OUT_OF_RANGE
  else if ch = 6 then
    if !(inWindow a n) then s.no Status.ADDRESS_INVALID
    else if reachesSecure a n then s.no Status.ACCESS_DENIED
    else s.okRead (hitsIn len.ecc a n) (crcReply (crc32c 0xFFFFFFFF (s.load a n)) s.stage)
  else if 0x10000000 < a + n then s.no Status.ADDRESS_INVALID
  else s.wait (.crcCapture (ch == 1) a n) (s.stage + 1)

/-- CRC (R173). -/
def execCrc (r : Req) (channel : Byte) (start : Word) (len : ReadOf 32) (s : State) : Res :=
  execVerb s r Verb.CRC 0 true (.crc r channel start len) (actCrc channel start len)

/-- An APPLY that waits for its commit. -/
def LongOp.isApply : LongOp → Bool
  | .applyWait _ => true
  | _ => false

/-- An APPLY that may commit at the present boundary (R164). -/
def State.commitReady (s : State) (i : Fin 4) : Bool :=
  match (s.sess i).ops.find? (fun b => b.op.isApply) with
  | some b => decide (b.stage ≤ s.stage) && s.lastCommit != some s.stage
  | none => false

/-- An APPLY commits at the present boundary: what is captured there waits for it (R110, R164). -/
def State.commitDue (s : State) : Bool := ([0, 1, 2, 3] : List (Fin 4)).any s.commitReady

/-- A SNAPSHOT whose capture is made. -/
def LongOp.isTaken : LongOp → Bool
  | .snapshot _ (some _) => true
  | _ => false

/-- SNAPSHOT_COPY_DONE (R108). What executes or commits at the boundary of the capture is in it first (R110). -/
def execSnapshotCopyDone (session : Fin 4) (s : State) : Res :=
  onRun s (fun s =>
    match (s.sess session).opWith LongOp.isTaken with
    | some (.snapshot ranges (some k)) =>
      if k = s.stage ∧ (s.commitDue || s.anyDue) then s else
      let s := (s.wr (Reg.MEM_SNAP_COPYING session) 0).wr (Reg.MEM_SNAP_VALID session) 1
      s.endBusy session (.snapshot ranges (some k)) Status.OK (beBytes 6 k ++ [0, 0] ++ beBytes 4 (s.rd (Reg.MEM_SNAP_LENGTH session)))
    | _ => s)

/-- The CRCs of channels 0 and 1 as of the present stage boundary. -/
def State.captureCrcs (s : State) : State :=
  ([0, 1, 2, 3] : List (Fin 4)).foldl (fun t i =>
    (s.sess i).ops.foldl (fun t b =>
      match b.op with
      | .crcCapture shadow a n =>
        if s.stage < b.stage then t
        else
          let bytes := s.asOfBoundary.captureBytes (if shadow then some (s.sess i).shadow else none) a n
          t.endBusy i b.op Status.OK (crcReply (crc32c 0xFFFFFFFF bytes) s.stage)
      | _ => t) t) s

/-! ### Configuration records (R128) -/

/-- The bits of a word that a configuration record holds: those of RW and SH fields. -/
def configMask (rows : List Row) : Word := coveredMask (rows.filter (fun r => r.acc == .rw || r.acc == .sh))

/-- The active configuration: the bits of the RW and SH fields outside the safety block, where they differ from reset. -/
def State.configWords (s : State) : List (Nat × Word) :=
  s.regs.filterMap (fun p =>
    if p.1 / 0x1000000 = 12 then none
    else
      let m := configMask (rowsAt p.1).1
      if p.2 &&& m = resetWord p.1 &&& m then none else some (p.1, p.2 &&& m))

/-- Puts a record's words into the objects. -/
def State.loadWords (s : State) (words : List (Nat × Word)) : State :=
  words.foldl (fun t p =>
    let m := configMask (rowsAt p.1).1
    t.setWord p.1 ((t.word p.1 &&& ~~~m) ||| (p.2 &&& m))) s

/-- A record that is valid. -/
def validRec (r : Option ConfigRec) : Option ConfigRec := r.bind (fun c => if c.valid then some c else none)

/-- The valid record with the higher sequence number. -/
def Flash.newest (f : Flash) : Option ConfigRec :=
  match validRec f.recA, validRec f.recB with
  | some a, some b => if a.seq < b.seq then some b else some a
  | some a, none => some a
  | none, b => b

/-- The older record is B: the one that SAVE_CONFIG writes. -/
def Flash.olderB (f : Flash) : Bool :=
  match validRec f.recA, validRec f.recB with
  | some a, some b => decide (b.seq < a.seq)
  | some _, none => true
  | none, _ => false

/-- Writes the older record. -/
def Flash.writeOlder (f : Flash) (c : ConfigRec) : Flash := if f.olderB then { f with recB := some c } else { f with recA := some c }

/-- The words of a list that belong to the route table and the cell identities. -/
def identityWords (l : List (Nat × Word)) : List (Nat × Word) := l.filter (fun p => identityObject p.1)

/-- CONFIG_DIRTY follows its rule (R133, R136). -/
def State.showDirty (s : State) : State :=
  let saved := match s.flash.newest with
    | some c => c.words
    | none => []
  s.wrB Reg.LC_STATE_CONFIG_DIRTY (decide (identityWords s.configWords ≠ identityWords saved))

/-- The life-cycle state. -/
def State.lc (s : State) : Nat := s.rd Reg.LC_STATE_STATE

/-- The reply of LIFECYCLE (R165). -/
def State.lcReply (s : State) : List Byte := beBytes 1 s.lc ++ [0, 0, 0]

/-- A fresh nonce, which is free (R131, R137). -/
def State.newChallenge (s : State) : State :=
  let s := { s with sto := { s.sto with nonceAt := s.timeOf 1 } }
  (List.range 8).foldl (fun t i => (t.takeFree.2).wr (Reg.LC_CHALLENGE_NONCE i) t.takeFree.1.toNat) s

/-- The action of SAVE_CONFIG (R128, R129, R131, R170). Like every attempt of LIFECYCLE it replaces the nonce. That LIFECYCLE_REFUSED is tested
before LIFECYCLE_BUSY is the model's choice (log entry 43). -/
def actSaveConfig : Action := fun s =>
  let s := s.newChallenge
  if s.lc ≠ 1 ∧ s.lc ≠ 3 then s.no Status.LIFECYCLE_REFUSED
  else if s.flag Reg.LC_STATE_CHANGE_BUSY then s.no Status.LIFECYCLE_BUSY
  else if s.flashBusy then s.no Status.RESOURCE_BUSY
  else s.wait (.saveConfig s.configWords) s.stage

/-- SAVE_CONFIG (R128). -/
def execSaveConfig (r : Req) (s : State) : Res := execVerb s r Verb.LIFECYCLE 0 false (.saveConfig r) actSaveConfig

/-- A SAVE_CONFIG in execution. -/
def LongOp.isSave : LongOp → Bool
  | .saveConfig _ => true
  | _ => false

/-- The record as it is written: the next sequence number and the words; one that fails holds no CRC. -/
def State.recordOf (s : State) (ok : Bool) (words : List (Nat × Word)) : ConfigRec :=
  ⟨match s.flash.newest with | some c => (c.seq + 1) % 2 ^ 32 | none => 1, ok, words⟩

/-- CONFIG_RECORD_WRITTEN (R128, R170). -/
def execConfigRecordWritten (flashOk : Bool) (s : State) : Res :=
  onRun s (fun s =>
    match s.findOp LongOp.isSave with
    | some i =>
      match (s.sess i).opWith LongOp.isSave with
      | some (.saveConfig words) =>
        let s := ({ s with flash := s.flash.writeOlder (s.recordOf flashOk words) }).showDirty
        s.endBusy i (.saveConfig words) (if flashOk then Status.OK else Status.FLASH_ERROR) (if flashOk then s.lcReply else [])
      | _ => s
    | none => s)

/-! ### Life cycle (R130 to R133) -/

/-- The nonce's bytes. -/
def State.challenge (s : State) : List Byte := ((List.range 8).map (fun i => beBytes 4 (s.rd (Reg.LC_CHALLENGE_NONCE i)))).flatten

/-- What a signature covers: the nonce, a byte, the serial (R131, R587). -/
def State.authMessage (s : State) (b : Byte) : List Byte :=
  s.challenge ++ [b] ++ beBytes 4 (s.rd Reg.ID_DEVICE_SERIAL_HI) ++ beBytes 4 (s.rd Reg.ID_DEVICE_SERIAL_LO)

/-- LC_NONCE_REFRESH (R131). Every 60 s. -/
def execLcNonceRefresh (s : State) : Res := onRun s (fun s => if s.passed s.sto.nonceAt 60000000000 then s.newChallenge else s)

/-- Whether the service key, while it is present, has signed a message (R121, R131). -/
def State.serviceSigned (s : State) (msg sig : List Byte) : Bool :=
  s.flag Reg.LC_STATE_SECRETS_PRESENT && (match s.flash.key with | some k => Config.ed25519 k msg sig | none => false)

/-- The authorisations of a transition of R130: none needed, or by the service key, or by a vendor token too. -/
inductive LcAuth where
  | free | service | either
  deriving DecidableEq, Repr

/-- The table of R130: the authorisation and the station states allowed. -/
def lcRow (old new : Nat) : Option (LcAuth × List Nat) :=
  match old, new with
  | 0, 1 => some (.free, [0, 1, 2])
  | 1, 2 => some (.service, [0, 2])
  | 2, 3 => some (.either, List.range 10)
  | 3, 2 => some (.service, List.range 10)
  | 3, 4 => some (.service, [0])
  | 1, 1 => some (.either, [0, 1, 2])
  | 3, 3 => some (.either, List.range 10)
  | _, _ => none

/-- The further condition of a transition. -/
def State.lcCondition (s : State) (new : Nat) : Bool :=
  match s.lc, new with
  | 1, 2 => match s.flash.newest with
    | some c => (firstFail ((({ } : State).loadWords c.words).routeTableFails 0)).isNone
    | none => false
  | 3, 2 => !(s.flag Reg.LC_STATE_CONFIG_DIRTY)
  | _, _ => true

/-- Whether a transition is authorised (R130, R131). -/
def State.lcAuthorised (s : State) (auth : LcAuth) (target : Byte) (kind : Nat) (sig : List Byte) : Bool :=
  let msg := s.authMessage target
  match auth with
  | .free => true
  | .service => kind == 1 && s.serviceSigned msg sig
  | .either => (kind == 1 && s.serviceSigned msg sig) || (kind == 2 && Config.ed25519 Config.vendorKey msg sig)

/-- Why a transition is refused, if it is. -/
def State.lcRefusal (s : State) (target : Byte) (kind : Nat) (key sig : List Byte) : Option Nat :=
  let t := target.toNat
  if 4 < t ∨ 2 < kind ∨ (t = 4 ∧ key ≠ List.replicate 32 0) ∨ (kind = 0 ∧ sig ≠ List.replicate 64 0) then some Status.VALUE_OUT_OF_RANGE
  else if s.flag Reg.LC_STATE_CHANGE_BUSY then some Status.LIFECYCLE_BUSY
  else if s.flashBusy then some Status.RESOURCE_BUSY
  else match lcRow s.lc t with
    | none => some Status.LIFECYCLE_REFUSED
    | some (auth, stations) =>
      if !(stations.contains s.station) then some Status.BUSY_RUNNING
      else if !(s.lcCondition t) then some Status.LIFECYCLE_REFUSED
      else if !(s.lcAuthorised auth target kind sig) then some Status.AUTH_FAILED
      else none

/-- The action of a transition (R130 to R133): every attempt replaces the nonce; an accepted one wipes the secure region and runs on. -/
def actLifecycle (target authKind : Byte) (key sig : List Byte) : Action := fun s =>
  match s.lcRefusal target authKind.toNat key sig with
  | some st => s.newChallenge.no st
  | none => ((s.newChallenge.wipe).wr Reg.LC_STATE_CHANGE_BUSY 1).wait (.lifecycle target.toNat key false) s.stage

/-- LIFECYCLE_TRANSITION (R130). -/
def execLifecycleTransition (r : Req) (target authKind : Byte) (newKey signature : List Byte) (s : State) : Res :=
  execVerb s r Verb.LIFECYCLE 0 false (.lifecycleTransition r target authKind newKey signature) (actLifecycle target authKind newKey signature)

/-- A transition in execution. -/
def LongOp.isLifecycle : LongOp → Bool
  | .lifecycle _ _ _ => true
  | _ => false

/-- The new life-cycle record is in force: the state, the key but on entry to RETIRED, the count, and the encrypted copy unless a tamper
event has followed the installation (R130, R132, R133, R136). -/
def State.lcInstall (s : State) (target : Nat) (key : List Byte) (tampered : Bool) : State :=
  let s := (s.wr Reg.LC_STATE_STATE target).inc Reg.LC_STATE_CHANGE_COUNT
  let keep := target != 4 && !tampered
  let f := { s.flash with lcState := target, changeCount := s.rd Reg.LC_STATE_CHANGE_COUNT,
                          key := if target = 4 then none else some key, copyValid := keep }
  ({ s with flash := f, power := { s.power with markDue := s.power.markDue && !keep } }).wrB Reg.LC_STATE_SECRETS_PRESENT keep

/-- LIFECYCLE_COMPLETE (R132). -/
def execLifecycleComplete (flashOk : Bool) (s : State) : Res :=
  onRun s (fun s =>
    match s.findOp LongOp.isLifecycle with
    | some i =>
      match (s.sess i).opWith LongOp.isLifecycle with
      | some (.lifecycle target key tampered) =>
        let s := s.wr Reg.LC_STATE_CHANGE_BUSY 0
        if flashOk then
          let s := ((s.lcInstall target key tampered).lockMon).event Ev.LIFECYCLE_CHANGE
          s.endBusy i (.lifecycle target key tampered) Status.OK s.lcReply
        else s.endBusy i (.lifecycle target key tampered) Status.FLASH_ERROR []
      | _ => s
    | none => s)

/-! ### Firmware (R171, R589 to R592) -/

/-- An image slot: A or B. -/
def Flash.img (f : Flash) (b : Bool) : ImageSlot := if b then f.imgB else f.imgA

/-- Replaces an image slot. -/
def Flash.setImg (f : Flash) (b : Bool) (x : ImageSlot) : Flash := if b then { f with imgB := x } else { f with imgA := x }

/-- ID_FW_STAT follows the flash (R599). The recovery program runs from no slot (R592). -/
def State.showFw (s : State) : State :=
  let rom := s.flag Reg.CMD_MON_STAT_RECOVERY
  let one (t : State) (b : Bool) : State :=
    let x := s.flash.img b
    let n := if b then 1 else 0
    let t := (t.wr (Reg.ID_FW_STAT_STATE n) x.state).wrB (Reg.ID_FW_STAT_BOOTED n) (!rom && s.flash.bootB == b)
    ((t.wr (Reg.ID_FW_STAT_TRIAL_STARTS n) x.trials).wr (Reg.ID_FW_STAT_ROLLBACK n) x.rollback).wr (Reg.ID_FW_STAT_VERSION n) x.version
  let s' := one (one s false) true
  (s'.wr Reg.ID_FW_ROLLBACK_ROLLBACK_MIN s.flash.rollbackMin).wr Reg.ID_FW_ROLLBACK_FIRMWARE_ID (if rom then 0 else (s.flash.img s.flash.bootB).fwId)

/-- Changes an image slot. -/
def State.setImg (s : State) (b : Bool) (x : ImageSlot) : State := ({ s with flash := s.flash.setImg b x }).showFw

/-- The slot that an update writes: the one that did not boot; slot A in the recovery program (R171, R592). -/
def State.spareSlot (s : State) : Bool := if s.flag Reg.CMD_MON_STAT_RECOVERY then false else !s.flash.bootB

/-- 64 MiB. -/
def imageTop : Nat := 67108864

/-- The action of BEGIN: the slot is erased, and the update belongs to the session. -/
def actFwBegin (i : Fin 4) (size : Word) : Action := fun s =>
  if imageTop < size.toNat then s.no Status.VALUE_OUT_OF_RANGE
  else if s.flashBusy || s.sto.update.any (fun p => p.1 != i) then s.no Status.RESOURCE_BUSY
  else
    let s := (s.setImg s.spareSlot {})
    ({ s with sto := { s.sto with update := some (i, size.toNat) } }).wait .fwBegin s.stage

/-- FIRMWARE_BEGIN (R171). -/
def execFirmwareBegin (r : Req) (size : Word) (s : State) : Res :=
  execVerb s r Verb.FIRMWARE 0 false (.firmwareBegin r size) (actFwBegin r.session size)

/-- FIRMWARE_BEGIN_DONE (R171). -/
def execFirmwareBeginDone (flashOk : Bool) (s : State) : Res :=
  onRun s (fun s =>
    match s.findOp (fun o => o == .fwBegin) with
    | some i =>
      if flashOk then s.endBusy i .fwBegin Status.OK []
      else ({ s with sto := { s.sto with update := none } }).endBusy i .fwBegin Status.FLASH_ERROR []
    | none => s)

/-- The size of the update that a session has begun. -/
def State.updateOf (s : State) (i : Fin 4) : Option Nat := s.sto.update.bind (fun p => if p.1 = i then some p.2 else none)

/-- A slot's bytes with some replaced; bytes between that nothing has written are 0xFF, as erased flash reads (log entry 26). -/
def patch (bs : List Byte) (o : Nat) (data : List Byte) : List Byte :=
  (bs ++ List.replicate (o - bs.length) 0xFF).take o ++ data ++ bs.drop (o + data.length)

/-- The action of WRITE. -/
def actFwWrite (i : Fin 4) (offset : Word) (data : List Byte) : Action := fun s =>
  let o := offset.toNat
  match s.updateOf i with
  | none => s.no Status.STATE_REFUSED
  | some size =>
    if s.flashBusy then s.no Status.RESOURCE_BUSY
    else if o % 4 ≠ 0 ∨ size < o + data.length then s.no Status.VALUE_OUT_OF_RANGE
    else
      let x := s.flash.img s.spareSlot
      (s.setImg s.spareSlot { x with bytes := patch x.bytes o data }).ok

/-- FIRMWARE_WRITE (R171). -/
def execFirmwareWrite (r : Req) (offset : Word) (data : List Byte) (s : State) : Res :=
  execVerb s r Verb.FIRMWARE 0 false (.firmwareWrite r offset data) (actFwWrite r.session offset data)

/-- The action of COMMIT. -/
def actFwCommit (i : Fin 4) : Action := fun s =>
  match s.updateOf i with
  | none => s.no Status.STATE_REFUSED
  | some size => if s.flashBusy then s.no Status.RESOURCE_BUSY else s.wait (.fwCommit size) s.stage

/-- FIRMWARE_COMMIT (R589). -/
def execFirmwareCommit (r : Req) (s : State) : Res := execVerb s r Verb.FIRMWARE 0 false (.firmwareCommit r) (actFwCommit r.session)

/-- The bytes of an image of a length. -/
def ImageSlot.image (x : ImageSlot) (n : Nat) : List Byte := (x.bytes ++ List.replicate (n - x.bytes.length) 0xFF).take n

/-- The image that a slot holds is good (R589): its fields, its length and its signature, and a level not below ROLLBACK_MIN. -/
def imageOk (bs : List Byte) (size rollbackMin : Nat) : Bool :=
  decide (beAt bs 0 4 = 0x54424946) && decide (beAt bs 4 2 = 1) && decide (rollbackMin ≤ beAt bs 6 2)
    && decide (beAt bs 12 4 = size) && decide (320 ≤ size ∧ size ≤ imageTop) && (slice bs 20 236).all (fun b => b == 0)
    && Config.ed25519 Config.vendorKey (bs.take (size - 64)) (bs.drop (size - 64))

/-- A COMMIT in execution. -/
def LongOp.isCommit : LongOp → Bool
  | .fwCommit _ => true
  | _ => false

/-- FIRMWARE_COMMIT_DONE (R589). -/
def execFirmwareCommitDone (s : State) : Res :=
  onRun s (fun s =>
    match s.findOp LongOp.isCommit with
    | some i =>
      match (s.sess i).opWith LongOp.isCommit with
      | some (.fwCommit size) =>
        let x := s.flash.img s.spareSlot
        let bs := x.image size
        let s := { s with sto := { s.sto with update := none } }
        if imageOk bs size s.flash.rollbackMin then
          (s.setImg s.spareSlot { state := 1, version := beAt bs 16 4, rollback := beAt bs 6 2, trials := 0, fwId := beAt bs 8 4, bytes := bs }).endBusy
            i (.fwCommit size) Status.OK (beBytes 4 (crc32c 0xFFFFFFFF bs))
        else s.endBusy i (.fwCommit size) Status.IMAGE_INVALID []
      | _ => s
    | none => s)

/-- The action of ABORT. -/
def actFwAbort (i : Fin 4) : Action := fun s =>
  if (s.updateOf i).isSome then ({ s with sto := { s.sto with update := none } }).ok else s.ok

/-- FIRMWARE_ABORT (R171). -/
def execFirmwareAbort (r : Req) (s : State) : Res := execVerb s r Verb.FIRMWARE 0 false (.firmwareAbort r) (actFwAbort r.session)

/-- The slot in state VALID. -/
def Flash.validSlot (f : Flash) : Option Bool := if f.imgA.state = 1 then some false else if f.imgB.state = 1 then some true else none

/-- The action of ACTIVATE (R171, R590): the reply goes first, and the restart follows. -/
def actFwActivate : Action := fun s =>
  if s.flashBusy then s.no Status.RESOURCE_BUSY
  else if s.station ≠ 0 ∧ s.station ≠ 2 then s.no Status.BUSY_RUNNING
  else match s.flash.validSlot with
    | none => s.no Status.STATE_REFUSED
    | some b =>
      let s := s.setImg b { (s.flash.img b) with state := 2, trials := 0 }
      ({ s with sto := { s.sto with activate := true, activateAt := s.timeOf 1 } }).ok

/-- FIRMWARE_ACTIVATE (R590). -/
def execFirmwareActivate (r : Req) (s : State) : Res := execVerb s r Verb.FIRMWARE 0 false (.firmwareActivate r) actFwActivate

/-- FIRMWARE_CONFIRM (R591). 600 s after the start. -/
def execFirmwareConfirm (s : State) : Res :=
  onRun s (fun s =>
    let b := s.flash.bootB
    let x := s.flash.img b
    if x.state = 2 ∧ !(s.flag Reg.CMD_MON_STAT_RECOVERY) ∧ s.passed s.power.startMono 600000000000 then
      let f := { s.flash with rollbackMin := max s.flash.rollbackMin x.rollback, lastB := b }
      ({ s with flash := f }).setImg b { x with state := 3 }
    else s)

/-- A CRC of the flash in execution. -/
def LongOp.isFlashCrc : LongOp → Bool
  | .flashCrc _ => true
  | _ => false

/-- The CRC of a flash channel (R173); of a record or an image that the flash does not hold, none is stated. -/
def State.flashCrcOf (s : State) (ch : Nat) : Option Nat :=
  let ofRec (r : Option ConfigRec) : Option Nat := r.map (fun c => (Config.recordCrc c.words).toNat)
  let ofImg (x : ImageSlot) : Option Nat := if x.state = 0 then none else some (crc32c 0xFFFFFFFF x.bytes)
  match ch with
  | 2 => ofRec s.flash.recA
  | 3 => ofRec s.flash.recB
  | 4 => ofImg s.flash.imgA
  | _ => ofImg s.flash.imgB

/-- FLASH_CRC_DONE (R173). -/
def execFlashCrcDone (s : State) : Res :=
  onRun s (fun s =>
    match s.findOp LongOp.isFlashCrc with
    | some i =>
      match (s.sess i).opWith LongOp.isFlashCrc with
      | some (.flashCrc ch) =>
        match s.flashCrcOf ch with
        | some c => s.endBusy i (.flashCrc ch) Status.OK (crcReply c s.stage)
        | none => (s.takeFree.2).endBusy i (.flashCrc ch) Status.OK (crcReply s.takeFree.1.toNat s.stage)
      | _ => s
    | none => s)

end Sys2Proof.Machine
end

