-- ==== Sys2Proof/Machine/Monitor.lean ====
section
/-! DEFINITION. The monitor (R152, R582 to R588, R603): lines of the text form, the monitor's own commands, and what its receiver finds. -/

namespace Sys2Proof.Machine

open Sys2Proof

/-! ### Monitor commands (R583 to R588) -/

/-- A monitor command with its arguments (R584). -/
inductive MonCmd where
  | halt
  | dump (addr len elapsed : Nat) (ecc : List EccHit)
  | prbs (link pattern duration : Nat)
  | inject (link kind n hop : Nat)
  | stat
  | challenge
  | unlock (signature : List Byte)
  | lock
  deriving DecidableEq, Repr

/-- MONO in ns. -/
def State.monoNs (s : State) : Nat := s.timeOf 1 / 65536

/-- The seconds of R588 without a line that end an unlock. -/
def idleLimitS : Nat := 1800

/-- A line has come: the idle time of an unlock starts again (R588). -/
def State.sawLine (s : State) : State :=
  let s := { s with mon := { s.mon with lastLine := s.monoNs } }
  if s.flag Reg.CMD_MON_STAT_UNLOCKED then s.wr Reg.CMD_MON_STAT_LOCK_IN_S idleLimitS else s

/-- A monitor command is running (R583). -/
def State.monBusy (s : State) : Bool := s.link.prbs.any (fun p => p.2) || s.link.inject.any (fun j => j.byMon)

/-- Whether the monitor admits a command in the life-cycle state (R586). -/
def State.monAdmits (s : State) (c : MonCmd) : Bool :=
  match c with
  | .halt | .dump _ _ _ _ | .stat => true
  | .challenge | .unlock _ | .lock => s.lc != 4
  | .prbs _ _ _ | .inject _ _ _ _ => s.lc != 4 && (s.lc != 2 || s.flag Reg.CMD_MON_STAT_UNLOCKED)

/-- A number in eight hexadecimal digits. -/
def hexWord (n : Nat) : List Byte := hexText (beBytes 4 n)

/-- Prints what a dump read, 32 bytes a line (R584). Goes through `n` lines. -/
def State.dumpLines : Nat → Nat → List Byte → State → State
  | 0, _, _, s => s
  | n + 1, a, bs, s =>
    if bs = [] then s else State.dumpLines n (a + 32) (bs.drop 32) (s.monPut (hexWord a ++ ascii " " ++ hexText (bs.take 32)))

/-- .DUMP: a range as GET would read it (R105, R107, R584). -/
def State.monDump (s : State) (a n elapsed : Nat) (ecc : List EccHit) : State :=
  if n < 4 ∨ 4096 < n ∨ n % 4 ≠ 0 ∨ 2 ^ 32 ≤ a then s.monErr Status.VALUE_OUT_OF_RANGE
  else if memBase ≤ a then
    if !(inWindow a n) then s.monErr Status.ADDRESS_INVALID
    else if reachesSecure a n then s.monErr Status.ACCESS_DENIED
    else
      let hits := hitsIn ecc a n
      let t := State.dumpLines 128 a (s.load a n) (hits.foldl State.eccHit s)
      if hits.any (fun e => e.double) then t.monErr Status.DATA_UNCORRECTABLE else t.monOk []
  else match objectsIn 1025 a (a + n) with
    | none => s.monErr Status.ADDRESS_INVALID
    | some _ => (State.dumpLines 128 a (s.readBytes elapsed none a n) s).monOk []

/-- A PARAM whose fields are (value, width, position); none where a value does not fit its field. -/
def packParam : List (Nat × Nat × Nat) → Option Nat
  | [] => some 0
  | (v, w, p) :: t =>
    match packParam t with
    | some r => if v < 2 ^ w then some (r + v * 2 ^ p) else none
    | none => none

/-- .PRBS and .INJECT: the test they run, with its refusals (R248, R249, R584). -/
def State.monPrbs (s : State) (param : Option Nat) : State :=
  match param with
  | none => s.monErr Status.VALUE_OUT_OF_RANGE
  | some p =>
    match s.prbsRefusal (BitVec.ofNat 32 p) with
    | some st => s.monErr st
    | none => (({ s with mon := { s.mon with long := some (s.monoNs, p / 65536, 0) } }).startPrbs (BitVec.ofNat 32 p) true)

def State.monInject (s : State) (param : Option Nat) : State :=
  match param with
  | none => s.monErr Status.VALUE_OUT_OF_RANGE
  | some p =>
    match s.injectRefusal (BitVec.ofNat 32 p) with
    | some st => s.monErr st
    | none => s.startInject (BitVec.ofNat 32 p) true

/-- The words that .STAT prints (R584): LC_STATE, POL_STATE, CLK_STAT, FLT_STAT, PAIR_STAT, CMD_MON_STAT. -/
def statWords : List Nat :=
  [Reg.LC_STATE_STATE.addr, Reg.POL_STATE_STATE.addr, Reg.CLK_STAT_LOCKED.addr, Reg.FLT_STAT_F3_CODE.addr, Reg.PAIR_STAT_ROLE.addr,
   Reg.CMD_MON_STAT_UNLOCKED.addr]

/-- Words in hexadecimal, separated by spaces. -/
def hexWords (l : List Word) : List Byte := ((l.map (fun w => hexWord w.toNat)).intersperse (ascii " ")).flatten

/-- A failed unlock; the third within 60 s bars further ones (R587). -/
def State.unlockFails (s : State) : State :=
  let now := s.monoNs
  let l := now :: s.mon.fails.filter (fun t => decide (now ≤ t + 60000000000))
  let m := if 3 ≤ l.length then { s.mon with fails := [], barred := true, barAt := now } else { s.mon with fails := l }
  (({ s with mon := m }).inc Reg.CMD_MON_STAT_AUTH_FAILS).monErr Status.AUTH_FAILED

/-- .UNLOCK with a signature, while it is not barred (R587). -/
def State.monUnlock (s : State) (sig : List Byte) : State :=
  let msg := s.authMessage 0x80
  let good := s.serviceSigned msg sig || Config.ed25519 Config.vendorKey msg sig
  let s := s.newChallenge
  if good then
    let s := (s.wr Reg.CMD_MON_STAT_UNLOCKED 1).wr Reg.CMD_MON_STAT_LOCK_IN_S idleLimitS
    ((s.inc Reg.CMD_MON_STAT_UNLOCKS).event Ev.MON_UNLOCKED).monOk []
  else s.unlockFails

/-- What an admitted command does (R584 to R588). .HALT is answered with the counter of the stage whose head is the first to carry STOP. -/
def State.monAct (s : State) (c : MonCmd) : State :=
  match c with
  | .halt => (s.safeState 1 Code.MON_HALT).monOk (decText (s.stage + 1))
  | .dump a n e ecc => s.monDump a n e ecc
  | .prbs l p d => s.monPrbs (packParam [(l, 6, 0), (p, 2, 6), (d, 16, 16)])
  | .inject l k n h => s.monInject (packParam [(l, 6, 0), (k, 2, 6), (n, 7, 8), (h, 5, 16)])
  | .stat => s.monOk (hexWords (statWords.map s.word))
  | .challenge => if s.mon.barred then s.monErr Status.AUTH_FAILED else s.monOk (hexText s.challenge)
  | .unlock sig => if s.mon.barred then s.newChallenge.monErr Status.AUTH_FAILED else s.monUnlock sig
  | .lock => s.lockMon.monOk []

/-- A monitor command (R583, R586); the recovery program takes none (R592). -/
def State.monCmd (s : State) (c : MonCmd) : State :=
  let s := s.sawLine
  if s.recovery then s.monErr Status.STATE_REFUSED
  else if c ≠ .halt ∧ s.monBusy then s.monErr Status.RESOURCE_BUSY
  else if !(s.monAdmits c) then s.monErr Status.LIFECYCLE_REFUSED
  else s.monAct c

/-- MON_HALT (R585). -/
def execMonHalt (s : State) : Res := onRun s (fun s => s.monCmd .halt)

/-- MON_DUMP (R584). -/
def execMonDump (addr len : Word) (elapsed : Nat) (ecc : List EccHit) (s : State) : Res :=
  onRun s (fun s => s.monCmd (.dump addr.toNat len.toNat elapsed ecc))

/-- MON_PRBS (R584). -/
def execMonPrbs (link pattern duration : Word) (s : State) : Res :=
  onRun s (fun s => s.monCmd (.prbs link.toNat pattern.toNat duration.toNat))

/-- MON_INJECT (R584). -/
def execMonInject (link kind n hop : Word) (s : State) : Res :=
  onRun s (fun s => s.monCmd (.inject link.toNat kind.toNat n.toNat hop.toNat))

/-- MON_STAT (R584). -/
def execMonStat (s : State) : Res := onRun s (fun s => s.monCmd .stat)

/-- MON_UNLOCK_CHALLENGE (R584). -/
def execMonUnlockChallenge (s : State) : Res := onRun s (fun s => s.monCmd .challenge)

/-- MON_UNLOCK (R587). A signature has 64 bytes. -/
def execMonUnlock (signature : List Byte) (s : State) : Res :=
  onRun s (fun s => if signature.length = 64 then s.monCmd (.unlock signature) else s.sawLine.monErr Status.PAYLOAD_INVALID)

/-- MON_LOCK (R588). -/
def execMonLock (s : State) : Res := onRun s (fun s => s.monCmd .lock)

/-- An instant of MONO in ns lies this long back. -/
def State.agoNs (s : State) (at_ ns : Nat) : Bool := s.heldFor (s.monoNs - at_) ns

/-- MON_UNLOCK_IDLE (R588). 1,800 s without a line. -/
def execMonUnlockIdle (s : State) : Res :=
  onRun s (fun s => if s.agoNs s.mon.lastLine (idleLimitS * 1000000000) then s.lockMon else s)

/-- MON_AUTH_BACKOFF_END (R587). 60 s after the third failure. -/
def execMonAuthBackoffEnd (s : State) : Res :=
  onRun s (fun s => if s.agoNs s.mon.barAt 60000000000 then { s with mon := { s.mon with barred := false } } else s)

/-! ### Lines (R152, R583, R603) -/

/-- A number as R2 writes it. -/
def readNum (t : List Byte) : Option Nat :=
  let go (base : Nat) (u : List Byte) : Option Nat :=
    let v := u.filter (fun b => b != 95)
    if v = [] then none else readDigits base v 0
  if t.take 2 = ascii "0x" then go 16 (t.drop 2) else if t.take 2 = ascii "0b" then go 2 (t.drop 2) else go 10 t

/-- The numbers that a list of fields spells. -/
def readNums : List (List Byte) → Option (List Nat)
  | [] => some []
  | f :: t =>
    match readNum f, readNums t with
    | some n, some l => some (n :: l)
    | _, _ => none

/-- A line that begins with "." as a monitor command, or the status that refuses it (R583). -/
def readMonCmd (line : List Byte) : Except Nat MonCmd :=
  match splitAt 32 line with
  | [] => .error Status.VERB_UNKNOWN
  | w :: args =>
    let bare (c : MonCmd) : Except Nat MonCmd := if args = [] then .ok c else .error Status.PAYLOAD_INVALID
    if w = ascii ".HALT" then bare .halt
    else if w = ascii ".STAT" then bare .stat
    else if w = ascii ".LOCK" then bare .lock
    else if w = ascii ".UNLOCK" then
      match args with
      | [] => .ok .challenge
      | [sig] =>
        match readBytes sig with
        | some bs => if bs.length = 64 then .ok (.unlock bs) else .error Status.PAYLOAD_INVALID
        | none => .error Status.PAYLOAD_INVALID
      | _ => .error Status.PAYLOAD_INVALID
    else if w = ascii ".DUMP" then
      match readNums args with
      | some [a, n] => .ok (.dump a n 0 [])
      | _ => .error Status.PAYLOAD_INVALID
    else if w = ascii ".PRBS" then
      match readNums args with
      | some [l, p, d] => .ok (.prbs l p d)
      | _ => .error Status.PAYLOAD_INVALID
    else if w = ascii ".INJECT" then
      match readNums args with
      | some [l, k, n, h] => .ok (.inject l k n h)
      | _ => .error Status.PAYLOAD_INVALID
    else .error Status.VERB_UNKNOWN

/-- A line of the text form (R152, R603). -/
def State.textLine (s : State) (line : List Byte) : State :=
  match readLine line with
  | (.discard, _) => s.countNotPacket .mon
  | (.answer i q st, _) =>
    (s.countNotPacket .mon).monPut (ascii "= " ++ decText i ++ ascii " " ++ decText q ++ ascii " " ++ statusName st ++ ascii " -")
  | (.packet p, bad) =>
    let src : Source := ⟨.mon, 0, 0⟩
    if bad then s.refuseReceived src p.head Status.CRC_FAILED else s.takeBytes src p.bytes

/-- MON_LINE (R152). `line` is without its CR LF. -/
def execMonLine (line : List Byte) (s : State) : Res :=
  onRun s (fun s =>
    if 3000 < line.length then s.sawLine.countNotPacket .mon
    else if line.head? = some 46 then
      match readMonCmd line with
      | .ok c => s.monCmd c
      | .error st => s.sawLine.monErr (if s.recovery then Status.STATE_REFUSED else st)
    else s.sawLine.textLine line)

/-! ### The receiver (R582) -/

/-- MON_BREAK (R582). -/
def execMonBreak (s : State) : Res := onRun s (fun s => (s.wr Reg.CMD_MON_CFG_BAUD 3).see Reg.CMD_MON_STAT_BREAK_SEEN)

/-- MON_FRAMING_ERROR (R582). The line in progress is discarded. -/
def execMonFramingError (s : State) : Res := onRun s (fun s => (s.inc Reg.CMD_MON_STAT_FRAMING_ERR).countNotPacket .mon)

/-- MON_LINE_STALL (R582). The partial line is discarded, without a count. -/
def execMonLineStall (s : State) : Res := onRun s (fun s => s)

/-! ### The passing of time -/

/-- The rates of R597 in baud. -/
def bauds : List Nat := [115200, 230400, 460800, 921600, 1500000, 3000000]

/-- The progress line of a pattern test that the monitor runs, every 100 ms (R583). -/
def State.monProgress (s : State) : State :=
  match s.mon.long with
  | none => s
  | some (t, ms, n) =>
    if !(s.link.prbs.any (fun p => p.2)) then { s with mon := { s.mon with long := none } }
    else
      let gone := (s.monoNs - t) / 1000000
      if gone < (n + 1) * 100 then s
      else ({ s with mon := { s.mon with long := some (t, ms, n + 1) } }).monPut (ascii ".~ " ++ decText (min 1000 (gone * 1000 / ms)))

/-- A stage's time passes: ten bit times send one character, and the idle time of an unlock runs (R582, R583, R598). -/
def State.tickMon (s : State) : State :=
  let s := s.monProgress
  let s := { s with mon := { s.mon with fill := s.mon.fill - s.tsNs * bauds.getD (s.rd Reg.CMD_MON_CFG_BAUD) 921600 } }
  if s.flag Reg.CMD_MON_STAT_UNLOCKED then s.wr Reg.CMD_MON_STAT_LOCK_IN_S (idleLimitS - (s.monoNs - s.mon.lastLine) / 1000000000) else s

end Sys2Proof.Machine
end

