-- ==== Sys2Proof/Machine/Faults.lean ====
section
/-! DEFINITION. Raising faults at a stage boundary and what follows (R447 to R451, R336), the logbook (R114 to R118, R456, R457), the
commands that read the journal and the logbook (R455, R167), and CLEAR (R169, R335, R393, R510, R549). -/

namespace Sys2Proof.Machine

open Sys2Proof

/-! ### Conditions of F3 faults (R335) -/

/-- Bit `i` of CLK_STAT.LOCKED (R88). -/
def State.pllLocked (s : State) (i : Nat) : Bool := s.rd Reg.CLK_STAT_LOCKED / 2 ^ i % 2 == 1

/-- Whether the condition of a latched F3 fault is still present (R335). A fault of R334 whose step is abandoned, or whose row is stated
for station states, counts as absent from the trip on. -/
def State.f3Present (s : State) (code : Nat) : Bool :=
  if code = Code.SUPPLY_BROWNOUT ∨ code = Code.SUPPLY_OV then s.power.stopping.isSome
  else if code = Code.CLK_SYS_LOST then !(s.pllLocked 0)
  else if code = Code.CLK_LANE_LOST then !(s.pllLocked 1)
  else if code = Code.CLK_REF_LOST then s.clk.xinGone
  else if code = Code.MON_HALT then s.mod.halted
  else if code = Code.EDGE_LOST then s.mod.edgeStopped
  else if code = Code.LOOP_ENGINE_LOST then s.rd Reg.LOOP_STAT_PIPES == 0
  else if code = Code.POLICY_LATE then decide (2 ≤ s.pol.lateRow)
  else if code = Code.DIE_OVERTEMP then s.therm.die.code == 3
  else if code = Code.DRV_SHORT_PERSIST then s.drv.oc != 0
  else if code = Code.DRV_BUS_OV then s.drv.ov
  else if code = Code.DRV_BRAKE_LOST then s.drv.ds6 && s.drv.brake
  else if code = Code.ILK_BANK_LOST then s.rd Reg.ID_VIO_STAT_CLASS3 == 0
  else false

/-- FLT_STAT, and PRESENT of each latched fault, as of a stage boundary (R482, R484). -/
def State.showLatch (s : State) (i : Nat) : State :=
  if s.flag (Reg.FLT_LATCH_VALID i) then s.wrB (Reg.FLT_LATCH_PRESENT i) (s.f3Present (s.rd (Reg.FLT_LATCH_CODE i))) else s

def State.showFaults (s : State) : State :=
  let s := latchIdx.foldl State.showLatch s
  let n := (latchIdx.filter (fun i => s.flag (Reg.FLT_LATCH_VALID i))).length
  (s.wr Reg.FLT_STAT_LATCHED n).wr Reg.FLT_STAT_F3_CODE (if n = 0 then 0 else s.rd (Reg.FLT_LATCH_CODE 0))

/-! ### Raising (R447, R448, R483, R484) -/

/-- FLT_COUNT of a class. -/
def countFld : FaultClass → Option Fld
  | .f0 => some Reg.FLT_COUNT_F0
  | .f1 => some Reg.FLT_COUNT_F1
  | .f2 => some Reg.FLT_COUNT_F2
  | .f3 => some Reg.FLT_COUNT_F3
  | .d => some Reg.FLT_COUNT_D
  | .demand => none

/-- Latches an F3 fault in the first entry not in use. -/
def State.latchF3 (s : State) (f : FaultReq) : State :=
  match latchIdx.find? (fun i => !(s.flag (Reg.FLT_LATCH_VALID i))) with
  | some i =>
    let s := ((s.wr (Reg.FLT_LATCH_VALID i) 1).wr (Reg.FLT_LATCH_CODE i) f.code).wr (Reg.FLT_LATCH_STAGE i) s.stage32
    (s.wr (Reg.FLT_LATCH_BOOT i) s.boot16).wr (Reg.FLT_LATCH_SUBJECT i) f.subject
  | none => s

/-- The seconds of MONO at the last stage boundary. -/
def State.monoSec (s : State) : Nat := s.stampNs 1 / 1000000000

/-- Whether a raised fault triggers the logbook (R447, R456). -/
def State.faultTriggers (s : State) (c : FaultClass) : Bool :=
  match c with
  | .f2 => true
  | .f3 => true
  | .f1 => s.flag Reg.FLT_CFG_TRIG_F1
  | .d => s.flag Reg.FLT_CFG_TRIG_D
  | _ => false

/-- Raises one fault: its journal entry, its count, its latch, its place in the window of R336 and its trigger. -/
def State.raiseOne (s : State) (f : FaultReq) : State :=
  if f.cls = .f3 ∧ s.f3Latched f.code then s
  else
    let s := s.journal f.code f.cls.code f.subject f.data f.mirrored
    let s := match countFld f.cls with | some x => s.inc x | none => s
    let s := if f.cls = .f3 then s.latchF3 f else s
    let times := if f.cls = .f3 then s.flt.f3Times ++ [s.monoSec] else s.flt.f3Times
    { s with flt := { s.flt with f3Times := times, raised := s.flt.raised ++ [f], trigger := s.flt.trigger || s.faultTriggers f.cls } }

/-- Drops from the window of R336 what has left it, and shows the count (R359). -/
def State.slideTrips (s : State) : State :=
  let times := s.flt.f3Times.filter (fun t => decide (s.monoSec < t + s.rd Reg.POL_CFG_TRIP_WINDOW_S))
  ({ s with flt := { s.flt with f3Times := times } }).wrSat Reg.POL_STATE_TRIPS times.length

/-- The arm that an F2 fault names: its own, or its cell's. -/
def State.armOfSubject (s : State) (subject : Nat) : Nat :=
  if subject / 4096 = 1 then s.rd (Reg.CELL_ID_ARM (subject % 4096)) else subject % 4096

/-- The station's reaction to the faults raised at a boundary: that of the highest class (R334, R336, R351, R448 to R450). One of F3
prevails over every change ordered for the boundary. -/
def State.react (s : State) (l : List FaultReq) : State :=
  let f3 := l.filter (fun f => f.cls == .f3)
  let f2 := l.filter (fun f => f.cls == .f2)
  match f3 with
  | f :: _ =>
    let full := decide (s.rd Reg.POL_CFG_TRIP_LIMIT ≤ s.flt.f3Times.length)
    let dst := if full then St.LOCKED_OUT else St.TRIPPED
    if s.station = St.LOCKED_OUT ∨ s.station = dst then { s with pol := { s.pol with goto := none } }
    else (s.goTo dst f.code).inc Reg.POL_EVENTS_F3_TRIPS
  | [] =>
    let arms := f2.filter (fun f => f.code != Code.LOOP_OVERRUN)
    let s := if s.switching then arms.foldl (fun t f => t.stopGroup (t.armOfSubject f.subject)) s else s
    if f2.any (fun f => f.code == Code.LOOP_OVERRUN) ∧ 3 ≤ s.station ∧ s.station ≤ 6 then
      ({ s with pol := { s.pol with stopFault := true } }).goTo St.STOPPING Code.LOOP_OVERRUN
    else s

/-- The faults whose conditions have been detected are raised at a stage boundary, in ascending order of code (R448). -/
def State.raiseAll (s : State) : State :=
  let l := sortBy (fun f => f.code) s.flt.pending
  let s := l.foldl State.raiseOne { s with flt := { s.flt with pending := [], raised := [] } }
  (s.slideTrips).react s.flt.raised

/-- The fault codes of origin L (R451): those that a module's own detectors raise. -/
def ownFault (code : Nat) : Bool :=
  if code / 256 = 0x0A then !([Code.CELL_SERIAL_MISMATCH, Code.CELL_FLAG, Code.CELL_CAP_SERVICE, Code.ENC_TO_OBSERVER].contains code)
  else if code / 256 = 0x0C then code == Code.LOOP_OVERRUN
  else if code / 256 = 0x0D ∨ code / 256 = 0x0E then true
  else decide (code / 256 = 0x0F ∧ (code ≤ 0x0F0B ∨ (0x0F30 ≤ code ∧ code ≤ 0x0F32)))

/-- The class of a fault code (R451). -/
def classOf (code : Nat) : FaultClass :=
  match code / 256 with
  | 0x0A => .f0
  | 0x0B => .f1
  | 0x0C => .f2
  | 0x0D => .d
  | 0x0E => .demand
  | _ => .f3

/-! ### Demands of the safety island (R325, R502, R508) -/

/-- What the station does at a demand or a lock-out. -/
def State.islandReact (s : State) (code : Nat) : State :=
  if code = Code.SAFE_LOCKOUT then
    if s.station = St.LOCKED_OUT then { s with pol := { s.pol with goto := none } } else s.goTo St.LOCKED_OUT code
  else if 3 ≤ s.station ∧ s.station ≤ 6 ∧ !(s.pol.goto.any (fun g => g.1 == St.TRIPPED || g.1 == St.LOCKED_OUT)) then
    ({ s with pol := { s.pol with stopFault := false } }).goTo St.STOPPING code
  else s

/-- One report of the island reaches the policy: it is journalled, and acted on but by a porter, which follows the keeper's (R513). -/
def State.takeReport (s : State) (r : Nat × List Byte) : State :=
  let f : FaultReq := ⟨r.1, .demand, 0, r.2, false⟩
  let s := s.journal f.code FaultClass.demand.code f.subject f.data
  let s := { s with flt := { s.flt with raised := s.flt.raised ++ [f] } }
  if s.duo.role = 2 then s else s.islandReact r.1

/-- The reports of the island since the last stage boundary. -/
def State.takeReports (s : State) : State :=
  let l := s.isl.reports
  l.foldl State.takeReport { s with isl := { s.isl with reports := [] } }

/-! ### The logbook (R114 to R116) -/

/-- Where a slot's records and its index entry lie. -/
def slotAddr (n : Nat) : Nat := 0x10000000 + n * 0x3000
def indexAddr (n : Nat) : Nat := 0x16000000 + n * 16

/-- The slot after the last one written; the first one after a cold start is slot 0 (log entry 65). -/
def State.nextSlot (s : State) : Nat := if s.flt.lbAny then (s.rd Reg.MEM_LOGBOOK_STAT_NEWEST_SLOT + 1) % 8192 else 0

/-- A value in units of an LSB as s16: the nearest, held at the ends of the range. -/
def s16Of (q : Rat) : Nat := ofSigned 16 (max (-32768) (min 32767 (q + 1 / 2).floor))

/-- A cell's record for the stage that ends (R115). -/
def State.cellRecord (s : State) (c : Nat) : List Byte :=
  if s.rd Reg.ROUTE_TABLE_TOTAL_CELLS ≤ c then List.replicate 15 0 ++ [4] ++ List.replicate 8 0
  else
    let r := s.cell c
    let status := s.rd (Reg.CELL_LEDGER_STATUS c)
    let none_ := r.raw == [] || status == 4
    let late := s.loop.late.any (fun n =>
      decide (1 ≤ s.rd (Reg.LOOP_SLOT_CFG_DEST_KIND n) ∧ s.rd (Reg.LOOP_SLOT_CFG_DEST_KIND n) ≤ 2) && s.rd (Reg.LOOP_SLOT_CFG_DEST_INDEX n) == c)
    let flags := (if none_ then 128 else 0) + (if !none_ && status == 3 then 64 else 0) + (if late then 32 else 0)
      + (if s.link.stopSent then 16 else 0) + (if s.rd (Reg.CELL_LEDGER_BYPASS_SENT c) = 0x5A then 8 else 0)
    let a := s.pol.arms.find? (fun p => p.1 == s.rd (Reg.CELL_ID_ARM c))
    let f : Rat := if s.flag (Reg.MOD_CELL_RANKED c) then (match a with | some p => (p.2.mul : Rat) / (p.2.div : Rat) | none => 1) else 1
    let v := (f32Val ((assocGet s.loop.out.vref c).getD 0)).getD 0 * f
    let phi := (f32Val ((assocGet s.loop.out.phi c).getD 0)).getD 0
    (if none_ then List.replicate 15 0 else r.raw.take 14 ++ [r.raw.getD 15 0]) ++ beBytes 1 flags
      ++ beBytes 2 (s16Of (v * 20)) ++ beBytes 2 (s16Of (phi * 32768)) ++ beBytes 2 (s.rd (Reg.CELL_LEDGER_ILIM_SENT c))
      ++ (if none_ then [0, 0] else (r.raw.drop 18).take 2)

/-- A slot's index entry (R116): status 1 or 2 by whether GRID_TIME was synchronised, or 3 where it is not recorded. -/
def State.indexEntry (s : State) (recorded : Bool) : List Byte :=
  let st := if !recorded then 3 else if s.flag (Reg.TIME_STAMP_BASE_SYNCED 0) then 1 else 2
  beBytes 2 s.boot16 ++ beBytes 6 s.stage ++ beBytes 4 (s.rd (Reg.TIME_STAMP_BASE_SECONDS_LO 0))
    ++ beBytes 4 (st * 2 ^ 30 + s.rd (Reg.TIME_STAMP_BASE_NANOSECONDS 0) % 2 ^ 30)

/-- The logbook records the stage that ends, unless it is frozen (R114, R456) or decimated (R568). -/
def State.recordSlot (s : State) : State :=
  let post := s.flag Reg.MEM_LOGBOOK_STAT_POST_RUNNING
  if s.flag Reg.MEM_LOGBOOK_STAT_FROZEN || decide (s.stage < s.flt.lbFrom) || (post && s.rd Reg.MEM_LOGBOOK_STAT_POST_COUNT == 4095) then s
  else
    let n := s.nextSlot
    let keep := !(s.flag Reg.THERM_STAT_DECIMATING) || s.stage % 2 == 0 || (post && s.stage == s.flt.trigStage)
    let s := if keep then s.store (slotAddr n) ((List.range 512).map s.cellRecord).flatten else s
    let s := (s.store (indexAddr n) (s.indexEntry keep)).wr Reg.MEM_LOGBOOK_STAT_NEWEST_SLOT n
    let s := { s with flt := { s.flt with lbAny := true } }
    if post && decide (s.flt.trigStage < s.stage) then s.inc Reg.MEM_LOGBOOK_STAT_POST_COUNT else s

/-- The triggers of the stage that ends make one trigger, of the stage that begins; it is ignored and counted where one is in force already
(R456, R457). -/
def State.takeTrigger (s : State) : State :=
  if !s.flt.trigger then s
  else
    let s := { s with flt := { s.flt with trigger := false } }
    if s.flag Reg.MEM_LOGBOOK_STAT_FROZEN || s.flag Reg.MEM_LOGBOOK_STAT_POST_RUNNING then s.inc Reg.FLT_STAT_LB_IGNORED
    else
      let n := s.nextSlot
      let s := ((s.wr Reg.MEM_LOGBOOK_STAT_POST_RUNNING 1).wr Reg.MEM_LOGBOOK_STAT_POST_COUNT 0).wr Reg.MEM_LOGBOOK_STAT_TRIGGER_SLOT n
      { s with flt := { s.flt with trigStage := s.stage } }

/-- LOGBOOK_FROZEN (R456). -/
def execLogbookFrozen (s : State) : Res :=
  onRun s (fun s =>
    if s.flag Reg.MEM_LOGBOOK_STAT_POST_RUNNING ∧ s.rd Reg.MEM_LOGBOOK_STAT_POST_COUNT = 4095 then
      ((s.wr Reg.MEM_LOGBOOK_STAT_POST_RUNNING 0).wr Reg.MEM_LOGBOOK_STAT_FROZEN 1).event Ev.LOGBOOK_FROZEN
    else s)

/-! ### LOGBOOK_FREEZE and LOGBOOK_READ (R167, R457) -/

/-- The action of LOGBOOK_FREEZE with ACTION 0. -/
def actLogbookTrigger : Action := fun s =>
  if s.flag Reg.MEM_LOGBOOK_STAT_FROZEN || s.flag Reg.MEM_LOGBOOK_STAT_POST_RUNNING then s.ok (beBytes 6 s.flt.trigStage)
  else s.askTrigger.okNext (beBytes 6 (s.stage + 1))

/-- LOGBOOK_TRIGGER (R457). -/
def execLogbookTrigger (r : Req) (s : State) : Res := execVerb s r Verb.LOGBOOK_FREEZE 0 false (.logbookTrigger r) actLogbookTrigger

/-- The action of LOGBOOK_FREEZE with ACTION 1. Recording resumes with the stage that begins at the next boundary. -/
def actLogbookRelease : Action := fun s =>
  if s.flag Reg.MEM_LOGBOOK_STAT_POST_RUNNING then s.no Status.STATE_REFUSED
  else if s.flag Reg.MEM_LOGBOOK_STAT_FROZEN then
    let s := (s.wr Reg.MEM_LOGBOOK_STAT_FROZEN 0).event Ev.LOGBOOK_RELEASED
    ({ s with flt := { s.flt with lbFrom := s.stage + 1 } }).ok (beBytes 6 0)
  else s.ok (beBytes 6 0)

/-- LOGBOOK_RELEASE (R457). -/
def execLogbookRelease (r : Req) (s : State) : Res := execVerb s r Verb.LOGBOOK_FREEZE 0 false (.logbookRelease r) actLogbookRelease

/-- The action of LOGBOOK_READ (R165, R167). The marking of R117 is complete before the device serves a command. -/
def actLogbookRead (slot firstCell count : BitVec 16) (ecc : List EccHit) : Action := fun s =>
  let n := slot.toNat
  let a := slotAddr n + 24 * firstCell.toNat
  let len := 24 * count.toNat
  if 8191 < n ∨ 511 < firstCell.toNat ∨ count = 0 ∨ 57 < count.toNat ∨ 512 < firstCell.toNat + count.toNat then
    s.no Status.VALUE_OUT_OF_RANGE
  else s.okRead (hitsIn ecc (indexAddr n) 16 ++ hitsIn ecc a len) (s.load (indexAddr n) 16 ++ s.load a len)

/-- LOGBOOK_READ (R167). -/
def execLogbookRead (r : Req) (slot firstCell count : BitVec 16) (ecc : List EccHit) (s : State) : Res :=
  execVerb s r Verb.LOGBOOK_READ 0 true (.logbookRead r slot firstCell count ecc) (actLogbookRead slot firstCell count ecc)

/-! ### JOURNAL (R455) -/

/-- A difference of two entry numbers, compared modulo 2^32 (R453). -/
def numDiff (x y : Nat) : Int := toSigned 32 (x + 2 ^ 32 - y % 2 ^ 32)

/-- The entries that a JOURNAL returns: the first number, and how many. -/
def State.journalSpan (s : State) (start count : Nat) : Nat × Nat :=
  let old := s.rd Reg.JRNL_STAT_OLDEST
  let new := s.rd Reg.JRNL_STAT_NEWEST
  let first := if numDiff start old < 0 then old else start
  if !s.flt.written ∨ 0 < numDiff first new then (first, 0) else (first, min count ((numDiff new first).toNat + 1))

/-- The action of JOURNAL. -/
def actJournal (start : Word) (count : ReadOf 8) : Action := fun s =>
  if count.n = 0 ∨ 21 < count.n.toNat then s.no Status.VALUE_OUT_OF_RANGE
  else
    let (first, n) := s.journalSpan start.toNat count.n.toNat
    let at_ := (List.range n).map (fun k => journalAddr ((first + k) % 2 ^ 32))
    s.okRead (count.ecc.filter (fun e => at_.any (fun a => hitsIn [e] a 64 != [])))
      (beBytes 4 (s.rd Reg.JRNL_STAT_OLDEST) ++ beBytes 4 (s.rd Reg.JRNL_STAT_NEWEST) ++ beBytes 4 (s.rd Reg.JRNL_STAT_OVERFLOW)
        ++ (at_.map (fun a => s.load a 64)).flatten)

/-- JOURNAL (R455). -/
def execJournal (r : Req) (start : Word) (count : ReadOf 8) (s : State) : Res :=
  execVerb s r Verb.JOURNAL 0 true (.journal r start count) (actJournal start count)

/-! ### CLEAR (R169) -/

/-- The bits of PARAMS: FAULTS, DRIVE, CAN_RECOVER for CANA and CANB, SAFETY. -/
def clearBit (params : Word) (i : Nat) : Bool := params.getLsbD i

/-- Why FAULTS is refused, if it is (R335). -/
def State.clearFaultsRefusal (s : State) (safetyAlso : Bool) : Option Nat :=
  if !(s.isOpenFb 1) || !(s.isOpenFb 2) || s.rd Reg.SAFE_STAT_DEMAND != 0 || s.stoDemand || s.ss1Demand || s.mod.edgeStopped || s.mod.halted
    || latchIdx.any (fun i => s.flag (Reg.FLT_LATCH_VALID i) && s.f3Present (s.rd (Reg.FLT_LATCH_CODE i)))
    || (s.station == St.LOCKED_OUT && !safetyAlso) then some Status.STATE_REFUSED
  else none

/-- The serial that a safety token carries is another module's, in a pair (R513). -/
def State.tokenForPartner (s : State) (token : List Byte) : Bool :=
  s.flag Reg.ROUTE_TABLE_PAIRED && beAt token 8 8 != s.rd Reg.ID_DEVICE_SERIAL_HI * 2 ^ 32 + s.rd Reg.ID_DEVICE_SERIAL_LO
    && beAt token 12 4 == s.rd Reg.PAIR_STAT_PARTNER_SERIAL_LO

/-- The check of SAFETY: the island's own, or the other module's answer, which is free (log entry 30). -/
def State.clearSafetyRefusal (s : State) (token : List Byte) (faultsAlso : Bool) : Option Nat :=
  if s.tokenForPartner token then
    match (Config.freeWord s.free).toNat % 3 with
    | 0 => none
    | 1 => some Status.SAFETY_TOKEN_INVALID
    | _ => some Status.STATE_REFUSED
  else s.safetyRefusal token faultsAlso

/-- The status of the lowest failing bit, if one fails. -/
def State.clearRefusal (s : State) (params : Word) (token : List Byte) : Option Nat :=
  let bit := clearBit params
  let can (i : Nat) (c : Fin 2) : Option Nat := if bit i && s.isKeeper && !(s.busOff c) then some Status.STATE_REFUSED else none
  ((((if bit 0 then s.clearFaultsRefusal (bit 4) else none).orElse
    (fun _ => if bit 1 then s.clearDriveRefusal else none)).orElse (fun _ => can 2 0)).orElse (fun _ => can 3 1)).orElse
    (fun _ => if bit 4 then s.clearSafetyRefusal token (bit 0) else none)

/-- Releases the latched station faults (R277, R335, R336, R448); the station enters STANDBY at the next boundary. -/
def State.releaseFaults (s : State) : State :=
  let s := if s.f3Latched Code.ILK_BANK_LOST && !s.paired then { s with duo := { s.duo with reclaim := true } } else s
  let s := (List.range 64).foldl (fun t k => t.setWord (0x0B000100 + 4 * k) 0) s
  let s := ((s.wr Reg.MOD_STAT_SAFE 0).wr Reg.MOD_STAT_SAFE_CAUSE 0)
  let s := if s.station = St.LOCKED_OUT then ({ s with flt := { s.flt with f3Times := [] } }).wr Reg.POL_STATE_TRIPS 0 else s
  if s.station = St.TRIPPED ∨ s.station = St.LOCKED_OUT then s.goTo St.STANDBY 0x0114 else s

/-- What an accepted CLEAR does, bit by bit. -/
def State.clearAll (s : State) (params : Word) (token : List Byte) : State :=
  let bit := clearBit params
  let s := if bit 0 then s.releaseFaults else s
  let s := if bit 1 then s.clearDriveTrips else s
  let s := if bit 2 ∧ s.isKeeper then s.canRecover 0 else s
  let s := if bit 3 ∧ s.isKeeper then s.canRecover 1 else s
  let s := if bit 4 ∧ !(s.tokenForPartner token) then s.safetyRelease else s
  s.event Ev.CLEAR_ACCEPTED

/-- After a CLEAR with SAFETY, accepted or not, the island's NONCE is replaced (R510). -/
def State.afterSafety (s : State) (params : Word) : State := if clearBit params 4 then s.takeFree.2.newNonce else s

/-- The action of CLEAR (R169): every bit is checked before any is acted on. -/
def actClear (params : Word) (token : List Byte) : Action := fun s =>
  if params = 0 ∨ 32 ≤ params.toNat ∨ token.length ≠ (if clearBit params 4 then 32 else 0) then s.no Status.PAYLOAD_INVALID
  else match s.clearRefusal params token with
    | some st => (s.afterSafety params).no st
    | none => ((s.clearAll params token).afterSafety params).okNext [BitVec.ofNat 8 params.toNat]

/-- CLEAR_FAULTS (R335). -/
def execClearFaults (r : Req) (params : Word) (token : List Byte) (s : State) : Res :=
  execVerb s r Verb.CLEAR 0 false (.clearFaults r params token) (actClear params token)

/-- CLEAR_DRIVE (R393). -/
def execClearDrive (r : Req) (params : Word) (token : List Byte) (s : State) : Res :=
  execVerb s r Verb.CLEAR 0 false (.clearDrive r params token) (actClear params token)

/-- CLEAR_CAN_RECOVER (R549). -/
def execClearCanRecover (r : Req) (params : Word) (token : List Byte) (s : State) : Res :=
  execVerb s r Verb.CLEAR 0 false (.clearCanRecover r params token) (actClear params token)

/-- CLEAR_SAFETY (R510). -/
def execClearSafety (r : Req) (params : Word) (token : List Byte) (s : State) : Res :=
  execVerb s r Verb.CLEAR 0 false (.clearSafety r params token) (actClear params token)

end Sys2Proof.Machine
end

