-- ==== Sys2Proof/Machine/Pair.lean ====
section
/-! DEFINITION. The redundant pair (R458 to R480): claims and the grant, pair frames, the mirrored input set, digests and self-checks,
take-over and yield, relayed ledgers, joining, and the loss of bank 3. -/

namespace Sys2Proof.Machine

open Sys2Proof

/-! ### Roles, claims and the grant (R458 to R460) -/

def Role.ALONE : Nat := 0
def Role.KEEPER : Nat := 1
def Role.PORTER : Nat := 2
def Role.JOINING : Nat := 3
def Role.OUT_OF_STEP : Nat := 4
def Role.UNDECIDED : Nat := 5

/-- Bank 3 is classified: ILK_OUT and ILK_IN work (R479). -/
def State.ilkBank (s : State) : Bool := s.rd Reg.ID_VIO_STAT_CLASS3 != 0

/-- The grant comes or goes, and with it the driver enable (R394, R460); without it the role of keeper does not come (R15). -/
def State.setGrant (s : State) (b : Bool) : State :=
  ({ s with duo := { s.duo with grant := b, next := if b || s.duo.next != some Role.KEEPER then s.duo.next else none }, drv := { s.drv with grant := b } }).gateEnable

/-- Drops the own claim, and with it the grant. -/
def State.dropClaim (s : State) : State := ({ s with duo := { s.duo with own := false } }).setGrant false

/-- A module that is not in step any more: it holds no permit (R478). -/
def State.leaveStep (s : State) (rejoin : Bool := false) : State :=
  let s := { s with duo := { s.duo with role := Role.OUT_OF_STEP, next := none, step := 0, equal := 0, check := false, pCheck := none, inStep := false,
                                        rejoin := rejoin, outNs := 0 } }
  (List.range 24).foldl (fun t n => t.wr (Reg.ROUTE_RUN_RELAY n) 0) (s.wr Reg.PAIR_PERMIT_PERMIT 0)

/-- A keeper whose porter is not in step any more: the permits are withdrawn (R476). -/
def State.dropPorter (s : State) : State :=
  let s := { s with duo := { s.duo with inStep := false, equal := 0 } }
  (List.range 24).foldl State.unpermit s

/-- ILK_CLAIM_LOSS (R459). -/
def execIlkClaimLoss (s : State) : Res := onRun s (fun s => { s with duo := { s.duo with partner := false, absentNs := 0 } })

/-- CLAIM_HW_DROP (R459). No waybill fields have been handed over for 2 stage periods. -/
def execClaimHwDrop (s : State) : Res := onRun s (fun s => if s.duo.own ∧ 2 ≤ s.duo.noHand then s.dropClaim else s)

/-- The partner's claim has been absent for as long as a module's claim at power-up waits: 10 ms if strapped FIRST, 50 ms if SECOND (R460). -/
def State.claimWaited (s : State) : Bool := s.heldFor s.duo.absentNs (if s.second then 50000000 else 10000000)

/-- CLAIM_DECISION (R460). A module of a pair that has not decided claims once the partner's claim has been absent for its time; while that is
present it becomes a porter. -/
def execClaimDecision (s : State) : Res :=
  onRun s (fun s =>
    if !s.paired || s.duo.role != Role.UNDECIDED || s.duo.own || !s.ilkBank then s
    else if s.duo.partner then s.leaveStep true
    else if s.claimWaited then { s with duo := { s.duo with own := true } }
    else s)

/-- PARTNER_CLAIM_PRESENT (R460). -/
def execPartnerClaimPresent (s : State) : Res :=
  onRun s (fun s =>
    if !s.ilkBank then s
    else
      let s := ({ s with duo := { s.duo with partner := true, absentNs := 0 } }).setGrant false
      if !s.paired then s.raise Code.PAIR_ILK_DISAGREE .f0
      else if s.duo.own && s.second then s.dropClaim.leaveStep true
      else s)

/-- At boundary H a porter is keeper by a yield, its partner in step; it latches the mirrored set of that boundary still (R474). -/
def State.yieldTo (s : State) : State :=
  let s := { s with duo := { s.duo with role := Role.KEEPER, next := none, lag := true, inStep := true, cause := 0, pFlags := s.duo.pFlags % 2 ^ 30 } }
  let s := ((s.wr Reg.PAIR_LAST_CAUSE 3).wr Reg.PAIR_LAST_MISSED 0).wr Reg.PAIR_LAST_STAGE s.stage32
  (s.inc Reg.PAIR_EVENTS_SWITCHOVERS).event Ev.PAIR_YIELD

/-- KEEPER_GRANT (R460). The role of keeper comes with the next stage boundary (R15); in a take-over TAKEOVER gives it. -/
def execKeeperGrant (s : State) : Res :=
  onRun s (fun s =>
    if !s.duo.own || s.duo.partner || s.duo.grant || !s.ilkBank then s
    else
      let s := s.setGrant true
      if s.duo.role = Role.UNDECIDED ∨ (s.duo.role = Role.PORTER ∧ s.duo.cause = 3) then { s with duo := { s.duo with next := some Role.KEEPER } }
      else s)

/-! ### Frames (R462 to R465) -/

/-- A record: its header, body and check code. -/
def pairRecord (seq type : Nat) (body : List Byte) : List Byte :=
  let b := beBytes 1 type ++ [0] ++ beBytes 2 body.length ++ body
  b ++ beBytes 2 (crc16 (seq % 65536) b)

/-- The good records of a frame's bytes after its head: TYPE and body. -/
def pairRecords (seq : Nat) : Nat → List Byte → List (Nat × List Byte)
  | 0, _ => []
  | n + 1, b =>
    let len := beAt b 2 2
    if b.length < len + 6 then []
    else
      let rest := pairRecords seq n (b.drop (len + 6))
      if beAt b (len + 4) 2 = crc16 seq (b.take (len + 4)) then (beAt b 0 1, (b.drop 4).take len) :: rest else rest

/-- A pair frame's head: TYPE 4 for a keeper frame and 5 for a porter frame. `stage`: the stage that begins at its boundary. -/
def State.pairHead (s : State) (type stage : Nat) (b : Bool) : List Byte :=
  let h := beBytes 1 type ++ beBytes 1 (if b then 128 else 0) ++ beBytes 2 stage ++ beBytes 6 stage ++ beBytes 2 s.ts ++ beBytes 4 s.duo.beat
    ++ List.replicate 14 0
  h ++ beBytes 2 (crc16 0xFFFF h)

/-- The seed of the tail's check code. -/
def pairSeed (type seq : Nat) (b : Bool) : Nat :=
  0xFFFFFFFF ^^^ (seq % 65536 * 65536) ^^^ 0x3000 ^^^ (if type = 5 then 0x80 else 0) ^^^ (if b then 1 else 0)

/-- The tail over what it covers. -/
def pairTail (type seq : Nat) (b : Bool) (covered : List Byte) : List Byte := beBytes 4 (crc32c (pairSeed type seq b) covered) ++ [0, 0, 0, 0]

/-- What CTRL says of this module. -/
def State.ctrlBody (s : State) (stage : Nat) : List Byte :=
  let d := s.duo
  let flags := (if d.release then 2 ^ 31 else 0) + (if d.yieldAt.isSome then 2 ^ 30 else 0) + (if d.check then 2 ^ 29 else 0)
    + (if d.bankLost then 2 ^ 28 else 0)
  let locked := (List.range 24).foldl (fun m n => if s.routeOn n && s.endLocked n s.second then m + 2 ^ n else m) 0
  beBytes 6 stage ++ [0, 0] ++ beBytes 4 flags ++ beBytes 4 (d.yieldAt.getD 0) ++ beBytes 4 (s.rd Reg.PAIR_PERMIT_PERMIT) ++ beBytes 4 locked
    ++ beBytes 4 (s.rd Reg.ID_FW_ROLLBACK_FIRMWARE_ID) ++ wordBytes (Config.recordCrc s.configWords)

/-- A CELL entry of a cell's ledger as CELL_LEDGER holds it (R464). -/
def State.cellEntry (s : State) (c : Nat) : List Byte :=
  let a := 0x05000020 + 0x100 * c
  beBytes 2 (s.rd (Reg.CELL_LEDGER_STATUS c) * 8192 + s.rd (Reg.CELL_LEDGER_COPY c) * 4096 + c) ++ wordBytes (s.word a)
    ++ wordBytes (s.word (a + 4)) ++ wordBytes (s.word (a + 8)) ++ beBytes 2 (s.rd (Reg.CELL_LEDGER_TRIP c))
    ++ beBytes 1 (s.rd (Reg.CELL_LEDGER_STATE c)) ++ beBytes 1 (s.rd (Reg.CELL_LEDGER_LINK c))

/-- The MEAS entries written since the last cut (R464). -/
def State.measEntries (s : State) : List Word :=
  ((List.range 260).filter (fun i => s.flag (Reg.MEAS_RESULT_NEW i))).map (fun i =>
    let f (x : Fld) (n : Nat) : Nat := s.rd x * 2 ^ n
    BitVec.ofNat 32 (i * 2 ^ 23 + f (Reg.MEAS_RESULT_OVR i) 22 + f (Reg.MEAS_RESULT_SETTLE i) 21 + f (Reg.MEAS_RESULT_STALE i) 20
      + f (Reg.MEAS_RESULT_OVERRUN i) 19 + f (Reg.MEAS_RESULT_SOURCE i) 17 + s.rd (Reg.MEAS_RESULT_CODE i)))

/-- The body of HVS (R463): the mean switching times of the carrier cycle so far, in counts. -/
def State.hvsBody (s : State) : List Byte :=
  (s.drv.sw.map (fun p => beBytes 2 (if p.1 = 0 then 0xFFFF else (2 * p.2 + p.1) / (2 * p.1)))).flatten ++ wordBytes (s.word 0x09000004)
    ++ wordBytes (s.word 0x09000600) ++ beBytes 4 s.drv.encPos ++ beBytes 2 (Config.encoderFlags s.free) ++ [0, 0]

/-- A list in pieces of n. -/
def pieces {α : Type} (n : Nat) : Nat → List α → List (List α)
  | 0, _ => []
  | k + 1, l => if l = [] then [] else l.take n :: pieces n k (l.drop n)

/-- The CMD records of a packet (R463), with the stage in which it executes (R468). -/
def cmdBodies (stage : Nat) (p : Nat × List Byte) : List (List Byte) :=
  let l := pieces 512 4 p.2
  l.mapIdx (fun k b => beBytes 4 stage ++ beBytes 1 p.1 ++ beBytes 1 (if k + 1 = l.length then 128 else 0) ++ beBytes 2 (512 * k) ++ b)

/-- Sends a part of the frame in progress on both links. -/
def State.sendParts (s : State) (a b : List Byte) : State := (s.put (.pairPart 48 a)).put (.pairPart 49 b)

/-- The records that fit into a number of bytes, in order. -/
def fitRecords : Nat → List (List Byte) → List (List Byte)
  | _, [] => []
  | n, r :: t => if r.length ≤ n then r :: fitRecords (n - r.length) t else []

/-- A porter's frame of at most 1,600 bytes (R462, R465): CTRL, the digest of the last cut, a due SELFCHECK, and what fits of the ledgers of
the routes it relays. -/
def State.porterFrame (s : State) (b : Bool) : List Byte :=
  let k := s.stage
  let cells := ((s.routes.filter (fun n => s.rd Reg.PAIR_PERMIT_PERMIT / 2 ^ n % 2 == 1)).map (fun n =>
    ((List.range (s.cellsOn n)).filter (fun h => s.servedFrom n h == some s.second)).map (fun h => s.cellEntry (s.firstOf n + h)))).flatten
  let recs := pairRecord k 0x01 (s.ctrlBody k)
    ++ (match s.duo.digest with | some (j, o, i) => pairRecord k 0x02 (beBytes 6 j ++ [0, 0] ++ beBytes 8 o ++ beBytes 8 i) | none => [])
    ++ (match s.loop.selfOk with
        | some ok => if s.duo.check then pairRecord k 0x60 (beBytes 6 s.stage ++ beBytes 1 (if ok then 1 else 0)) else []
        | none => [])
  let fits := fitRecords (1560 - recs.length) ((pieces 16 32 cells).map (fun l => pairRecord k 0x10 l.flatten))
  let covered := s.pairHead 5 k b ++ recs ++ fits.flatten
  covered ++ pairTail 5 k b covered

/-- A keeper's frame begins: its head, CTRL, and what of commands and CAN frames is to be mirrored. The rest follows as it becomes ready. -/
def State.beginFrame (s : State) : State :=
  let k := s.stage + 1
  let told := (([0, 1, 2, 3] : List (Fin 4)).map (fun i => (s.sess i).tell.map (fun b => (i.val, b)))).flatten
  let cmds := ((s.duo.cmds ++ told).map (cmdBodies (k + 1))).flatten
  let frames := ([0, 1] : List (Fin 2)).map (fun c => ((s.net.can[c].inbox ++ s.net.can[c].told).map (fun f => Config.canEntry c f.1.bytes f.2)).flatten)
  let can := if frames.flatten = [] then [] else [frames.flatten]
  let recs := pairRecord k 0x01 (s.ctrlBody k) ++ ((cmds.map (pairRecord k 0x40)) ++ can.map (pairRecord k 0x50)).flatten
  let a := s.pairHead 4 k false ++ recs
  let b := s.pairHead 4 k true ++ recs
  let d := s.duo
  let s := { s with duo := { d with sent := some (k, a, b), cmds := [], set := { d.set with other := d.later ++ can }, later := cmds }
                    ses := s.ses.map (fun (x : Session) => { x with tell := [] }) }
  s.sendParts a b

/-- PAIR_FRAME_LAUNCH (R462). A keeper that has told its partner of a release leaves step (R471, R479). -/
def execPairFrameLaunch (s : State) : Res :=
  onRun s (fun s =>
    if !s.paired then s
    else
      let s := { s with duo := { s.duo with beat := (s.duo.beat + 1) % 2 ^ 32 } }
      if s.duo.role = Role.KEEPER then
        let s := s.beginFrame
        if s.duo.release then ({ s with duo := { s.duo with release := false, bankLost := false, sent := none } }).leaveStep
        else s
      else s.sendParts (s.porterFrame false) (s.porterFrame true))

/-- The rest of the keeper's frame, at the boundary: CELL of even index on PAIRA and of odd index on PAIRB, CUT, the L faults raised, MEAS, HVS,
SELFCHECK, DIGEST and the tail; and the input set that the digest of the next cut covers (R463, R469). -/
def State.endFrame (s : State) : State :=
  let faults := ((s.flt.raised.filter (fun f => ownFault f.code)).map (fun f => beBytes 2 f.code ++ beBytes 2 f.subject)).flatten
  let cells := s.fitted.map (fun c => (c, s.cellEntry c))
  let meas := (s.measEntries.map wordBytes).flatten
  let d := s.duo
  let body := (cells.map (fun p => p.2)).flatten ++ meas ++ (d.set.other ++ (if faults = [] then [] else [faults])).flatten
  let s := { s with duo := { d with latched := body, later := d.later ++ [s.hvsBody], sent := none } }
  match d.sent with
  | none => s
  | some (k, a, b) =>
    let part (odd : Bool) (sent : List Byte) : List Byte :=
      let mine := (cells.filter (fun p => (p.1 % 2 == 1) == odd)).map (fun p => p.2)
      let recs := ((pieces 16 32 mine).map (fun l => pairRecord k 0x10 l.flatten)).flatten
        ++ pairRecord k 0x11 (beBytes 2 mine.length ++ beBytes 4 k ++ [0, 0])
        ++ (if faults = [] then [] else pairRecord k 0x12 faults) ++ (if meas = [] then [] else pairRecord k 0x20 meas)
        ++ pairRecord k 0x30 s.hvsBody
        ++ (match s.loop.selfOk with
            | some ok => if d.check then pairRecord k 0x60 (beBytes 6 s.stage ++ beBytes 1 (if ok then 1 else 0)) else []
            | none => [])
        ++ (match d.digest with | some (j, o, i) => pairRecord k 0x02 (beBytes 6 j ++ [0, 0] ++ beBytes 8 o ++ beBytes 8 i) | none => [])
      recs ++ pairTail 4 k odd (sent ++ recs)
    s.sendParts (part false a) (part true b)

/-! ### Digests (R469, R470) -/

/-- The digests of the cut of the stage that ends. -/
def State.takeDigest (s : State) (k : Nat) : State :=
  let e := s.mod.sent.getD s.mod.applied
  let out := crc64 (s.link.digest ++ Config.driveDigest e.inst e.levels e.gates (s.word 0x08000000) s.drive)
  { s with duo := { s.duo with digest := some (k, out, crc64 s.duo.latched) } }

/-- This module is in step: a porter in step, or a keeper with one. -/
def State.inStep (s : State) : Bool := s.duo.role == Role.PORTER || (s.duo.role == Role.KEEPER && s.duo.inStep)

/-- The result of a comparison (R470): in step, out of step, or a self-check. -/
def State.compareDigests (s : State) (sameIn sameOut : Bool) : State :=
  if sameIn && sameOut then
    let n := min 64 (s.duo.equal + 1)
    let s := { s with duo := { s.duo with equal := n } }
    if s.duo.role = Role.KEEPER ∧ n = 64 then { s with duo := { s.duo with inStep := true } } else s
  else if !s.inStep then { s with duo := { s.duo with equal := 0 } }
  else if s.duo.check then s
  else if !sameIn then
    if s.duo.role = Role.PORTER then (s.raise Code.PAIR_OUT_OF_STEP .f0).leaveStep else s.dropPorter
  else
    let s := { s with duo := { s.duo with check := true, pCheck := none }, loop := { s.loop with selfDue := true, selfOk := none } }
    (s.inc Reg.PAIR_EVENTS_MISMATCHES).event Ev.PAIR_MISMATCH

/-- The partner's DIGEST record. -/
def State.takePartnerDigest (s : State) (body : List Byte) : State :=
  let k := beAt body 0 6
  if s.duo.pDigests.contains k then s
  else
    let s := { s with duo := { s.duo with pDigests := (k :: s.duo.pDigests).take 4 } }
    match s.duo.digest with
    | some (j, o, i) => if j = k then s.compareDigests (i == beAt body 16 8) (o == beAt body 8 8) else s
    | none => s

/-- DIGEST_MISSING (R470). The partner's digests of the last two cuts are missing. -/
def execDigestMissing (s : State) : Res :=
  onRun s (fun s =>
    let gone (d : Nat) : Bool := decide (d ≤ s.stage) && !(s.duo.pDigests.contains (s.stage - d))
    if !s.inStep || !(gone 1) || !(gone 2) then s
    else if s.duo.role = Role.PORTER then s.leaveStep else s.dropPorter)

/-! ### Receiving (R462 to R466, R468) -/

/-- The partner's CTRL record. A porter takes the permits from it (R476). -/
def State.takeCtrl (s : State) (b : List Byte) : State :=
  let d := s.duo
  let s := { s with duo := { d with pStage := beAt b 0 6, pFlags := beAt b 8 4, pYieldAt := beAt b 12 4, pFirm := beAt b 24 4
                                    pConfig := beAt b 28 4, ctrlAt := some s.stage } }
  let s := s.partnerLocks (beAt b 20 4)
  if d.role = Role.PORTER then
    let p := beAt b 16 4 % 2 ^ 24
    (List.range 24).foldl (fun t n => t.wr (Reg.ROUTE_RUN_RELAY n) (p / 2 ^ n % 2)) (s.wr Reg.PAIR_PERMIT_PERMIT p)
  else s

/-- Opens a session that the keeper has mirrored, with its base sequence. -/
def State.openMirror (s : State) (i : Fin 4) (src : Source) (base : Nat) : State :=
  let s := ((s.closeSess i).openSess i src).wr (Reg.CMD_SESSION_BASE_SEQ i) base
  s.setSess i { s.sess i with mirror := true }

/-- The packet of a command that the keeper has accepted and mirrored (R178): it waits in its session, whose source `src` is the keeper's. A session that
this module does not hold from the keeper is taken over with it. -/
def State.mirrorPacket (s : State) (src : Source) (bs : List Byte) : State :=
  match receive bs with
  | .passed p =>
    let i := Fin.ofNat 4 p.head.session
    if p.head.flags / 4 % 2 = 1 then s.openMirror i src 1
    else
      let s := if s.isOpen i && (s.sess i).mirror then s else s.openMirror i src p.head.seq
      let x := s.sess i
      let d := (p.head.seq + 2 ^ 32 - s.baseSeq i) % 2 ^ 32
      if 64 ≤ d ∨ (assocGet x.waiting p.head.seq).isSome ∨ (d = 0 ∧ (x.due.isSome ∨ x.busy.isSome)) then s
      else
        let s := s.countAccepted i
        State.drainRefused 64 i (s.addWaiting i p.head.seq (waitingOf p true))
  | _ => s

/-- A CMD record: the chunk joins those before it; the last one makes the packet. -/
def State.takeChunk (s : State) (src : Source) (b : List Byte) : State :=
  let i := beAt b 4 1 % 4
  let sofar := if beAt b 6 2 = 0 then [] else (assocGet s.duo.chunks i).getD []
  let bytes := sofar ++ b.drop 8
  let put (l : List (Nat × List Byte)) : State := { s with duo := { s.duo with chunks := l } }
  if sofar.length ≠ beAt b 6 2 then put (assocErase s.duo.chunks i)
  else if beAt b 5 1 / 128 = 1 then (put (assocErase s.duo.chunks i)).mirrorPacket src bytes
  else put (assocInsert (assocErase s.duo.chunks i) i bytes)

/-- The set in the making with one record of the keeper's frame on a link. -/
def PairSet.take (x : PairSet) (onB : Bool) (type : Nat) (b : List Byte) : PairSet :=
  if type = 0x10 then
    let l := pieces 18 16 b
    let cells := l.foldl (fun m e => assocInsert (assocErase m (beAt e 0 2 % 1024)) (beAt e 0 2 % 1024) e) x.cells
    { x with cells := cells, nA := if onB then x.nA else x.nA + l.length, nB := if onB then x.nB + l.length else x.nB }
  else if type = 0x11 then (if onB then { x with cutB := some (beAt b 0 2) } else { x with cutA := some (beAt b 0 2) })
  else if type = 0x12 then
    { x with faults := (pieces 4 400 b).map (fun e => (beAt e 0 2, beAt e 2 2)), other := x.other ++ [b] }
  else if type = 0x20 then { x with meas := (pieces 4 400 b).map (fun e => wordAt e 0) }
  else if type = 0x30 then { x with hvs := some b, later := x.later ++ [b] }
  else if type = 0x40 then { x with later := x.later ++ [b] }
  else if type = 0x50 then { x with other := x.other ++ [b] }
  else x

/-- One record of a keeper frame at a porter: the first good copy is used; CELL and CUT come once on their link. -/
def State.takeKeeperRecord (onB : Bool) (src : Source) (s : State) (r : Nat × List Byte) : State :=
  let x := s.duo.set
  let once := r.1 == 0x10 || r.1 == 0x11
  let key := beBytes 1 r.1 ++ r.2
  if !once && x.seen.contains key then s
  else
    let x := { (x.take onB r.1 r.2) with seen := if once then x.seen else x.seen ++ [key] }
    let s := { s with duo := { s.duo with set := x } }
    if r.1 = 0x01 then s.takeCtrl r.2
    else if r.1 = 0x02 then s.takePartnerDigest r.2
    else if r.1 = 0x40 then s.takeChunk src r.2
    else if r.1 = 0x60 then { s with duo := { s.duo with pCheck := some (beAt r.2 6 1 == 1) } }
    else s

/-- A frame's records after its head and before a good tail; none where the head is not one of the given type. -/
def frameRecords (type : Nat) (b : Bool) (bytes : List Byte) : List (Nat × List Byte) :=
  let n := bytes.length - 8
  let seq := beAt bytes 2 2
  if bytes.length < 32 ∨ beAt bytes 0 1 ≠ type ∨ beAt bytes 30 2 ≠ crc16 0xFFFF (bytes.take 30) then []
  else
    let body := if 40 ≤ bytes.length ∧ bytes.drop n = pairTail type seq b (bytes.take n) then (bytes.take n).drop 32 else bytes.drop 32
    pairRecords seq body.length body

/-- The failed codes of a frame's bytes after its head: its records, and its tail where it has come whole. -/
def badRecords (seq : Nat) (tail : List Byte) : Nat → List Byte → Nat
  | 0, _ => 0
  | n + 1, b =>
    let len := beAt b 2 2
    if b.length ≤ 8 then (if b.length = 8 ∧ b ≠ tail then 1 else 0)
    else if b.length < len + 6 then 0
    else (if beAt b (len + 4) 2 = crc16 seq (b.take (len + 4)) then 0 else 1) + badRecords seq tail n (b.drop (len + 6))

/-- The failed check codes of a pair frame (R217, R462). -/
def badCodes (type : Nat) (b : Bool) (bytes : List Byte) : Nat :=
  let seq := beAt bytes 2 2
  if bytes.length < 32 then 0
  else if beAt bytes 30 2 ≠ crc16 0xFFFF (bytes.take 30) then 1
  else badRecords seq (pairTail type seq b (bytes.take (bytes.length - 8))) bytes.length (bytes.drop 32)

/-- What a pair link's receiver counts of a frame: invalid blocks and failed codes (R213, R217). -/
def State.pairCounts (s : State) (type : Nat) (b : Bool) (bytes : List Byte) (invalid : BitVec 16) : State :=
  let l := if b then 49 else 48
  (s.inc (Reg.LANE_CNT_HEADER_ERR l) invalid.toNat).inc (Reg.LANE_CNT_CRC_ERR l) (badCodes type b bytes)

/-- A pair link's receiver works. -/
def State.pairHears (s : State) (b : Bool) : Bool := s.paired && s.flag (Reg.LANE_STAT_LOCKED (if b then 49 else 48))

/-- KEEPER_FRAME_RECEIVED (R462 to R464, R466). `frames`: the CAN frames that its CAN
records tell, with their controller and age; `src` and `serial`: the source of its commands' sessions, and the keeper's serial. -/
def execKeeperFrameReceived (b : Bool) (frame : PairIn) (frames : List (Fin 2 × CanFrame × Nat)) (src : Source) (serial : Word) (s : State) : Res :=
  onRun s (fun s =>
    let s := if s.pairHears b then s.pairCounts 4 b frame.bytes frame.invalid else s
    if !(s.pairHears b) || s.isKeeper then s
    else
      let recs := frameRecords 4 b frame.bytes
      let seq := beAt frame.bytes 2 2
      if recs = [] then s
      else
        let x := s.duo.set
        let x := if x.seq = seq ∧ x.seen ≠ [] then x else { seq := seq, other := x.later, hvsNow := x.hvs }
        let add := if x.frames = [] then frames.map (fun f => (f.1.val, f.2.1, f.2.2)) else []
        let s := { s with duo := { s.duo with set := { x with frames := x.frames ++ add } } }
        let s := s.wr Reg.PAIR_STAT_PARTNER_SERIAL_LO serial.toNat
        recs.foldl (State.takeKeeperRecord b src) s)

/-- One record of a porter frame at the keeper. -/
def State.takePorterRecord (s : State) (r : Nat × List Byte) : State :=
  if r.1 = 0x01 then s.takeCtrl r.2
  else if r.1 = 0x02 then s.takePartnerDigest r.2
  else if r.1 = 0x60 then { s with duo := { s.duo with pCheck := some (beAt r.2 6 1 == 1) } }
  else if r.1 = 0x10 then
    let l := (pieces 18 16 r.2).map (fun e => (beAt e 0 2 % 1024, e))
    { s with duo := { s.duo with relayed := l.foldl (fun m e => assocInsert (assocErase m e.1) e.1 e.2) s.duo.relayed } }
  else s

/-- PORTER_FRAME_RECEIVED (R465). -/
def execPorterFrameReceived (b : Bool) (frame : PairIn) (serial : Word) (s : State) : Res :=
  onRun s (fun s =>
    let s := if s.pairHears b then s.pairCounts 5 b frame.bytes frame.invalid else s
    if !(s.pairHears b) || s.duo.role != Role.KEEPER then s
    else
      let recs := frameRecords 5 b frame.bytes
      if recs = [] then s else recs.foldl State.takePorterRecord (s.wr Reg.PAIR_STAT_PARTNER_SERIAL_LO serial.toNat))

/-! ### The mirrored input set (R463, R464, R466, R467) -/

/-- Takes a CELL entry as the cell's ledger (R234, R464). What it leaves out, the sequence echo and the digest, is free (log entry 2). -/
def State.takeEntry (s : State) (p : Nat × List Byte) : State :=
  let c := p.1
  let b := p.2
  let status := beAt b 0 1 / 32
  let copy := decide (beAt b 0 1 / 16 % 2 = 1)
  if 3 ≤ status then (s.noLedger c status).wrB (Reg.CELL_LEDGER_COPY c) copy
  else
    let (w, s) := s.takeFree
    let (v, s) := s.takeFree
    let a := 0x05000020 + 0x100 * c
    let s := [0, 1, 2].foldl (fun t k => t.setWord (a + 4 * k) (wordAt b (2 + 4 * k))) s
    let s := ((s.wr (Reg.CELL_LEDGER_TRIP c) (beAt b 14 2)).wr (Reg.CELL_LEDGER_STATE c) (beAt b 16 1)).wr (Reg.CELL_LEDGER_LINK c) (beAt b 17 1)
    let s := ((s.wr (Reg.CELL_LEDGER_STATUS c) status).wrB (Reg.CELL_LEDGER_COPY c) copy).cellThermal c
    let r := s.cell c
    let clear := decide (s.tripOf c / 128 = 0)
    s.setCell c { r with heard := true, miss := 0, away := 0, clean := if clear then min 200 (r.clean + 1) else 0
                         raw := (b.drop 2).take 14 ++ (wordBytes w).take 2 ++ wordBytes v ++ (b.drop 16).take 2 }

/-- The gain of the stop that writes a result: that of the first one so configured. -/
def State.gainOf (s : State) (i : Nat) : Nat :=
  let stops := ([0, 1, 2, 3].map (fun x => (List.range (s.rd (Reg.MEAS_ADC_CFG_STOP_COUNT x))).map (fun j => (x, j)))).flatten
  match stops.find? (fun p => s.rd (Reg.MEAS_STOP_RESULT p.1 p.2) == i) with
  | some p => s.rd (Reg.MEAS_STOP_GAIN p.1 p.2)
  | none => 0

/-- Takes a MEAS entry as the result, with the scale of this module's own configuration. -/
def State.takeMeas (s : State) (e : Word) : State :=
  let n := e.toNat
  let i := n / 2 ^ 23
  let code := toSigned 16 (n % 65536)
  let value : Rat :=
    if i < 256 then (code : Rat) * (5 / 2) / ((32768 * 2 ^ s.gainOf i : Nat) : Rat) * s.f32 (Reg.MEAS_SCALE_SCALE i) + s.f32 (Reg.MEAS_SCALE_OFFSET i)
    else (code : Rat) * sdScale (Fin.ofNat 4 i)
  let old := s.entryOf i
  let e : MeasEntry := { old with value := f32OfRat value, code := n % 65536, ovr := n / 2 ^ 22 % 2 == 1, settle := n / 2 ^ 21 % 2 == 1
                                  stale := n / 2 ^ 20 % 2 == 1, overran := n / 2 ^ 19 % 2 == 1, source := n / 2 ^ 17 % 4, new := true }
  s.handEntry (i, e)

/-- Takes an HVS record: the keeper's switching times, thermistors and encoder (R381, R463). -/
def State.takeHvs (s : State) (b : List Byte) : State :=
  let sw := s.drv.sw.mapIdx (fun c p => let v := beAt b (2 * c) 2; if v = 0xFFFF then p else (p.1 + 1, p.2 + v))
  let s := s.setWord 0x09000600 (wordAt b 16)
  { s with drv := { s.drv with sw := sw, encPos := beAt b 20 4 } }

/-- Raises the keeper's L faults, with their journal entries marked as mirrored, and what follows from them (R467). -/
def State.raiseMirrored (s : State) (l : List (Nat × Nat)) : State :=
  let l := sortBy (fun p => p.1) (l.filter (fun p => ownFault p.1))
  let reqs : List FaultReq := l.map (fun p => ⟨p.1, classOf p.1, p.2, [], true⟩)
  let d := (reqs.filter (fun f => f.cls == .d)).map (fun f => f.code)
  let s := if d = [] then s
    else
      let s := ({ s with drv := { s.drv with reported := d } }).driveTrips
      { s with flt := { s.flt with pending := s.flt.pending.filter (fun f => f.cls != .d) } }
  let s := reqs.foldl State.raiseOne s
  let s := s.react reqs
  (reqs.foldl (fun t f => if f.cls = .demand then t.islandReact f.code else t) s).applyGoto

/-- The input set is latched as received (R466): what is missing counts as NO_LEDGER, or as not new. -/
def State.latchSet (s : State) : State :=
  let x := s.duo.set
  let whole := x.cutA == some x.nA && x.cutB == some x.nB
  let s := if whole then s else s.inc Reg.PAIR_EVENTS_SET_MISSING
  let s := s.fitted.foldl (fun t c =>
    match assocGet x.cells c with
    | some e => t.takeEntry (c, e)
    | none => t.noLedger c 4) s
  let s := (List.range 260).foldl (fun t i => t.wr (Reg.MEAS_RESULT_NEW i) 0) s
  let s := x.meas.foldl State.takeMeas s
  let s := match x.hvsNow with | some b => s.takeHvs b | none => s
  let s := x.frames.foldl (fun t f =>
    t.hearRecord (Fin.ofNat 2 f.1) f.2.1 f.2.2) s
  let s := (s.deliverCan 0).deliverCan 1
  let s := s.raiseMirrored x.faults
  let cells := ((x.cells.map (fun p => p.2)).flatten)
  let body := cells ++ (x.meas.map wordBytes).flatten ++ x.other.flatten
  let s := { s with duo := { s.duo with latchAt := some s.stage, latched := body, set := { x with frames := [], faults := [] } }
                    link := { s.link with cutAt := some (s.stage - 1) }, meas := { s.meas with cutAt := some (s.stage - 1) } }
  s.snapView

/-- PORTER_LATCH (R466). -/
def execPorterLatch (s : State) : Res :=
  onRun s (fun s =>
    if (s.duo.role = Role.PORTER ∨ s.duo.lag ∨ (s.duo.role = Role.JOINING ∧ s.duo.step = 5)) ∧ s.duo.latchAt ≠ some s.stage then s.latchSet else s)

/-! ### Self-check (R471) -/

/-- SELFCHECK_OUTCOME (R471). -/
def execSelfcheckOutcome (s : State) : Res :=
  onRun s (fun s =>
    match s.duo.check, s.loop.selfOk with
    | true, some own =>
      let done (t : State) : State := { t with duo := { t.duo with check := false, pCheck := none }, loop := { t.loop with selfOk := none } }
      let s := if own then s else s.inc Reg.PAIR_EVENTS_SELFCHECK_FAIL
      if s.duo.role = Role.KEEPER then
        match own, s.duo.pCheck, s.duo.inStep with
        | true, some true, true => (done s).dropPorter.raise Code.PAIR_MISMATCH_UNRESOLVED .f0
        | true, _, _ => (done s).dropPorter.raise Code.PAIR_PORTER_FAILED .f0
        | false, some true, true => { (done s).dropClaim with duo := { (done s).dropClaim.duo with release := true } }
        | false, _, _ => (done s).raise Code.PAIR_SELFCHECK_FAIL .f3
      else if s.duo.role = Role.PORTER then
        match own, s.duo.pCheck with
        | true, some true => ((done s).leaveStep true).raise Code.PAIR_MISMATCH_UNRESOLVED .f0
        | true, _ => done s
        | false, _ => ((done s).leaveStep).raise Code.PAIR_PORTER_FAILED .f0
      else done s
    | _, _ => s)

/-! ### Take-over and yield (R472 to R475) -/

/-- Both pair links are not locked. -/
def State.pairDark (s : State) : Bool := !(s.flag (Reg.LANE_STAT_LOCKED 48)) && !(s.flag (Reg.LANE_STAT_LOCKED 49))

/-- No frame of the partner has come for 2 stages. -/
def State.pairSilent (s : State) : Bool := match s.duo.ctrlAt with | some k => decide (k + 2 ≤ s.stage) | none => true

/-- The own claim goes up, for a cause. -/
def State.claimFor (s : State) (cause : Nat) : State := { s with duo := { s.duo with own := true, cause := cause } }

/-- TAKEOVER_CLAIM (R472). -/
def execTakeoverClaim (s : State) : Res :=
  onRun s (fun s =>
    let d := s.duo
    if !s.paired || !(s.flag Reg.PAIR_CFG_TAKEOVER_EN) || d.own || !s.ilkBank then s
    else if d.role = Role.PORTER then
      if d.partner then (if s.pairDark || s.pairSilent then (s.leaveStep).raise Code.PAIR_LINK_DOWN .f0 else s)
      else if s.pairDark then s.claimFor 1
      else if d.pFlags / 2 ^ 31 % 2 = 1 then (if s.loop.selfOk = some true ∨ d.pFlags / 2 ^ 28 % 2 = 1 then s.claimFor 2 else s)
      else if d.pFlags / 2 ^ 30 % 2 = 1 then s
      else s.raise Code.PAIR_ILK_DISAGREE .f0
    else if (d.role = Role.JOINING ∨ d.role = Role.OUT_OF_STEP) ∧ !d.partner ∧ s.pairDark then
      (s.claimFor 1).raise Code.PAIR_KEEPER_LOST .f3
    else s)

/-- TAKEOVER (R473). `missed`: the stages in which no steered frame reached the cells. A module that was not in step has no mirrored set. -/
def execTakeover (missed : Byte) (s : State) : Res :=
  onRun s (fun s =>
    let d := s.duo
    if !d.grant || d.role < 2 || d.cause = 0 || d.cause = 3 || d.next.isSome then s
    else
      let s := if d.role = Role.PORTER ∧ d.latchAt ≠ some s.stage then s.latchSet else s
      let s := { s with duo := { s.duo with next := some Role.KEEPER, step := 0, inStep := false, equal := 0, check := false, cause := 0 }
                        drv := { s.drv with reported := s.drv.reported ++ s.drv.held, held := [] }
                        link := { s.link with partnerLocked := 0 } }
      let s := (List.range 24).foldl State.unpermit s
      let s := ((s.wr Reg.PAIR_LAST_CAUSE d.cause).wr Reg.PAIR_LAST_MISSED missed.toNat).wr Reg.PAIR_LAST_STAGE s.stage32
      let s := (s.inc Reg.PAIR_EVENTS_SWITCHOVERS).event Ev.PAIR_TAKEOVER 0 (beBytes 1 d.cause)
      let s := (s.raise Code.PAIR_PARTNER_LOST .f0).askTrigger
      let s := (s.link.parcels.map (fun p => p.1)).foldl (fun t c => t.endParcel c Status.PARCEL_TIMEOUT []) s
      s.endOps (fun o => match o with | .parcel _ => true | _ => false) Status.PARCEL_TIMEOUT [])

/-- At boundary H the old keeper is a porter in step (R474). -/
def State.yieldFrom (s : State) : State :=
  let s := { s with duo := { s.duo with role := Role.PORTER, next := none, inStep := false, yieldAt := none, latchAt := none, set := {} } }
  let s := ((s.wr Reg.PAIR_LAST_CAUSE 3).wr Reg.PAIR_LAST_MISSED 0).wr Reg.PAIR_LAST_STAGE s.stage32
  ((s.wr Reg.PAIR_STAT_STEP_STAGE s.stage32).inc Reg.PAIR_EVENTS_SWITCHOVERS).event Ev.PAIR_YIELD

/-- A role that the coming boundary brings is taken (R15): that of keeper after a first grant or a take-over before the boundary's inputs, those of a yield
once the old keeper's frame has ended. -/
def State.takeRole (s : State) (yields : Bool) : State :=
  match s.duo.next with
  | some r =>
    if r = Role.KEEPER then
      if s.duo.cause = 3 then (if yields then s.yieldTo else s)
      else if yields then s else { s with duo := { s.duo with role := Role.KEEPER, next := none } }
    else if yields then s.yieldFrom else s
  | none => s

/-- YIELD_HANDOVER (R474). In the stage before boundary H the keeper drops its claim and the porter claims; the roles change at the boundary. -/
def execYieldHandover (s : State) : Res :=
  onRun s (fun s =>
    let d := s.duo
    if d.role = Role.KEEPER ∧ d.yieldAt = some ((s.stage + 1) % 2 ^ 32) then
      let s := s.dropClaim
      { s with duo := { s.duo with next := some Role.PORTER } }
    else if d.role = Role.PORTER ∧ d.pFlags / 2 ^ 30 % 2 = 1 ∧ d.pYieldAt = (s.stage + 1) % 2 ^ 32 ∧ s.ilkBank then
      { s with duo := { d with own := true, cause := 3 } }
    else s)

/-- The reply of ROLE (R474). A keeper cannot tell from the frames whether a partner that is not in step joins: that is free (log entry 2). -/
def State.roleReply (s : State) : List Byte :=
  let d := s.duo
  let partner : Nat :=
    if !s.paired then Role.ALONE
    else if s.pairSilent then Role.UNDECIDED
    else if d.role ≠ Role.KEEPER then Role.KEEPER
    else if d.inStep then Role.PORTER
    else 3 + (Config.freeWord s.free).toNat % 2
  let bit (b : Bool) (n : Nat) : Nat := if b then 2 ^ n else 0
  beBytes 1 d.role ++ beBytes 1 partner ++ beBytes 1 (bit d.own 0 + bit d.partner 1 + bit d.grant 2
    + bit (s.flag (Reg.LANE_STAT_UP 48)) 3 + bit (s.flag (Reg.LANE_STAT_UP 49)) 4) ++ [0]

/-- The action of ROLE with REQUEST 0. -/
def actRoleReport : Action := fun s => { s.ok s.roleReply with st := s.takeFree.2 }

/-- ROLE_REPORT (R474). -/
def execRoleReport (r : Req) (s : State) : Res := execVerb s r Verb.ROLE 0 true (.roleReport r) actRoleReport

/-- The action of ROLE with REQUEST 1: H is the first boundary at least 4 stages later. -/
def actRoleYield : Action := fun s =>
  if s.duo.role ≠ Role.KEEPER ∨ !s.duo.inStep ∨ s.duo.check then s.no Status.STATE_REFUSED
  else
    let r := s.roleReply
    ({ s.takeFree.2 with duo := { s.duo with yieldAt := some ((s.stage + 5) % 2 ^ 32) } }).ok r

/-- ROLE_YIELD (R474). -/
def execRoleYield (r : Req) (s : State) : Res := execVerb s r Verb.ROLE 0 false (.roleYield r) actRoleYield

/-! ### Join (R477, R478) -/

/-- PLL_LANE follows the keeper through a pair link. -/
def State.takeLaneRef (s : State) : State :=
  ({ s with clk := { s.clk with laneBack := none } }).wr Reg.CLK_LANE_REF_SOURCE (if s.flag (Reg.LANE_STAT_LOCKED 48) then 1 else 2)

/-- Enters JOINING: PLL_LANE follows the keeper (R75, R477). -/
def State.beginJoin (s : State) : State :=
  ({ s with duo := { s.duo with role := Role.JOINING, step := 1, stepN := 0, equal := 0, rejoin := false } }).takeLaneRef

/-- JOIN_START (R477). -/
def execJoinStart (s : State) : Res :=
  onRun s (fun s => if s.paired ∧ s.ilkBank ∧ s.duo.role = Role.OUT_OF_STEP ∧ s.duo.rejoin then s.beginJoin else s)

/-- JOIN_RETRY (R478, R479), RETRY_S after the module left step. -/
def execJoinRetry (s : State) : Res :=
  onRun s (fun s =>
    if s.paired && s.ilkBank && s.duo.role == Role.OUT_OF_STEP && s.flag Reg.PAIR_CFG_JOIN_AUTO
        && s.heldFor s.duo.outNs (s.rd Reg.PAIR_CFG_RETRY_S * 1000000000) then s.beginJoin else s)

/-- A join fails at its present step. -/
def State.failJoin (s : State) : State := (s.raise Code.PAIR_JOIN_FAILED .f0 0 (beBytes 1 s.duo.step)).leaveStep

/-- The bound of a step of a join, in stages (R477). -/
def joinBound (step : Nat) : Nat := [0, 1, 100, 1024, 512, 64].getD step 64

/-- The checks of J1 that this module can make. -/
def State.joinCheck (s : State) : Bool :=
  s.duo.partner && s.flag (Reg.LANE_STAT_UP 48) && s.flag (Reg.LANE_STAT_UP 49) && s.duo.pFirm == s.rd Reg.ID_FW_ROLLBACK_FIRMWARE_ID
    && s.duo.pConfig == (Config.recordCrc s.configWords).toNat

/-- JOIN_STEP (R461, R477). `ok`: the step has completed within its bound and, for J1, the straps differ; `delay` and `delta`: what J2
measures; `image`: the words of the object space in the image of J4. -/
def execJoinStep (ok : Bool) (delay : BitVec 16) (delta : BitVec 4) (image : List (Word × Word)) (s : State) : Res :=
  onRun s (fun s =>
    let joinAt (t : State) (n : Nat) : State := { t with duo := { t.duo with step := n, stepN := 0 } }
    if s.duo.role ≠ Role.JOINING then s
    else if !ok || decide (joinBound s.duo.step < s.duo.stepN) then s.failJoin
    else match s.duo.step with
      | 1 => if s.joinCheck then joinAt s 2 else s.failJoin
      | 2 => joinAt (((s.wr Reg.PAIR_STAT_PAIR_DELAY delay.toNat).wr Reg.PAIR_STAT_DELTA delta.toNat).setStage (s.duo.pStage % 2 ^ 48)) 3
      | 3 => joinAt s 4
      | 4 => joinAt (image.foldl (fun t p => if (objectAt p.1.toNat).isSome ∧ p.1.toNat % 4 = 0 then t.setWord p.1.toNat p.2 else t)
          { s with duo := { s.duo with equal := 0 } }) 5
      | _ =>
        if s.duo.equal = 64 then
          let s := { s with duo := { s.duo with role := Role.PORTER, step := 0 } }
          ((s.wr Reg.PAIR_STAT_STEP_STAGE s.stage32).inc Reg.PAIR_EVENTS_JOINS).event Ev.PAIR_JOINED
        else s.failJoin)

/-! ### The stage boundary -/

/-- The times of the pair, one stage on (R460, R477, R478). -/
def State.tickPair (s : State) : State :=
  { s with
    duo := { s.duo with
      absentNs := s.heldNs (!s.duo.partner) s.duo.absentNs
      outNs := s.heldNs (s.duo.role == Role.OUT_OF_STEP) s.duo.outNs
      stepN := runCount (s.duo.role == Role.JOINING) s.duo.stepN } }

/-- The first boundary after a loss of bank 3, and the claim of a single device after CLEAR (R479); the handovers of the stage and the heartbeat (R459); an L fault
of a porter's own takes it out of step (R467). Comes before the faults of the boundary are raised. -/
def State.pairBefore (s : State) : State :=
  let n := if s.link.handedAt = some s.stage then 0 else s.duo.noHand + 1
  let s := { s with duo := { s.duo with noHand := min 2 n } }.tickPair
  let s := if s.duo.own && s.ilkBank && n == 0 then s.put .notch else s
  let s := if s.duo.reclaim && !s.paired && s.ilkBank then { s with duo := { s.duo with own := true, reclaim := false } } else s
  if !s.duo.bankDue then s
  else
    let s := { s with duo := { s.duo with bankDue := false } }
    if s.duo.role = Role.ALONE ∨ (s.duo.role = Role.KEEPER ∧ !s.duo.inStep) then s.raise Code.ILK_BANK_LOST .f3
    else if s.duo.role = Role.KEEPER then { s with duo := { s.duo with release := true, bankLost := true } }
    else if s.duo.role = Role.JOINING then s.failJoin
    else if s.duo.role = Role.PORTER then s.leaveStep
    else s

/-- The lane reference of a module that follows a pair link (R75): the other link where one is lost, and its own where both are, or where it has
become keeper. A porter, and a module that joins, takes a pair link that is locked. -/
def State.laneFollow (s : State) : State :=
  let src := s.rd Reg.CLK_LANE_REF_SOURCE
  if src = 0 ∨ src = 3 then
    if (s.duo.role = Role.PORTER ∨ s.duo.role = Role.JOINING) ∧ (s.flag (Reg.LANE_STAT_LOCKED 48) ∨ s.flag (Reg.LANE_STAT_LOCKED 49)) then s.takeLaneRef
    else s
  else if s.isKeeper || s.pairDark then s.leaveLaneRef
  else if src = 1 ∧ !(s.flag (Reg.LANE_STAT_LOCKED 48)) then s.wr Reg.CLK_LANE_REF_SOURCE 2
  else if src = 2 ∧ !(s.flag (Reg.LANE_STAT_LOCKED 49)) then s.wr Reg.CLK_LANE_REF_SOURCE 1
  else s

/-- PAIR_STAT (R486). -/
def State.showPair_ (s : State) : State :=
  let d := s.duo
  let s := (((s.wr Reg.PAIR_STAT_ROLE d.role).wrB Reg.PAIR_STAT_OWN_CLAIM d.own).wrB Reg.PAIR_STAT_PARTNER_CLAIM d.partner).wrB
    Reg.PAIR_STAT_GRANT d.grant
  let s := (s.wr Reg.PAIR_STAT_PAIRA_UP (s.rd (Reg.LANE_STAT_UP 48))).wr Reg.PAIR_STAT_PAIRB_UP (s.rd (Reg.LANE_STAT_UP 49))
  ((s.wrB Reg.PAIR_STAT_PARTNER_IN_STEP (d.role == Role.KEEPER && d.inStep)).wrB Reg.PAIR_STAT_SELFCHECK d.check).wr Reg.PAIR_STAT_JOIN_STEP d.step

/-- The pair's part of a stage boundary, after the faults are raised: the digests of the cut that has passed, the keeper's frame, the relayed
ledgers, and what is shown. -/
def State.pairAfter (s : State) : State :=
  let s :=
    if !s.paired then s
    else
      let s := s.takeDigest (s.stage - 1)
      let s := if s.duo.role = Role.KEEPER then s.endFrame else s
      let foreign := s.flt.raised.any (fun f => !f.mirrored && ownFault f.code && f.cls != .f0 && f.cls != .d
        && (f.cls != .demand || f.code == Code.SAFE_LOCKOUT))
      if s.duo.role = Role.PORTER ∧ foreign then s.leaveStep else s
  ((s.takeRole true).laneFollow).showPair_

/-- The keeper latches the ledgers that the porter has relayed; a hop of a relayed route without one has none (R476). -/
def State.takeRelayed (s : State) : State :=
  if s.duo.role ≠ Role.KEEPER then s
  else
    let on := s.routes.filter (fun n => s.rd Reg.PAIR_PERMIT_PERMIT / 2 ^ n % 2 == 1)
    let cells := (on.map (fun n => ((List.range (s.cellsOn n)).filter (fun h => s.servedFrom n h == some (!s.second))).map (fun h => s.firstOf n + h))).flatten
    let l := s.duo.relayed
    let s := { s with duo := { s.duo with relayed := [] } }
    cells.foldl (fun t c => match assocGet l c with | some e => t.takeEntry (c, e) | none => t.noLedger c 4) s

end Sys2Proof.Machine
end

