-- ==== Sys2Proof/Machine/Clock.lean ====
section
/-! DEFINITION. The clocks (R60 to R75): locks of the PLLs, safe clocks and step changes, the loss of XIN, ramps and the lane spread; and
how the time bases go on (R80 to R83). -/

namespace Sys2Proof.Machine

open Sys2Proof

/-! ### Locks (R62 to R69) -/

/-- A command of the clocks: it has an effect while the controller is supplied and not held in reset. -/
def onPower (s : State) (f : State → State) : Res :=
  always s (fun s => if s.power.region = .full ∧ !s.power.held then f s else s)

/-- The place of a PLL in LOCKED and LOST_SEEN (R88). -/
def Pll.index : Pll → Nat
  | .sys => 0 | .lane => 1 | .net => 2 | .hv => 3

/-- Sets a PLL's bit of LOCKED. -/
def State.setLocked (s : State) (p : Pll) (b : Bool) : State := s.wr Reg.CLK_STAT_LOCKED (withBit (s.rd Reg.CLK_STAT_LOCKED) p.index b)

/-- The lock pin's voltage as CLK_LKF and LKF_OPEN report it (R63, R88, R89). -/
def State.readPin (s : State) (p : Pll) (mv : Nat) : State :=
  let s := match p with
    | .sys => s.wr Reg.CLK_LKF_LKF_SYS_MV mv
    | .lane => s.wr Reg.CLK_LKF_LKF_LANE_MV mv
    | _ => s
  s.wrB Reg.CLK_STAT_LKF_OPEN (decide (1400 < s.rd Reg.CLK_LKF_LKF_SYS_MV ∨ 1400 < s.rd Reg.CLK_LKF_LKF_LANE_MV))

/-- The lock pin lets a PLL be declared locked (R62). -/
def pinLocks (p : Pll) (mv : Nat) : Bool :=
  match p with
  | .sys | .lane => decide (700 ≤ mv ∧ mv ≤ 1400)
  | _ => true

/-- The ramp generator of a PLL: 0 PLL_SYS, 1 PLL_LANE (R97). -/
def State.ramp (s : State) (g : Fin 2) : RampGen := if g = 0 then s.clk.rampSys else s.clk.rampLane

/-- A number in thousandths to the nearest whole one. -/
def ofMilli (m : Int) : Int := (m + 500) / 1000

/-- Sets a ramp generator, with what CLK_RAMP, CLK_STAT and CLK_SYS_NOW show of it (R88, R91, R97). -/
def State.setRamp (s : State) (g : Fin 2) (r : RampGen) : State :=
  let s := { s with clk := if g = 0 then { s.clk with rampSys := r } else { s.clk with rampLane := r } }
  let s := s.wrS (Reg.CLK_RAMP_STAT_CUR_OFFSET g) (ofMilli r.milli)
  if g = 0 then (s.wrB Reg.CLK_STAT_RAMP_SYS r.running).wrS Reg.CLK_SYS_NOW_OFFSET_PPM (ofMilli r.milli)
  else s.wrB Reg.CLK_STAT_RAMP_LANE (r.running || s.clk.spread != .off)

/-- An unlock aborts a ramp; the offset stops where it stands (R73). -/
def State.stopRamp (s : State) (g : Fin 2) : State := s.setRamp g { s.ramp g with running := false }

/-- The PLL_SYS islands go to their safe clocks (R66, R68). -/
def State.toSafeClock (s : State) : State :=
  if s.flag Reg.CLK_STAT_SAFE_CLK then s else (s.wr Reg.CLK_STAT_SAFE_CLK 1).inc Reg.CLK_EVENTS_SAFE_SWITCH

/-- A step change of PLL_SYS begins at the boundary at which its APPLY takes effect (R66, R67). -/
def State.stepChange (s : State) : State :=
  let s := if s.clk.rampSys.running then (s.stopRamp 0).event Ev.RAMP_ABORT else s
  let s := (s.setLocked .sys false).toSafeClock
  { s with clk := { s.clk with stepRun := true } }

/-- The isolation link goes down: the HV die turns its gates off and latches HV_CLOCK_LOST (R69, R77, R391). -/
def State.hvLinkDown (s : State) : State :=
  let s := s.wr Reg.ID_SUPPLY_STAT_VGD_DV 0
  ({ s with drv := { s.drv with hvLink := false } }).latchTrip 0x0D50

/-- Every serial link loses lock (R69). -/
def State.linksLost (s : State) : State :=
  (List.range 50).foldl (fun t l => ((t.wr (Reg.LANE_STAT_CDR_LOCK l) 0).wr (Reg.LANE_STAT_BLOCK_LOCK l) 0).lockLost l) s

/-- What the declared loss of a PLL's lock brings about (R68, R69). -/
def State.pllLoss (s : State) : Pll → State
  | .sys =>
    let s := ((s.stopRamp 0).inc Reg.CLK_EVENTS_SYS_UNLOCK).toSafeClock
    ({ s with clk := { s.clk with lossRun := true, lossAt := s.timeOf 1 } }).raise Code.CLK_SYS_UNLOCK .f0
  | .lane =>
    let s := { s with clk := { s.clk with spread := .off } }
    let s := ((s.stopRamp 1).inc Reg.CLK_EVENTS_LANE_UNLOCK).raise Code.CLK_LANE_LOST .f3
    s.linksLost.hvLinkDown
  | .net => (((s.ethDown 0).ethDown 1).gridLoss).raise Code.CLK_NET_UNLOCK .f0
  | .hv => s.latchTrip 0x0D50

/-- A fresh generator at an offset. -/
def RampGen.at (milli : Int) : RampGen := { milli := milli }

/-- The spread's triangle starts from 0 ppm, or is told to end, as EN now says. -/
def State.spreadEnable (s : State) : State :=
  if s.flag Reg.CLK_LANE_SPREAD_EN ∧ s.clk.spread = .off then
    ({ s with clk := { s.clk with spread := .falling } }).setRamp 1 (RampGen.at 0)
  else s

/-- PLL_LOCK (R62). A PLL whose lock pin reads outside 0.70 V to 1.40 V is not declared locked. After a step change PLL_SYS runs at its
new target; on PLL_LANE an enabled spread starts anew. -/
def execPllLock (p : Pll) (pinMv : BitVec 16) (s : State) : Res :=
  onPower s (fun s =>
    let s := s.readPin p pinMv.toNat
    if !(pinLocks p pinMv.toNat) then s
    else
      let s := s.setLocked p true
      let s := if p = .sys then { s with clk := { s.clk with lockAt := s.timeOf 1 } } else s
      if p = .sys ∧ s.clk.stepRun then s.setRamp 0 { s.clk.rampSys with milli := s.rdS Reg.CLK_SYS_TARGET_OFFSET_PPM * 1000 }
      else if p = .lane then s.spreadEnable
      else s)

/-- The bit of LOST_SEEN of a PLL (R88). -/
def lostSeen (p : Pll) : Fld := ⟨0x01000000, 12 + p.index, 12 + p.index⟩

/-- PLL_UNLOCK (R63). During a step change PLL_SYS is not declared unlocked (R68). -/
def execPllUnlock (p : Pll) (pinMv : BitVec 16) (s : State) : Res :=
  onPower s (fun s =>
    let s := s.readPin p pinMv.toNat
    if !(s.pllLocked p.index) then s
    else
      let s := (s.setLocked p false).see (lostSeen p)
      s.pllLoss p)

/-- PLL_LOCK_TIMEOUT (R64). 10 ms after its step of the start a PLL has not locked. The start goes on; what R328 asks of SELFTEST then fails on the missing lock. -/
def execPllLockTimeout (lane : Bool) (s : State) : Res :=
  onPower s (fun s =>
    if s.running && !(s.passed s.power.startMono 10000000) then s
    else if lane then (if s.pllLocked 1 then s else s.event Ev.CLK_LANE_NO_LOCK)
    else if s.pllLocked 0 then s else s.event Ev.CLK_SYS_NO_LOCK)

/-- CLK_SYS_LOST (R68). 10 ms after the loss. -/
def execClkSysLost (s : State) : Res :=
  onPower s (fun s => if s.clk.lossRun && !(s.pllLocked 0) && (!s.running || s.passed s.clk.lossAt 10000000) then s.raise Code.CLK_SYS_LOST .f3 else s)

/-- SAFE_CLOCK_RETURN (R65, R66, R68). 64 µs after the lock. -/
def execSafeClockReturn (s : State) : Res :=
  onPower s (fun s =>
    if s.flag Reg.CLK_STAT_SAFE_CLK && s.pllLocked 0 && (!s.running || s.passed s.clk.lockAt 64000) then
      ({ s with clk := { s.clk with stepRun := false, lossRun := false } }).wr Reg.CLK_STAT_SAFE_CLK 0
    else s)

/-! ### The time bases (R80 to R83) -/

/-- All bases go on for a time on MONO while no stage runs: LANE_TIME at nominal, GRID_TIME at its last correction (R81, R83). -/
def State.timesOn (s : State) (mono : Nat) : State :=
  let (g, rest) := s.gridAdvance mono
  let s := { s with clk := { s.clk with gridRest := rest } }
  (((s.setTime 0 (s.timeOf 0 + g)).setTime 1 (s.timeOf 1 + mono)).setTime 2 (s.timeOf 2 + mono)).setTime 3 (s.timeOf 3 + mono)

/-- Sets HOLDOVER of every base (R70). -/
def State.holdBases (s : State) : State := [0, 1, 2, 3].foldl (fun t b => t.wr (Reg.TIME_BASE_HOLDOVER b) 1) s

/-- HOLDOVER of every base clears, but for GRID_TIME while its own state is HOLDOVER (R70, R535) or the device is in keep-alive (R83). -/
def State.releaseBases (s : State) : State :=
  let keep := s.power.region = .keepAlive ∨ s.rd Reg.TIME_GRID_STAT_STATE = 3
  [0, 1, 2, 3].foldl (fun t b => t.wrB (Reg.TIME_BASE_HOLDOVER b) (b == 0 && decide keep)) s

/-! ### XIN (R70) -/

/-- XIN_LOST (R70). In full operation the fault comes at the next stage boundary, and the islands stop four stages after it. -/
def execXinLost (s : State) : Res :=
  always s (fun s =>
    if s.power.region = .off ∨ s.clk.xinGone then s
    else
      let s := ((s.wr Reg.CLK_STAT_XIN_OK 0).wr Reg.CLK_STAT_HOLDOVER 1).inc Reg.CLK_EVENTS_XIN_LOST
      let s := ({ s with clk := { s.clk with xinGone := true } }).holdBases
      if s.running then ({ s with clk := { s.clk with xinStages := some 5 } }).raise Code.CLK_REF_LOST .f3 else s)

/-- The links, Ethernet ports and islands stop (R70). -/
def State.stopIslands (s : State) : State :=
  let s := (((s.linksLost).ethDown 0).ethDown 1).hvLinkDown
  { s with clk := { s.clk with stopped := true, xinStages := none } }

/-- XIN_RETURN (R70). -/
def execXinReturn (elapsed : Nat) (s : State) : Res :=
  always s (fun s =>
    if s.power.region = .off ∨ !s.clk.xinGone then s
    else
      let s := if s.clk.stopped then (s.timesOn elapsed).wr Reg.CLK_STAT_LOCKED 15 else s
      let s := { s with clk := { s.clk with xinGone := false, xinStages := none, stopped := false } }
      ((s.wr Reg.CLK_STAT_XIN_OK 1).wr Reg.CLK_STAT_HOLDOVER 0).releaseBases)

/-! ### Ramps (R72, R73, R97) -/

/-- The end offset of the segment in progress, in thousandths of 1 ppm. -/
def State.rampEnd (s : State) (g : Fin 2) : Int := s.rdS (Reg.CLK_RAMP_SEG_END_OFFSET g (s.rd (Reg.CLK_RAMP_STAT_CUR_SEG g))) * 1000

/-- The slope at which a ramp generator moves: the lesser of SLOPE and SLOPE_LIMIT, in steps of 0.1 ppm/µs. -/
def State.rampSlope (s : State) (g : Fin 2) : Nat :=
  min (s.rd (Reg.CLK_RAMP_SEG_SLOPE g (s.rd (Reg.CLK_RAMP_STAT_CUR_SEG g)))) (s.rd (Reg.CLK_RAMP_SLOPE_LIMIT g))

/-- What a ramp generator moves in a time of so many ns, in thousandths of 1 ppm. -/
def State.rampReach (s : State) (g : Fin 2) (ns : Nat) : Int := ((s.rampSlope g * ns / 10 : Nat) : Int)

/-- HOLD of the segment in progress, in ns. -/
def State.rampHold (s : State) (g : Fin 2) : Nat := s.rd (Reg.CLK_RAMP_SEG_HOLD g (s.rd (Reg.CLK_RAMP_STAT_CUR_SEG g))) * 1000

/-- The ns for which the offset still moves in the segment in progress; none where it never arrives. -/
def State.rampTravel (s : State) (g : Fin 2) : Option Nat :=
  let far := ((s.ramp g).milli - s.rampEnd g).natAbs
  if far = 0 then some 0
  else if s.rampSlope g = 0 then none
  else some ((far * 10 + s.rampSlope g - 1) / s.rampSlope g)

/-- The ns that the segment in progress still takes: its way to END_OFFSET, then what is left of its HOLD. -/
def State.rampNeeds (s : State) (g : Fin 2) : Option Nat :=
  (s.rampTravel g).map (fun t => t + (s.rampHold g - (s.ramp g).heldNs))

/-- A running profile's offset moves towards its segment's end, and is held there (R72). -/
def State.tickRamp (ns : Nat) (s : State) (g : Fin 2) : State :=
  let r := s.ramp g
  if !r.running then s
  else
    let ns := ns - r.spent
    let d := s.rampReach g ns
    let e := s.rampEnd g
    match s.rampTravel g with
    | some t =>
      if t ≤ ns then s.setRamp g { r with milli := e, heldNs := r.heldNs + (ns - t), spent := 0 }
      else s.setRamp g { r with milli := if r.milli < e then min e (r.milli + d) else max e (r.milli - d), spent := 0 }
    | none => s.setRamp g { r with spent := 0 }

/-- The action of a write of START (R72, R97). While the lane spread has the generator, it is refused. -/
def actRampStart (g : Fin 2) : Action := fun s =>
  if g = 1 ∧ s.clk.spread ≠ .off then s.no Status.STATE_REFUSED
  else ((s.wr (Reg.CLK_RAMP_STAT_CUR_SEG g) 0).setRamp g { s.ramp g with running := true, heldNs := 0, spent := 0 }).ok

/-- RAMP_START (R97). -/
def execRampStart (r : Req) (g : Fin 2) (s : State) : Res := execVerb s r Verb.SET 0 false (.rampStart r g) (actRampStart g)

/-- The action of a write of ABORT (R73, R97). Where the spread moves the offset of PLL_LANE, no profile runs: the write has no effect (log
entry 64). -/
def actRampAbort (g : Fin 2) : Action := fun s => (if (s.ramp g).running then s.stopRamp g else s).ok

/-- RAMP_ABORT (R73). -/
def execRampAbort (r : Req) (g : Fin 2) (s : State) : Res := execVerb s r Verb.SET 0 false (.rampAbort r g) (actRampAbort g)

/-- The segment in progress ends within the present stage: its end offset is reached and its HOLD over. -/
def State.segmentEnds (s : State) (g : Fin 2) : Bool :=
  match s.rampNeeds g with
  | some t => (s.ramp g).running && decide ((s.ramp g).spent + t ≤ s.tsNs)
  | none => false

/-- RAMP_SEGMENT_END (R72). The segment's end offset is reached and its hold is over; the next one moves in what is left of the stage. -/
def execRampSegmentEnd (g : Fin 2) (s : State) : Res :=
  onRun s (fun s =>
    if !(s.segmentEnds g) then s
    else
      let r := s.ramp g
      let r := { r with milli := s.rampEnd g, heldNs := 0, spent := r.spent + (s.rampNeeds g).getD 0 }
      let n := s.rd (Reg.CLK_RAMP_STAT_CUR_SEG g) + 1
      if n < s.rd (Reg.CLK_RAMP_SEG_COUNT g) then (s.wr (Reg.CLK_RAMP_STAT_CUR_SEG g) n).setRamp g r
      else if s.flag (Reg.CLK_RAMP_REPEAT g) then (s.wr (Reg.CLK_RAMP_STAT_CUR_SEG g) 0).setRamp g r
      else s.setRamp g { r with running := false })

/-! ### The lane spread (R74) -/

/-- How far along its triangle the spread is after a further time of so many ns: from 0 ppm down, DEPTH being half of the way, and up again. -/
def State.spreadWay (s : State) (ns : Nat) : Int :=
  let m := s.clk.rampLane.milli
  (if s.clk.spread = .falling then -m else 2 * (s.rd Reg.CLK_LANE_SPREAD_DEPTH * 1000 : Nat) + m)
    + (2 * s.rd Reg.CLK_LANE_SPREAD_DEPTH * s.rd Reg.CLK_LANE_SPREAD_FMOD * ns / 10000 : Nat)

/-- The triangle goes on for a time of so many ns. With EN cleared it goes down to its lowest point and back to 0 ppm, and stays there. A commit
of DEPTH or FMOD while it runs acts at once, so that the offset may jump (log entry 64). -/
def State.tickSpread (s : State) (ns : Nat) : State :=
  if s.clk.spread = .off then s
  else
    let en := s.flag Reg.CLK_LANE_SPREAD_EN
    let d : Int := s.rd Reg.CLK_LANE_SPREAD_DEPTH * 1000
    let x := s.spreadWay ns
    let x := if en then x % (2 * d) else min x (2 * d)
    let s := { s with clk := { s.clk with spread := if x < d then .falling else if en then .rising else .returning } }
    s.setRamp 1 (RampGen.at (if x ≤ d then -x else x - 2 * d))

/-- The triangle has been told to end, and is back at 0 ppm within the present stage. -/
def State.spreadEnds (s : State) : Bool :=
  s.clk.spread != .off && !(s.flag Reg.CLK_LANE_SPREAD_EN) && decide (2 * (s.rd Reg.CLK_LANE_SPREAD_DEPTH * 1000 : Nat) ≤ s.spreadWay s.tsNs)

/-- LANE_SPREAD_END (R74). -/
def execLaneSpreadEnd (s : State) : Res :=
  onRun s (fun s => if s.spreadEnds then ({ s with clk := { s.clk with spread := .off } }).setRamp 1 (RampGen.at 0) else s)

/-! ### The lane reference (R75) and the lock pins (R89) -/

/-- PLL_LANE ramps back to its own frequency at SLOPE_LIMIT. -/
def State.tickLaneBack (ns : Nat) (s : State) : State :=
  let reach : Int := (s.rd (Reg.CLK_RAMP_SLOPE_LIMIT 1) * ns / 10 : Nat)
  { s with clk := { s.clk with laneBack := s.clk.laneBack.map (fun m => if m < 0 then min 0 (m + reach) else max 0 (m - reach)) } }

/-- LANE_REF_RETURN_DONE (R75). The frequency reaches its own within the present stage. -/
def execLaneRefReturnDone (s : State) : Res :=
  onRun s (fun s =>
    if s.rd Reg.CLK_LANE_REF_SOURCE = 3 ∧ ((s.tickLaneBack s.tsNs).clk.laneBack.getD 0) = 0 then
      ({ s with clk := { s.clk with laneBack := none } }).wr Reg.CLK_LANE_REF_SOURCE 0
    else s)

/-- The lock pins' voltages as last updated. -/
def State.readPins (s : State) (b : BoundaryIn) : State := (s.readPin .sys b.lkfSys.toNat).readPin .lane b.lkfLane.toNat

end Sys2Proof.Machine
end

