-- ==== Sys2Proof/Machine/Commit.lean ====
section
/-! DEFINITION. What follows from a change of the configuration: the derived fields of the route table (R184 to R187), the changed routes and
what goes with the cells of an index (R192, R602), and what a commit of the other objects does (R66, R76, R127, R151, R297, R379,
R431, R437, R540, R545, R553, R557). -/

namespace Sys2Proof.Machine

open Sys2Proof

/-! ### The derived fields of the route table -/

/-- Where an index lies among routes with the given counts: its route and hop (R187). -/
def placeIn : Nat → List Nat → Nat → Option (Nat × Nat)
  | _, [], _ => none
  | n, k :: t, c => if c < k then some (n, c) else placeIn (n + 1) t (c - k)

/-- The route and hop of an index (R187). -/
def State.hopPlace (s : State) (c : Nat) : Option (Nat × Nat) := placeIn 0 s.cellCounts c

/-- FITTED, ROUTE and HOP of an index. -/
def State.showPlace (s : State) (c : Nat) : State :=
  match s.hopPlace c with
  | some (n, h) => ((s.wr (Reg.CELL_ID_FITTED c) 1).wr (Reg.CELL_ID_ROUTE c) n).wr (Reg.CELL_ID_HOP c) h
  | none => ((s.wr (Reg.CELL_ID_FITTED c) 0).wr (Reg.CELL_ID_ROUTE c) 0).wr (Reg.CELL_ID_HOP c) 0

/-- FIRST_INDEX of a route: the cells of the routes before it. -/
def State.showFirst (s : State) (n : Nat) : State := s.wr (Reg.ROUTE_CFG_FIRST_INDEX n) ((s.cellCounts.take n).foldl (· + ·) 0)

/-- POSITIONS, ACTIVE and SPARE of an arm. -/
def State.showPositions (s : State) (a : Nat) : State :=
  let cells := (List.range s.cellTotal).filter (fun c => s.rd (Reg.CELL_ID_ARM c) == a)
  let spare := (cells.filter (fun c => s.flag (Reg.CELL_ID_ROLE c))).length
  ((s.wr (Reg.ARM_CFG_POSITIONS a) cells.length).wr (Reg.ARM_CFG_ACTIVE a) (cells.length - spare)).wr (Reg.ARM_CFG_SPARE a) spare

/-- The fields that the device derives from the active route table. -/
def State.deriveTable (s : State) : State :=
  let s := s.wr Reg.ROUTE_TABLE_TOTAL_CELLS s.cellTotal
  let s := (List.range 24).foldl State.showFirst s
  let s := (List.range 24).foldl State.showPositions s
  (List.range 512).foldl State.showPlace s

/-! ### Changed routes (R192, R602) -/

/-- The words of CELL_ID of an index that the host sets. -/
def cellIdWords (c : Nat) : List Nat := [cellIdAddr c, cellIdAddr c + 4, cellIdAddr c + 8]

/-- A commit from the table of `s` to that of `t` has changed a route. -/
def State.routeChanged (s t : State) (n : Nat) : Bool :=
  s.changed t (Reg.ROUTE_CFG_EN n) || s.changed t (Reg.ROUTE_CFG_CELL_COUNT n)
    || s.changed t (Reg.ROUTE_CFG_FIRST_INDEX n)
    || (List.range (t.cellsOn n)).any (fun h => (cellIdWords (t.firstOf n + h)).any (fun w => s.word w != t.word w))

/-- The words of an index in the cell table from CELL_LINK to CELL_PARCEL, and in MOD_CELL. -/
def indexWords (c : Nat) : List Nat :=
  ((List.range 40).map (fun k => cellIdAddr c + 0x10 + 4 * k)) ++ ((List.range 4).map (fun k => 0x06004000 + 0x10 * c + 4 * k))

/-- Every part of an index's state at its reset values. -/
def State.resetIndex (s : State) (c : Nat) : State :=
  ((indexWords c).foldl (fun t w => t.setWord w (resetWord w)) s).setCell c {}

/-- What moves with a cell's serial from index `j` of the state before to index `c`: FAULTED with its cause, the counts of CELL_SVC, CELL_THERM
and CELL_CAP. -/
def State.moveIndex (old : State) (j c : Nat) (s : State) : State :=
  let s := ((List.range 8).map (fun k => 0x80 + 4 * k)).foldl (fun t o => t.setWord (cellIdAddr c + o) (old.word (cellIdAddr j + o))) s
  let s := s.setWord (cellIdAddr c + 0x48) (old.word (cellIdAddr j + 0x48))
  let r := old.cell j
  let s := s.setCell c { therm := r.therm, capN := r.capN, capQ := r.capQ, capU0 := r.capU0, capBad := r.capBad, capB := r.capB, capSumQU := r.capSumQU,
                         capSumUU := r.capSumUU, capLowW := r.capLowW, capLowS := r.capLowS, capRank := r.capRank }
  if old.svc j = Svc.FAULTED then
    (s.wr (Reg.CELL_SVC_STATE c) Svc.FAULTED).wr (Reg.CELL_SVC_CAUSE c) (old.rd (Reg.CELL_SVC_CAUSE j))
  else s.wr (Reg.CELL_SVC_STATE c) Svc.ABSENT

/-- An index at a commit: kept on a route that the commit does not change; elsewhere reset, with what moves with its serial. -/
def State.commitIndex (old : State) (routes : List Nat) (s : State) (c : Nat) : State :=
  match s.hopPlace c with
  | none => if old.flag (Reg.CELL_ID_FITTED c) then s.resetIndex c else s
  | some (n, _) =>
    if !(routes.contains n) then s
    else
      let s := s.resetIndex c
      match old.fitted.find? (fun j => old.serialOf j == s.serialOf c) with
      | some j => old.moveIndex j c s
      | none => s.wr (Reg.CELL_SVC_STATE c) Svc.ABSENT

/-- A route that a commit has changed, or every route where PAIRED has: it trains anew, or it is no longer enabled. What ROUTE_STAT and ROUTE_RUN count
since the restart stays (R206, R247). -/
def State.restartRoute (s : State) (n : Nat) : State :=
  if s.routeOn n then s.startQuiet n
  else
    let s := ((s.setRoute n {}).noReach n).wr (Reg.ROUTE_RUN_RELAY n) 0
    let s := s.setWord (0x04000400 + 16 * n) 0
    [false, true].foldl (fun t ret => t.powerDown (linkOf n ret)) s

/-- What the commit of a route table does; `old` is the state before. -/
def State.commitTable (old s : State) : State :=
  let s := s.deriveTable
  let routes := (List.range 24).filter (State.routeChanged old s)
  let s := (List.range 512).foldl (State.commitIndex old routes) s
  let pairing := old.changed s Reg.ROUTE_TABLE_PAIRED
  let s := if pairing then s.usePair else s
  let s := (if pairing then List.range 24 else routes).foldl State.restartRoute s
  ((List.range 24).foldl (fun t a => t.rankArm a (t.rankedNow a)) s).endTrainTest

/-! ### The other objects -/

/-- A slot whose inputs or derivative a commit has changed starts its derivative anew (R297). -/
def State.commitSlot (old s : State) (n : Nat) : State :=
  let moved := old.changed s (Reg.LOOP_SLOT_CFG_PV_SRC n) || old.changed s (Reg.LOOP_SLOT_CFG_SP_SRC n)
    || old.changed s (Reg.LOOP_SLOT_CFG_D_ON_MEAS n)
  if moved && old.flag (Reg.LOOP_SLOT_CFG_EN n) && s.flag (Reg.LOOP_SLOT_CFG_EN n) then
    (s.setSlotRun n { s.slotRun n with dNew := true }).wr (Reg.LOOP_SLOT_STATE_FREEZE_CNT n) 0
  else s

/-- Every leg's dither sequence starts at position 0 (R76). -/
def LegRun.restart (l : LegRun) : LegRun := { l with onPos := 0, offPos := 0 }
def State.restartDither (s : State) : State :=
  let cells := s.cells.foldl (fun t p => t.setCell p.1 { p.2 with legs := p.2.legs.map LegRun.restart }) s
  { cells with mod := { s.mod with drv := s.mod.drv.map LegRun.restart } }

/-- The clocks' objects (R66, R74, R76). -/
def State.commitClock (old s : State) : State :=
  let s := if old.changed s Reg.CLK_SYS_TARGET_OFFSET_PPM then s.stepChange else s
  let s := if old.changed s Reg.CLK_DITHER_SEED_SEED then s.restartDither else s
  s.spreadEnable

/-- The memory's object (R127). -/
def State.commitMarch (old s : State) : State :=
  if old.changed s Reg.MEM_MARCH_CTRL_BG_EN then s.showMarch.event Ev.MARCH_BG_CHANGE else s

/-- Whether a word of a range differs between two states. -/
def State.wordsDiffer (s t : State) (a n : Nat) : Bool := (List.range n).any (fun k => s.word (a + 4 * k) != t.word (a + 4 * k))

/-- The drive levels: INIT_LVL on channel 6 always, and on every channel without adaptation (R379). -/
def State.commitLevels (s : State) : State :=
  let on := s.flag Reg.DRV_CFG_ADAPT_EN
  (List.range 7).foldl (fun t ch => if on && ch != 6 then t else t.wr (Reg.DRV_CHAN_LEVEL ch) (t.rd (Reg.DRV_GATE_INIT_LVL ch))) s

/-- The converters' itineraries and the filters (R431, R437). -/
def State.commitMeas (old s : State) : State :=
  let adc (t : State) (x : Fin 4) : State :=
    if old.word (0x0A000000 + 0x10 * x) != t.word (0x0A000000 + 0x10 * x) || old.wordsDiffer t (0x0A010000 + 0x200 * x) 128 then t.restartAdc x else t
  let s := ([0, 1, 2, 3] : List (Fin 4)).foldl adc s
  let sd (t : State) (p : Fin 4 × Fld) : State := if old.changed t p.2 then t.setSettle p.1 3 else t
  ([(0, Reg.MEAS_SD_CFG_OSR0), (1, Reg.MEAS_SD_CFG_OSR1), (2, Reg.MEAS_SD_CFG_OSR2), (3, Reg.MEAS_SD_CFG_OSR3)] : List (Fin 4 × Fld)).foldl sd s

/-- The networks' objects (R151, R540, R545, R553, R557). -/
def State.commitNet (old s : State) : State :=
  let ports : List (Fin 2) := [0, 1]
  let eth (t : State) (p : Fin 2) : State := if old.word (0x0D000000 + 0x40 * p) != t.word (0x0D000000 + 0x40 * p) then t.ethDown p else t
  let s := ports.foldl eth s
  let s := if old.wordsDiffer s 0x0D100000 3 then s.restartPtp else s
  let can (t : State) (c : Fin 2) : State :=
    let t := t.showCanPath c
    let t := if old.wordsDiffer t (0x0D200000 + 0x10000 * c) 5 then t.restartCan c else t
    t.assignRings old c
  let s := ports.foldl can s
  let tel (t : State) (i : Fin 4) : State := if old.wordsDiffer t (0x0D000400 + 0x20 * i) 5 then t.setTel i {} else t
  ([0, 1, 2, 3] : List (Fin 4)).foldl tel s

/-- A commit has changed an object of the route table. -/
def State.tableDiffers (old s : State) : Bool :=
  old.changed s Reg.ROUTE_TABLE_PAIRED
    || (List.range 24).any (fun n => old.changed s (Reg.ROUTE_CFG_EN n) || old.changed s (Reg.ROUTE_CFG_CELL_COUNT n))
    || old.wordsDiffer s 0x04000800 48
    || (List.range 512).any (fun c => (cellIdWords c).any (fun w => old.word w != s.word w))

/-- What follows at the commit boundary; `old` is the state before the commit. The HV die takes the new values with the isolation link up (log
entry 62). -/
def State.commitEffects (old s : State) : State :=
  let s := if old.tableDiffers s then old.commitTable s else s
  let s := (old.commitMarch (old.commitClock s))
  let s := if old.wordsDiffer s 0x06000000 2 || old.changed s Reg.CLK_STAGE_PERIOD_TS then (List.range 24).foldl (fun t a => t.rankArm a (t.rankedNow a)) s else s
  let s := (List.range 2048).foldl (State.commitSlot old) s
  ((old.commitNet (old.commitMeas s.commitLevels)).writeHv).showDirty

/-- The sessions of paths that the configuration has disabled close (R180). -/
def State.closePaths (s : State) : State :=
  ([0, 1, 2, 3] : List (Fin 4)).foldl (fun t i => if t.isOpen i && !(t.pathOn (t.sess i).src.path) then t.closeSess i else t) s

end Sys2Proof.Machine
end

