-- ==== Sys2Proof/Machine/Power.lean ====
section
/-! DEFINITION. Supplies, regions and restarts (R32 to R56, R117, R390, R590 to R592, R601): the steps of a start, the sequences that end in
keep-alive or in reset, and the events of the supplies and pads. -/

namespace Sys2Proof.Machine

open Sys2Proof

/-! ### What a restart keeps -/

/-- The causes of a restart, as their bits of ID_RESET_CAUSE (R52). -/
inductive Cause where
  | por | keepalive | pin | thermal | watchdog | firmware | supplyOv
  deriving DecidableEq, Repr

def Cause.bit : Cause → Nat
  | .por => 0 | .keepalive => 1 | .pin => 2 | .thermal => 3 | .watchdog => 4 | .firmware => 5 | .supplyOv => 6

/-- An address lies in [a, b). -/
def within (x a b : Nat) : Bool := decide (a ≤ x ∧ x < b)

/-- The words that every start keeps: the safety die's, ID_BOOT_COUNT, and the supplies' and the banks' state (R51, R53, R54, R135). -/
def keptCold (a : Nat) : Bool := within a 0x0C000000 0x0D000000 || a == 0x404 || a == 0x408 || a == 0x414

/-- The words that a start without step 4 keeps besides: counts and records retained through keep-alive, the time bases, and what describes
the memory (R56, R80, R96, R102, R117, R118, R138, R139, R143, R145, R369, R448, R453, R483, R489, R576, R600). What the spec does not say of
its retention, TIME_GRID_STAT and FAULT_SEEN among it, is the model's choice (log entry 39). -/
def keptWarm (a : Nat) : Bool :=
  keptCold a || a == 0x410 || within a 0x428 0x430 || a == 0x01000020 || within a 0x01002000 0x01002040 || a == 0x01002104
    || within a 0x02000000 0x0200000C || a == 0x02000020 || within a 0x02000030 0x0200003C || within a 0x02000100 0x02000140
    || (within a 0x05000000 0x05020000 && within (a % 256) 0x90 0xA0) || within a 0x0B000020 0x0B000034 || within a 0x0B000100 0x0B000200
    || within a 0x0B001030 0x0B001044 || within a 0x0E000000 0x0E00000C || within a 0x0F000000 0x0F000010

/-- What the flash holds after a write that a loss of power or a restart has cut short (R128, R132): the older record is invalid; a life-cycle
change has or has not been made, and so has a commit of the safety parameters (R515). -/
def State.cutWrite (t : State) (b : BusyCmd) : State :=
  match b.op with
  | .saveConfig words => { t with flash := t.flash.writeOlder ⟨0, false, words⟩ }
  | .lifecycle target key tampered =>
    let (w, t) := t.takeFree
    if w.getLsbD 0 then
      let u := t.lcInstall target key tampered
      { t with flash := u.flash, power := u.power }
    else t
  | .safeCommit ws =>
    let (w, t) := t.takeFree
    if w.getLsbD 0 then t.commitSafe ws else t
  | _ => t

/-- That of every write in progress. -/
def State.cutWrites (s : State) : State :=
  ([0, 1, 2, 3] : List (Fin 4)).foldl (fun t i =>
    (s.sess i).ops.foldl State.cutWrite t) s

/-- What of the HV die stands through a restart of the controller (R38, R389, R390). -/
def DriveRun.hvPart (d : DriveRun) : DriveRun :=
  { sto := d.sto, hvRegs := d.hvRegs, swLow := d.swLow, hb := d.hb, oc := d.oc, ov := d.ov, ds6 := d.ds6, brake := d.brake, brakeCut := d.brakeCut }

/-- The faults and the journal after a start without step 4: a notice of TAMPER still stands to be raised (R33, R121). -/
def Faults.warm (f : Faults) : Faults :=
  { pending := f.pending.filter (fun r => r.code == Code.TAMPER), queue := f.queue, nextNum := f.nextNum, written := f.written, lbAny := f.lbAny,
    f3Times := f.f3Times, trigStage := f.trigStage }

/-- The thermal monitor after a restart; it has stopped in keep-alive (R566, R567). -/
def Thermal.warm (t : Thermal) (stopped : Bool) : Thermal :=
  if stopped then {} else { die := t.die, hv := t.hv, fHv := t.fHv, far := t.far, fast := t.fast, hvShut := t.hvShut, stepAt := t.stepAt }

/-- What of the cells stands through a start without step 4: the windows that count towards the flags of CELL_CAP (R355, R369). -/
def State.cellsWarm (s : State) : List (Nat × CellRun) :=
  s.cells.filterMap (fun p =>
    if p.2.capLowW = 0 ∧ p.2.capLowS = 0 then none else some (p.1, { capLowW := p.2.capLowW, capLowS := p.2.capLowS }))

/-- No capture is being copied any more (R145). -/
def State.stopCopies (s : State) : State := ([0, 1, 2, 3] : List Nat).foldl (fun t i => t.wr (Reg.MEM_SNAP_COPYING i) 0) s

/-- The state as a start finds it, with everything else at its reset values (R11, R45). -/
def State.fresh (s : State) (cold : Bool) : State :=
  let s := s.cutWrites.stopCopies
  let keep (p : Nat × Word) : Bool := if cold then keptCold p.1 else keptWarm p.1
  let p := s.power
  { regs := s.regs.filter keep, mem := if cold then [] else s.mem, flash := s.flash, isl := s.isl, out := s.out, free := s.free, pending := s.pending,
    power := { region := .full, nextCold := false, gateShut := p.gateShut, fillDue := p.fillDue, markDue := p.markDue },
    clk := if cold then { xinGone := s.clk.xinGone } else { xinGone := s.clk.xinGone, gridRate := s.clk.gridRate, gridRest := s.clk.gridRest },
    flt := if cold then { pending := s.flt.warm.pending } else s.flt.warm, drv := s.drv.hvPart, therm := s.therm.warm (cold || p.region == .keepAlive),
    cells := if cold then [] else s.cellsWarm }

/-! ### The steps of a start (R44) -/

/-- The die throttle's divider of the CORE clock by step (R568). -/
def coreDiv (step : Nat) : Nat := min step 3

/-- Step 3: PLL_SYS, and the islands' safe clocks without it (R64, R65). A restart is no switch that SAFE_SWITCH counts (R96; log entry 64). -/
def State.stepClocks (i : StartIn) (s : State) : State :=
  let s := ((s.setLocked .sys i.sysLock).wrB Reg.CLK_STAT_SAFE_CLK (!i.sysLock)).wrB Reg.CLK_STAT_XIN_OK (!s.clk.xinGone)
  (s.wrB Reg.CLK_STAT_HOLDOVER s.clk.xinGone).wr Reg.CLK_SYS_NOW_CORE_DIV (coreDiv (s.rd Reg.THERM_STAT_STEP))

/-- Step 4: the destructive March C− (R122, R123). -/
def State.stepMarch (i : StartIn) (s : State) : State :=
  let s := (s.wr Reg.MEM_STAT_SPARE_ROWS_USED i.spareRows).wrB Reg.MEM_STAT_BANK_FAIL i.bankFail
  let s := { s with mem := [], power := { s.power with fillDue := false, gateShut := false } }
  if i.bankFail then s.event Ev.MEM_BANK_FAIL else s

/-- A TRIAL slot that has had its three starts, or whose last run the watchdog has ended, is rejected (R590). -/
def Flash.dropTrial (watchdog : Bool) (f : Flash) (b : Bool) : Flash :=
  let x := f.img b
  if x.state = 2 ∧ (3 ≤ x.trials ∨ (watchdog ∧ f.bootB = b ∧ 0 < x.trials)) then f.setImg b { x with state := 4 } else f

/-- Tries one candidate slot: the flash after it, and whether it starts (R590, R591). -/
def Flash.tryImage (verifies : Bool) (f : Flash) (b : Bool) : Flash × Bool :=
  let x := f.img b
  if !verifies then (f.setImg b { x with state := 4 }, false)
  else if x.rollback < f.rollbackMin then (f, false)
  else if x.state = 2 then ({ (f.setImg b { x with trials := x.trials + 1 }) with bootB := b }, true)
  else ({ f with bootB := b }, true)

/-- Tries candidates in order. -/
def Flash.tryImages (verifies : Bool → Bool) : Flash → List Bool → Flash × Bool
  | f, [] => (f, false)
  | f, b :: t =>
    match f.tryImage (verifies b) b with
    | (f', true) => (f', true)
    | (f', false) => Flash.tryImages verifies f' t

/-- The candidates of step 5: TRIAL slots, then CONFIRMED ones, the last confirmed first (R590). -/
def Flash.candidates (f : Flash) : List Bool :=
  [false, true].filter (fun b => (f.img b).state == 2) ++ [f.lastB, !f.lastB].filter (fun b => (f.img b).state == 3)

/-- Step 5: the straps, and the image (R43, R590, R592). -/
def State.stepImage (i : StartIn) (watchdog : Bool) (s : State) : State :=
  let role := if i.role0 = i.role1 then 0 else if i.role1 then 1 else 2
  let s := ((s.wr Reg.ID_STRAP_ROLE role).wrB Reg.ID_STRAP_ROLE00_PAD i.role0).wrB Reg.ID_STRAP_ROLE01_PAD i.role1
  let s := { s with power := { s.power with role0 := i.role0, role1 := i.role1 } }
  let f := [false, true].foldl (Flash.dropTrial watchdog) s.flash
  let (f, found) := Flash.tryImages (fun b => if b then i.imageB else i.imageA) f f.candidates
  let s := ({ s with flash := f }).wrB Reg.CMD_MON_STAT_RECOVERY (!found)
  let s := s.showFw.event Ev.RESTART 0 (beBytes 1 (if f.bootB then 1 else 0))
  if role = 0 then s.event Ev.ROLE_STRAP_INVALID else s

/-- The identity of the module, and the addresses of its ports (R134, R553). -/
def State.stepIdentity (s : State) : State :=
  let s := [0, 4, 8, 12].foldl (fun t a => t.setWord a (Config.identity a)) s
  let s := (s.wr (Fld.mk 0 31 16) 0x5120).setWord 4 (s.word 4 &&& 0xFF)
  [0, 1].foldl (fun t p => (t.wr (Reg.ETH_CFG_MAC_HI p) (Config.macAddress p / 2 ^ 32)).wr (Reg.ETH_CFG_MAC_LO p) (Config.macAddress p)) s

/-- The factory's coefficients: ADC0 to ADC4 for each gain, and modulators 0 to 3 (R445). -/
def State.stepFactory (s : State) : State :=
  let ws : List (Nat × Nat) := (List.range 20).map (fun n => (n / 4, n % 4)) ++ [(5, 0), (6, 0), (7, 0), (8, 0)]
  ws.foldl (fun t p => t.setWord (0x0A000300 + 0x20 * p.1 + 4 * p.2) (Config.factoryCal p.1 p.2)) s

/-- The life cycle as the flash records it; the copy of the secure region is loaded unless it has been invalidated (R120, R136). -/
def State.stepLifecycle (s : State) : State :=
  let s := if s.power.markDue then { s with flash := { s.flash with copyValid := false }, power := { s.power with markDue := false } } else s
  let s := if s.power.fillDue then s.fillSecure else s
  let s := (s.wr Reg.LC_STATE_STATE s.flash.lcState).wr Reg.LC_STATE_CHANGE_COUNT s.flash.changeCount
  (s.wrB Reg.LC_STATE_SECRETS_PRESENT s.flash.copyValid).newChallenge

/-- A slot of the logbook that has not been recorded; its records stay (R117). -/
def State.markSlot (s : State) (n : Nat) : State :=
  let a := indexAddr n + 12
  s.store a [BitVec.ofNat 8 ((s.byte a).toNat % 64 + 192)]

/-- The logbook at step 6: a recording after a trigger is closed, its missing slots marked (R117). -/
def State.stepLogbook (s : State) : State :=
  if !(s.flag Reg.MEM_LOGBOOK_STAT_POST_RUNNING) then s
  else
    let first := s.nextSlot
    let last := s.rd Reg.MEM_LOGBOOK_STAT_TRIGGER_SLOT + 4095
    let count := (last + 1 + 8192 - first) % 8192
    let s := (List.range count).foldl (fun t k => t.markSlot ((first + k) % 8192)) s
    let s := (s.wr Reg.MEM_LOGBOOK_STAT_POST_RUNNING 0).wr Reg.MEM_LOGBOOK_STAT_FROZEN 1
    (s.wr Reg.MEM_LOGBOOK_STAT_POST_COUNT 4095).event Ev.LOGBOOK_FROZEN

/-- Step 6: the configuration and what the objects derive from it, the logbook, and a new preserving pass (R117, R127, R128). -/
def State.stepConfig (s : State) : State :=
  let s := match s.flash.newest with
    | some c => let t := s.loadWords c.words; { t with pol := { t.pol with configOk := true } }
    | none => s.event Ev.CONFIG_INVALID
  let s := s.stepLifecycle.stepLogbook.deriveTable
  let s := s.fitted.foldl (fun t c => t.wr (Reg.CELL_SVC_STATE c) Svc.ABSENT) s
  let blank := s
  let s := ([0, 1] : List (Fin 2)).foldl (fun t c => (t.showCanPath c).assignRings blank c) s
  let s := ([0, 1] : List (Fin 2)).foldl (fun t c => t.wr (Reg.CAN_STAT_ERR_STATE c) (if t.canMode c = 0 then 3 else 0)) s
  let s := s.initLevels.showMarch.showDirty
  s.setRamp 0 (RampGen.at (s.rdS Reg.CLK_SYS_TARGET_OFFSET_PPM * 1000))

/-- The time bases at a start: they have gone on, or begin at 0 (R80 to R83, R101); the part of GRID_TIME's discipline is lost (R535). -/
def State.stepTimes (cold : Bool) (elapsed : Nat) (s : State) : State :=
  let s := if cold then s else s.timesOn elapsed
  let s := (s.wr (Reg.TIME_BASE_SYNCED 1) 1).wr (Reg.TIME_BASE_SYNCED 2) 1
  let s := (if cold then s else s.gridLoss).wr (Reg.TIME_BASE_SYNCED 3) 0
  let s := if s.clk.xinGone then s.holdBases else s.releaseBases
  { s with power := { s.power with startMono := s.timeOf 1 } }

/-- Step 7: the other PLLs, the isolation link where VGD is present, the first stage, and the training of every enabled route (R44, R78,
R198). -/
def State.stepLinks (i : StartIn) (s : State) : State :=
  let s := ((s.setLocked .lane i.laneLock).setLocked .net i.netLock).setLocked .hv i.hvLock
  let up := s.flag Reg.ID_SUPPLY_STAT_VGD_OK && i.hvLock
  let s := ({ s with drv := { s.drv with hvLink := up } }).writeHv
  let s := if up then s else s.wr Reg.ID_SUPPLY_STAT_VGD_DV 0
  let s := (s.setStage 0).stampStage.spreadEnable
  (s.routes.foldl State.startQuiet s).usePair

/-- The station and the pair at step 8 (R48, R325, R448, R460). -/
def State.stepStation (trips : Option Nat) (s : State) : State :=
  let s := if s.paired then s else { s with duo := { s.duo with role := 0, own := s.ilkBank } }
  let s := s.showFaults.showPair_
  match trips with
  | some code => s.enter St.TRIPPED code
  | none => if s.flag Reg.POL_CFG_AUTO_STANDBY ∧ s.lc ≠ 4 then s.goTo St.SELFTEST 0 else s

/-- The F3 fault that the station is TRIPPED by at step 8, if it is: after keep-alive, after a thermal shutdown, or while one is latched. -/
def State.startTrip (s : State) (cause : Cause) (early : Bool) : Option Nat :=
  let own := match cause with
    | .keepalive => some Code.SUPPLY_BROWNOUT
    | .supplyOv => some Code.SUPPLY_OV
    | .thermal => some Code.DIE_OVERTEMP
    | _ => none
  if early && (cause == .keepalive || cause == .supplyOv) then none
  else if s.anyF3 then
    match own with
    | some c => if s.f3Latched c then some c else some (s.rd (Reg.FLT_LATCH_CODE 0))
    | none => some (s.rd (Reg.FLT_LATCH_CODE 0))
  else own

/-- A start of the controller (R44, R45), from its first step to step 8. -/
def State.restart (s : State) (cause : Cause) (i : StartIn) : State :=
  let cold := cause == .por
  let early := s.power.early
  let t := s.fresh cold
  let t := if cold then ((t.setWord 0x404 (t.word 0x404 &&& 0xFFFFFFF9)).setWord 0x408 (t.word 0x408 &&& 0xFFFF3333)).setWord 0x02000020
      (s.word 0x02000020 &&& 3) else t
  let t := ((t.setWord 0x400 ((1 : Word) <<< cause.bit)).inc Reg.ID_BOOT_COUNT_COUNT).stepTimes cold i.elapsed
  let t := if !cold && s.power.region == .keepAlive then (t.setWord 0x0E000000 0).setWord 0x0E000004 0 else t
  let t := t.stepClocks i
  let t := if cold then t.stepMarch i else t
  let t := (((t.stepImage i (cause == .watchdog)).stepIdentity).stepFactory.stepConfig).stepLinks i
  let t := t.stepStation (t.startTrip cause early)
  let t := if t.locked then t.goTo St.LOCKED_OUT Code.SAFE_LOCKOUT else t
  { t with atB := t.regs }

/-! ### The regions (R32, R44, R47) -/

/-- VIN_RISE_KEEPALIVE (R32). -/
def execVinRiseKeepalive (s : State) : Res :=
  always s (fun s =>
    if s.power.region ≠ .off then s
    else ({ s with power := { s.power with region := .keepAlive, nextCold := true } }).wr Reg.CLK_STAT_XIN_OK 1)

/-- A start is possible: VIO03 is classified, and no thermal shutdown is waiting for the temperature (R44, R569). -/
def State.mayStart (s : State) : Bool :=
  s.power.region == .keepAlive && s.power.stopping.isNone && s.ilkBank && !s.therm.shut

/-- COLD_START (R44). -/
def execColdStart (i : StartIn) (s : State) : Res :=
  always s (fun s => if s.mayStart && s.power.nextCold then s.restart .por i else s)

/-- KEEPALIVE_RETURN (R47, R48, R52). -/
def execKeepaliveReturn (i : StartIn) (s : State) : Res :=
  always s (fun s =>
    if s.mayStart && !s.power.nextCold then s.restart (if s.power.ovLast then .supplyOv else .keepalive) i else s)

/-- Everything at the reset values but the flash, what the HV die holds from VGD, and what the safety die keeps in its own store; a marker
over the flash copy of the secure region may or may not have been written (R32, R120). -/
def State.vinOff (s : State) : State :=
  let s := s.cutWrites.islandOff
  let (w, s) := if s.power.markDue then s.takeFree else (0, s)
  let f := if s.power.markDue && w.getLsbD 0 then { s.flash with copyValid := false } else s.flash
  let vgd := s.word 0x404 &&& 0x8
  let t : State := { regs := s.regs.filter (fun p => within p.1 0x0C000000 0x0D000000), flash := f, isl := s.isl, out := s.out, free := s.free,
                     pending := s.pending, drv := { s.drv.hvPart with sto := true } }
  t.setWord 0x404 (resetWord 0x404 ||| vgd)

/-- VIN_OFF (R32). -/
def execVinOff (s : State) : Res := always s (fun s => if s.power.region = .off then s else s.vinOff)

/-! ### Brown-out, over-voltage and RST_N (R46, R47, R50, R601) -/

/-- The threshold crossed during a start, before its step 7 (R601): `k` is the step. A cold start whose step 4 has ended has cleared the memory. -/
def State.cutStart (s : State) (k : Nat) : State :=
  let done := s.power.nextCold && decide (4 < k)
  let t := if done then
      let t := s.fresh true
      { t with power := { s.power with nextCold := false, fillDue := false, gateShut := false } }
    else s
  { (t.inc Reg.ID_BOOT_COUNT_COUNT) with power := { t.power with early := true } }

/-- A sequence of R46 starts. During steps 1 to 6 of a start that a watchdog or a firmware restart has begun, nothing runs on (R601). Where
the die is held in reset or its islands are stopped, no stage boundary is left to raise the F3 fault: none is raised or latched, and the station
is TRIPPED by its code on return (log entry 63). -/
def State.supplySequence (s : State) (kind : StopKind) (fault : Nat) (seen : Fld) (startStep : Option (Fin 6)) : State :=
  let going := s.power.stopping.any (fun p => p.1 == .brownout || p.1 == .overvoltage)
  let ov := kind == .overvoltage
  let begin (s : State) (n : Nat) : State :=
    let s := { s with power := { s.power with stopping := some (kind, n), ovLast := ov } }
    State.islandAct false (s.gatesOff.see seen)
  match startStep with
  | some k =>
    if going ∨ s.power.region = .off then s
    else if s.power.region = .full ∧ !s.power.held then
      let t := s.fresh false
      begin (({ t with power := { t.power with held := true } }).cutStart (k.val + 1)) 0
    else begin (s.cutStart (k.val + 1)) 0
  | none =>
    if going ∨ s.power.region ≠ .full then s
    else if s.running then (begin s 5).raise fault .f3
    else begin s 0

/-- BROWNOUT_SEQUENCE (R46, R601). `startStep`: the step of a start in progress, less 1. -/
def execBrownoutSequence (startStep : Option (Fin 6)) (s : State) : Res :=
  always s (fun s => s.supplySequence .brownout Code.SUPPLY_BROWNOUT Reg.ID_SUPPLY_STAT_BROWNOUT_SEEN startStep)

/-- OVERVOLTAGE_SEQUENCE (R46, R601). -/
def execOvervoltageSequence (startStep : Option (Fin 6)) (s : State) : Res :=
  always s (fun s => s.supplySequence .overvoltage Code.SUPPLY_OV Reg.ID_SUPPLY_STAT_OV_SEEN startStep)

/-- The banks are no longer classified (R35). -/
def State.unclassify (s : State) : State := s.setWord 0x408 (s.word 0x408 &&& 0xFFFFCCCC)

/-- Everything stops but what keep-alive keeps (R33, R46). -/
def State.stopAll (s : State) : State :=
  let s := s.lockMon.cutWrites.stopCopies.dropClaim
  let s := { s with ses := Vector.replicate 4 {}, flt := s.flt.warm, drv := { s.drv with hvLink := false }, clk := { s.clk with xinStages := none, stopped := false } }
  (s.wr Reg.ID_SUPPLY_STAT_VGD_DV 0).unclassify.gatesOff

/-- KEEPALIVE_ENTRY (R46). -/
def execKeepaliveEntry (s : State) : Res :=
  always s (fun s =>
    if s.power.stopping.any (fun p => p.1 == .brownout || p.1 == .overvoltage) then
      let s := (s.stopAll.wr (Reg.TIME_BASE_HOLDOVER 0) 1).inc Reg.ID_KEEPALIVE_CNT_COUNT
      State.islandAct false { s with power := { s.power with region := .keepAlive, stopping := none, held := false } }
    else s)

/-- The controller die and the HV die are held in reset (R50, R569). -/
def State.hold (s : State) : State := let s := s.stopAll; { s with power := { s.power with held := true } }

/-- RESET_ASSERT (R50). The journal entry and the logbook's trigger come at the next stage boundary. -/
def execResetAssert (s : State) : Res :=
  always s (fun s =>
    if s.power.region ≠ .full ∨ s.power.held ∨ s.power.stopping.isSome then s
    else
      let go (n : Nat) : State := ({ s with power := { s.power with stopping := some (.pin, n) } }).gatesOff
      if s.running then (go 5).askTrigger else (go 0).hold)

/-- RESET_RELEASE (R50). -/
def execResetRelease (i : StartIn) (s : State) : Res :=
  always s (fun s => if s.power.held && s.power.stopping == some (.pin, 0) && s.ilkBank then s.restart .pin i else s)

/-- WATCHDOG_RESTART (R45). -/
def execWatchdogRestart (i : StartIn) (s : State) : Res :=
  always s (fun s => if s.power.region = .full ∧ !s.power.held ∧ s.power.stopping.isNone then s.restart .watchdog i else s)

/-- FIRMWARE_RESTART (R171). 10 ms after the reply of an ACTIVATE. -/
def execFirmwareRestart (i : StartIn) (s : State) : Res :=
  onRun s (fun s => if s.sto.activate && s.power.stopping.isNone && s.passed s.sto.activateAt 10000000 then s.restart .firmware i else s)

/-! ### Supplies, banks, VGD and straps -/

/-- SUPPLY_STAT_UPDATE (R53). -/
def execSupplyStatUpdate (vinMv : BitVec 16) (vgdDv : Byte) (s : State) : Res :=
  onPower s (fun s => (s.wr Reg.ID_SUPPLY_STAT_VIN_MV vinMv.toNat).wr Reg.ID_SUPPLY_STAT_VGD_DV (if s.drv.hvLink then vgdDv.toNat else 0))

/-- CLASS and FAULT_SEEN of a bank (R54). -/
def vioClass (n : Fin 4) : Fld := ⟨0x408, 4 * n.val + 1, 4 * n.val⟩
def vioFault (n : Fin 4) : Fld := ⟨0x408, 4 * n.val + 2, 4 * n.val + 2⟩

/-- VIO_BANK_CLASSIFIED (R35). A classification is held. -/
def execVioBankClassified (bank : Fin 4) (is3v3 : Bool) (s : State) : Res :=
  always s (fun s => if s.power.region = .off ∨ s.rd (vioClass bank) ≠ 0 then s else s.wr (vioClass bank) (if is3v3 then 2 else 1))

/-- VIO_BANK_FAULT (R36). Bank 3 carries the interlock (R479). -/
def execVioBankFault (bank : Fin 4) (s : State) : Res :=
  always s (fun s =>
    if s.power.region = .off ∨ s.rd (vioClass bank) = 0 then s
    else
      let s := ((s.wr (vioClass bank) 0).see (vioFault bank)).event Ev.VIO_FAULT
      if bank = 3 ∧ s.running then
        let s := s.dropClaim
        { s with duo := { s.duo with partner := false, bankDue := true } }
      else s)

/-- VGD_UNDERVOLTAGE (R39). -/
def execVgdUndervoltage (s : State) : Res :=
  always s (fun s => ((s.wr Reg.ID_SUPPLY_STAT_VGD_OK 0).latchTrip 0x0D31).gatesOff)

/-- VGD_OK_RISE (R38). -/
def execVgdOkRise (s : State) : Res := always s (fun s => s.wr Reg.ID_SUPPLY_STAT_VGD_OK 1)

/-- VGD_RISE (R390). The HV die's registers take its hardware defaults. -/
def execVgdRise (s : State) : Res := always s (fun s => { s with drv := { s.drv with hvRegs := [] } })

/-- HV_LINK_UP (R77, R390). The logic side writes the active values. -/
def execHvLinkUp (s : State) : Res :=
  onRun s (fun s => if s.pllLocked 1 && s.pllLocked 3 then ({ s with drv := { s.drv with hvLink := true } }).writeHv else s)

/-- ROLE_PAD_CHANGE (R43). -/
def execRolePadChange (role0 role1 : Bool) (s : State) : Res :=
  onRun s (fun s =>
    if role0 = s.power.role0 ∧ role1 = s.power.role1 then s
    else ({ s with power := { s.power with role0 := role0, role1 := role1 } }).event Ev.ROLE_PAD_CHANGE)

end Sys2Proof.Machine
end

