-- ==== Sys2Proof/Machine/Thermal.lean ====
section
/-! DEFINITION. The dice's sensors and the limit factors (R564 to R571): samples, the sampling rate, the die throttle, the shutdowns, and the
steps that come every 100 ms. -/

namespace Sys2Proof.Machine

open Sys2Proof

/-! ### Samples -/

/-- One reading of a sensor: the sensor, its value in 0.1 °C, and whether it counts (R567). -/
structure Reading where
  sensor : Nat
  temp   : Int
  counts : Bool
  deriving DecidableEq, Repr

/-- The readings of a sample whose first sensor is `n` (R567). -/
def readings (n : Nat) : List (BitVec 16 × Bool) → List Reading
  | [] => []
  | (v, ok) :: l => ⟨n, v.toInt, ok && decide (-550 ≤ v.toInt ∧ v.toInt ≤ 1750)⟩ :: readings (n + 1) l

/-- Shows one reading in THERM_SENSOR, and an exclusion in SENSOR_FAIL (R576, R577). -/
def State.showReading (s : State) (r : Reading) : State :=
  let peak := if s.therm.seen.contains r.sensor then max (s.rdS (Reg.THERM_SENSOR_PEAK r.sensor)) r.temp else r.temp
  let s := (s.wrS (Reg.THERM_SENSOR_TEMP r.sensor) r.temp).wrS (Reg.THERM_SENSOR_PEAK r.sensor) peak
  let bit : Fld := ⟨Reg.THERM_STAT_SENSOR_FAIL.addr, 12 + r.sensor, 12 + r.sensor⟩
  let s := s.wrB bit (!r.counts)
  if s.therm.seen.contains r.sensor then s else { s with therm := { s.therm with seen := s.therm.seen ++ [r.sensor] } }

/-- The hottest of the readings that count. -/
def hottest (l : List Reading) : Option Int := ((l.filter (fun r => r.counts)).map (fun r => r.temp)).max?

/-- The thresholds of the dice in 0.1 °C (R565). -/
def dieLimits : List Int := [1000, 1100, 1250]

/-- A reading lies within 5 K of a threshold (R566). -/
def nearLimit (r : Reading) : Bool := r.counts && dieLimits.any (fun t => decide (t - 50 ≤ r.temp ∧ r.temp ≤ t + 50))

/-- The sampling rate of die `d` after a sample (R566): 1,600 samples at 16 kHz make 100 ms. -/
def State.sampleRate (s : State) (d : Nat) (l : List Reading) : State :=
  let far := if l.any nearLimit ∨ !(s.therm.fast.getD d false) then 0 else s.therm.far.getD d 0 + 1
  let fast := l.any nearLimit || (s.therm.fast.getD d false && decide (far < 1600))
  let s := { s with therm := { s.therm with far := s.therm.far.set d far, fast := s.therm.fast.set d fast } }
  s.wrB Reg.THERM_STAT_FAST (s.therm.fast.any id)

/-- A die's machine after a sample; with no reading that counts it holds (R564). -/
def dieNext (l : Level) (r : List Reading) : Level :=
  match hottest r with
  | some x => l.next 2 dieLimits x
  | none => l

/-! ### The controller die (R567 to R569) -/

/-- A step of the die throttle: `d` is that of the factor, −1 towards slower (R568). -/
def State.throttleDie (s : State) (d : Int) : State :=
  let old := s.rd Reg.THERM_STAT_STEP
  let new := (min 4 (max 0 ((old : Int) - d))).toNat
  let s := (s.wr Reg.THERM_STAT_STEP new).wr Reg.CLK_SYS_NOW_CORE_DIV (coreDiv new)
  if old < new then s.inc Reg.THERM_STAT_THROTTLE_STEPS else s

/-- Sets what the thermal monitor holds beside its registers. -/
def State.setTherm (s : State) (t : Thermal) : State := { s with therm := t }

/-- A source takes a step now: the 100 ms count from here (R565). -/
def State.stepsNow (s : State) (i : Fin 4) : State := { s with therm := { s.therm with stepAt := s.therm.stepAt.set i (s.timeOf 1) } }

/-- The same after a step at once, if there is one. -/
def State.countFrom (s : State) (i : Fin 4) (d : Int) : State := if d = 0 then s else s.stepsNow i

/-- The controller die is shut down (R569). Where a sequence to keep-alive or to reset runs already, that goes on. -/
def State.shutDie (s : State) : State :=
  let s := ({ s with therm := { s.therm with shut := true, cool := 0 } }).inc Reg.THERM_STAT_SHUTDOWNS
  let s := s.gatesOff
  if s.power.stopping.isSome then (if s.running then s.raise Code.DIE_OVERTEMP .f3 else s)
  else if s.running then
    (({ s with power := { s.power with stopping := some (.thermal, 5) } }).raise Code.DIE_OVERTEMP .f3)
  else ({ s with power := { s.power with stopping := some (.thermal, 0) } }).hold

/-- After a shutdown: every controller sensor at 105 °C or less for 2 samples in a row brings the restart, or lets the one that the supply
brings go on (R569). -/
def State.coolDie (s : State) (l : List Reading) (i : StartIn) : State :=
  let cool := if (l.filter (fun r => r.counts)).all (fun r => decide (r.temp ≤ 1050)) && l.any (fun r => r.counts) then s.therm.cool + 1 else 0
  let s := { s with therm := { s.therm with cool := min cool 2 } }
  if cool < 2 then s
  else if s.power.region = .keepAlive then { s with therm := { s.therm with shut := false } }
  else if s.power.held && s.power.stopping == some (.thermal, 0) && s.ilkBank then s.restart .thermal i
  else s

/-- A sample of the controller die. -/
def State.sampleDie (s : State) (l : List Reading) (i : StartIn) : State :=
  let s := l.foldl State.showReading s
  let s := match hottest l with | some x => s.wrS Reg.THERM_STAT_DIE_MAX x | none => s
  let s := s.sampleRate 0 l
  let forced := s.therm.forced || decide (4 ≤ (l.filter (fun r => !r.counts)).length)
  let m := dieNext s.therm.die l
  let s := { s with therm := { s.therm with die := m, forced := forced } }
  let old := s.rd Reg.THERM_STAT_DIE_LEVEL
  let new := if forced then max throttle m.code else m.code
  let s := (s.wr Reg.THERM_STAT_DIE_LEVEL new).throttleDie (stepAtOnce old new)
  let s := s.countFrom 0 (stepAtOnce old new)
  if s.therm.shut then s.coolDie l i
  else if new = 3 ∧ s.power.region = .full then s.shutDie
  else s

/-! ### The HV die (R567, R570, R571) -/

/-- The HV die goes to a level, with the step of f_HV that this brings. -/
def State.levelHv (s : State) (old new : Nat) : State :=
  let d := stepAtOnce old new
  (({ s with therm := { s.therm with fHv := stepFactor s.therm.fHv d } }).countFrom 1 d).wr Reg.THERM_STAT_HV_LEVEL new

/-- After a shutdown: both sensors at 105 °C or less let the gates on again (R570). -/
def State.coolHv (s : State) (l : List Reading) : State :=
  if s.therm.hvShut && l.all (fun r => r.counts && decide (r.temp ≤ 1050)) then s.setTherm { s.therm with hvShut := false } else s

/-- The entry to SHUTDOWN turns the gates off and trips the drive stage (R570). -/
def State.shutHv (s : State) (old new : Nat) : State :=
  if new = 3 ∧ old ≠ 3 then
    let s := (s.setTherm { s.therm with hvShut := true }).inc Reg.THERM_STAT_SHUTDOWNS
    (s.latchTrip 0x0D74).gatesOff
  else s

/-- A sample of the HV die. -/
def State.sampleHv (s : State) (l : List Reading) : State :=
  let s := l.foldl State.showReading s
  let s := match hottest l with | some x => s.wrS Reg.THERM_STAT_HV_MAX x | none => s
  let s := s.sampleRate 1 l
  let m := dieNext s.therm.hv l
  let old := s.rd Reg.THERM_STAT_HV_LEVEL
  let new := if l.all (fun r => !r.counts) then max throttle m.code else m.code
  let s := (s.setTherm { s.therm with hv := m }).levelHv old new
  (s.coolHv l).shutHv old new

/-- The thermal monitor runs: in full operation, and during a thermal shutdown (R566, R569). -/
def State.monitorRuns (s : State) : Bool := s.power.region == .full || (s.power.region == .keepAlive && s.therm.shut)

/-- DIE_SENSOR_SAMPLE (R565). -/
def execDieSensorSample (d : DieSample) (s : State) : Res :=
  always s (fun s =>
    if s.monitorRuns then
      match d with
      | .controller r i => s.sampleDie (readings 0 r.toList) i
      | .hv r => s.sampleHv (readings 8 r.toList)
    else s)

/-! ### Every 100 ms (R565) -/

/-- The further step of a source at a level. -/
def furtherStep (level : Nat) : Int := if throttle ≤ level then -1 else 1

/-- MONO at a source's last step. -/
def State.steppedAt (s : State) : LimitSource → Nat
  | .die => s.therm.stepAt[0]
  | .hv => s.therm.stepAt[1]
  | .ntc i => s.therm.stepAt.getD (2 + i) 0
  | .cell c => (s.cell c).thermAt

/-- The next step of a source is due: 100 ms ± 1 ms after the last one; while MONO's stages do not run the model does not tell when. -/
def State.stepDue (s : State) (f : LimitSource) : Bool := !s.running || s.passed (s.steppedAt f) 99000000

/-- THERMAL_FACTOR_STEP (R565). -/
def execThermalFactorStep (f : LimitSource) (s : State) : Res :=
  always s (fun s =>
    if s.power.region ≠ .full || !(s.stepDue f) then s
    else match f with
      | .die => (s.stepsNow 0).throttleDie (furtherStep (s.rd Reg.THERM_STAT_DIE_LEVEL))
      | .hv =>
        let d := furtherStep (s.rd Reg.THERM_STAT_HV_LEVEL)
        { s with therm := { s.therm with fHv := stepFactor s.therm.fHv d, stepAt := s.therm.stepAt.set 1 (s.timeOf 1) } }
      | .ntc i =>
        let d := furtherStep (s.therm.ntc.getD i {}).code
        { s with therm := { s.therm with fNtc := s.therm.fNtc.set i (stepFactor s.therm.fNtc[i] d), stepAt := s.therm.stepAt.setIfInBounds (2 + i) (s.timeOf 1) } }
      | .cell c =>
        let d := furtherStep (s.cellLevel c)
        if !s.running ∨ (d < 0 ∧ s.leaving c) then s else s.stepCell c d)

end Sys2Proof.Machine
end

