-- ==== Sys2Proof/Machine/Verbs.lean ====
section
/-! DEFINITION. GET, SET, APPLY and ECHO (R161 to R165), what a write of a field does at once, the end of a long verb at its bound (R172), and
the action of every verb by its command, as AT executes it. -/

namespace Sys2Proof.Machine

open Sys2Proof

/-! ### GET and ECHO -/

/-- GET (R105 to R107, R161). -/
def execGet (r : Req) (shadow : Bool) (addr : Word) (len : BitVec 16) (elapsed : Nat) (ecc : List EccHit) (s : State) : Res :=
  execVerb s r Verb.GET (if shadow then flagShadow else 0) true (.get r shadow addr len elapsed ecc)
    (actGet r.session shadow addr len elapsed ecc)

/-- The action of ECHO (R165). -/
def actEcho (payload : List Byte) : Action := fun s => if 1400 < payload.length then s.no Status.PAYLOAD_INVALID else s.ok payload

/-- ECHO (R165). -/
def execEcho (r : Req) (payload : List Byte) (s : State) : Res := execVerb s r Verb.ECHO 0 true (.echo r payload) (actEcho payload)

/-! ### What a SET writes at once -/

/-- A word after a write of its RW and W1C fields (R8); `kept`: the bits that an event of the same stage has set (R9). -/
def writtenWord (rows : List Row) (old new kept : Word) : Word :=
  rows.foldl (fun w r =>
    if r.acc = .rw then setBits w r.msb r.lsb (getBits new r.msb r.lsb)
    else if r.acc = .w1c then w &&& ~~~(new &&& bitMask r.msb r.lsb &&& ~~~kept)
    else w) old

/-- The RW and W1C fields of a whole object. -/
def State.writeWords (s : State) (p : Nat × List Byte) : State :=
  (wordsOf p.1 p.2.length).foldl (fun t w => t.setWord w (writtenWord (rowsAt w).1 (t.word w) (wordAt p.2 (w - p.1)) (t.seenMask w))) s

/-- An action that a write brings about, where it is asked for: the state after it, or its refusal. -/
def onWrite (asked : Bool) (act : Action) (s : State) : Except Nat State :=
  if asked then (let r := act s; if r.status = Status.OK then .ok r.st else .error r.status) else .ok s

/-- TX_REQ and ACK of an object; whether its previous frame is on the bus is not for the SET to say (log entry 24). -/
def State.writeCan (s : State) (c : Fin 2) (n : Fin 128) (w : Word) : Except Nat State :=
  let (free, t) := if (assocGet (s.canRun c).tx n).isSome then s.takeFree else (0, s)
  match onWrite (w.getLsbD 31) (actTxReq c n (free.getLsbD 0)) t with
  | .error st => .error st
  | .ok t => onWrite (getBits w 5 0 != 0) (actAck c n (BitVec.ofNat 6 (getBits w 5 0))) t

/-- One whole object of a SET takes effect (R72, R97, R294, R347, R349, R528, R542, R546): its RW and W1C fields, and what its WO fields
bring about. -/
def State.writeObject (s : State) (p : Nat × List Byte) : Except Nat State :=
  let w := wordAt p.2 0
  let s := s.writeWords p
  match objAt p.1 with
  | none => .error Status.ADDRESS_INVALID
  | some (o, is, _) =>
    let i := is.headD 0
    if o.base = 0x01000100 then
      let g := Fin.ofNat 2 i
      if w.getLsbD 10 then onWrite true (actRampAbort g) s else onWrite (w.getLsbD 9) (actRampStart g) s
    else if o.base = 0x05000040 then
      match onWrite (w.getLsbD 26) (actTakeOut i) s with
      | .error st => .error st
      | .ok t => onWrite (w.getLsbD 27) (actRelease i) t
    else if o.base = 0x07300000 then onWrite true (actLoopSlotModeWrite (Fin.ofNat 2048 i) (BitVec.ofNat 2 w.toNat) (wordAt p.2 4)) s
    else if o.base = 0x0D000200 then
      onWrite (w.getLsbD 31)
        (actMdioStart (Fin.ofNat 2 i) (w.getLsbD 29) (BitVec.ofNat 5 (getBits w 28 24)) (BitVec.ofNat 5 (getBits w 20 16))
          (BitVec.ofNat 16 w.toNat)) s
    else if o.base = 0x0D201000 then s.writeCan (Fin.ofNat 2 i) (Fin.ofNat 128 (is.getD 1 0)) (wordAt p.2 0x20)
    else .ok s

/-- Several objects, in ascending order; one refusal refuses all of them (R161). -/
def State.writeObjects : List (Nat × List Byte) → State → Except Nat State
  | [], s => .ok s
  | p :: l, s =>
    match s.writeObject p with
    | .error st => .error st
    | .ok t => State.writeObjects l t

/-- The safety block (R107). -/
def inSafety (a : Nat) : Bool := a / 0x1000000 == 0x0C

/-- The action of SET (R105, R107, R129, R161, R162). -/
def actSet (i : Fin 4) (addr : Word) (data : List Byte) : Action := fun s =>
  let a := addr.toNat
  let n := data.length
  if n < 4 ∨ 1400 < n ∨ n % 4 ≠ 0 then s.no Status.PAYLOAD_INVALID
  else if memBase ≤ a then s.no (if inWindow a n then Status.ACCESS_DENIED else Status.ADDRESS_INVALID)
  else match objectsIn 351 a (a + n) with
    | none => s.no Status.ADDRESS_INVALID
    | some l =>
      let objs := l.map (fun p => (p.1, slice data (p.1 - a) p.2))
      if l.any (fun p => inSafety p.1) then s.no Status.ACCESS_DENIED
      else if s.lc = 2 ∧ l.any (fun p => identityObject p.1) then s.no Status.LIFECYCLE_REFUSED
      else match objs.findSome? (fun p => s.objectRefusal p.1 p.2.length p.2) with
        | some st => s.no st
        | none =>
          let shadowed := objs.filter (fun p => objectShadowed p.1 p.2.length)
          let set := shadowStore (s.sess i).shadow shadowed
          if shadowed ≠ [] ∧ (1024 < set.length ∨ 65536 < shadowBytes set) then s.no Status.SHADOW_FULL
          else match State.writeObjects objs s with
            | .error st => s.no st
            | .ok t => (if shadowed = [] then t else t.setSess i { t.sess i with shadow := set }).ok

/-- SET (R105, R161). -/
def execSet (r : Req) (addr : Word) (data : List Byte) (s : State) : Res :=
  execVerb s r Verb.SET 0 false (.set r addr data) (actSet r.session addr data)

/-! ### APPLY -/

/-- The reply of APPLY: objects committed, and the first failing address (R165). -/
def applyReply (count addr : Nat) : List Byte := beBytes 2 count ++ [0, 0] ++ beBytes 4 addr

/-- The action of APPLY with ACTION 0 (R129, R163): the commit comes with SHADOW_COMMIT. -/
def actApplyCommit (i : Fin 4) : Action := fun s =>
  let set := (s.sess i).shadow
  let refused (st addr : Nat) : VRes := { s.no st with payload := applyReply 0 addr }
  if set = [] then s.ok (applyReply 0 0)
  else match (if s.lc = 2 then set.find? (fun p => identityObject p.1) else none) with
    | some p => refused Status.LIFECYCLE_REFUSED p.1
    | none =>
      match s.applyFail set with
      | some (st, a) => refused st a
      | none => s.wait (.applyWait set) (s.stage + 1)

/-- APPLY_COMMIT (R163). -/
def execApplyCommit (r : Req) (s : State) : Res := execVerb s r Verb.APPLY 0 false (.applyCommit r) (actApplyCommit r.session)

/-- The action of APPLY with ACTION 1 (R163). -/
def actApplyDiscard (i : Fin 4) : Action := fun s => (s.setSess i { s.sess i with shadow := [] }).ok (applyReply 0 0)

/-- APPLY_DISCARD (R163). -/
def execApplyDiscard (r : Req) (s : State) : Res := execVerb s r Verb.APPLY 0 false (.applyDiscard r) (actApplyDiscard r.session)

/-! ### A long verb at its bound (R172) -/

/-- What is left of an operation that ends at its bound. A record or an image whose writing stops is not one; a pattern test gives the link
back; a calibration or a training that has begun runs to its end without a reply. -/
def State.abandon (s : State) : LongOp → State
  | .lifecycle _ _ _ => s.wr Reg.LC_STATE_CHANGE_BUSY 0
  | .saveConfig words => ({ s with flash := s.flash.writeOlder (s.recordOf false words) }).showDirty
  | .fwBegin | .fwCommit _ => { s with sto := { s.sto with update := none } }
  | .prbs l => s.endPrbs l
  | .inject l => { s with link := { s.link with inject := s.link.inject.filter (fun j => j.param.toNat % 64 != l) } }
  | .calSd => { s with meas := { s.meas with calSd := none } }
  | _ => s

/-- The bound of a long verb in ms (R165, R171, R172, R201, R436, R514). -/
def LongOp.boundMs : LongOp → Nat
  | .lifecycle _ _ _ | .saveConfig _ => 2000
  | .fwBegin => 60000
  | .fwCommit _ => 30000
  | .flashCrc _ => 5000
  | .cal _ => 15
  | .cal4 => 5
  | .calSd => 100
  | .train _ => 250
  | .safeCommit _ => 200
  | _ => 10000

/-- A long verb has reached its bound: for a pattern test its duration and 100 ms (R248). -/
def State.atBound (s : State) (b : BusyCmd) : Bool :=
  match b.op with
  | .prbs l => s.reached (s.prbsEnds l + 100 * 1000000 * 65536)
  | op => s.heldFor ((s.stage - b.stage) * s.tsNs) (op.boundMs * 1000000)

/-- LONG_VERB_TIMEOUT (R172). A long verb has not completed within its bound. -/
def execLongVerbTimeout (session : Fin 4) (s : State) : Res :=
  onRun s (fun s =>
    match (s.sess session).ops.find? (fun b => b.op.long && s.atBound b) with
    | some b => (s.abandon b.op).endBusy session b.op Status.TIMEOUT []
    | none => s)

/-! ### The actions by command -/

/-- The action of a verb's command; none of a command that is no verb's. -/
def verbAct (c : Instr) : Option Action :=
  match c with
  | .rampStart _ g => some (actRampStart g)
  | .rampAbort _ g => some (actRampAbort g)
  | .get r sh a n e ecc => some (actGet r.session sh a n e ecc)
  | .set r a d => some (actSet r.session a d)
  | .snapshot _ l => some (actSnapshot l)
  | .applyCommit r => some (actApplyCommit r.session)
  | .applyDiscard r => some (actApplyDiscard r.session)
  | .state _ t => some (actState t)
  | .startConverter _ => some actStartConverter
  | .startDrive _ => some actStartDrive
  | .stopConverter _ => some actStopConverter
  | .stopDrive _ => some actStopDrive
  | .stopArm _ a => some (actStopArm a)
  | .trip _ x => some (actTrip x)
  | .clearFaults _ p t => some (actClear p t)
  | .clearDrive _ p t => some (actClear p t)
  | .clearCanRecover _ p t => some (actClear p t)
  | .clearSafety _ p t => some (actClear p t)
  | .roleReport _ => some actRoleReport
  | .roleYield _ => some actRoleYield
  | .setpoint _ l => some (actSetpoint l)
  | .ramp _ i t x => some (actRamp i t x)
  | .routeTrain _ p => some (actRouteTrain p)
  | .linkPrbs _ p => some (actLinkPrbs p)
  | .linkInject _ p => some (actLinkInject p)
  | .safeParamWrite _ p => some (actSafeParamWrite p)
  | .safeParamCommit _ p => some (actSafeParamCommit p)
  | .safeParamDiscard _ p => some (actSafeParamDiscard p)
  | .calAdc _ x p => some (actCalAdc x p)
  | .calAdc4 _ p => some (actCalAdc4 p)
  | .calSdOffset _ p => some (actCalSdOffset p)
  | .journal _ a n => some (actJournal a n)
  | .logbookTrigger _ => some actLogbookTrigger
  | .logbookRelease _ => some actLogbookRelease
  | .logbookRead _ a b n e => some (actLogbookRead a b n e)
  | .parcel _ c f b => some (actParcel c f b)
  | .lifecycleTransition _ t a k g => some (actLifecycle t a k g)
  | .saveConfig _ => some actSaveConfig
  | .firmwareBegin r n => some (actFwBegin r.session n)
  | .firmwareWrite r o d => some (actFwWrite r.session o d)
  | .firmwareCommit r => some (actFwCommit r.session)
  | .firmwareAbort r => some (actFwAbort r.session)
  | .firmwareActivate _ => some actFwActivate
  | .crc _ ch a n => some (actCrc ch a n)
  | .echo _ b => some (actEcho b)
  | .takeOut _ c => some (actTakeOut c)
  | .release _ c => some (actRelease c)
  | .loopSlotModeWrite _ n m o => some (actLoopSlotModeWrite n m o)
  | .mdioStart _ p op ph rg d => some (actMdioStart p op ph rg d)
  | .txReq _ c n b => some (actTxReq c n b)
  | .ack _ c n k => some (actAck c n k)
  | _ => none

end Sys2Proof.Machine
end

