-- ==== Sys2Proof/Machine/Boundary.lean ====
section
/-! DEFINITION. The stage boundary (R15, R77 to R87, R448 and what the other chapters place there), the execution of AT commands at it (R86,
R87, R159), and the commit of a shadow set (R163, R164). -/

namespace Sys2Proof.Machine

open Sys2Proof

/-! ### Time (R78 to R84, R600) -/

/-- An AT command on GRID_TIME whose due time a step passes (R87). -/
def DueCmd.stepPast (d : DueCmd) (before after : Nat) : DueCmd :=
  if d.base = 0 ∧ before / 65536 < d.dueNs ∧ d.dueNs ≤ after / 65536 then { d with stepped := true } else d

/-- Changes the AT commands that wait. -/
def State.mapDue (s : State) (f : DueCmd → DueCmd) : State :=
  ([0, 1, 2, 3] : List (Fin 4)).foldl (fun t i =>
    let x := t.sess i
    { t with ses := t.ses.set i { x with due := x.due.map f } }) s

/-- A step of GRID_TIME takes effect (R82, R87). -/
def State.stepGrid (s : State) : State :=
  match s.clk.stepDue with
  | none => s
  | some d =>
    let before := s.timeOf 0
    let after := ((before : Int) + d).toNat
    let s := (({ s with clk := { s.clk with stepDue := none } }).setTime 0 after).inc Reg.TIME_GRID_STAT_STEP_COUNT
    (s.mapDue (fun c => c.stepPast before after)).event Ev.GRID_STEP

/-- The bases go on from one boundary to the next: LANE_TIME by a stage period, the others with MONO (R80 to R82). -/
def State.tickTime (s : State) (mono : Nat) : State :=
  let (g, rest) := s.gridAdvance mono
  let d := s.slewPart mono
  let grid := ((s.timeOf 0 + g : Nat) : Int) + d
  let s := { s with clk := { s.clk with gridRest := rest, slewLeft := s.clk.slewLeft - d } }
  let s := ((s.setTime 0 grid.toNat).setTime 1 (s.timeOf 1 + mono)).setTime 2 (s.timeOf 2 + s.tsNs * 65536)
  ((s.setTime 3 (s.timeOf 3 + mono)).tickBus).stepGrid

/-- ID_UPTIME (R600). -/
def State.showUptime (s : State) : State :=
  let cold := s.timeOf 1 / unitsPerSecond
  let here := (s.timeOf 1 - s.power.startMono) / unitsPerSecond
  (((s.wr Reg.ID_UPTIME_COLD_HI (cold / 2 ^ 32)).wr Reg.ID_UPTIME_COLD_LO cold).wr Reg.ID_UPTIME_RESTART_HI (here / 2 ^ 32)).wr
    Reg.ID_UPTIME_RESTART_LO here

/-! ### Sessions -/

/-- A stage's time without a packet (R153, R182). -/
def State.tickIdle (mono : Nat) (s : State) : State :=
  ([0, 1, 2, 3] : List (Fin 4)).foldl (fun t i =>
    if t.isOpen i then t.setSess i { t.sess i with idleNs := (t.sess i).idleNs + mono / 65536 } else t) s

/-- The accepted START commands of the stage are answered; a STOP or TRIP of the stage has superseded them (R158). -/
def State.answerStarts (conv drive : Bool) (s : State) : State :=
  let answer (bad : Bool) (d : Bool) (t : State) : State :=
    t.endOps (fun o => o == .start d) (if bad then Status.STATE_REFUSED else Status.OK) []
  answer drive true (answer conv false s)

/-- The commands of the stage that has ended are done with. -/
def State.clearOrders (s : State) : State :=
  { s with pol := { s.pol with launchConv := false, launchDrive := false, haltConv := false, haltDrive := false, groupStops := [] } }

/-! ### The sequences that end in reset, and XIN (R46, R50, R70, R569) -/

/-- One more frame with the stop token has gone. -/
def State.tickStop (s : State) : State :=
  match s.power.stopping with
  | none => s
  | some (k, n) =>
    let s := { s with power := { s.power with stopping := some (k, n - 1) } }
    if n ≤ 1 ∧ (k = .pin ∨ k = .thermal) then s.hold else s

/-- The islands stop four stages after the boundary that raised CLK_REF_LOST. -/
def State.tickXin (s : State) : State :=
  match s.clk.xinStages with
  | none => s
  | some n => if n ≤ 1 then s.stopIslands else { s with clk := { s.clk with xinStages := some (n - 1) } }

/-! ### The boundary -/

/-- What of the stage that ends happens before the counter advances: its slot of the logbook, what the cores have worked out in it, and
the steps of the trainings. -/
def State.endStage (s : State) : State :=
  let s := s.recordSlot.pairBefore
  s.routes.foldl State.tickTraining ((s.policyStage).driveStage)

/-- The counter, the bases and their stamps, and what moves with time. -/
def State.advance (b : BoundaryIn) (s : State) : State :=
  let ns := s.tsNs
  let s := (s.setStage ((s.stage + 1) % 2 ^ 48)).tickTime b.mono
  let s := s.stampStage.showUptime
  let s := (([0, 1] : List (Fin 2)).foldl (State.tickRamp ns) s).tickSpread ns
  (((s.tickLaneBack ns).readPins b).tickMon).tickIdle b.mono

/-- A keeper by a yield latches its own input set from the second boundary on (R474). -/
def State.endLag (s : State) : State := { s with duo := { s.duo with lag := false } }

/-- The setpoints, the drive stage, the faults of the stage that ends, and the station's reaction to them (R344, R448, R456). -/
def State.reactAll (s : State) : State :=
  let s := (s.takeRole false).endLag
  let s := if s.isKeeper then (s.deliverCan 0).deliverCan 1 else s
  let s := s.tickSetpoints.driveBoundary
  let s := if s.power.stopping = some (.pin, 5) then s.event Ev.RESTART else s
  let s := s.raiseAll
  let s := s.pol.groupStops.foldl State.stopGroup s
  let s := s.takeReports.applyGoto.takeTrigger
  let s := s.takeRelayed.pairAfter
  let s := s.answerStarts s.pol.haltConv s.pol.haltDrive
  (s.clearOrders).showFaults

/-- What the stage that begins works with: decimation, the motor current factor, the journal, and the captures of its boundary (R108, R453,
R531, R542, R568, R571, R576). -/
def State.beginStage (b : BoundaryIn) (s : State) : State :=
  let s := s.wrB Reg.THERM_STAT_DECIMATING (s.rd Reg.THERM_STAT_STEP == 4 && s.flag Reg.THERM_CFG_LB_DECIMATE)
  let f := s.driveFactor
  let s := ({ s with therm := { s.therm with fDrv := f } }).wr Reg.THERM_DRV_F_DRV f
  let s := s.writeQueued
  let s := s.mapDue (fun d => { d with passed := d.passed + 1 })
  let s := (s.wrB Reg.MEM_TAMPER_STAT_TAMP_NOW b.tamp).wrB Reg.MEM_TAMPER_STAT_LID_NOW b.lid
  let s := { s with atB := s.regs }
  let s := s.captureSnaps
  let s := if s.commitDue || s.anyDue then s else s.captureCrcs
  let s := ([0, 1, 2, 3] : List (Fin 4)).foldl State.tickTelegram s
  let s := (s.canObjs 0).foldl (State.stageTx b.can0 0) s
  let s := (s.canObjs 1).foldl (State.stageTx b.can1 1) s
  (((s.tickInject).orders).takeCauses).snapView

/-- STAGE_BOUNDARY (R77, R78). `b`: how far MONO has gone since the last one, and objects whose previous frames are on the CAN buses. -/
def execStageBoundary (b : BoundaryIn) (s : State) : Res :=
  onRun s (fun s =>
    let s := { s with seenOld := s.seen, seen := [] }
    ((((s.endStage).advance b).reactAll).beginStage b).tickXin.tickStop)

/-! ### AT commands (R86, R87, R158, R159) -/

/-- Whether it executes late (R86, R87). -/
def State.dueLate (s : State) (d : DueCmd) : Bool := (d.passed == 1 && decide (d.dueNs < s.stampNs d.base)) || d.stepped

/-- A command stops the station, or the drive stage. -/
def stopsTarget (drive : Bool) : Instr → Bool
  | .stopConverter _ => !drive
  | .stopDrive _ => drive
  | .trip _ _ => true
  | _ => false

/-- Another session's STOP or TRIP of the target executes at the present boundary too (R158). -/
def State.dueStop (s : State) (drive : Bool) : Bool :=
  ([0, 1, 2, 3] : List (Fin 4)).any (fun i => (s.sess i).due.any (fun d => s.dueNow d && stopsTarget drive d.cmd))

/-- The setpoints and ramps that a command has just given take effect at this boundary. -/
def State.flushSets (s : State) : State :=
  let put (t : State) (p : Nat × SetRun) : State :=
    let v := (t.setpoint p.1).value
    t.putSetpoint p.1 (if p.2.moving then { p.2 with value := v, moving := decide (v ≠ p.2.target) } else p.2)
  let s' := s.pol.setDue.foldl put s
  { s' with pol := { s'.pol with setDue := [] } }

/-- The faults that a command has just raised: those on the list that were not there before. -/
def State.flushFaults (old : List FaultReq) (s : State) : State :=
  let new := s.flt.pending.filter (fun f => !(old.contains f))
  let s := new.foldl State.raiseOne { s with flt := { s.flt with pending := old } }
  if new = [] then s else (s.slideTrips).react new

/-- The drive stage's own start and stop. -/
def State.flushDrive (s : State) : State :=
  let s := if s.drv.stopDue then s.driveStop else s
  let s := if s.pol.launchDrive && !s.pol.haltDrive && s.drive == Drv.OFF then s.startDrive else s
  { s with drv := { s.drv with stopDue := false }, pol := { s.pol with launchConv := false, launchDrive := false } }

/-- The effects that a command places at a stage boundary occur at the boundary at which it executes (R159); `old` is the state before. -/
def State.flush (old s : State) : State :=
  let s := (s.flushSets.flushDrive).flushFaults old.flt.pending
  let s := { (s.pol.groupStops.foldl State.stopGroup s) with pol := { (s.pol.groupStops.foldl State.stopGroup s).pol with groupStops := [] } }
  (((s.applyGoto).takeTrigger).showFaults).snapView

/-- Whether a command takes its values at the boundary that follows its execution point (R108, R173). -/
def capturesNext : Instr → Bool
  | .snapshot _ _ | .crc _ _ _ _ => true
  | _ => false

/-- What a command answers that executes at a boundary: it names the stage that begins there. -/
def State.atAct (s : State) (c : Instr) (act : Action) : VRes :=
  let r := match c with
    | .logbookTrigger _ => let r := act (s.setStage (s.stage - 1)); { r with st := r.st.setStage s.stage }
    | .startConverter _ => if s.dueStop false then s.no Status.STATE_REFUSED else act s
    | .startDrive _ => if s.dueStop true then s.no Status.STATE_REFUSED else act s
    | _ => act s
  if capturesNext c then r else { r with stage := s.stage }

/-- The telegrams captured at the present boundary are captured anew. -/
def State.recaptureTel (s : State) (t : Fin 4) : State :=
  let x := s.telRun t
  match x.cap with
  | some (k, _) =>
    if k = s.stage then
      let bytes := s.asOfBoundary.captureBytes none (s.rd (Reg.ETH_TELEGRAM_START t)) (s.rd (Reg.ETH_TELEGRAM_LENGTH t))
      s.setTel t { x with cap := some (k, bytes) }
    else s
  | none => s

/-- The words of the boundary with what has changed at it from `old` to `s`. -/
def State.atBoundary (old s : State) : List (Nat × Word) :=
  let at_ := (old.regs ++ s.regs).map (fun p => p.1)
  let changed := at_.filter (fun a => old.word a != s.word a)
  (changed.foldl (fun t a => t.setWord a (s.word a)) s.asOfBoundary).regs

/-- What has changed at the present boundary from `old` to `s` is in the words of the boundary, and what the boundary has captured is captured
anew (R108, R110). -/
def State.recapture (old s : State) : State :=
  let s := ({ s with atB := old.atBoundary s }).recaptureSnaps
  let s := if s.commitDue || s.anyDue then s else s.captureCrcs
  ([0, 1, 2, 3] : List (Fin 4)).foldl State.recaptureTel s

/-- A session's AT command executes, if the life cycle permits it still (R129). W1C bits that the stage before the boundary has set stay set (R9), and a
START is answered at the end of the stage, since a STOP or TRIP in it supersedes it (R158). -/
def State.runDue (s : State) (i : Fin 4) (d : DueCmd) : State :=
  let x := s.sess i
  let s := s.setSess i { x with due := none }
  match verbAct d.cmd with
  | none => s.finish i d.head Status.MOOD_NOT_ALLOWED [] s.stage
  | some act =>
    if s.lifecycleBars d.head.verb then s.finish i d.head Status.LIFECYCLE_REFUSED [] s.stage
    else
      let r := ({ s with seen := s.seen ++ s.seenOld }).atAct d.cmd act
      let r := { r with st := { r.st with seen := s.seen } }
      let late := s.dueLate d && r.status == Status.OK
      let t := State.settle i d.head false { r with status := if late then Status.LATE_EXECUTED else r.status, st := s.flush r.st }
      s.recapture t

/-- AT_EXECUTION (R86). -/
def execAtExecution (session : Fin 4) (s : State) : Res :=
  onRun s (fun s =>
    match (s.sess session).due with
    | some d => if s.dueNow d then s.runDue session d else s
    | none => s)

/-! ### Commits (R163, R164) -/

/-- The set becomes active, in the words of the boundary too, and what the boundary has captured is captured anew (R110, R163). -/
def State.commitShadow (s : State) (i : Fin 4) (set : List (Nat × List Byte)) : State :=
  let t := { (s.commitEffects (s.commitSet set)) with lastCommit := some s.stage }
  let t := if (t.sess i).busy.any (fun b => b.op.isApply) then t.setSess i { t.sess i with shadow := [] } else t
  s.recapture t

/-- SHADOW_COMMIT (R163). -/
def execShadowCommit (session : Fin 4) (s : State) : Res :=
  onRun s (fun s =>
    match (s.sess session).opWith LongOp.isApply with
    | some (.applyWait set) =>
      if s.commitReady session then
        ((s.commitShadow session set).endBusy session (.applyWait set) Status.OK (applyReply set.length 0)).closePaths
      else s
    | _ => s)

end Sys2Proof.Machine
end

