-- ==== Sys2Proof/Machine/Dispatch.lean ====
section
/-! DEFINITION. The dispatch of the commands of the opcode table to their meanings, one arm per constructor of `Instr`. -/

namespace Sys2Proof.Machine

open Sys2Proof

/-- The effect of a command on everything but the queue of waiting commands. -/
def exec (i : Instr) (s : State) : Host.Outcome State Fault Refusal :=
  match i with
  | .vinRiseKeepalive => Sys2Proof.Machine.execVinRiseKeepalive s
  | .coldStart inp => Sys2Proof.Machine.execColdStart inp s
  | .brownoutSequence startStep => Sys2Proof.Machine.execBrownoutSequence startStep s
  | .overvoltageSequence startStep => Sys2Proof.Machine.execOvervoltageSequence startStep s
  | .keepaliveEntry => Sys2Proof.Machine.execKeepaliveEntry s
  | .keepaliveReturn inp => Sys2Proof.Machine.execKeepaliveReturn inp s
  | .vinOff => Sys2Proof.Machine.execVinOff s
  | .resetAssert => Sys2Proof.Machine.execResetAssert s
  | .resetRelease inp => Sys2Proof.Machine.execResetRelease inp s
  | .watchdogRestart inp => Sys2Proof.Machine.execWatchdogRestart inp s
  | .supplyStatUpdate vinMv vgdDv => Sys2Proof.Machine.execSupplyStatUpdate vinMv vgdDv s
  | .vioBankClassified bank is3v3 => Sys2Proof.Machine.execVioBankClassified bank is3v3 s
  | .vioBankFault bank => Sys2Proof.Machine.execVioBankFault bank s
  | .vgdUndervoltage => Sys2Proof.Machine.execVgdUndervoltage s
  | .vgdRise => Sys2Proof.Machine.execVgdRise s
  | .hvLinkUp => Sys2Proof.Machine.execHvLinkUp s
  | .rolePadChange role0 role1 => Sys2Proof.Machine.execRolePadChange role0 role1 s
  | .tamperEvent src => Sys2Proof.Machine.execTamperEvent src s
  | .secureRegionFill => Sys2Proof.Machine.execSecureRegionFill s
  | .tamperFlashMarker => Sys2Proof.Machine.execTamperFlashMarker s
  | .pllLock p pinMv => Sys2Proof.Machine.execPllLock p pinMv s
  | .pllUnlock p pinMv => Sys2Proof.Machine.execPllUnlock p pinMv s
  | .pllLockTimeout lane => Sys2Proof.Machine.execPllLockTimeout lane s
  | .clkSysLost => Sys2Proof.Machine.execClkSysLost s
  | .safeClockReturn => Sys2Proof.Machine.execSafeClockReturn s
  | .xinLost => Sys2Proof.Machine.execXinLost s
  | .xinReturn elapsed => Sys2Proof.Machine.execXinReturn elapsed s
  | .rampStart r g => Sys2Proof.Machine.execRampStart r g s
  | .rampAbort r g => Sys2Proof.Machine.execRampAbort r g s
  | .rampSegmentEnd g => Sys2Proof.Machine.execRampSegmentEnd g s
  | .laneSpreadEnd => Sys2Proof.Machine.execLaneSpreadEnd s
  | .stageBoundary b => Sys2Proof.Machine.execStageBoundary b s
  | .atExecution session => Sys2Proof.Machine.execAtExecution session s
  | .eccWriteback word => Sys2Proof.Machine.execEccWriteback word s
  | .marchPreservingBlock failWord ecc => Sys2Proof.Machine.execMarchPreservingBlock failWord ecc s
  | .snapshotCopyDone session => Sys2Proof.Machine.execSnapshotCopyDone session s
  | .lcNonceRefresh => Sys2Proof.Machine.execLcNonceRefresh s
  | .lifecycleComplete flashOk => Sys2Proof.Machine.execLifecycleComplete flashOk s
  | .udpDatagram port srcIp srcPort unfit bytes => Sys2Proof.Machine.execUdpDatagram port srcIp srcPort unfit bytes s
  | .canCmdSegment c bytes => Sys2Proof.Machine.execCanCmdSegment c bytes s
  | .canSegmentTimeout c => Sys2Proof.Machine.execCanSegmentTimeout c s
  | .canReplyAbandon c => Sys2Proof.Machine.execCanReplyAbandon c s
  | .monLine line => Sys2Proof.Machine.execMonLine line s
  | .sessionOpen session src payload => Sys2Proof.Machine.execSessionOpen session src payload s
  | .sessionClose r payload => Sys2Proof.Machine.execSessionClose r payload s
  | .sessionIdleTimeout session => Sys2Proof.Machine.execSessionIdleTimeout session s
  | .sequenceGapTimeout session => Sys2Proof.Machine.execSequenceGapTimeout session s
  | .progressReply session permille => Sys2Proof.Machine.execProgressReply session permille s
  | .longVerbTimeout session => Sys2Proof.Machine.execLongVerbTimeout session s
  | .get r shadow addr len elapsed ecc => Sys2Proof.Machine.execGet r shadow addr len elapsed ecc s
  | .set r addr data => Sys2Proof.Machine.execSet r addr data s
  | .snapshot r ranges => Sys2Proof.Machine.execSnapshot r ranges s
  | .applyCommit r => Sys2Proof.Machine.execApplyCommit r s
  | .applyDiscard r => Sys2Proof.Machine.execApplyDiscard r s
  | .shadowCommit session => Sys2Proof.Machine.execShadowCommit session s
  | .state r target => Sys2Proof.Machine.execState r target s
  | .startConverter r => Sys2Proof.Machine.execStartConverter r s
  | .startDrive r => Sys2Proof.Machine.execStartDrive r s
  | .stopConverter r => Sys2Proof.Machine.execStopConverter r s
  | .stopDrive r => Sys2Proof.Machine.execStopDrive r s
  | .stopArm r arm => Sys2Proof.Machine.execStopArm r arm s
  | .trip r reason => Sys2Proof.Machine.execTrip r reason s
  | .clearFaults r params token => Sys2Proof.Machine.execClearFaults r params token s
  | .clearDrive r params token => Sys2Proof.Machine.execClearDrive r params token s
  | .clearCanRecover r params token => Sys2Proof.Machine.execClearCanRecover r params token s
  | .clearSafety r params token => Sys2Proof.Machine.execClearSafety r params token s
  | .roleReport r => Sys2Proof.Machine.execRoleReport r s
  | .roleYield r => Sys2Proof.Machine.execRoleYield r s
  | .setpoint r entries => Sys2Proof.Machine.execSetpoint r entries s
  | .ramp r id target rate => Sys2Proof.Machine.execRamp r id target rate s
  | .routeTrain r param => Sys2Proof.Machine.execRouteTrain r param s
  | .linkPrbs r param => Sys2Proof.Machine.execLinkPrbs r param s
  | .linkInject r param => Sys2Proof.Machine.execLinkInject r param s
  | .safeParamWrite r param => Sys2Proof.Machine.execSafeParamWrite r param s
  | .safeParamCommit r param => Sys2Proof.Machine.execSafeParamCommit r param s
  | .safeParamDiscard r param => Sys2Proof.Machine.execSafeParamDiscard r param s
  | .calAdc r x param => Sys2Proof.Machine.execCalAdc r x param s
  | .calAdc4 r param => Sys2Proof.Machine.execCalAdc4 r param s
  | .calSdOffset r param => Sys2Proof.Machine.execCalSdOffset r param s
  | .journal r start count => Sys2Proof.Machine.execJournal r start count s
  | .logbookTrigger r => Sys2Proof.Machine.execLogbookTrigger r s
  | .logbookRelease r => Sys2Proof.Machine.execLogbookRelease r s
  | .logbookRead r slot firstCell count ecc => Sys2Proof.Machine.execLogbookRead r slot firstCell count ecc s
  | .parcel r cell fromCell body => Sys2Proof.Machine.execParcel r cell fromCell body s
  | .lifecycleTransition r target authKind newKey signature => Sys2Proof.Machine.execLifecycleTransition r target authKind newKey signature s
  | .saveConfig r => Sys2Proof.Machine.execSaveConfig r s
  | .firmwareBegin r size => Sys2Proof.Machine.execFirmwareBegin r size s
  | .firmwareWrite r offset data => Sys2Proof.Machine.execFirmwareWrite r offset data s
  | .firmwareCommit r => Sys2Proof.Machine.execFirmwareCommit r s
  | .firmwareAbort r => Sys2Proof.Machine.execFirmwareAbort r s
  | .firmwareActivate r => Sys2Proof.Machine.execFirmwareActivate r s
  | .firmwareRestart inp => Sys2Proof.Machine.execFirmwareRestart inp s
  | .firmwareConfirm => Sys2Proof.Machine.execFirmwareConfirm s
  | .crc r channel start len => Sys2Proof.Machine.execCrc r channel start len s
  | .echo r payload => Sys2Proof.Machine.execEcho r payload s
  | .takeOut r cell => Sys2Proof.Machine.execTakeOut r cell s
  | .release r cell => Sys2Proof.Machine.execRelease r cell s
  | .loopSlotModeWrite r slot mode manOut => Sys2Proof.Machine.execLoopSlotModeWrite r slot mode manOut s
  | .linkLos l => Sys2Proof.Machine.execLinkLos l s
  | .linkBlockLockLoss l invalid => Sys2Proof.Machine.execLinkBlockLockLoss l invalid s
  | .linkLocked l => Sys2Proof.Machine.execLinkLocked l s
  | .linkUp l => Sys2Proof.Machine.execLinkUp l s
  | .quietTraining n => Sys2Proof.Machine.execQuietTraining n s
  | .trainingLockTimeout l => Sys2Proof.Machine.execTrainingLockTimeout l s
  | .trainingComplete n partner outbound return_ => Sys2Proof.Machine.execTrainingComplete n partner outbound return_ s
  | .liveTraining n => Sys2Proof.Machine.execLiveTraining n s
  | .ledgerTrainReceived n ret bytes invalid => Sys2Proof.Machine.execLedgerTrainReceived n ret bytes invalid s
  | .ledgerCut heard => Sys2Proof.Machine.execLedgerCut heard s
  | .waybillCut => Sys2Proof.Machine.execWaybillCut s
  | .routeFrameLaunch => Sys2Proof.Machine.execRouteFrameLaunch s
  | .parcelChunkResend cell => Sys2Proof.Machine.execParcelChunkResend cell s
  | .parcelBusyRetry cell => Sys2Proof.Machine.execParcelBusyRetry cell s
  | .parcelTimeout cell => Sys2Proof.Machine.execParcelTimeout cell s
  | .loopIssue misses ecc => Sys2Proof.Machine.execLoopIssue misses ecc s
  | .loopOutputHandover => Sys2Proof.Machine.execLoopOutputHandover s
  | .edgeComputation margin => Sys2Proof.Machine.execEdgeComputation margin s
  | .driveEdgeSet => Sys2Proof.Machine.execDriveEdgeSet s
  | .edgeSetCheck arrived => Sys2Proof.Machine.execEdgeSetCheck arrived s
  | .edgeClockStopped => Sys2Proof.Machine.execEdgeClockStopped s
  | .debugHalt => Sys2Proof.Machine.execDebugHalt s
  | .policySignalDeadline late => Sys2Proof.Machine.execPolicySignalDeadline late s
  | .bypassConfirmTimeout cell => Sys2Proof.Machine.execBypassConfirmTimeout cell s
  | .contactTimeout => Sys2Proof.Machine.execContactTimeout s
  | .prechargeTimeout => Sys2Proof.Machine.execPrechargeTimeout s
  | .syncTimeout => Sys2Proof.Machine.execSyncTimeout s
  | .stopTimeout => Sys2Proof.Machine.execStopTimeout s
  | .rampdownEnd => Sys2Proof.Machine.execRampdownEnd s
  | .derateClear => Sys2Proof.Machine.execDerateClear s
  | .gridLost => Sys2Proof.Machine.execGridLost s
  | .logbookFrozen => Sys2Proof.Machine.execLogbookFrozen s
  | .hvsStatusFrame hb legs ov ds6 => Sys2Proof.Machine.execHvsStatusFrame hb legs ov ds6 s
  | .desat ch quick on => Sys2Proof.Machine.execDesat ch quick on s
  | .ocFast leg centivolts quick on => Sys2Proof.Machine.execOcFast leg centivolts quick on s
  | .softTurnoffEnd => Sys2Proof.Machine.execSoftTurnoffEnd s
  | .drvShortPersist leg => Sys2Proof.Machine.execDrvShortPersist leg s
  | .ovTrip volts => Sys2Proof.Machine.execOvTrip volts s
  | .drvBusOv => Sys2Proof.Machine.execDrvBusOv s
  | .ovBrakeOn volts => Sys2Proof.Machine.execOvBrakeOn volts s
  | .ovBrakeOff volts => Sys2Proof.Machine.execOvBrakeOff volts s
  | .bootstrapUv leg => Sys2Proof.Machine.execBootstrapUv leg s
  | .switchTimeMeasure ch first span => Sys2Proof.Machine.execSwitchTimeMeasure ch first span s
  | .adaptLevel => Sys2Proof.Machine.execAdaptLevel s
  | .bootChargeCheck => Sys2Proof.Machine.execBootChargeCheck s
  | .driveStopEnd late => Sys2Proof.Machine.execDriveStopEnd late s
  | .stoLineChange asserted => Sys2Proof.Machine.execStoLineChange asserted s
  | .encoderEdge a b z => Sys2Proof.Machine.execEncoderEdge a b z s
  | .overspeed => Sys2Proof.Machine.execOverspeed s
  | .ntcSample code0 code1 over0 over1 => Sys2Proof.Machine.execNtcSample code0 code1 over0 over1 s
  | .adcStopTrigger x late => Sys2Proof.Machine.execAdcStopTrigger x late s
  | .adcResultWrite x convs ago sample => Sys2Proof.Machine.execAdcResultWrite x convs ago sample s
  | .measHandoverCut => Sys2Proof.Machine.execMeasHandoverCut s
  | .resultStale x => Sys2Proof.Machine.execResultStale x s
  | .sdFilterOutput m code ovr ago sample => Sys2Proof.Machine.execSdFilterOutput m code ovr ago sample s
  | .sdBitstreamLost m => Sys2Proof.Machine.execSdBitstreamLost m s
  | .sdBitstreamRecover m => Sys2Proof.Machine.execSdBitstreamRecover m s
  | .reliefRunStart => Sys2Proof.Machine.execReliefRunStart s
  | .reliefHandover => Sys2Proof.Machine.execReliefHandover s
  | .reliefCalEnd coefs => Sys2Proof.Machine.execReliefCalEnd coefs s
  | .reliefHandback => Sys2Proof.Machine.execReliefHandback s
  | .autoCalRequest => Sys2Proof.Machine.execAutoCalRequest s
  | .ilkClaimLoss => Sys2Proof.Machine.execIlkClaimLoss s
  | .claimHwDrop => Sys2Proof.Machine.execClaimHwDrop s
  | .claimDecision => Sys2Proof.Machine.execClaimDecision s
  | .keeperGrant => Sys2Proof.Machine.execKeeperGrant s
  | .keeperFrameReceived b frame frames src serial => Sys2Proof.Machine.execKeeperFrameReceived b frame frames src serial s
  | .porterFrameReceived b frame serial => Sys2Proof.Machine.execPorterFrameReceived b frame serial s
  | .digestMissing => Sys2Proof.Machine.execDigestMissing s
  | .porterLatch => Sys2Proof.Machine.execPorterLatch s
  | .selfcheckOutcome => Sys2Proof.Machine.execSelfcheckOutcome s
  | .takeoverClaim => Sys2Proof.Machine.execTakeoverClaim s
  | .takeover missed => Sys2Proof.Machine.execTakeover missed s
  | .yieldHandover => Sys2Proof.Machine.execYieldHandover s
  | .joinStart => Sys2Proof.Machine.execJoinStart s
  | .joinStep ok delay delta image => Sys2Proof.Machine.execJoinStep ok delay delta image s
  | .joinRetry => Sys2Proof.Machine.execJoinRetry s
  | .safetyCycle c => Sys2Proof.Machine.execSafetyCycle c s
  | .resetValidityExpiry => Sys2Proof.Machine.execResetValidityExpiry s
  | .ss1DelayEnd => Sys2Proof.Machine.execSs1DelayEnd s
  | .outputTestPulse j low next => Sys2Proof.Machine.execOutputTestPulse j low next s
  | .feedbackMismatch j => Sys2Proof.Machine.execFeedbackMismatch j s
  | .controllerMessage => Sys2Proof.Machine.execControllerMessage s
  | .controllerLinkLoss => Sys2Proof.Machine.execControllerLinkLoss s
  | .controllerLinkRestore => Sys2Proof.Machine.execControllerLinkRestore s
  | .islandStart inp => Sys2Proof.Machine.execIslandStart inp s
  | .islandWatchdog inp => Sys2Proof.Machine.execIslandWatchdog inp s
  | .programCrcCheck ok => Sys2Proof.Machine.execProgramCrcCheck ok s
  | .ethLinkUp p speedBad remoteFault => Sys2Proof.Machine.execEthLinkUp p speedBad remoteFault s
  | .ethLinkDown p => Sys2Proof.Machine.execEthLinkDown p s
  | .ethFrameReceived p f => Sys2Proof.Machine.execEthFrameReceived p f s
  | .arpResolveRetry p ip => Sys2Proof.Machine.execArpResolveRetry p ip s
  | .arpRenewal p ip => Sys2Proof.Machine.execArpRenewal p ip s
  | .mdioStart r p op phyad regad data => Sys2Proof.Machine.execMdioStart r p op phyad regad data s
  | .mdioCycleDone p data => Sys2Proof.Machine.execMdioCycleDone p data s
  | .timedFrameLaunch p late => Sys2Proof.Machine.execTimedFrameLaunch p late s
  | .telegramLaunch t => Sys2Proof.Machine.execTelegramLaunch t s
  | .ptpSyncReceived p domain sender delta => Sys2Proof.Machine.execPtpSyncReceived p domain sender delta s
  | .ptpAnnounceReceived p domain a => Sys2Proof.Machine.execPtpAnnounceReceived p domain a s
  | .ptpAnnounceTimeout p => Sys2Proof.Machine.execPtpAnnounceTimeout p s
  | .ptpSyncSend p => Sys2Proof.Machine.execPtpSyncSend p s
  | .ptpPdelay p times => Sys2Proof.Machine.execPtpPdelay p times s
  | .ptpSyncLoss => Sys2Proof.Machine.execPtpSyncLoss s
  | .ptpHoldoverExpiry => Sys2Proof.Machine.execPtpHoldoverExpiry s
  | .canFrameReceived c f ageNs => Sys2Proof.Machine.execCanFrameReceived c f ageNs s
  | .txReq r c n started => Sys2Proof.Machine.execTxReq r c n started s
  | .ack r c n count => Sys2Proof.Machine.execAck r c n count s
  | .canCycleTrigger c n started => Sys2Proof.Machine.execCanCycleTrigger c n started s
  | .canTxDone c n => Sys2Proof.Machine.execCanTxDone c n s
  | .canTxError c n err => Sys2Proof.Machine.execCanTxError c n err s
  | .canOneshotDeadline c n => Sys2Proof.Machine.execCanOneshotDeadline c n s
  | .canBusoff c => Sys2Proof.Machine.execCanBusoff c s
  | .canRecoveryDone c => Sys2Proof.Machine.execCanRecoveryDone c s
  | .canReferenceSend c ageNs acked => Sys2Proof.Machine.execCanReferenceSend c ageNs acked s
  | .canBackupMasterTimeout c ageNs acked => Sys2Proof.Machine.execCanBackupMasterTimeout c ageNs acked s
  | .busTimeCycleMissing => Sys2Proof.Machine.execBusTimeCycleMissing s
  | .canRxStale c n => Sys2Proof.Machine.execCanRxStale c n s
  | .dieSensorSample d => Sys2Proof.Machine.execDieSensorSample d s
  | .thermalFactorStep f => Sys2Proof.Machine.execThermalFactorStep f s
  | .monHalt => Sys2Proof.Machine.execMonHalt s
  | .monDump addr len elapsed ecc => Sys2Proof.Machine.execMonDump addr len elapsed ecc s
  | .monPrbs link pattern duration => Sys2Proof.Machine.execMonPrbs link pattern duration s
  | .monInject link kind n hop => Sys2Proof.Machine.execMonInject link kind n hop s
  | .monStat => Sys2Proof.Machine.execMonStat s
  | .monUnlockChallenge => Sys2Proof.Machine.execMonUnlockChallenge s
  | .monUnlock signature => Sys2Proof.Machine.execMonUnlock signature s
  | .monLock => Sys2Proof.Machine.execMonLock s
  | .monUnlockIdle => Sys2Proof.Machine.execMonUnlockIdle s
  | .monAuthBackoffEnd => Sys2Proof.Machine.execMonAuthBackoffEnd s
  | .monBreak => Sys2Proof.Machine.execMonBreak s
  | .monFramingError => Sys2Proof.Machine.execMonFramingError s
  | .monLineStall => Sys2Proof.Machine.execMonLineStall s
  | .partnerClaimPresent => Sys2Proof.Machine.execPartnerClaimPresent s
  | .vgdOkRise => Sys2Proof.Machine.execVgdOkRise s
  | .laneRefReturnDone => Sys2Proof.Machine.execLaneRefReturnDone s
  | .pairFrameLaunch => Sys2Proof.Machine.execPairFrameLaunch s
  | .ptpAnnounceSend p => Sys2Proof.Machine.execPtpAnnounceSend p s
  | .ptpPdelayRequest p => Sys2Proof.Machine.execPtpPdelayRequest p s
  | .configRecordWritten flashOk => Sys2Proof.Machine.execConfigRecordWritten flashOk s
  | .firmwareBeginDone flashOk => Sys2Proof.Machine.execFirmwareBeginDone flashOk s
  | .firmwareCommitDone => Sys2Proof.Machine.execFirmwareCommitDone s
  | .flashCrcDone => Sys2Proof.Machine.execFlashCrcDone s
  | .prbsTestEnd l count locked => Sys2Proof.Machine.execPrbsTestEnd l count locked s
  | .adc4CalDone coefs => Sys2Proof.Machine.execAdc4CalDone coefs s
  | .safeParamCommitDone => Sys2Proof.Machine.execSafeParamCommitDone s

end Sys2Proof.Machine
end

