-- ==== Sys2Proof/WellFormed.lean ====
section
/-! DEFINITION. Well-formed commands: operands that the block's interfaces can carry (R105, R109, R112, R146, R151, R165, R539). Every meaning is total,
on a command that is not well-formed too. -/

namespace Sys2Proof

open Sys2Proof.Machine

/-- The 64-bit words of the memory window (R104, R112). -/
def memWords : Nat := 16777216

/-- Words of the window. -/
def eccOk (l : List EccHit) : Bool := l.all (fun e => decide (e.word < memWords))

/-- A multiple of 4 between two bounds. -/
def between (n lo hi : Nat) : Bool := decide (lo ≤ n ∧ n ≤ hi ∧ n % 4 = 0)

/-- The token of a CLEAR with SAFETY, and of no other (R169, R510). -/
def tokenOk (params : Word) (token : List Byte) : Bool := token.length == (if params.getLsbD 4 then 32 else 0)

/-- A pair of coefficients for each of the four gains. -/
def fourCoefs (l : List (Int × Int)) : Bool := l.length == 4

/-- A classical frame has no more than 8 bytes of data, a CAN FD frame 64 and no remote request (R539). -/
def frameOk (f : CanFrame) : Bool := if f.fdf then f.data.length ≤ 64 && !f.rtr else f.data.length ≤ 8

/-- A command whose operands its interface can carry. -/
def Instr.wf (i : Instr) : Bool :=
  match i with
  | .stageBoundary b => b.mono < 2 ^ 48
  | .eccWriteback word => word < memWords
  | .udpDatagram _ _ _ _ bytes => bytes.length ≤ 65507
  | .canCmdSegment _ bytes => bytes.length ≤ 64
  | .monLine line => !(line.contains 10)
  | .sessionOpen _ _ payload => decide (payload.length ≤ 1400)
  | .sessionClose _ payload => decide (payload.length ≤ 1400)
  | .get _ _ _ len _ ecc => between len.toNat 4 1400 && eccOk ecc
  | .set _ _ data => between data.length 4 1400
  | .snapshot _ ranges => decide (1 ≤ ranges.length ∧ ranges.length ≤ 16)
  | .clearFaults _ params token => tokenOk params token
  | .clearDrive _ params token => tokenOk params token
  | .clearCanRecover _ params token => tokenOk params token
  | .clearSafety _ params token => tokenOk params token
  | .setpoint _ entries => decide (1 ≤ entries.length ∧ entries.length ≤ 32)
  | .logbookRead _ _ _ _ ecc => eccOk ecc
  | .parcel _ _ _ body => decide (body.length ≤ 1392)
  | .lifecycleTransition _ _ _ newKey signature => decide (newKey.length = 32 ∧ signature.length = 64)
  | .firmwareWrite _ _ data => decide (data.length ≤ 1392)
  | .echo _ payload => decide (payload.length ≤ 1400)
  | .loopIssue _ ecc => eccOk ecc
  | .reliefCalEnd coefs => fourCoefs coefs
  | .ethFrameReceived _ f => decide (f.length ≤ 65535)
  | .canFrameReceived _ f _ => frameOk f
  | .monDump _ _ _ ecc => eccOk ecc
  | .monUnlock signature => decide (signature.length = 64)
  | .adc4CalDone coefs => fourCoefs coefs
  | .vinRiseKeepalive | .coldStart _ | .brownoutSequence _ | .overvoltageSequence _ | .keepaliveEntry | .keepaliveReturn _ | .vinOff
  | .resetAssert | .resetRelease _ | .watchdogRestart _ | .supplyStatUpdate _ _ | .vioBankClassified _ _ | .vioBankFault _
  | .vgdUndervoltage | .vgdRise | .hvLinkUp | .rolePadChange _ _ | .tamperEvent _ | .secureRegionFill | .tamperFlashMarker | .pllLock _ _
  | .pllUnlock _ _ | .pllLockTimeout _ | .clkSysLost | .safeClockReturn | .xinLost | .xinReturn _ | .rampStart _ _ | .rampAbort _ _
  | .rampSegmentEnd _ | .laneSpreadEnd | .atExecution _ | .marchPreservingBlock _ _ | .snapshotCopyDone _ | .lcNonceRefresh
  | .lifecycleComplete _ | .canSegmentTimeout _ | .canReplyAbandon _ | .sessionIdleTimeout _ | .sequenceGapTimeout _ | .progressReply _ _
  | .longVerbTimeout _ | .applyCommit _ | .applyDiscard _ | .shadowCommit _ | .state _ _ | .startConverter _ | .startDrive _
  | .stopConverter _ | .stopDrive _ | .stopArm _ _ | .trip _ _ | .roleReport _ | .roleYield _ | .ramp _ _ _ _ | .routeTrain _ _
  | .linkPrbs _ _ | .linkInject _ _ | .safeParamWrite _ _ | .safeParamCommit _ _ | .safeParamDiscard _ _ | .calAdc _ _ _ | .calAdc4 _ _
  | .calSdOffset _ _ | .journal _ _ _ | .logbookTrigger _ | .logbookRelease _ | .saveConfig _ | .firmwareBegin _ _ | .firmwareCommit _
  | .firmwareAbort _ | .firmwareActivate _ | .firmwareRestart _ | .firmwareConfirm | .crc _ _ _ _ | .takeOut _ _ | .release _ _
  | .loopSlotModeWrite _ _ _ _ | .linkLos _ | .linkBlockLockLoss _ _ | .linkLocked _ | .linkUp _ | .quietTraining _
  | .trainingLockTimeout _ | .trainingComplete _ _ _ _ | .liveTraining _ | .ledgerTrainReceived _ _ _ _ | .ledgerCut _ | .waybillCut
  | .routeFrameLaunch | .parcelChunkResend _ | .parcelBusyRetry _ | .parcelTimeout _ | .loopOutputHandover | .edgeComputation _
  | .driveEdgeSet | .edgeSetCheck _ | .edgeClockStopped | .debugHalt | .policySignalDeadline _ | .bypassConfirmTimeout _ | .contactTimeout
  | .prechargeTimeout | .syncTimeout | .stopTimeout | .rampdownEnd | .derateClear | .gridLost | .logbookFrozen | .hvsStatusFrame _ _ _ _
  | .desat _ _ _ | .ocFast _ _ _ _ | .softTurnoffEnd | .drvShortPersist _ | .ovTrip _ | .drvBusOv | .ovBrakeOn _ | .ovBrakeOff _
  | .bootstrapUv _ | .switchTimeMeasure _ _ _ | .adaptLevel | .bootChargeCheck | .driveStopEnd _ | .stoLineChange _ | .encoderEdge _ _ _
  | .overspeed | .ntcSample _ _ _ _ | .adcStopTrigger _ _ | .adcResultWrite _ _ _ _ | .measHandoverCut | .resultStale _
  | .sdFilterOutput _ _ _ _ _ | .sdBitstreamLost _ | .sdBitstreamRecover _ | .reliefRunStart | .reliefHandover | .reliefHandback
  | .autoCalRequest | .ilkClaimLoss | .claimHwDrop | .claimDecision | .keeperGrant | .keeperFrameReceived _ _ _ _ _
  | .porterFrameReceived _ _ _ | .digestMissing | .porterLatch | .selfcheckOutcome | .takeoverClaim | .takeover _ | .yieldHandover
  | .joinStart | .joinStep _ _ _ _ | .joinRetry | .safetyCycle _ | .resetValidityExpiry | .ss1DelayEnd | .outputTestPulse _ _ _
  | .feedbackMismatch _ | .controllerMessage | .controllerLinkLoss | .controllerLinkRestore | .islandStart _ | .islandWatchdog _
  | .programCrcCheck _ | .ethLinkUp _ _ _ | .ethLinkDown _ | .arpResolveRetry _ _ | .arpRenewal _ _ | .mdioStart _ _ _ _ _ _
  | .mdioCycleDone _ _ | .timedFrameLaunch _ _ | .telegramLaunch _ | .ptpSyncReceived _ _ _ _ | .ptpAnnounceReceived _ _ _
  | .ptpAnnounceTimeout _ | .ptpSyncSend _ | .ptpPdelay _ _ | .ptpSyncLoss | .ptpHoldoverExpiry | .txReq _ _ _ _ | .ack _ _ _ _
  | .canCycleTrigger _ _ _ | .canTxDone _ _ | .canTxError _ _ _ | .canOneshotDeadline _ _ | .canBusoff _ | .canRecoveryDone _
  | .canReferenceSend _ _ _ | .canBackupMasterTimeout _ _ _ | .busTimeCycleMissing | .canRxStale _ _ | .dieSensorSample _
  | .thermalFactorStep _ | .monHalt | .monPrbs _ _ _ | .monInject _ _ _ _ | .monStat | .monUnlockChallenge | .monLock | .monUnlockIdle
  | .monAuthBackoffEnd | .monBreak | .monFramingError | .monLineStall | .partnerClaimPresent | .vgdOkRise | .laneRefReturnDone
  | .pairFrameLaunch | .ptpAnnounceSend _ | .ptpPdelayRequest _ | .configRecordWritten _ | .firmwareBeginDone _ | .firmwareCommitDone
  | .flashCrcDone | .prbsTestEnd _ _ _ | .safeParamCommitDone => true

end Sys2Proof
end

