-- ==== Sys2Proof/Safety.lean ====
section
/-! DEFINITION. The terms in which the statements speak of states: what a command leaves unchanged, when the command path takes a
verb's packet at once and what it then answers, and the canonical forms. -/

namespace Sys2Proof.Machine

open Sys2Proof

/-! ### What stays -/

/-- Every register field that shares no bit with a field of a list reads in `t` as in `s`. -/
def Keeps (s t : State) (fs : List Fld) : Prop := ∀ g : Fld, g.within → (∀ f ∈ fs, f.apart g) → t.rd g = s.rd g

/-- Every word of the object space outside the spans [first, end) of a list reads in `t` as in `s`. -/
def KeepsOutside (s t : State) (spans : List (Nat × Nat)) : Prop := ∀ a : Nat, (∀ p ∈ spans, a < p.1 ∨ p.2 ≤ a) → t.word a = s.word a

/-- The fields that an entry put into the journal's queue may change (R453). -/
def journalFlds : List Fld := [Reg.JRNL_STAT_QUEUED, Reg.JRNL_STAT_DROPPED]

/-- A count that saturates, one further (R183). -/
def State.oneMore (s : State) (f : Fld) : Nat := min (s.rd f + 1) f.top

/-- The controller is supplied and not held in reset (R32, R50). -/
def Powered (s : State) : Prop := s.power.region = .full ∧ s.power.held = false

/-- A fault with a code waits to be raised at the next stage boundary (R448). -/
def FaultDue (t : State) (code : Nat) : Prop := ∃ f ∈ t.flt.pending, f.code = code

/-- What an event adds to the journal's queue (R453, R454): nothing where the queue is full or the recovery program runs. -/
def State.queueEvent (s : State) (code : Nat) (subject : Nat := 0) (data : List Byte := []) : List JEntry :=
  s.queueWith (s.jentry code 0 subject data false)

/-! ### Canonical forms -/

/-- The canonical form of the sparse words: addresses strictly rising, no word listed that stands at its reset value. -/
def Words.wf (l : List (Nat × Word)) : Bool :=
  decide (l.Pairwise (fun x y => x.1 < y.1)) && l.all (fun p => p.2 != resetWord p.1)

/-! ### Verbs -/

/-- The command path executes a verb's packet at once, in its own right: the controller runs, the module serves commands, the session is
open and has nothing outstanding, it is the scheduler's choice, its source is not the monitor, the mood is NOW, and neither the recovery program nor
the life cycle bars the verb (R22, R129, R155, R158, R159, R178, R592). -/
def Ready (s : State) (r : Req) (verb : Nat) : Prop :=
  s.running = true ∧ s.isKeeper = true ∧ s.isOpen r.session = true ∧ (s.sess r.session).waiting = [] ∧ (s.sess r.session).due = none
    ∧ (s.sess r.session).busy = none ∧ (s.sess r.session).src.path ≠ .mon ∧ r.mood = .now ∧ r.mirrored = false ∧ s.recovery = false
    ∧ s.lifecycleBars verb = false ∧ s.chosen r.session = true

/-- The head that a verb's packet at the base sequence has. -/
def headAt (s : State) (r : Req) (verb flags : Nat) : Head := headOf r verb flags (s.baseSeq r.session)

/-- A final reply to the command of a head goes to a source (R147). -/
def Replied (t : State) (dst : Source) (h : Head) (status : Nat) (payload : List Byte) (stage : Nat) : Prop :=
  ∃ credit : Nat, Out.reply dst { head := h, interim := false, status := status, credit := credit, boot := t.boot16, stage := stage,
                                  payload := payload } ∈ t.out

/-- The state in which the action of a ready verb finds the block: a fresh list of outputs, the packet counted (R155), the session chosen (R158). -/
def State.taken (s : State) (r : Req) : State := { State.countAccepted { s with out := [] } r.session with turn := r.session }

/-- The command of a ready verb has completed: the base sequence is one further, its reply goes to the session's source (R155), and no
other session has changed. -/
def Completed (s t : State) (r : Req) (verb flags status : Nat) (payload : List Byte) (stage : Nat) : Prop :=
  t.baseSeq r.session = (s.baseSeq r.session + 1) % 2 ^ 32 ∧ (∀ j : Fin 4, j ≠ r.session → t.sess j = s.sess j)
    ∧ Replied t (s.sess r.session).src (headAt s r verb flags) status payload stage

/-- The command of a ready verb is in execution as a longer operation: its reply is still to come (R172). -/
def Started (s t : State) (r : Req) (verb : Nat) (op : LongOp) (stage : Nat) : Prop :=
  t.baseSeq r.session = s.baseSeq r.session ∧ (∀ j : Fin 4, j ≠ r.session → t.sess j = s.sess j)
    ∧ (t.sess r.session).busy = some { head := headAt s r verb 0, op := op, stage := stage, late := false }

/-- The fields that accepting and completing a command of a session may change (R182, and TX_FRAMES of the port that carries the
reply). -/
def sessionFlds (i : Fin 4) : List Fld :=
  [Reg.CMD_SESSION_BASE_SEQ i, Reg.CMD_SESSION_OUTSTANDING i, Reg.CMD_SESSION_SHADOW_COUNT i, Reg.CMD_SESSION_IDLE i,
   Reg.CMD_SESSION_ACCEPTED i, Reg.ETH_STAT_TX_FRAMES 0, Reg.ETH_STAT_TX_FRAMES 1]

/-- Those, and the fields that opening and closing a session, and what comes to it out of turn, may change (R182). -/
def openFlds (i : Fin 4) : List Fld :=
  sessionFlds i ++ [Reg.CMD_SESSION_OPEN i, Reg.CMD_SESSION_PATH i, Reg.CMD_SESSION_SOURCE_IP i, Reg.CMD_SESSION_SOURCE_PORT i,
    Reg.CMD_SESSION_GAP_COUNT i, Reg.CMD_SESSION_DUPLICATE i]

/-- A session executes an operation and has nothing else outstanding. -/
def Executes (s : State) (i : Fin 4) (b : BusyCmd) : Prop :=
  s.running = true ∧ s.isKeeper = true ∧ (s.sess i).busy = some b ∧ (s.sess i).waiting = [] ∧ (s.sess i).src.path ≠ .mon

/-- It has ended: its final reply goes to the session's source, the base sequence is past it, and no other session has changed. -/
def Ended (s t : State) (i : Fin 4) (b : BusyCmd) (status : Nat) (payload : List Byte) : Prop :=
  (t.sess i).busy = none ∧ t.baseSeq i = (b.head.seq + 1) % 2 ^ 32 ∧ (∀ j : Fin 4, j ≠ i → t.sess j = s.sess j)
    ∧ Replied t (s.sess i).src b.head (b.final status) payload (s.stageOf b)

/-- The command path of an Ethernet port (R150). -/
def portPath (p : Fin 2) : Path := if p = 0 then .etha else .ethb

/-- An object no write of which acts at once (R72, R97, R294, R347, R349, R528, R542, R546): not CLK_RAMP, CELL_SVC, LOOP_SLOT_MODE, ETH_MDIO
or CAN_OBJ. -/
def plainObject (a : Nat) : Prop :=
  ∃ o l q, objAt a = some (o, l, q) ∧ o.base ∉ [0x01000100, 0x05000040, 0x07300000, 0x0D000200, 0x0D201000]

/-- A session's shadow set after a SET of the objects of a span (R162). -/
def State.setAfter (s : State) (i : Fin 4) (a : Nat) (data : List Byte) (objs : List (Nat × Nat)) : List (Nat × List Byte) :=
  shadowStore (s.sess i).shadow
    ((objs.map (fun p => (p.1, slice data (p.1 - a) p.2))).filter (fun p => objectShadowed p.1 p.2.length))

/-- The fields that show the image slots (R599). -/
def fwFlds : List Fld :=
  ([0, 1] : List Nat).flatMap (fun n => [Reg.ID_FW_STAT_STATE n, Reg.ID_FW_STAT_BOOTED n, Reg.ID_FW_STAT_TRIAL_STARTS n,
    Reg.ID_FW_STAT_ROLLBACK n, Reg.ID_FW_STAT_VERSION n]) ++ [Reg.ID_FW_ROLLBACK_ROLLBACK_MIN, Reg.ID_FW_ROLLBACK_FIRMWARE_ID]

/-- A whole word as a field. -/
def wordFld (a : Nat) : Fld := ⟨a, 31, 0⟩

/-! ### Routes -/

/-- The fields that powering a link down may change (R188, R216). -/
def powerFlds (l : Nat) : List Fld :=
  [Reg.LANE_STAT_LOCKED l, Reg.LANE_STAT_LOS l, Reg.LANE_STAT_CDR_LOCK l, Reg.LANE_STAT_BLOCK_LOCK l, Reg.LANE_STAT_UP l, Reg.LANE_STAT_USE l,
   Reg.LANE_STAT_LOL_SEEN l, Reg.LANE_CNT_LOCK_LOSS l]

/-- The fields that giving a route's links their uses may change: in a pair the end of the other module is powered down here (R188, R216). -/
def State.useFlds (s : State) (n : Nat) : List Fld :=
  [Reg.LANE_STAT_USE (2 * n), Reg.LANE_STAT_USE (2 * n + 1)] ++ (if s.paired then powerFlds (linkOf n (!s.second)) else [])

/-- Those, and the fields that beginning a training of a route may change (R193, R247). -/
def State.routeFlds (s : State) (n : Nat) : List Fld :=
  s.useFlds n ++ [Reg.ROUTE_STAT_STATE n, Reg.ROUTE_RUN_REACH_OUT n, Reg.ROUTE_RUN_REACH_RET n, Reg.ROUTE_RUN_CLOSED n,
    Reg.ROUTE_RUN_CHANGE_STAGE n]

/-- Those, and the fields of a link that a change of its lock may change (R214). -/
def State.lockFlds (s : State) (l : Nat) : List Fld :=
  [Reg.LANE_STAT_LOCKED l, Reg.LANE_STAT_UP l, Reg.LANE_STAT_LOL_SEEN l, Reg.LANE_CNT_LOCK_LOSS l] ++ s.routeFlds (l / 2)

/-- The stages of a quiet training of a route that begins now are counted from now where each of its ends on this module is locked already; else from
the end of step 1 (R193). -/
def State.quietFrom (s : State) (n : Nat) : Option Nat :=
  if [false, true].all (fun ret => !(s.ownEnd ret) || s.endLocked n ret) then some 0 else none

/-- An end of a route takes ledger trains (R226): the route is enabled and not in quiet training, the end is this module's and locked. -/
def State.takesTrains (s : State) (n : Nat) (ret : Bool) : Prop :=
  s.routeOn n = true ∧ s.ownEnd ret = true ∧ s.rd (Reg.LANE_STAT_LOCKED (linkOf n ret)) = 1 ∧ (s.route n).training ≠ some false

/-- The STATUS that a ledger's 32 bytes get at the cut of the present stage (R233). -/
def State.statusOfLedger (s : State) (b : List Byte) : Nat :=
  ledgerStatus (s.sampleStage s.stage) (beAt b 14 2) (beAt b 20 1) (s.rd Reg.LANE_GLOBAL_HOLD)

/-- The route frame of an outbound end without parcels and training area (R222, R223): head, waybills and tail. -/
def State.frameOf (s : State) (n : Nat) : List Byte :=
  let waybill (h : Nat) : List Byte := (s.waybillOf (s.firstOf n + h) (s.route n).missed).bytes (s.stage + 1) n h
  let covered := s.headBytes n { type := 1, flags := s.frameFlags n false, seq := s.stage + 1, reach := s.reach n false, len := 0, op := 0 }
    ++ ((List.range (s.cellsOn n)).map waybill).flatten
  covered ++ tailBytes (s.stage + 1) n false covered

/-! ### The safety island -/

/-- The state after safety cycles, in turn (R492). -/
def State.afterCycles (s : State) : List CycleIn → State
  | [] => s
  | c :: l => match exec (.safetyCycle c) s with
    | .next t => t.afterCycles l
    | _ => s

end Sys2Proof.Machine
end

