-- ==== Sys2Proof/Certificates/Slice0/Obligations.lean ====
section
/-! DEFINITION. The statements about the model, one definition each, for the provers: what every command of the table
completes with and leaves unchanged, the machine-wide rules, the packet round trip and the canonical forms every step
keeps. -/

open Sys2Proof Sys2Proof.Machine

/-- Leaving Off, losing VIN, and entering keep-alive. VIN_RISE_KEEPALIVE leaves Off for keep-alive with XIN_OK set (the
model's choice, log entry 38) and changes nothing else; VIN_OFF goes to Off, empties memory and the sessions, and puts
every word outside the safety block but ID_SUPPLY_STAT to its reset value; KEEPALIVE_ENTRY ends a supply sequence in
keep-alive with ID_KEEPALIVE_CNT one further, the sessions gone, the gates off and memory kept. (R32, R46, R56) -/
def Obligations.SupplyRegionsFollowTheRails : Prop :=
  (∀ s : State, s.power.region = .off →
    ∃ t, exec .vinRiseKeepalive s = .next t
      ∧ t = { s with power := { s.power with region := .keepAlive, nextCold := true }, regs := t.regs, out := [] }
      ∧ t.rd Reg.CLK_STAT_XIN_OK = 1 ∧ Keeps s t [Reg.CLK_STAT_XIN_OK])
  ∧ (∀ s : State, s.power.region ≠ .off →
    ∃ t, exec .vinOff s = .next t ∧ t.power = {} ∧ t.mem = [] ∧ t.ses = State.reset.ses ∧ t.pending = s.pending
      ∧ ∀ a : Nat, a ≠ 0x404 → (a < 0x0C000000 ∨ 0x0D000000 ≤ a) → t.word a = resetWord a)
  ∧ (∀ (s : State) (n : Nat), s.power.stopping = some (.brownout, n) ∨ s.power.stopping = some (.overvoltage, n) →
    ∃ t, exec .keepaliveEntry s = .next t
      ∧ t.power = { s.power with region := .keepAlive, stopping := none, held := false } ∧ t.mem = s.mem ∧ t.pending = s.pending
      ∧ t.ses = State.reset.ses ∧ t.mod.applied.gates = false ∧ t.duo.own = false
      ∧ t.rd Reg.ID_KEEPALIVE_CNT_COUNT = s.oneMore Reg.ID_KEEPALIVE_CNT_COUNT)

/-- Brown-out, over-voltage and RST_N stop the controller. In full operation BROWNOUT_SEQUENCE and OVERVOLTAGE_SEQUENCE
set their SEEN flag, turn the drive gates off, begin five stop-token frames and bring SUPPLY_BROWNOUT or SUPPLY_OV up
for the next stage boundary unless it is latched; RESET_ASSERT turns the gates off, begins five stop-token frames and
asks for a logbook trigger, and changes no register; where no stage runs it holds the dice in reset at once. A
threshold crossed during a start (R601), of a cold start or of a restart from operation, ends it without stop-token
frames, with its SEEN flag set and ID_BOOT_COUNT one further. (R46, R50, R601, R47) -/
def Obligations.SupplySequencesRunTheirSteps : Prop :=
  (∀ s : State, s.running = true → (∀ p, s.power.stopping = some p → p.1 ≠ .brownout ∧ p.1 ≠ .overvoltage) →
    ∃ t, exec (.brownoutSequence none) s = .next t ∧ t.power = { s.power with stopping := some (.brownout, 5), ovLast := false }
      ∧ t.rd Reg.ID_SUPPLY_STAT_BROWNOUT_SEEN = 1 ∧ t.mod.applied.gates = false ∧ t.mem = s.mem ∧ t.flash = s.flash ∧ t.ses = s.ses
      ∧ (t.f3Latched Code.SUPPLY_BROWNOUT = true ∨ FaultDue t Code.SUPPLY_BROWNOUT))
  ∧ (∀ s : State, s.running = true → (∀ p, s.power.stopping = some p → p.1 ≠ .brownout ∧ p.1 ≠ .overvoltage) →
    ∃ t, exec (.overvoltageSequence none) s = .next t ∧ t.power = { s.power with stopping := some (.overvoltage, 5), ovLast := true }
      ∧ t.rd Reg.ID_SUPPLY_STAT_OV_SEEN = 1 ∧ t.mod.applied.gates = false ∧ t.mem = s.mem ∧ t.flash = s.flash ∧ t.ses = s.ses
      ∧ (t.f3Latched Code.SUPPLY_OV = true ∨ FaultDue t Code.SUPPLY_OV))
  ∧ (∀ (s : State) (k : Fin 6), s.power.region = .keepAlive → s.power.stopping = none →
    ∃ t, exec (.brownoutSequence (some k)) s = .next t ∧ t.power.stopping = some (.brownout, 0) ∧ t.power.early = true
      ∧ t.rd Reg.ID_BOOT_COUNT_COUNT = s.oneMore Reg.ID_BOOT_COUNT_COUNT ∧ t.rd Reg.ID_SUPPLY_STAT_BROWNOUT_SEEN = 1
      ∧ t.mod.applied.gates = false)
  ∧ (∀ (s : State) (k : Fin 6), Powered s → s.power.stopping = none →
    ∃ t, exec (.overvoltageSequence (some k)) s = .next t ∧ t.power.stopping = some (.overvoltage, 0) ∧ t.power.early = true
      ∧ t.power.held = true ∧ t.rd Reg.ID_BOOT_COUNT_COUNT = s.oneMore Reg.ID_BOOT_COUNT_COUNT ∧ t.rd Reg.ID_SUPPLY_STAT_OV_SEEN = 1 ∧ t.ses = State.reset.ses ∧ t.mem = s.mem ∧ t.mod.applied.gates = false)
  ∧ (∀ s : State, Powered s → s.running = false → s.power.stopping = none →
    ∃ t, exec .resetAssert s = .next t ∧ t.power = { s.power with stopping := some (.pin, 0), held := true } ∧ t.mem = s.mem
      ∧ t.ses = State.reset.ses ∧ t.mod.applied.gates = false ∧ t.duo.own = false)
  ∧ (∀ s : State, s.running = true → s.power.stopping = none →
    ∃ t, exec .resetAssert s = .next t
      ∧ t = { s with power := { s.power with stopping := some (.pin, 5) }, flt := { s.flt with trigger := true }, out := [],
                     mod := { s.mod with applied := { s.mod.applied with gates := false, boot := false }, gate := t.mod.gate } }
      ∧ t.mod.gate.on = 0 ∧ t.mod.gate.due = [])

/-- A start of the controller ends in full operation. COLD_START, KEEPALIVE_RETURN, RESET_RELEASE, WATCHDOG_RESTART and
FIRMWARE_RESTART, each where its rule lets it begin (a firmware restart 10 ms after its ACTIVATE), leave the device in
full operation, not held in reset, with the islands running, no sequence in progress, all four sessions as at reset
and the waiting commands as they were; the sampled ROLE pads are those found at the start, and a cold start leaves
memory empty. (R44, R45, R47, R48, R50, R52, R171) -/
def Obligations.RestartsClearWhatTheyMust : Prop :=
  (∀ (s : State) (x : StartIn), s.power.region = .keepAlive → s.power.stopping = none → s.ilkBank = true → s.therm.shut = false →
      s.power.nextCold = true →
    ∃ t, exec (.coldStart x) s = .next t ∧ t.running = true ∧ t.power.stopping = none ∧ t.power.nextCold = false
      ∧ t.power.role0 = x.role0 ∧ t.power.role1 = x.role1 ∧ t.ses = State.reset.ses ∧ t.mem = [] ∧ t.pending = s.pending)
  ∧ (∀ (s : State) (x : StartIn), s.power.region = .keepAlive → s.power.stopping = none → s.ilkBank = true → s.therm.shut = false →
      s.power.nextCold = false →
    ∃ t, exec (.keepaliveReturn x) s = .next t ∧ t.running = true ∧ t.power.stopping = none ∧ t.power.nextCold = false
      ∧ t.power.role0 = x.role0 ∧ t.power.role1 = x.role1 ∧ t.ses = State.reset.ses ∧ t.pending = s.pending)
  ∧ (∀ (s : State) (x : StartIn), s.power.held = true → s.power.stopping = some (.pin, 0) → s.ilkBank = true →
    ∃ t, exec (.resetRelease x) s = .next t ∧ t.running = true ∧ t.power.stopping = none
      ∧ t.power.role0 = x.role0 ∧ t.power.role1 = x.role1 ∧ t.ses = State.reset.ses ∧ t.pending = s.pending)
  ∧ (∀ (s : State) (x : StartIn), Powered s → s.power.stopping = none →
    ∃ t, exec (.watchdogRestart x) s = .next t ∧ t.running = true ∧ t.power.stopping = none
      ∧ t.power.role0 = x.role0 ∧ t.power.role1 = x.role1 ∧ t.ses = State.reset.ses ∧ t.pending = s.pending)
  ∧ (∀ (s : State) (x : StartIn), s.running = true → s.sto.activate = true → s.power.stopping = none → s.passed s.sto.activateAt 10000000 = true →
    ∃ t, exec (.firmwareRestart x) s = .next t ∧ t.running = true ∧ t.power.stopping = none ∧ t.sto.activate = false
      ∧ t.power.role0 = x.role0 ∧ t.power.role1 = x.role1 ∧ t.ses = State.reset.ses ∧ t.pending = s.pending)

/-- Supply readings, bank classes and ROLE pads. SUPPLY_STAT_UPDATE writes VIN_MV, and VGD_DV as the reading while the
isolation link is up and 0 otherwise; VIO_BANK_CLASSIFIED sets the CLASS of an unclassified bank; VIO_BANK_FAULT
clears it, sets FAULT_SEEN and queues the VIO_FAULT event, and on bank 3 of a running controller drops the claim;
ROLE_PAD_CHANGE is only journalled. Nothing else changes. (R35, R36, R43, R53, R54, R479) -/
def Obligations.SupplyStatus : Prop :=
  (∀ (s : State) (v : BitVec 16) (g : Byte), Powered s →
    ∃ t, exec (.supplyStatUpdate v g) s = .next t ∧ t = { s with regs := t.regs, out := [] }
      ∧ t.rd Reg.ID_SUPPLY_STAT_VIN_MV = v.toNat ∧ t.rd Reg.ID_SUPPLY_STAT_VGD_DV = (if s.drv.hvLink then g.toNat else 0)
      ∧ Keeps s t [Reg.ID_SUPPLY_STAT_VIN_MV, Reg.ID_SUPPLY_STAT_VGD_DV])
  ∧ (∀ (s : State) (b : Fin 4) (k : Bool), s.power.region ≠ .off → s.rd (vioClass b) = 0 →
    ∃ t, exec (.vioBankClassified b k) s = .next t ∧ t = { s with regs := t.regs, out := [] }
      ∧ t.rd (vioClass b) = (if k then 2 else 1) ∧ Keeps s t [vioClass b])
  ∧ (∀ (s : State) (b : Fin 4), s.power.region ≠ .off → s.rd (vioClass b) ≠ 0 →
    ∃ t, exec (.vioBankFault b) s = .next t
      ∧ t = { s with regs := t.regs, out := [], duo := t.duo, drv := t.drv, mod := t.mod, flt := { s.flt with queue := s.queueEvent Ev.VIO_FAULT },
                     seen := s.seen ++ [vioFault b] }
      ∧ t.rd (vioClass b) = 0 ∧ t.rd (vioFault b) = 1 ∧ Keeps s t (vioClass b :: vioFault b :: journalFlds)
      ∧ (if b = 3 ∧ s.running = true then t.duo = { s.duo with own := false, grant := false, partner := false, bankDue := true }
         else t.duo = s.duo ∧ t.drv = s.drv ∧ t.mod = s.mod))
  ∧ (∀ (s : State) (a b : Bool), s.running = true → (a ≠ s.power.role0 ∨ b ≠ s.power.role1) →
    ∃ t, exec (.rolePadChange a b) s = .next t
      ∧ t = { s with regs := t.regs, out := [], power := { s.power with role0 := a, role1 := b },
                     flt := { s.flt with queue := s.queueEvent Ev.ROLE_PAD_CHANGE } }
      ∧ Keeps s t journalFlds)

/-- VGD and the isolation link. VGD_UNDERVOLTAGE clears VGD_OK, turns the gates off, and latches VGD_UV where the drive
stage is active; VGD_OK_RISE sets VGD_OK; VGD_RISE gives the HV die its hardware defaults; HV_LINK_UP, with PLL_LANE
and PLL_HV locked, brings the link up with the active thresholds written. Nothing else changes. (R38, R39, R77, R390,
R391) -/
def Obligations.GateSupply : Prop :=
  (∀ s : State,
    ∃ t, exec .vgdUndervoltage s = .next t
      ∧ t = { s with regs := t.regs, out := [], drv := { s.drv with fresh := t.drv.fresh },
                     mod := { s.mod with applied := { s.mod.applied with gates := false, boot := false }, gate := t.mod.gate } }
      ∧ t.mod.gate.on = 0 ∧ t.rd Reg.ID_SUPPLY_STAT_VGD_OK = 0 ∧ Keeps s t [Reg.ID_SUPPLY_STAT_VGD_OK]
      ∧ (s.driveActive = true → 0x0D31 ∈ t.drv.fresh ++ t.drv.atB ++ t.drv.reported)
      ∧ (s.driveActive = false → t.drv.fresh = s.drv.fresh))
  ∧ (∀ s : State,
    ∃ t, exec .vgdOkRise s = .next t ∧ t = { s with regs := t.regs, out := [] }
      ∧ t.rd Reg.ID_SUPPLY_STAT_VGD_OK = 1 ∧ Keeps s t [Reg.ID_SUPPLY_STAT_VGD_OK])
  ∧ (∀ s : State, ∃ t, exec .vgdRise s = .next t ∧ t = { s with out := [], drv := { s.drv with hvRegs := [] } })
  ∧ (∀ s : State, s.running = true → s.pllLocked 1 = true → s.pllLocked 3 = true →
    ∃ t, exec .hvLinkUp s = .next t ∧ t = { s with out := [], drv := { s.drv with hvLink := true, hvRegs := s.regs.filter (fun p => hvHolds p.1) } })

/-- Tamper events, the wipe and the challenge nonce. A TAMPER_EVENT closes the gate of the secure region, sets the
source's SEEN bit, counts the wipe, clears SECRETS_PRESENT, ends an unlock and brings F0 TAMPER up; SECURE_REGION_FILL
puts 0 into every byte of the secure region, opens the gate and leaves every other byte; TAMPER_FLASH_MARKER
invalidates the flash copy; LC_NONCE_REFRESH, 60 s after the last new nonce, replaces the eight words of the nonce
with fresh free values. Nothing else changes. (R119, R120, R121, R131, R143) -/
def Obligations.TamperAndWipe : Prop :=
  (∀ (s : State) (x : TamperSrc), s.power.region ≠ .off → (x = .clockGlitch → s.power.region = .full) →
    ∃ t, exec (.tamperEvent x) s = .next t
      ∧ t = { s with regs := t.regs, out := [], ses := t.ses, free := s.free + 1, flt := t.flt, seen := s.seen ++ [x.seen],
                     power := { s.power with gateShut := true, fillDue := true, markDue := true } }
      ∧ t.rd Reg.MEM_TAMPER_STAT_SEEN = s.rd Reg.MEM_TAMPER_STAT_SEEN ||| x.bit
      ∧ t.rd Reg.MEM_TAMPER_STAT_WIPE_COUNT = s.oneMore Reg.MEM_TAMPER_STAT_WIPE_COUNT
      ∧ t.rd Reg.LC_STATE_SECRETS_PRESENT = 0 ∧ t.rd Reg.CMD_MON_STAT_UNLOCKED = 0
      ∧ t.rd Reg.MEM_TAMPER_STAT_WIPING = (if s.power.region = .full then 1 else 0)
      ∧ (x = .tamp → t.rd Reg.MEM_TAMPER_STAT_TAMP_NOW = 1) ∧ (x = .lid → t.rd Reg.MEM_TAMPER_STAT_LID_NOW = 1)
      ∧ FaultDue t Code.TAMPER
      ∧ Keeps s t ([Reg.MEM_TAMPER_STAT_SEEN, Reg.MEM_TAMPER_STAT_WIPE_COUNT, Reg.MEM_TAMPER_STAT_WIPING, Reg.MEM_TAMPER_STAT_TAMP_NOW,
          Reg.MEM_TAMPER_STAT_LID_NOW, Reg.LC_STATE_SECRETS_PRESENT, Reg.CMD_MON_STAT_UNLOCKED, Reg.CMD_MON_STAT_LOCK_IN_S] ++ journalFlds))
  ∧ (∀ s : State, s.power.region = .full → s.power.fillDue = true →
    ∃ t, exec .secureRegionFill s = .next t
      ∧ t = { s with regs := t.regs, mem := t.mem, out := [], power := { s.power with fillDue := false, gateShut := false } }
      ∧ (∀ a : Nat, secureBase ≤ a → a < memEnd → t.byte a = 0) ∧ (∀ a : Nat, a < secureBase → t.byte a = s.byte a)
      ∧ t.rd Reg.MEM_TAMPER_STAT_WIPING = 0 ∧ Keeps s t [Reg.MEM_TAMPER_STAT_WIPING])
  ∧ (∀ s : State, s.power.region ≠ .off → s.power.markDue = true →
    ∃ t, exec .tamperFlashMarker s = .next t
      ∧ t = { s with out := [], flash := { s.flash with copyValid := false }, power := { s.power with markDue := false } })
  ∧ (∀ s : State, s.running = true → s.passed s.sto.nonceAt 60000000000 = true →
    ∃ t, exec .lcNonceRefresh s = .next t
      ∧ t = { s with regs := t.regs, out := [], free := s.free + 8, sto := { s.sto with nonceAt := s.timeOf 1 } }
      ∧ (∀ n : Nat, n < 8 → t.rd (Reg.LC_CHALLENGE_NONCE n) = (Config.freeWord (s.free + n)).toNat)
      ∧ Keeps s t ((List.range 8).map Reg.LC_CHALLENGE_NONCE))

/-- Write-backs and the preserving March C−. ECC_WRITEBACK takes a corrected word off the list of those that await their
write-back; MARCH_PRESERVING_BLOCK, while the test runs, goes on to the next block, the next bank after 16,384 of them
and the next pass after 64 banks, and a failing word is recorded in MEM_MARCH_FAIL with FAIL_SEEN and F0
MEM_MARCH_FAIL. Memory keeps its content. (R112, R124, R126, R127) -/
def Obligations.MemoryChecks : Prop :=
  (∀ (s : State) (w : Nat), s.running = true →
    ∃ t, exec (.eccWriteback w) s = .next t ∧ t = { s with out := [], sto := { s.sto with ecc := t.sto.ecc } }
      ∧ ∀ v : Nat, v ∈ t.sto.ecc ↔ v ∈ s.sto.ecc ∧ v ≠ w)
  ∧ (∀ (s : State), s.running = true → s.rd Reg.MEM_MARCH_STAT_RUNNING = 1 → s.rd Reg.MEM_TAMPER_STAT_WIPING = 0 →
    ∃ t, exec (.marchPreservingBlock none []) s = .next t
      ∧ t = { s with regs := t.regs, out := [], sto := { s.sto with march := t.sto.march, ecc := t.sto.ecc } }
      ∧ t.sto.march = (if s.sto.march + 1 < 16384 then s.sto.march + 1 else 0)
      ∧ t.rd Reg.MEM_MARCH_STAT_BANK = (if s.sto.march + 1 < 16384 then s.rd Reg.MEM_MARCH_STAT_BANK
          else if s.rd Reg.MEM_MARCH_STAT_BANK < 63 then s.rd Reg.MEM_MARCH_STAT_BANK + 1 else 0)
      ∧ Keeps s t [Reg.MEM_MARCH_STAT_BANK, Reg.MEM_MARCH_STAT_PASS_COUNT])
  ∧ (∀ (s : State) (w : Fin 16), s.running = true → s.rd Reg.MEM_MARCH_STAT_RUNNING = 1 → s.rd Reg.MEM_TAMPER_STAT_WIPING = 0 →
      s.sto.march < 16383 →
    ∃ t, exec (.marchPreservingBlock (some w) []) s = .next t
      ∧ t = { s with regs := t.regs, out := [], sto := { s.sto with march := s.sto.march + 1, ecc := t.sto.ecc }, flt := t.flt, seen := t.seen }
      ∧ t.rd Reg.MEM_MARCH_FAIL_BANK = s.rd Reg.MEM_MARCH_STAT_BANK
      ∧ t.rd Reg.MEM_MARCH_FAIL_ROW = (s.sto.march * 16 + w.val) / 256 ∧ t.rd Reg.MEM_MARCH_FAIL_WORD = (s.sto.march * 16 + w.val) % 256
      ∧ t.rd Reg.MEM_MARCH_STAT_FAIL_SEEN = 1 ∧ FaultDue t Code.MEM_MARCH_FAIL
      ∧ Keeps s t [Reg.MEM_MARCH_FAIL_BANK, Reg.MEM_MARCH_FAIL_ROW, Reg.MEM_MARCH_FAIL_WORD, Reg.MEM_MARCH_STAT_FAIL_SEEN])

/-- Locks of the PLLs and the safe clocks. PLL_LOCK sets the PLL's bit of LOCKED; a lock pin outside 0.70 V to 1.40 V
keeps PLL_SYS and PLL_LANE as they were; after a step change PLL_SYS runs at its new target, and on PLL_LANE an
enabled spread starts. PLL_UNLOCK of PLL_LANE takes every link's lock and the isolation link and brings F3
CLK_LANE_LOST up, of PLL_NET it takes the Ethernet links down and brings F0 CLK_NET_UNLOCK up. PLL_UNLOCK of PLL_SYS
clears its bit, sets LOST_SEEN, switches to the safe clocks, counts and brings F0 CLK_SYS_UNLOCK up; of PLL_HV it
clears its bit and sets LOST_SEEN. Each in a stage in which its time from the start, the loss or the lock ends (10 ms,
10 ms, 64 µs; log entry 80), PLL_LOCK_TIMEOUT queues its event, CLK_SYS_LOST brings its F3 fault up, and
SAFE_CLOCK_RETURN clears SAFE_CLK. (R62, R63, R64, R66, R68, R69, R88) -/
def Obligations.PllLocks : Prop :=
  (∀ (s : State) (p : Pll) (mv : BitVec 16), Powered s → p = .net ∨ p = .hv →
    ∃ t, exec (.pllLock p mv) s = .next t ∧ t = { s with regs := t.regs, out := [] }
      ∧ (∀ n : Nat, t.pllLocked n = (s.pllLocked n || n == p.index)) ∧ Keeps s t [Reg.CLK_STAT_LOCKED, Reg.CLK_STAT_LKF_OPEN])
  ∧ (∀ (s : State) (p : Pll) (mv : BitVec 16), Powered s → p = .sys ∨ p = .lane → mv.toNat < 700 ∨ 1400 < mv.toNat →
    ∃ t, exec (.pllLock p mv) s = .next t ∧ t = { s with regs := t.regs, out := [] }
      ∧ Keeps s t [Reg.CLK_LKF_LKF_SYS_MV, Reg.CLK_LKF_LKF_LANE_MV, Reg.CLK_STAT_LKF_OPEN])
  ∧ (∀ (s : State) (mv : BitVec 16), Powered s → 700 ≤ mv.toNat → mv.toNat ≤ 1400 →
    ∃ t, exec (.pllLock .sys mv) s = .next t ∧ t = { s with regs := t.regs, out := [], clk := t.clk } ∧ t.pllLocked 0 = true ∧ t.clk.lockAt = s.timeOf 1
      ∧ t.rd Reg.CLK_LKF_LKF_SYS_MV = mv.toNat
      ∧ (if s.clk.stepRun then t.clk.rampSys.milli = s.rdS Reg.CLK_SYS_TARGET_OFFSET_PPM * 1000 else t.clk = { s.clk with lockAt := s.timeOf 1 })
      ∧ Keeps s t [Reg.CLK_STAT_LOCKED, Reg.CLK_STAT_LKF_OPEN, Reg.CLK_LKF_LKF_SYS_MV, Reg.CLK_RAMP_STAT_CUR_OFFSET 0, Reg.CLK_STAT_RAMP_SYS,
          Reg.CLK_SYS_NOW_OFFSET_PPM])
  ∧ (∀ (s : State) (mv : BitVec 16), Powered s → 700 ≤ mv.toNat → mv.toNat ≤ 1400 →
    ∃ t, exec (.pllLock .lane mv) s = .next t ∧ t = { s with regs := t.regs, out := [], clk := t.clk } ∧ t.pllLocked 1 = true
      ∧ t.rd Reg.CLK_LKF_LKF_LANE_MV = mv.toNat
      ∧ t.clk = (if s.rd Reg.CLK_LANE_SPREAD_EN = 1 ∧ s.clk.spread = .off then { s.clk with spread := .falling, rampLane := RampGen.at 0 } else s.clk)
      ∧ Keeps s t [Reg.CLK_STAT_LOCKED, Reg.CLK_STAT_LKF_OPEN, Reg.CLK_LKF_LKF_LANE_MV, Reg.CLK_RAMP_STAT_CUR_OFFSET 1, Reg.CLK_STAT_RAMP_LANE])
  ∧ (∀ (s : State) (mv : BitVec 16), Powered s → s.pllLocked 1 = true →
    ∃ t, exec (.pllUnlock .lane mv) s = .next t ∧ t.pllLocked 1 = false ∧ t.rd Reg.CLK_STAT_LOST_SEEN / 2 % 2 = 1 ∧ t.clk.spread = .off
      ∧ t.drv.hvLink = false ∧ (∀ l : Nat, l < 50 → t.rd (Reg.LANE_STAT_LOCKED l) = 0)
      ∧ (s.f3Latched Code.CLK_LANE_LOST = true ∨ FaultDue t Code.CLK_LANE_LOST))
  ∧ (∀ (s : State) (mv : BitVec 16), Powered s → s.pllLocked 2 = true →
    ∃ t, exec (.pllUnlock .net mv) s = .next t ∧ t.pllLocked 2 = false ∧ t.rd Reg.CLK_STAT_LOST_SEEN / 4 % 2 = 1
      ∧ t.rd (Reg.ETH_STAT_LINK 0) = 0 ∧ t.rd (Reg.ETH_STAT_LINK 1) = 0 ∧ FaultDue t Code.CLK_NET_UNLOCK)
  ∧ (∀ (s : State) (mv : BitVec 16), Powered s → s.pllLocked 0 = true →
    ∃ t, exec (.pllUnlock .sys mv) s = .next t ∧ t.pllLocked 0 = false ∧ t.rd Reg.CLK_STAT_LOST_SEEN % 2 = 1
      ∧ t.rd Reg.CLK_STAT_SAFE_CLK = 1 ∧ t.clk.rampSys.running = false ∧ t.clk.rampSys.milli = s.clk.rampSys.milli
      ∧ t.rd Reg.CLK_EVENTS_SYS_UNLOCK = s.oneMore Reg.CLK_EVENTS_SYS_UNLOCK ∧ FaultDue t Code.CLK_SYS_UNLOCK
      ∧ t = { s with regs := t.regs, out := [], clk := t.clk, flt := t.flt, seen := s.seen ++ [lostSeen .sys] })
  ∧ (∀ (s : State) (mv : BitVec 16), Powered s → s.pllLocked 3 = true →
    ∃ t, exec (.pllUnlock .hv mv) s = .next t ∧ t.pllLocked 3 = false ∧ t.rd Reg.CLK_STAT_LOST_SEEN / 8 % 2 = 1
      ∧ Keeps s t [Reg.CLK_STAT_LOCKED, Reg.CLK_STAT_LOST_SEEN, Reg.CLK_STAT_LKF_OPEN])
  ∧ (∀ (s : State) (lane : Bool), Powered s → s.pllLocked (if lane then 1 else 0) = false →
      (s.running = true → s.passed s.power.startMono 10000000 = true) →
    ∃ t, exec (.pllLockTimeout lane) s = .next t
      ∧ t = { s with regs := t.regs, out := [],
                     flt := { s.flt with queue := s.queueEvent (if lane then Ev.CLK_LANE_NO_LOCK else Ev.CLK_SYS_NO_LOCK) } }
      ∧ Keeps s t journalFlds)
  ∧ (∀ s : State, Powered s → s.clk.lossRun = true → s.pllLocked 0 = false → s.f3Latched Code.CLK_SYS_LOST = false →
      (s.running = true → s.passed s.clk.lossAt 10000000 = true) →
    ∃ t, exec .clkSysLost s = .next t ∧ t = { s with out := [], flt := { s.flt with pending := t.flt.pending } }
      ∧ FaultDue t Code.CLK_SYS_LOST)
  ∧ (∀ s : State, Powered s → s.rd Reg.CLK_STAT_SAFE_CLK = 1 → s.pllLocked 0 = true →
      (s.running = true → s.passed s.clk.lockAt 64000 = true) →
    ∃ t, exec .safeClockReturn s = .next t
      ∧ t = { s with regs := t.regs, out := [], clk := { s.clk with stepRun := false, lossRun := false } }
      ∧ t.rd Reg.CLK_STAT_SAFE_CLK = 0 ∧ Keeps s t [Reg.CLK_STAT_SAFE_CLK])

/-- The loss of XIN, ramps and the lane spread. XIN_LOST clears XIN_OK, sets HOLDOVER of the clocks and of every time
base, counts, and in operation brings F3 CLK_REF_LOST up and lets four more stages run; XIN_RETURN sets XIN_OK again.
RAMP_SEGMENT_END, in the stage in which the offset arrives at SLOPE and the HOLD is over, reaches the segment's end
offset and goes on to the next segment, or ends the profile after the last one; LANE_SPREAD_END, where the triangle
told to end is back at 0 ppm within the stage, stops the generator there; LANE_REF_RETURN_DONE, where the frequency
comes back to its own within the stage, shows XIN as PLL_LANE's source. (R70, R72, R74, R75, R97) -/
def Obligations.ReferenceAndRamps : Prop :=
  (∀ s : State, s.running = true → s.clk.xinGone = false → s.f3Latched Code.CLK_REF_LOST = false →
    ∃ t, exec .xinLost s = .next t
      ∧ t = { s with regs := t.regs, out := [], flt := { s.flt with pending := t.flt.pending },
                     clk := { s.clk with xinGone := true, xinStages := some 5 } }
      ∧ t.rd Reg.CLK_STAT_XIN_OK = 0 ∧ t.rd Reg.CLK_STAT_HOLDOVER = 1 ∧ (∀ b : Nat, b < 4 → t.rd (Reg.TIME_BASE_HOLDOVER b) = 1)
      ∧ t.rd Reg.CLK_EVENTS_XIN_LOST = s.oneMore Reg.CLK_EVENTS_XIN_LOST ∧ FaultDue t Code.CLK_REF_LOST
      ∧ Keeps s t ([Reg.CLK_STAT_XIN_OK, Reg.CLK_STAT_HOLDOVER, Reg.CLK_EVENTS_XIN_LOST] ++ (List.range 4).map Reg.TIME_BASE_HOLDOVER))
  ∧ (∀ s : State, s.power.region ≠ .off → s.running = false → s.clk.xinGone = false →
    ∃ t, exec .xinLost s = .next t ∧ t = { s with regs := t.regs, out := [], clk := { s.clk with xinGone := true } }
      ∧ t.rd Reg.CLK_STAT_XIN_OK = 0 ∧ t.rd Reg.CLK_STAT_HOLDOVER = 1 ∧ (∀ b : Nat, b < 4 → t.rd (Reg.TIME_BASE_HOLDOVER b) = 1)
      ∧ t.rd Reg.CLK_EVENTS_XIN_LOST = s.oneMore Reg.CLK_EVENTS_XIN_LOST)
  ∧ (∀ (s : State) (e : Nat), s.power.region = .full → s.clk.xinGone = true → s.clk.stopped = true →
    ∃ t, exec (.xinReturn e) s = .next t ∧ t.clk.stopped = false ∧ t.clk.xinGone = false ∧ t.rd Reg.CLK_STAT_LOCKED = 15
      ∧ t.rd Reg.CLK_STAT_XIN_OK = 1 ∧ t.rd Reg.CLK_STAT_HOLDOVER = 0 ∧ t.mem = s.mem ∧ t.ses = s.ses ∧ t.flt = s.flt)
  ∧ (∀ (s : State) (e : Nat), s.power.region = .full → s.clk.xinGone = true → s.clk.stopped = false →
    ∃ t, exec (.xinReturn e) s = .next t
      ∧ t = { s with regs := t.regs, out := [], clk := { s.clk with xinGone := false, xinStages := none } }
      ∧ t.rd Reg.CLK_STAT_XIN_OK = 1 ∧ t.rd Reg.CLK_STAT_HOLDOVER = 0
      ∧ (∀ b : Nat, b < 4 → t.rd (Reg.TIME_BASE_HOLDOVER b) = (if b = 0 ∧ s.rd Reg.TIME_GRID_STAT_STATE = 3 then 1 else 0))
      ∧ Keeps s t ([Reg.CLK_STAT_XIN_OK, Reg.CLK_STAT_HOLDOVER] ++ (List.range 4).map Reg.TIME_BASE_HOLDOVER))
  ∧ (∀ (s : State) (g : Fin 2), s.running = true → s.segmentEnds g = true →
    ∃ t, exec (.rampSegmentEnd g) s = .next t ∧ t = { s with regs := t.regs, out := [], clk := t.clk }
      ∧ (t.ramp g).milli = s.rampEnd g
      ∧ (s.rd (Reg.CLK_RAMP_STAT_CUR_SEG g) + 1 < s.rd (Reg.CLK_RAMP_SEG_COUNT g) → s.rd (Reg.CLK_RAMP_SEG_COUNT g) ≤ 16 →
          (t.ramp g).running = true ∧ t.rd (Reg.CLK_RAMP_STAT_CUR_SEG g) = s.rd (Reg.CLK_RAMP_STAT_CUR_SEG g) + 1)
      ∧ (s.rd (Reg.CLK_RAMP_SEG_COUNT g) ≤ s.rd (Reg.CLK_RAMP_STAT_CUR_SEG g) + 1 → s.rd (Reg.CLK_RAMP_REPEAT g) = 0 →
          (t.ramp g).running = false ∧ t.rd (Reg.CLK_RAMP_STAT_CUR_SEG g) = s.rd (Reg.CLK_RAMP_STAT_CUR_SEG g))
      ∧ (s.rd (Reg.CLK_RAMP_SEG_COUNT g) ≤ s.rd (Reg.CLK_RAMP_STAT_CUR_SEG g) + 1 → s.rd (Reg.CLK_RAMP_REPEAT g) = 1 →
          (t.ramp g).running = true ∧ t.rd (Reg.CLK_RAMP_STAT_CUR_SEG g) = 0)
      ∧ Keeps s t [Reg.CLK_RAMP_STAT_CUR_SEG g, Reg.CLK_RAMP_STAT_CUR_OFFSET g, Reg.CLK_STAT_RAMP_SYS, Reg.CLK_STAT_RAMP_LANE,
          Reg.CLK_SYS_NOW_OFFSET_PPM])
  ∧ (∀ s : State, s.running = true → s.spreadEnds = true →
    ∃ t, exec .laneSpreadEnd s = .next t
      ∧ t = { s with regs := t.regs, out := [], clk := { s.clk with spread := .off, rampLane := RampGen.at 0 } }
      ∧ t.rd (Reg.CLK_RAMP_STAT_CUR_OFFSET 1) = 0 ∧ t.rd Reg.CLK_STAT_RAMP_LANE = 0
      ∧ Keeps s t [Reg.CLK_RAMP_STAT_CUR_OFFSET 1, Reg.CLK_STAT_RAMP_LANE])
  ∧ (∀ s : State, s.running = true → s.rd Reg.CLK_LANE_REF_SOURCE = 3 → (s.tickLaneBack s.tsNs).clk.laneBack.getD 0 = 0 →
    ∃ t, exec .laneRefReturnDone s = .next t ∧ t = { s with regs := t.regs, out := [], clk := { s.clk with laneBack := none } }
      ∧ t.rd Reg.CLK_LANE_REF_SOURCE = 0 ∧ Keeps s t [Reg.CLK_LANE_REF_SOURCE])

/-- A stage boundary advances the stage counter and the time bases. While the controller runs, STAGE_BOUNDARY answers a
next state whose stage counter is one further (modulo 2^48), whose stage stamp names that stage and carries the bases'
values, in which MONO has gone on by the time given and LANE_TIME by the stage period and each base's stamp is its
value in whole nanoseconds, and whose waiting commands are as before. (R77, R78, R81, R84) -/
def Obligations.StageBoundaryAdvances : Prop :=
  ∀ (s : State) (b : BoundaryIn), s.running = true →
    ∃ t, exec (.stageBoundary b) s = .next t
      ∧ t.stage = (s.stage + 1) % 2 ^ 48
      ∧ t.rd Reg.TIME_STAGE_STAMP_STAGE_HI * 2 ^ 32 + t.rd Reg.TIME_STAGE_STAMP_STAGE_LO = t.stage
      ∧ t.timeOf 1 = (s.timeOf 1 + b.mono) % (2 ^ 64 * unitsPerSecond)
      ∧ t.timeOf 2 = (s.timeOf 2 + s.tsNs * 65536) % (2 ^ 64 * unitsPerSecond)
      ∧ (∀ x : Nat, x < 4 → t.stampNs x = t.timeOf x / 65536)
      ∧ t.pending = s.pending

/-- AT commands are held and execute at their boundary. A verb under mood AT whose due time is admissible and whose verb
allows AT is held with its due time, without effect and without a reply; AT_EXECUTION of a command whose due time the
stamps have reached, and which has passed a boundary, executes it: an ECHO is answered with its payload and a TRIP
bars the starts of its stage, with LATE_EXECUTED where the due time lay before the stamp of the first boundary it met;
one that the life cycle has barred by then is answered LIFECYCLE_REFUSED without effect; and before its time, nothing
happens. (R85, R86, R159) -/
def Obligations.TimedCommands : Prop :=
  (∀ (s : State) (r : Req) (p : List Byte) (b : Fin 4) (x y : Word), Ready s { r with mood := .now } Verb.ECHO → r.mood = .due b x y →
      s.dueRefusal b x y = none →
    ∃ t, exec (.echo r p) s = .next t
      ∧ (t.sess r.session).due = some { head := headAt s r Verb.ECHO 0, cmd := .echo r p, base := b,
                                         dueNs := dueNs (s.timeOf b / 65536) x.toNat y.toNat }
      ∧ t = { s with regs := t.regs, ses := t.ses, turn := r.session, out := [] } ∧ Keeps s t (sessionFlds r.session) ∧ t.baseSeq r.session = s.baseSeq r.session)
  ∧ (∀ (s : State) (i : Fin 4) (d : DueCmd) (r : Req) (p : List Byte), s.running = true → s.isKeeper = true →
      (s.sess i).src.path ≠ .mon → (s.sess i).due = some d → d.cmd = .echo r p → d.head.session = i.val → d.head.verb = Verb.ECHO → p.length ≤ 1400 →
      s.dueNow d = true →
    ∃ t, exec (.atExecution i) s = .next t ∧ (t.sess i).due = none
      ∧ Replied t (s.sess i).src d.head (if s.dueLate d then Status.LATE_EXECUTED else Status.OK) p s.stage)
  ∧ (∀ (s : State) (i : Fin 4) (d : DueCmd), s.running = true → (s.sess i).due = some d → s.dueNow d = true →
      (verbAct d.cmd).isSome = true → s.lifecycleBars d.head.verb = false →
    ∃ t, exec (.atExecution i) s = .next t ∧ (t.sess i).due = none)
  ∧ (∀ (s : State) (i : Fin 4) (d : DueCmd) (r : Req) (x : BitVec 16), s.running = true → s.isKeeper = true →
      (s.sess i).src.path ≠ .mon → (s.sess i).due = some d → d.cmd = .trip r x → d.head.session = i.val → d.head.verb = Verb.TRIP →
      s.dueNow d = true → s.lifecycleBars Verb.TRIP = false →
    ∃ t, exec (.atExecution i) s = .next t ∧ (t.sess i).due = none ∧ t.pol.haltConv = true ∧ t.pol.haltDrive = true
      ∧ Replied t (s.sess i).src d.head (if s.dueLate d then Status.LATE_EXECUTED else Status.OK) [] s.stage)
  ∧ (∀ (s : State) (i : Fin 4) (d : DueCmd), s.running = true → s.isKeeper = true → (s.sess i).src.path ≠ .mon → (s.sess i).due = some d →
      d.head.session = i.val → s.dueNow d = true → (verbAct d.cmd).isSome = true → s.lifecycleBars d.head.verb = true →
    ∃ t, exec (.atExecution i) s = .next t ∧ (t.sess i).due = none
      ∧ Replied t (s.sess i).src d.head Status.LIFECYCLE_REFUSED [] s.stage
      ∧ t = { s with regs := t.regs, ses := t.ses, canTx := t.canTx, out := t.out })
  ∧ (∀ (s : State) (i : Fin 4), s.running = true → (∀ d, (s.sess i).due = some d → s.dueNow d = false) →
    ∃ t, exec (.atExecution i) s = .next t ∧ t = { s with out := [] })

/-- ASK has no effect, and a false condition refuses. Under mood ASK a verb's packet completes with the status it would
have, and changes nothing but its session's counts; under mood IF with an admissible condition, on a word that is no
time base's, that does not hold it completes with CONDITION_FALSE and has no effect; a verb that does not allow a mood
completes with MOOD_NOT_ALLOWED. Shown for TRIP, STOP and SET. (R159, R160, R179) -/
def Obligations.MoodsDecideWhenACommandRuns : Prop :=
  (∀ (s : State) (r : Req) (c : BitVec 16), Ready s { r with mood := .now } Verb.TRIP → r.mood = .ask →
    ∃ t, exec (.trip r c) s = .next t ∧ t = { s with regs := t.regs, ses := t.ses, turn := r.session, canTx := t.canTx, out := t.out }
      ∧ Keeps s t (sessionFlds r.session) ∧ t.baseSeq r.session = (s.baseSeq r.session + 1) % 2 ^ 32)
  ∧ (∀ (s : State) (r : Req) (c : Cond) (a : Word) (d : List Byte), Ready s { r with mood := .now } Verb.SET → r.mood = .when c →
      c.refusal = none → c.holds (s.word c.addr.toNat) = false → c.addr.toNat < 0x05000000 →
      ¬(0x01002000 ≤ c.addr.toNat ∧ c.addr.toNat < 0x01002040) →
    ∃ t, exec (.set r a d) s = .next t ∧ Completed s t r Verb.SET 0 Status.CONDITION_FALSE [] s.stage
      ∧ t = { s with regs := t.regs, ses := t.ses, turn := r.session, canTx := t.canTx, out := t.out } ∧ Keeps s t (sessionFlds r.session))
  ∧ (∀ (s : State) (r : Req) (c : Cond) (x : BitVec 16), Ready s { r with mood := .now } Verb.TRIP → r.mood = .when c →
    ∃ t, exec (.trip r x) s = .next t ∧ Completed s t r Verb.TRIP 0 Status.MOOD_NOT_ALLOWED [] s.stage
      ∧ t = { s with regs := t.regs, ses := t.ses, turn := r.session, canTx := t.canTx, out := t.out } ∧ Keeps s t (sessionFlds r.session))

/-- STATE, START, STOP of an arm and of the station. STATE orders OFF or SELFTEST from the states of rest, or a controlled
stop from PRECHARGE to DERATE, for the next stage boundary, and answers with the report; START of the station in
STANDBY, PRECHARGE or SYNCHRONISING raises the run-up target to RUN and is held until the boundary, as it is in
operation; STOP of the station orders a controlled stop and bars a START of the same stage; STOP of an enabled arm in
SYNCHRONISING to DERATE orders its group's stop. Nothing else changes but the session. (R15, R165, R179, R327) -/
def Obligations.StationCommands : Prop :=
  (∀ (s : State) (r : Req) (k : Byte), Ready s r Verb.STATE → s.rd Reg.LC_STATE_STATE ≠ 4 →
      (k = 0 ∧ (s.station = 1 ∨ s.station = 2)) ∨ (k = 1 ∧ (s.station = 0 ∨ s.station = 2)) →
    ∃ t, exec (.state r (some k)) s = .next t ∧ Completed s t r Verb.STATE 0 Status.OK s.report (s.stage + 1)
      ∧ t = { s with regs := t.regs, ses := t.ses, turn := r.session, canTx := t.canTx, out := t.out, pol := { s.pol with goto := some (k.toNat, 0x0110) } }
      ∧ Keeps s t (sessionFlds r.session))
  ∧ (∀ (s : State) (r : Req), Ready s r Verb.STATE → 3 ≤ s.station → s.station ≤ 6 →
    ∃ t, exec (.state r (some 2)) s = .next t ∧ Completed s t r Verb.STATE 0 Status.OK s.report (s.stage + 1)
      ∧ t = { s with regs := t.regs, ses := t.ses, turn := r.session, canTx := t.canTx, out := t.out,
                     pol := { s.pol with stopFault := false, goto := some (7, 0x0110) } }
      ∧ Keeps s t (sessionFlds r.session))
  ∧ (∀ (s : State) (r : Req), Ready s r Verb.STATE → 3 ≤ s.station →
    ∃ t, exec (.state r (some 0)) s = .next t ∧ Completed s t r Verb.STATE 0 Status.STATE_REFUSED [] s.stage
      ∧ t = { s with regs := t.regs, ses := t.ses, turn := r.session, canTx := t.canTx, out := t.out } ∧ Keeps s t (sessionFlds r.session))
  ∧ (∀ (s : State) (r : Req), Ready s { r with mood := .now } Verb.STATE → r.mood = .ask →
    ∃ t, exec (.state r none) s = .next t ∧ Completed s t r Verb.STATE 0 Status.OK s.report s.stage
      ∧ t = { s with regs := t.regs, ses := t.ses, turn := r.session, canTx := t.canTx, out := t.out } ∧ Keeps s t (sessionFlds r.session))
  ∧ (∀ (s : State) (r : Req), Ready s r Verb.START → s.pol.haltConv = false → s.station = 2 →
      ((s.taken r).leaveStandby 5 0x0111).status = Status.OK →
    ∃ t, exec (.startConverter r) s = .next t ∧ Started s t r Verb.START (.start false) (s.stage + 1)
      ∧ t = { s with regs := t.regs, ses := t.ses, turn := r.session, out := [], pol := { s.pol with target := max s.pol.target 5, goto := some (3, 0x0111), launchConv := true } }
      ∧ Keeps s t (sessionFlds r.session))
  ∧ (∀ (s : State) (r : Req), Ready s r Verb.START → s.station ≤ 1 →
    ∃ t, exec (.startConverter r) s = .next t ∧ Completed s t r Verb.START 0 Status.STATE_REFUSED [] s.stage
      ∧ t = { s with regs := t.regs, ses := t.ses, turn := r.session, canTx := t.canTx, out := t.out } ∧ Keeps s t (sessionFlds r.session))
  ∧ (∀ (s : State) (r : Req), Ready s r Verb.START → s.pol.haltConv = false → s.station = 3 ∨ s.station = 4 →
    ∃ t, exec (.startConverter r) s = .next t ∧ Started s t r Verb.START (.start false) (s.stage + 1)
      ∧ t = { s with regs := t.regs, ses := t.ses, turn := r.session, out := [], pol := { s.pol with target := max s.pol.target 5, launchConv := true } }
      ∧ Keeps s t (sessionFlds r.session))
  ∧ (∀ (s : State) (r : Req), Ready s r Verb.START → s.pol.haltConv = false → s.runs = true →
    ∃ t, exec (.startConverter r) s = .next t ∧ Started s t r Verb.START (.start false) (s.stage + 1)
      ∧ t = { s with regs := t.regs, ses := t.ses, turn := r.session, out := [], pol := { s.pol with launchConv := true } }
      ∧ Keeps s t (sessionFlds r.session))
  ∧ (∀ (s : State) (r : Req), Ready s r Verb.STOP → s.station < 3 ∨ 6 < s.station →
    ∃ t, exec (.stopConverter r) s = .next t ∧ Completed s t r Verb.STOP 0 Status.OK [] s.stage
      ∧ t = { s with regs := t.regs, ses := t.ses, turn := r.session, canTx := t.canTx, out := t.out, pol := { s.pol with haltConv := true } }
      ∧ Keeps s t (sessionFlds r.session))
  ∧ (∀ (s : State) (r : Req), Ready s r Verb.STOP → 3 ≤ s.station → s.station ≤ 6 →
    ∃ t, exec (.stopConverter r) s = .next t ∧ Completed s t r Verb.STOP 0 Status.OK [] (s.stage + 1)
      ∧ t = { s with regs := t.regs, ses := t.ses, turn := r.session, canTx := t.canTx, out := t.out,
                     pol := { s.pol with haltConv := true, stopFault := false, goto := some (7, 0x0112) } }
      ∧ Keeps s t (sessionFlds r.session))
  ∧ (∀ (s : State) (r : Req) (a : Byte), Ready s r Verb.STOP → a.toNat ≤ 23 → s.armOn a.toNat = true → 4 ≤ s.station → s.station ≤ 6 →
    ∃ t, exec (.stopArm r a) s = .next t ∧ Completed s t r Verb.STOP 0 Status.OK [] (s.stage + 1)
      ∧ t = { s with regs := t.regs, ses := t.ses, turn := r.session, canTx := t.canTx, out := t.out,
                     pol := { s.pol with groupStops := s.pol.groupStops ++ [a.toNat] } }
      ∧ Keeps s t (sessionFlds r.session))

/-- TRIP, and START and STOP of the drive stage. TRIP bars the starts of its stage, queues the TRIP_COMMAND event with its
reason and brings F3 HOST_TRIP up unless it is latched; START of the drive stage in operation with the drive CHARGING
or RUNNING is held until the boundary and changes nothing else; with the drive OFF and all that R397 asks for it is
held until the boundary, at which the start is ordered; with the drive OFF and no isolation link it is refused with
NOT_READY, and outside operation or after a STOP in its stage with STATE_REFUSED; STOP of the drive stage bars the
starts of its stage, and while the drive is CHARGING or RUNNING it is ordered for the boundary. (R396, R397, R451,
R454) -/
def Obligations.TripAndDriveCommands : Prop :=
  (∀ (s : State) (r : Req) (x : BitVec 16), Ready s r Verb.TRIP →
    ∃ t, exec (.trip r x) s = .next t ∧ Completed s t r Verb.TRIP 0 Status.OK [] (s.stage + 1)
      ∧ (s.f3Latched Code.HOST_TRIP = true ∨ FaultDue t Code.HOST_TRIP)
      ∧ t = { s with regs := t.regs, ses := t.ses, turn := r.session, canTx := t.canTx, out := t.out,
                     flt := { s.flt with queue := s.queueEvent Ev.TRIP_COMMAND 0 (beBytes 2 x.toNat), pending := t.flt.pending },
                     pol := { s.pol with haltConv := true, haltDrive := true } }
      ∧ Keeps s t (sessionFlds r.session ++ journalFlds))
  ∧ (∀ (s : State) (r : Req), Ready s r Verb.START → s.pol.haltDrive = false → s.runs = true → s.drive = Drv.CHARGING ∨ s.drive = Drv.RUNNING →
    ∃ t, exec (.startDrive r) s = .next t ∧ Started s t r Verb.START (.start true) (s.stage + 1)
      ∧ t = { s with regs := t.regs, ses := t.ses, turn := r.session, out := [] } ∧ Keeps s t (sessionFlds r.session))
  ∧ (∀ (s : State) (r : Req), Ready s r Verb.START → s.pol.haltDrive = false → s.runs = true → s.drive = Drv.OFF →
      s.rd Reg.ID_SUPPLY_STAT_VGD_OK = 1 → s.drv.hvLink = true → s.hvLocked = true → s.drv.sto = false → s.drv.grant = true → s.ntcBad = false →
      driveSlots.find? (fun n => !((s.taken r).driveSlotOk n)) = none →
    ∃ t, exec (.startDrive r) s = .next t ∧ Started s t r Verb.START (.start true) (s.stage + 1)
      ∧ t = { s with regs := t.regs, ses := t.ses, turn := r.session, out := [], pol := { s.pol with launchDrive := true } } ∧ Keeps s t (sessionFlds r.session))
  ∧ (∀ (s : State) (r : Req), Ready s r Verb.START → s.pol.haltDrive = false → s.runs = true → s.drive = Drv.OFF → s.drv.hvLink = false →
    ∃ t, exec (.startDrive r) s = .next t ∧ Completed s t r Verb.START 0 Status.NOT_READY [] s.stage
      ∧ t = { s with regs := t.regs, ses := t.ses, turn := r.session, canTx := t.canTx, out := t.out } ∧ Keeps s t (sessionFlds r.session))
  ∧ (∀ (s : State) (r : Req), Ready s r Verb.START → s.pol.haltDrive = true ∨ s.runs = false →
    ∃ t, exec (.startDrive r) s = .next t ∧ Completed s t r Verb.START 0 Status.STATE_REFUSED [] s.stage
      ∧ t = { s with regs := t.regs, ses := t.ses, turn := r.session, canTx := t.canTx, out := t.out } ∧ Keeps s t (sessionFlds r.session))
  ∧ (∀ (s : State) (r : Req), Ready s r Verb.STOP → s.drive ≠ Drv.CHARGING → s.drive ≠ Drv.RUNNING →
    ∃ t, exec (.stopDrive r) s = .next t ∧ Completed s t r Verb.STOP 0 Status.OK [] s.stage
      ∧ t = { s with regs := t.regs, ses := t.ses, turn := r.session, canTx := t.canTx, out := t.out, pol := { s.pol with haltDrive := true } }
      ∧ Keeps s t (sessionFlds r.session))
  ∧ (∀ (s : State) (r : Req), Ready s r Verb.STOP → s.drive = Drv.CHARGING ∨ s.drive = Drv.RUNNING →
    ∃ t, exec (.stopDrive r) s = .next t ∧ Completed s t r Verb.STOP 0 Status.OK [] (s.stage + 1)
      ∧ t = { s with regs := t.regs, ses := t.ses, turn := r.session, canTx := t.canTx, out := t.out, pol := { s.pol with haltDrive := true },
                     drv := { s.drv with stopDue := true } }
      ∧ Keeps s t (sessionFlds r.session))

/-- SETPOINT and RAMP. SETPOINT of entries none of which its ID's range refuses, and RAMP to a target within its range at
an admissible rate, complete with OK and put the values, or the ramp, into what takes effect at the next stage
boundary, in place of what was pending on their IDs alone; the first entry that is refused decides the status of the
whole SETPOINT, which then has no effect, and a rate that is not admissible refuses the RAMP; VBUS_REF outside 750 V
to 1,500 V, or not finite, is refused with VALUE_OUT_OF_RANGE. (R166, R343) -/
def Obligations.Setpoints : Prop :=
  (∀ (s : State) (r : Req) (l : List (BitVec 16 × Word)), Ready s r Verb.SETPOINT → (∀ e ∈ l, (s.taken r).entryRefusal e = none) →
    ∃ t, exec (.setpoint r l) s = .next t ∧ Completed s t r Verb.SETPOINT 0 Status.OK [] (s.stage + 1)
      ∧ t = { s with regs := t.regs, ses := t.ses, turn := r.session, canTx := t.canTx, out := t.out, pol := { s.pol with setDue := t.pol.setDue } }
      ∧ ((l.map (fun e => e.1)).Nodup → ∀ e ∈ l, assocGet t.pol.setDue e.1.toNat = some ⟨f32Rat e.2, f32Rat e.2, 0, false⟩)
      ∧ (∀ n : Nat, n ∉ l.map (fun e => e.1.toNat) → assocGet t.pol.setDue n = assocGet s.pol.setDue n) ∧ Keeps s t (sessionFlds r.session))
  ∧ (∀ (s : State) (r : Req) (l : List (BitVec 16 × Word)) (x : Nat), Ready s r Verb.SETPOINT → l.findSome? (s.taken r).entryRefusal = some x →
    ∃ t, exec (.setpoint r l) s = .next t ∧ Completed s t r Verb.SETPOINT 0 x [] s.stage
      ∧ t = { s with regs := t.regs, ses := t.ses, turn := r.session, canTx := t.canTx, out := t.out } ∧ Keeps s t (sessionFlds r.session))
  ∧ (∀ (s : State) (r : Req) (x : BitVec 16) (w q : Word), Ready s r Verb.RAMP → (s.taken r).setpointRefusal x.toNat w = none →
      f32Finite q = true → 0 < f32Rat q → (∀ m, maxRate x.toNat = some m → f32Rat q ≤ m) →
    ∃ t, exec (.ramp r x w q) s = .next t ∧ Completed s t r Verb.RAMP 0 Status.OK [] (s.stage + 1)
      ∧ t = { s with regs := t.regs, ses := t.ses, turn := r.session, canTx := t.canTx, out := t.out, pol := { s.pol with setDue := t.pol.setDue } }
      ∧ assocGet t.pol.setDue x.toNat = some ⟨0, f32Rat w, f32Rat q, true⟩
      ∧ (∀ n : Nat, n ≠ x.toNat → assocGet t.pol.setDue n = assocGet s.pol.setDue n) ∧ Keeps s t (sessionFlds r.session))
  ∧ (∀ (s : State) (r : Req) (x : BitVec 16) (w q : Word), Ready s r Verb.RAMP → (s.taken r).setpointRefusal x.toNat w = none →
      f32Finite q = false ∨ f32Rat q ≤ 0 ∨ (∃ m, maxRate x.toNat = some m ∧ m < f32Rat q) →
    ∃ t, exec (.ramp r x w q) s = .next t ∧ Completed s t r Verb.RAMP 0 Status.VALUE_OUT_OF_RANGE [] s.stage
      ∧ t = { s with regs := t.regs, ses := t.ses, turn := r.session, canTx := t.canTx, out := t.out } ∧ Keeps s t (sessionFlds r.session))
  ∧ (∀ (s : State) (r : Req) (w : Word), Ready s r Verb.SETPOINT → f32Finite w = false ∨ f32Rat w < 750 ∨ 1500 < f32Rat w →
    ∃ t, exec (.setpoint r [(1, w)]) s = .next t ∧ Completed s t r Verb.SETPOINT 0 Status.VALUE_OUT_OF_RANGE [] s.stage
      ∧ t = { s with regs := t.regs, ses := t.ses, turn := r.session, canTx := t.canTx, out := t.out } ∧ Keeps s t (sessionFlds r.session))

/-- TAKE_OUT and RELEASE of a cell. TAKE_OUT of an active cell for which no cause of R347 and no lost slot orders a bypass
already is taken up for the policy and completes with OK; of another it is refused. RELEASE of a FAULTED cell with 200
clean stages and no trip makes it a spare; of any other it is refused. (R347, R349, R368) -/
def Obligations.CellService : Prop :=
  (∀ (s : State) (r : Req) (c : Fin 512), Ready s r Verb.SET → s.active c = true → s.leaving c = false → (s.cell c).slotLost = false →
    ∃ t, exec (.takeOut r c) s = .next t ∧ Completed s t r Verb.SET 0 Status.OK [] s.stage
      ∧ t = { s with regs := t.regs, ses := t.ses, turn := r.session, canTx := t.canTx, out := t.out, pol := { s.pol with takeOuts := s.pol.takeOuts ++ [c.val] } }
      ∧ Keeps s t (sessionFlds r.session))
  ∧ (∀ (s : State) (r : Req) (c : Fin 512), Ready s r Verb.SET → s.active c = false ∨ s.leaving c = true ∨ (s.cell c).slotLost = true →
    ∃ t, exec (.takeOut r c) s = .next t ∧ Completed s t r Verb.SET 0 Status.STATE_REFUSED [] s.stage
      ∧ t = { s with regs := t.regs, ses := t.ses, turn := r.session, canTx := t.canTx, out := t.out } ∧ Keeps s t (sessionFlds r.session))
  ∧ (∀ (s : State) (r : Req) (c : Fin 512), Ready s r Verb.SET → s.svc c = Svc.FAULTED → 200 ≤ (s.cell c).clean → s.tripped c = false →
    ∃ t, exec (.release r c) s = .next t ∧ Completed s t r Verb.SET 0 Status.OK [] s.stage ∧ t.svc c = Svc.SPARE
      ∧ t.rd (Reg.CELL_SVC_CAUSE c) = 0 ∧ t.rd (Reg.CELL_SVC_FOR_VALID c) = 0)
  ∧ (∀ (s : State) (r : Req) (c : Fin 512), Ready s r Verb.SET → s.svc c ≠ Svc.FAULTED ∨ (s.cell c).clean < 200 ∨ s.tripped c = true →
    ∃ t, exec (.release r c) s = .next t ∧ Completed s t r Verb.SET 0 Status.STATE_REFUSED [] s.stage
      ∧ t = { s with regs := t.regs, ses := t.ses, turn := r.session, canTx := t.canTx, out := t.out } ∧ Keeps s t (sessionFlds r.session))

/-- The policy's bounds, and its other events. CONTACT_TIMEOUT, PRECHARGE_TIMEOUT, SYNC_TIMEOUT and STOP_TIMEOUT bring
their F3 fault up in the step they bound, in a stage in which the configured time ends, and change nothing else;
POLICY_SIGNAL_DEADLINE counts a late stage in POL_EVENTS and brings F3 POLICY_LATE up at the second in a row;
GRID_LOST, LOSS_MS after the loss, clears LOSS_PENDING and brings its F3 fault up in SYNCHRONISING to STOPPING.
DERATE_CLEAR in DERATE with nothing derated for 20,000 stages in a row orders RUN for the next boundary; RAMPDOWN_END
in step X2 completes the ramp's stages in the last of them; BYPASS_CONFIRM_TIMEOUT, 8 stages after the first waybill,
of a cell in BYPASSING for another cause brings F2 BYPASS_FAIL up; LOGBOOK_FROZEN after the 4095 stages after a
trigger freezes the logbook and queues its event. (R324, R325, R330, R331, R333, R334, R339, R340, R349, R456) -/
def Obligations.PolicyEvents : Prop :=
  (∀ s : State, s.running = true → s.awaitsContact = true → s.stepLasts (s.rd Reg.POL_SEQ_T_CONTACT_MS) = true → s.f3Latched Code.CONTACT_TIMEOUT = false →
    ∃ t, exec .contactTimeout s = .next t ∧ t = { s with out := [], flt := { s.flt with pending := t.flt.pending } }
      ∧ FaultDue t Code.CONTACT_TIMEOUT ∧ ∀ f ∈ s.flt.pending, f ∈ t.flt.pending)
  ∧ (∀ s : State, s.running = true → s.station = 3 → s.step_ = 3 → s.stepLasts (s.rd Reg.POL_SEQ_T_PRECHARGE_MS) = true → s.f3Latched Code.PRECHARGE_TIMEOUT = false →
    ∃ t, exec .prechargeTimeout s = .next t ∧ t = { s with out := [], flt := { s.flt with pending := t.flt.pending } }
      ∧ FaultDue t Code.PRECHARGE_TIMEOUT ∧ ∀ f ∈ s.flt.pending, f ∈ t.flt.pending)
  ∧ (∀ s : State, s.running = true → s.station = 4 → s.pol.held = false → s.stateLasts (s.rd Reg.POL_SEQ_T_SYNC_MS) = true → s.f3Latched Code.SYNC_TIMEOUT = false →
    ∃ t, exec .syncTimeout s = .next t ∧ t = { s with out := [], flt := { s.flt with pending := t.flt.pending } }
      ∧ FaultDue t Code.SYNC_TIMEOUT ∧ ∀ f ∈ s.flt.pending, f ∈ t.flt.pending)
  ∧ (∀ s : State, s.running = true → s.station = 7 → s.stateLasts (s.rd Reg.POL_SEQ_T_STOP_MS) = true → s.f3Latched Code.STOP_TIMEOUT = false →
    ∃ t, exec .stopTimeout s = .next t ∧ t = { s with out := [], flt := { s.flt with pending := t.flt.pending } }
      ∧ FaultDue t Code.STOP_TIMEOUT ∧ ∀ f ∈ s.flt.pending, f ∈ t.flt.pending)
  ∧ (∀ s : State, s.running = true →
    ∃ t, exec (.policySignalDeadline true) s = .next t
      ∧ t = { s with regs := t.regs, out := [], flt := { s.flt with pending := t.flt.pending },
                     pol := { s.pol with lateNow := true, lateRow := s.pol.lateRow + 1 } }
      ∧ t.rd Reg.POL_EVENTS_LATE = s.oneMore Reg.POL_EVENTS_LATE ∧ Keeps s t [Reg.POL_EVENTS_LATE]
      ∧ (s.pol.lateRow = 1 → s.f3Latched Code.POLICY_LATE = true ∨ FaultDue t Code.POLICY_LATE)
      ∧ (s.pol.lateRow ≠ 1 → t.flt = s.flt))
  ∧ (∀ s : State, s.running = true →
    ∃ t, exec (.policySignalDeadline false) s = .next t ∧ t = { s with out := [], pol := { s.pol with lateNow := false, lateRow := 0 } })
  ∧ (∀ s : State, s.running = true → s.rd Reg.POL_GRID_STAT_LOSS_PENDING = 1 →
      s.passed s.pol.lossAt (s.rd Reg.POL_GRID_LOSS_MS * 1000000) = true →
    ∃ t, exec .gridLost s = .next t ∧ t = { s with regs := t.regs, out := [], flt := { s.flt with pending := t.flt.pending } }
      ∧ t.rd Reg.POL_GRID_STAT_LOSS_PENDING = 0 ∧ Keeps s t [Reg.POL_GRID_STAT_LOSS_PENDING]
      ∧ (4 ≤ s.station → s.station ≤ 7 → s.f3Latched Code.GRID_LOST = true ∨ FaultDue t Code.GRID_LOST)
      ∧ (s.station < 4 → t.flt = s.flt))
  ∧ (∀ s : State, s.running = true → s.station = 6 → s.derated = false → 19999 ≤ s.pol.clearN →
    ∃ t, exec .derateClear s = .next t ∧ t = { s with out := [], pol := { s.pol with goto := some (5, 0x0302) } })
  ∧ (∀ s : State, s.running = true → s.station = 7 → s.step_ = 11 → s.stagesOfMs (s.rd Reg.POL_SEQ_T_RAMPDOWN_MS) ≤ s.pol.rampN + 1 →
    ∃ t, exec .rampdownEnd s = .next t
      ∧ t = { s with out := [], pol := { s.pol with rampN := s.stagesOfMs (s.rd Reg.POL_SEQ_T_RAMPDOWN_MS) } })
  ∧ (∀ (s : State) (c : Fin 512), s.running = true → s.svc c = Svc.BYPASSING → s.rd (Reg.CELL_SVC_CAUSE c) ≠ 7 → s.firstDue (s.cell c).bypassAt + 8 ≤ s.stage →
    ∃ t, exec (.bypassConfirmTimeout c) s = .next t ∧ t = { s with regs := t.regs, out := [], flt := { s.flt with pending := t.flt.pending } }
      ∧ t.rd (Reg.CELL_SVC_CAUSE c) = 7 ∧ FaultDue t Code.BYPASS_FAIL ∧ Keeps s t [Reg.CELL_SVC_CAUSE c])
  ∧ (∀ s : State, s.running = true → s.rd Reg.MEM_LOGBOOK_STAT_POST_RUNNING = 1 → s.rd Reg.MEM_LOGBOOK_STAT_POST_COUNT = 4095 →
    ∃ t, exec .logbookFrozen s = .next t
      ∧ t = { s with regs := t.regs, out := [], flt := { s.flt with queue := s.queueEvent Ev.LOGBOOK_FROZEN } }
      ∧ t.rd Reg.MEM_LOGBOOK_STAT_POST_RUNNING = 0 ∧ t.rd Reg.MEM_LOGBOOK_STAT_FROZEN = 1
      ∧ Keeps s t ([Reg.MEM_LOGBOOK_STAT_POST_RUNNING, Reg.MEM_LOGBOOK_STAT_FROZEN] ++ journalFlds))

/-- DESAT, OC_FAST, soft turn-off and a persisting short. A DESAT report of a channel with its detection on, while the
drive stage is active, counts a short, turns the gates off and latches its trip; an OC_FAST above the active threshold
likewise latches the leg's trip and holds the comparator; SOFT_TURNOFF_END ends the soft turn-off and, with MILLER_EN,
engages the clamps of its channels; DRV_SHORT_PERSIST of a leg whose over-current trip is on and whose comparator
still stands brings its F3 fault up once the gates of channels 0 to 5 have been off for 10 µs. (R385, R386, R387,
R391, R392) -/
def Obligations.DriveShorts : Prop :=
  (∀ (s : State) (c : Fin 6) (q : Bool) (on : BitVec 7), s.running = true → s.driveActive = true → s.hvVal (Reg.DRV_GATE_DS_EN c) ≠ 0 →
      s.drv.shorts = [] → s.tripOn (0x0D10 + c.val) = false →
    ∃ t, exec (.desat (c.castSucc) q on) s = .next t
      ∧ t = { s with regs := t.regs, out := [], mod := { s.mod with applied := { s.mod.applied with gates := false, boot := false }, gate := t.mod.gate },
                     drv := { s.drv with shorts := [c.val % 3], soft := [c.val], fresh := s.drv.fresh ++ [0x0D10 + c.val] } }
      ∧ t.rd Reg.DRV_EVENTS_SHORTS = s.oneMore Reg.DRV_EVENTS_SHORTS ∧ Keeps s t [Reg.DRV_EVENTS_SHORTS])
  ∧ (∀ (s : State) (q : Bool) (on : BitVec 7), s.running = true → s.driveActive = true → s.hvVal (Reg.DRV_GATE_DS_EN 6) ≠ 0 →
    ∃ t, exec (.desat 6 q on) s = .next t ∧ t.drv.ds6 = true ∧ t.drv.brakeCut = true ∧ t.mod.applied.gates = false
      ∧ 0x0D16 ∈ t.drv.fresh ++ t.drv.atB ++ t.drv.reported
      ∧ (s.ovBrake = true → s.f3Latched Code.DRV_BRAKE_LOST = true ∨ FaultDue t Code.DRV_BRAKE_LOST)
      ∧ t.rd Reg.DRV_EVENTS_SHORTS = s.oneMore Reg.DRV_EVENTS_SHORTS ∧ Keeps s t [Reg.DRV_EVENTS_SHORTS])
  ∧ (∀ (s : State) (l : Fin 3) (v : BitVec 16) (q : Bool) (on : BitVec 7), s.running = true → s.driveActive = true ∨ s.drive = Drv.OFF →
      s.hvVal Reg.DRV_PROT_OC_V < v.toNat → s.drv.shorts = [] → s.tripOn (0x0D20 + l.val) = false →
    ∃ t, exec (.ocFast l v q on) s = .next t
      ∧ t = { s with regs := t.regs, out := [], mod := { s.mod with applied := { s.mod.applied with gates := false, boot := false }, gate := t.mod.gate },
                     drv := { s.drv with oc := s.drv.oc ||| ((1 : BitVec 3) <<< l.val), shorts := [l.val], soft := t.drv.soft,
                                         fresh := s.drv.fresh ++ [0x0D20 + l.val] } }
      ∧ t.rd Reg.DRV_EVENTS_SHORTS = s.oneMore Reg.DRV_EVENTS_SHORTS ∧ Keeps s t [Reg.DRV_EVENTS_SHORTS])
  ∧ (∀ (s : State) (l : Fin 3) (v : BitVec 16) (q : Bool) (on : BitVec 7), s.running = true →
      v.toNat ≤ s.hvVal Reg.DRV_PROT_OC_V →
    ∃ t, exec (.ocFast l v q on) s = .next t ∧ t = { s with out := [] })
  ∧ (∀ s : State, s.running = true → 
    ∃ t, exec .softTurnoffEnd s = .next t
      ∧ t = { s with out := [], drv := { s.drv with soft := [] }, mod := { s.mod with gate := { s.mod.gate with clamp := t.mod.gate.clamp } } }
      ∧ (∀ c : Nat, c ∈ s.drv.soft → c < 7 → s.rd Reg.DRV_CFG_MILLER_EN = 1 → t.mod.gate.clamp.getLsbD c = true))
  ∧ (∀ (s : State) (l : Fin 3), s.running = true → s.tripOn (0x0D20 + l.val) = true → s.drv.oc.getLsbD l.val = true →
      s.mod.gate.on &&& 0x3F = 0 → (∀ c ∈ s.drv.soft, c = 6) → 10000 < s.drv.offNs + s.tsNs → s.f3Latched Code.DRV_SHORT_PERSIST = false →
    ∃ t, exec (.drvShortPersist l) s = .next t ∧ t = { s with out := [], flt := { s.flt with pending := t.flt.pending } }
      ∧ FaultDue t Code.DRV_SHORT_PERSIST)

/-- Over-voltage, brake and bootstrap supply. OV_TRIP at or above the threshold that the HV die holds, with VGD_OK, turns
the gates off and latches its trip while the drive stage is active, with or without a running controller; OV_BRAKE_ON
at or above its threshold drives the brake, and counts where the controller runs; OV_BRAKE_OFF below it by the
hysteresis ends that; BOOTSTRAP_UV trips an active drive stage; DRV_BUS_OV brings its F3 fault up while the comparator
still stands 10 ms after the trip. (R383, R389, R391, R392) -/
def Obligations.DriveBusVoltage : Prop :=
  (∀ (s : State) (v : BitVec 16), s.rd Reg.ID_SUPPLY_STAT_VGD_OK = 1 → s.hvVal Reg.DRV_PROT_OV_TRIP_V ≤ v.toNat →
      s.driveActive = true →
    ∃ t, exec (.ovTrip v) s = .next t
      ∧ t = { s with out := [], mod := { s.mod with applied := { s.mod.applied with gates := false, boot := false }, gate := t.mod.gate },
                     drv := { s.drv with ov := true, fresh := t.drv.fresh } }
      ∧ 0x0D30 ∈ t.drv.fresh ++ t.drv.atB ++ t.drv.reported)
  ∧ (∀ (s : State) (v : BitVec 16), s.rd Reg.ID_SUPPLY_STAT_VGD_OK = 1 → s.drv.brake = false → s.hvVal Reg.DRV_PROT_OV_BRAKE_ON_V ≤ v.toNat →
    ∃ t, exec (.ovBrakeOn v) s = .next t ∧ t = { s with regs := t.regs, out := [], drv := { s.drv with brake := true },
                                                                    mod := { s.mod with gate := { s.mod.gate with clamp := t.mod.gate.clamp } } }
      ∧ t.rd Reg.DRV_EVENTS_OV_BRAKE_ON = (if s.running then s.oneMore Reg.DRV_EVENTS_OV_BRAKE_ON else s.rd Reg.DRV_EVENTS_OV_BRAKE_ON) ∧ Keeps s t [Reg.DRV_EVENTS_OV_BRAKE_ON])
  ∧ (∀ (s : State) (v : BitVec 16),
      v.toNat + s.hvVal Reg.DRV_PROT_OV_BRAKE_HYST ≤ s.hvVal Reg.DRV_PROT_OV_BRAKE_ON_V →
    ∃ t, exec (.ovBrakeOff v) s = .next t ∧ t = { s with out := [], drv := { s.drv with brake := false },
                                                                     mod := { s.mod with gate := { s.mod.gate with clamp := t.mod.gate.clamp } } })
  ∧ (∀ (s : State) (l : Fin 3), s.running = true → s.driveActive = true →
    ∃ t, exec (.bootstrapUv l) s = .next t
      ∧ t = { s with out := [], mod := { s.mod with applied := { s.mod.applied with gates := false, boot := false }, gate := t.mod.gate }, drv := { s.drv with fresh := t.drv.fresh } }
      ∧ 0x0D40 + l.val ∈ t.drv.fresh ++ t.drv.atB ++ t.drv.reported)
  ∧ (∀ s : State, s.running = true → s.tripOn 0x0D30 = true → s.drv.ov = true → 10000000 < s.drv.ovNs + s.tsNs → s.f3Latched Code.DRV_BUS_OV = false →
    ∃ t, exec .drvBusOv s = .next t ∧ t = { s with out := [], flt := { s.flt with pending := t.flt.pending } } ∧ FaultDue t Code.DRV_BUS_OV)

/-- The status frame, adaptive levels and STO. HVS_STATUS_FRAME carries the trips latched by the boundary, the bootstrap
and comparator states, the switching times and the thermistors' readings to the logic side while the isolation link is
up, and on a porter holds and journals the trips and discards its own switching times; SWITCH_TIME_MEASURE leaves one
measurement for the next frame; ADAPT_LEVEL in the last stage of a carrier cycle shows each channel's count of
measurements and starts the next cycle with none; STO_LINE_CHANGE turns the gates off where it takes the driver
enable. (R371, R378, R379, R394, R467) -/
def Obligations.DriveLevels : Prop :=
  (∀ (s : State) (hb oc w : BitVec 3) (ov d : Bool), s.running = true → s.drv.hvLink = true → s.duo.role ≠ 2 →
    ∃ t, exec (.hvsStatusFrame hb ⟨oc, w⟩ ov d) s = .next t
      ∧ t = { s with regs := t.regs, out := [],
                     drv := { s.drv with hb := hb, oc := oc, ov := ov, ds6 := d, swLow := w, swNew := [], ntcNew := none, sw := t.drv.sw,
                                         reported := s.drv.reported ++ s.drv.atB, atB := [] } }
      ∧ (s.drv.swNew = [] → t.drv.sw = s.drv.sw)
      ∧ (∀ c n : Nat, s.drv.swNew = [(c, n)] → c < s.drv.sw.length →
          t.drv.sw.getD c (0, 0) = ((s.drv.sw.getD c (0, 0)).1 + 1, (s.drv.sw.getD c (0, 0)).2 + n)
          ∧ ∀ k : Nat, k ≠ c → t.drv.sw.getD k (0, 0) = s.drv.sw.getD k (0, 0))
      ∧ (s.drv.ntcNew = none → t.regs = s.regs)
      ∧ (∀ (x y : Int) (p q : Fin 4), s.drv.ntcNew = some [(x, p.val), (y, q.val)] →
          t.rd Reg.DRV_NTC_STAT0 = p.val ∧ t.rd Reg.DRV_NTC_STAT1 = q.val)
      ∧ Keeps s t [Reg.DRV_NTC_TEMP0, Reg.DRV_NTC_TEMP1, Reg.DRV_NTC_STAT0, Reg.DRV_NTC_STAT1])
  ∧ (∀ (s : State) (hb oc w : BitVec 3) (ov d : Bool), s.running = true → s.drv.hvLink = true → s.duo.role = 2 →
    ∃ t, exec (.hvsStatusFrame hb ⟨oc, w⟩ ov d) s = .next t
      ∧ t = { s with regs := t.regs, out := [], flt := { s.flt with queue := t.flt.queue },
                     drv := { s.drv with hb := hb, oc := oc, ov := ov, ds6 := d, swLow := w, swNew := [], ntcNew := none, held := t.drv.held,
                                         atB := [] } }
      ∧ (∀ c ∈ s.drv.atB, c ∈ t.drv.held)
      ∧ Keeps s t ([Reg.DRV_NTC_TEMP0, Reg.DRV_NTC_TEMP1, Reg.DRV_NTC_STAT0, Reg.DRV_NTC_STAT1] ++ journalFlds))
  ∧ (∀ (s : State) (c : Fin 6) (x y : BitVec 16), s.running = true → x.toNat ≤ s.rd Reg.DRV_CFG_ATTR * 2 → y.toNat ≤ 800 →
    ∃ t, exec (.switchTimeMeasure c x y) s = .next t
      ∧ t = { s with out := [], drv := { s.drv with swNew := s.drv.swNew ++ [(c.val, y.toNat)] } })
  ∧ (∀ s : State, s.running = true → (s.stage + 1) % s.rd Reg.MOD_CFG_DRV_N ≠ 0 → ∃ t, exec .adaptLevel s = .next t ∧ t = { s with out := [] })
  ∧ (∀ s : State, s.running = true → (s.stage + 1) % s.rd Reg.MOD_CFG_DRV_N = 0 →
    ∃ t, exec .adaptLevel s = .next t ∧ t.drv = { s.drv with sw := List.replicate 6 (0, 0) } ∧ t.mem = s.mem ∧ t.ses = s.ses
      ∧ (∀ c : Nat, c < 6 → t.rd (Reg.DRV_CHAN_MEAS_COUNT c) = min 255 (s.drv.sw.getD c (0, 0)).1)
      ∧ Keeps s t ((List.range 6).flatMap (fun c => [Reg.DRV_CHAN_MEAS_COUNT c, Reg.DRV_CHAN_T_SW c, Reg.DRV_CHAN_LEVEL c,
          Reg.DRV_CHAN_LEVEL_CHANGES c]) ++ journalFlds))
  ∧ (∀ (s : State) (a : Bool),
    ∃ t, exec (.stoLineChange a) s = .next t
      ∧ t = { s with out := [], drv := { s.drv with sto := a },
                     mod := { s.mod with applied := { s.mod.applied with gates := t.mod.applied.gates, boot := t.mod.applied.boot }, gate := t.mod.gate } }
      ∧ (a = true → t.mod.applied.gates = false ∧ t.mod.applied.boot = false ∧ t.mod.gate.on = 0))

/-- Bootstrap charge, the end of a stop and over-speed. BOOT_CHARGE_CHECK after the bootstrap pulses goes on where all
three legs are charged and trips the drive stage with BOOT_CHARGE_FAIL otherwise; DRIVE_STOP_END in STOPPING, after
20,000 stages below ZERO_RPM or with T_DRV_STOP_MS elapsed, begins step Y2 with the drive's slots at MANUAL, and
queues DRV_STOP_TIMEOUT where the time has run out; OVERSPEED after 10 stages beyond 1.1 times MAX_RPM trips an active
drive stage. (R391, R396, R398, R399) -/
def Obligations.DriveSequence : Prop :=
  (∀ s : State, s.running = true → s.drive = Drv.CHARGING → s.drv.boot = 0 → s.rd Reg.DRV_CFG_BOOT_PULSES * 10 + 2 ≤ s.drv.stepN → s.drv.hb = 7 →
    ∃ t, exec .bootChargeCheck s = .next t ∧ t = { s with out := [], drv := { s.drv with boot := 1 } })
  ∧ (∀ s : State, s.running = true → s.drive = Drv.CHARGING → s.drv.boot = 0 → s.rd Reg.DRV_CFG_BOOT_PULSES * 10 + 2 ≤ s.drv.stepN → s.drv.hb ≠ 7 →
    ∃ t, exec .bootChargeCheck s = .next t
      ∧ t = { s with out := [], mod := { s.mod with applied := { s.mod.applied with gates := false, boot := false }, gate := t.mod.gate }, drv := { s.drv with fresh := t.drv.fresh } }
      ∧ 0x0D44 ∈ t.drv.fresh ++ t.drv.atB ++ t.drv.reported)
  ∧ (∀ (s : State) (late : Bool), s.running = true → s.drive = Drv.STOPPING → s.drv.y2 = false →
      (if late then s.rd Reg.DRV_MOTOR_T_DRV_STOP_MS * 1000000 < (s.drv.stepN + 1) * s.tsNs else 20000 ≤ s.drv.zeroN) →
    ∃ t, exec (.driveStopEnd late) s = .next t ∧ t.drv = { s.drv with y2 := true } ∧ t.rd Reg.MOD_DRV_STARTED = 0
      ∧ t.flt = { s.flt with queue := if late then s.queueEvent Ev.DRV_STOP_TIMEOUT else s.flt.queue } ∧ t.mem = s.mem ∧ t.ses = s.ses)
  ∧ (∀ s : State, s.running = true → s.driveActive = true →
      s.f32 Reg.DRV_MOTOR_MAX_RPM * 11 / 10 < absRat (s.f32 Reg.DRV_ENC_SPEED) → 10 ≤ s.drv.overN →
    ∃ t, exec .overspeed s = .next t
      ∧ t = { s with out := [], mod := { s.mod with applied := { s.mod.applied with gates := false, boot := false }, gate := t.mod.gate }, drv := { s.drv with fresh := t.drv.fresh } }
      ∧ 0x0D62 ∈ t.drv.fresh ++ t.drv.atB ++ t.drv.reported)

/-- Encoder edges and thermistor samples. ENCODER_EDGE without an index pulse counts up for a step in the positive
direction, down for one in the negative, and an illegal transition is counted in DRV_ENC and moves nothing; an index
pulse notes the position at which it came; the direction is the model's choice (log entry 21). an unclassified bank
takes no edge in. NTC_SAMPLE takes both codes into the last eight of each thermistor, and its readings wait for the
next status frame, with STAT 3 for one that is not enabled. (R404, R407, R579) -/
def Obligations.EncoderAndThermistors : Prop :=
  (∀ (s : State) (a b : Bool), s.running = true → s.rd Reg.ID_VIO_STAT_CLASS2 ≠ 0 → s.drv.encZ = false →
      (quad a b + 4 - quad s.drv.encA s.drv.encB) % 4 ≠ 2 →
    ∃ t, exec (.encoderEdge a b false) s = .next t
      ∧ t = { s with out := [], drv := { s.drv with encA := a, encB := b, encPos :=
                (if (quad a b + 4 - quad s.drv.encA s.drv.encB) % 4 = 1 then (s.drv.encPos + 1) % 2 ^ 32
                 else if (quad a b + 4 - quad s.drv.encA s.drv.encB) % 4 = 3 then (s.drv.encPos + 2 ^ 32 - 1) % 2 ^ 32 else s.drv.encPos) } })
  ∧ (∀ (s : State) (a b z : Bool), s.running = true → s.rd Reg.ID_VIO_STAT_CLASS2 = 0 →
    ∃ t, exec (.encoderEdge a b z) s = .next t ∧ t = { s with out := [] })
  ∧ (∀ (s : State) (a b : Bool), s.running = true → s.rd Reg.ID_VIO_STAT_CLASS2 ≠ 0 → s.drv.encZ = false →
      (quad a b + 4 - quad s.drv.encA s.drv.encB) % 4 = 2 →
    ∃ t, exec (.encoderEdge a b false) s = .next t
      ∧ t = { s with regs := t.regs, out := [], drv := { s.drv with encA := a, encB := b, illegal := t.drv.illegal } }
      ∧ t.rd Reg.DRV_ENC_ILLEGAL = s.oneMore Reg.DRV_ENC_ILLEGAL ∧ Keeps s t [Reg.DRV_ENC_ILLEGAL])
  ∧ (∀ (s : State), s.running = true → s.rd Reg.ID_VIO_STAT_CLASS2 ≠ 0 → s.drv.encZ = false →
    ∃ t, exec (.encoderEdge s.drv.encA s.drv.encB true) s = .next t
      ∧ t = { s with regs := t.regs, out := [], drv := { s.drv with encZ := true, zAt := some s.drv.encPos, zBad := t.drv.zBad } }
      ∧ Keeps s t [Reg.DRV_ENC_MISCOUNT])
  ∧ (∀ (s : State) (x y : BitVec 12), s.running = true → s.drv.hvLink = true → s.rd Reg.DRV_NTC_NTC_EN = 0 → s.drv.ntc.length = 2 →
      s.drv.ntcNew = none →
    ∃ t, exec (.ntcSample x y false false) s = .next t ∧ t = { s with out := [], drv := t.drv }
      ∧ t.drv.ntc = [(x.toNat :: s.drv.ntc.getD 0 []).take 8, (y.toNat :: s.drv.ntc.getD 1 []).take 8]
      ∧ (t.drv.ntcNew.getD []).map (fun p => p.2) = [3, 3])

/-- Triggers and results of the converters. ADC_STOP_TRIGGER of an idle enabled converter begins the stop's conversions,
counted as late where a timed trigger finds the multiplexer just switched; of a busy one it counts a missed trigger
and leaves the stop in progress; where no instant of the awaited stop falls in the stage, or its instant has come, it
changes nothing. ADC_RESULT_WRITE puts the stop's result, marked new and not stale, into its entry and shows it in the
converter's data register, and goes on to the next stop; without correction a single conversion gives its raw code.
RESULT_STALE marks what the converter has not written within TIMEOUT. (R422, R423, R424, R425, R441, R445) -/
def Obligations.Conversions : Prop :=
  (∀ (s : State) (x : Fin 4) (late : Bool), s.running = true → s.rd (Reg.MEAS_ADC_CFG_EN x) = 1 → (s.adcOf x).busy = false → s.triggerComes x = true →
    ∃ t, exec (.adcStopTrigger x late) s = .next t ∧ t = { s with regs := t.regs, out := [], meas := { s.meas with adc := t.meas.adc } }
      ∧ t.adcOf x = { s.adcOf x with busy := true, fired := (t.adcOf x).fired } ∧ (∀ y : Fin 4, y ≠ x → t.adcOf y = s.adcOf y)
      ∧ t.rd (Reg.MEAS_ADC_CFG_TRIG_LATE x) = (if late ∧ s.rd (Reg.MEAS_STOP_TRIGGER x (s.adcOf x).stop) ≠ 0
          then s.oneMore (Reg.MEAS_ADC_CFG_TRIG_LATE x) else s.rd (Reg.MEAS_ADC_CFG_TRIG_LATE x))
      ∧ Keeps s t [Reg.MEAS_ADC_CFG_TRIG_LATE x])
  ∧ (∀ (s : State) (x : Fin 4) (late : Bool), s.running = true → s.rd (Reg.MEAS_ADC_CFG_EN x) = 1 → (s.adcOf x).busy = true →
      s.rd (Reg.MEAS_STOP_TRIGGER x (((s.adcOf x).stop + 1) % s.rd (Reg.MEAS_ADC_CFG_STOP_COUNT x))) = 1 →
      (s.adcOf x).fired.1 ≠ s.stage →
    ∃ t, exec (.adcStopTrigger x late) s = .next t ∧ t = { s with regs := t.regs, out := [], meas := { s.meas with adc := t.meas.adc } }
      ∧ t.adcOf x = { s.adcOf x with fired := (s.stage, [((s.adcOf x).stop + 1) % s.rd (Reg.MEAS_ADC_CFG_STOP_COUNT x)]) }
      ∧ (∀ y : Fin 4, y ≠ x → t.adcOf y = s.adcOf y)
      ∧ t.rd (Reg.MEAS_ADC_CFG_TRIG_MISSED x) = s.oneMore (Reg.MEAS_ADC_CFG_TRIG_MISSED x) ∧ Keeps s t [Reg.MEAS_ADC_CFG_TRIG_MISSED x])
  ∧ (∀ (s : State) (x : Fin 4) (late : Bool), s.running = true → s.rd (Reg.MEAS_ADC_CFG_EN x) = 1 → s.triggerComes x = false →
    ∃ t, exec (.adcStopTrigger x late) s = .next t ∧ t = { s with out := [] })
  ∧ (∀ (s : State) (x : Fin 4) (l : List (BitVec 16 × Bool)) (ago : Byte) (p : BitVec 16) (e : MeasEntry), s.running = true →
      s.rd (Reg.MEAS_ADC_CFG_EN x) = 1 → (s.adcOf x).busy = true → s.relieved x = false → s.stopResult x l = some e →
    ∃ t, exec (.adcResultWrite x l ago p) s = .next t ∧ t = { s with regs := t.regs, out := [], meas := { s.meas with adc := t.meas.adc, table := t.meas.table } }
      ∧ t.entryOf (s.rd (Reg.MEAS_STOP_RESULT x (s.adcOf x).stop))
          = (s.entryOf (s.rd (Reg.MEAS_STOP_RESULT x (s.adcOf x).stop))).put { e with stage := s.stageAgo ago, sample := p.toNat }
      ∧ (∀ n : Nat, n ≠ s.rd (Reg.MEAS_STOP_RESULT x (s.adcOf x).stop) → t.entryOf n = s.entryOf n)
      ∧ (t.adcOf x).busy = false ∧ (t.adcOf x).stop = ((s.adcOf x).stop + 1) % s.rd (Reg.MEAS_ADC_CFG_STOP_COUNT x)
      ∧ (∀ y : Fin 4, y ≠ x → t.adcOf y = s.adcOf y)
      ∧ t.rd (Reg.MEAS_DATA_CODE x) = e.code % 2 ^ 16 ∧ t.rd (Reg.MEAS_DATA_STALE x) = 0
      ∧ Keeps s t [Reg.MEAS_DATA_CODE x, Reg.MEAS_DATA_OVR x, Reg.MEAS_DATA_SETTLE x, Reg.MEAS_DATA_STALE x, Reg.MEAS_DATA_OVERRUN x,
          Reg.MEAS_DATA_STOP x, Reg.MEAS_DATA_RESULT x])
  ∧ (∀ (s : State) (x : Fin 4) (c : BitVec 16) (o : Bool) (ago : Byte) (p : BitVec 16), s.running = true → s.rd (Reg.MEAS_ADC_CFG_EN x) = 1 →
      (s.adcOf x).busy = true → s.relieved x = false → (s.adcOf x).gain = none → s.rd (Reg.MEAS_STOP_REPEAT x (s.adcOf x).stop) = 0 →
      s.word (0x0A000300 + 0x20 * x.val + 4 * s.rd (Reg.MEAS_STOP_GAIN x (s.adcOf x).stop)) = 0 → c ≠ 0x8000 →
    ∃ t, exec (.adcResultWrite x [(c, o)] ago p) s = .next t ∧ t.rd (Reg.MEAS_DATA_CODE x) = c.toNat
      ∧ t.rd (Reg.MEAS_DATA_OVR x) = (if o then 1 else 0) ∧ t.rd (Reg.MEAS_DATA_SETTLE x) = 0)
  ∧ (∀ (s : State) (x : Fin 4), s.running = true → s.rd (Reg.MEAS_ADC_CFG_TIMEOUT x) ≤ (s.adcOf x).age →
      (s.meas.table.map (fun p => p.1)).Nodup → s.meas.last4.1 ≠ x.val →
    ∃ t, exec (.resultStale x) s = .next t ∧ t = { s with regs := t.regs, out := [], meas := { s.meas with table := t.meas.table } }
      ∧ (∀ n : Nat, t.entryOf n = (if n < 256 ∧ (s.entryOf n).conv = x.val ∧ s.rd (Reg.MEAS_ADC_CFG_TIMEOUT x) ≤ (s.entryOf n).age
          then { s.entryOf n with stale := true } else s.entryOf n))
      ∧ t.rd (Reg.MEAS_DATA_STALE x) = 1 ∧ Keeps s t [Reg.MEAS_DATA_STALE x])

/-- The result table is handed to LOOP once in a stage. MEAS_HANDOVER_CUT, the first of its stage on a module that is no
porter, hands each entry of the table over to its MEAS_RESULT object and leaves it no longer new; a bitstream lost
since the last cut shows in LOST, makes its result stale and brings F0 MEAS_SD_LOST up; a second cut of the stage
changes nothing, and a porter in step hands nothing over of its own. (R428, R442, R466) -/
def Obligations.HandoverCut : Prop :=
  (∀ (s : State), s.running = true → s.meas.cutAt ≠ some s.stage → s.duo.role ≠ 2 → s.meas.sdFell = 0 → (s.meas.table.map (fun p => p.1)).Nodup →
      (∀ p ∈ s.meas.table, p.1 < 260) →
    ∃ t, exec .measHandoverCut s = .next t
      ∧ t = { s with regs := t.regs, out := [], meas := { s.ageMeas.meas with table := t.meas.table } }
      ∧ (∀ p ∈ s.meas.table, t.rd (Reg.MEAS_RESULT_VALUE p.1) = p.2.value.toNat ∧ t.rd (Reg.MEAS_RESULT_CODE p.1) = p.2.code % 2 ^ 16
          ∧ t.rd (Reg.MEAS_RESULT_NEW p.1) = (if p.2.new then 1 else 0) ∧ t.rd (Reg.MEAS_RESULT_STALE p.1) = (if p.2.stale then 1 else 0)
          ∧ t.entryOf p.1 = { p.2 with new := false, age := p.2.age + 1 })
      ∧ (∀ x : Fin 4, t.adcOf x = { s.adcOf x with age := (s.adcOf x).age + 1 }))
  ∧ (∀ (s : State), s.running = true → s.meas.cutAt = some s.stage → ∃ t, exec .measHandoverCut s = .next t ∧ t = { s with out := [] })
  ∧ (∀ (s : State), s.running = true → s.meas.cutAt ≠ some s.stage → s.duo.role = 2 → s.meas.sdFell = 0 →
    ∃ t, exec .measHandoverCut s = .next t
      ∧ t = { s with out := [], meas := { s.ageMeas.meas with table := s.meas.table.map (fun p => (p.1, p.2.taken)) } })
  ∧ (∀ (s : State) (m : Fin 4), s.running = true → s.meas.cutAt ≠ some s.stage → s.duo.role ≠ 2 → s.meas.sdFell = 2 ^ m.val → s.meas.table = [] →
    ∃ t, exec .measHandoverCut s = .next t ∧ t.meas.sdFell = 0
      ∧ (∀ k : Fin 4, bit4 (t.rd Reg.MEAS_SD_STAT_LOST) k = (bit4 (s.rd Reg.MEAS_SD_STAT_LOST) k || k == m))
      ∧ t.rd (Reg.MEAS_RESULT_STALE (256 + m.val)) = 1 ∧ FaultDue t Code.MEAS_SD_LOST ∧ t.mem = s.mem ∧ t.ses = s.ses)

/-- Outputs, loss and recovery of a sigma-delta bitstream. SD_FILTER_OUTPUT of a bitstream that is present puts its output
into result 256 + m, with SETTLE while settling outputs are left, one fewer then; SD_BITSTREAM_LOST counts and waits
for the next cut, which shows it; SD_BITSTREAM_RECOVER clears the bit and lets three settling outputs follow. The
other modulators keep their bits. (R427, R429, R432) -/
def Obligations.SigmaDelta : Prop :=
  (∀ (s : State) (m : Fin 4) (c : BitVec 16) (o : Bool) (ago : Byte) (p : BitVec 16), s.running = true → s.sdDown m = false →
      s.meas.calSd = none → s.meas.settle.length = 4 → s.word (0x0A000300 + 0x20 * (5 + m.val)) = 0 →
    ∃ t, exec (.sdFilterOutput m c o ago p) s = .next t
      ∧ t = { s with regs := t.regs, out := [], meas := { s.meas with settle := t.meas.settle, table := t.meas.table } }
      ∧ (t.entryOf (256 + m.val)).code = c.toNat ∧ (t.entryOf (256 + m.val)).ovr = o ∧ (t.entryOf (256 + m.val)).new = true
      ∧ (t.entryOf (256 + m.val)).stale = false ∧ (t.entryOf (256 + m.val)).settle = decide (s.meas.settle.getD m.val 0 ≠ 0)
      ∧ (t.entryOf (256 + m.val)).stage = s.stageAgo ago ∧ (t.entryOf (256 + m.val)).sample = p.toNat
      ∧ t.meas.settle.getD m.val 0 = s.meas.settle.getD m.val 0 - 1
      ∧ (∀ n : Nat, n ≠ 256 + m.val → t.entryOf n = s.entryOf n) ∧ Keeps s t [Reg.MEAS_SD_STAT_SETTLING])
  ∧ (∀ (s : State) (m : Fin 4), s.running = true → s.sdDown m = false →
    ∃ t, exec (.sdBitstreamLost m) s = .next t
      ∧ t = { s with regs := t.regs, out := [], meas := { s.meas with sdFell := t.meas.sdFell } }
      ∧ (∀ k : Fin 4, bit4 t.meas.sdFell k = (bit4 s.meas.sdFell k || k == m))
      ∧ t.rd Reg.MEAS_SD_STAT_LOSS_COUNT = s.oneMore Reg.MEAS_SD_STAT_LOSS_COUNT
      ∧ Keeps s t [Reg.MEAS_SD_STAT_LOSS_COUNT])
  ∧ (∀ (s : State) (m : Fin 4), s.running = true → bit4 (s.rd Reg.MEAS_SD_STAT_LOST) m = true → bit4 s.meas.sdFell m = false → s.meas.settle.length = 4 →
    ∃ t, exec (.sdBitstreamRecover m) s = .next t ∧ t = { s with regs := t.regs, out := [], meas := { s.meas with settle := t.meas.settle } }
      ∧ (∀ k : Fin 4, bit4 (t.rd Reg.MEAS_SD_STAT_LOST) k = (bit4 (s.rd Reg.MEAS_SD_STAT_LOST) k && k != m))
      ∧ bit4 (t.rd Reg.MEAS_SD_STAT_SETTLING) m = true ∧ t.meas.settle.getD m.val 0 = 3
      ∧ Keeps s t [Reg.MEAS_SD_STAT_LOST, Reg.MEAS_SD_STAT_SETTLING])

/-- Relief runs and the calibration commands. AUTO_CAL_REQUEST, while automatic calibration is on and AUTO_S / 4 seconds
after the last, queues the converter in turn; RELIEF_RUN_START takes the first of the queue and shows it as served;
RELIEF_HANDOVER, between two stops, gives its itinerary to ADC4; RELIEF_CAL_END, 2.0 ms later, notes its coefficients;
RELIEF_HANDBACK gives the itinerary back, and stores coefficients within their bounds or counts a failure. CAL of a
converter queues its relief run and stays in execution; of ADC4 with no relief run it begins its calibration, and
ADC4_CAL_DONE ends it; of the sigma-delta offsets in STANDBY it begins the collection of outputs, and outside STANDBY
it is refused with BUSY_RUNNING. A PARAM other than 0 is refused. (R172, R434, R435, R436, R445) -/
def Obligations.ReliefAndCalibration : Prop :=
  (∀ s : State, s.running = true → s.rd Reg.MEAS_CAL_CFG_AUTO_S ≠ 0 →
      s.rd Reg.MEAS_CAL_CFG_AUTO_S * 250000000 < s.meas.autoNs + s.tsNs → s.meas.auto < 4 → s.meas.auto ∉ s.meas.queue →
      (∀ p, s.meas.relief = some p → p.1 ≠ s.meas.auto) →
    ∃ t, exec .autoCalRequest s = .next t
      ∧ t = { s with regs := t.regs, out := [], meas := { s.meas with auto := (s.meas.auto + 1) % 4, autoNs := t.meas.autoNs, queue := s.meas.queue ++ [s.meas.auto] } }
      ∧ Keeps s t [Reg.MEAS_RELIEF_QUEUED])
  ∧ (∀ (s : State) (x : Nat) (l : List Nat), s.running = true → s.meas.queue = x :: l → s.meas.relief = none → s.meas.cal4 = false → x < 4 →
    ∃ t, exec .reliefRunStart s = .next t
      ∧ t = { s with regs := t.regs, out := [], meas := { s.meas with queue := l, relief := some (x, .connected), coefs := none } }
      ∧ t.rd Reg.MEAS_RELIEF_BUSY = 1 ∧ t.rd Reg.MEAS_RELIEF_SERVING = x ∧ t.rd (Reg.MEAS_DATA_RELIEF_OF 4) = x
      ∧ t.rd Reg.MEAS_RELIEF_RUNS = s.oneMore Reg.MEAS_RELIEF_RUNS
      ∧ Keeps s t [Reg.MEAS_RELIEF_QUEUED, Reg.MEAS_RELIEF_BUSY, Reg.MEAS_RELIEF_SERVING, Reg.MEAS_DATA_RELIEF_OF 4, Reg.MEAS_RELIEF_RUNS])
  ∧ (∀ (s : State) (x : Fin 4), s.running = true → s.meas.relief = some (x.val, .connected) → (s.adcOf x).busy = false →
    ∃ t, exec .reliefHandover s = .next t
      ∧ t = { s with regs := t.regs, out := [], meas := { s.meas with relief := some (x.val, .running), reliefNs := 0, adc := t.meas.adc } }
      ∧ t.rd (Reg.MEAS_DATA_RELIEVED x) = 1 ∧ Keeps s t [Reg.MEAS_DATA_RELIEVED x])
  ∧ (∀ (s : State) (x : Nat) (l : List (Int × Int)), s.running = true → s.meas.relief = some (x, .running) →
      2000000 < s.meas.reliefNs + s.tsNs →
    ∃ t, exec (.reliefCalEnd l) s = .next t ∧ t = { s with out := [], meas := { s.meas with relief := some (x, .calibrated), coefs := some l } })
  ∧ (∀ (s : State) (x : Fin 4) (l : Coefs), s.running = true → s.meas.relief = some (x.val, .calibrated) → s.meas.coefs = some l →
      (s.adcOf x).busy = false →
    ∃ t, exec .reliefHandback s = .next t ∧ t.meas.relief = none ∧ t.meas.table = s.meas.table ∧ t.mem = s.mem ∧ t.flt = s.flt
      ∧ t.rd (Reg.MEAS_DATA_RELIEVED x) = 0 ∧ t.rd Reg.MEAS_RELIEF_BUSY = 0
      ∧ t.rd (Reg.MEAS_CAL_CAL_COUNT x) = s.oneMore (Reg.MEAS_CAL_CAL_COUNT x)
      ∧ (coefsOk l = true → ∀ g : Nat, ∀ c : Int × Int, l[g]? = some c →
          t.word (0x0A000300 + 0x20 * x.val + 4 * g) = BitVec.ofNat 32 (ofSigned 16 c.1 * 65536 + ofSigned 16 c.2))
      ∧ (coefsOk l = false → t.rd (Reg.MEAS_CAL_FAIL_COUNT x) = s.oneMore (Reg.MEAS_CAL_FAIL_COUNT x)))
  ∧ (∀ (s : State) (r : Req) (x : Fin 4), Ready s r Verb.CAL → x.val ∉ s.meas.queue → (∀ p, s.meas.relief = some p → p.1 ≠ x.val) →
    ∃ t, exec (.calAdc r x 0) s = .next t ∧ Started s t r Verb.CAL (.cal x.val) s.stage
      ∧ t = { s with regs := t.regs, ses := t.ses, turn := r.session, out := [], meas := { s.meas with queue := s.meas.queue ++ [x.val] } }
      ∧ Keeps s t (Reg.MEAS_RELIEF_QUEUED :: sessionFlds r.session))
  ∧ (∀ (s : State) (r : Req), Ready s r Verb.CAL → s.meas.queue = [] → s.meas.relief = none → s.meas.cal4 = false →
    ∃ t, exec (.calAdc4 r 0) s = .next t ∧ Started s t r Verb.CAL .cal4 s.stage
      ∧ t = { s with regs := t.regs, ses := t.ses, turn := r.session, out := [], meas := { s.meas with cal4 := true } } ∧ Keeps s t (sessionFlds r.session))
  ∧ (∀ (s : State) (r : Req), Ready s r Verb.CAL → s.station = St.STANDBY → s.meas.calSd = none →
    ∃ t, exec (.calSdOffset r 0) s = .next t ∧ Started s t r Verb.CAL .calSd s.stage
      ∧ t = { s with regs := t.regs, ses := t.ses, turn := r.session, out := [], meas := { s.meas with calSd := some (List.replicate 4 (0, 0, 0)) } }
      ∧ Keeps s t (sessionFlds r.session))
  ∧ (∀ (s : State) (r : Req), Ready s r Verb.CAL → s.station ≠ St.STANDBY →
    ∃ t, exec (.calSdOffset r 0) s = .next t ∧ Completed s t r Verb.CAL 0 Status.BUSY_RUNNING [] s.stage
      ∧ t = { s with regs := t.regs, ses := t.ses, turn := r.session, canTx := t.canTx, out := t.out } ∧ Keeps s t (sessionFlds r.session))
  ∧ (∀ (s : State) (r : Req) (x : Fin 4) (p : Word), Ready s r Verb.CAL → p ≠ 0 →
    ∃ t, exec (.calAdc r x p) s = .next t ∧ Completed s t r Verb.CAL 0 Status.VALUE_OUT_OF_RANGE [] s.stage
      ∧ t = { s with regs := t.regs, ses := t.ses, turn := r.session, canTx := t.canTx, out := t.out } ∧ Keeps s t (sessionFlds r.session))
  ∧ (∀ (s : State) (l : Coefs), s.running = true → s.meas.cal4 = true →
    ∃ t, exec (.adc4CalDone l) s = .next t ∧ t.meas = { s.meas with cal4 := false } ∧ t.mem = s.mem ∧ t.flt = s.flt
      ∧ t.rd (Reg.MEAS_CAL_CAL_COUNT 4) = s.oneMore (Reg.MEAS_CAL_CAL_COUNT 4)
      ∧ (coefsOk l = true → ∀ g : Nat, ∀ c : Int × Int, l[g]? = some c →
          t.word (0x0A000380 + 4 * g) = BitVec.ofNat 32 (ofSigned 16 c.1 * 65536 + ofSigned 16 c.2)))

/-- A link loses its signal, locks again, and comes up. LINK_LOS and LINK_BLOCK_LOCK_LOSS of a locked link clear LOCKED
and UP, set LOL_SEEN and count the loss, and set LOS with LOS_SEEN or clear BLOCK_LOCK and count the invalid blocks;
LINK_LOCKED shows the receiver locked and, at an end of an enabled route that was down and trains not, begins the
training that the station calls for; LINK_UP sets UP of a locked link. Other routes keep what they hold, and every
other register but the route's own keeps its value. (R198, R200, R213, R214) -/
def Obligations.LinkLocks : Prop :=
  (∀ (s : State) (l : Fin 50), s.running = true → s.rd (Reg.LANE_STAT_LOCKED l) = 1 →
    ∃ t, exec (.linkLos l) s = .next t
      ∧ t = { s with regs := t.regs, seen := t.seen, out := [], clk := { s.clk with laneBack := t.clk.laneBack }, free := t.free,
                     link := { s.link with routes := t.link.routes } }
      ∧ (l.val < 48 → t.clk = s.clk ∧ t.free = s.free) ∧ Reg.LANE_STAT_LOL_SEEN l ∈ t.seen
      ∧ t.rd (Reg.LANE_STAT_LOS l) = 1 ∧ t.rd (Reg.LANE_STAT_LOS_SEEN l) = 1 ∧ t.rd (Reg.LANE_STAT_LOCKED l) = 0
      ∧ t.rd (Reg.LANE_STAT_UP l) = 0 ∧ t.rd (Reg.LANE_STAT_LOL_SEEN l) = 1
      ∧ t.rd (Reg.LANE_CNT_LOCK_LOSS l) = s.oneMore (Reg.LANE_CNT_LOCK_LOSS l)
      ∧ (∀ m : Nat, m ≠ l.val / 2 → t.route m = s.route m)
      ∧ Keeps s t ([Reg.LANE_STAT_LOS l, Reg.LANE_STAT_LOS_SEEN l, Reg.CLK_LANE_REF_SOURCE] ++ s.lockFlds l))
  ∧ (∀ (s : State) (l : Fin 50), s.running = true → s.rd (Reg.LANE_STAT_LOCKED l) = 0 →
    ∃ t, exec (.linkLos l) s = .next t
      ∧ t = { s with regs := t.regs, seen := s.seen ++ [Reg.LANE_STAT_LOS_SEEN l], out := [] } ∧ t.rd (Reg.LANE_STAT_LOS l) = 1
      ∧ t.rd (Reg.LANE_STAT_LOS_SEEN l) = 1 ∧ Keeps s t [Reg.LANE_STAT_LOS l, Reg.LANE_STAT_LOS_SEEN l])
  ∧ (∀ (s : State) (l : Fin 50) (x : BitVec 16), s.running = true → s.rd (Reg.LANE_STAT_LOCKED l) = 1 →
    ∃ t, exec (.linkBlockLockLoss l x) s = .next t
      ∧ t = { s with regs := t.regs, seen := t.seen, out := [], clk := { s.clk with laneBack := t.clk.laneBack }, free := t.free,
                     link := { s.link with routes := t.link.routes } }
      ∧ (l.val < 48 → t.clk = s.clk ∧ t.free = s.free) ∧ Reg.LANE_STAT_LOL_SEEN l ∈ t.seen
      ∧ t.rd (Reg.LANE_STAT_BLOCK_LOCK l) = 0 ∧ t.rd (Reg.LANE_STAT_LOCKED l) = 0 ∧ t.rd (Reg.LANE_STAT_UP l) = 0
      ∧ t.rd (Reg.LANE_STAT_LOL_SEEN l) = 1 ∧ t.rd (Reg.LANE_CNT_LOCK_LOSS l) = s.oneMore (Reg.LANE_CNT_LOCK_LOSS l)
      ∧ t.rd (Reg.LANE_CNT_HEADER_ERR l) = min (s.rd (Reg.LANE_CNT_HEADER_ERR l) + x.toNat) (Reg.LANE_CNT_HEADER_ERR l).top
      ∧ (∀ m : Nat, m ≠ l.val / 2 → t.route m = s.route m)
      ∧ Keeps s t ([Reg.LANE_STAT_BLOCK_LOCK l, Reg.LANE_CNT_HEADER_ERR l, Reg.CLK_LANE_REF_SOURCE] ++ s.lockFlds l))
  ∧ (∀ (s : State) (l : Fin 50), s.running = true →
    ∃ t, exec (.linkLocked l) s = .next t
      ∧ t = { s with regs := t.regs, seen := t.seen, out := [], link := { s.link with routes := t.link.routes } }
      ∧ t.rd (Reg.LANE_STAT_LOS l) = 0 ∧ t.rd (Reg.LANE_STAT_CDR_LOCK l) = 1 ∧ t.rd (Reg.LANE_STAT_BLOCK_LOCK l) = 1
      ∧ t.rd (Reg.LANE_STAT_LOCKED l) = 1 ∧ (∀ m : Nat, m ≠ l.val / 2 → t.route m = s.route m)
      ∧ Keeps s t ([Reg.LANE_STAT_LOS l, Reg.LANE_STAT_CDR_LOCK l, Reg.LANE_STAT_BLOCK_LOCK l] ++ s.lockFlds l))
  ∧ (∀ (s : State) (n : Fin 24) (ret : Bool), s.running = true → s.routeOn n = true → s.ownEnd ret = true → (s.route n).training = none →
      (if ret then (s.route n).downRet else (s.route n).downOut) = true →
    ∃ t, exec (.linkLocked ⟨linkOf n ret, by unfold linkOf; have := n.isLt; split <;> omega⟩) s = .next t
      ∧ (t.route n).training = some s.switching ∧ t.rd (Reg.ROUTE_STAT_STATE n) = (if s.switching then s.rd (Reg.ROUTE_STAT_STATE n) else 2))
  ∧ (∀ (s : State) (l : Fin 50), s.running = true → s.rd (Reg.LANE_STAT_LOCKED l) = 1 →
    ∃ t, exec (.linkUp l) s = .next t ∧ t = { s with regs := t.regs, out := [] } ∧ t.rd (Reg.LANE_STAT_UP l) = 1
      ∧ Keeps s t [Reg.LANE_STAT_UP l])

/-- Quiet and live training of a route. QUIET_TRAINING of an enabled route outside switching serves no hop of it and shows
TRAINING, with the stage of the change; LIVE_TRAINING while the station switches leaves what is served;
TRAINING_LOCK_TIMEOUT, 4,000 stages after step 1 began, records an unlocked end of a route in it as down, and ends
step 1 where no other end is awaited. TRAINING_COMPLETE first takes what the ends and the partner have had; before
step 6 it changes nothing else; in step 6 of a quiet training it leaves the route as step 3 and step 5 have judged it,
with its cause and the hops that are served, and counts the training: READY and closed, or DOWN, or refused with no
hop served. ROUTE_TRAIN of enabled routes outside switching begins quiet training on each route it selects and stays
in execution. (R193, R195, R196, R199, R201, R247) -/
def Obligations.TrainingEndsServedOrRefused : Prop :=
  (∀ (s : State) (n : Fin 24), s.running = true → s.switching = false → s.routeOn n = true →
    ∃ t, exec (.quietTraining n) s = .next t
      ∧ t = { s with regs := t.regs, seen := t.seen, out := [], link := { s.link with routes := t.link.routes } }
      ∧ t.route n = { training := some false, since := s.quietFrom n, turn := (s.route n).turn } ∧ (∀ m : Nat, m ≠ n.val → t.route m = s.route m)
      ∧ t.rd (Reg.ROUTE_STAT_STATE n) = 2 ∧ t.reach n false = 0 ∧ t.reach n true = 0 ∧ t.rd (Reg.ROUTE_RUN_CLOSED n) = 0
      ∧ t.rd (Reg.ROUTE_RUN_CHANGE_STAGE n) = (if s.reach n false = 0 ∧ s.reach n true = 0 ∧ s.rd (Reg.ROUTE_RUN_CLOSED n) = 0 then
          s.rd (Reg.ROUTE_RUN_CHANGE_STAGE n) else s.stage32)
      ∧ Keeps s t (s.routeFlds n))
  ∧ (∀ (s : State) (n : Fin 24), s.running = true → s.switching = true → s.routeOn n = true → (s.route n).training ≠ some false →
    ∃ t, exec (.liveTraining n) s = .next t
      ∧ t = { s with regs := t.regs, seen := t.seen, out := [], link := { s.link with routes := t.link.routes } }
      ∧ t.route n = { s.route n with training := some true, since := some 0, hopsOut := [], hopsRet := [], crossOut := false, crossRet := false,
                                     partner := false, downOut := (s.route n).downOut && !(s.endLocked n false),
                                     downRet := (s.route n).downRet && !(s.endLocked n true) }
      ∧ (∀ m : Nat, m ≠ n.val → t.route m = s.route m) ∧ Keeps s t (s.useFlds n))
  ∧ (∀ (s : State) (l : Fin 48), s.running = true → (s.route (l.val / 2)).training.isSome = true → s.ownEnd (l.val % 2 == 1) = true →
      s.rd (Reg.LANE_STAT_LOCKED l) = 0 → (s.route (l.val / 2)).since = none → 3999 ≤ (s.route (l.val / 2)).waitN →
    ∃ t, exec (.trainingLockTimeout l) s = .next t ∧ t = { s with out := [], link := { s.link with routes := t.link.routes } }
      ∧ t.route (l.val / 2) = { (s.route (l.val / 2)).down (l.val % 2 == 1) true with
          since := if (s.route (l.val / 2)).training = some false ∧ s.awaitsEnd (l.val / 2) (l.val % 2 == 0) = false then some 0 else none }
      ∧ (∀ m : Nat, m ≠ l.val / 2 → t.route m = s.route m))
  ∧ (∀ (s : State) (n : Fin 24) (p o q : List LinkIn), s.running = true →
    ∃ t, exec (.trainingComplete n p o q) s = .next t
      ∧ exec (.trainingComplete n [] [] []) ((p ++ o ++ q).foldl State.hear { s with out := [] }) = .next t)
  ∧ (∀ (s : State) (n : Fin 24) (k : Nat), s.running = true → (s.route n).training = some false → (s.route n).since = some k → k < reportFrom false →
    ∃ t, exec (.trainingComplete n [] [] []) s = .next t ∧ t = { s with out := [] })
  ∧ (∀ (s : State) (n : Fin 24) (k : Nat), s.running = true → (s.route n).training = some false → (s.route n).since = some k → reportFrom false ≤ k →
    ∃ t, exec (.trainingComplete n [] [] []) s = .next t ∧ (t.route n).training = none ∧ t.rd (Reg.ROUTE_STAT_STATE n) = (s.route n).judged.state
      ∧ t.rd (Reg.ROUTE_STAT_REFUSE_CAUSE n) = (s.route n).judged.cause
      ∧ t.rd (Reg.ROUTE_STAT_RING_CLOSED n) = (if s.ringClosed n false then 1 else 0)
      ∧ t.rd (Reg.ROUTE_STAT_TRAIN_COUNT n) = s.oneMore (Reg.ROUTE_STAT_TRAIN_COUNT n)
      ∧ t.rd (Reg.ROUTE_RUN_CLOSED n) = (if (s.route n).judged = .ready then 1 else 0)
      ∧ ((s.route n).judged.good = false → t.reach n false = 0 ∧ t.reach n true = 0)
      ∧ (∀ m : Nat, m ≠ n.val → t.route m = s.route m) ∧ t.mem = s.mem ∧ t.pol = s.pol ∧ t.drv = s.drv)
  ∧ (∀ (s : State) (n : Fin 24) (k : Nat), s.running = true → (s.route n).training = some false → (s.route n).since = some k → reportFrom false ≤ k →
      (s.route n).judged = .ready →
    ∃ t, exec (.trainingComplete n [] [] []) s = .next t ∧ t.rd (Reg.ROUTE_STAT_STATE n) = 3 ∧ t.rd (Reg.ROUTE_STAT_REFUSE_CAUSE n) = 0
      ∧ t.reach n s.closedRet = s.cellsOn n ∧ t.reach n (!s.closedRet) = 0)
  ∧ (∀ (s : State) (n : Fin 24), s.routeOn n = true → s.endLocked n false = false → s.endLocked n true = false →
      ((s.decideRoute n false).route n).judged = .down)
  ∧ (∀ (s : State) (r : Req) (p : Word), Ready s r Verb.TEST → p.toNat < 2 ^ 24 → p ≠ 0 → s.switching = false →
      (∀ n : Fin 24, p.getLsbD n.val = true → s.routeOn n = true) →
    ∃ t, exec (.routeTrain r p) s = .next t ∧ Started s t r Verb.TEST (.train p.toNat) s.stage
      ∧ t = { s with regs := t.regs, seen := t.seen, ses := t.ses, turn := r.session, out := [], link := { s.link with routes := t.link.routes } }
      ∧ (∀ n : Fin 24, t.route n = if p.getLsbD n.val then { training := some false, since := s.quietFrom n, turn := (s.route n).turn } else s.route n)
      ∧ (∀ n : Fin 24, t.rd (Reg.ROUTE_STAT_STATE n) = if p.getLsbD n.val then 2 else s.rd (Reg.ROUTE_STAT_STATE n))
      ∧ Keeps s t ((List.range 24).flatMap s.routeFlds ++ sessionFlds r.session))

/-- Ledger trains and the ledger cut. LEDGER_TRAIN_RECEIVED counts the invalid blocks; a train that comes after the cut
counts as LATE, one whose head fails its check code as CRC_ERR, and one without a fault waits for the cut. LEDGER_CUT,
the first of its stage, takes a good ledger of the stage's sequence from the serving end into CELL_LEDGER with its
status, shows NO_LEDGER and counts it, as LATE too, where none came, counts a return frame that has not come to the
far end, and leaves no train waiting; a second one of the stage changes nothing. (R226, R228, R233, R234) -/
def Obligations.LedgerTrainsCarryEverySlot : Prop :=
  (∀ (s : State) (n : Fin 24) (ret : Bool) (b : List Byte) (x : BitVec 16), s.running = true → s.rd (Reg.LANE_STAT_LOCKED (linkOf n ret)) = 0 →
    ∃ t, exec (.ledgerTrainReceived n ret b x) s = .next t ∧ t = { s with regs := t.regs, out := [] }
      ∧ t.rd (Reg.LANE_CNT_HEADER_ERR (linkOf n ret))
          = min (s.rd (Reg.LANE_CNT_HEADER_ERR (linkOf n ret)) + x.toNat) (Reg.LANE_CNT_HEADER_ERR (linkOf n ret)).top
      ∧ Keeps s t [Reg.LANE_CNT_HEADER_ERR (linkOf n ret)])
  ∧ (∀ (s : State) (n : Fin 24) (ret : Bool) (b : List Byte) (x : BitVec 16), s.running = true → s.takesTrains n ret →
      s.link.cutAt = some s.stage →
    ∃ t, exec (.ledgerTrainReceived n ret b x) s = .next t ∧ t = { s with regs := t.regs, out := [] }
      ∧ t.rd (Reg.LANE_CNT_LATE (linkOf n ret)) = s.oneMore (Reg.LANE_CNT_LATE (linkOf n ret))
      ∧ Keeps s t [Reg.LANE_CNT_HEADER_ERR (linkOf n ret), Reg.LANE_CNT_LATE (linkOf n ret)])
  ∧ (∀ (s : State) (n : Fin 24) (ret : Bool) (b : List Byte) (x : BitVec 16), s.running = true → s.takesTrains n ret →
      s.link.cutAt ≠ some s.stage → headGood b = false →
    ∃ t, exec (.ledgerTrainReceived n ret b x) s = .next t ∧ t = { s with regs := t.regs, out := [] }
      ∧ t.rd (Reg.LANE_CNT_CRC_ERR (linkOf n ret)) = s.oneMore (Reg.LANE_CNT_CRC_ERR (linkOf n ret))
      ∧ Keeps s t [Reg.LANE_CNT_HEADER_ERR (linkOf n ret), Reg.LANE_CNT_CRC_ERR (linkOf n ret)])
  ∧ (∀ (s : State) (n : Fin 24) (ret : Bool) (b : List Byte) (x : BitVec 16), s.running = true → s.takesTrains n ret →
      s.link.cutAt ≠ some s.stage → headGood b = true →
      (∀ h : Nat, h < s.cellsOn n → allZero (slotOf b h) = true ∨ ledgerGood b n h = true) →
      (∀ p ∈ upstream b (s.cellsOn n), allZero p.2 = true) →
    ∃ t, exec (.ledgerTrainReceived n ret b x) s = .next t
      ∧ t = { s with regs := t.regs, out := [], link := { s.link with routes := t.link.routes } }
      ∧ t.route n = (if ret then { s.route n with trainRet := some b } else { s.route n with trainOut := some b })
      ∧ (∀ m : Nat, m ≠ n.val → t.route m = s.route m) ∧ Keeps s t [Reg.LANE_CNT_HEADER_ERR (linkOf n ret), Reg.LANE_CNT_CRC_ERR (linkOf n ret)])
  ∧ (∀ (s : State) (l : List LinkIn), s.running = true → s.link.cutAt = some s.stage →
    ∃ t, exec (.ledgerCut l) s = .next t ∧ t = { s with out := [] })
  ∧ (∀ (s : State) (l : List LinkIn), s.running = true → s.link.cutAt ≠ some s.stage →
    ∃ t, exec (.ledgerCut l) s = .next t ∧ t.link.cutAt = some s.stage ∧ t.mem = s.mem ∧ t.pending = s.pending ∧ t.drv = s.drv
      ∧ ∀ n : Nat, n < 24 → s.routeOn n = true → (t.route n).trainOut = none ∧ (t.route n).trainRet = none)
  ∧ (∀ (s : State) (n : Fin 24) (b : List Byte), s.running = true → s.link.cutAt ≠ some s.stage → s.routes = [n.val] → s.cellsOn n = 1 →
      s.firstOf n < 512 → s.reach n false = 1 → s.ownEnd false = true → (s.route n).training = none → (s.route n).trainOut = some b →
      ledgerGood b n 0 = true → beAt b 2 2 = s.stage % 65536 →
      s.statusOfLedger (slotOf b 0) ≠ 3 →
    ∃ t, exec (.ledgerCut []) s = .next t
      ∧ (∀ k : Nat, k < 4 → t.word (0x05000020 + 0x100 * s.firstOf n + 4 * k) = wordAt (slotOf b 0) (4 * k))
      ∧ t.rd (Reg.CELL_LEDGER_STATUS (s.firstOf n)) = s.statusOfLedger (slotOf b 0) ∧ t.rd (Reg.CELL_LEDGER_COPY (s.firstOf n)) = 0
      ∧ t.rd (Reg.CELL_LEDGER_MISSING (s.firstOf n)) = s.rd (Reg.CELL_LEDGER_MISSING (s.firstOf n)))
  ∧ (∀ (s : State) (n : Fin 24), s.running = true → s.link.cutAt ≠ some s.stage → s.routes = [n.val] → s.cellsOn n = 1 →
      s.firstOf n < 512 → s.reach n false = 1 → s.ownEnd false = true → (s.route n).training = none → (s.route n).trainOut = none →
      (s.route n).trainRet = none →
    ∃ t, exec (.ledgerCut []) s = .next t
      ∧ t.rd (Reg.CELL_LEDGER_STATUS (s.firstOf n)) = 4 ∧ t.rd (Reg.CELL_LEDGER_MISSING (s.firstOf n)) = s.oneMore (Reg.CELL_LEDGER_MISSING (s.firstOf n))
      ∧ t.rd (Reg.LANE_CNT_LATE (linkOf n false)) = s.oneMore (Reg.LANE_CNT_LATE (linkOf n false))
      ∧ t.rd (Reg.ROUTE_RUN_RETURN_MISS n) = (if (s.route n).awaits = true ∧ (s.route n).back = false then
          s.oneMore (Reg.ROUTE_RUN_RETURN_MISS n) else s.rd (Reg.ROUTE_RUN_RETURN_MISS n))
      ∧ t.cell (s.firstOf n) = { s.cell (s.firstOf n) with miss := (s.cell (s.firstOf n)).miss + 1, clean := 0, raw := [] }
      ∧ (∀ c : Nat, c ≠ s.firstOf n → t.cell c = s.cell c)
      ∧ Keeps s t [Reg.CELL_LEDGER_STATUS (s.firstOf n), Reg.CELL_LEDGER_MISSING (s.firstOf n), Reg.LANE_CNT_LATE (linkOf n false),
          Reg.ROUTE_RUN_RETURN_MISS n])

/-- The waybill cut and the launch of the frames. WAYBILL_CUT, the first of its stage, puts the device into the safe state
with cause 4 and brings EDGE_LOST up where the waybill fields of a route in use were not handed over, and leaves the
safe state's registers and the faults alone where all were; a second one of the stage changes nothing.
ROUTE_FRAME_LAUNCH of a ring with one route served from its outbound end sends one burst, of its head, waybills and
tail with their check codes, and takes the handed-over fields; a route in quiet training sends a TRAIN frame of its
step from each locked end, and in step 4 a MARKER to every hop that answers there. (R220, R222, R223, R228, R240,
R241, R243, R275) -/
def Obligations.WaybillsAndFrames : Prop :=
  (∀ s : State, s.running = true → s.link.wayAt = some s.stage → ∃ t, exec .waybillCut s = .next t ∧ t = { s with out := [] })
  ∧ (∀ (s : State) (n : Fin 24), s.running = true → s.link.wayAt ≠ some s.stage → s.routes.filter s.inUse = [n.val] → (s.route n).handed = false →
    ∃ t, exec .waybillCut s = .next t ∧ t.link.wayAt = some s.stage ∧ (t.route n).missed = true
      ∧ t.rd Reg.MOD_STAT_SAFE = 1 ∧ t.rd Reg.MOD_STAT_SAFE_CAUSE = (if s.rd Reg.MOD_STAT_SAFE = 1 then s.rd Reg.MOD_STAT_SAFE_CAUSE else 4)
      ∧ t.rd Reg.MOD_STAT_MISSED = s.oneMore Reg.MOD_STAT_MISSED ∧ t.mod.applied.gates = false ∧ t.mod.sent = none
      ∧ (s.f3Latched Code.EDGE_LOST = true ∨ FaultDue t Code.EDGE_LOST) ∧ t.mem = s.mem ∧ t.ses = s.ses ∧ t.cells = s.cells)
  ∧ (∀ s : State, s.running = true → s.link.wayAt ≠ some s.stage → (∀ n ∈ s.routes, s.inUse n = true → (s.route n).handed = true) →
    ∃ t, exec .waybillCut s = .next t ∧ t.link.wayAt = some s.stage ∧ t.mod = s.mod ∧ t.flt.pending = s.flt.pending
      ∧ t.rd Reg.MOD_STAT_SAFE = s.rd Reg.MOD_STAT_SAFE ∧ t.rd Reg.MOD_STAT_MISSED = s.rd Reg.MOD_STAT_MISSED
      ∧ t.mem = s.mem ∧ t.ses = s.ses ∧ t.cells = s.cells)
  ∧ (∀ (s : State) (n : Fin 24), s.running = true → s.routes = [n.val] → s.inUse n = true → (s.route n).training = none → s.paired = false →
      s.endLocked n false = true → 0 < s.reach n false → s.reach n true = 0 → s.link.inject = [] → s.link.parcels = [] →
      s.firstOf n + s.cellsOn n ≤ 512 →
    ∃ t, exec .routeFrameLaunch s = .next t ∧ t.out = [.burst (2 * n.val) (burstOf 1 (s.frameOf n))]
      ∧ (t.route n).handed = false ∧ (t.route n).missed = false ∧ t.mem = s.mem ∧ t.ses = s.ses ∧ t.flt = s.flt
      ∧ (∀ h : Nat, h < s.cellsOn n → t.rd (Reg.CELL_LEDGER_BYPASS_SENT (s.firstOf n + h))
          = (s.waybillOf (s.firstOf n + h) (s.route n).missed).bypass % 256))
  ∧ (∀ (s : State) (n : Fin 24), s.running = true → s.routes = [n.val] → (s.route n).training = some false → s.paired = false →
      s.endLocked n false = true → s.endLocked n true = true → (s.route n).marker = none →
    ∃ t, exec .routeFrameLaunch s = .next t
      ∧ t = { s with link := { s.link with stopSent := s.stopToken, digest := [] },
                     out := [.burst (2 * n.val) (burstOf 3 (s.trainFrame n (s.route n).op false)),
                             .burst (2 * n.val + 1) (burstOf 3 (s.trainFrame n (s.route n).op true))] })
  ∧ (∀ (s : State) (n : Fin 24) (ret : Bool), s.running = true → s.routes = [n.val] → (s.route n).training = some false →
      s.ownEnd ret = true → s.endLocked n ret = true → s.markers n ret ≠ [] →
    ∃ t, exec .routeFrameLaunch s = .next t ∧ Out.gap (linkOf n ret) (s.markers n ret) ∈ t.out)
  ∧ (∀ (s : State) (n : Fin 24) (ret : Bool) (x : HopSeen), (s.route n).training = some false → (s.route n).since = some 9 →
      (s.route n).hops ret = [x] → s.matches (s.cellAt n 0 ret) x = true → s.markers n ret = [markerBlock 0 ret 0])

/-- A parcel's start, its repeated chunks, and its end. PARCEL to an answering cell with no transfer in progress begins
one under the next TAG and stays in execution; to a cell that does not answer it ends with CELL_ABSENT.
PARCEL_CHUNK_RESEND and PARCEL_BUSY_RETRY, 6 stages after the chunk or the BUSY, let the last or the FIRST chunk go
again and count it; PARCEL_TIMEOUT, 8 ms after the start, ends the transfer, shows and counts it, and answers
PARCEL_TIMEOUT. (R168, R235, R237, R238) -/
def Obligations.ParcelsRunToTheirEnd : Prop :=
  (∀ (s : State) (r : Req) (c : BitVec 16) (k : Byte) (b : List Byte), Ready s r Verb.PARCEL → k.toNat ≤ 1 → b.length ≤ 1392 →
      c.toNat < s.rd Reg.ROUTE_TABLE_TOTAL_CELLS → s.answering c.toNat = true → assocGet s.link.parcels c.toNat = none →
    ∃ t, exec (.parcel r c k b) s = .next t ∧ Started s t r Verb.PARCEL (.parcel c.toNat) s.stage
      ∧ t = { s with regs := t.regs, ses := t.ses, turn := r.session, cells := t.cells, out := [],
                     link := { s.link with parcels := t.link.parcels, nextTag := (s.link.nextTag + 1) % 65536 } }
      ∧ assocGet t.link.parcels c.toNat = some { tag := s.link.nextTag, fromCell := k == 1, body := b, since := s.timeOf 1 }
      ∧ (∀ d : Nat, d ≠ c.toNat → assocGet t.link.parcels d = assocGet s.link.parcels d ∧ t.cell d = s.cell d)
      ∧ t.rd (Reg.CELL_PARCEL_STATE c.toNat) = (if b = [] then 2 else 1) ∧ t.rd (Reg.CELL_PARCEL_TAG c.toNat) = s.link.nextTag % 65536
      ∧ t.rd (Reg.CELL_PARCEL_DN_DONE c.toNat) = 0 ∧ t.rd (Reg.CELL_PARCEL_UP_DONE c.toNat) = 0
      ∧ Keeps s t ([Reg.CELL_PARCEL_STATE c.toNat, Reg.CELL_PARCEL_TAG c.toNat, Reg.CELL_PARCEL_DN_DONE c.toNat, Reg.CELL_PARCEL_UP_DONE c.toNat]
          ++ sessionFlds r.session))
  ∧ (∀ (s : State) (r : Req) (c : BitVec 16) (k : Byte) (b : List Byte), Ready s r Verb.PARCEL → k.toNat ≤ 1 → b.length ≤ 1392 →
      s.rd Reg.ROUTE_TABLE_TOTAL_CELLS ≤ c.toNat ∨ s.answering c.toNat = false →
    ∃ t, exec (.parcel r c k b) s = .next t ∧ Completed s t r Verb.PARCEL 0 Status.CELL_ABSENT [] s.stage
      ∧ t = { s with regs := t.regs, ses := t.ses, turn := r.session, canTx := t.canTx, out := t.out } ∧ Keeps s t (sessionFlds r.session))
  ∧ (∀ (s : State) (c : Fin 512) (p : Parcel), s.running = true → assocGet s.link.parcels c = some p → p.due = false → p.busy = false →
      p.got = false → p.sentAt + 6 ≤ s.stage →
    ∃ t, exec (.parcelChunkResend c) s = .next t ∧ t = { s with regs := t.regs, out := [], link := { s.link with parcels := t.link.parcels } }
      ∧ assocGet t.link.parcels c = some { p with due := true } ∧ (∀ d : Nat, d ≠ c.val → assocGet t.link.parcels d = assocGet s.link.parcels d)
      ∧ t.rd (Reg.CELL_PARCEL_RESEND_COUNT c) = s.oneMore (Reg.CELL_PARCEL_RESEND_COUNT c) ∧ Keeps s t [Reg.CELL_PARCEL_RESEND_COUNT c])
  ∧ (∀ (s : State) (c : Fin 512) (p : Parcel), s.running = true → assocGet s.link.parcels c = some p → p.busy = true → p.busyAt + 6 ≤ s.stage →
    ∃ t, exec (.parcelBusyRetry c) s = .next t ∧ t = { s with regs := t.regs, out := [], link := { s.link with parcels := t.link.parcels } }
      ∧ assocGet t.link.parcels c = some { p with due := true, busy := false, done := 0 }
      ∧ (∀ d : Nat, d ≠ c.val → assocGet t.link.parcels d = assocGet s.link.parcels d)
      ∧ t.rd (Reg.CELL_PARCEL_RESEND_COUNT c) = s.oneMore (Reg.CELL_PARCEL_RESEND_COUNT c) ∧ Keeps s t [Reg.CELL_PARCEL_RESEND_COUNT c])
  ∧ (∀ (s : State) (c : Fin 512) (p : Parcel) (i : Fin 4) (b : BusyCmd), Executes s i b → assocGet s.link.parcels c = some p →
      b.op = .parcel c → s.passed p.since 8000000 = true → s.findOp (fun o => o == .parcel c) = some i →
    ∃ t, exec (.parcelTimeout c) s = .next t ∧ assocGet t.link.parcels c = none
      ∧ (∀ d : Nat, d ≠ c.val → assocGet t.link.parcels d = assocGet s.link.parcels d)
      ∧ t.rd (Reg.CELL_PARCEL_STATE c) = 6 ∧ t.rd (Reg.CELL_PARCEL_TIMEOUT_COUNT c) = s.oneMore (Reg.CELL_PARCEL_TIMEOUT_COUNT c)
      ∧ Ended s t i b Status.PARCEL_TIMEOUT [])

/-- Pattern tests and injected errors. LINK_PRBS that is not refused shows the link's USE as 4 and stays in execution;
PRBS_TEST_END, in the stage in which the duration ends, gives the link back to its use and replies the bits, the
errors and the lock, with TEST_FAILED where there was an error or no lock; LINK_INJECT that is not refused notes the
corruption for the next frame of its link and stays in execution. (R175, R248, R249) -/
def Obligations.LinkTests : Prop :=
  (∀ (s : State) (r : Req) (p : Word), Ready s r Verb.TEST → s.prbsRefusal p = none →
    ∃ t, exec (.linkPrbs r p) s = .next t ∧ Started s t r Verb.TEST (.prbs (p.toNat % 64)) s.stage
      ∧ t = { s with regs := t.regs, ses := t.ses, turn := r.session, out := [], link := { s.link with prbs := s.link.prbs ++ [(p.toNat % 64, false)], prbsEnd := t.link.prbsEnd, routes := t.link.routes } }
      ∧ t.prbsEnds (p.toNat % 64) = s.timeOf 1 + p.toNat / 65536 * 1000000 * 65536
      ∧ t.rd (Reg.LANE_STAT_USE (p.toNat % 64)) = 4 ∧ Keeps s t (Reg.LANE_STAT_USE (p.toNat % 64) :: sessionFlds r.session)
      ∧ ∀ m : Nat, m ≠ p.toNat % 64 / 2 → t.route m = s.route m)
  ∧ (∀ (s : State) (r : Req) (p : Word) (x : Nat), Ready s r Verb.TEST → s.prbsRefusal p = some x →
    ∃ t, exec (.linkPrbs r p) s = .next t ∧ Completed s t r Verb.TEST 0 x [] s.stage
      ∧ t = { s with regs := t.regs, ses := t.ses, turn := r.session, canTx := t.canTx, out := t.out } ∧ Keeps s t (sessionFlds r.session))
  ∧ (∀ (s : State) (l : Fin 50) (i : Fin 4) (b : BusyCmd) (x : BitVec 64) (e : Word) (k : Bool), Executes s i b →
      assocGet s.link.prbs l = some false → s.reached (s.prbsEnds l) = true → b.op = .prbs l → s.findOp (fun o => o == .prbs l) = some i →
    ∃ t, exec (.prbsTestEnd l ⟨x, e⟩ k) s = .next t
      ∧ t.link = { s.link with prbs := s.link.prbs.filter (fun q => q.1 != l.val), prbsEnd := assocErase s.link.prbsEnd l } ∧ t.rd (Reg.LANE_STAT_USE l) = s.usualUse l
      ∧ t.mem = s.mem ∧ t.flt = s.flt
      ∧ Ended s t i b (if e = 0 ∧ k = true then Status.OK else Status.TEST_FAILED)
          (beBytes 8 x.toNat ++ beBytes 4 e.toNat ++ beBytes 1 (if k then 1 else 0) ++ [0, 0, 0]))
  ∧ (∀ (s : State) (r : Req) (p : Word), Ready s r Verb.TEST → s.injectRefusal p = none →
    ∃ t, exec (.linkInject r p) s = .next t ∧ Started s t r Verb.TEST (.inject (p.toNat % 64)) s.stage
      ∧ t = { s with regs := t.regs, ses := t.ses, turn := r.session, out := [],
                     link := { s.link with inject := s.link.inject ++ [{ param := p, crc0 := s.farErrors (p.toNat % 64), byMon := false }] } }
      ∧ Keeps s t (sessionFlds r.session))

/-- Packets by datagram, segment and line. On a running module that mirrors to no porter, UDP_DATAGRAM on a path that is
off has no effect, and one that no packet can be taken from is counted; a packet of a source that is not bound to its
session is answered SESSION_NOT_OPEN; one within the window of a bound source waits in its session and is counted.
CAN_CMD_SEGMENT takes a first segment and goes on, a segment without a run counts once with those that follow it, and
a controller whose pads are off takes none; CAN_SEGMENT_TIMEOUT, 50 ms after the last segment, discards the run;
CAN_REPLY_ABANDON drops the reply in progress for 100 ms; MON_LINE of more than 3,000 characters is counted, the lines
.HALT, .STAT and .LOCK are the monitor's commands, and a line that spells a packet is that packet from the monitor.
(R149, R150, R151, R152, R153, R155, R183) -/
def Obligations.PacketPaths : Prop :=
  (∀ (s : State) (p : Fin 2) (a : Word) (q : BitVec 16) (u : Bool) (b : List Byte), s.running = true → s.pathOn (portPath p) = false →
    ∃ t, exec (.udpDatagram p a q u b) s = .next t ∧ t = { s with out := [] })
  ∧ (∀ (s : State) (p : Fin 2) (a : Word) (q : BitVec 16) (u : Bool) (b : List Byte), s.running = true → s.pathOn (portPath p) = true →
      u = true ∨ receive b = .notPacket →
    ∃ t, exec (.udpDatagram p a q u b) s = .next t ∧ t = { s with regs := t.regs, out := [] }
      ∧ t.rd (Reg.CMD_PATH_STAT_NOT_PACKET p) = s.oneMore (Reg.CMD_PATH_STAT_NOT_PACKET p) ∧ Keeps s t [Reg.CMD_PATH_STAT_NOT_PACKET p])
  ∧ (∀ (s : State) (p : Fin 2) (a : Word) (q : BitVec 16) (b : List Byte) (k : Packet), s.running = true → s.isKeeper = true →
      s.duo.inStep = false → s.pathOn (portPath p) = true → receive b = .passed k → k.head.flags / 4 % 2 = 0 →
      s.boundTo (Fin.ofNat 4 k.head.session) ⟨portPath p, a, q⟩ = false →
    ∃ t, exec (.udpDatagram p a q false b) s = .next t ∧ t = { s with regs := t.regs, out := t.out }
      ∧ Replied t ⟨portPath p, a, q⟩ k.head Status.SESSION_NOT_OPEN [] s.stage
      ∧ Keeps s t [Reg.ETH_STAT_TX_FRAMES 0, Reg.ETH_STAT_TX_FRAMES 1])
  ∧ (∀ (s : State) (p : Fin 2) (a : Word) (q : BitVec 16) (b : List Byte) (k : Packet) (i : Fin 4) (c : Instr), s.running = true →
      s.duo.inStep = false → s.pathOn (portPath p) = true → receive b = .passed k → k.head.flags / 4 % 2 = 0 → k.head.session = i.val →
      s.boundTo i ⟨portPath p, a, q⟩ = true → (k.head.seq + 2 ^ 32 - s.baseSeq i) % 2 ^ 32 < 64 →
      assocGet (s.sess i).waiting k.head.seq = none → assocGet (s.sess i).waiting (s.baseSeq i) = none →
      (s.sess i).due = none → (s.sess i).busy = none → waitingOf k = .cmd k.head c →
    ∃ t, exec (.udpDatagram p a q false b) s = .next t ∧ t = { s with regs := t.regs, ses := t.ses, out := [] }
      ∧ t.sess i = { s.sess i with idleNs := 0, waitAt := (t.sess i).waitAt, waiting := assocInsert (s.sess i).waiting k.head.seq (.cmd k.head c) }
      ∧ assocGet (t.sess i).waitAt k.head.seq = some (s.timeOf 1)
      ∧ (∀ j : Fin 4, j ≠ i → t.sess j = s.sess j) ∧ t.baseSeq i = s.baseSeq i
      ∧ t.rd (Reg.CMD_SESSION_ACCEPTED i) = s.oneMore (Reg.CMD_SESSION_ACCEPTED i) ∧ Keeps s t (sessionFlds i))
  ∧ (∀ (s : State) (c : Fin 2) (b x : Byte) (d : List Byte), s.running = true → s.pathOn (canPath c) = true → s.canHears c = true → s.canRx[c] = none →
      b.toNat = 128 →
    ∃ t, exec (.canCmdSegment c (b :: x :: d)) s = .next t
      ∧ t = { s with out := [], canRx := s.canRx.set c (some { next := 1, short := decide (d.length < 62), bytes := d, at_ := s.timeOf 1 }) })
  ∧ (∀ (s : State) (c : Fin 2) (b x : Byte) (d : List Byte), s.running = true → s.pathOn (canPath c) = true → s.canHears c = true → s.canRx[c] = none →
      b.toNat < 128 →
    ∃ t, exec (.canCmdSegment c (b :: x :: d)) s = .next t
      ∧ t = { s with regs := t.regs, out := [],
                     canRx := s.canRx.set c (if 64 ≤ b.toNat then none else some { next := 0, short := false, bytes := [], dead := true, at_ := s.timeOf 1 }) }
      ∧ t.rd (Reg.CMD_PATH_STAT_NOT_PACKET (2 + c.val)) = s.oneMore (Reg.CMD_PATH_STAT_NOT_PACKET (2 + c.val))
      ∧ Keeps s t [Reg.CMD_PATH_STAT_NOT_PACKET (2 + c.val)])
  ∧ (∀ (s : State) (c : Fin 2) (b x : Byte) (d : List Byte) (a : CanAsm), s.running = true → s.pathOn (canPath c) = true → s.canHears c = true →
      s.canRx[c] = some a → a.dead = true → b.toNat < 128 →
    ∃ t, exec (.canCmdSegment c (b :: x :: d)) s = .next t
      ∧ t = { s with out := [],
                     canRx := s.canRx.set c (if 64 ≤ b.toNat then none else some { next := 0, short := false, bytes := [], dead := true, at_ := s.timeOf 1 }) })
  ∧ (∀ (s : State) (c : Fin 2) (d : List Byte), s.running = true → s.canHears c = false →
    ∃ t, exec (.canCmdSegment c d) s = .next t ∧ t = { s with out := [] })
  ∧ (∀ (s : State) (c : Fin 2) (a : CanAsm), s.running = true → s.canRx[c] = some a → a.dead = false → s.passed a.at_ 50000000 = true →
    ∃ t, exec (.canSegmentTimeout c) s = .next t ∧ t = { s with regs := t.regs, out := [], canRx := s.canRx.set c none }
      ∧ t.rd (Reg.CMD_PATH_STAT_NOT_PACKET (2 + c.val)) = s.oneMore (Reg.CMD_PATH_STAT_NOT_PACKET (2 + c.val))
      ∧ Keeps s t [Reg.CMD_PATH_STAT_NOT_PACKET (2 + c.val)])
  ∧ (∀ (s : State) (c : Fin 2) (x : CanReply) (l : List CanReply), s.running = true → s.canTx[c] = x :: l → s.passed x.since 100000000 = true →
    ∃ t, exec (.canReplyAbandon c) s = .next t
      ∧ t = { s with regs := t.regs, out := [], canTx := s.canTx.set c (match l with
          | [] => []
          | y :: l => { y with since := s.timeOf 1 } :: l) }
      ∧ t.rd (Reg.CMD_PATH_STAT_REPLY_DROPPED (2 + c.val)) = s.oneMore (Reg.CMD_PATH_STAT_REPLY_DROPPED (2 + c.val))
      ∧ Keeps s t [Reg.CMD_PATH_STAT_REPLY_DROPPED (2 + c.val)])
  ∧ (∀ (s : State) (l : List Byte), s.running = true → 3000 < l.length →
    ∃ t, exec (.monLine l) s = .next t ∧ t = { s with regs := t.regs, out := [], mon := { s.mon with lastLine := s.monoNs } }
      ∧ t.rd (Reg.CMD_PATH_STAT_NOT_PACKET 4) = s.oneMore (Reg.CMD_PATH_STAT_NOT_PACKET 4)
      ∧ Keeps s t [Reg.CMD_PATH_STAT_NOT_PACKET 4, Reg.CMD_MON_STAT_LOCK_IN_S])
  ∧ (∀ s : State, exec (.monLine (ascii ".HALT")) s = exec .monHalt s ∧ exec (.monLine (ascii ".STAT")) s = exec .monStat s
      ∧ exec (.monLine (ascii ".LOCK")) s = exec .monLock s ∧ exec (.monLine (ascii ".UNLOCK")) s = exec .monUnlockChallenge s)
  ∧ (∀ (s : State) (l : List Byte) (k : Packet), s.running = true → l.length ≤ 3000 → l.head? ≠ some 46 → readLine l = (.packet k, false) →
    ∃ t, exec (.monLine l) s = .next t ∧ t = ({ s with out := [] } : State).sawLine.takeBytes ⟨.mon, 0, 0⟩ k.bytes)

/-- Opening and closing a session, a gap, progress and a verb's bound. SESSION_OPEN of an index that is not open binds it
to the source with base sequence 1 and answers the payload; of one that another source holds and has used within
IDLE_S it is answered SESSION_BUSY and changes nothing. SESSION_CLOSE answers its payload and then closes the session;
SESSION_IDLE_TIMEOUT closes one that has nothing outstanding and has been idle for IDLE_S, without a reply, and leaves
any other alone. SEQUENCE_GAP_TIMEOUT, 100 ms after the first higher sequence was accepted, answers SEQUENCE_GAP for
the missing sequence and for the one that waits behind it, counts the gap and empties the shadow set. PROGRESS_REPLY
answers IN_PROGRESS with the per-mille done and changes nothing else; LONG_VERB_TIMEOUT ends a long verb that has
reached its bound with TIMEOUT. (R153, R154, R156, R172) -/
def Obligations.SessionLife : Prop :=
  (∀ (s : State) (i : Fin 4) (x : Source) (p : List Byte), s.running = true → s.isKeeper = true → s.pathOn x.path = true → x.path ≠ .mon →
      s.isOpen i = false →
    ∃ t, exec (.sessionOpen i x p) s = .next t
      ∧ t = { s with regs := t.regs, ses := t.ses, canTx := t.canTx, out := t.out, duo := { s.duo with cmds := t.duo.cmds } }
      ∧ (s.mirrors = false → t.duo.cmds = s.duo.cmds) ∧ (s.mirrors = true → t.duo.cmds.length = s.duo.cmds.length + 1)
      ∧ t.isOpen i = true ∧ t.sess i = { src := x, orphans := (s.sess i).orphans, tell := (s.sess i).tell } ∧ t.baseSeq i = 1
      ∧ t.rd (Reg.CMD_SESSION_PATH i) = x.path.index ∧ t.rd (Reg.CMD_SESSION_SOURCE_IP i) = x.ip.toNat
      ∧ t.rd (Reg.CMD_SESSION_SOURCE_PORT i) = x.port.toNat ∧ (∀ j : Fin 4, j ≠ i → t.sess j = s.sess j)
      ∧ Replied t x { session := i, seq := 0, verb := Verb.ECHO, mood := 1, base := 0, flags := flagOpen } Status.OK p s.stage
      ∧ Keeps s t (openFlds i))
  ∧ (∀ (s : State) (i : Fin 4) (x : Source) (p : List Byte), s.running = true → s.isKeeper = true → s.pathOn x.path = true → x.path ≠ .mon →
      s.isOpen i = true → (s.sess i).src ≠ x → (s.sess i).idleNs < s.idleLimitNs →
    ∃ t, exec (.sessionOpen i x p) s = .next t ∧ t = { s with regs := t.regs, canTx := t.canTx, out := t.out }
      ∧ Replied t x { session := i, seq := 0, verb := Verb.ECHO, mood := 1, base := 0, flags := flagOpen } Status.SESSION_BUSY [] s.stage
      ∧ Keeps s t [Reg.ETH_STAT_TX_FRAMES 0, Reg.ETH_STAT_TX_FRAMES 1])
  ∧ (∀ (s : State) (r : Req) (p : List Byte), Ready s r Verb.ECHO →
    ∃ t, exec (.sessionClose r p) s = .next t ∧ t = { s with regs := t.regs, ses := t.ses, turn := r.session, canTx := t.canTx, sto := t.sto, out := t.out }
      ∧ t.isOpen r.session = false ∧ t.sess r.session = { src := (s.sess r.session).src, orphans := (s.sess r.session).orphans, tell := (t.sess r.session).tell }
      ∧ (s.mirrors = false → (t.sess r.session).tell = (s.sess r.session).tell)
      ∧ (∀ j : Fin 4, j ≠ r.session → t.sess j = s.sess j)
      ∧ Replied t (s.sess r.session).src (headAt s r Verb.ECHO flagClose) Status.OK p s.stage ∧ Keeps s t (openFlds r.session))
  ∧ (∀ (s : State) (i : Fin 4), s.running = true → s.isOpen i = true → (s.sess i).outstanding = 0 → s.idleLimitNs ≤ (s.sess i).idleNs →
    ∃ t, exec (.sessionIdleTimeout i) s = .next t ∧ t = { s with regs := t.regs, ses := t.ses, sto := t.sto, out := [] }
      ∧ t.isOpen i = false ∧ t.sess i = { src := (s.sess i).src, orphans := (s.sess i).orphans, tell := (s.sess i).tell }
      ∧ (∀ j : Fin 4, j ≠ i → t.sess j = s.sess j)
      ∧ t.sto = { s.sto with update := if s.sto.update.any (fun p => p.1 == i) then none else s.sto.update } ∧ Keeps s t (openFlds i))
  ∧ (∀ (s : State) (i : Fin 4), s.running = true → (s.sess i).outstanding ≠ 0 ∨ (s.sess i).idleNs < s.idleLimitNs →
    ∃ t, exec (.sessionIdleTimeout i) s = .next t ∧ t = { s with out := [] })
  ∧ (∀ (s : State) (i : Fin 4) (h : Head) (c : Instr), s.running = true → s.isKeeper = true → s.isOpen i = true → (s.sess i).src.path ≠ .mon →
      (s.sess i).due = none → (s.sess i).busy = none → h.session = i.val → h.seq = (s.baseSeq i + 1) % 2 ^ 32 →
      (s.sess i).waiting = [(h.seq, .cmd h c)] → s.passed ((assocGet (s.sess i).waitAt h.seq).getD 0) 100000000 = true →
    ∃ t, exec (.sequenceGapTimeout i) s = .next t ∧ t = { s with regs := t.regs, ses := t.ses, canTx := t.canTx, out := t.out }
      ∧ (t.sess i).waiting = [] ∧ (t.sess i).shadow = [] ∧ t.baseSeq i = (s.baseSeq i + 2) % 2 ^ 32
      ∧ t.rd (Reg.CMD_SESSION_GAP_COUNT i) = s.oneMore (Reg.CMD_SESSION_GAP_COUNT i) ∧ (∀ j : Fin 4, j ≠ i → t.sess j = s.sess j)
      ∧ Replied t (s.sess i).src { session := i, seq := s.baseSeq i, verb := 0, mood := 0, base := 0, flags := 0 } Status.SEQUENCE_GAP [] s.stage
      ∧ Replied t (s.sess i).src h Status.SEQUENCE_GAP [] s.stage ∧ Keeps s t (openFlds i))
  ∧ (∀ (s : State) (i : Fin 4) (b : BusyCmd) (m : BitVec 16), Executes s i b → b.op.long = true → b.head.session = i.val →
    ∃ t, exec (.progressReply i m) s = .next t ∧ t = { s with regs := t.regs, canTx := t.canTx, out := t.out }
      ∧ Out.reply (s.sess i).src { head := b.head, interim := true, status := Status.IN_PROGRESS, credit := s.creditOf i, boot := s.boot16,
                                   stage := s.stage, payload := beBytes 2 m.toNat ++ [0, 0] } ∈ t.out
      ∧ Keeps s t [Reg.ETH_STAT_TX_FRAMES 0, Reg.ETH_STAT_TX_FRAMES 1])
  ∧ (∀ (s : State) (i : Fin 4) (b : BusyCmd), Executes s i b → b.op.long = true → s.atBound b = true → b.head.session = i.val →
    ∃ t, exec (.longVerbTimeout i) s = .next t ∧ Ended s t i b Status.TIMEOUT [] ∧ t.mem = s.mem ∧ t.flt = s.flt ∧ t.pending = s.pending)

/-- GET reads whole objects and the memory window. GET of a span of whole objects, with or without the SHADOW flag,
answers n bytes: of an object that reports state its words at the last stage boundary, of any other outside the clock
and the command blocks its words now, most significant byte first, and with SHADOW the session's shadow of a whole
object where it has one. GET of an aligned span of the memory window below the secure region answers its bytes, with
OK where no word of the span has an error of two bits and DATA_UNCORRECTABLE where one has, and of one that reaches
into the secure region ACCESS_DENIED; a span that is not whole objects is answered ADDRESS_INVALID and a length that
is not a multiple of 4 from 4 to 1400 VALUE_OUT_OF_RANGE. ECHO answers its payload. None of them changes anything but
the session's counts and, where a word has an error, what R112 counts and records of it. (R12, R105, R107, R112, R161,
R165) -/
def Obligations.GetReturnsTheBytesRead : Prop :=
  (∀ (s : State) (r : Req) (sh : Bool) (a : Word) (n : BitVec 16) (e : Nat) (l : List EccHit) (o : List (Nat × Nat)), Ready s r Verb.GET →
      4 ≤ n.toNat → n.toNat ≤ 1400 → n.toNat % 4 = 0 → a.toNat < memBase → objectsIn 351 a.toNat (a.toNat + n.toNat) = some o →
    ∃ t, exec (.get r sh a n e l) s = .next t
      ∧ Completed s t r Verb.GET (if sh then flagShadow else 0) Status.OK
          ((s.taken r).readBytes e (if sh then some (s.sess r.session).shadow else none) a.toNat n.toNat) s.stage
      ∧ ((s.taken r).readBytes e (if sh then some (s.sess r.session).shadow else none) a.toNat n.toNat).length = n.toNat
      ∧ t = { s with regs := t.regs, ses := t.ses, turn := r.session, canTx := t.canTx, out := t.out } ∧ Keeps s t (sessionFlds r.session))
  ∧ (∀ (s : State) (r : Req) (a : Word) (n : BitVec 16) (e : Nat) (l : List EccHit) (o : List (Nat × Nat)), Ready s r Verb.GET →
      4 ≤ n.toNat → n.toNat ≤ 1400 → n.toNat % 4 = 0 → 0x04000000 ≤ a.toNat → a.toNat < memBase →
      objectsIn 351 a.toNat (a.toNat + n.toNat) = some o →
    ∃ t, exec (.get r false a n e l) s = .next t
      ∧ Completed s t r Verb.GET 0 Status.OK
          ((wordsOf a.toNat n.toNat).map (fun w => beBytes 4 (if reportsState w then s.asOfBoundary.word w else s.word w).toNat)).flatten s.stage)
  ∧ (∀ (s : State) (r : Req) (a : Word) (n : BitVec 16) (e : Nat) (l : List EccHit), Ready s r Verb.GET →
      4 ≤ n.toNat → n.toNat ≤ 1400 → n.toNat % 4 = 0 → a.toNat < memBase → objectsIn 351 a.toNat (a.toNat + n.toNat) = none →
    ∃ t, exec (.get r false a n e l) s = .next t ∧ Completed s t r Verb.GET 0 Status.ADDRESS_INVALID [] s.stage
      ∧ t = { s with regs := t.regs, ses := t.ses, turn := r.session, canTx := t.canTx, out := t.out } ∧ Keeps s t (sessionFlds r.session))
  ∧ (∀ (s : State) (r : Req) (sh : Bool) (a : Word) (n : BitVec 16) (e : Nat) (l : List EccHit), Ready s r Verb.GET →
      n.toNat < 4 ∨ 1400 < n.toNat ∨ n.toNat % 4 ≠ 0 →
    ∃ t, exec (.get r sh a n e l) s = .next t
      ∧ Completed s t r Verb.GET (if sh then flagShadow else 0) Status.VALUE_OUT_OF_RANGE [] s.stage
      ∧ t = { s with regs := t.regs, ses := t.ses, turn := r.session, canTx := t.canTx, out := t.out } ∧ Keeps s t (sessionFlds r.session))
  ∧ (∀ (s : State) (r : Req) (a : Word) (n : BitVec 16) (e : Nat), Ready s r Verb.GET →
      4 ≤ n.toNat → n.toNat ≤ 1400 → inWindow a.toNat n.toNat = true → reachesSecure a.toNat n.toNat = false →
    ∃ t, exec (.get r false a n e []) s = .next t ∧ Completed s t r Verb.GET 0 Status.OK (s.load a.toNat n.toNat) s.stage
      ∧ t = { s with regs := t.regs, ses := t.ses, turn := r.session, canTx := t.canTx, out := t.out } ∧ Keeps s t (sessionFlds r.session))
  ∧ (∀ (s : State) (r : Req) (sh : Bool) (a : Word) (n : BitVec 16) (e : Nat) (l : List EccHit), Ready s r Verb.GET →
      4 ≤ n.toNat → n.toNat ≤ 1400 → inWindow a.toNat n.toNat = true → reachesSecure a.toNat n.toNat = false →
    ∃ t, exec (.get r sh a n e l) s = .next t
      ∧ Completed s t r Verb.GET (if sh then flagShadow else 0)
          (if (hitsIn l a.toNat n.toNat).any (fun x => x.double) then Status.DATA_UNCORRECTABLE else Status.OK)
          (s.load a.toNat n.toNat) s.stage
      ∧ t.mem = s.mem)
  ∧ (∀ (s : State) (r : Req) (a : Word) (n : BitVec 16) (e : Nat) (l : List EccHit), Ready s r Verb.GET →
      4 ≤ n.toNat → n.toNat ≤ 1400 → inWindow a.toNat n.toNat = true → reachesSecure a.toNat n.toNat = true →
    ∃ t, exec (.get r false a n e l) s = .next t ∧ Completed s t r Verb.GET 0 Status.ACCESS_DENIED [] s.stage
      ∧ t = { s with regs := t.regs, ses := t.ses, turn := r.session, canTx := t.canTx, out := t.out } ∧ Keeps s t (sessionFlds r.session))
  ∧ (∀ (s : State) (r : Req) (p : List Byte), Ready s r Verb.ECHO → p.length ≤ 1400 →
    ∃ t, exec (.echo r p) s = .next t ∧ Completed s t r Verb.ECHO 0 Status.OK p s.stage
      ∧ t = { s with regs := t.regs, ses := t.ses, turn := r.session, canTx := t.canTx, out := t.out } ∧ Keeps s t (sessionFlds r.session))

/-- SET writes whole objects, or stores them in the shadow set. SET of whole objects outside the clock, command and
network blocks that none of its checks refuses, and that no write acts on at once, gives each of their words the value
that its RW and W1C fields take, W1C bits that an event of the stage has set staying set, and leaves every other word
outside the session's block as it was; objects with SH fields go whole into the session's shadow set. A span that is
not whole objects, the safety block, the memory window and an object that its own check refuses are refused with their
status, and nothing changes. (R8, R105, R107, R161, R162) -/
def Obligations.SetWritesWholeObjects : Prop :=
  (∀ (s : State) (r : Req) (a : Word) (d : List Byte) (l : List (Nat × Nat)), Ready s r Verb.SET → 4 ≤ d.length → d.length ≤ 1400 → d.length % 4 = 0 →
      0x03000000 ≤ a.toNat → a.toNat + d.length ≤ 0x0C000000 → objectsIn 351 a.toNat (a.toNat + d.length) = some l →
      (∀ p ∈ l, plainObject p.1) → (s.rd Reg.LC_STATE_STATE = 2 → ∀ p ∈ l, identityObject p.1 = false) →
      (∀ p ∈ l, s.objectRefusal p.1 p.2 (slice d (p.1 - a.toNat) p.2) = none) →
      (s.setAfter r.session a.toNat d l).length ≤ 1024 → shadowBytes (s.setAfter r.session a.toNat d l) ≤ 65536 →
    ∃ t, exec (.set r a d) s = .next t ∧ Completed s t r Verb.SET 0 Status.OK [] s.stage
      ∧ t = { s with regs := t.regs, ses := t.ses, turn := r.session, canTx := t.canTx, out := t.out }
      ∧ (t.sess r.session).shadow = s.setAfter r.session a.toNat d l
      ∧ (∀ w ∈ wordsOf a.toNat d.length, t.word w = writtenWord (rowsAt w).1 (s.word w) (wordAt d (w - a.toNat)) (s.seenMask w))
      ∧ (∀ w : Nat, w / 0x1000000 ≠ 3 → w / 0x1000000 ≠ 0x0D → w ∉ wordsOf a.toNat d.length → t.word w = s.word w))
  ∧ (∀ (s : State) (r : Req) (a : Word) (d : List Byte), Ready s r Verb.SET → 4 ≤ d.length → d.length ≤ 1400 → d.length % 4 = 0 →
      a.toNat < memBase → objectsIn 351 a.toNat (a.toNat + d.length) = none →
    ∃ t, exec (.set r a d) s = .next t ∧ Completed s t r Verb.SET 0 Status.ADDRESS_INVALID [] s.stage
      ∧ t = { s with regs := t.regs, ses := t.ses, turn := r.session, canTx := t.canTx, out := t.out } ∧ Keeps s t (sessionFlds r.session))
  ∧ (∀ (s : State) (r : Req) (a : Word) (d : List Byte), Ready s r Verb.SET → 4 ≤ d.length → d.length ≤ 1400 →
      inWindow a.toNat d.length = true →
    ∃ t, exec (.set r a d) s = .next t ∧ Completed s t r Verb.SET 0 Status.ACCESS_DENIED [] s.stage
      ∧ t = { s with regs := t.regs, ses := t.ses, turn := r.session, canTx := t.canTx, out := t.out } ∧ Keeps s t (sessionFlds r.session))
  ∧ (∀ (s : State) (r : Req) (a : Word) (d : List Byte) (l : List (Nat × Nat)), Ready s r Verb.SET → 4 ≤ d.length → d.length ≤ 1400 → d.length % 4 = 0 →
      0x0C000000 ≤ a.toNat → a.toNat < 0x0D000000 → objectsIn 351 a.toNat (a.toNat + d.length) = some l →
    ∃ t, exec (.set r a d) s = .next t ∧ Completed s t r Verb.SET 0 Status.ACCESS_DENIED [] s.stage
      ∧ t = { s with regs := t.regs, ses := t.ses, turn := r.session, canTx := t.canTx, out := t.out } ∧ Keeps s t (sessionFlds r.session))
  ∧ (∀ (s : State) (r : Req) (a : Word) (d : List Byte) (x : Nat), Ready s r Verb.SET → 4 ≤ d.length → d.length ≤ 1400 → d.length % 4 = 0 →
      0x03000000 ≤ a.toNat → a.toNat < 0x0C000000 → objectsIn 351 a.toNat (a.toNat + d.length) = some [(a.toNat, d.length)] →
      (s.rd Reg.LC_STATE_STATE = 2 → identityObject a.toNat = false) → s.objectRefusal a.toNat d.length d = some x →
    ∃ t, exec (.set r a d) s = .next t ∧ Completed s t r Verb.SET 0 x [] s.stage
      ∧ t = { s with regs := t.regs, ses := t.ses, turn := r.session, canTx := t.canTx, out := t.out } ∧ Keeps s t (sessionFlds r.session))

/-- Writes of START, ABORT, LOOP_SLOT_MODE, TX_REQ and ACK. RAMP_START of a generator runs its profile from segment 0, and
of the lane generator while it spreads is refused; RAMP_ABORT stops a running profile where it stands;
LOOP_SLOT_MODE_WRITE gives a slot its mode and manual output, and refuses the two modes that do not exist; MDIO_START
begins a management cycle unless one runs; TX_REQ of an enabled HOST-triggered transmit object with nothing pending
makes its frame pending; ACK releases the oldest entries of a receive object, as many as it owns. (R72, R73, R97,
R294, R528, R542, R546) -/
def Obligations.WritesThatAct : Prop :=
  (∀ (s : State) (r : Req) (g : Fin 2), Ready s r Verb.SET → g = 0 ∨ s.clk.spread = .off →
    ∃ t, exec (.rampStart r g) s = .next t ∧ Completed s t r Verb.SET 0 Status.OK [] s.stage
      ∧ t = { s with regs := t.regs, ses := t.ses, turn := r.session, canTx := t.canTx, out := t.out, clk := t.clk }
      ∧ t.ramp g = { s.ramp g with running := true, heldNs := 0, spent := 0 } ∧ (∀ k : Fin 2, k ≠ g → t.ramp k = s.ramp k)
      ∧ t.rd (Reg.CLK_RAMP_STAT_CUR_SEG g) = 0 ∧ t.rd (if g = 0 then Reg.CLK_STAT_RAMP_SYS else Reg.CLK_STAT_RAMP_LANE) = 1
      ∧ Keeps s t ([Reg.CLK_RAMP_STAT_CUR_SEG g, Reg.CLK_RAMP_STAT_CUR_OFFSET g, Reg.CLK_STAT_RAMP_SYS, Reg.CLK_STAT_RAMP_LANE,
          Reg.CLK_SYS_NOW_OFFSET_PPM] ++ sessionFlds r.session))
  ∧ (∀ (s : State) (r : Req), Ready s r Verb.SET → s.clk.spread ≠ .off →
    ∃ t, exec (.rampStart r 1) s = .next t ∧ Completed s t r Verb.SET 0 Status.STATE_REFUSED [] s.stage
      ∧ t = { s with regs := t.regs, ses := t.ses, turn := r.session, canTx := t.canTx, out := t.out } ∧ Keeps s t (sessionFlds r.session))
  ∧ (∀ (s : State) (r : Req) (g : Fin 2), Ready s r Verb.SET → (s.ramp g).running = true →
    ∃ t, exec (.rampAbort r g) s = .next t ∧ Completed s t r Verb.SET 0 Status.OK [] s.stage
      ∧ t = { s with regs := t.regs, ses := t.ses, turn := r.session, canTx := t.canTx, out := t.out, clk := t.clk }
      ∧ t.ramp g = { s.ramp g with running := false } ∧ (∀ k : Fin 2, k ≠ g → t.ramp k = s.ramp k)
      ∧ Keeps s t ([Reg.CLK_RAMP_STAT_CUR_OFFSET g, Reg.CLK_STAT_RAMP_SYS, Reg.CLK_STAT_RAMP_LANE, Reg.CLK_SYS_NOW_OFFSET_PPM]
          ++ sessionFlds r.session))
  ∧ (∀ (s : State) (r : Req) (n : Fin 2048) (m : BitVec 2) (v : Word), Ready s r Verb.SET → m = 1 ∨ m = 2 →
    ∃ t, exec (.loopSlotModeWrite r n m v) s = .next t ∧ Completed s t r Verb.SET 0 Status.OK [] s.stage
      ∧ t = { s with regs := t.regs, ses := t.ses, turn := r.session, canTx := t.canTx, out := t.out }
      ∧ t.rd (Reg.LOOP_SLOT_MODE_MODE n) = m.toNat ∧ t.rd (Reg.LOOP_SLOT_MODE_MAN_OUT n) = v.toNat
      ∧ Keeps s t ([Reg.LOOP_SLOT_MODE_MODE n, Reg.LOOP_SLOT_MODE_MAN_OUT n] ++ sessionFlds r.session))
  ∧ (∀ (s : State) (r : Req) (n : Fin 2048) (m : BitVec 2) (v : Word), Ready s r Verb.SET → m = 0 ∨ m = 3 →
    ∃ t, exec (.loopSlotModeWrite r n m v) s = .next t ∧ Completed s t r Verb.SET 0 Status.VALUE_OUT_OF_RANGE [] s.stage
      ∧ t = { s with regs := t.regs, ses := t.ses, turn := r.session, canTx := t.canTx, out := t.out } ∧ Keeps s t (sessionFlds r.session))
  ∧ (∀ (s : State) (r : Req) (p : Fin 2) (o : Bool) (x y : BitVec 5) (d : BitVec 16), Ready s r Verb.SET → s.rd (Reg.ETH_MDIO_BUSY p) = 0 →
    ∃ t, exec (.mdioStart r p o x y d) s = .next t ∧ Completed s t r Verb.SET 0 Status.OK [] s.stage
      ∧ t = { s with regs := t.regs, ses := t.ses, turn := r.session, canTx := t.canTx, out := t.out }
      ∧ t.rd (Reg.ETH_MDIO_BUSY p) = 1 ∧ t.rd (Reg.ETH_MDIO_OP p) = (if o then 1 else 0) ∧ t.rd (Reg.ETH_MDIO_PHYAD p) = x.toNat
      ∧ t.rd (Reg.ETH_MDIO_REGAD p) = y.toNat ∧ t.rd (Reg.ETH_MDIO_DATA p) = d.toNat
      ∧ Keeps s t ([Reg.ETH_MDIO_BUSY p, Reg.ETH_MDIO_OP p, Reg.ETH_MDIO_PHYAD p, Reg.ETH_MDIO_REGAD p, Reg.ETH_MDIO_DATA p]
          ++ sessionFlds r.session))
  ∧ (∀ (s : State) (r : Req) (p : Fin 2) (o : Bool) (x y : BitVec 5) (d : BitVec 16), Ready s r Verb.SET → s.rd (Reg.ETH_MDIO_BUSY p) = 1 →
    ∃ t, exec (.mdioStart r p o x y d) s = .next t ∧ Completed s t r Verb.SET 0 Status.RESOURCE_BUSY [] s.stage
      ∧ t = { s with regs := t.regs, ses := t.ses, turn := r.session, canTx := t.canTx, out := t.out } ∧ Keeps s t (sessionFlds r.session))
  ∧ (∀ (s : State) (r : Req) (c : Fin 2) (n : Fin 128) (b : Bool), Ready s r Verb.SET → n.val < 126 → s.rd (Reg.CAN_OBJ_EN c n) = 1 →
      s.rd (Reg.CAN_OBJ_DIR c n) = 1 → s.rd (Reg.CAN_OBJ_TRIGGER c n) = 0 → s.busOff c = false → assocGet (s.canRun c).tx n = none →
    ∃ t, exec (.txReq r c n b) s = .next t ∧ Completed s t r Verb.SET 0 Status.OK [] s.stage
      ∧ t = { s with regs := t.regs, ses := t.ses, turn := r.session, canTx := t.canTx, out := t.out, net := { s.net with can := t.net.can } }
      ∧ (∃ x : CanTx, assocGet (t.canRun c).tx n = some x ∧ x.oneShot = s.flag (Reg.CAN_OBJ_ONE_SHOT c n) ∧ x.next = none)
      ∧ (∀ m : Nat, m ≠ n.val → assocGet (t.canRun c).tx m = assocGet (s.canRun c).tx m) ∧ (∀ k : Fin 2, k ≠ c → t.canRun k = s.canRun k))
  ∧ (∀ (s : State) (r : Req) (c : Fin 2) (n : Fin 128) (b : Bool), Ready s r Verb.SET → 126 ≤ n.val →
    ∃ t, exec (.txReq r c n b) s = .next t ∧ Completed s t r Verb.SET 0 Status.READ_ONLY [] s.stage
      ∧ t = { s with regs := t.regs, ses := t.ses, turn := r.session, canTx := t.canTx, out := t.out } ∧ Keeps s t (sessionFlds r.session))
  ∧ (∀ (s : State) (r : Req) (c : Fin 2) (n : Fin 128) (k : BitVec 6), Ready s r Verb.SET → n.val < 126 → 1 ≤ k.toNat →
      k.toNat ≤ s.rd (Reg.CAN_OBJ_COUNT c n) →
    ∃ t, exec (.ack r c n k) s = .next t ∧ Completed s t r Verb.SET 0 Status.OK [] s.stage
      ∧ t = { s with regs := t.regs, ses := t.ses, turn := r.session, canTx := t.canTx, out := t.out }
      ∧ t.rd (Reg.CAN_OBJ_COUNT c n) = s.rd (Reg.CAN_OBJ_COUNT c n) - k.toNat ∧ t.rd (Reg.CAN_OBJ_FULL c n) = 0
      ∧ Keeps s t ([Reg.CAN_OBJ_HEAD c n, Reg.CAN_OBJ_COUNT c n, Reg.CAN_OBJ_FULL c n] ++ sessionFlds r.session))

/-- SNAPSHOT and CRC. SNAPSHOT of ranges that are not refused waits for the next stage boundary and is answered when its
copy is done, with the boundary's stage and the length, once what commits or executes at that boundary is in it;
refused ranges are answered with their status. CRC of channels 0 and 1 waits for the next boundary, that of channel 6
is answered at once with the CRC-32C of the window's bytes, and with DATA_UNCORRECTABLE where a word of them has an
error of two bits, and that of a flash channel runs and is answered with the CRC of the record or image; where the
flash holds none the CRC is a free value (log entry 2). Nothing else changes. (R108, R109, R110, R173) -/
def Obligations.Captures : Prop :=
  (∀ (s : State) (r : Req) (l : List (Word × Word)), Ready s r Verb.SNAPSHOT → snapshotRefusal l = none →
    ∃ t, exec (.snapshot r l) s = .next t ∧ Started s t r Verb.SNAPSHOT (.snapshot l none) (s.stage + 1)
      ∧ t = { s with regs := t.regs, ses := t.ses, turn := r.session, out := [] } ∧ Keeps s t (sessionFlds r.session))
  ∧ (∀ (s : State) (r : Req) (l : List (Word × Word)) (x : Nat), Ready s r Verb.SNAPSHOT → snapshotRefusal l = some x →
    ∃ t, exec (.snapshot r l) s = .next t ∧ Completed s t r Verb.SNAPSHOT 0 x [] s.stage
      ∧ t = { s with regs := t.regs, ses := t.ses, turn := r.session, canTx := t.canTx, out := t.out } ∧ Keeps s t (sessionFlds r.session))
  ∧ (∀ (s : State) (i : Fin 4) (b : BusyCmd) (l : List (Word × Word)) (k : Nat), Executes s i b → b.op = .snapshot l (some k) →
      k ≠ s.stage ∨ (s.commitDue = false ∧ s.anyDue = false) →
    ∃ t, exec (.snapshotCopyDone i) s = .next t ∧ t = { s with regs := t.regs, ses := t.ses, canTx := t.canTx, out := t.out }
      ∧ Ended s t i b Status.OK (beBytes 6 k ++ [0, 0] ++ beBytes 4 (s.rd (Reg.MEM_SNAP_LENGTH i)))
      ∧ t.rd (Reg.MEM_SNAP_VALID i) = 1 ∧ t.rd (Reg.MEM_SNAP_COPYING i) = 0
      ∧ Keeps s t ([Reg.MEM_SNAP_VALID i, Reg.MEM_SNAP_COPYING i] ++ sessionFlds i))
  ∧ (∀ (s : State) (r : Req) (c : Byte) (a n : Word) (e : List EccHit), Ready s r Verb.CRC → c.toNat ≤ 1 → a.toNat % 4 = 0 → 4 ≤ n.toNat → n.toNat % 4 = 0 →
      n.toNat ≤ 262144 → a.toNat + n.toNat ≤ 0x10000000 →
    ∃ t, exec (.crc r c a ⟨n, e⟩) s = .next t ∧ Started s t r Verb.CRC (.crcCapture (c == 1) a.toNat n.toNat) (s.stage + 1)
      ∧ t = { s with regs := t.regs, ses := t.ses, turn := r.session, out := [] } ∧ Keeps s t (sessionFlds r.session))
  ∧ (∀ (s : State) (r : Req) (a n : Word), Ready s r Verb.CRC → inWindow a.toNat n.toNat = true → reachesSecure a.toNat n.toNat = false →
      4 ≤ n.toNat → n.toNat ≤ 1048576 →
    ∃ t, exec (.crc r 6 a ⟨n, []⟩) s = .next t
      ∧ Completed s t r Verb.CRC 0 Status.OK (beBytes 4 (crc32c 0xFFFFFFFF (s.load a.toNat n.toNat)) ++ beBytes 6 s.stage ++ [0, 0]) s.stage
      ∧ t = { s with regs := t.regs, ses := t.ses, turn := r.session, canTx := t.canTx, out := t.out } ∧ Keeps s t (sessionFlds r.session))
  ∧ (∀ (s : State) (r : Req) (a n : Word) (e : List EccHit), Ready s r Verb.CRC → inWindow a.toNat n.toNat = true →
      reachesSecure a.toNat n.toNat = false → 4 ≤ n.toNat → n.toNat ≤ 1048576 →
    ∃ t, exec (.crc r 6 a ⟨n, e⟩) s = .next t
      ∧ Completed s t r Verb.CRC 0 (if (hitsIn e a.toNat n.toNat).any (fun x => x.double) then Status.DATA_UNCORRECTABLE else Status.OK)
          (beBytes 4 (crc32c 0xFFFFFFFF (s.load a.toNat n.toNat)) ++ beBytes 6 s.stage ++ [0, 0]) s.stage ∧ t.mem = s.mem)
  ∧ (∀ (s : State) (r : Req) (c : Byte) (e : List EccHit), Ready s r Verb.CRC → 2 ≤ c.toNat → c.toNat ≤ 5 → s.findOp LongOp.flash = none →
    ∃ t, exec (.crc r c 0 ⟨0, e⟩) s = .next t ∧ Started s t r Verb.CRC (.flashCrc c.toNat) s.stage
      ∧ t = { s with regs := t.regs, ses := t.ses, turn := r.session, out := [] } ∧ Keeps s t (sessionFlds r.session))
  ∧ (∀ (s : State) (i : Fin 4) (b : BusyCmd) (c x : Nat), Executes s i b → b.op = .flashCrc c → s.findOp LongOp.isFlashCrc = some i →
      s.flashCrcOf c = some x →
    ∃ t, exec .flashCrcDone s = .next t ∧ Ended s t i b Status.OK (beBytes 4 x ++ beBytes 6 s.stage ++ [0, 0])
      ∧ t = { s with regs := t.regs, ses := t.ses, canTx := t.canTx, out := t.out } ∧ Keeps s t (sessionFlds i))
  ∧ (∀ (s : State) (i : Fin 4) (b : BusyCmd) (c : Nat), Executes s i b → b.op = .flashCrc c → s.findOp LongOp.isFlashCrc = some i →
      s.flashCrcOf c = none →
    ∃ t x, exec .flashCrcDone s = .next t ∧ Ended s t i b Status.OK (beBytes 4 x ++ beBytes 6 s.stage ++ [0, 0])
      ∧ t = { s with regs := t.regs, ses := t.ses, canTx := t.canTx, out := t.out, free := s.free + 1 } ∧ Keeps s t (sessionFlds i))

/-- APPLY checks the shadow set, and a boundary commits it. APPLY_DISCARD empties the session's shadow set. APPLY_COMMIT
of an empty set is answered at once; of a set that its checks admit it waits for the commit; of one that fails a check
it is answered with the check's status and the failing address, and the set stays. SHADOW_COMMIT at a boundary at
which nothing has committed yet makes the set active, answers the number of its objects and empties the session's
shadow set: the words of POL_CFG take the stored values in their SH fields. (R163, R164, R165) -/
def Obligations.ApplyTakesTheShadowSet : Prop :=
  (∀ (s : State) (r : Req), Ready s r Verb.APPLY →
    ∃ t, exec (.applyDiscard r) s = .next t ∧ Completed s t r Verb.APPLY 0 Status.OK [0, 0, 0, 0, 0, 0, 0, 0] s.stage
      ∧ t = { s with regs := t.regs, ses := t.ses, turn := r.session, canTx := t.canTx, out := t.out } ∧ (t.sess r.session).shadow = []
      ∧ Keeps s t (sessionFlds r.session))
  ∧ (∀ (s : State) (r : Req), Ready s r Verb.APPLY → (s.sess r.session).shadow = [] →
    ∃ t, exec (.applyCommit r) s = .next t ∧ Completed s t r Verb.APPLY 0 Status.OK [0, 0, 0, 0, 0, 0, 0, 0] s.stage
      ∧ t = { s with regs := t.regs, ses := t.ses, turn := r.session, canTx := t.canTx, out := t.out } ∧ Keeps s t (sessionFlds r.session))
  ∧ (∀ (s : State) (r : Req), Ready s r Verb.APPLY → (s.sess r.session).shadow ≠ [] →
      (s.rd Reg.LC_STATE_STATE = 2 → ∀ p ∈ (s.sess r.session).shadow, identityObject p.1 = false) →
      (s.taken r).applyFail (s.sess r.session).shadow = none →
    ∃ t, exec (.applyCommit r) s = .next t
      ∧ Started s t r Verb.APPLY (.applyWait (s.sess r.session).shadow) (s.stage + 1)
      ∧ t = { s with regs := t.regs, ses := t.ses, turn := r.session, out := [] } ∧ (t.sess r.session).shadow = (s.sess r.session).shadow
      ∧ Keeps s t (sessionFlds r.session))
  ∧ (∀ (s : State) (r : Req) (x a : Nat), Ready s r Verb.APPLY → (s.sess r.session).shadow ≠ [] →
      (s.rd Reg.LC_STATE_STATE = 2 → ∀ p ∈ (s.sess r.session).shadow, identityObject p.1 = false) →
      (s.taken r).applyFail (s.sess r.session).shadow = some (x, a) →
    ∃ t, exec (.applyCommit r) s = .next t ∧ Completed s t r Verb.APPLY 0 x ([0, 0, 0, 0] ++ beBytes 4 a) s.stage
      ∧ t = { s with regs := t.regs, ses := t.ses, turn := r.session, canTx := t.canTx, out := t.out }
      ∧ (t.sess r.session).shadow = (s.sess r.session).shadow ∧ Keeps s t (sessionFlds r.session))
  ∧ (∀ (s : State) (i : Fin 4) (b : BusyCmd) (l : List (Nat × List Byte)), Executes s i b → b.op = .applyWait l → b.stage ≤ s.stage →
      s.lastCommit ≠ some s.stage →
    ∃ t, exec (.shadowCommit i) s = .next t ∧ t.lastCommit = some s.stage ∧ (t.sess i).shadow = [] ∧ (t.sess i).busy = none
      ∧ Replied t (s.sess i).src b.head (b.final Status.OK) (beBytes 2 l.length ++ [0, 0, 0, 0, 0, 0]) s.stage
      ∧ t.pending = s.pending ∧ t.flash = s.flash)
  ∧ (∀ (s : State) (i : Fin 4) (b : BusyCmd) (d : List Byte), Executes s i b → b.op = .applyWait [(0x08000100, d)] → b.stage ≤ s.stage →
      s.lastCommit ≠ some s.stage → objectAt 0x08000100 = some (0x08000100, d.length) →
    ∃ t, exec (.shadowCommit i) s = .next t
      ∧ ∀ w ∈ wordsOf 0x08000100 d.length, t.word w = mergeShadow (rowsAt w).1 (s.word w) (wordAt d (w - 0x08000100)))
  ∧ (∀ (s : State) (i : Fin 4) (b : BusyCmd) (l : List (Nat × List Byte)), Executes s i b → b.op = .applyWait l →
      s.stage < b.stage ∨ s.lastCommit = some s.stage →
    ∃ t, exec (.shadowCommit i) s = .next t ∧ t = { s with out := [] })

/-- CLEAR of the faults, the drive stage, a controller and the safety island. CLEAR with FAULTS that no condition refuses
empties the fault latch, ends the safe state and, in TRIPPED, orders STANDBY for the next boundary; with DRIVE it
releases the trips already in effect and empties DRV_TRIP; with CAN_RECOVER of a controller in bus-off it begins its
recovery; with SAFETY and the island's token after a valid reset operation it releases the lock-out, uses up the reset
operation and replaces the NONCE with a free value (log entry 2). Each queues the CLEAR_ACCEPTED event and answers its
bits. A refused bit is answered with its status, and PARAMS of 0 with PAYLOAD_INVALID. (R169, R335, R336, R393, R510,
R549) -/
def Obligations.ClearReleasesTrips : Prop :=
  (∀ (s : State) (r : Req), Ready s r Verb.CLEAR → s.clearFaultsRefusal false = none →
    ∃ t, exec (.clearFaults r 1 []) s = .next t ∧ Completed s t r Verb.CLEAR 0 Status.OK [1] (s.stage + 1)
      ∧ (∀ k : Nat, k < 64 → t.word (0x0B000100 + 4 * k) = 0) ∧ t.anyF3 = false
      ∧ t.rd Reg.MOD_STAT_SAFE = 0 ∧ t.rd Reg.MOD_STAT_SAFE_CAUSE = 0
      ∧ t.pol = { s.pol with goto := if s.station = St.TRIPPED then some (St.STANDBY, 0x0114) else s.pol.goto }
      ∧ t.flt = { s.flt with queue := s.queueEvent Ev.CLEAR_ACCEPTED } ∧ t.mem = s.mem ∧ t.drv = s.drv ∧ t.isl = s.isl
      ∧ Keeps s t ((List.range 64).map (fun k => wordFld (0x0B000100 + 4 * k)) ++ [Reg.MOD_STAT_SAFE, Reg.MOD_STAT_SAFE_CAUSE] ++ journalFlds
          ++ sessionFlds r.session))
  ∧ (∀ (s : State) (r : Req) (x : Nat), Ready s r Verb.CLEAR → s.clearFaultsRefusal false = some x →
    ∃ t, exec (.clearFaults r 1 []) s = .next t ∧ Completed s t r Verb.CLEAR 0 x [] s.stage
      ∧ t = { s with regs := t.regs, ses := t.ses, turn := r.session, canTx := t.canTx, out := t.out } ∧ Keeps s t (sessionFlds r.session))
  ∧ (∀ (s : State) (r : Req), Ready s r Verb.CLEAR → s.clearDriveRefusal = none →
    ∃ t, exec (.clearDrive r 2 []) s = .next t ∧ Completed s t r Verb.CLEAR 0 Status.OK [2] (s.stage + 1)
      ∧ t = { s with regs := t.regs, ses := t.ses, turn := r.session, canTx := t.canTx, out := t.out, flt := { s.flt with queue := s.queueEvent Ev.CLEAR_ACCEPTED },
                     drv := { s.drv with latched := [], shorts := [], softAll := false, brakeCut := false, clearDue := true } }
      ∧ t.word 0x09000004 = 0 ∧ t.rd Reg.DRV_STAT_CAUSE = 0
      ∧ Keeps s t ([wordFld 0x09000004, Reg.DRV_STAT_CAUSE] ++ journalFlds ++ sessionFlds r.session))
  ∧ (∀ (s : State) (r : Req), Ready s r Verb.CLEAR → s.clearDriveRefusal ≠ none →
    ∃ t, exec (.clearDrive r 2 []) s = .next t ∧ Completed s t r Verb.CLEAR 0 Status.TRIP_STILL_ACTIVE [] s.stage
      ∧ t = { s with regs := t.regs, ses := t.ses, turn := r.session, canTx := t.canTx, out := t.out } ∧ Keeps s t (sessionFlds r.session))
  ∧ (∀ (s : State) (r : Req) (c : Fin 2), Ready s r Verb.CLEAR → s.busOff c = true →
    ∃ t, exec (.clearCanRecover r (if c = 0 then 4 else 8) []) s = .next t
      ∧ Completed s t r Verb.CLEAR 0 Status.OK [if c = 0 then 4 else 8] (s.stage + 1)
      ∧ t = { s with regs := t.regs, ses := t.ses, turn := r.session, canTx := t.canTx, out := t.out, flt := { s.flt with queue := s.queueEvent Ev.CLEAR_ACCEPTED },
                     net := { s.net with can := t.net.can } }
      ∧ t.canRun c = (if s.rd (Reg.CAN_STAT_RECOVERING c) = 1 then s.canRun c else { s.canRun c with healAt := s.timeOf 1 }) ∧ t.canRun (1 - c) = s.canRun (1 - c)
      ∧ t.rd (Reg.CAN_STAT_RECOVERING c) = 1 ∧ Keeps s t ([Reg.CAN_STAT_RECOVERING c] ++ journalFlds ++ sessionFlds r.session))
  ∧ (∀ (s : State) (r : Req) (c : Fin 2), Ready s r Verb.CLEAR → s.busOff c = false →
    ∃ t, exec (.clearCanRecover r (if c = 0 then 4 else 8) []) s = .next t ∧ Completed s t r Verb.CLEAR 0 Status.STATE_REFUSED [] s.stage
      ∧ t = { s with regs := t.regs, ses := t.ses, turn := r.session, canTx := t.canTx, out := t.out } ∧ Keeps s t (sessionFlds r.session))
  ∧ (∀ (s : State) (r : Req), Ready s r Verb.CLEAR → s.tokenForPartner s.safetyToken = false → s.safetyRefusal s.safetyToken false = none →
    ∃ t, exec (.clearSafety r 16 s.safetyToken) s = .next t ∧ Completed s t r Verb.CLEAR 0 Status.OK [16] (s.stage + 1)
      ∧ t.rd Reg.SAFE_LOCK_LOCKED = 0 ∧ t.rd Reg.SAFE_STAT_RESET_VALID = 0 ∧ t.rd Reg.SAFE_LOCK_CAUSE = 0 ∧ t.isl.causes = []
      ∧ t.free = s.free + 2 ∧ t.flt = { s.flt with queue := s.queueEvent Ev.CLEAR_ACCEPTED } ∧ t.pol = s.pol ∧ t.mem = s.mem)
  ∧ (∀ (s : State) (r : Req) (k : List Byte), Ready s r Verb.CLEAR → k.length = 32 → s.tokenForPartner k = false → k ≠ s.safetyToken →
    ∃ t, exec (.clearSafety r 16 k) s = .next t ∧ Completed s t r Verb.CLEAR 0 Status.SAFETY_TOKEN_INVALID [] s.stage
      ∧ t = { s with regs := t.regs, ses := t.ses, turn := r.session, canTx := t.canTx, out := t.out, free := s.free + 2 }
      ∧ Keeps s t (Reg.SAFE_LOCK_NONCE :: sessionFlds r.session))
  ∧ (∀ (s : State) (r : Req), Ready s r Verb.CLEAR →
    ∃ t, exec (.clearFaults r 0 []) s = .next t ∧ Completed s t r Verb.CLEAR 0 Status.PAYLOAD_INVALID [] s.stage
      ∧ t = { s with regs := t.regs, ses := t.ses, turn := r.session, canTx := t.canTx, out := t.out } ∧ Keeps s t (sessionFlds r.session))

/-- ROLE, JOURNAL and the logbook's commands. ROLE reports the role, the partner's and the interlock; with REQUEST 1 on a
keeper whose partner is in step it orders the hand-over four stages after the next boundary, and on a module that is
no such keeper it is refused. JOURNAL answers OLDEST, NEWEST, OVERFLOW and the entries from a number on;
LOGBOOK_FREEZE asks for a trigger at the next boundary, or answers the trigger in force, and with ACTION 1 releases a
frozen logbook; LOGBOOK_READ answers a slot's index entry and cell records. (R167, R455, R457, R474) -/
def Obligations.RolesAndRecords : Prop :=
  (∀ (s : State) (r : Req), Ready s r Verb.ROLE →
    ∃ t, exec (.roleReport r) s = .next t ∧ Completed s t r Verb.ROLE 0 Status.OK s.roleReply s.stage
      ∧ t = { s with regs := t.regs, ses := t.ses, turn := r.session, canTx := t.canTx, out := t.out, free := s.free + 1 } ∧ Keeps s t (sessionFlds r.session))
  ∧ (∀ (s : State) (r : Req), Ready s r Verb.ROLE → s.duo.role = Role.KEEPER → s.duo.inStep = true → s.duo.check = false →
    ∃ t, exec (.roleYield r) s = .next t ∧ Completed s t r Verb.ROLE 0 Status.OK s.roleReply s.stage
      ∧ t = { s with regs := t.regs, ses := t.ses, turn := r.session, canTx := t.canTx, out := t.out, free := s.free + 1,
                     duo := { s.duo with yieldAt := some ((s.stage + 5) % 2 ^ 32) } } ∧ Keeps s t (sessionFlds r.session))
  ∧ (∀ (s : State) (r : Req), Ready s r Verb.ROLE → s.duo.role ≠ Role.KEEPER ∨ s.duo.inStep = false ∨ s.duo.check = true →
    ∃ t, exec (.roleYield r) s = .next t ∧ Completed s t r Verb.ROLE 0 Status.STATE_REFUSED [] s.stage
      ∧ t = { s with regs := t.regs, ses := t.ses, turn := r.session, canTx := t.canTx, out := t.out } ∧ Keeps s t (sessionFlds r.session))
  ∧ (∀ (s : State) (r : Req) (a : Word) (n : Byte), Ready s r Verb.JOURNAL → 1 ≤ n.toNat → n.toNat ≤ 21 →
    ∃ t, exec (.journal r a ⟨n, []⟩) s = .next t
      ∧ Completed s t r Verb.JOURNAL 0 Status.OK (beBytes 4 (s.rd Reg.JRNL_STAT_OLDEST) ++ beBytes 4 (s.rd Reg.JRNL_STAT_NEWEST)
          ++ beBytes 4 (s.rd Reg.JRNL_STAT_OVERFLOW)
          ++ ((List.range (s.journalSpan a.toNat n.toNat).2).map
                (fun k => s.load (journalAddr (((s.journalSpan a.toNat n.toNat).1 + k) % 2 ^ 32)) 64)).flatten) s.stage
      ∧ t = { s with regs := t.regs, ses := t.ses, turn := r.session, canTx := t.canTx, out := t.out } ∧ Keeps s t (sessionFlds r.session))
  ∧ (∀ (s : State) (r : Req), Ready s r Verb.LOGBOOK_FREEZE → s.rd Reg.MEM_LOGBOOK_STAT_FROZEN = 0 → s.rd Reg.MEM_LOGBOOK_STAT_POST_RUNNING = 0 →
    ∃ t, exec (.logbookTrigger r) s = .next t
      ∧ Completed s t r Verb.LOGBOOK_FREEZE 0 Status.OK (beBytes 6 (s.stage + 1)) (s.stage + 1)
      ∧ t = { s with regs := t.regs, ses := t.ses, turn := r.session, canTx := t.canTx, out := t.out, flt := { s.flt with trigger := true } }
      ∧ Keeps s t (sessionFlds r.session))
  ∧ (∀ (s : State) (r : Req), Ready s r Verb.LOGBOOK_FREEZE → s.rd Reg.MEM_LOGBOOK_STAT_FROZEN = 1 →
    ∃ t, exec (.logbookTrigger r) s = .next t ∧ Completed s t r Verb.LOGBOOK_FREEZE 0 Status.OK (beBytes 6 s.flt.trigStage) s.stage
      ∧ t = { s with regs := t.regs, ses := t.ses, turn := r.session, canTx := t.canTx, out := t.out } ∧ Keeps s t (sessionFlds r.session))
  ∧ (∀ (s : State) (r : Req), Ready s r Verb.LOGBOOK_FREEZE → s.rd Reg.MEM_LOGBOOK_STAT_FROZEN = 1 → s.rd Reg.MEM_LOGBOOK_STAT_POST_RUNNING = 0 →
    ∃ t, exec (.logbookRelease r) s = .next t ∧ Completed s t r Verb.LOGBOOK_FREEZE 0 Status.OK (beBytes 6 0) s.stage
      ∧ t = { s with regs := t.regs, ses := t.ses, turn := r.session, canTx := t.canTx, out := t.out,
                     flt := { s.flt with queue := s.queueEvent Ev.LOGBOOK_RELEASED, lbFrom := s.stage + 1 } }
      ∧ t.rd Reg.MEM_LOGBOOK_STAT_FROZEN = 0 ∧ Keeps s t ([Reg.MEM_LOGBOOK_STAT_FROZEN] ++ journalFlds ++ sessionFlds r.session))
  ∧ (∀ (s : State) (r : Req) (x f n : BitVec 16), Ready s r Verb.LOGBOOK_READ → x.toNat ≤ 8191 → f.toNat ≤ 511 → 1 ≤ n.toNat → n.toNat ≤ 57 →
      f.toNat + n.toNat ≤ 512 →
    ∃ t, exec (.logbookRead r x f n []) s = .next t
      ∧ Completed s t r Verb.LOGBOOK_READ 0 Status.OK
          (s.load (0x16000000 + x.toNat * 16) 16 ++ s.load (0x10000000 + x.toNat * 0x3000 + 24 * f.toNat) (24 * n.toNat)) s.stage
      ∧ t = { s with regs := t.regs, ses := t.ses, turn := r.session, canTx := t.canTx, out := t.out } ∧ Keeps s t (sessionFlds r.session))

/-- Life-cycle transitions and configuration records. A transition that is not refused replaces the nonce by free values
(log entry 2), wipes the secure region, shows CHANGE_BUSY and stays in execution; a refused one is answered with its
status and replaces the nonce. LIFECYCLE_COMPLETE gives the state its target, counts the change and answers it, or
leaves the state where the flash failed. SAVE_CONFIG replaces the nonce too; in COMMISSION or SERVICE with a free
flash it stays in execution with the configuration's words, and CONFIG_RECORD_WRITTEN writes them into the older
record, valid or not, and answers. (R128, R130, R131, R132, R133) -/
def Obligations.LifeCycleTransitionsKeepTheirOrder : Prop :=
  (∀ (s : State) (r : Req) (g k : Byte) (n x : List Byte), Ready s r Verb.LIFECYCLE → s.lcRefusal g k.toNat n x = none →
    ∃ t, exec (.lifecycleTransition r g k n x) s = .next t ∧ Started s t r Verb.LIFECYCLE (.lifecycle g.toNat n false) s.stage
      ∧ t = { s with regs := t.regs, ses := t.ses, turn := r.session, out := [], free := s.free + 8,
                     sto := { s.sto with nonceAt := s.timeOf 1 }, power := { s.power with gateShut := true, fillDue := true, markDue := true } }
      ∧ t.rd Reg.LC_STATE_CHANGE_BUSY = 1 ∧ t.rd Reg.LC_STATE_SECRETS_PRESENT = 0 ∧ t.rd Reg.LC_STATE_STATE = s.rd Reg.LC_STATE_STATE
      ∧ t.rd Reg.MEM_TAMPER_STAT_WIPE_COUNT = s.oneMore Reg.MEM_TAMPER_STAT_WIPE_COUNT)
  ∧ (∀ (s : State) (r : Req) (g k : Byte) (n x : List Byte) (st : Nat), Ready s r Verb.LIFECYCLE → s.lcRefusal g k.toNat n x = some st →
    ∃ t, exec (.lifecycleTransition r g k n x) s = .next t ∧ Completed s t r Verb.LIFECYCLE 0 st [] s.stage
      ∧ t = { s with regs := t.regs, ses := t.ses, turn := r.session, canTx := t.canTx, out := t.out, free := s.free + 8,
                     sto := { s.sto with nonceAt := s.timeOf 1 } }
      ∧ Keeps s t ((List.range 8).map Reg.LC_CHALLENGE_NONCE ++ sessionFlds r.session))
  ∧ (∀ (s : State) (i : Fin 4) (b : BusyCmd) (g : Nat) (n : List Byte) (w : Bool), Executes s i b → b.op = .lifecycle g n w → g ≤ 4 →
      s.findOp LongOp.isLifecycle = some i →
    ∃ t, exec (.lifecycleComplete true) s = .next t ∧ Ended s t i b Status.OK (beBytes 1 g ++ [0, 0, 0])
      ∧ t.rd Reg.LC_STATE_STATE = g ∧ t.rd Reg.LC_STATE_CHANGE_BUSY = 0
      ∧ t.rd Reg.LC_STATE_CHANGE_COUNT = s.oneMore Reg.LC_STATE_CHANGE_COUNT ∧ t.flash.lcState = g
      ∧ t.flash.key = (if g = 4 then none else some n) ∧ t.flash.copyValid = (g != 4 && !w) ∧ t.mem = s.mem ∧ t.pol = s.pol)
  ∧ (∀ (s : State) (i : Fin 4) (b : BusyCmd) (g : Nat) (n : List Byte) (w : Bool), Executes s i b → b.op = .lifecycle g n w →
      s.findOp LongOp.isLifecycle = some i →
    ∃ t, exec (.lifecycleComplete false) s = .next t ∧ Ended s t i b Status.FLASH_ERROR []
      ∧ t = { s with regs := t.regs, ses := t.ses, canTx := t.canTx, out := t.out } ∧ t.rd Reg.LC_STATE_CHANGE_BUSY = 0
      ∧ Keeps s t (Reg.LC_STATE_CHANGE_BUSY :: sessionFlds i))
  ∧ (∀ (s : State) (r : Req), Ready s r Verb.LIFECYCLE → s.rd Reg.LC_STATE_STATE = 1 ∨ s.rd Reg.LC_STATE_STATE = 3 →
      s.rd Reg.LC_STATE_CHANGE_BUSY = 0 → s.findOp LongOp.flash = none →
    ∃ t, exec (.saveConfig r) s = .next t ∧ Started s t r Verb.LIFECYCLE (.saveConfig (s.taken r).newChallenge.configWords) s.stage
      ∧ t = { s with regs := t.regs, ses := t.ses, turn := r.session, out := [], free := s.free + 8, sto := { s.sto with nonceAt := s.timeOf 1 } }
      ∧ Keeps s t ((List.range 8).map Reg.LC_CHALLENGE_NONCE ++ sessionFlds r.session))
  ∧ (∀ (s : State) (r : Req), Ready s r Verb.LIFECYCLE → s.rd Reg.LC_STATE_STATE ≠ 1 → s.rd Reg.LC_STATE_STATE ≠ 3 →
    ∃ t, exec (.saveConfig r) s = .next t ∧ Completed s t r Verb.LIFECYCLE 0 Status.LIFECYCLE_REFUSED [] s.stage
      ∧ t = { s with regs := t.regs, ses := t.ses, turn := r.session, canTx := t.canTx, out := t.out, free := s.free + 8,
                     sto := { s.sto with nonceAt := s.timeOf 1 } }
      ∧ Keeps s t ((List.range 8).map Reg.LC_CHALLENGE_NONCE ++ sessionFlds r.session))
  ∧ (∀ (s : State) (i : Fin 4) (b : BusyCmd) (l : List (Nat × Word)) (k : Bool), Executes s i b → b.op = .saveConfig l →
      s.findOp LongOp.isSave = some i →
    ∃ t, exec (.configRecordWritten k) s = .next t
      ∧ (if k then Ended s t i b Status.OK (beBytes 1 (s.rd Reg.LC_STATE_STATE) ++ [0, 0, 0]) else Ended s t i b Status.FLASH_ERROR [])
      ∧ t = { s with regs := t.regs, ses := t.ses, canTx := t.canTx, out := t.out, flash := s.flash.writeOlder (s.recordOf k l) }
      ∧ Keeps s t (Reg.LC_STATE_CONFIG_DIRTY :: sessionFlds i))

/-- An update from BEGIN to its confirmation. BEGIN with a free flash erases the slot that did not boot and gives the
update to its session; its preparation ends with OK, or with FLASH_ERROR and no update. WRITE of the session that
holds the update puts its data into the slot, and without an update, or while another verb holds the flash, is
refused; COMMIT runs until FIRMWARE_COMMIT_DONE makes a good image VALID and answers its CRC, or answers
IMAGE_INVALID, and ends the update; ABORT ends the session's update. ACTIVATE in OFF or STANDBY makes the VALID slot
TRIAL with no starts, and the restart follows; FIRMWARE_CONFIRM makes the booted TRIAL image CONFIRMED and raises
ROLLBACK_MIN. (R171, R589, R590, R591) -/
def Obligations.FirmwareSlotsFollowTheUpdate : Prop :=
  (∀ (s : State) (r : Req) (n : Word), Ready s r Verb.FIRMWARE → n.toNat ≤ imageTop → s.findOp LongOp.flash = none →
      (∀ p, s.sto.update = some p → p.1 = r.session) →
    ∃ t, exec (.firmwareBegin r n) s = .next t ∧ Started s t r Verb.FIRMWARE .fwBegin s.stage
      ∧ t = { s with regs := t.regs, ses := t.ses, turn := r.session, out := [], flash := s.flash.setImg s.spareSlot {},
                     sto := { s.sto with update := some (r.session, n.toNat) } }
      ∧ Keeps s t (fwFlds ++ sessionFlds r.session))
  ∧ (∀ (s : State) (i : Fin 4) (b : BusyCmd) (k : Bool), Executes s i b → b.op = .fwBegin → s.findOp (fun o => o == .fwBegin) = some i →
    ∃ t, exec (.firmwareBeginDone k) s = .next t ∧ Ended s t i b (if k then Status.OK else Status.FLASH_ERROR) []
      ∧ t = { s with regs := t.regs, ses := t.ses, canTx := t.canTx, out := t.out,
                     sto := { s.sto with update := if k then s.sto.update else none } } ∧ Keeps s t (sessionFlds i))
  ∧ (∀ (s : State) (r : Req) (o : Word) (d : List Byte) (n : Nat), Ready s r Verb.FIRMWARE → s.updateOf r.session = some n → s.findOp LongOp.flash = none → o.toNat % 4 = 0 →
      o.toNat + d.length ≤ n →
    ∃ t, exec (.firmwareWrite r o d) s = .next t ∧ Completed s t r Verb.FIRMWARE 0 Status.OK [] s.stage
      ∧ t = { s with regs := t.regs, ses := t.ses, turn := r.session, canTx := t.canTx, out := t.out,
                     flash := s.flash.setImg s.spareSlot { s.flash.img s.spareSlot with bytes := patch (s.flash.img s.spareSlot).bytes o.toNat d } }
      ∧ Keeps s t (fwFlds ++ sessionFlds r.session))
  ∧ (∀ (s : State) (r : Req) (o : Word) (d : List Byte), Ready s r Verb.FIRMWARE → s.updateOf r.session = none →
    ∃ t, exec (.firmwareWrite r o d) s = .next t ∧ Completed s t r Verb.FIRMWARE 0 Status.STATE_REFUSED [] s.stage
      ∧ t = { s with regs := t.regs, ses := t.ses, turn := r.session, canTx := t.canTx, out := t.out } ∧ Keeps s t (sessionFlds r.session))
  ∧ (∀ (s : State) (r : Req) (o : Word) (d : List Byte), Ready s r Verb.FIRMWARE → s.updateOf r.session ≠ none → s.findOp LongOp.flash ≠ none →
    ∃ t, exec (.firmwareWrite r o d) s = .next t ∧ Completed s t r Verb.FIRMWARE 0 Status.RESOURCE_BUSY [] s.stage
      ∧ t = { s with regs := t.regs, ses := t.ses, turn := r.session, canTx := t.canTx, out := t.out } ∧ Keeps s t (sessionFlds r.session))
  ∧ (∀ (s : State) (r : Req) (n : Nat), Ready s r Verb.FIRMWARE → s.updateOf r.session = some n → s.findOp LongOp.flash = none →
    ∃ t, exec (.firmwareCommit r) s = .next t ∧ Started s t r Verb.FIRMWARE (.fwCommit n) s.stage
      ∧ t = { s with regs := t.regs, ses := t.ses, turn := r.session, out := [] } ∧ Keeps s t (sessionFlds r.session))
  ∧ (∀ (s : State) (i : Fin 4) (b : BusyCmd) (n : Nat), Executes s i b → b.op = .fwCommit n → s.findOp LongOp.isCommit = some i →
    ∃ t, exec .firmwareCommitDone s = .next t
      ∧ (if imageOk ((s.flash.img s.spareSlot).image n) n s.flash.rollbackMin = true then
          Ended s t i b Status.OK (beBytes 4 (crc32c 0xFFFFFFFF ((s.flash.img s.spareSlot).image n)))
            ∧ (t.flash.img s.spareSlot).state = 1 ∧ (t.flash.img s.spareSlot).bytes = (s.flash.img s.spareSlot).image n
            ∧ t.flash.img (!s.spareSlot) = s.flash.img (!s.spareSlot) ∧ t.sto = { s.sto with update := none } ∧ t.mem = s.mem
            ∧ Keeps s t (fwFlds ++ sessionFlds i)
        else Ended s t i b Status.IMAGE_INVALID []
            ∧ t = { s with regs := t.regs, ses := t.ses, canTx := t.canTx, out := t.out, sto := { s.sto with update := none } }
            ∧ Keeps s t (sessionFlds i)))
  ∧ (∀ (s : State) (r : Req), Ready s r Verb.FIRMWARE →
    ∃ t, exec (.firmwareAbort r) s = .next t ∧ Completed s t r Verb.FIRMWARE 0 Status.OK [] s.stage
      ∧ t = { s with regs := t.regs, ses := t.ses, turn := r.session, canTx := t.canTx, out := t.out,
                     sto := { s.sto with update := if (s.updateOf r.session).isSome then none else s.sto.update } }
      ∧ Keeps s t (sessionFlds r.session))
  ∧ (∀ (s : State) (r : Req) (b : Bool), Ready s r Verb.FIRMWARE → s.findOp LongOp.flash = none → s.station = 0 ∨ s.station = 2 →
      s.flash.validSlot = some b →
    ∃ t, exec (.firmwareActivate r) s = .next t ∧ Completed s t r Verb.FIRMWARE 0 Status.OK [] s.stage
      ∧ t = { s with regs := t.regs, ses := t.ses, turn := r.session, canTx := t.canTx, out := t.out,
                     flash := s.flash.setImg b { s.flash.img b with state := 2, trials := 0 }, sto := { s.sto with activate := true, activateAt := s.timeOf 1 } }
      ∧ Keeps s t (fwFlds ++ sessionFlds r.session))
  ∧ (∀ (s : State), s.running = true → s.recovery = false → (s.flash.img s.flash.bootB).state = 2 → s.passed s.power.startMono 600000000000 = true →
    ∃ t, exec .firmwareConfirm s = .next t
      ∧ t = { s with regs := t.regs, out := [],
                     flash := ({ s.flash with rollbackMin := max s.flash.rollbackMin (s.flash.img s.flash.bootB).rollback,
                                              lastB := s.flash.bootB } : Flash).setImg s.flash.bootB { s.flash.img s.flash.bootB with state := 3 } }
      ∧ t.rd (Reg.ID_FW_STAT_STATE (if s.flash.bootB then 1 else 0)) = 3 ∧ Keeps s t fwFlds)

/-- Writing, committing and discarding the safety parameters. SAFE_PARAM_WRITE of an item within its range gives the
pending word its value and answers the pending copy's CRC, which it shows; SAFE_PARAM_COMMIT of a good pending set
under its CRC stays in execution, and under another CRC is answered TEST_FAILED with the right one; SAFE_PARAM_DISCARD
makes the pending copy the active set again; SAFE_PARAM_COMMIT_DONE makes the committed set the active one, locks the
island out, asserts STO and answers the CRC. (R508, R514, R515) -/
def Obligations.SafetyParameters : Prop :=
  (∀ (s : State) (r : Req) (p : Word) (o v : Nat), Ready s r Verb.TEST → s.safeParamRefusal = none →
      safeItem (p.toNat / 2 ^ 24) (p.toNat % 2 ^ 24) = some (o, v) →
    ∃ t, exec (.safeParamWrite r p) s = .next t
      ∧ Completed s t r Verb.TEST 0 Status.OK (beBytes 4 (t.rd Reg.SAFE_PARAM_PENDING_CRC)) s.stage
      ∧ t = { s with regs := t.regs, ses := t.ses, turn := r.session, canTx := t.canTx, out := t.out }
      ∧ t.word (0x0C000440 + o) = BitVec.ofNat 32 v ∧ t.rd Reg.SAFE_PARAM_PENDING_CRC = t.pendingCrc % 2 ^ 32
      ∧ (∀ k : Nat, k < 15 → 4 * k ≠ o → t.word (0x0C000440 + 4 * k) = s.word (0x0C000440 + 4 * k)) ∧ t.activeSet = s.activeSet
      ∧ Keeps s t ([wordFld (0x0C000440 + o), Reg.SAFE_PARAM_PENDING_CRC, Reg.SAFE_STAT_PARAM_PENDING, Reg.SAFE_STAT_PARAM_CRC]
          ++ sessionFlds r.session))
  ∧ (∀ (s : State) (r : Req) (p : Word) (x : Nat), Ready s r Verb.TEST → s.safeParamRefusal = some x →
    ∃ t, exec (.safeParamWrite r p) s = .next t ∧ Completed s t r Verb.TEST 0 x [] s.stage
      ∧ t = { s with regs := t.regs, ses := t.ses, turn := r.session, canTx := t.canTx, out := t.out } ∧ Keeps s t (sessionFlds r.session))
  ∧ (∀ (s : State) (r : Req) (p : Word), Ready s r Verb.TEST → s.safeParamRefusal = none → p.toNat = s.pendingCrc → s.pendingBad = false →
    ∃ t, exec (.safeParamCommit r p) s = .next t ∧ Started s t r Verb.TEST (.safeCommit s.pendingSet) s.stage
      ∧ t = { s with regs := t.regs, ses := t.ses, turn := r.session, out := [] } ∧ Keeps s t (sessionFlds r.session))
  ∧ (∀ (s : State) (r : Req) (p : Word), Ready s r Verb.TEST → s.safeParamRefusal = none → p.toNat ≠ s.pendingCrc →
    ∃ t, exec (.safeParamCommit r p) s = .next t ∧ Completed s t r Verb.TEST 0 Status.TEST_FAILED (beBytes 4 s.pendingCrc) s.stage
      ∧ t = { s with regs := t.regs, ses := t.ses, turn := r.session, canTx := t.canTx, out := t.out } ∧ Keeps s t (sessionFlds r.session))
  ∧ (∀ (s : State) (r : Req), Ready s r Verb.TEST → s.safeParamRefusal = none →
    ∃ t, exec (.safeParamDiscard r 0) s = .next t
      ∧ Completed s t r Verb.TEST 0 Status.OK (beBytes 4 (s.rd Reg.SAFE_PARAM_ACTIVE_CRC)) s.stage
      ∧ t = { s with regs := t.regs, ses := t.ses, turn := r.session, canTx := t.canTx, out := t.out }
      ∧ t.pendingSet = s.activeSet ∧ t.activeSet = s.activeSet ∧ t.rd Reg.SAFE_STAT_PARAM_PENDING = 0
      ∧ Keeps s t ((List.range 16).map (fun k => wordFld (0x0C000440 + 4 * k)) ++ [Reg.SAFE_STAT_PARAM_PENDING, Reg.SAFE_STAT_PARAM_CRC]
          ++ sessionFlds r.session))
  ∧ (∀ (s : State) (i : Fin 4) (b : BusyCmd) (l : List Word), Executes s i b → b.op = .safeCommit l → l.length = 16 →
      (∀ j : Fin 4, j < i → s.safeCommitOf j = none) →
    ∃ t, exec .safeParamCommitDone s = .next t ∧ Ended s t i b Status.OK (beBytes 4 (l.getD 15 0).toNat)
      ∧ t.activeSet = l ∧ t.rd Reg.SAFE_LOCK_LOCKED = 1 ∧ t.rd Reg.SAFE_STAT_STO = 1
      ∧ (s.rd Reg.SAFE_STAT_STO = 0 → t.drv.sto = true) ∧ (5, 0xFF) ∈ t.isl.causes ∧ t.mem = s.mem ∧ t.pol = s.pol)

/-- The loop engine's issue and its output handover. The issue of a stage evaluates the one enabled slot where the stage
has room for it beside the third evaluations left to it: its output, and the stage, stand in its image, and no slot
has overrun; where it has no room the slot overruns, its count and its output is as before. A second issue in a stage
does nothing. The handover makes the outputs of the enabled slots the output set of the stage, once a stage. (R288,
R289, R290, R295, R313) -/
def Obligations.LoopStage : Prop :=
  (∀ (s : State) (n : Nat), s.running = true → s.loop.issued ≠ some s.stage → s.issueOrder = [n] → s.takenFirst.length < s.issuePlaces →
    ∃ t, exec (.loopIssue [] []) s = .next t ∧ t.rd (Reg.LOOP_SLOT_STATE_OUT n) = (s.evalOf n).mem.out.toNat
      ∧ t.rd (Reg.LOOP_SLOT_STATE_EVAL_STAGE n) = s.stage32 ∧ t.rd (Reg.LOOP_SLOT_STATE_OVERRUN n) = 0 ∧ t.rd Reg.LOOP_STAT_EVALUATED = 1
      ∧ t.loop.issued = some s.stage ∧ t.loop.late = [] ∧ t.mem = s.mem ∧ t.flash = s.flash ∧ t.ses = s.ses)
  ∧ (∀ (s : State) (n : Nat), s.running = true → s.loop.issued ≠ some s.stage → s.issueOrder = [n] → s.issuePlaces = 0 →
    ∃ t, exec (.loopIssue [] []) s = .next t ∧ t.rd (Reg.LOOP_SLOT_STATE_OVERRUN n) = 1
      ∧ t.rd (Reg.LOOP_SLOT_STATE_OVERRUN_CNT n) = s.oneMore (Reg.LOOP_SLOT_STATE_OVERRUN_CNT n)
      ∧ t.rd (Reg.LOOP_SLOT_STATE_OUT n) = s.rd (Reg.LOOP_SLOT_STATE_OUT n) ∧ t.rd Reg.LOOP_STAT_EVALUATED = 0
      ∧ t.loop.issued = some s.stage ∧ t.loop.late = [n] ∧ t.mem = s.mem ∧ t.flash = s.flash ∧ t.ses = s.ses)
  ∧ (∀ (s : State) (m : List CheckMiss) (e : List EccHit), s.running = true → s.loop.issued = some s.stage →
    ∃ t, exec (.loopIssue m e) s = .next t ∧ t = { s with out := [] })
  ∧ (∀ s : State, s.running = true → s.loop.issued = some s.stage → s.loop.handed ≠ some s.stage →
    ∃ t, exec .loopOutputHandover s = .next t
      ∧ t = { s with out := [], loop := { s.loop with prev := s.loop.out, out := s.outputSet, handed := some s.stage } })
  ∧ (∀ s : State, s.running = true → s.loop.issued ≠ some s.stage ∨ s.loop.handed = some s.stage →
    ∃ t, exec .loopOutputHandover s = .next t ∧ t = { s with out := [] })

/-- The cell and drive back ends, the check of the drive's edge set, and the safe state. With the output set handed over
and EDGE at work, EDGE_COMPUTATION hands the waybills' fields over, records the margin, and orders in the next stage's
waybills the bypass of every active cell whose ledger names a cause. DRIVE_EDGE_SET sends the set of the next stage.
HVS places the edges of the set in force, applies a set that has arrived, with its gates on only while the driver is
enabled and no trip is held, and counts a missing one. A stopped EDGE clock, a debug halt in BLANK, and .HALT put the
module into the safe state with its cause, turn every gate off and bring an F3 fault up; whether the debug halt stops
EDGE too is a free value (log entry 74). (R254, R255, R275, R276, R281, R348, R585) -/
def Obligations.EdgesAndSafeState : Prop :=
  (∀ (s : State) (m : BitVec 16), s.running = true → s.loop.handed = some s.stage → s.edgeRuns = true →
    ∃ t, exec (.edgeComputation m) s = .next t ∧ t.rd Reg.MOD_STAT_CUT_MARGIN = m.toNat ∧ t.link.handedAt = some s.stage
      ∧ (∀ a c : Nat, a ∈ s.arms → c ∈ s.cellsOfArm a → s.bypassNow c = true →
          (t.cell c).wb.bypass = 0x5A ∧ (t.cell c).wb.mode = 1 ∧ (t.cell c).bypassAt = s.stage + 1)
      ∧ t.mem = s.mem ∧ t.flash = s.flash ∧ t.ses = s.ses)
  ∧ (∀ (s : State) (m : BitVec 16), s.running = true → s.loop.handed ≠ some s.stage ∨ s.edgeRuns = false →
    ∃ t, exec (.edgeComputation m) s = .next t ∧ t = { s with out := [] })
  ∧ (∀ s : State, s.running = true → s.edgeRuns = true →
    ∃ t, exec .driveEdgeSet s = .next t ∧ (∃ e, t.mod.sent = some e ∧ e.stage = s.stage + 1 ∧ e.boot = s.bootPulse ∧ e.levels = (List.range 7).map s.levelOf
        ∧ (e.gates = true ↔ s.rd Reg.MOD_DRV_STARTED = 1 ∧ s.rd Reg.MOD_STAT_SAFE = 0))
      ∧ t = { s with out := [], regs := t.regs, mod := { s.mod with drv := t.mod.drv, drvRan := t.mod.drvRan, sent := t.mod.sent } }
      ∧ Keeps s t ([3, 4].flatMap (fun g => [Reg.MOD_EVENTS_STRETCHED g, Reg.MOD_EVENTS_DROPPED g, Reg.MOD_EVENTS_REFRESHED g,
          Reg.MOD_EVENTS_BUDGET_DROP g])))
  ∧ (∀ s : State, s.running = true → s.edgeRuns = false → ∃ t, exec .driveEdgeSet s = .next t ∧ t = { s with out := [] })
  ∧ (∀ (s : State) (e : EdgeSet), s.running = true → s.mod.sent = some e → e.stage = s.stage + 1 →
    ∃ t, exec (.edgeSetCheck true) s = .next t ∧ t.mod.applied.inst = e.inst ∧ t.mod.applied.levels = e.levels
      ∧ t.mod.applied.gates = (e.gates && s.driverEnable && !s.tripHeld)
      ∧ t.rd Reg.MOD_DRV_HOLDING = 0 ∧ t.rd Reg.MOD_DRV_HOLD_COUNT = 0 ∧ t.rd Reg.MOD_DRV_LAST_SET_STAGE = e.stage % 2 ^ 32
      ∧ t.mod.applied.boot = (e.boot && s.driverEnable && !s.tripHeld) ∧ t.mod.gate = s.placeEdges.mod.gate
      ∧ t = { s with out := [], regs := t.regs, mod := { s.mod with sent := none, applied := t.mod.applied, gate := t.mod.gate },
                     drv := { s.drv with goodSets := s.drv.goodSets + 1 } }
      ∧ Keeps s t [Reg.MOD_DRV_HOLDING, Reg.MOD_DRV_HOLD_COUNT, Reg.MOD_DRV_LAST_SET_STAGE])
  ∧ (∀ s : State, s.running = true → s.rd Reg.MOD_DRV_HOLD_COUNT < 2 →
    ∃ t, exec (.edgeSetCheck false) s = .next t ∧ t.rd Reg.MOD_DRV_HOLDING = 1
      ∧ t.rd Reg.MOD_DRV_HOLD_COUNT = s.rd Reg.MOD_DRV_HOLD_COUNT + 1
      ∧ t.rd Reg.MOD_DRV_SETS_MISSING = s.oneMore Reg.MOD_DRV_SETS_MISSING
      ∧ t.mod.gate = s.placeEdges.mod.gate
      ∧ t = { s with out := [], regs := t.regs, mod := { s.mod with sent := none, gate := t.mod.gate }, drv := { s.drv with goodSets := 0 } }
      ∧ Keeps s t [Reg.MOD_DRV_HOLDING, Reg.MOD_DRV_HOLD_COUNT, Reg.MOD_DRV_SETS_MISSING])
  ∧ (∀ s : State, s.running = true → 2 ≤ s.rd Reg.MOD_DRV_HOLD_COUNT →
    ∃ t, exec (.edgeSetCheck false) s = .next t ∧ t.rd Reg.MOD_DRV_HOLDING = 0 ∧ t.rd Reg.MOD_DRV_HOLD_COUNT = 3
      ∧ t.mod.applied.gates = false ∧ t.mod.gate.on = 0 ∧ (s.driveActive = true → 0x0D51 ∈ t.drv.fresh ++ t.drv.atB ++ t.drv.reported)
      ∧ Keeps s t [Reg.MOD_DRV_HOLDING, Reg.MOD_DRV_HOLD_COUNT, Reg.MOD_DRV_SETS_MISSING])
  ∧ (∀ s : State, s.running = true →
    ∃ t, exec .edgeClockStopped s = .next t ∧ t.rd Reg.MOD_STAT_SAFE = 1 ∧ (s.rd Reg.MOD_STAT_SAFE = 0 → t.rd Reg.MOD_STAT_SAFE_CAUSE = 3)
      ∧ (s.f3Latched Code.EDGE_LOST = true ∨ FaultDue t Code.EDGE_LOST)
      ∧ t = { s with out := [], regs := t.regs, flt := { s.flt with pending := t.flt.pending },
                     mod := { s.mod with edgeStopped := true, sent := none, applied := { s.mod.applied with gates := false, boot := false }, gate := t.mod.gate } }
      ∧ t.mod.gate.on = 0
      ∧ Keeps s t [Reg.MOD_STAT_SAFE, Reg.MOD_STAT_SAFE_CAUSE])
  ∧ (∀ s : State, s.running = true → s.rd Reg.LC_STATE_STATE = 0 →
    ∃ t, exec .debugHalt s = .next t ∧ t.rd Reg.MOD_STAT_SAFE = 1 ∧ (s.rd Reg.MOD_STAT_SAFE = 0 → t.rd Reg.MOD_STAT_SAFE_CAUSE = 2)
      ∧ (s.f3Latched Code.MON_HALT = true ∨ FaultDue t Code.MON_HALT)
      ∧ t = { s with out := [], regs := t.regs, free := s.free + 1, flt := { s.flt with pending := t.flt.pending },
                     mod := { s.mod with halted := true, edgeHalted := t.mod.edgeHalted, sent := none,
                                         applied := { s.mod.applied with gates := false, boot := false }, gate := t.mod.gate } }
      ∧ t.mod.gate.on = 0 ∧ (s.mod.edgeHalted = true → t.mod.edgeHalted = true)
      ∧ Keeps s t [Reg.MOD_STAT_SAFE, Reg.MOD_STAT_SAFE_CAUSE])
  ∧ (∀ s : State, s.running = true → s.rd Reg.LC_STATE_STATE ≠ 0 → ∃ t, exec .debugHalt s = .next t ∧ t = { s with out := [] })
  ∧ (∀ s : State, s.running = true → s.recovery = false → s.mon.fill ≤ 60000 * 10000000000 →
    ∃ t, exec .monHalt s = .next t ∧ t.rd Reg.MOD_STAT_SAFE = 1 ∧ (s.rd Reg.MOD_STAT_SAFE = 0 → t.rd Reg.MOD_STAT_SAFE_CAUSE = 1)
      ∧ (s.f3Latched Code.MON_HALT = true ∨ FaultDue t Code.MON_HALT) ∧ Out.line (ascii ".OK " ++ decText (s.stage + 1)) ∈ t.out
      ∧ t = { s with out := t.out, regs := t.regs, mon := t.mon, flt := { s.flt with pending := t.flt.pending },
                     mod := { s.mod with sent := none, applied := { s.mod.applied with gates := false, boot := false }, gate := t.mod.gate } }
      ∧ t.mod.gate.on = 0 ∧ Keeps s t [Reg.MOD_STAT_SAFE, Reg.MOD_STAT_SAFE_CAUSE, Reg.CMD_MON_STAT_LOCK_IN_S])

/-- Claims, the grant, taking over and yielding. The loss of the partner's claim is noted; the hardware drops a claim
without handovers, and the grant with it; an undecided module claims once the partner's claim has been absent for 10
ms, or 50 ms if strapped SECOND, or leaves to join where the partner claims. The grant makes an undecided module, and
a porter that has claimed for a yield, keeper at the next boundary; a partner's claim takes the grant away, and SECOND
drops its own. A porter in the dark claims with cause 1, after a release that its self-check passed with cause 2. From
the grant it is keeper at the next boundary, without permits, with PAIR_LAST, SWITCHOVERS and F0 PAIR_PARTNER_LOST. In
the stage before a yield's boundary the keeper drops its claim, to be porter at the boundary, and the porter claims
with cause 3. (R459, R460, R472, R473, R474, R479, R489) -/
def Obligations.PairClaims : Prop :=
  (∀ s : State, s.running = true → ∃ t, exec .ilkClaimLoss s = .next t ∧ t = { s with out := [], duo := { s.duo with partner := false, absentNs := 0 } })
  ∧ (∀ s : State, s.running = true → s.duo.own = true → 2 ≤ s.duo.noHand →
    ∃ t, exec .claimHwDrop s = .next t ∧ t.mod.applied.gates = false
      ∧ t = { s with out := [], duo := { s.duo with own := false, grant := false, next := if s.duo.next = some Role.KEEPER then none else s.duo.next },
                     drv := { s.drv with grant := false }, mod := { s.mod with applied := t.mod.applied, gate := t.mod.gate } })
  ∧ (∀ s : State, s.running = true → s.duo.own = false ∨ s.duo.noHand < 2 →
    ∃ t, exec .claimHwDrop s = .next t ∧ t = { s with out := [] })
  ∧ (∀ s : State, s.running = true → s.paired = true → s.duo.role = Role.UNDECIDED → s.duo.own = false → s.ilkBank = true → s.duo.partner = false →
      (if s.second then 50000000 else 10000000) < s.duo.absentNs + s.tsNs →
    ∃ t, exec .claimDecision s = .next t ∧ t = { s with out := [], duo := { s.duo with own := true } })
  ∧ (∀ s : State, s.running = true → s.paired = true → s.duo.role = Role.UNDECIDED → s.duo.own = false → s.ilkBank = true → s.duo.partner = true →
    ∃ t, exec .claimDecision s = .next t ∧ t.duo.role = Role.OUT_OF_STEP ∧ t.duo.rejoin = true ∧ t.rd Reg.PAIR_PERMIT_PERMIT = 0
      ∧ t = { s with out := [], duo := t.duo, regs := t.regs } ∧ t.duo.own = false ∧ t.duo.grant = s.duo.grant
      ∧ Keeps s t (Reg.PAIR_PERMIT_PERMIT :: (List.range 24).map Reg.ROUTE_RUN_RELAY))
  ∧ (∀ s : State, s.running = true → s.duo.own = true → s.duo.partner = false → s.duo.grant = false → s.ilkBank = true →
      s.duo.role = Role.UNDECIDED →
    ∃ t, exec .keeperGrant s = .next t
      ∧ t = { s with out := [], duo := { s.duo with grant := true, next := some Role.KEEPER }, drv := { s.drv with grant := true },
                     mod := { s.mod with applied := t.mod.applied, gate := t.mod.gate } }
      ∧ (s.duo.cause ≠ 3 → (t.takeRole false).duo.role = Role.KEEPER))
  ∧ (∀ s : State, s.running = true → s.duo.own = true → s.duo.partner = false → s.duo.grant = false → s.ilkBank = true →
      s.duo.role = Role.PORTER → s.duo.cause = 3 →
    ∃ t, exec .keeperGrant s = .next t
      ∧ t = { s with out := [], duo := { s.duo with grant := true, next := some Role.KEEPER }, drv := { s.drv with grant := true },
                     mod := { s.mod with applied := t.mod.applied, gate := t.mod.gate } }
      ∧ (t.takeRole true).duo.role = Role.KEEPER ∧ (t.takeRole true).duo.inStep = true ∧ (t.takeRole true).rd Reg.PAIR_LAST_CAUSE = 3
      ∧ (t.takeRole true).rd Reg.PAIR_LAST_MISSED = 0 ∧ (t.takeRole true).rd Reg.PAIR_LAST_STAGE = s.stage32
      ∧ (t.takeRole true).rd Reg.PAIR_EVENTS_SWITCHOVERS = s.oneMore Reg.PAIR_EVENTS_SWITCHOVERS
      ∧ Keeps s (t.takeRole true) ([Reg.PAIR_LAST_CAUSE, Reg.PAIR_LAST_MISSED, Reg.PAIR_LAST_STAGE, Reg.PAIR_EVENTS_SWITCHOVERS] ++ journalFlds))
  ∧ (∀ s : State, s.running = true → s.duo.own = false ∨ s.duo.partner = true ∨ s.duo.grant = true ∨ s.ilkBank = false →
    ∃ t, exec .keeperGrant s = .next t ∧ t = { s with out := [] })
  ∧ (∀ s : State, s.running = true → s.ilkBank = true → s.paired = true → s.duo.own = true → s.second = true →
    ∃ t, exec .partnerClaimPresent s = .next t ∧ t.duo.partner = true ∧ t.duo.own = false ∧ t.duo.grant = false ∧ t.drv.grant = false
      ∧ t.duo.role = Role.OUT_OF_STEP ∧ t.mod.applied.gates = false ∧ t.rd Reg.PAIR_PERMIT_PERMIT = 0)
  ∧ (∀ s : State, s.running = true → s.ilkBank = true → s.paired = true → s.second = false →
    ∃ t, exec .partnerClaimPresent s = .next t ∧ t.mod.applied.gates = false
      ∧ t = { s with out := [], duo := { s.duo with partner := true, grant := false, absentNs := 0, next := if s.duo.next = some Role.KEEPER then none else s.duo.next },
                     drv := { s.drv with grant := false }, mod := { s.mod with applied := t.mod.applied, gate := t.mod.gate } })
  ∧ (∀ s : State, s.running = true → s.ilkBank = true → s.paired = false →
    ∃ t, exec .partnerClaimPresent s = .next t ∧ t.duo.partner = true ∧ FaultDue t Code.PAIR_ILK_DISAGREE ∧ t.regs = s.regs)
  ∧ (∀ s : State, s.running = true → s.paired = true → s.rd Reg.PAIR_CFG_TAKEOVER_EN = 1 → s.duo.own = false → s.ilkBank = true →
      s.duo.role = Role.PORTER → s.duo.partner = false → s.pairDark = true →
    ∃ t, exec .takeoverClaim s = .next t ∧ t = { s with out := [], duo := { s.duo with own := true, cause := 1 } })
  ∧ (∀ s : State, s.running = true → s.paired = true → s.rd Reg.PAIR_CFG_TAKEOVER_EN = 1 → s.duo.own = false → s.ilkBank = true →
      s.duo.role = Role.PORTER → s.duo.partner = false → s.pairDark = false → s.duo.pFlags / 2 ^ 31 % 2 = 1 → s.loop.selfOk = some true →
    ∃ t, exec .takeoverClaim s = .next t ∧ t = { s with out := [], duo := { s.duo with own := true, cause := 2 } })
  ∧ (∀ (s : State) (m : Byte), s.running = true → s.duo.grant = true → s.duo.role = Role.PORTER → s.duo.cause = 1 ∨ s.duo.cause = 2 →
      s.duo.next = none → s.duo.latchAt = some s.stage → (∀ p ∈ s.link.parcels, p.1 < 512) →
    ∃ t, exec (.takeover m) s = .next t ∧ t.duo.role = Role.PORTER ∧ t.duo.next = some Role.KEEPER
      ∧ (t.takeRole false).duo.role = Role.KEEPER ∧ t.duo.grant = true ∧ t.duo.inStep = false
      ∧ t.rd Reg.PAIR_PERMIT_PERMIT = 0 ∧ t.rd Reg.PAIR_LAST_CAUSE = s.duo.cause ∧ t.rd Reg.PAIR_LAST_MISSED = m.toNat
      ∧ t.rd Reg.PAIR_LAST_STAGE = s.stage32 ∧ t.rd Reg.PAIR_EVENTS_SWITCHOVERS = s.oneMore Reg.PAIR_EVENTS_SWITCHOVERS
      ∧ FaultDue t Code.PAIR_PARTNER_LOST ∧ t.flt.trigger = true)
  ∧ (∀ s : State, s.running = true → s.duo.role = Role.KEEPER → s.duo.yieldAt = some ((s.stage + 1) % 2 ^ 32) →
    ∃ t, exec .yieldHandover s = .next t ∧ t.mod.applied.gates = false
      ∧ t = { s with out := [], duo := { s.duo with own := false, grant := false, next := some Role.PORTER }, drv := { s.drv with grant := false },
                     mod := { s.mod with applied := t.mod.applied, gate := t.mod.gate } }
      ∧ (t.takeRole true).duo.role = Role.PORTER ∧ (t.takeRole true).rd Reg.PAIR_LAST_CAUSE = 3 ∧ (t.takeRole true).rd Reg.PAIR_LAST_MISSED = 0
      ∧ (t.takeRole true).rd Reg.PAIR_LAST_STAGE = s.stage32 ∧ (t.takeRole true).rd Reg.PAIR_STAT_STEP_STAGE = s.stage32
      ∧ (t.takeRole true).rd Reg.PAIR_EVENTS_SWITCHOVERS = s.oneMore Reg.PAIR_EVENTS_SWITCHOVERS
      ∧ (t.takeRole true).flt = { s.flt with queue := s.queueEvent Ev.PAIR_YIELD })
  ∧ (∀ s : State, s.running = true → s.duo.role = Role.PORTER → s.duo.pFlags / 2 ^ 30 % 2 = 1 → s.duo.pYieldAt = (s.stage + 1) % 2 ^ 32 →
      s.ilkBank = true →
    ∃ t, exec .yieldHandover s = .next t ∧ t = { s with out := [], duo := { s.duo with own := true, cause := 3 } })

/-- Frames, digests, self-checks and joining of a pair. A frame's launch advances the heartbeat and sends the frame on
both links; a frame with a good CTRL record leaves what CTRL says, and at a porter its permits; its invalid blocks and
failed codes are counted at a link that is locked, and at no other anything comes. The porter latches its mirrored set
once a stage and counts one that is not whole. Missing digests take a porter out of step and a keeper's permits away.
A self-check decides who stays. Joining goes through its steps: a step that fails leaves out of step with F0
PAIR_JOIN_FAILED, and J5 with 64 equal digests makes the module porter. (R461, R462, R463, R465, R466, R470, R471,
R477, R478) -/
def Obligations.PairStepsAndFrames : Prop :=
  (∀ s : State, s.running = true → s.paired = true → s.duo.role ≠ Role.KEEPER →
    ∃ t, exec .pairFrameLaunch s = .next t
      ∧ t = { s with duo := { s.duo with beat := (s.duo.beat + 1) % 2 ^ 32 }, out := t.out }
      ∧ t.out = [.pairPart 48 (t.porterFrame false), .pairPart 49 (t.porterFrame true)])
  ∧ (∀ s : State, s.running = true → s.paired = true → s.duo.role = Role.KEEPER → s.duo.release = false →
    ∃ t, exec .pairFrameLaunch s = .next t ∧ t = { s with duo := t.duo, ses := t.ses, out := t.out }
      ∧ (∀ i : Fin 4, t.sess i = { s.sess i with tell := [] })
      ∧ t.duo.beat = (s.duo.beat + 1) % 2 ^ 32 ∧ t.duo.cmds = []
      ∧ ∃ a b : List Byte, t.out = [.pairPart 48 a, .pairPart 49 b] ∧ t.duo.sent = some (s.stage + 1, a, b))
  ∧ (∀ s : State, s.running = true → s.paired = true → s.duo.role = Role.KEEPER → s.duo.release = true →
    ∃ t, exec .pairFrameLaunch s = .next t ∧ t.duo.role = Role.OUT_OF_STEP ∧ t.duo.release = false ∧ t.rd Reg.PAIR_PERMIT_PERMIT = 0)
  ∧ (∀ (s : State) (b : Bool) (bs c : List Byte) (n : Word) (k : BitVec 16), s.running = true → s.paired = true → s.duo.role = Role.KEEPER →
      s.rd (Reg.LANE_STAT_LOCKED (if b then 49 else 48)) = 1 → frameRecords 5 b bs = [(1, c)] →
    ∃ t, exec (.porterFrameReceived b ⟨bs, k⟩ n) s = .next t ∧ t.rd Reg.PAIR_STAT_PARTNER_SERIAL_LO = n.toNat
      ∧ t = { s with out := [], regs := t.regs, seen := t.seen, link := { s.link with partnerLocked := beAt c 20 4, routes := t.link.routes },
                     duo := { s.duo with pStage := beAt c 0 6, pFlags := beAt c 8 4, pYieldAt := beAt c 12 4, pFirm := beAt c 24 4,
                                         pConfig := beAt c 28 4, ctrlAt := some s.stage } }
      ∧ (s.link.partnerLocked = beAt c 20 4 → t.link.routes = s.link.routes ∧ t.seen = s.seen)
      ∧ t.rd (Reg.LANE_CNT_HEADER_ERR (if b then 49 else 48))
          = min (s.rd (Reg.LANE_CNT_HEADER_ERR (if b then 49 else 48)) + k.toNat) (Reg.LANE_CNT_HEADER_ERR (if b then 49 else 48)).top
      ∧ Keeps s t ([Reg.PAIR_STAT_PARTNER_SERIAL_LO, Reg.LANE_CNT_HEADER_ERR (if b then 49 else 48), Reg.LANE_CNT_CRC_ERR (if b then 49 else 48)]
          ++ (List.range 24).flatMap s.routeFlds))
  ∧ (∀ (s : State) (b : Bool) (bs c : List Byte) (src : Source) (n : Word) (k : BitVec 16), s.running = true → s.paired = true → s.duo.role = Role.PORTER →
      s.rd (Reg.LANE_STAT_LOCKED (if b then 49 else 48)) = 1 → frameRecords 4 b bs = [(1, c)] →
      s.duo.set.seq ≠ beAt bs 2 2 →
    ∃ t, exec (.keeperFrameReceived b ⟨bs, k⟩ [] src n) s = .next t ∧ t.rd Reg.PAIR_STAT_PARTNER_SERIAL_LO = n.toNat
      ∧ t.duo.pStage = beAt c 0 6 ∧ t.duo.pFlags = beAt c 8 4 ∧ t.duo.pYieldAt = beAt c 12 4 ∧ t.duo.ctrlAt = some s.stage
      ∧ t.rd Reg.PAIR_PERMIT_PERMIT = beAt c 16 4 % 2 ^ 24
      ∧ Keeps s t ([Reg.PAIR_STAT_PARTNER_SERIAL_LO, Reg.PAIR_PERMIT_PERMIT, Reg.LANE_CNT_HEADER_ERR (if b then 49 else 48),
          Reg.LANE_CNT_CRC_ERR (if b then 49 else 48)] ++ (List.range 24).map Reg.ROUTE_RUN_RELAY ++ (List.range 24).flatMap s.routeFlds))
  ∧ (∀ (s : State) (b : Bool) (bs : List Byte) (n : Word) (k : BitVec 16), s.running = true → s.pairHears b = true → frameRecords 5 b bs = [] →
    ∃ t, exec (.porterFrameReceived b ⟨bs, k⟩ n) s = .next t ∧ t = { s with out := [], regs := t.regs }
      ∧ t.rd (Reg.LANE_CNT_CRC_ERR (if b then 49 else 48))
          = min (s.rd (Reg.LANE_CNT_CRC_ERR (if b then 49 else 48)) + badCodes 5 b bs) (Reg.LANE_CNT_CRC_ERR (if b then 49 else 48)).top
      ∧ t.rd (Reg.LANE_CNT_HEADER_ERR (if b then 49 else 48))
          = min (s.rd (Reg.LANE_CNT_HEADER_ERR (if b then 49 else 48)) + k.toNat) (Reg.LANE_CNT_HEADER_ERR (if b then 49 else 48)).top
      ∧ Keeps s t [Reg.LANE_CNT_HEADER_ERR (if b then 49 else 48), Reg.LANE_CNT_CRC_ERR (if b then 49 else 48)])
  ∧ (∀ (s : State) (b : Bool) (bs : List Byte) (n : Word) (k : BitVec 16), s.running = true → s.pairHears b = false →
    ∃ t, exec (.porterFrameReceived b ⟨bs, k⟩ n) s = .next t ∧ t = { s with out := [] })
  ∧ (∀ s : State, s.running = true → s.duo.role = Role.PORTER → s.duo.latchAt = some s.stage →
    ∃ t, exec .porterLatch s = .next t ∧ t = { s with out := [] })
  ∧ (∀ s : State, s.running = true → s.duo.role = Role.PORTER → s.duo.latchAt ≠ some s.stage → s.duo.set.cutA = none →
      s.rd Reg.ROUTE_TABLE_TOTAL_CELLS = 0 → s.duo.set.meas = [] → s.duo.set.hvsNow = none → s.duo.set.frames = [] → s.duo.set.faults = [] →
    ∃ t, exec .porterLatch s = .next t ∧ t.rd Reg.PAIR_EVENTS_SET_MISSING = s.oneMore Reg.PAIR_EVENTS_SET_MISSING
      ∧ t.duo.latchAt = some s.stage ∧ t.link.cutAt = some (s.stage - 1) ∧ t.meas.cutAt = some (s.stage - 1))
  ∧ (∀ s : State, s.running = true → s.duo.role = Role.PORTER → 2 ≤ s.stage → (s.stage - 1) ∉ s.duo.pDigests → (s.stage - 2) ∉ s.duo.pDigests →
    ∃ t, exec .digestMissing s = .next t ∧ t.duo.role = Role.OUT_OF_STEP ∧ t.rd Reg.PAIR_PERMIT_PERMIT = 0
      ∧ t = { s with out := [], duo := t.duo, regs := t.regs })
  ∧ (∀ s : State, s.running = true → s.duo.role = Role.KEEPER → s.duo.inStep = true → 2 ≤ s.stage → (s.stage - 1) ∉ s.duo.pDigests →
      (s.stage - 2) ∉ s.duo.pDigests →
    ∃ t, exec .digestMissing s = .next t ∧ t.rd Reg.PAIR_PERMIT_PERMIT = 0
      ∧ t = { s with out := [], duo := { s.duo with inStep := false, equal := 0 }, regs := t.regs })
  ∧ (∀ s : State, s.running = true → s.duo.check = true → s.loop.selfOk = some true → s.duo.role = Role.KEEPER → s.duo.inStep = true →
      s.duo.pCheck = some true →
    ∃ t, exec .selfcheckOutcome s = .next t ∧ t.duo.role = Role.KEEPER ∧ t.duo.inStep = false ∧ t.duo.check = false
      ∧ t.rd Reg.PAIR_PERMIT_PERMIT = 0 ∧ FaultDue t Code.PAIR_MISMATCH_UNRESOLVED)
  ∧ (∀ s : State, s.running = true → s.duo.check = true → s.loop.selfOk = some false → s.duo.role = Role.KEEPER → s.duo.inStep = true →
      s.duo.pCheck = some true →
    ∃ t, exec .selfcheckOutcome s = .next t ∧ t.duo.own = false ∧ t.duo.grant = false ∧ t.duo.release = true ∧ t.mod.applied.gates = false
      ∧ t.rd Reg.PAIR_EVENTS_SELFCHECK_FAIL = s.oneMore Reg.PAIR_EVENTS_SELFCHECK_FAIL ∧ Keeps s t [Reg.PAIR_EVENTS_SELFCHECK_FAIL])
  ∧ (∀ s : State, s.running = true → s.duo.check = true → s.loop.selfOk = some false → s.duo.role = Role.PORTER →
    ∃ t, exec .selfcheckOutcome s = .next t ∧ t.duo.role = Role.OUT_OF_STEP ∧ FaultDue t Code.PAIR_PORTER_FAILED
      ∧ t.rd Reg.PAIR_EVENTS_SELFCHECK_FAIL = s.oneMore Reg.PAIR_EVENTS_SELFCHECK_FAIL)
  ∧ (∀ s : State, s.running = true → s.paired = true → s.ilkBank = true → s.duo.role = Role.OUT_OF_STEP → s.duo.rejoin = true →
    ∃ t, exec .joinStart s = .next t ∧ t.rd Reg.CLK_LANE_REF_SOURCE = (if s.rd (Reg.LANE_STAT_LOCKED 48) = 1 then 1 else 2)
      ∧ t = { s with out := [], duo := { s.duo with role := Role.JOINING, step := 1, stepN := 0, equal := 0, rejoin := false }, regs := t.regs,
                     clk := { s.clk with laneBack := none } }
      ∧ Keeps s t [Reg.CLK_LANE_REF_SOURCE])
  ∧ (∀ s : State, s.running = true → s.paired = true → s.ilkBank = true → s.duo.role = Role.OUT_OF_STEP → s.rd Reg.PAIR_CFG_JOIN_AUTO = 1 →
      s.rd Reg.PAIR_CFG_RETRY_S * 1000000000 < s.duo.outNs + s.tsNs →
    ∃ t, exec .joinRetry s = .next t ∧ t.rd Reg.CLK_LANE_REF_SOURCE = (if s.rd (Reg.LANE_STAT_LOCKED 48) = 1 then 1 else 2)
      ∧ t = { s with out := [], duo := { s.duo with role := Role.JOINING, step := 1, stepN := 0, equal := 0, rejoin := false }, regs := t.regs,
                     clk := { s.clk with laneBack := none } }
      ∧ Keeps s t [Reg.CLK_LANE_REF_SOURCE])
  ∧ (∀ (s : State) (d : BitVec 16) (x : BitVec 4) (l : List (Word × Word)), s.running = true → s.duo.role = Role.JOINING →
    ∃ t, exec (.joinStep false d x l) s = .next t ∧ t.duo.role = Role.OUT_OF_STEP ∧ FaultDue t Code.PAIR_JOIN_FAILED
      ∧ t.rd Reg.PAIR_PERMIT_PERMIT = 0)
  ∧ (∀ (s : State) (d : BitVec 16) (x : BitVec 4) (l : List (Word × Word)), s.running = true → s.duo.role = Role.JOINING →
      joinBound s.duo.step < s.duo.stepN →
    ∃ t, exec (.joinStep true d x l) s = .next t ∧ t.duo.role = Role.OUT_OF_STEP ∧ FaultDue t Code.PAIR_JOIN_FAILED
      ∧ t.rd Reg.PAIR_PERMIT_PERMIT = 0)
  ∧ (∀ (s : State) (d : BitVec 16) (x : BitVec 4) (l : List (Word × Word)), s.running = true → s.duo.role = Role.JOINING → s.duo.step = 2 → s.duo.stepN ≤ 100 →
    ∃ t, exec (.joinStep true d x l) s = .next t ∧ t.rd Reg.PAIR_STAT_PAIR_DELAY = d.toNat ∧ t.rd Reg.PAIR_STAT_DELTA = x.toNat
      ∧ t.stage = s.duo.pStage % 2 ^ 48 ∧ t = { s with out := [], regs := t.regs, duo := { s.duo with step := 3, stepN := 0 } }
      ∧ Keeps s t [Reg.PAIR_STAT_PAIR_DELAY, Reg.PAIR_STAT_DELTA, Reg.CLK_STAGE_COUNT_COUNT_HI, Reg.CLK_STAGE_COUNT_COUNT_LO])
  ∧ (∀ (s : State) (d : BitVec 16) (x : BitVec 4) (l : List (Word × Word)), s.running = true → s.duo.role = Role.JOINING → s.duo.step = 5 →
      s.duo.equal = 64 → s.duo.stepN ≤ 64 →
    ∃ t, exec (.joinStep true d x l) s = .next t ∧ t.rd Reg.PAIR_STAT_STEP_STAGE = s.stage32
      ∧ t.rd Reg.PAIR_EVENTS_JOINS = s.oneMore Reg.PAIR_EVENTS_JOINS
      ∧ t = { s with out := [], regs := t.regs, duo := { s.duo with role := Role.PORTER, step := 0 },
                     flt := { s.flt with queue := s.queueEvent Ev.PAIR_JOINED } }
      ∧ Keeps s t ([Reg.PAIR_STAT_STEP_STAGE, Reg.PAIR_EVENTS_JOINS] ++ journalFlds))

/-- The safety island's cycle, STO, lock-outs and the controller link. While the island has not started nothing happens to
it. After a cycle STO is asserted exactly while something holds it, and the outputs are allowed exactly while it is
not and no SS1 delay runs; a failing self-check locks the island out with every output off. A reset operation of 30 s
ago, the end of the SS1 delay, a test pulse in its cycle, a feedback mismatch of 200 ms, and the messages, the loss
and the return of the controller link have the effects that their rules give. A start of the island asserts STO and
makes the pending parameters the active ones; its watchdog, and a program memory that fails its CRC, lock it out.
(R492, R497, R498, R499, R500, R505, R507, R508, R511) -/
def Obligations.SafetyIsland : Prop :=
  (∀ (s : State) (c : CycleIn) (j : Fin 4) (a b : Bool) (i : IslandIn), s.isl.started = false →
    exec (.safetyCycle c) s = .next { s with out := [] } ∧ exec .resetValidityExpiry s = .next { s with out := [] }
      ∧ exec .ss1DelayEnd s = .next { s with out := [] } ∧ exec (.outputTestPulse j a b) s = .next { s with out := [] }
      ∧ exec (.feedbackMismatch j) s = .next { s with out := [] } ∧ exec .controllerLinkLoss s = .next { s with out := [] }
      ∧ exec (.islandWatchdog i) s = .next { s with out := [] } ∧ exec (.programCrcCheck a) s = .next { s with out := [] })
  ∧ (∀ (s : State) (c : CycleIn), s.isl.started = true →
    ∃ t, exec (.safetyCycle c) s = .next t
      ∧ (t.rd Reg.SAFE_STAT_STO = 1 ↔ t.stoHeld = true ∨ t.isl.linkHeld = false)
      ∧ (t.rd Reg.SAFE_STAT_OUT_ALLOWED = 1 ↔ t.rd Reg.SAFE_STAT_STO = 0 ∧ t.isl.ss1 = none)
      ∧ t = { s with out := [], regs := t.regs, isl := t.isl, drv := { s.drv with sto := t.drv.sto },
                     mod := { s.mod with applied := t.mod.applied, gate := t.mod.gate }, free := t.free }
      ∧ KeepsOutside s t [(0x0C000000, 0x0C000490)])
  ∧ (∀ (s : State) (c : CycleIn), s.isl.started = true → c.check = false → (∀ x ∈ s.isl.causes, x.1 ≠ 4) →
    ∃ t, exec (.safetyCycle c) s = .next t ∧ t.rd Reg.SAFE_LOCK_LOCKED = 1 ∧ t.rd Reg.SAFE_STAT_STO = 1
      ∧ (4, 0xFF) ∈ t.isl.causes ∧ ∀ j : Fin 4, t.rd (Reg.SAFE_OUT_ON j) = 0)
  ∧ (∀ s : State, s.isl.started = true → s.isl.validN < 119999 → ∃ t, exec .resetValidityExpiry s = .next t ∧ t = { s with out := [] })
  ∧ (∀ s : State, s.isl.started = true → 119999 ≤ s.isl.validN →
    ∃ t, exec .resetValidityExpiry s = .next t ∧ t.rd Reg.SAFE_STAT_RESET_VALID = 0 ∧ t = { s with out := [], regs := t.regs }
      ∧ Keeps s t [Reg.SAFE_STAT_RESET_VALID])
  ∧ (∀ (s : State) (n : Nat), s.isl.started = true → s.isl.ss1 = some n → n ≤ 1 →
    ∃ t, exec .ss1DelayEnd s = .next t ∧ t.isl.ss1 = none ∧ t.rd Reg.SAFE_STAT_STO = 1 ∧ t.rd Reg.SAFE_STAT_OUT_ALLOWED = 0
      ∧ t.drv.sto = true ∧ t.mod.applied.gates = false
      ∧ t = { s with out := [], regs := t.regs, isl := t.isl, drv := { s.drv with sto := true },
                     mod := { s.mod with applied := t.mod.applied, gate := t.mod.gate } })
  ∧ (∀ (s : State) (j : Fin 4) (low next : Bool), s.isl.started = true → s.rd (Reg.SAFE_OUT_ON j) = 1 → (s.outp j).pulse = none →
      s.isl.cycle = 20 * j.val → s.rd (Reg.SAFE_OUT_LAST_TEST j) ≠ 3 ∨ 80 ≤ (s.outp j).since →
    ∃ t, exec (.outputTestPulse j low next) s = .next t ∧ t.rd (Reg.SAFE_OUT_TESTS j) = s.oneMore (Reg.SAFE_OUT_TESTS j)
      ∧ (t.outp j).pulse = some (low, next) ∧ (∀ k : Fin 4, k ≠ j → t.outp k = s.outp k)
      ∧ t = { s with out := [], regs := t.regs, isl := { s.isl with outs := t.isl.outs } } ∧ Keeps s t [Reg.SAFE_OUT_TESTS j])
  ∧ (∀ (s : State) (j : Fin 4), s.isl.started = true → s.rd (Reg.SAFE_PARAM_ACTIVE_OUT_FB_EN j) = 1 → s.rd (Reg.SAFE_OUT_FB_OK j) = 0 →
      (s.outp j).faulted = false → 796 ≤ (s.outp j).mis → 796 ≤ (s.outp j).since →
    ∃ t, exec (.feedbackMismatch j) s = .next t ∧ t.rd Reg.SAFE_LOCK_LOCKED = 1
      ∧ t.rd Reg.SAFE_LOCK_LOCK_COUNT = s.oneMore Reg.SAFE_LOCK_LOCK_COUNT ∧ (3, j.val) ∈ t.isl.causes
      ∧ (s.rd Reg.SAFE_LOCK_LOCKED = 0 → t.rd Reg.SAFE_LOCK_CAUSE = 3 ∧ t.rd Reg.SAFE_LOCK_SUBJECT = j.val)
      ∧ t.rd Reg.SAFE_STAT_STO = 1 ∧ t.rd Reg.SAFE_STAT_OUT_ALLOWED = 0 ∧ (∀ k : Fin 4, t.rd (Reg.SAFE_OUT_ON k) = 0)
      ∧ KeepsOutside s t [(0x0C000000, 0x0C000490)])
  ∧ (∀ s : State, s.running = true → s.isl.started = true →
    ∃ t, exec .controllerMessage s = .next t ∧ t.rd Reg.SAFE_STAT_CTRL_LINK = 1
      ∧ (t.isl.reqMain = true ↔ s.rd Reg.POL_STATE_BREAKER_REQ = 1) ∧ (t.isl.reqPre = true ↔ s.rd Reg.POL_STATE_PRECHARGE_REQ = 1)
      ∧ t = { s with out := [], regs := t.regs,
                     isl := { s.isl with reqMain := t.isl.reqMain, reqPre := t.isl.reqPre, msgStage := s.stage32, quiet := 0, up := t.isl.up } }
      ∧ Keeps s t [Reg.SAFE_STAT_CTRL_LINK])
  ∧ (∀ s : State, s.isl.started = true → s.rd Reg.SAFE_STAT_CTRL_LINK = 1 → 3 ≤ s.isl.quiet →
    ∃ t, exec .controllerLinkLoss s = .next t ∧ t.rd Reg.SAFE_STAT_CTRL_LINK = 0
      ∧ t.rd Reg.SAFE_EVENTS_CTRL_LOSSES = s.oneMore Reg.SAFE_EVENTS_CTRL_LOSSES ∧ t.rd Reg.SAFE_STAT_STO = 1
      ∧ t.rd Reg.SAFE_STAT_OUT_ALLOWED = 0 ∧ t.isl.linkHeld = false ∧ t.isl.reqMain = false ∧ t.isl.reqPre = false
      ∧ KeepsOutside s t [(0x0C000000, 0x0C000490)])
  ∧ (∀ s : State, s.isl.started = true → s.rd Reg.SAFE_STAT_CTRL_LINK = 1 → 39 ≤ s.isl.up →
    ∃ t, exec .controllerLinkRestore s = .next t ∧ t = { s with out := [], isl := { s.isl with linkHeld := true } })
  ∧ (∀ (s : State) (i : IslandIn), s.isl.started = false → s.power.region ≠ .off → i.check = true → i.paramOk = true →
    ∃ t, exec (.islandStart i) s = .next t ∧ t.isl.started = true ∧ t.rd Reg.SAFE_STAT_STO = 1 ∧ t.rd Reg.SAFE_STAT_OUT_ALLOWED = 0
      ∧ t.drv.sto = true ∧ t.pendingSet = s.activeSet ∧ t.activeSet = s.activeSet
      ∧ t.rd Reg.SAFE_LOCK_LOCKED = s.rd Reg.SAFE_LOCK_LOCKED ∧ KeepsOutside s t [(0x0C000000, 0x0C000490)])
  ∧ (∀ (s : State) (i : IslandIn), s.isl.started = true →
    ∃ t, exec (.islandWatchdog i) s = .next t ∧ t.isl.started = true ∧ t.rd Reg.SAFE_LOCK_LOCKED = 1 ∧ t.rd Reg.SAFE_STAT_STO = 1
      ∧ (s.rd Reg.SAFE_LOCK_LOCKED = 0 → i.paramOk = true → t.rd Reg.SAFE_LOCK_CAUSE = 4)
      ∧ KeepsOutside s t [(0x0C000000, 0x0C000490)])
  ∧ (∀ s : State, s.isl.started = true → (∀ x ∈ s.isl.causes, x.1 ≠ 4) →
    ∃ t, exec (.programCrcCheck false) s = .next t ∧ t.rd Reg.SAFE_LOCK_LOCKED = 1 ∧ t.rd Reg.SAFE_STAT_STO = 1
      ∧ t.rd Reg.SAFE_LOCK_LOCK_COUNT = s.oneMore Reg.SAFE_LOCK_LOCK_COUNT ∧ KeepsOutside s t [(0x0C000000, 0x0C000490)])
  ∧ (∀ s : State, s.isl.started = true → ∃ t, exec (.programCrcCheck true) s = .next t ∧ t = { s with out := [] })

/-- Ethernet links, frames, next hops, the management interface, timed frames and telegrams. A link that comes up is
shown, asks by ARP for its own address and starts PTP on its port; one that goes down is counted and its port stops. A
frame with a bad check sequence, or one the port does not accept, is counted; an ARP request for the port's address
and an ICMP echo request to it are answered. An unresolved next hop is asked for again after 1 s, a resolved one
renewed after 60 s, and removed after the third failure. A management cycle's end clears BUSY and stores what a read
has read; before the bank is classified a read stores an open value. A timed frame starts in the stage of its instant,
unless it is late. A telegram goes at its instant to its resolved next hop and is counted, or is skipped while its
link is down. (R524, R525, R527, R528, R530, R531, R532) -/
def Obligations.EthernetPorts : Prop :=
  (∀ (s : State) (p : Fin 2) (bad rf : Bool), s.running = true → s.rd (Reg.ETH_CFG_EN p) = 1 → s.rd (Reg.ETH_STAT_LINK p) = 0 →
      s.rd Reg.CLK_STAT_LOCKED / 4 % 2 = 1 → bad = false ∨ s.rd (Reg.ETH_CFG_AN_EN p) = 0 ∨ s.rd (Reg.ETH_CFG_MODE p) ≠ 1 →
    ∃ t, exec (.ethLinkUp p bad rf) s = .next t ∧ t.rd (Reg.ETH_STAT_LINK p) = 1 ∧ t.rd (Reg.ETH_STAT_SPEED_BAD p) = 0
      ∧ t.rd (Reg.ETH_STAT_AN_DONE p) = s.rd (Reg.ETH_CFG_AN_EN p) ∧ t.rd (Reg.ETH_STAT_REMOTE_FAULT p) = (if rf then 1 else 0)
      ∧ t.rd (Reg.PTP_PORT_STATE p) = (if t.ptpOn p then 4 else 3) ∧ t.rd (Reg.ETH_STAT_TX_FRAMES p) = s.oneMore (Reg.ETH_STAT_TX_FRAMES p)
      ∧ t = { s with out := [s.tagOut p (.arp p false broadcastMac (s.ethIp p) (s.ethIp p))], regs := t.regs, net := t.net }
      ∧ Keeps s t [Reg.ETH_STAT_LINK p, Reg.ETH_STAT_SPEED_BAD p, Reg.ETH_STAT_AN_DONE p, Reg.ETH_STAT_REMOTE_FAULT p,
                   Reg.ETH_STAT_TX_FRAMES p, Reg.PTP_PORT_STATE p])
  ∧ (∀ (s : State) (p : Fin 2) (rf : Bool), s.running = true → s.rd (Reg.ETH_CFG_EN p) = 1 → s.rd (Reg.ETH_STAT_LINK p) = 0 →
      s.rd Reg.CLK_STAT_LOCKED / 4 % 2 = 1 → s.rd (Reg.ETH_CFG_AN_EN p) = 1 → s.rd (Reg.ETH_CFG_MODE p) = 1 →
    ∃ t, exec (.ethLinkUp p true rf) s = .next t ∧ t.rd (Reg.ETH_STAT_LINK p) = 0 ∧ t.rd (Reg.ETH_STAT_SPEED_BAD p) = 1
      ∧ t = { s with out := [], regs := t.regs } ∧ Keeps s t [Reg.ETH_STAT_SPEED_BAD p, Reg.ETH_STAT_REMOTE_FAULT p])
  ∧ (∀ (s : State) (p : Fin 2), s.running = true → s.rd (Reg.ETH_STAT_LINK p) = 1 →
    ∃ t, exec (.ethLinkDown p) s = .next t ∧ t.rd (Reg.ETH_STAT_LINK p) = 0 ∧ t.rd (Reg.ETH_STAT_AN_DONE p) = 0
      ∧ t.rd (Reg.ETH_STAT_LINK_DOWNS p) = s.oneMore (Reg.ETH_STAT_LINK_DOWNS p) ∧ t.rd (Reg.PTP_PORT_STATE p) = 3
      ∧ (t.ethRun p).timed = [] ∧ (8 ≤ s.rd (Reg.PTP_PORT_STATE p) → t.net.ptp.parent = none)
      ∧ t = { s with out := [], regs := t.regs, net := t.net })
  ∧ (∀ (s : State) (p : Fin 2), s.running = true → s.rd (Reg.ETH_STAT_LINK p) = 0 →
    ∃ t, exec (.ethLinkDown p) s = .next t ∧ t = { s with out := [] })
  ∧ (∀ (s : State) (p : Fin 2) (f : EthFrame), s.running = true → s.rd (Reg.ETH_STAT_LINK p) = 1 → f.fcsOk = false →
    ∃ t, exec (.ethFrameReceived p f) s = .next t ∧ t.rd (Reg.ETH_STAT_FCS_ERR p) = s.oneMore (Reg.ETH_STAT_FCS_ERR p)
      ∧ t = { s with out := [], regs := t.regs } ∧ Keeps s t [Reg.ETH_STAT_FCS_ERR p])
  ∧ (∀ (s : State) (p : Fin 2) (f : EthFrame), s.running = true → s.rd (Reg.ETH_STAT_LINK p) = 1 → f.fcsOk = true → f.body ≠ .pause →
      1522 < f.length ∨ f.full = true ∨ s.tagOk p f.vid = false ∨ s.ethAccepts p f = false →
    ∃ t, exec (.ethFrameReceived p f) s = .next t ∧ t.rd (Reg.ETH_STAT_RX_DROPPED p) = s.oneMore (Reg.ETH_STAT_RX_DROPPED p)
      ∧ t = { s with out := [], regs := t.regs } ∧ Keeps s t [Reg.ETH_STAT_RX_DROPPED p])
  ∧ (∀ (s : State) (p : Fin 2) (f : EthFrame) (x a : Word), s.running = true → s.rd (Reg.ETH_STAT_LINK p) = 1 → f.fcsOk = true →
      f.length ≤ 1518 → f.full = false → s.tagOk p f.vid = true → f.dest = .broadcast → f.body = .arpRequest x a → a.toNat = s.ethIp p →
    ∃ t, exec (.ethFrameReceived p f) s = .next t ∧ t.rd (Reg.ETH_STAT_RX_FRAMES p) = s.oneMore (Reg.ETH_STAT_RX_FRAMES p)
      ∧ t = { s with out := [s.tagOut p (.arp p true f.src.toNat (s.ethIp p) x.toNat)], regs := t.regs }
      ∧ Keeps s t [Reg.ETH_STAT_RX_FRAMES p, Reg.ETH_STAT_TX_FRAMES p])
  ∧ (∀ (s : State) (p : Fin 2) (f : EthFrame) (x a : Word) (b : List Byte), s.running = true → s.rd (Reg.ETH_STAT_LINK p) = 1 →
      f.fcsOk = true → f.length ≤ 1518 → f.full = false → s.tagOk p f.vid = true → f.dest = .own → f.body = .icmpEcho x a b →
      a.toNat = s.ethIp p → b.length ≤ 1472 → (s.ethRun p).icmp.length < 100 →
    ∃ t, exec (.ethFrameReceived p f) s = .next t ∧ t.rd (Reg.ETH_STAT_RX_FRAMES p) = s.oneMore (Reg.ETH_STAT_RX_FRAMES p)
      ∧ t = { s with out := [s.tagOut p (.icmp p f.src.toNat x.toNat b)], regs := t.regs, net := t.net }
      ∧ Keeps s t [Reg.ETH_STAT_RX_FRAMES p, Reg.ETH_STAT_TX_FRAMES p])
  ∧ (∀ (s : State) (p : Fin 2) (ip : Word) (h : ArpEntry), s.running = true → s.rd (Reg.ETH_STAT_LINK p) = 1 →
      (s.ethRun p).hops.find? (fun g => g.ip == ip.toNat) = some h → h.mac = none → h.tries < 3 → s.passed h.at_ 1000000000 = true →
    ∃ t, exec (.arpResolveRetry p ip) s = .next t ∧ { h with tries := h.tries + 1, at_ := s.timeOf 1 } ∈ (t.ethRun p).hops
      ∧ t = { s with out := [s.tagOut p (.arp p false broadcastMac (s.ethIp p) h.ip)], regs := t.regs, net := t.net }
      ∧ Keeps s t [Reg.ETH_STAT_TX_FRAMES p])
  ∧ (∀ (s : State) (p : Fin 2) (ip : Word) (h : ArpEntry) (m : Nat), s.running = true → s.rd (Reg.ETH_STAT_LINK p) = 1 →
      (s.ethRun p).hops.find? (fun g => g.ip == ip.toNat) = some h → h.mac = some m → h.asked = false → h.fails < 3 →
      s.passed h.at_ 60000000000 = true →
    ∃ t, exec (.arpRenewal p ip) s = .next t ∧ { h with asked := true, at_ := s.timeOf 1 } ∈ (t.ethRun p).hops
      ∧ t = { s with out := [s.tagOut p (.arp p false broadcastMac (s.ethIp p) h.ip)], regs := t.regs, net := t.net }
      ∧ Keeps s t [Reg.ETH_STAT_TX_FRAMES p])
  ∧ (∀ (s : State) (p : Fin 2) (ip : Word) (h : ArpEntry) (m : Nat), s.running = true →
      (s.ethRun p).hops.find? (fun g => g.ip == ip.toNat) = some h → h.mac = some m → h.asked = true → h.fails = 2 →
      s.passed h.at_ 60000000000 = true →
    ∃ t, exec (.arpRenewal p ip) s = .next t ∧ (∀ g ∈ (t.ethRun p).hops, g.ip ≠ ip.toNat) ∧ t = { s with out := [], net := t.net })
  ∧ (∀ (s : State) (p : Fin 2) (d : BitVec 16), s.running = true → s.rd (Reg.ETH_MDIO_BUSY p) = 1 → s.rd Reg.ID_VIO_STAT_CLASS1 = 1 →
    ∃ t, exec (.mdioCycleDone p d) s = .next t ∧ t.rd (Reg.ETH_MDIO_BUSY p) = 0
      ∧ t.rd (Reg.ETH_MDIO_DATA p) = (if s.rd (Reg.ETH_MDIO_OP p) = 1 then s.rd (Reg.ETH_MDIO_DATA p) else d.toNat)
      ∧ t = { s with out := [], regs := t.regs } ∧ Keeps s t [Reg.ETH_MDIO_BUSY p, Reg.ETH_MDIO_DATA p])
  ∧ (∀ (s : State) (p : Fin 2) (d : BitVec 16), s.running = true → s.rd (Reg.ETH_MDIO_BUSY p) = 1 → s.rd Reg.ID_VIO_STAT_CLASS1 = 0 →
      s.rd (Reg.ETH_MDIO_OP p) = 0 →
    ∃ t, exec (.mdioCycleDone p d) s = .next t ∧ t.rd (Reg.ETH_MDIO_BUSY p) = 0
      ∧ t.rd (Reg.ETH_MDIO_DATA p) = (Config.freeWord s.free).toNat % 2 ^ 16
      ∧ t = { s with out := [], regs := t.regs, free := s.free + 1 } ∧ Keeps s t [Reg.ETH_MDIO_BUSY p, Reg.ETH_MDIO_DATA p])
  ∧ (∀ (s : State) (p : Fin 2) (f : TimedFrame) (l : List TimedFrame), s.running = true → (s.ethRun p).timed = f :: l → s.rd (Reg.ETH_STAT_LINK p) = 1 →
      s.gridReaches f.launch = true →
    ∃ t, exec (.timedFrameLaunch p false) s = .next t ∧ (t.ethRun p).timed = l
      ∧ t.rd (Reg.PTP_PORT_SYNC_TX p) = s.oneMore (Reg.PTP_PORT_SYNC_TX p)
      ∧ t = { s with out := s.tagOut p (.ptp p 0 f.seq) :: (if s.rd Reg.PTP_CFG_TWO_STEP = 1 then [s.tagOut p (.ptp p 8 f.seq)] else []), regs := t.regs, net := t.net }
      ∧ Keeps s t [Reg.PTP_PORT_SYNC_TX p, Reg.ETH_STAT_TX_FRAMES p])
  ∧ (∀ (s : State) (p : Fin 2) (f : TimedFrame) (l : List TimedFrame), s.running = true → (s.ethRun p).timed = f :: l →
    ∃ t, exec (.timedFrameLaunch p true) s = .next t ∧ (t.ethRun p).timed = l ∧ t = { s with out := [], net := t.net })
  ∧ (∀ (s : State) (p : Fin 2) (f : TimedFrame) (l : List TimedFrame), s.running = true → (s.ethRun p).timed = f :: l → s.gridReaches f.launch = false →
    ∃ t, exec (.timedFrameLaunch p false) s = .next t ∧ t = { s with out := [] })
  ∧ (∀ (s : State) (k : Fin 4) (n st m : Nat) (d : List Byte) (h : ArpEntry), s.running = true → s.isKeeper = true →
      (s.telRun k).next = some n → (s.telRun k).cap = some (st, d) → s.rd (Reg.ETH_TELEGRAM_EN k) = 1 → s.rd (Reg.ETH_TELEGRAM_PORT k) = 0 →
      s.gridReaches (s.launchNs k n) = true → s.rd (Reg.ETH_STAT_LINK 0) = 1 → h.mac = some m →
      (∃ hop, s.nextHop 0 (s.rd (Reg.ETH_TELEGRAM_DEST_IP k)) = some hop ∧ (s.ethRun 0).hops.find? (fun g => g.ip == hop) = some h) →
    ∃ t, exec (.telegramLaunch k) s = .next t ∧ t.rd (Reg.ETH_TELEGRAM_SENT k) = s.oneMore (Reg.ETH_TELEGRAM_SENT k)
      ∧ t.rd (Reg.ETH_TELEGRAM_LAST_SEQ k) = n % 2 ^ 32 ∧ (t.telRun k).next = some (n + 1)
      ∧ t = { s with regs := t.regs, net := t.net,
                     out := [s.tagOut 0 (.datagram 0 m (s.rd (Reg.ETH_TELEGRAM_DEST_IP k)) (s.rd (Reg.ETH_TELEGRAM_DEST_PORT k)) (s.telegramBytes k n st d))] }
      ∧ Keeps s t [Reg.ETH_TELEGRAM_SENT k, Reg.ETH_TELEGRAM_LAST_SEQ k, Reg.ETH_STAT_TX_FRAMES 0])
  ∧ (∀ (s : State) (k : Fin 4) (n : Nat) (c : Nat × List Byte), s.running = true → s.isKeeper = true →
      (s.telRun k).next = some n → (s.telRun k).cap = some c → s.rd (Reg.ETH_TELEGRAM_EN k) = 1 →
      s.gridReaches (s.launchNs k n) = true → s.rd (Reg.ETH_STAT_LINK (s.rd (Reg.ETH_TELEGRAM_PORT k))) = 0 →
    ∃ t, exec (.telegramLaunch k) s = .next t ∧ t.rd (Reg.ETH_TELEGRAM_SKIPPED k) = s.oneMore (Reg.ETH_TELEGRAM_SKIPPED k)
      ∧ (t.telRun k).next = some (n + 1) ∧ t = { s with out := [], regs := t.regs, net := t.net } ∧ Keeps s t [Reg.ETH_TELEGRAM_SKIPPED k])

/-- The precision time protocol. Every Sync of the domain is counted; one of the parent on the slave port gives the
offset, and the eighth near one in a row in ACQUIRING makes GRID_TIME LOCKED. An Announce joins those heard; its
timeout, after 3 s, forgets the port's, or a slave's parent. A master port queues a Sync for its next launch instant
and sends its Announces, and every port its Pdelay_Req. The measurement that a request began gives the mean link delay
or counts a failure. 3 s without Syncs of the parent GRID_TIME goes from LOCKED to HOLDOVER and from ACQUIRING to
FREE_RUN, and from HOLDOVER to FREE_RUN when its time is over. (R533, R534, R535, R537) -/
def Obligations.PtpFramesMoveTheServo : Prop :=
  (∀ (s : State) (p : Fin 2) (d : Byte) (n : BitVec 80) (x : Int), s.running = true → s.ptpOn p = true → d.toNat = s.rd Reg.PTP_CFG_DOMAIN →
      s.net.ptp.parent ≠ some n.toNat →
    ∃ t, exec (.ptpSyncReceived p d n x) s = .next t ∧ t.rd (Reg.PTP_PORT_SYNC_RX p) = s.oneMore (Reg.PTP_PORT_SYNC_RX p)
      ∧ t = { s with out := [], regs := t.regs } ∧ Keeps s t [Reg.PTP_PORT_SYNC_RX p])
  ∧ (∀ (s : State) (p : Fin 2) (d : Byte) (n : BitVec 80) (x : Int), s.running = true → s.ptpOn p = true → d.toNat = s.rd Reg.PTP_CFG_DOMAIN →
      s.net.ptp.parent = some n.toNat → 8 ≤ s.rd (Reg.PTP_PORT_STATE p) → s.rd (Reg.PTP_PORT_DELAY_VALID p) = 1 →
    ∃ t, exec (.ptpSyncReceived p d n x) s = .next t ∧ t.rd (Reg.PTP_PORT_SYNC_RX p) = s.oneMore (Reg.PTP_PORT_SYNC_RX p)
      ∧ t.rdS Reg.TIME_GRID_OFFSET_OFFSET_NS = max (-2147483647) (min 2147483647 (s.syncOffset p x / 65536))
      ∧ t = { s with out := [], regs := t.regs, net := { s.net with ptp := t.net.ptp }, clk := t.clk })
  ∧ (∀ (s : State) (p : Fin 2) (d : Byte) (n : BitVec 80) (x : Int), s.running = true → s.ptpOn p = true → d.toNat = s.rd Reg.PTP_CFG_DOMAIN →
      s.net.ptp.parent = some n.toNat → s.rd (Reg.PTP_PORT_STATE p) = 9 → s.rd (Reg.PTP_PORT_DELAY_VALID p) = 1 →
      s.rd Reg.TIME_GRID_STAT_STATE = 1 → s.net.ptp.good = 7 → (s.syncOffset p x).natAbs ≤ s.rd Reg.PTP_CFG_LOCK_NS * 65536 →
    ∃ t, exec (.ptpSyncReceived p d n x) s = .next t ∧ t.rd Reg.TIME_GRID_STAT_STATE = 2 ∧ t.rd (Reg.TIME_BASE_SYNCED 0) = 1
      ∧ t.rd (Reg.TIME_BASE_HOLDOVER 0) = 0)
  ∧ (∀ (s : State) (p : Fin 2) (d : Byte) (a : Announce), s.running = true →
      s.ptpOn p = false ∨ d.toNat ≠ s.rd Reg.PTP_CFG_DOMAIN ∨ a.sender.toNat / 65536 = s.clockId →
    ∃ t, exec (.ptpAnnounceReceived p d a) s = .next t ∧ t = { s with out := [] })
  ∧ (∀ (s : State) (p : Fin 2) (d : Byte) (a : Announce), s.running = true → s.ptpOn p = true → d.toNat = s.rd Reg.PTP_CFG_DOMAIN →
      a.sender.toNat / 65536 ≠ s.clockId → (∀ h ∈ s.net.ptp.heard[p], h.ann.sender ≠ a.sender) →
    ∃ t, exec (.ptpAnnounceReceived p d a) s = .next t
      ∧ t.net.ptp.heard[p] = { ann := a, count := 1, at_ := s.timeOf 1 } :: s.net.ptp.heard[p]
      ∧ t = { s with out := [], regs := t.regs, net := { s.net with ptp := t.net.ptp } })
  ∧ (∀ (s : State) (p : Fin 2), s.running = true → s.ptpOn p = true → s.rd (Reg.PTP_PORT_STATE p) ≠ 6 →
      s.passed s.net.ptp.timer[p] 3000000000 = true →
    ∃ t, exec (.ptpAnnounceTimeout p) s = .next t
      ∧ t.net.ptp.heard[p] = (if 8 ≤ s.rd (Reg.PTP_PORT_STATE p) then
          s.net.ptp.heard[p].filter (fun h => some h.ann.sender.toNat != s.net.ptp.parent) else [])
      ∧ t.net.ptp.timer[p] = s.timeOf 1
      ∧ t.rd (Reg.PTP_PORT_ANNOUNCE_TIMEOUTS p) = s.oneMore (Reg.PTP_PORT_ANNOUNCE_TIMEOUTS p)
      ∧ t = { s with out := [], regs := t.regs, net := { s.net with ptp := t.net.ptp } })
  ∧ (∀ (s : State) (p : Fin 2), s.running = true → s.ptpOn p = true → s.rd (Reg.PTP_PORT_STATE p) = 6 → (s.ethRun p).timed.length < 8 →
      (s.ethRun p).sync ≠ some (s.syncInstant p) →
    ∃ t, exec (.ptpSyncSend p) s = .next t
      ∧ t.ethRun p = { s.ethRun p with timed := (s.ethRun p).timed ++ [{ seq := s.net.ptp.seq[p], launch := s.syncInstant p }], sync := some (s.syncInstant p) }
      ∧ t.net.ptp.seq[p] = (s.net.ptp.seq[p] + 1) % 65536 ∧ t = { s with out := [], net := t.net })
  ∧ (∀ (s : State) (p : Fin 2), s.running = true → s.ptpOn p = true → s.rd (Reg.PTP_PORT_STATE p) = 6 →
    ∃ t, exec (.ptpAnnounceSend p) s = .next t ∧ t = { s with out := [s.tagOut p (.ptp p 11 s.net.ptp.seq[p])], regs := t.regs, net := t.net }
      ∧ t.net.ptp.seq[p] = (s.net.ptp.seq[p] + 1) % 65536 ∧ Keeps s t [Reg.ETH_STAT_TX_FRAMES p])
  ∧ (∀ (s : State) (p : Fin 2), s.running = true → s.ptpOn p = true →
    ∃ t, exec (.ptpPdelayRequest p) s = .next t ∧ t = { s with out := [s.tagOut p (.ptp p 2 s.net.ptp.seq[p])], regs := t.regs, net := t.net } ∧ t.net.ptp.asked[p] = true
      ∧ t.net.ptp.seq[p] = (s.net.ptp.seq[p] + 1) % 65536 ∧ Keeps s t [Reg.ETH_STAT_TX_FRAMES p])
  ∧ (∀ (s : State) (p : Fin 2), s.running = true → s.ptpOn p = true → s.net.ptp.asked[p] = true →
    ∃ t, exec (.ptpPdelay p none) s = .next t ∧ t.rd (Reg.PTP_PORT_PDELAY_FAIL p) = s.oneMore (Reg.PTP_PORT_PDELAY_FAIL p)
      ∧ t = { s with out := [], regs := t.regs, net := { s.net with ptp := { s.net.ptp with asked := s.net.ptp.asked.set p false } } } ∧ Keeps s t [Reg.PTP_PORT_PDELAY_FAIL p])
  ∧ (∀ (s : State) (p : Fin 2) (a b : Nat), s.running = true → s.ptpOn p = true → s.net.ptp.asked[p] = true → s.rd (Reg.PTP_PORT_STATE p) ≠ 8 →
    ∃ t, exec (.ptpPdelay p (some (a, b))) s = .next t ∧ t.rd (Reg.PTP_PORT_LINK_DELAY p) = min ((a - s.rd (Reg.ETH_CFG_RX_LAT p) - s.rd (Reg.ETH_CFG_TX_LAT p) - b) / 2) (2 ^ 32 - 1)
      ∧ t.rd (Reg.PTP_PORT_DELAY_VALID p) = 1
      ∧ t = { s with out := [], regs := t.regs, net := { s.net with ptp := { s.net.ptp with asked := s.net.ptp.asked.set p false } } }
      ∧ Keeps s t [Reg.PTP_PORT_LINK_DELAY p, Reg.PTP_PORT_DELAY_VALID p])
  ∧ (∀ (s : State) (p : Fin 2) (x : Option (Nat × Nat)), s.running = true → s.net.ptp.asked[p] = false →
    ∃ t, exec (.ptpPdelay p x) s = .next t ∧ t = { s with out := [] })
  ∧ (∀ s : State, s.running = true → s.net.ptp.parent ≠ none → s.passed s.net.ptp.syncAt 3000000000 = true →
    ∃ t, exec .ptpSyncLoss s = .next t
      ∧ t.rd Reg.TIME_GRID_STAT_STATE
          = (if s.rd Reg.TIME_GRID_STAT_STATE = 2 then 3 else if s.rd Reg.TIME_GRID_STAT_STATE = 1 then 0 else s.rd Reg.TIME_GRID_STAT_STATE)
      ∧ (∀ p : Fin 2, 8 ≤ s.rd (Reg.PTP_PORT_STATE p) → t.rd (Reg.PTP_PORT_STATE p) = 8)
      ∧ t = { s with out := [], regs := t.regs, net := { s.net with ptp := t.net.ptp } }
      ∧ Keeps s t [Reg.TIME_GRID_STAT_STATE, Reg.TIME_BASE_SYNCED 0, Reg.TIME_BASE_HOLDOVER 0, Reg.PTP_PORT_STATE 0, Reg.PTP_PORT_STATE 1])
  ∧ (∀ s : State, s.running = true → s.rd Reg.TIME_GRID_STAT_STATE = 3 →
      s.passed s.net.ptp.holdAt (s.rd Reg.PTP_CFG_HOLDOVER_S * 1000000000) = true →
    ∃ t, exec .ptpHoldoverExpiry s = .next t ∧ t.rd Reg.TIME_GRID_STAT_STATE = 0 ∧ t.rd (Reg.TIME_BASE_SYNCED 0) = 0
      ∧ t.rd (Reg.TIME_BASE_HOLDOVER 0) = 0 ∧ t = { s with out := [], regs := t.regs, net := { s.net with ptp := t.net.ptp } }
      ∧ Keeps s t [Reg.TIME_GRID_STAT_STATE, Reg.TIME_BASE_SYNCED 0, Reg.TIME_BASE_HOLDOVER 0])

/-- The CAN FD controllers and the CAN time. A frame received from the bus joins the coming boundary's input set and
counts REC down; in loopback nothing comes from the bus, and a frame sent joins the controller's own input set (with a
free age, log entry 24). A CYCLE trigger of a matching object queues its frame. A frame sent without error completes
with OK unless one ahead of it in priority was pending when its arbitration began; the segments of a command's reply
go out in turn. One in error counts TEC up, and a one-shot one is withdrawn with NO_ACK, as at its deadline. Bus-off
is shown and counted, and its recovery, 1,408 bit times later at the soonest, clears the counters. A receive object
without frames for TIMEOUT_MS is stale. A reference message starts a basic cycle; a cycle without one is nominal,
holds BUS_TIME over, and the eighth in a row clears SYNCED. (R542, R544, R545, R548, R549, R550, R551) -/
def Obligations.CanFramesReachTheObjects : Prop :=
  (∀ (s : State) (c : Fin 2) (f : CanFrame) (a : Nat), s.running = true → s.isKeeper = true → s.canMode c ≠ 0 → s.canMode c ≠ 3 → s.busOff c = false →
      s.canHears c = true → f.fdf = false ∨ s.rd (Reg.CAN_CFG_FD_EN c) = 1 → s.isReference c f = false →
    ∃ t, exec (.canFrameReceived c f a) s = .next t ∧ (t.canRun c).inbox = (s.canRun c).inbox ++ [(f, a)]
      ∧ t.rd (Reg.CAN_STAT_REC c) = (if 127 < s.rd (Reg.CAN_STAT_REC c) then 127 else s.rd (Reg.CAN_STAT_REC c) - 1)
      ∧ t = { s with out := [], regs := t.regs, net := { s.net with can := t.net.can } }
      ∧ Keeps s t [Reg.CAN_STAT_REC c, Reg.CAN_STAT_ERR_STATE c])
  ∧ (∀ (s : State) (c : Fin 2) (f : CanFrame) (a : Nat), s.running = true → s.isKeeper = true → s.canMode c ≠ 0 → s.canMode c ≠ 3 → s.busOff c = false →
      s.canHears c = true → s.isReference c f = true → s.rd (Reg.CAN_CFG_TIME_ROLE c) = 1 →
    ∃ t, exec (.canFrameReceived c f a) s = .next t ∧ t.rd (Reg.CAN_STAT_CYCLE_COUNT c) = (byteAt f.data 0).toNat % 64
      ∧ t.rd (Reg.CAN_STAT_MASTER_NOW c) = 0 ∧ (t.canRun c).starts = (s.canRun c).starts ++ [a] ∧ t.rd (Reg.TIME_BASE_HOLDOVER 3) = 0
      ∧ t.rd (Reg.TIME_BASE_SYNCED 3) = (if 1 ≤ (s.canRun c).refs then 1 else s.rd (Reg.TIME_BASE_SYNCED 3))
      ∧ t = { s with out := [], regs := t.regs, net := { s.net with can := t.net.can } })
  ∧ (∀ (s : State) (c : Fin 2) (f : CanFrame) (a : Nat), s.running = true → s.canMode c = 3 →
    ∃ t, exec (.canFrameReceived c f a) s = .next t ∧ t = { s with out := [] })
  ∧ (∀ (s : State) (c : Fin 2) (n : Fin 126) (b : Bool), s.running = true → s.rd (Reg.CAN_OBJ_EN c n) = 1 → s.rd (Reg.CAN_OBJ_DIR c n) = 1 →
      s.rd (Reg.CAN_OBJ_TRIGGER c n) = 2 → s.rd (Reg.CAN_CFG_TIME_ROLE c) ≠ 0 → s.net.busFrom ≠ none → s.busOff c = false →
      s.rd (Reg.CAN_STAT_CYCLE_COUNT c) &&& s.rd (Reg.CAN_OBJ_CYC_MASK c n) = s.rd (Reg.CAN_OBJ_CYC_MATCH c n) →
      assocGet (s.canRun c).tx n = none →
    ∃ t, exec (.canCycleTrigger c n b) s = .next t ∧ t.rd (Reg.CAN_OBJ_PENDING c n) = 1
      ∧ assocGet (t.canRun c).tx n = some { data := s.txData c n false, oneShot := true, at_ := (s.canRun c).events + 1, born := s.timeOf 1 }
      ∧ t = { s with out := [], regs := t.regs, net := { s.net with can := t.net.can } } ∧ Keeps s t [Reg.CAN_OBJ_PENDING c n])
  ∧ (∀ (s : State) (c : Fin 2) (n : Fin 128) (x : CanTx), s.running = true → s.canSends c = true → n ≠ 127 →
      assocGet (s.canRun c).tx n = some x → s.canFormat c (s.flag (Reg.CAN_OBJ_FDF c n)) = true → s.canOffered c n x.at_ = true →
    ∃ t, exec (.canTxDone c n) s = .next t ∧ t.rd (Reg.CAN_OBJ_STATUS c n) = Status.OK
      ∧ t.rd (Reg.CAN_OBJ_DONE c n) = s.oneMore (Reg.CAN_OBJ_DONE c n) ∧ t.rd (Reg.CAN_STAT_TX_FRAMES c) = s.oneMore (Reg.CAN_STAT_TX_FRAMES c)
      ∧ t.rd (Reg.CAN_STAT_TEC c) = s.rd (Reg.CAN_STAT_TEC c) - 1
      ∧ assocGet (t.canRun c).tx n = x.next.map (fun p => { data := p.1, oneShot := p.2, at_ := (s.canRun c).events, born := s.timeOf 1 })
      ∧ (s.canMode c ≠ 3 → t.free = s.free ∧ ∃ ide fdf brs, t.out = [.can c (s.rd (Reg.CAN_OBJ_ID c n)) ide fdf brs x.data])
      ∧ (s.canMode c = 3 → t.out = [] ∧ ∃ f age, f.id = BitVec.ofNat 29 (s.rd (Reg.CAN_OBJ_ID c n)) ∧ f.data = x.data
          ∧ (t.canRun c).inbox = (s.canRun c).inbox ++ [(f, age)])
      ∧ t = { s with out := t.out, regs := t.regs, free := t.free, net := { s.net with can := t.net.can } }
      ∧ Keeps s t [Reg.CAN_OBJ_STATUS c n, Reg.CAN_OBJ_DONE c n, Reg.CAN_OBJ_PENDING c n, Reg.CAN_STAT_TX_FRAMES c, Reg.CAN_STAT_TEC c,
                   Reg.CAN_STAT_ERR_STATE c])
  ∧ (∀ (s : State) (c : Fin 2) (n m : Fin 128) (x y : CanTx), s.running = true → n ≠ 127 → assocGet (s.canRun c).tx n = some x →
      (m.val, y) ∈ (s.canRun c).tx → s.canOrder c m < s.canOrder c n →
      s.canFormat c (s.flag (Reg.CAN_OBJ_FDF c m)) = true → y.at_ ≤ (s.canRun c).lastEnd →
    ∃ t, exec (.canTxDone c n) s = .next t ∧ t = { s with out := [] })
  ∧ (∀ (s : State) (c : Fin 2) (b : List Byte) (l : List (List Byte)) (a : Nat) (more : List CanReply), s.running = true → s.canSends c = true →
      s.canMode c ≠ 3 → s.canFormat c true = true → s.canTx[c] = { left := b :: l, since := a } :: more → s.canOffered c 127 0 = true →
    ∃ t, exec (.canTxDone c 127) s = .next t
      ∧ t.canTx[c] = (if l = [] then (match more with | [] => [] | y :: m => { y with since := s.timeOf 1 } :: m)
          else { left := l, since := a } :: more)
      ∧ t.canTx[1 - c] = s.canTx[1 - c]
      ∧ (∃ ide, t.out = [.can c (s.rd (Reg.CMD_CAN_PATH_RSP_ID c)) ide true true b])
      ∧ t.rd (Reg.CAN_STAT_TX_FRAMES c) = s.oneMore (Reg.CAN_STAT_TX_FRAMES c)
      ∧ t = { s with out := t.out, regs := t.regs, canTx := t.canTx, net := { s.net with can := t.net.can } }
      ∧ Keeps s t [Reg.CAN_STAT_TX_FRAMES c, Reg.CAN_STAT_TEC c, Reg.CAN_STAT_ERR_STATE c])
  ∧ (∀ (s : State) (c : Fin 2) (n : Fin 128) (x : CanTx) (e : CanErr), s.running = true → s.canTries c = true → n ≠ 127 →
      assocGet (s.canRun c).tx n = some x → x.oneShot = true → e ≠ .arbitration → e ≠ .ack →
    ∃ t, exec (.canTxError c n e) s = .next t ∧ t.rd (Reg.CAN_OBJ_STATUS c n) = Status.NO_ACK ∧ t.rd (Reg.CAN_OBJ_LAST_ERR c n) = e.code
      ∧ t.rd (Reg.CAN_OBJ_FAILS c n) = s.oneMore (Reg.CAN_OBJ_FAILS c n) ∧ t.rd (Reg.CAN_STAT_ERR_FRAMES c) = s.oneMore (Reg.CAN_STAT_ERR_FRAMES c)
      ∧ t.rd (Reg.CAN_STAT_TEC c) = min (s.rd (Reg.CAN_STAT_TEC c) + 8) 511
      ∧ t = { s with out := [], regs := t.regs, net := { s.net with can := t.net.can } }
      ∧ Keeps s t [Reg.CAN_OBJ_STATUS c n, Reg.CAN_OBJ_LAST_ERR c n, Reg.CAN_OBJ_FAILS c n, Reg.CAN_OBJ_PENDING c n, Reg.CAN_STAT_ERR_FRAMES c,
                   Reg.CAN_STAT_TEC c, Reg.CAN_STAT_ERR_STATE c])
  ∧ (∀ (s : State) (c : Fin 2) (n : Fin 128), s.running = true →
    ∃ t, exec (.canTxError c n .arbitration) s = .next t ∧ (t.canRun c).tx = (s.canRun c).tx
      ∧ t = { s with out := [], net := { s.net with can := t.net.can } })
  ∧ (∀ (s : State) (c : Fin 2) (n : Fin 126) (x : CanTx), s.running = true → assocGet (s.canRun c).tx n = some x → x.oneShot = true →
      s.rd (Reg.CAN_OBJ_TRIGGER c n) ≠ 0 ∨ s.passed x.born 10000000 = true →
    ∃ t, exec (.canOneshotDeadline c n) s = .next t ∧ t.rd (Reg.CAN_OBJ_STATUS c n) = Status.NO_ACK ∧ t.rd (Reg.CAN_OBJ_LAST_ERR c n) = 6
      ∧ t.rd (Reg.CAN_OBJ_FAILS c n) = s.oneMore (Reg.CAN_OBJ_FAILS c n)
      ∧ t = { s with out := [], regs := t.regs, net := { s.net with can := t.net.can } }
      ∧ Keeps s t [Reg.CAN_OBJ_STATUS c n, Reg.CAN_OBJ_LAST_ERR c n, Reg.CAN_OBJ_FAILS c n, Reg.CAN_OBJ_PENDING c n])
  ∧ (∀ (s : State) (c : Fin 2), s.running = true → s.canTries c = true →
    ∃ t, exec (.canBusoff c) s = .next t ∧ t.rd (Reg.CAN_STAT_ERR_STATE c) = 2
      ∧ t.rd (Reg.CAN_STAT_BUSOFFS c) = s.oneMore (Reg.CAN_STAT_BUSOFFS c) ∧ t.rd (Reg.CAN_STAT_TEC c) = max 256 (s.rd (Reg.CAN_STAT_TEC c))
      ∧ t.rd (Reg.CAN_STAT_RECOVERING c) = s.rd (Reg.CAN_CFG_AUTO_RECOVER c)
      ∧ t = { s with out := [], regs := t.regs, net := { s.net with can := t.net.can } })
  ∧ (∀ (s : State) (c : Fin 2), s.running = true → s.rd (Reg.CAN_STAT_RECOVERING c) = 1 → s.passed (s.canRun c).healAt (s.canBits c 1408) = true →
    ∃ t, exec (.canRecoveryDone c) s = .next t ∧ t.rd (Reg.CAN_STAT_RECOVERING c) = 0 ∧ t.rd (Reg.CAN_STAT_ERR_STATE c) = 0
      ∧ t.rd (Reg.CAN_STAT_TEC c) = 0 ∧ t.rd (Reg.CAN_STAT_REC c) = 0 ∧ t = { s with out := [], regs := t.regs }
      ∧ Keeps s t [Reg.CAN_STAT_RECOVERING c, Reg.CAN_STAT_ERR_STATE c, Reg.CAN_STAT_TEC c, Reg.CAN_STAT_REC c])
  ∧ (∀ (s : State) (c : Fin 2) (n : Fin 126), s.running = true → s.rd (Reg.CAN_OBJ_EN c n) = 1 → s.rd (Reg.CAN_OBJ_DIR c n) = 0 →
      s.rd (Reg.CAN_OBJ_TIMEOUT_MS c n) ≠ 0 →
      s.passed ((assocGet (s.canRun c).taken n).getD s.power.startMono) (s.rd (Reg.CAN_OBJ_TIMEOUT_MS c n) * 1000000) = true →
    ∃ t, exec (.canRxStale c n) s = .next t ∧ t.rd (Reg.CAN_OBJ_STALE c n) = 1 ∧ t = { s with out := [], regs := t.regs }
      ∧ Keeps s t [Reg.CAN_OBJ_STALE c n])
  ∧ (∀ (s : State) (c : Fin 2) (a : Nat) (i : Instr), s.running = true → s.rd (Reg.CAN_CFG_TIME_ROLE c) = 2 → s.canSends c = true →
      (i = .canReferenceSend c a true ∧ (s.canRun c).follows = false ∧ s.refPassed c (s.tCycle c / 65536) = true)
        ∨ (i = .canBackupMasterTimeout c a true ∧ (s.canRun c).follows = true
            ∧ s.refPassed c (s.tCycle c / 65536 + s.canBits c (8 * (s.rd (Reg.CAN_CFG_REF_ID c) % 8))) = true) →
    ∃ t, exec i s = .next t ∧ t.rd (Reg.CAN_STAT_MASTER_NOW c) = 1 ∧ t.rd (Reg.TIME_BASE_SYNCED 3) = 1 ∧ t.rd (Reg.TIME_BASE_HOLDOVER 3) = 0
      ∧ (t.canRun c).follows = false ∧ (t.canRun c).starts = (s.canRun c).starts ++ [a]
      ∧ t.rd (Reg.CAN_STAT_TX_FRAMES c) = s.oneMore (Reg.CAN_STAT_TX_FRAMES c)
      ∧ (∃ ide, t.out = (if s.canMode c = 3 then [] else
          [.can c (s.rd (Reg.CAN_CFG_REF_ID c)) ide false false (beBytes 1 (t.rd (Reg.CAN_STAT_CYCLE_COUNT c)))]))
      ∧ t = { s with out := t.out, free := t.free, regs := t.regs, net := { s.net with can := t.net.can } }
      ∧ Keeps s t [Reg.CAN_STAT_MASTER_NOW c, Reg.CAN_STAT_CYCLE_COUNT c, Reg.CAN_STAT_TX_FRAMES c, Reg.TIME_BASE_SYNCED 3,
                   Reg.TIME_BASE_HOLDOVER 3])
  ∧ (∀ (s : State) (c : Fin 2) (f : Nat), s.running = true → s.timeCan = some c → s.net.busFrom = some f →
      (s.canRun c).starts = [] → f + s.tCycle c < s.timeOf 3 + s.tsNs * 65536 →
    ∃ t, exec .busTimeCycleMissing s = .next t ∧ t.net.busFrom = some (f + s.tCycle c)
      ∧ t.rd (Reg.CAN_STAT_CYCLE_COUNT c) = (s.rd (Reg.CAN_STAT_CYCLE_COUNT c) + 1) % 64 ∧ t.rd (Reg.TIME_BASE_HOLDOVER 3) = 1
      ∧ t.rd (Reg.TIME_BASE_SYNCED 3) = (if 7 ≤ (s.canRun c).nominal then 0 else s.rd (Reg.TIME_BASE_SYNCED 3))
      ∧ t = { s with out := [], regs := t.regs, net := { s.net with can := t.net.can, busFrom := t.net.busFrom } }
      ∧ Keeps s t [Reg.CAN_STAT_CYCLE_COUNT c, Reg.TIME_BASE_HOLDOVER 3, Reg.TIME_BASE_SYNCED 3])

/-- Samples of the dice, shutdowns and limit factors. A sample that shuts nothing down shows every reading and, where all
of them count, the level they give. A sample by which the controller die reaches SHUTDOWN counts the shutdown, turns
the gates off, begins the stop sequence and brings F3 DIE_OVERTEMP up; one by which the HV die does trips an active
drive stage. Every 100 ms, and no sooner, a limit factor steps down at THROTTLE or above and up below it, and a cell's
step is shown and counted. (R25, R564, R565, R567, R568, R569, R570, R572) -/
def Obligations.ThermalLevelsAct : Prop :=
  (∀ (s : State) (r : Vector (BitVec 16 × Bool) 8) (i : StartIn), s.monitorRuns = true → s.therm.shut = false →
      (dieNext s.therm.die (readings 0 r.toList)).code ≠ 3 →
    ∃ t, exec (.dieSensorSample (.controller r i)) s = .next t
      ∧ (∀ k : Fin 8, t.rdS (Reg.THERM_SENSOR_TEMP k) = (r[k]).1.toInt)
      ∧ (s.therm.forced = false → (∀ k : Fin 8, (r[k]).2 = true ∧ -550 ≤ (r[k]).1.toInt ∧ (r[k]).1.toInt ≤ 1750) →
          t.therm.die = dieNext s.therm.die (readings 0 r.toList)
          ∧ t.rd Reg.THERM_STAT_DIE_LEVEL = (dieNext s.therm.die (readings 0 r.toList)).code % 4)
      ∧ t = { s with out := [], regs := t.regs, therm := t.therm })
  ∧ (∀ (s : State) (r : Vector (BitVec 16 × Bool) 8) (i : StartIn), s.running = true → s.therm.shut = false → s.power.stopping = none →
      s.power.region = .full → (dieNext s.therm.die (readings 0 r.toList)).code = 3 →
    ∃ t, exec (.dieSensorSample (.controller r i)) s = .next t ∧ t.rd Reg.THERM_STAT_DIE_LEVEL = 3
      ∧ t.rd Reg.THERM_STAT_SHUTDOWNS = s.oneMore Reg.THERM_STAT_SHUTDOWNS ∧ t.therm.shut = true ∧ t.mod.applied.gates = false
      ∧ t.power = { s.power with stopping := some (.thermal, 5) }
      ∧ (s.f3Latched Code.DIE_OVERTEMP = true ∨ FaultDue t Code.DIE_OVERTEMP))
  ∧ (∀ (s : State) (r : Vector (BitVec 16 × Bool) 2), s.monitorRuns = true → (dieNext s.therm.hv (readings 8 r.toList)).code = 3 →
      s.rd Reg.THERM_STAT_HV_LEVEL ≠ 3 →
    ∃ t, exec (.dieSensorSample (.hv r)) s = .next t ∧ t.rd Reg.THERM_STAT_HV_LEVEL = 3
      ∧ t.rd Reg.THERM_STAT_SHUTDOWNS = s.oneMore Reg.THERM_STAT_SHUTDOWNS ∧ t.therm.hvShut = true ∧ t.mod.applied.gates = false
      ∧ (s.driveActive = true → 0x0D74 ∈ t.drv.fresh ++ t.drv.atB ++ t.drv.reported))
  ∧ (∀ (s : State) (d : DieSample), s.monitorRuns = false → ∃ t, exec (.dieSensorSample d) s = .next t ∧ t = { s with out := [] })
  ∧ (∀ s : State, s.power.region = .full → s.stepDue .die = true →
    ∃ t, exec (.thermalFactorStep .die) s = .next t
      ∧ t.rd Reg.THERM_STAT_STEP
          = (if 2 ≤ s.rd Reg.THERM_STAT_DIE_LEVEL then min 4 (s.rd Reg.THERM_STAT_STEP + 1) else min 4 (s.rd Reg.THERM_STAT_STEP - 1))
      ∧ t = { s with out := [], regs := t.regs, therm := { s.therm with stepAt := s.therm.stepAt.set 0 (s.timeOf 1) } }
      ∧ Keeps s t [Reg.THERM_STAT_STEP, Reg.CLK_SYS_NOW_CORE_DIV, Reg.THERM_STAT_THROTTLE_STEPS])
  ∧ (∀ s : State, s.power.region = .full → s.stepDue .hv = true →
    ∃ t, exec (.thermalFactorStep .hv) s = .next t
      ∧ t = { s with out := [], therm := { s.therm with fHv := t.therm.fHv, stepAt := s.therm.stepAt.set 1 (s.timeOf 1) } }
      ∧ t.therm.fHv = max 1 (min 8 (if 2 ≤ s.rd Reg.THERM_STAT_HV_LEVEL then s.therm.fHv - 1 else s.therm.fHv + 1)))
  ∧ (∀ (s : State) (i : Fin 2), s.power.region = .full → s.stepDue (.ntc i) = true →
    ∃ t, exec (.thermalFactorStep (.ntc i)) s = .next t
      ∧ t = { s with out := [], therm := { s.therm with fNtc := t.therm.fNtc, stepAt := s.therm.stepAt.setIfInBounds (2 + i) (s.timeOf 1) } }
      ∧ t.therm.fNtc[i] = max 1 (min 8 (if 2 ≤ (s.therm.ntc.getD i {}).code then s.therm.fNtc[i] - 1 else s.therm.fNtc[i] + 1))
      ∧ t.therm.fNtc[1 - i] = s.therm.fNtc[1 - i])
  ∧ (∀ (s : State) (c : Fin 512), s.power.region = .full → s.running = true → s.stepDue (.cell c) = true → s.cellLevel c < 2 → s.rd (Reg.CELL_THERM_F_C c) < 8 →
    ∃ t, exec (.thermalFactorStep (.cell c)) s = .next t ∧ t.rd (Reg.CELL_THERM_F_C c) = s.rd (Reg.CELL_THERM_F_C c) + 1
      ∧ t.rd (Reg.CELL_THERM_STEPS_UP c) = s.oneMore (Reg.CELL_THERM_STEPS_UP c) ∧ t.rd (Reg.CELL_THERM_LAST_STAGE c) = s.stage32
      ∧ t.mem = s.mem ∧ t.cell c = { s.cell c with thermAt := s.timeOf 1 } ∧ ∀ d : Nat, d ≠ c.val → t.cell d = s.cell d)
  ∧ (∀ (s : State) (c : Fin 512), s.power.region = .full → s.running = true → 2 ≤ s.cellLevel c → s.tripped c = true → s.active c = true →
    ∃ t, exec (.thermalFactorStep (.cell c)) s = .next t ∧ t = { s with out := [] })
  ∧ (∀ (s : State) (f : LimitSource), s.stepDue f = false → ∃ t, exec (.thermalFactorStep f) s = .next t ∧ t = { s with out := [] })
  ∧ (∀ (s : State) (f : LimitSource), s.power.region ≠ .full → ∃ t, exec (.thermalFactorStep f) s = .next t ∧ t = { s with out := [] })

/-- The monitor's commands and its receiver. A dump of at most 32 bytes of the memory window prints them and .OK, and one
outside the range is refused. A pattern test and an injection that are not refused begin for the monitor. .STAT prints
the six status words, .UNLOCK without a signature the challenge; with one it unlocks, or counts a failure. .LOCK and
1,800 s without a line lock again, and 60 s after the third failure signatures are taken again. A life cycle or a
command in progress that bars a command refuses it. A break sets the default rate, and a framing error is counted.
(R248, R249, R582, R583, R584, R586, R587, R588) -/
def Obligations.MonitorLinesAreServed : Prop :=
  (∀ (s : State) (a n : Word) (e : Nat), s.running = true → s.recovery = false → s.monBusy = false → s.mon.fill ≤ 60000 * 10000000000 →
      4 ≤ n.toNat → n.toNat ≤ 32 → n.toNat % 4 = 0 → memBase ≤ a.toNat → a.toNat + n.toNat ≤ memEnd → reachesSecure a.toNat n.toNat = false →
    ∃ t, exec (.monDump a n e []) s = .next t
      ∧ t.out = [.line (hexWord a.toNat ++ ascii " " ++ hexText (s.load a.toNat n.toNat)), .line (ascii ".OK")]
      ∧ t = { s with out := t.out, regs := t.regs, mon := t.mon } ∧ Keeps s t [Reg.CMD_MON_STAT_LOCK_IN_S])
  ∧ (∀ (s : State) (a n : Word) (e : Nat) (l : List EccHit), s.running = true → s.recovery = false → s.monBusy = false →
      s.mon.fill ≤ 60000 * 10000000000 → n.toNat < 4 ∨ 4096 < n.toNat ∨ n.toNat % 4 ≠ 0 →
    ∃ t, exec (.monDump a n e l) s = .next t ∧ t.out = [.line (ascii ".ERR " ++ statusName Status.VALUE_OUT_OF_RANGE)]
      ∧ t = { s with out := t.out, regs := t.regs, mon := t.mon } ∧ Keeps s t [Reg.CMD_MON_STAT_LOCK_IN_S])
  ∧ (∀ (s : State) (l p d : Word) (v : Nat), s.running = true → s.recovery = false → s.monBusy = false → s.lc ≠ 4 →
      s.lc ≠ 2 ∨ s.rd Reg.CMD_MON_STAT_UNLOCKED = 1 → packParam [(l.toNat, 6, 0), (p.toNat, 2, 6), (d.toNat, 16, 16)] = some v →
      s.prbsRefusal (BitVec.ofNat 32 v) = none →
    ∃ t, exec (.monPrbs l p d) s = .next t ∧ t.link.prbs = s.link.prbs ++ [(l.toNat, true)] ∧ t.rd (Reg.LANE_STAT_USE l.toNat) = 4
      ∧ t.mon.long = some (s.monoNs, d.toNat, 0) ∧ t.out = []
      ∧ t = { s with out := [], regs := t.regs, mon := t.mon, link := { s.link with prbs := t.link.prbs, prbsEnd := t.link.prbsEnd, routes := t.link.routes } }
      ∧ Keeps s t [Reg.LANE_STAT_USE l.toNat, Reg.CMD_MON_STAT_LOCK_IN_S])
  ∧ (∀ (s : State) (l k n h : Word) (v : Nat), s.running = true → s.recovery = false → s.monBusy = false → s.lc ≠ 4 →
      s.lc ≠ 2 ∨ s.rd Reg.CMD_MON_STAT_UNLOCKED = 1 →
      packParam [(l.toNat, 6, 0), (k.toNat, 2, 6), (n.toNat, 7, 8), (h.toNat, 5, 16)] = some v →
      s.injectRefusal (BitVec.ofNat 32 v) = none →
    ∃ t, exec (.monInject l k n h) s = .next t ∧ (∃ c, t.link.inject = s.link.inject ++ [{ param := BitVec.ofNat 32 v, crc0 := c, byMon := true }])
      ∧ t = { s with out := [], regs := t.regs, mon := t.mon, link := { s.link with inject := t.link.inject } }
      ∧ Keeps s t [Reg.CMD_MON_STAT_LOCK_IN_S])
  ∧ (∀ s : State, s.running = true → s.recovery = false → s.monBusy = false → s.mon.fill ≤ 60000 * 10000000000 →
    ∃ t, exec .monStat s = .next t ∧ t.out = [.line (ascii ".OK" ++ (ascii " " ++ hexWords (statWords.map t.word)))]
      ∧ t = { s with out := t.out, regs := t.regs, mon := t.mon } ∧ Keeps s t [Reg.CMD_MON_STAT_LOCK_IN_S])
  ∧ (∀ s : State, s.running = true → s.recovery = false → s.monBusy = false → s.lc ≠ 4 → s.mon.fill ≤ 60000 * 10000000000 →
    ∃ t, exec .monUnlockChallenge s = .next t
      ∧ t.out = [.line (if s.mon.barred then ascii ".ERR " ++ statusName Status.AUTH_FAILED
                        else ascii ".OK" ++ (ascii " " ++ hexText s.challenge))]
      ∧ t = { s with out := t.out, regs := t.regs, mon := t.mon } ∧ Keeps s t [Reg.CMD_MON_STAT_LOCK_IN_S])
  ∧ (∀ (s : State) (g : List Byte), s.running = true → s.recovery = false → s.monBusy = false → s.lc ≠ 4 → g.length = 64 →
      s.mon.barred = false →
    ∃ t, exec (.monUnlock g) s = .next t
      ∧ (if (s.serviceSigned (s.authMessage 0x80) g || Config.ed25519 Config.vendorKey (s.authMessage 0x80) g) = true then
          t.rd Reg.CMD_MON_STAT_UNLOCKED = 1 ∧ t.rd Reg.CMD_MON_STAT_LOCK_IN_S = 1800
            ∧ t.rd Reg.CMD_MON_STAT_UNLOCKS = s.oneMore Reg.CMD_MON_STAT_UNLOCKS
         else t.rd Reg.CMD_MON_STAT_UNLOCKED = s.rd Reg.CMD_MON_STAT_UNLOCKED
            ∧ t.rd Reg.CMD_MON_STAT_AUTH_FAILS = s.oneMore Reg.CMD_MON_STAT_AUTH_FAILS ∧ t.flt = s.flt)
      ∧ t.free = s.free + 8 ∧ t.mem = s.mem ∧ t.ses = s.ses)
  ∧ (∀ s : State, s.running = true → s.recovery = false → s.monBusy = false → s.lc ≠ 4 → s.mon.fill ≤ 60000 * 10000000000 →
      s.rd Reg.CMD_MON_STAT_UNLOCKED = 1 →
    ∃ t, exec .monLock s = .next t ∧ t.rd Reg.CMD_MON_STAT_UNLOCKED = 0 ∧ t.rd Reg.CMD_MON_STAT_LOCK_IN_S = 0 ∧ t.out = [.line (ascii ".OK")]
      ∧ t = { s with out := t.out, regs := t.regs, mon := t.mon, flt := { s.flt with queue := s.queueEvent Ev.MON_LOCKED } }
      ∧ Keeps s t ([Reg.CMD_MON_STAT_UNLOCKED, Reg.CMD_MON_STAT_LOCK_IN_S] ++ journalFlds))
  ∧ (∀ s : State, s.running = true → s.rd Reg.CMD_MON_STAT_UNLOCKED = 1 → s.agoNs s.mon.lastLine (idleLimitS * 1000000000) = true →
    ∃ t, exec .monUnlockIdle s = .next t ∧ t.rd Reg.CMD_MON_STAT_UNLOCKED = 0 ∧ t.rd Reg.CMD_MON_STAT_LOCK_IN_S = 0
      ∧ t = { s with out := [], regs := t.regs, flt := { s.flt with queue := s.queueEvent Ev.MON_LOCKED } }
      ∧ Keeps s t ([Reg.CMD_MON_STAT_UNLOCKED, Reg.CMD_MON_STAT_LOCK_IN_S] ++ journalFlds))
  ∧ (∀ s : State, s.running = true → s.recovery = false → s.mon.fill ≤ 60000 * 10000000000 → s.monBusy = true ∨ s.lc = 4 →
    ∃ t, exec .monLock s = .next t
      ∧ t.out = [.line (ascii ".ERR " ++ statusName (if s.monBusy then Status.RESOURCE_BUSY else Status.LIFECYCLE_REFUSED))]
      ∧ t = { s with out := t.out, regs := t.regs, mon := t.mon } ∧ Keeps s t [Reg.CMD_MON_STAT_LOCK_IN_S])
  ∧ (∀ s : State, s.running = true → s.agoNs s.mon.barAt 60000000000 = true →
    ∃ t, exec .monAuthBackoffEnd s = .next t ∧ t = { s with out := [], mon := { s.mon with barred := false } })
  ∧ (∀ s : State, s.running = true →
    ∃ t, exec .monBreak s = .next t ∧ t.rd Reg.CMD_MON_CFG_BAUD = 3 ∧ t.rd Reg.CMD_MON_STAT_BREAK_SEEN = 1
      ∧ t = { s with out := [], regs := t.regs, seen := s.seen ++ [Reg.CMD_MON_STAT_BREAK_SEEN] }
      ∧ Keeps s t [Reg.CMD_MON_CFG_BAUD, Reg.CMD_MON_STAT_BREAK_SEEN])
  ∧ (∀ s : State, s.running = true →
    ∃ t, exec .monFramingError s = .next t ∧ t.rd Reg.CMD_MON_STAT_FRAMING_ERR = s.oneMore Reg.CMD_MON_STAT_FRAMING_ERR
      ∧ t.rd (Reg.CMD_PATH_STAT_NOT_PACKET Path.mon.index) = s.oneMore (Reg.CMD_PATH_STAT_NOT_PACKET Path.mon.index)
      ∧ t = { s with out := [], regs := t.regs } ∧ Keeps s t [Reg.CMD_MON_STAT_FRAMING_ERR, Reg.CMD_PATH_STAT_NOT_PACKET Path.mon.index])
  ∧ (∀ s : State, s.running = true → ∃ t, exec .monLineStall s = .next t ∧ t = { s with out := [] })

/-- Each session's shadow set. A SET of whole objects that no check refuses stores every object with an SH field whole in
the session's own set, in place of any earlier shadow of it; every other shadow of the set, and every other session's
set, stays. A set so left holds at most 1,024 objects and 65,536 bytes. A SET that would exceed either limit is
refused with SHADOW_FULL and stores nothing. (R162) -/
def Obligations.ShadowSets : Prop :=
  (∀ (s : State) (r : Req) (a : Word) (d : List Byte) (l : List (Nat × Nat)), Ready s r Verb.SET → 4 ≤ d.length → d.length ≤ 1400 → d.length % 4 = 0 →
      a.toNat < memBase → objectsIn 351 a.toNat (a.toNat + d.length) = some l → (∀ p ∈ l, inSafety p.1 = false) →
      (s.rd Reg.LC_STATE_STATE = 2 → ∀ p ∈ l, identityObject p.1 = false) →
      (∀ p ∈ l, (s.taken r).objectRefusal p.1 p.2 (slice d (p.1 - a.toNat) p.2) = none) →
      (∃ u, State.writeObjects (l.map (fun p => (p.1, slice d (p.1 - a.toNat) p.2))) (s.taken r) = .ok u) →
      (s.setAfter r.session a.toNat d l).length ≤ 1024 → shadowBytes (s.setAfter r.session a.toNat d l) ≤ 65536 →
    ∃ t, exec (.set r a d) s = .next t ∧ Completed s t r Verb.SET 0 Status.OK [] s.stage
      ∧ (∀ p ∈ l, objectShadowed p.1 p.2 = true → assocGet (t.sess r.session).shadow p.1 = some (slice d (p.1 - a.toNat) p.2))
      ∧ (∀ x : Nat, (∀ p ∈ l, objectShadowed p.1 p.2 = true → p.1 ≠ x) →
          assocGet (t.sess r.session).shadow x = assocGet (s.sess r.session).shadow x)
      ∧ (∀ j : Fin 4, j ≠ r.session → (t.sess j).shadow = (s.sess j).shadow))
  ∧ (∀ (s : State) (r : Req) (a : Word) (d : List Byte) (l : List (Nat × Nat)), Ready s r Verb.SET → 4 ≤ d.length → d.length ≤ 1400 → d.length % 4 = 0 →
      a.toNat < memBase → objectsIn 351 a.toNat (a.toNat + d.length) = some l → (∀ p ∈ l, inSafety p.1 = false) →
      (s.rd Reg.LC_STATE_STATE = 2 → ∀ p ∈ l, identityObject p.1 = false) →
      (∀ p ∈ l, (s.taken r).objectRefusal p.1 p.2 (slice d (p.1 - a.toNat) p.2) = none) → (∃ p ∈ l, objectShadowed p.1 p.2 = true) →
      1024 < (s.setAfter r.session a.toNat d l).length ∨ 65536 < shadowBytes (s.setAfter r.session a.toNat d l) →
    ∃ t, exec (.set r a d) s = .next t ∧ Completed s t r Verb.SET 0 Status.SHADOW_FULL [] s.stage
      ∧ t = { s with regs := t.regs, ses := t.ses, turn := r.session, canTx := t.canTx, out := t.out }
      ∧ (∀ j : Fin 4, (t.sess j).shadow = (s.sess j).shadow) ∧ Keeps s t (sessionFlds r.session))

/-- A safety channel takes a level that four cycles in a row have read. Over safety cycles of 250 µs, each channel of a
pair has the ON level once the last four cycles in a row have read it, and the OFF level once they have read that; as
long as no four in a row have read the other level it keeps the accepted one, whatever lies between: a reading between
the thresholds counts for neither. A change at the pad is therefore accepted with its fourth reading. (R494) -/
def Obligations.AcceptedLevels : Prop :=
  (∀ (s : State) (i : Fin 8) (l : List CycleIn), s.isl.started = true → 4 ≤ l.length →
      ((∀ c ∈ l.drop (l.length - 4), (c.sin[i]).1 = .on) → (s.afterCycles l).rd (Reg.SAFE_IN_A_ON i) = 1)
      ∧ ((∀ c ∈ l.drop (l.length - 4), (c.sin[i]).1 = .off) → (s.afterCycles l).rd (Reg.SAFE_IN_A_ON i) = 0))
  ∧ (∀ (s : State) (i : Fin 8) (l : List CycleIn), s.isl.started = true → 4 ≤ l.length →
      ((∀ c ∈ l.drop (l.length - 4), (c.sin[i]).2 = .on) → (s.afterCycles l).rd (Reg.SAFE_IN_B_ON i) = 1)
      ∧ ((∀ c ∈ l.drop (l.length - 4), (c.sin[i]).2 = .off) → (s.afterCycles l).rd (Reg.SAFE_IN_B_ON i) = 0))
  ∧ (∀ (s : State) (i : Fin 8) (l : List CycleIn), s.isl.started = true → (s.pair i).na = 0 →
      (s.rd (Reg.SAFE_IN_A_ON i) = 0 → (∀ k, k + 4 ≤ l.length → ∃ c ∈ (l.drop k).take 4, (c.sin[i]).1 ≠ .on) →
        (s.afterCycles l).rd (Reg.SAFE_IN_A_ON i) = 0)
      ∧ (s.rd (Reg.SAFE_IN_A_ON i) = 1 → (∀ k, k + 4 ≤ l.length → ∃ c ∈ (l.drop k).take 4, (c.sin[i]).1 ≠ .off) →
        (s.afterCycles l).rd (Reg.SAFE_IN_A_ON i) = 1))
  ∧ (∀ (s : State) (i : Fin 8) (l : List CycleIn), s.isl.started = true → (s.pair i).nb = 0 →
      (s.rd (Reg.SAFE_IN_B_ON i) = 0 → (∀ k, k + 4 ≤ l.length → ∃ c ∈ (l.drop k).take 4, (c.sin[i]).2 ≠ .on) →
        (s.afterCycles l).rd (Reg.SAFE_IN_B_ON i) = 0)
      ∧ (s.rd (Reg.SAFE_IN_B_ON i) = 1 → (∀ k, k + 4 ≤ l.length → ∃ c ∈ (l.drop k).take 4, (c.sin[i]).2 ≠ .off) →
        (s.afterCycles l).rd (Reg.SAFE_IN_B_ON i) = 1))

/-- A step executes the command at the front of the queue. A step of a state whose queue has a command at its front is
that command's execution on the state with the rest of the queue; with an empty queue the block idles (the model's
choice, log entry 9). (R156) -/
def Obligations.StepTakesTheFrontCommand : Prop :=
  (∀ (c : Instr) (l : List Instr) (s : State), s.pending = c :: l → step s = exec c { s with pending := l })
  ∧ (∀ s : State, s.pending = [] → step s = .next s)

/-- The state right after reset. At reset the module is in the Off region with an empty queue, memory and registers in
their canonical forms and memory reading 0, and fields read as their Reset columns say: TS 500, CHECK_N 256,
TAKEOVER_EN and JOIN_AUTO 1, RETRY_S 10, the thermistors' limits 90, 100 and 115, BAUD 3. (R11, R32, R79, R94, R319,
R485, R579, R597) -/
def Obligations.ResetState : Prop :=
  State.reset.power.region = .off ∧ State.reset.pending = [] ∧ Memory.wf State.reset.mem = true ∧ Words.wf State.reset.regs = true
    ∧ (∀ a : Nat, State.reset.byte a = 0) ∧ (∀ a : Nat, State.reset.word a = resetWord a)
    ∧ State.reset.rd Reg.CLK_STAGE_PERIOD_TS = 500 ∧ State.reset.rd Reg.LOOP_CFG_CHECK_N = 256
    ∧ State.reset.rd Reg.PAIR_CFG_TAKEOVER_EN = 1 ∧ State.reset.rd Reg.PAIR_CFG_JOIN_AUTO = 1 ∧ State.reset.rd Reg.PAIR_CFG_RETRY_S = 10
    ∧ State.reset.rd Reg.THERM_NTC_LIM_WARN = 90 ∧ State.reset.rd Reg.THERM_NTC_LIM_THROTTLE = 100
    ∧ State.reset.rd Reg.THERM_NTC_LIM_SHUTDOWN = 115 ∧ State.reset.rd Reg.CMD_MON_CFG_BAUD = 3

/-- A packet that is sent is received as it was. The bytes of every packet whose fields fit theirs, and that is one R149
admits, pass the checks of R149 in order and spell that packet again: no bit of a field is lost, and the check code
that closes a packet is the one that the receiver computes. (R146, R148, R149) -/
def Obligations.PacketsRoundTrip : Prop :=
  ∀ p : Packet, p.version = 1 → p.head.session < 4 → p.head.seq < 2 ^ 32 → p.head.verb < 256 → p.head.mood < 4 → p.head.base < 4 →
    p.head.flags < 16 → p.head.flags % 2 = 0 → p.rest9 = 0 → p.payload.length ≤ 1400 → p.addr < 2 ^ 32 → p.due < 2 ^ 64 →
    (p.due ≠ 0 → p.head.mood = 2) → (p.addr ≠ 0 → p.head.verb = Verb.GET ∨ p.head.verb = Verb.SET) →
    receive p.bytes = .passed p

/-- Every step keeps memory and registers in their canonical forms. Where the memory window lists only nonzero bytes of
the window at rising addresses, and the registers list no word at its reset value and rising addresses, every step
leaves them so, whatever the command: nothing is ever stored outside the memory window. (R7, R11, R104, R107, R122) -/
def Obligations.StepsKeepTheCanonicalForms : Prop :=
  ∀ s t : State, Memory.wf s.mem = true → Words.wf s.regs = true → step s = .next t → Memory.wf t.mem = true ∧ Words.wf t.regs = true
end

