-- ==== Sys2Proof/Laws/Regs.lean ====
section
/-! SUPPORT. Reading a word or a field after a write: of the same place the value written, of another place what it was. -/

namespace Sys2Proof.Machine

/-! ### Lists by key -/

/-- The entry of a key is the library's search for it. -/
theorem assocGet_find {β : Type} (l : List (Nat × β)) (a : Nat) : assocGet l a = (l.find? (·.1 == a)).map Prod.snd := by
  induction l with
  | nil => rfl
  | cons p t ih => rcases eq_or_ne p.1 a with h | h <;> simp [assocGet, h, ih]

/-- A list without one key answers none for it, and for any other what it answered. -/
theorem assocGet_erase {β : Type} (l : List (Nat × β)) (a b : Nat) : assocGet (assocErase l a) b = if b = a then none else assocGet l b := by
  simp only [assocGet_find, assocErase, List.find?_filter]
  split
  case isTrue h => rw [List.find?_eq_none.mpr (fun p _ => by simp [h])]; rfl
  case isFalse h =>
    congr 2
    funext p
    rcases eq_or_ne p.1 b with e | e <;> simp [e, h]

theorem assocGet_erase_same {β : Type} (l : List (Nat × β)) (a : Nat) : assocGet (assocErase l a) a = none := by rw [assocGet_erase, if_pos rfl]

theorem assocGet_erase_other {β : Type} (l : List (Nat × β)) {a b : Nat} (h : b ≠ a) : assocGet (assocErase l a) b = assocGet l b := by
  rw [assocGet_erase, if_neg h]

/-- Inserting puts the entry between the keys up to its own and the larger ones. -/
theorem assocInsert_span {β : Type} (l : List (Nat × β)) (a : Nat) (w : β) :
    assocInsert l a w = l.takeWhile (fun p => decide (p.1 ≤ a)) ++ (a, w) :: l.dropWhile (fun p => decide (p.1 ≤ a)) := by
  induction l with
  | nil => rfl
  | cons p t ih => rcases Nat.lt_or_ge a p.1 with h | h <;> simp [assocInsert, h, ih, Nat.not_lt.mpr, Nat.not_le.mpr]

/-- The entry of a key after inserting one: of the key that was not listed the new one. -/
theorem assocGet_insert_same {β : Type} (l : List (Nat × β)) (a : Nat) (w : β) (h : assocGet l a = none) :
    assocGet (assocInsert l a w) a = some w := by
  rw [assocGet_find, Option.map_eq_none_iff, List.find?_eq_none] at h
  rw [assocGet_find, assocInsert_span, List.find?_append, List.find?_eq_none.mpr (fun p hp => h p (List.takeWhile_prefix _ |>.subset hp))]
  simp

theorem assocGet_insert_other {β : Type} (l : List (Nat × β)) {a b : Nat} (w : β) (h : b ≠ a) :
    assocGet (assocInsert l a w) b = assocGet l b := by
  have hs := congrArg (List.find? (·.1 == b)) (List.takeWhile_append_dropWhile (p := fun p : Nat × β => decide (p.1 ≤ a)) (l := l))
  rw [List.find?_append] at hs
  rw [assocGet_find, assocGet_find, assocInsert_span, List.find?_append, List.find?_cons_of_neg (by simpa using h.symm), hs]

/-! ### Words and fields -/

/-- The word just set. -/
@[simp] theorem State.word_setWord_same (s : State) (a : Nat) (w : Word) : (s.setWord a w).word a = w := by
  unfold State.word State.setWord assocPut
  by_cases h : w = resetWord a
  · simp [h, assocGet_erase_same]
  · simp [h, assocGet_insert_same _ _ _ (assocGet_erase_same _ _)]

/-- Another word than the one set. -/
theorem State.word_setWord_other (s : State) {a b : Nat} (w : Word) (h : b ≠ a) : (s.setWord a w).word b = s.word b := by
  unfold State.word State.setWord assocPut
  by_cases hw : w = resetWord a
  · simp [hw, assocGet_erase_other _ h]
  · simp [hw, assocGet_insert_other _ _ h, assocGet_erase_other _ h]

theorem getLsbD_bitMask (m l k : Nat) : (bitMask m l).getLsbD k = (decide (k < 32) && decide (l ≤ k) && decide (k - l < m - l + 1)) := by
  simp only [bitMask, BitVec.getLsbD_shiftLeft, BitVec.getLsbD_setWidth, BitVec.getLsbD_allOnes]
  by_cases h1 : k < 32 <;> by_cases h2 : k < l <;> by_cases h3 : k - l < m - l + 1 <;> (simp [h1, h2, h3]; try omega)

/-- A field reads the value just written, as far as it holds it. -/
theorem getBits_setBits_same (w : Word) {m l : Nat} (v : Nat) (h : l ≤ m) (hm : m < 32) :
    getBits (setBits w m l v) m l = v % 2 ^ (m - l + 1) := by
  have : (setBits w m l v).extractLsb' l (m - l + 1) = BitVec.ofNat (m - l + 1) v := by
    apply BitVec.eq_of_getLsbD_eq
    intro i hi
    simp only [BitVec.getLsbD_extractLsb', setBits, BitVec.getLsbD_or, BitVec.getLsbD_and, BitVec.getLsbD_not, getLsbD_bitMask,
      BitVec.getLsbD_shiftLeft, BitVec.getLsbD_setWidth]
    have h1 : l + i < 32 := by omega
    have h2 : ¬ l + i < l := by omega
    have h3 : l + i - l = i := by omega
    simp [hi, h1, h2, h3]
    intro; omega
  unfold getBits
  rw [this, BitVec.toNat_ofNat]

/-- A field that shares no bit with the one written reads as before. -/
theorem getBits_setBits_apart (w : Word) {m l m' l' : Nat} (v : Nat) (h : l ≤ m) (_hm : m < 32) (h' : l' ≤ m') (ha : m < l' ∨ m' < l) :
    getBits (setBits w m l v) m' l' = getBits w m' l' := by
  unfold getBits
  congr 1
  apply BitVec.eq_of_getLsbD_eq
  intro i hi
  simp only [BitVec.getLsbD_extractLsb', setBits, BitVec.getLsbD_or, BitVec.getLsbD_and, BitVec.getLsbD_not, getLsbD_bitMask,
    BitVec.getLsbD_shiftLeft, BitVec.getLsbD_setWidth, BitVec.getLsbD_ofNat]
  by_cases hk : l' + i < 32
  · by_cases hl : l' + i < l
    · simp [hi, hk, hl]
    · have h1 : ¬ (l' + i - l < m - l + 1) := by omega
      simp [hi, hk, hl, h1]
  · simp [hk]
    intro _
    exact BitVec.getLsbD_of_ge _ _ (by omega)

/-- The field just written. -/
theorem State.rd_wr_same (s : State) {f : Fld} (v : Nat) (h : f.within) : (s.wr f v).rd f = v % 2 ^ (f.msb - f.lsb + 1) := by
  unfold State.rd State.wr
  rw [State.word_setWord_same]
  exact getBits_setBits_same _ _ h.1 h.2

/-- Another field than the one written. -/
theorem State.rd_wr_apart (s : State) {f g : Fld} (v : Nat) (hf : f.within) (hg : g.within) (h : f.apart g) : (s.wr f v).rd g = s.rd g := by
  unfold State.rd State.wr
  by_cases ha : g.addr = f.addr
  · rw [ha, State.word_setWord_same]
    refine getBits_setBits_apart _ _ hf.1 hf.2 hg.1 ?_
    rcases h with h | h | h
    · exact absurd ha.symm h
    · exact Or.inl h
    · exact Or.inr h
  · rw [State.word_setWord_other _ _ ha]

/-- A word that the field written does not lie in. -/
theorem State.word_wr_other (s : State) {f : Fld} {a : Nat} (v : Nat) (h : a ≠ f.addr) : (s.wr f v).word a = s.word a :=
  State.word_setWord_other _ _ h

/-- What of the state the words do not depend on. -/
theorem State.word_congr {s t : State} (h : s.regs = t.regs) (a : Nat) : s.word a = t.word a := by unfold State.word; rw [h]

theorem State.rd_congr {s t : State} (h : s.regs = t.regs) (f : Fld) : s.rd f = t.rd f := by unfold State.rd; rw [State.word_congr h]

end Sys2Proof.Machine
end

