-- ==== Sys2Proof/Laws/Frame.lean ====
section
/-! SUPPORT. Frames: which register fields an operation may change, and that it changes nothing else of the state. -/

namespace Sys2Proof.Machine

open Sys2Proof

/-! ### When a command acts -/

theorem always_eq (s : State) (f : State → State) : always s f = .next (f { s with out := [] }) := rfl

theorem onRun_eq {s : State} (h : s.running = true) (f : State → State) : onRun s f = .next (f { s with out := [] }) := by
  have h' : ({ s with out := [] } : State).running = true := h
  simp only [onRun, h', if_true]

theorem onPower_eq {s : State} (h : s.power.region = .full ∧ s.power.held = false) (f : State → State) :
    onPower s f = .next (f { s with out := [] }) := by simp [onPower, always, h]

/-! ### Keeping registers -/

variable {s t u : State} {fs gs : List Fld} {f : Fld}

theorem Keeps.refl (s : State) (fs : List Fld) : Keeps s s fs := fun _ _ _ => rfl

/-- Only the words matter. -/
theorem Keeps.of_regs (h : t.regs = s.regs) (fs : List Fld) : Keeps s t fs := fun g _ _ => State.rd_congr h g

theorem Keeps.trans (h : Keeps s t fs) (h' : Keeps t u fs) : Keeps s u fs :=
  fun g hg ha => (h' g hg ha).trans (h g hg ha)

theorem Keeps.mono (h : Keeps s t fs) (hs : ∀ f ∈ fs, f ∈ gs) : Keeps s t gs :=
  fun g hg ha => h g hg (fun f hf => ha f (hs f hf))

/-- A field of the list is written. -/
theorem Keeps.wr (h : Keeps s t fs) (v : Nat) (hf : f ∈ fs) (ho : f.within) : Keeps s (t.wr f v) fs :=
  fun g hg ha => (State.rd_wr_apart t v ho hg (ha f hf)).trans (h g hg ha)

section

variable (h : Keeps s t fs)
include h

theorem Keeps.wrB (b : Bool) (hf : f ∈ fs) (ho : f.within) : Keeps s (t.wrB f b) fs := h.wr _ hf ho
theorem Keeps.wrS (v : Int) (hf : f ∈ fs) (ho : f.within) : Keeps s (t.wrS f v) fs := h.wr _ hf ho
theorem Keeps.wrSat (v : Nat) (hf : f ∈ fs) (ho : f.within) : Keeps s (t.wrSat f v) fs := h.wr _ hf ho
theorem Keeps.inc (n : Nat) (hf : f ∈ fs) (ho : f.within) : Keeps s (t.inc f n) fs := h.wr _ hf ho

end

/-- Another state with the same words. -/
theorem Keeps.congr (h : Keeps s t fs) (hr : u.regs = t.regs) : Keeps s u fs :=
  h.trans (Keeps.of_regs hr fs)

/-! ### The journal and faults -/

@[simp] theorem State.raise_regs (s : State) (c : Nat) (k : FaultClass) (b : Nat) (d : List Byte) (m : Bool) :
    (s.raise c k b d m).regs = s.regs := by unfold State.raise; split <;> rfl

@[simp] theorem State.askTrigger_regs (s : State) : s.askTrigger.regs = s.regs := rfl

/-- Raising a fault changes nothing but the list of those raised. -/
theorem State.raise_eq (s : State) (c : Nat) (k : FaultClass) (b : Nat) (d : List Byte) (m : Bool) :
    s.raise c k b d m = { s with flt := (s.raise c k b d m).flt } := by unfold State.raise; split <;> rfl

/-- Journaling changes nothing but the journal's queue and QUEUED or DROPPED. -/
theorem State.journal_eq (s : State) (c k b : Nat) (d : List Byte) (m : Bool) :
    s.journal c k b d m = { s with flt := (s.journal c k b d m).flt, regs := (s.journal c k b d m).regs } := rfl

theorem State.event_eq (s : State) (c b : Nat) (d : List Byte) :
    s.event c b d = { s with flt := (s.event c b d).flt, regs := (s.event c b d).regs } := rfl

theorem Keeps.journal (h : Keeps s t fs) (c k b : Nat) (d : List Byte) (m : Bool)
    (hq : Reg.JRNL_STAT_QUEUED ∈ fs) (hd : Reg.JRNL_STAT_DROPPED ∈ fs) : Keeps s (t.journal c k b d m) fs := by
  by_cases hr : t.recovery
  · exact h.congr (by simp [State.journal, State.enqueue, State.queueRegs, hr])
  · by_cases hl : t.flt.queue.length < 1024
    · exact (h.wr (t.flt.queue.length + 1) hq (by decide)).congr (by simp [State.journal, State.enqueue, State.queueRegs, hr, hl])
    · exact (h.inc 1 hd (by decide)).congr (by simp [State.journal, State.enqueue, State.queueRegs, hr, hl])

theorem Keeps.event (h : Keeps s t fs) (c b : Nat) (d : List Byte)
    (hq : Reg.JRNL_STAT_QUEUED ∈ fs) (hd : Reg.JRNL_STAT_DROPPED ∈ fs) : Keeps s (t.event c b d) fs := h.journal c 0 b d false hq hd

theorem Keeps.raise (h : Keeps s t fs) (c : Nat) (k : FaultClass) (b : Nat) (d : List Byte) (m : Bool) :
    Keeps s (t.raise c k b d m) fs := h.congr (State.raise_regs t c k b d m)

end Sys2Proof.Machine
end

