-- ==== Sys2Proof/Laws/State.lean ====
section
/-! SUPPORT. What the named updates of a state leave alone: one lemma per update and field, so that no later proof unfolds an update. -/

namespace Sys2Proof.Machine

/-! ### setWord -/

section

variable (s : State) (a : Nat) (w : Word)

@[simp] theorem State.setWord_mem : (s.setWord a w).mem = s.mem := rfl
@[simp] theorem State.setWord_power : (s.setWord a w).power = s.power := rfl
@[simp] theorem State.setWord_flash : (s.setWord a w).flash = s.flash := rfl
@[simp] theorem State.setWord_sto : (s.setWord a w).sto = s.sto := rfl
@[simp] theorem State.setWord_clk : (s.setWord a w).clk = s.clk := rfl
@[simp] theorem State.setWord_ses : (s.setWord a w).ses = s.ses := rfl
@[simp] theorem State.setWord_canRx : (s.setWord a w).canRx = s.canRx := rfl
@[simp] theorem State.setWord_canTx : (s.setWord a w).canTx = s.canTx := rfl
@[simp] theorem State.setWord_mon : (s.setWord a w).mon = s.mon := rfl
@[simp] theorem State.setWord_lastCommit : (s.setWord a w).lastCommit = s.lastCommit := rfl
@[simp] theorem State.setWord_turn : (s.setWord a w).turn = s.turn := rfl
@[simp] theorem State.setWord_seen : (s.setWord a w).seen = s.seen := rfl
@[simp] theorem State.setWord_seenOld : (s.setWord a w).seenOld = s.seenOld := rfl
@[simp] theorem State.setWord_flt : (s.setWord a w).flt = s.flt := rfl
@[simp] theorem State.setWord_duo : (s.setWord a w).duo = s.duo := rfl
@[simp] theorem State.setWord_mod : (s.setWord a w).mod = s.mod := rfl
@[simp] theorem State.setWord_drv : (s.setWord a w).drv = s.drv := rfl
@[simp] theorem State.setWord_meas : (s.setWord a w).meas = s.meas := rfl
@[simp] theorem State.setWord_therm : (s.setWord a w).therm = s.therm := rfl
@[simp] theorem State.setWord_isl : (s.setWord a w).isl = s.isl := rfl
@[simp] theorem State.setWord_net : (s.setWord a w).net = s.net := rfl
@[simp] theorem State.setWord_atB : (s.setWord a w).atB = s.atB := rfl
@[simp] theorem State.setWord_cells : (s.setWord a w).cells = s.cells := rfl
@[simp] theorem State.setWord_link : (s.setWord a w).link = s.link := rfl
@[simp] theorem State.setWord_loop : (s.setWord a w).loop = s.loop := rfl
@[simp] theorem State.setWord_pol : (s.setWord a w).pol = s.pol := rfl
@[simp] theorem State.setWord_out : (s.setWord a w).out = s.out := rfl
@[simp] theorem State.setWord_free : (s.setWord a w).free = s.free := rfl
@[simp] theorem State.setWord_pending : (s.setWord a w).pending = s.pending := rfl

end

/-! ### wr -/

section

variable (s : State) (f : Fld) (v : Nat)

@[simp] theorem State.wr_mem : (s.wr f v).mem = s.mem := rfl
@[simp] theorem State.wr_power : (s.wr f v).power = s.power := rfl
@[simp] theorem State.wr_flash : (s.wr f v).flash = s.flash := rfl
@[simp] theorem State.wr_sto : (s.wr f v).sto = s.sto := rfl
@[simp] theorem State.wr_clk : (s.wr f v).clk = s.clk := rfl
@[simp] theorem State.wr_ses : (s.wr f v).ses = s.ses := rfl
@[simp] theorem State.wr_canRx : (s.wr f v).canRx = s.canRx := rfl
@[simp] theorem State.wr_canTx : (s.wr f v).canTx = s.canTx := rfl
@[simp] theorem State.wr_mon : (s.wr f v).mon = s.mon := rfl
@[simp] theorem State.wr_lastCommit : (s.wr f v).lastCommit = s.lastCommit := rfl
@[simp] theorem State.wr_turn : (s.wr f v).turn = s.turn := rfl
@[simp] theorem State.wr_seen : (s.wr f v).seen = s.seen := rfl
@[simp] theorem State.wr_seenOld : (s.wr f v).seenOld = s.seenOld := rfl
@[simp] theorem State.wr_flt : (s.wr f v).flt = s.flt := rfl
@[simp] theorem State.wr_duo : (s.wr f v).duo = s.duo := rfl
@[simp] theorem State.wr_mod : (s.wr f v).mod = s.mod := rfl
@[simp] theorem State.wr_drv : (s.wr f v).drv = s.drv := rfl
@[simp] theorem State.wr_meas : (s.wr f v).meas = s.meas := rfl
@[simp] theorem State.wr_therm : (s.wr f v).therm = s.therm := rfl
@[simp] theorem State.wr_isl : (s.wr f v).isl = s.isl := rfl
@[simp] theorem State.wr_net : (s.wr f v).net = s.net := rfl
@[simp] theorem State.wr_atB : (s.wr f v).atB = s.atB := rfl
@[simp] theorem State.wr_cells : (s.wr f v).cells = s.cells := rfl
@[simp] theorem State.wr_link : (s.wr f v).link = s.link := rfl
@[simp] theorem State.wr_loop : (s.wr f v).loop = s.loop := rfl
@[simp] theorem State.wr_pol : (s.wr f v).pol = s.pol := rfl
@[simp] theorem State.wr_out : (s.wr f v).out = s.out := rfl
@[simp] theorem State.wr_free : (s.wr f v).free = s.free := rfl
@[simp] theorem State.wr_pending : (s.wr f v).pending = s.pending := rfl

end

/-! ### wrB -/

section

variable (s : State) (f : Fld) (b : Bool)

@[simp] theorem State.wrB_mem : (s.wrB f b).mem = s.mem := rfl
@[simp] theorem State.wrB_power : (s.wrB f b).power = s.power := rfl
@[simp] theorem State.wrB_flash : (s.wrB f b).flash = s.flash := rfl
@[simp] theorem State.wrB_sto : (s.wrB f b).sto = s.sto := rfl
@[simp] theorem State.wrB_clk : (s.wrB f b).clk = s.clk := rfl
@[simp] theorem State.wrB_ses : (s.wrB f b).ses = s.ses := rfl
@[simp] theorem State.wrB_canRx : (s.wrB f b).canRx = s.canRx := rfl
@[simp] theorem State.wrB_canTx : (s.wrB f b).canTx = s.canTx := rfl
@[simp] theorem State.wrB_mon : (s.wrB f b).mon = s.mon := rfl
@[simp] theorem State.wrB_lastCommit : (s.wrB f b).lastCommit = s.lastCommit := rfl
@[simp] theorem State.wrB_turn : (s.wrB f b).turn = s.turn := rfl
@[simp] theorem State.wrB_seen : (s.wrB f b).seen = s.seen := rfl
@[simp] theorem State.wrB_seenOld : (s.wrB f b).seenOld = s.seenOld := rfl
@[simp] theorem State.wrB_flt : (s.wrB f b).flt = s.flt := rfl
@[simp] theorem State.wrB_duo : (s.wrB f b).duo = s.duo := rfl
@[simp] theorem State.wrB_mod : (s.wrB f b).mod = s.mod := rfl
@[simp] theorem State.wrB_drv : (s.wrB f b).drv = s.drv := rfl
@[simp] theorem State.wrB_meas : (s.wrB f b).meas = s.meas := rfl
@[simp] theorem State.wrB_therm : (s.wrB f b).therm = s.therm := rfl
@[simp] theorem State.wrB_isl : (s.wrB f b).isl = s.isl := rfl
@[simp] theorem State.wrB_net : (s.wrB f b).net = s.net := rfl
@[simp] theorem State.wrB_atB : (s.wrB f b).atB = s.atB := rfl
@[simp] theorem State.wrB_cells : (s.wrB f b).cells = s.cells := rfl
@[simp] theorem State.wrB_link : (s.wrB f b).link = s.link := rfl
@[simp] theorem State.wrB_loop : (s.wrB f b).loop = s.loop := rfl
@[simp] theorem State.wrB_pol : (s.wrB f b).pol = s.pol := rfl
@[simp] theorem State.wrB_out : (s.wrB f b).out = s.out := rfl
@[simp] theorem State.wrB_free : (s.wrB f b).free = s.free := rfl
@[simp] theorem State.wrB_pending : (s.wrB f b).pending = s.pending := rfl

end

/-! ### wrS -/

section

variable (s : State) (f : Fld) (v : Int)

@[simp] theorem State.wrS_mem : (s.wrS f v).mem = s.mem := rfl
@[simp] theorem State.wrS_power : (s.wrS f v).power = s.power := rfl
@[simp] theorem State.wrS_flash : (s.wrS f v).flash = s.flash := rfl
@[simp] theorem State.wrS_sto : (s.wrS f v).sto = s.sto := rfl
@[simp] theorem State.wrS_clk : (s.wrS f v).clk = s.clk := rfl
@[simp] theorem State.wrS_ses : (s.wrS f v).ses = s.ses := rfl
@[simp] theorem State.wrS_canRx : (s.wrS f v).canRx = s.canRx := rfl
@[simp] theorem State.wrS_canTx : (s.wrS f v).canTx = s.canTx := rfl
@[simp] theorem State.wrS_mon : (s.wrS f v).mon = s.mon := rfl
@[simp] theorem State.wrS_lastCommit : (s.wrS f v).lastCommit = s.lastCommit := rfl
@[simp] theorem State.wrS_turn : (s.wrS f v).turn = s.turn := rfl
@[simp] theorem State.wrS_seen : (s.wrS f v).seen = s.seen := rfl
@[simp] theorem State.wrS_seenOld : (s.wrS f v).seenOld = s.seenOld := rfl
@[simp] theorem State.wrS_flt : (s.wrS f v).flt = s.flt := rfl
@[simp] theorem State.wrS_duo : (s.wrS f v).duo = s.duo := rfl
@[simp] theorem State.wrS_mod : (s.wrS f v).mod = s.mod := rfl
@[simp] theorem State.wrS_drv : (s.wrS f v).drv = s.drv := rfl
@[simp] theorem State.wrS_meas : (s.wrS f v).meas = s.meas := rfl
@[simp] theorem State.wrS_therm : (s.wrS f v).therm = s.therm := rfl
@[simp] theorem State.wrS_isl : (s.wrS f v).isl = s.isl := rfl
@[simp] theorem State.wrS_net : (s.wrS f v).net = s.net := rfl
@[simp] theorem State.wrS_atB : (s.wrS f v).atB = s.atB := rfl
@[simp] theorem State.wrS_cells : (s.wrS f v).cells = s.cells := rfl
@[simp] theorem State.wrS_link : (s.wrS f v).link = s.link := rfl
@[simp] theorem State.wrS_loop : (s.wrS f v).loop = s.loop := rfl
@[simp] theorem State.wrS_pol : (s.wrS f v).pol = s.pol := rfl
@[simp] theorem State.wrS_out : (s.wrS f v).out = s.out := rfl
@[simp] theorem State.wrS_free : (s.wrS f v).free = s.free := rfl
@[simp] theorem State.wrS_pending : (s.wrS f v).pending = s.pending := rfl

end

/-! ### wrSat -/

section

variable (s : State) (f : Fld) (v : Nat)

@[simp] theorem State.wrSat_mem : (s.wrSat f v).mem = s.mem := rfl
@[simp] theorem State.wrSat_power : (s.wrSat f v).power = s.power := rfl
@[simp] theorem State.wrSat_flash : (s.wrSat f v).flash = s.flash := rfl
@[simp] theorem State.wrSat_sto : (s.wrSat f v).sto = s.sto := rfl
@[simp] theorem State.wrSat_clk : (s.wrSat f v).clk = s.clk := rfl
@[simp] theorem State.wrSat_ses : (s.wrSat f v).ses = s.ses := rfl
@[simp] theorem State.wrSat_canRx : (s.wrSat f v).canRx = s.canRx := rfl
@[simp] theorem State.wrSat_canTx : (s.wrSat f v).canTx = s.canTx := rfl
@[simp] theorem State.wrSat_mon : (s.wrSat f v).mon = s.mon := rfl
@[simp] theorem State.wrSat_lastCommit : (s.wrSat f v).lastCommit = s.lastCommit := rfl
@[simp] theorem State.wrSat_turn : (s.wrSat f v).turn = s.turn := rfl
@[simp] theorem State.wrSat_seen : (s.wrSat f v).seen = s.seen := rfl
@[simp] theorem State.wrSat_seenOld : (s.wrSat f v).seenOld = s.seenOld := rfl
@[simp] theorem State.wrSat_flt : (s.wrSat f v).flt = s.flt := rfl
@[simp] theorem State.wrSat_duo : (s.wrSat f v).duo = s.duo := rfl
@[simp] theorem State.wrSat_mod : (s.wrSat f v).mod = s.mod := rfl
@[simp] theorem State.wrSat_drv : (s.wrSat f v).drv = s.drv := rfl
@[simp] theorem State.wrSat_meas : (s.wrSat f v).meas = s.meas := rfl
@[simp] theorem State.wrSat_therm : (s.wrSat f v).therm = s.therm := rfl
@[simp] theorem State.wrSat_isl : (s.wrSat f v).isl = s.isl := rfl
@[simp] theorem State.wrSat_net : (s.wrSat f v).net = s.net := rfl
@[simp] theorem State.wrSat_atB : (s.wrSat f v).atB = s.atB := rfl
@[simp] theorem State.wrSat_cells : (s.wrSat f v).cells = s.cells := rfl
@[simp] theorem State.wrSat_link : (s.wrSat f v).link = s.link := rfl
@[simp] theorem State.wrSat_loop : (s.wrSat f v).loop = s.loop := rfl
@[simp] theorem State.wrSat_pol : (s.wrSat f v).pol = s.pol := rfl
@[simp] theorem State.wrSat_out : (s.wrSat f v).out = s.out := rfl
@[simp] theorem State.wrSat_free : (s.wrSat f v).free = s.free := rfl
@[simp] theorem State.wrSat_pending : (s.wrSat f v).pending = s.pending := rfl

end

/-! ### inc -/

section

variable (s : State) (f : Fld) (n : Nat)

@[simp] theorem State.inc_mem : (s.inc f n).mem = s.mem := rfl
@[simp] theorem State.inc_power : (s.inc f n).power = s.power := rfl
@[simp] theorem State.inc_flash : (s.inc f n).flash = s.flash := rfl
@[simp] theorem State.inc_sto : (s.inc f n).sto = s.sto := rfl
@[simp] theorem State.inc_clk : (s.inc f n).clk = s.clk := rfl
@[simp] theorem State.inc_ses : (s.inc f n).ses = s.ses := rfl
@[simp] theorem State.inc_canRx : (s.inc f n).canRx = s.canRx := rfl
@[simp] theorem State.inc_canTx : (s.inc f n).canTx = s.canTx := rfl
@[simp] theorem State.inc_mon : (s.inc f n).mon = s.mon := rfl
@[simp] theorem State.inc_lastCommit : (s.inc f n).lastCommit = s.lastCommit := rfl
@[simp] theorem State.inc_turn : (s.inc f n).turn = s.turn := rfl
@[simp] theorem State.inc_seen : (s.inc f n).seen = s.seen := rfl
@[simp] theorem State.inc_seenOld : (s.inc f n).seenOld = s.seenOld := rfl
@[simp] theorem State.inc_flt : (s.inc f n).flt = s.flt := rfl
@[simp] theorem State.inc_duo : (s.inc f n).duo = s.duo := rfl
@[simp] theorem State.inc_mod : (s.inc f n).mod = s.mod := rfl
@[simp] theorem State.inc_drv : (s.inc f n).drv = s.drv := rfl
@[simp] theorem State.inc_meas : (s.inc f n).meas = s.meas := rfl
@[simp] theorem State.inc_therm : (s.inc f n).therm = s.therm := rfl
@[simp] theorem State.inc_isl : (s.inc f n).isl = s.isl := rfl
@[simp] theorem State.inc_net : (s.inc f n).net = s.net := rfl
@[simp] theorem State.inc_atB : (s.inc f n).atB = s.atB := rfl
@[simp] theorem State.inc_cells : (s.inc f n).cells = s.cells := rfl
@[simp] theorem State.inc_link : (s.inc f n).link = s.link := rfl
@[simp] theorem State.inc_loop : (s.inc f n).loop = s.loop := rfl
@[simp] theorem State.inc_pol : (s.inc f n).pol = s.pol := rfl
@[simp] theorem State.inc_out : (s.inc f n).out = s.out := rfl
@[simp] theorem State.inc_free : (s.inc f n).free = s.free := rfl
@[simp] theorem State.inc_pending : (s.inc f n).pending = s.pending := rfl

end

/-! ### setStage -/

section

variable (s : State) (k : Nat)

@[simp] theorem State.setStage_mem : (s.setStage k).mem = s.mem := rfl
@[simp] theorem State.setStage_power : (s.setStage k).power = s.power := rfl
@[simp] theorem State.setStage_flash : (s.setStage k).flash = s.flash := rfl
@[simp] theorem State.setStage_sto : (s.setStage k).sto = s.sto := rfl
@[simp] theorem State.setStage_clk : (s.setStage k).clk = s.clk := rfl
@[simp] theorem State.setStage_ses : (s.setStage k).ses = s.ses := rfl
@[simp] theorem State.setStage_canRx : (s.setStage k).canRx = s.canRx := rfl
@[simp] theorem State.setStage_canTx : (s.setStage k).canTx = s.canTx := rfl
@[simp] theorem State.setStage_mon : (s.setStage k).mon = s.mon := rfl
@[simp] theorem State.setStage_lastCommit : (s.setStage k).lastCommit = s.lastCommit := rfl
@[simp] theorem State.setStage_turn : (s.setStage k).turn = s.turn := rfl
@[simp] theorem State.setStage_seen : (s.setStage k).seen = s.seen := rfl
@[simp] theorem State.setStage_seenOld : (s.setStage k).seenOld = s.seenOld := rfl
@[simp] theorem State.setStage_flt : (s.setStage k).flt = s.flt := rfl
@[simp] theorem State.setStage_duo : (s.setStage k).duo = s.duo := rfl
@[simp] theorem State.setStage_mod : (s.setStage k).mod = s.mod := rfl
@[simp] theorem State.setStage_drv : (s.setStage k).drv = s.drv := rfl
@[simp] theorem State.setStage_meas : (s.setStage k).meas = s.meas := rfl
@[simp] theorem State.setStage_therm : (s.setStage k).therm = s.therm := rfl
@[simp] theorem State.setStage_isl : (s.setStage k).isl = s.isl := rfl
@[simp] theorem State.setStage_net : (s.setStage k).net = s.net := rfl
@[simp] theorem State.setStage_atB : (s.setStage k).atB = s.atB := rfl
@[simp] theorem State.setStage_cells : (s.setStage k).cells = s.cells := rfl
@[simp] theorem State.setStage_link : (s.setStage k).link = s.link := rfl
@[simp] theorem State.setStage_loop : (s.setStage k).loop = s.loop := rfl
@[simp] theorem State.setStage_pol : (s.setStage k).pol = s.pol := rfl
@[simp] theorem State.setStage_out : (s.setStage k).out = s.out := rfl
@[simp] theorem State.setStage_free : (s.setStage k).free = s.free := rfl
@[simp] theorem State.setStage_pending : (s.setStage k).pending = s.pending := rfl

end

/-! ### setSess -/

section

variable (s : State) (i : Fin 4) (x : Session)

@[simp] theorem State.setSess_mem : (s.setSess i x).mem = s.mem := rfl
@[simp] theorem State.setSess_power : (s.setSess i x).power = s.power := rfl
@[simp] theorem State.setSess_flash : (s.setSess i x).flash = s.flash := rfl
@[simp] theorem State.setSess_sto : (s.setSess i x).sto = s.sto := rfl
@[simp] theorem State.setSess_clk : (s.setSess i x).clk = s.clk := rfl
@[simp] theorem State.setSess_canRx : (s.setSess i x).canRx = s.canRx := rfl
@[simp] theorem State.setSess_canTx : (s.setSess i x).canTx = s.canTx := rfl
@[simp] theorem State.setSess_mon : (s.setSess i x).mon = s.mon := rfl
@[simp] theorem State.setSess_lastCommit : (s.setSess i x).lastCommit = s.lastCommit := rfl
@[simp] theorem State.setSess_turn : (s.setSess i x).turn = s.turn := rfl
@[simp] theorem State.setSess_seen : (s.setSess i x).seen = s.seen := rfl
@[simp] theorem State.setSess_seenOld : (s.setSess i x).seenOld = s.seenOld := rfl
@[simp] theorem State.setSess_flt : (s.setSess i x).flt = s.flt := rfl
@[simp] theorem State.setSess_duo : (s.setSess i x).duo = s.duo := rfl
@[simp] theorem State.setSess_mod : (s.setSess i x).mod = s.mod := rfl
@[simp] theorem State.setSess_drv : (s.setSess i x).drv = s.drv := rfl
@[simp] theorem State.setSess_meas : (s.setSess i x).meas = s.meas := rfl
@[simp] theorem State.setSess_therm : (s.setSess i x).therm = s.therm := rfl
@[simp] theorem State.setSess_isl : (s.setSess i x).isl = s.isl := rfl
@[simp] theorem State.setSess_net : (s.setSess i x).net = s.net := rfl
@[simp] theorem State.setSess_atB : (s.setSess i x).atB = s.atB := rfl
@[simp] theorem State.setSess_cells : (s.setSess i x).cells = s.cells := rfl
@[simp] theorem State.setSess_link : (s.setSess i x).link = s.link := rfl
@[simp] theorem State.setSess_loop : (s.setSess i x).loop = s.loop := rfl
@[simp] theorem State.setSess_pol : (s.setSess i x).pol = s.pol := rfl
@[simp] theorem State.setSess_out : (s.setSess i x).out = s.out := rfl
@[simp] theorem State.setSess_free : (s.setSess i x).free = s.free := rfl
@[simp] theorem State.setSess_pending : (s.setSess i x).pending = s.pending := rfl

end

/-! ### setCell -/

section

variable (s : State) (c : Nat) (r : CellRun)

@[simp] theorem State.setCell_regs : (s.setCell c r).regs = s.regs := rfl
@[simp] theorem State.setCell_mem : (s.setCell c r).mem = s.mem := rfl
@[simp] theorem State.setCell_power : (s.setCell c r).power = s.power := rfl
@[simp] theorem State.setCell_flash : (s.setCell c r).flash = s.flash := rfl
@[simp] theorem State.setCell_sto : (s.setCell c r).sto = s.sto := rfl
@[simp] theorem State.setCell_clk : (s.setCell c r).clk = s.clk := rfl
@[simp] theorem State.setCell_ses : (s.setCell c r).ses = s.ses := rfl
@[simp] theorem State.setCell_canRx : (s.setCell c r).canRx = s.canRx := rfl
@[simp] theorem State.setCell_canTx : (s.setCell c r).canTx = s.canTx := rfl
@[simp] theorem State.setCell_mon : (s.setCell c r).mon = s.mon := rfl
@[simp] theorem State.setCell_lastCommit : (s.setCell c r).lastCommit = s.lastCommit := rfl
@[simp] theorem State.setCell_turn : (s.setCell c r).turn = s.turn := rfl
@[simp] theorem State.setCell_seen : (s.setCell c r).seen = s.seen := rfl
@[simp] theorem State.setCell_seenOld : (s.setCell c r).seenOld = s.seenOld := rfl
@[simp] theorem State.setCell_flt : (s.setCell c r).flt = s.flt := rfl
@[simp] theorem State.setCell_duo : (s.setCell c r).duo = s.duo := rfl
@[simp] theorem State.setCell_mod : (s.setCell c r).mod = s.mod := rfl
@[simp] theorem State.setCell_drv : (s.setCell c r).drv = s.drv := rfl
@[simp] theorem State.setCell_meas : (s.setCell c r).meas = s.meas := rfl
@[simp] theorem State.setCell_therm : (s.setCell c r).therm = s.therm := rfl
@[simp] theorem State.setCell_isl : (s.setCell c r).isl = s.isl := rfl
@[simp] theorem State.setCell_net : (s.setCell c r).net = s.net := rfl
@[simp] theorem State.setCell_atB : (s.setCell c r).atB = s.atB := rfl
@[simp] theorem State.setCell_link : (s.setCell c r).link = s.link := rfl
@[simp] theorem State.setCell_loop : (s.setCell c r).loop = s.loop := rfl
@[simp] theorem State.setCell_pol : (s.setCell c r).pol = s.pol := rfl
@[simp] theorem State.setCell_out : (s.setCell c r).out = s.out := rfl
@[simp] theorem State.setCell_free : (s.setCell c r).free = s.free := rfl
@[simp] theorem State.setCell_pending : (s.setCell c r).pending = s.pending := rfl

end

/-! ### setPair -/

section

variable (s : State) (i : Fin 8) (p : PairRun)

@[simp] theorem State.setPair_regs : (s.setPair i p).regs = s.regs := rfl
@[simp] theorem State.setPair_mem : (s.setPair i p).mem = s.mem := rfl
@[simp] theorem State.setPair_power : (s.setPair i p).power = s.power := rfl
@[simp] theorem State.setPair_flash : (s.setPair i p).flash = s.flash := rfl
@[simp] theorem State.setPair_sto : (s.setPair i p).sto = s.sto := rfl
@[simp] theorem State.setPair_clk : (s.setPair i p).clk = s.clk := rfl
@[simp] theorem State.setPair_ses : (s.setPair i p).ses = s.ses := rfl
@[simp] theorem State.setPair_canRx : (s.setPair i p).canRx = s.canRx := rfl
@[simp] theorem State.setPair_canTx : (s.setPair i p).canTx = s.canTx := rfl
@[simp] theorem State.setPair_mon : (s.setPair i p).mon = s.mon := rfl
@[simp] theorem State.setPair_lastCommit : (s.setPair i p).lastCommit = s.lastCommit := rfl
@[simp] theorem State.setPair_turn : (s.setPair i p).turn = s.turn := rfl
@[simp] theorem State.setPair_seen : (s.setPair i p).seen = s.seen := rfl
@[simp] theorem State.setPair_seenOld : (s.setPair i p).seenOld = s.seenOld := rfl
@[simp] theorem State.setPair_flt : (s.setPair i p).flt = s.flt := rfl
@[simp] theorem State.setPair_duo : (s.setPair i p).duo = s.duo := rfl
@[simp] theorem State.setPair_mod : (s.setPair i p).mod = s.mod := rfl
@[simp] theorem State.setPair_drv : (s.setPair i p).drv = s.drv := rfl
@[simp] theorem State.setPair_meas : (s.setPair i p).meas = s.meas := rfl
@[simp] theorem State.setPair_therm : (s.setPair i p).therm = s.therm := rfl
@[simp] theorem State.setPair_net : (s.setPair i p).net = s.net := rfl
@[simp] theorem State.setPair_atB : (s.setPair i p).atB = s.atB := rfl
@[simp] theorem State.setPair_cells : (s.setPair i p).cells = s.cells := rfl
@[simp] theorem State.setPair_link : (s.setPair i p).link = s.link := rfl
@[simp] theorem State.setPair_loop : (s.setPair i p).loop = s.loop := rfl
@[simp] theorem State.setPair_pol : (s.setPair i p).pol = s.pol := rfl
@[simp] theorem State.setPair_out : (s.setPair i p).out = s.out := rfl
@[simp] theorem State.setPair_free : (s.setPair i p).free = s.free := rfl
@[simp] theorem State.setPair_pending : (s.setPair i p).pending = s.pending := rfl

end

/-! ### setOutp -/

section

variable (s : State) (j : Fin 4) (o : OutRun)

@[simp] theorem State.setOutp_regs : (s.setOutp j o).regs = s.regs := rfl
@[simp] theorem State.setOutp_mem : (s.setOutp j o).mem = s.mem := rfl
@[simp] theorem State.setOutp_power : (s.setOutp j o).power = s.power := rfl
@[simp] theorem State.setOutp_flash : (s.setOutp j o).flash = s.flash := rfl
@[simp] theorem State.setOutp_sto : (s.setOutp j o).sto = s.sto := rfl
@[simp] theorem State.setOutp_clk : (s.setOutp j o).clk = s.clk := rfl
@[simp] theorem State.setOutp_ses : (s.setOutp j o).ses = s.ses := rfl
@[simp] theorem State.setOutp_canRx : (s.setOutp j o).canRx = s.canRx := rfl
@[simp] theorem State.setOutp_canTx : (s.setOutp j o).canTx = s.canTx := rfl
@[simp] theorem State.setOutp_mon : (s.setOutp j o).mon = s.mon := rfl
@[simp] theorem State.setOutp_lastCommit : (s.setOutp j o).lastCommit = s.lastCommit := rfl
@[simp] theorem State.setOutp_turn : (s.setOutp j o).turn = s.turn := rfl
@[simp] theorem State.setOutp_seen : (s.setOutp j o).seen = s.seen := rfl
@[simp] theorem State.setOutp_seenOld : (s.setOutp j o).seenOld = s.seenOld := rfl
@[simp] theorem State.setOutp_flt : (s.setOutp j o).flt = s.flt := rfl
@[simp] theorem State.setOutp_duo : (s.setOutp j o).duo = s.duo := rfl
@[simp] theorem State.setOutp_mod : (s.setOutp j o).mod = s.mod := rfl
@[simp] theorem State.setOutp_drv : (s.setOutp j o).drv = s.drv := rfl
@[simp] theorem State.setOutp_meas : (s.setOutp j o).meas = s.meas := rfl
@[simp] theorem State.setOutp_therm : (s.setOutp j o).therm = s.therm := rfl
@[simp] theorem State.setOutp_net : (s.setOutp j o).net = s.net := rfl
@[simp] theorem State.setOutp_atB : (s.setOutp j o).atB = s.atB := rfl
@[simp] theorem State.setOutp_cells : (s.setOutp j o).cells = s.cells := rfl
@[simp] theorem State.setOutp_link : (s.setOutp j o).link = s.link := rfl
@[simp] theorem State.setOutp_loop : (s.setOutp j o).loop = s.loop := rfl
@[simp] theorem State.setOutp_pol : (s.setOutp j o).pol = s.pol := rfl
@[simp] theorem State.setOutp_out : (s.setOutp j o).out = s.out := rfl
@[simp] theorem State.setOutp_free : (s.setOutp j o).free = s.free := rfl
@[simp] theorem State.setOutp_pending : (s.setOutp j o).pending = s.pending := rfl

end

/-! ### setEth -/

section

variable (s : State) (p : Fin 2) (e : EthRun)

@[simp] theorem State.setEth_regs : (s.setEth p e).regs = s.regs := rfl
@[simp] theorem State.setEth_mem : (s.setEth p e).mem = s.mem := rfl
@[simp] theorem State.setEth_power : (s.setEth p e).power = s.power := rfl
@[simp] theorem State.setEth_flash : (s.setEth p e).flash = s.flash := rfl
@[simp] theorem State.setEth_sto : (s.setEth p e).sto = s.sto := rfl
@[simp] theorem State.setEth_clk : (s.setEth p e).clk = s.clk := rfl
@[simp] theorem State.setEth_ses : (s.setEth p e).ses = s.ses := rfl
@[simp] theorem State.setEth_canRx : (s.setEth p e).canRx = s.canRx := rfl
@[simp] theorem State.setEth_canTx : (s.setEth p e).canTx = s.canTx := rfl
@[simp] theorem State.setEth_mon : (s.setEth p e).mon = s.mon := rfl
@[simp] theorem State.setEth_lastCommit : (s.setEth p e).lastCommit = s.lastCommit := rfl
@[simp] theorem State.setEth_turn : (s.setEth p e).turn = s.turn := rfl
@[simp] theorem State.setEth_seen : (s.setEth p e).seen = s.seen := rfl
@[simp] theorem State.setEth_seenOld : (s.setEth p e).seenOld = s.seenOld := rfl
@[simp] theorem State.setEth_flt : (s.setEth p e).flt = s.flt := rfl
@[simp] theorem State.setEth_duo : (s.setEth p e).duo = s.duo := rfl
@[simp] theorem State.setEth_mod : (s.setEth p e).mod = s.mod := rfl
@[simp] theorem State.setEth_drv : (s.setEth p e).drv = s.drv := rfl
@[simp] theorem State.setEth_meas : (s.setEth p e).meas = s.meas := rfl
@[simp] theorem State.setEth_therm : (s.setEth p e).therm = s.therm := rfl
@[simp] theorem State.setEth_isl : (s.setEth p e).isl = s.isl := rfl
@[simp] theorem State.setEth_atB : (s.setEth p e).atB = s.atB := rfl
@[simp] theorem State.setEth_cells : (s.setEth p e).cells = s.cells := rfl
@[simp] theorem State.setEth_link : (s.setEth p e).link = s.link := rfl
@[simp] theorem State.setEth_loop : (s.setEth p e).loop = s.loop := rfl
@[simp] theorem State.setEth_pol : (s.setEth p e).pol = s.pol := rfl
@[simp] theorem State.setEth_out : (s.setEth p e).out = s.out := rfl
@[simp] theorem State.setEth_free : (s.setEth p e).free = s.free := rfl
@[simp] theorem State.setEth_pending : (s.setEth p e).pending = s.pending := rfl

end

/-! ### setTel -/

section

variable (s : State) (k : Fin 4) (x : TelRun)

@[simp] theorem State.setTel_regs : (s.setTel k x).regs = s.regs := rfl
@[simp] theorem State.setTel_mem : (s.setTel k x).mem = s.mem := rfl
@[simp] theorem State.setTel_power : (s.setTel k x).power = s.power := rfl
@[simp] theorem State.setTel_flash : (s.setTel k x).flash = s.flash := rfl
@[simp] theorem State.setTel_sto : (s.setTel k x).sto = s.sto := rfl
@[simp] theorem State.setTel_clk : (s.setTel k x).clk = s.clk := rfl
@[simp] theorem State.setTel_ses : (s.setTel k x).ses = s.ses := rfl
@[simp] theorem State.setTel_canRx : (s.setTel k x).canRx = s.canRx := rfl
@[simp] theorem State.setTel_canTx : (s.setTel k x).canTx = s.canTx := rfl
@[simp] theorem State.setTel_mon : (s.setTel k x).mon = s.mon := rfl
@[simp] theorem State.setTel_lastCommit : (s.setTel k x).lastCommit = s.lastCommit := rfl
@[simp] theorem State.setTel_turn : (s.setTel k x).turn = s.turn := rfl
@[simp] theorem State.setTel_seen : (s.setTel k x).seen = s.seen := rfl
@[simp] theorem State.setTel_seenOld : (s.setTel k x).seenOld = s.seenOld := rfl
@[simp] theorem State.setTel_flt : (s.setTel k x).flt = s.flt := rfl
@[simp] theorem State.setTel_duo : (s.setTel k x).duo = s.duo := rfl
@[simp] theorem State.setTel_mod : (s.setTel k x).mod = s.mod := rfl
@[simp] theorem State.setTel_drv : (s.setTel k x).drv = s.drv := rfl
@[simp] theorem State.setTel_meas : (s.setTel k x).meas = s.meas := rfl
@[simp] theorem State.setTel_therm : (s.setTel k x).therm = s.therm := rfl
@[simp] theorem State.setTel_isl : (s.setTel k x).isl = s.isl := rfl
@[simp] theorem State.setTel_atB : (s.setTel k x).atB = s.atB := rfl
@[simp] theorem State.setTel_cells : (s.setTel k x).cells = s.cells := rfl
@[simp] theorem State.setTel_link : (s.setTel k x).link = s.link := rfl
@[simp] theorem State.setTel_loop : (s.setTel k x).loop = s.loop := rfl
@[simp] theorem State.setTel_pol : (s.setTel k x).pol = s.pol := rfl
@[simp] theorem State.setTel_out : (s.setTel k x).out = s.out := rfl
@[simp] theorem State.setTel_free : (s.setTel k x).free = s.free := rfl
@[simp] theorem State.setTel_pending : (s.setTel k x).pending = s.pending := rfl

end

/-! ### setCan -/

section

variable (s : State) (c : Fin 2) (x : CanRun)

@[simp] theorem State.setCan_regs : (s.setCan c x).regs = s.regs := rfl
@[simp] theorem State.setCan_mem : (s.setCan c x).mem = s.mem := rfl
@[simp] theorem State.setCan_power : (s.setCan c x).power = s.power := rfl
@[simp] theorem State.setCan_flash : (s.setCan c x).flash = s.flash := rfl
@[simp] theorem State.setCan_sto : (s.setCan c x).sto = s.sto := rfl
@[simp] theorem State.setCan_clk : (s.setCan c x).clk = s.clk := rfl
@[simp] theorem State.setCan_ses : (s.setCan c x).ses = s.ses := rfl
@[simp] theorem State.setCan_canRx : (s.setCan c x).canRx = s.canRx := rfl
@[simp] theorem State.setCan_canTx : (s.setCan c x).canTx = s.canTx := rfl
@[simp] theorem State.setCan_mon : (s.setCan c x).mon = s.mon := rfl
@[simp] theorem State.setCan_lastCommit : (s.setCan c x).lastCommit = s.lastCommit := rfl
@[simp] theorem State.setCan_turn : (s.setCan c x).turn = s.turn := rfl
@[simp] theorem State.setCan_seen : (s.setCan c x).seen = s.seen := rfl
@[simp] theorem State.setCan_seenOld : (s.setCan c x).seenOld = s.seenOld := rfl
@[simp] theorem State.setCan_flt : (s.setCan c x).flt = s.flt := rfl
@[simp] theorem State.setCan_duo : (s.setCan c x).duo = s.duo := rfl
@[simp] theorem State.setCan_mod : (s.setCan c x).mod = s.mod := rfl
@[simp] theorem State.setCan_drv : (s.setCan c x).drv = s.drv := rfl
@[simp] theorem State.setCan_meas : (s.setCan c x).meas = s.meas := rfl
@[simp] theorem State.setCan_therm : (s.setCan c x).therm = s.therm := rfl
@[simp] theorem State.setCan_isl : (s.setCan c x).isl = s.isl := rfl
@[simp] theorem State.setCan_atB : (s.setCan c x).atB = s.atB := rfl
@[simp] theorem State.setCan_cells : (s.setCan c x).cells = s.cells := rfl
@[simp] theorem State.setCan_link : (s.setCan c x).link = s.link := rfl
@[simp] theorem State.setCan_loop : (s.setCan c x).loop = s.loop := rfl
@[simp] theorem State.setCan_pol : (s.setCan c x).pol = s.pol := rfl
@[simp] theorem State.setCan_out : (s.setCan c x).out = s.out := rfl
@[simp] theorem State.setCan_free : (s.setCan c x).free = s.free := rfl
@[simp] theorem State.setCan_pending : (s.setCan c x).pending = s.pending := rfl

end

/-! ### setRoute -/

section

variable (s : State) (n : Nat) (r : RouteRun)

@[simp] theorem State.setRoute_regs : (s.setRoute n r).regs = s.regs := by unfold State.setRoute; split <;> rfl
@[simp] theorem State.setRoute_mem : (s.setRoute n r).mem = s.mem := by unfold State.setRoute; split <;> rfl
@[simp] theorem State.setRoute_power : (s.setRoute n r).power = s.power := by unfold State.setRoute; split <;> rfl
@[simp] theorem State.setRoute_flash : (s.setRoute n r).flash = s.flash := by unfold State.setRoute; split <;> rfl
@[simp] theorem State.setRoute_sto : (s.setRoute n r).sto = s.sto := by unfold State.setRoute; split <;> rfl
@[simp] theorem State.setRoute_clk : (s.setRoute n r).clk = s.clk := by unfold State.setRoute; split <;> rfl
@[simp] theorem State.setRoute_ses : (s.setRoute n r).ses = s.ses := by unfold State.setRoute; split <;> rfl
@[simp] theorem State.setRoute_canRx : (s.setRoute n r).canRx = s.canRx := by unfold State.setRoute; split <;> rfl
@[simp] theorem State.setRoute_canTx : (s.setRoute n r).canTx = s.canTx := by unfold State.setRoute; split <;> rfl
@[simp] theorem State.setRoute_mon : (s.setRoute n r).mon = s.mon := by unfold State.setRoute; split <;> rfl
@[simp] theorem State.setRoute_lastCommit : (s.setRoute n r).lastCommit = s.lastCommit := by unfold State.setRoute; split <;> rfl
@[simp] theorem State.setRoute_turn : (s.setRoute n r).turn = s.turn := by unfold State.setRoute; split <;> rfl
@[simp] theorem State.setRoute_seen : (s.setRoute n r).seen = s.seen := by unfold State.setRoute; split <;> rfl
@[simp] theorem State.setRoute_seenOld : (s.setRoute n r).seenOld = s.seenOld := by unfold State.setRoute; split <;> rfl
@[simp] theorem State.setRoute_flt : (s.setRoute n r).flt = s.flt := by unfold State.setRoute; split <;> rfl
@[simp] theorem State.setRoute_duo : (s.setRoute n r).duo = s.duo := by unfold State.setRoute; split <;> rfl
@[simp] theorem State.setRoute_mod : (s.setRoute n r).mod = s.mod := by unfold State.setRoute; split <;> rfl
@[simp] theorem State.setRoute_drv : (s.setRoute n r).drv = s.drv := by unfold State.setRoute; split <;> rfl
@[simp] theorem State.setRoute_meas : (s.setRoute n r).meas = s.meas := by unfold State.setRoute; split <;> rfl
@[simp] theorem State.setRoute_therm : (s.setRoute n r).therm = s.therm := by unfold State.setRoute; split <;> rfl
@[simp] theorem State.setRoute_isl : (s.setRoute n r).isl = s.isl := by unfold State.setRoute; split <;> rfl
@[simp] theorem State.setRoute_net : (s.setRoute n r).net = s.net := by unfold State.setRoute; split <;> rfl
@[simp] theorem State.setRoute_atB : (s.setRoute n r).atB = s.atB := by unfold State.setRoute; split <;> rfl
@[simp] theorem State.setRoute_cells : (s.setRoute n r).cells = s.cells := by unfold State.setRoute; split <;> rfl
@[simp] theorem State.setRoute_loop : (s.setRoute n r).loop = s.loop := by unfold State.setRoute; split <;> rfl
@[simp] theorem State.setRoute_pol : (s.setRoute n r).pol = s.pol := by unfold State.setRoute; split <;> rfl
@[simp] theorem State.setRoute_out : (s.setRoute n r).out = s.out := by unfold State.setRoute; split <;> rfl
@[simp] theorem State.setRoute_free : (s.setRoute n r).free = s.free := by unfold State.setRoute; split <;> rfl
@[simp] theorem State.setRoute_pending : (s.setRoute n r).pending = s.pending := by unfold State.setRoute; split <;> rfl

end

@[simp] theorem State.route_setRoute_same (s : State) {n : Nat} (r : RouteRun) (h : n < 24) : (s.setRoute n r).route n = r := by
  simp [State.setRoute, State.route, h]

theorem State.route_setRoute_other (s : State) {n m : Nat} (r : RouteRun) (h : m ≠ n) : (s.setRoute n r).route m = s.route m := by
  unfold State.setRoute State.route
  by_cases hn : n < 24 <;> by_cases hm : m < 24 <;> simp [hn, hm, h.symm]

/-! ### What an update writes -/

@[simp] theorem State.setCell_cells (s : State) (c : Nat) (r : CellRun) : (s.setCell c r).cells = assocPut s.cells {} c r := rfl

@[simp] theorem State.sess_setSess_same (s : State) (i : Fin 4) (x : Session) : (s.setSess i x).sess i = x := by
  show (s.ses.set i x)[i] = x
  simp

theorem State.sess_setSess_other (s : State) {i j : Fin 4} (x : Session) (h : j ≠ i) : (s.setSess i x).sess j = s.sess j := by
  show (s.ses.set i x)[j] = s.ses[j]
  have : i.val ≠ j.val := fun e => h (Fin.ext e.symm)
  simp [this]

@[simp] theorem State.sess_setWord (s : State) (a : Nat) (w : Word) (i : Fin 4) : (s.setWord a w).sess i = s.sess i := rfl
@[simp] theorem State.sess_wr (s : State) (f : Fld) (v : Nat) (i : Fin 4) : (s.wr f v).sess i = s.sess i := rfl
@[simp] theorem State.sess_inc (s : State) (f : Fld) (n : Nat) (i : Fin 4) : (s.inc f n).sess i = s.sess i := rfl

@[simp] theorem State.ethRun_setEth_same (s : State) (p : Fin 2) (e : EthRun) : (s.setEth p e).ethRun p = e := by
  show (s.net.eth.set p e)[p] = e
  simp

@[simp] theorem State.telRun_setTel_same (s : State) (k : Fin 4) (x : TelRun) : (s.setTel k x).telRun k = x := by
  show (s.net.tel.set k x)[k] = x
  simp

@[simp] theorem State.canRun_setCan_same (s : State) (c : Fin 2) (x : CanRun) : (s.setCan c x).canRun c = x := by
  show (s.net.can.set c x)[c] = x
  simp

@[simp] theorem State.pair_setPair_same (s : State) (i : Fin 8) (p : PairRun) : (s.setPair i p).pair i = p := by
  show (s.isl.pairs.set i p)[i] = p
  simp

@[simp] theorem State.outp_setOutp_same (s : State) (j : Fin 4) (o : OutRun) : (s.setOutp j o).outp j = o := by
  show (s.isl.outs.set j o)[j] = o
  simp

end Sys2Proof.Machine
end

