-- ==== Sys2Proof/Laws/Memory.lean ====
section
/-! SUPPORT. Memory and the sparse words: a byte read after a write, and the canonical forms that every operation keeps. -/

namespace Sys2Proof.Machine

open Sys2Proof

/-! ### Lists by rising keys -/

theorem assocGet_append {β : Type} (l m : List (Nat × β)) (a : Nat) : assocGet (l ++ m) a = (assocGet l a).or (assocGet m a) := by
  simp only [assocGet_find, List.find?_append, Option.map_or]

/-- A test of the keys leaves the entries of the keys that pass. -/
theorem assocGet_filter {β : Type} (l : List (Nat × β)) (f : Nat → Bool) (a : Nat) :
    assocGet (l.filter (fun p => f p.1)) a = if f a then assocGet l a else none := by
  rw [assocGet_find, List.find?_filter, assocGet_find]
  split
  case isTrue h =>
    congr 2
    funext p
    rcases eq_or_ne p.1 a with e | e <;> simp [e, h]
  case isFalse h =>
    rw [List.find?_eq_none.mpr (fun p _ => by rcases eq_or_ne p.1 a with e | e <;> simp [e, h])]
    rfl

theorem assocGet_none {β : Type} {l : List (Nat × β)} {a : Nat} (h : ∀ p ∈ l, p.1 ≠ a) : assocGet l a = none := by
  rw [assocGet_find, List.find?_eq_none.mpr (fun p hp => by simpa using h p hp)]
  rfl

/-- The keys rise strictly. -/
abbrev Rising {β : Type} (l : List (Nat × β)) : Prop := l.Pairwise (fun x y => x.1 < y.1)

theorem Rising.filter {β : Type} {l : List (Nat × β)} (h : Rising l) (f : Nat × β → Bool) : Rising (l.filter f) := List.Pairwise.filter f h

theorem mem_assocInsert {β : Type} {l : List (Nat × β)} {a : Nat} {w : β} {p : Nat × β} (h : p ∈ assocInsert l a w) :
    p = (a, w) ∨ p ∈ l := by
  rw [assocInsert_span, List.mem_append, List.mem_cons] at h
  exact h.elim (fun h => .inr ((List.takeWhile_prefix _).subset h)) (Or.imp_right (fun h => (List.dropWhile_suffix _).subset h))

/-- Where a key is not listed, its entry has its place among the rising ones. -/
theorem Rising.insert {β : Type} {l : List (Nat × β)} (h : Rising l) {a : Nat} (w : β) (ha : ∀ p ∈ l, p.1 ≠ a) :
    Rising (assocInsert l a w) := by
  have hs := List.takeWhile_append_dropWhile (p := fun p : Nat × β => decide (p.1 ≤ a)) (l := l)
  have hlow : ∀ p ∈ l.takeWhile (fun p => decide (p.1 ≤ a)), p.1 < a := fun p hp =>
    Nat.lt_of_le_of_ne (by simpa using List.mem_takeWhile_imp hp) (ha p ((List.takeWhile_prefix _).subset hp))
  unfold Rising at h
  rw [← hs, List.pairwise_append] at h
  have hup : ∀ p ∈ l.dropWhile (fun p => decide (p.1 ≤ a)), a < p.1 := by
    cases hd : l.dropWhile (fun p => decide (p.1 ≤ a)) with
    | nil => simp
    | cons q t =>
      have hq : a < q.1 := by
        have := List.head_dropWhile_not (fun p : Nat × β => decide (p.1 ≤ a)) (l := l) (by simp [hd])
        simpa [hd] using this
      rw [hd] at h
      exact List.forall_mem_cons.mpr ⟨hq, fun p hp => hq.trans (List.rel_of_pairwise_cons h.2.1 hp)⟩
  rw [assocInsert_span]
  exact List.pairwise_append.mpr ⟨h.1, List.pairwise_cons.mpr ⟨hup, h.2.1⟩, fun x hx y hy =>
    (List.mem_cons.mp hy).elim (fun e => e ▸ hlow x hx) (fun hy => (hlow x hx).trans (hup y hy))⟩

/-! ### The words of the object space -/

theorem Words.wf_iff (l : List (Nat × Word)) : Words.wf l = true ↔ Rising l ∧ ∀ p ∈ l, p.2 ≠ resetWord p.1 := by
  simp [Words.wf, Rising]

theorem Words.wf_filter {l : List (Nat × Word)} (h : Words.wf l = true) (f : Nat × Word → Bool) : Words.wf (l.filter f) = true := by
  rw [Words.wf_iff] at *
  exact ⟨h.1.filter f, fun p hp => h.2 p (List.mem_filter.mp hp).1⟩

theorem Words.wf_put {l : List (Nat × Word)} (h : Words.wf l = true) (a : Nat) (w : Word) : Words.wf (assocPut l (resetWord a) a w) = true := by
  unfold assocPut
  by_cases hw : w = resetWord a
  · simp only [hw, if_true]
    exact Words.wf_filter h _
  · simp only [hw, if_false]
    have he := Words.wf_filter h (fun p => p.1 != a)
    rw [Words.wf_iff] at *
    have ha : ∀ p ∈ assocErase l a, p.1 ≠ a := fun p hp => by simpa using (List.mem_filter.mp hp).2
    refine ⟨he.1.insert w ha, fun p hp => ?_⟩
    rcases mem_assocInsert hp with rfl | hp
    · exact hw
    · exact he.2 p hp

/-- Setting a word, and with it every write of a field, keeps the canonical form. -/
theorem Words.wf_setWord {s : State} (h : Words.wf s.regs = true) (a : Nat) (w : Word) : Words.wf (s.setWord a w).regs = true :=
  Words.wf_put h a w

theorem Words.wf_wr {s : State} (h : Words.wf s.regs = true) (f : Fld) (v : Nat) : Words.wf (s.wr f v).regs = true := Words.wf_put h _ _

theorem Words.wf_inc {s : State} (h : Words.wf s.regs = true) (f : Fld) (n : Nat) : Words.wf (s.inc f n).regs = true := Words.wf_put h _ _

/-! ### The memory window -/

theorem Memory.wf_iff (m : List Host.Cell) :
    Memory.wf m = true ↔ Rising m ∧ ∀ c ∈ m, (memBase ≤ c.1 ∧ c.1 < memEnd) ∧ c.2 ≠ 0 := by
  simp [Memory.wf, Rising]

@[simp] theorem Memory.wf_nil : Memory.wf [] = true := by decide

/-- Memory after reset lists nothing. -/
theorem Memory.wf_reset : Memory.wf State.reset.mem = true := Memory.wf_nil

theorem Memory.wf_filter {m : List Host.Cell} (h : Memory.wf m = true) (f : Host.Cell → Bool) : Memory.wf (m.filter f) = true := by
  rw [Memory.wf_iff] at *
  exact ⟨h.1.filter f, fun c hc => h.2 c (List.mem_filter.mp hc).1⟩

theorem Memory.wf_clear {m : List Host.Cell} (h : Memory.wf m = true) (a b : Nat) : Memory.wf (memClear m a b) = true :=
  Memory.wf_filter h _

theorem mem_cellsFrom {a : Nat} {bs : List Byte} {c : Host.Cell} (h : c ∈ cellsFrom a bs) : (a ≤ c.1 ∧ c.1 < a + bs.length) ∧ c.2 ≠ 0 := by
  induction bs generalizing a with
  | nil => simp [cellsFrom] at h
  | cons b t ih =>
    by_cases hb : b = 0
    · simp only [cellsFrom, hb, if_true] at h
      have := ih h
      simp only [List.length_cons]
      exact ⟨by omega, this.2⟩
    · simp only [cellsFrom, hb, if_false, List.mem_cons] at h
      rcases h with rfl | h
      · refine ⟨⟨Nat.le_refl _, ?_⟩, hb⟩
        simp only [List.length_cons]
        omega
      · have := ih h
        simp only [List.length_cons]
        exact ⟨by omega, this.2⟩

theorem rising_cellsFrom (a : Nat) (bs : List Byte) : Rising (cellsFrom a bs) := by
  induction bs generalizing a with
  | nil => simp [cellsFrom, Rising]
  | cons b t ih =>
    by_cases hb : b = 0
    · simpa [cellsFrom, hb] using ih (a + 1)
    · simp only [cellsFrom, hb, if_false]
      refine List.pairwise_cons.mpr ⟨fun c hc => ?_, ih (a + 1)⟩
      have := (mem_cellsFrom hc).1.1
      show a < c.1
      omega

theorem Memory.wf_put {m : List Host.Cell} (h : Memory.wf m = true) {a : Nat} {bs : List Byte} (hb : memBase ≤ a)
    (he : a + bs.length ≤ memEnd) : Memory.wf (memPut m a bs) = true := by
  have hp := Memory.wf_filter h (fun c => decide (c.1 < a))
  have hs := Memory.wf_filter h (fun c => decide (a + bs.length ≤ c.1))
  rw [Memory.wf_iff] at *
  unfold memPut
  constructor
  · refine List.pairwise_append.mpr ⟨List.pairwise_append.mpr ⟨hp.1, rising_cellsFrom a bs, fun x hx y hy => ?_⟩, hs.1, fun x hx y hy => ?_⟩
    · have h1 : x.1 < a := by simpa using (List.mem_filter.mp hx).2
      have h2 := (mem_cellsFrom hy).1.1
      omega
    · have h2 : a + bs.length ≤ y.1 := by simpa using (List.mem_filter.mp hy).2
      rcases List.mem_append.mp hx with hx | hx
      · have h1 : x.1 < a := by simpa using (List.mem_filter.mp hx).2
        omega
      · have := (mem_cellsFrom hx).1.2
        omega
  · intro c hc
    rcases List.mem_append.mp hc with hc | hc
    · rcases List.mem_append.mp hc with hc | hc
      · exact hp.2 c hc
      · have := mem_cellsFrom hc
        exact ⟨⟨by omega, by omega⟩, this.2⟩
    · exact hs.2 c hc

/-- A store keeps the canonical form, wherever it goes. -/
theorem Memory.wf_store {s : State} (h : Memory.wf s.mem = true) (a : Nat) (bs : List Byte) : Memory.wf (s.store a bs).mem = true := by
  unfold State.store
  split
  next hc => exact Memory.wf_put h hc.1 hc.2
  · exact h

theorem memGet_cellsFrom (a : Nat) (bs : List Byte) (x : Nat) :
    memGet (cellsFrom a bs) x = if a ≤ x ∧ x < a + bs.length then bs.getD (x - a) 0 else 0 := by
  induction bs generalizing a with
  | nil => simp [cellsFrom, memGet, assocGet]
  | cons b t ih =>
    have ih := ih (a + 1)
    unfold memGet at *
    by_cases hx : x = a
    · subst hx
      have hr : x ≤ x ∧ x < x + (b :: t).length := by simp only [List.length_cons]; omega
      rw [if_pos hr, Nat.sub_self]
      by_cases hb : b = 0
      · rw [cellsFrom, if_pos hb, ih, if_neg (by omega), hb]
        rfl
      · rw [cellsFrom, if_neg hb]
        simp [assocGet]
    · have ha : a ≠ x := fun e => hx e.symm
      have : (assocGet (cellsFrom a (b :: t)) x).getD 0 = (assocGet (cellsFrom (a + 1) t) x).getD 0 := by
        by_cases hb : b = 0
        · rw [cellsFrom, if_pos hb]
        · rw [cellsFrom, if_neg hb, assocGet, if_neg ha]
      rw [this, ih]
      by_cases hr : a + 1 ≤ x ∧ x < a + 1 + t.length
      · have hr' : a ≤ x ∧ x < a + (b :: t).length := by simp only [List.length_cons]; omega
        rw [if_pos hr, if_pos hr']
        obtain ⟨k, hk⟩ : ∃ k, x - a = k + 1 := ⟨x - a - 1, by omega⟩
        have hk' : x - (a + 1) = k := by omega
        rw [hk, hk']
        rfl
      · have hr' : ¬ (a ≤ x ∧ x < a + (b :: t).length) := by simp only [List.length_cons]; omega
        rw [if_neg hr, if_neg hr']

/-- A byte after a write: of the span the byte written, elsewhere what it was. -/
theorem memGet_memPut (m : List Host.Cell) (a : Nat) (bs : List Byte) (x : Nat) :
    memGet (memPut m a bs) x = if a ≤ x ∧ x < a + bs.length then bs.getD (x - a) 0 else memGet m x := by
  have hc := memGet_cellsFrom a bs x
  unfold memGet at *
  unfold memPut
  rw [assocGet_append, assocGet_append, assocGet_filter m (fun k => decide (k < a)), assocGet_filter m (fun k => decide (a + bs.length ≤ k))]
  by_cases h1 : x < a
  · have h2 : ¬ (a ≤ x ∧ x < a + bs.length) := by omega
    have h3 : ¬ (a + bs.length ≤ x) := by omega
    have h4 : assocGet (cellsFrom a bs) x = none := assocGet_none (fun c hcm => by have := (mem_cellsFrom hcm).1; omega)
    simp [h1, h2, h3, h4]
  · by_cases h3 : a + bs.length ≤ x
    · have h2 : ¬ (a ≤ x ∧ x < a + bs.length) := by omega
      have h4 : assocGet (cellsFrom a bs) x = none := assocGet_none (fun c hcm => by have := (mem_cellsFrom hcm).1; omega)
      simp [h1, h2, h3, h4]
    · have h2 : a ≤ x ∧ x < a + bs.length := by omega
      rw [if_pos h2] at hc
      rw [if_pos h2, ← hc]
      simp [h1, h3]

/-- The byte just stored. -/
theorem State.byte_store_same (s : State) {a : Nat} {bs : List Byte} {x : Nat} (hb : memBase ≤ a) (he : a + bs.length ≤ memEnd) (h1 : a ≤ x)
    (h2 : x < a + bs.length) : (s.store a bs).byte x = bs.getD (x - a) 0 := by
  unfold State.store State.byte
  rw [if_pos ⟨hb, he⟩]
  show memGet (memPut s.mem a bs) x = _
  rw [memGet_memPut, if_pos ⟨h1, h2⟩]

/-- A byte outside the span of a store. -/
theorem State.byte_store_other (s : State) {a : Nat} {bs : List Byte} {x : Nat} (h : x < a ∨ a + bs.length ≤ x) :
    (s.store a bs).byte x = s.byte x := by
  unfold State.store State.byte
  split
  · show memGet (memPut s.mem a bs) x = _
    rw [memGet_memPut, if_neg (by omega)]
  · rfl

/-- The block's bytes after clearing a span: 0 there, elsewhere what they were. -/
theorem memGet_memClear (m : List Host.Cell) (a b x : Nat) : memGet (memClear m a b) x = if a ≤ x ∧ x < b then 0 else memGet m x := by
  unfold memGet memClear
  rw [assocGet_filter m (fun k => decide (k < a ∨ b ≤ k))]
  by_cases h : a ≤ x ∧ x < b
  · have : ¬ (x < a ∨ b ≤ x) := by omega
    simp [h, this]
  · have : x < a ∨ b ≤ x := by omega
    simp [h, this]

@[simp] theorem State.store_regs (s : State) (a : Nat) (bs : List Byte) : (s.store a bs).regs = s.regs := by
  unfold State.store; split <;> rfl

/-- A store changes nothing but memory and the write-backs that wait. -/
theorem State.store_eq (s : State) (a : Nat) (bs : List Byte) : s.store a bs = { s with mem := (s.store a bs).mem, sto := (s.store a bs).sto } := by
  unfold State.store; split <;> rfl

/-! ### Both forms together -/

/-- Memory and registers stand in their canonical forms. -/
abbrev State.canon (s : State) : Prop := Memory.wf s.mem = true ∧ Words.wf s.regs = true

section

variable {s : State} (h : s.canon) (f : Fld)
include h

theorem State.canon.setWord (a : Nat) (w : Word) : (s.setWord a w).canon := ⟨h.1, Words.wf_setWord h.2 a w⟩
theorem State.canon.wr (v : Nat) : (s.wr f v).canon := ⟨h.1, Words.wf_wr h.2 f v⟩
theorem State.canon.wrB (b : Bool) : (s.wrB f b).canon := h.wr f _
theorem State.canon.wrS (v : Int) : (s.wrS f v).canon := h.wr f _
theorem State.canon.wrSat (v : Nat) : (s.wrSat f v).canon := h.wr f _
theorem State.canon.inc (n : Nat) : (s.inc f n).canon := h.wr f _

theorem State.canon.store (a : Nat) (bs : List Byte) : (s.store a bs).canon :=
  ⟨Memory.wf_store h.1 a bs, by rw [State.store_regs]; exact h.2⟩

theorem State.canon.setSess (i : Fin 4) (x : Session) : (s.setSess i x).canon :=
  State.canon.wrSat (State.canon.wr (State.canon.wr (s := { s with ses := s.ses.set i x }) h _ _) _ _) _ _

end

theorem State.canon.journal {s : State} (h : s.canon) (c k b : Nat) (d : List Byte) (m : Bool) : (s.journal c k b d m).canon := by
  refine ⟨h.1, ?_⟩
  show Words.wf s.queueRegs = true
  unfold State.queueRegs
  split
  · exact h.2
  · split
    · exact (h.wr _ _).2
    · exact (h.inc _ 1).2

theorem State.canon.event {s : State} (h : s.canon) (c b : Nat) (d : List Byte) : (s.event c b d).canon := h.journal c 0 b d false

theorem State.canon.raise {s : State} (h : s.canon) (c : Nat) (k : FaultClass) (b : Nat) (d : List Byte) (m : Bool) :
    (s.raise c k b d m).canon := by
  unfold State.raise
  split <;> exact h

/-- A fold of updates that each keep the forms keeps them. -/
theorem State.canon.foldl {α : Type} {f : State → α → State} (hf : ∀ t x, t.canon → (f t x).canon) (l : List α) {s : State} (h : s.canon) :
    (l.foldl f s).canon := by
  induction l generalizing s with
  | nil => exact h
  | cons x t ih => exact ih (hf s x h)

end Sys2Proof.Machine
end

