-- ==== Sys2Proof/Laws/Sessions.lean ====
section
/-! SUPPORT. What taking, running and completing a verb's command does, said once: a ready verb runs its action on the state that has
taken its packet, an action done at once completes, and one that waits is in execution. -/

namespace Sys2Proof.Machine

open Sys2Proof

/-! ### The session's fields -/

/-- What else the session's fields do not share a bit with. -/
theorem apart_of_session {g : Fld} (h : ∀ i : Fin 4, ∀ f ∈ sessionFlds i, f.apart g) (i : Fin 4) : ∀ f ∈ sessionFlds i, f.apart g := h i

theorem sessionFlds_within : ∀ i : Fin 4, ∀ f ∈ sessionFlds i, f.within := by decide

theorem Keeps.setSess {s t : State} {fs : List Fld} (h : Keeps s t fs) {i : Fin 4} (x : Session) (hf : ∀ f ∈ sessionFlds i, f ∈ fs) :
    Keeps s (t.setSess i x) fs := by
  have hw := sessionFlds_within i
  have h0 : Keeps s { t with ses := t.ses.set i x } fs := h.congr rfl
  exact (((h0.wr _ (hf _ (by simp [sessionFlds])) (hw _ (by simp [sessionFlds]))).wr _ (hf _ (by simp [sessionFlds]))
    (hw _ (by simp [sessionFlds]))).wrSat _ (hf _ (by simp [sessionFlds])) (hw _ (by simp [sessionFlds])))

/-- The base sequence lies apart from what a session shows. -/
theorem State.baseSeq_setSess (s : State) (i j : Fin 4) (x : Session) : (s.setSess i x).baseSeq j = s.baseSeq j := by
  have h : ∀ i j : Fin 4, ∀ f ∈ [Reg.CMD_SESSION_OUTSTANDING i, Reg.CMD_SESSION_SHADOW_COUNT i, Reg.CMD_SESSION_IDLE i],
      f.within ∧ f.apart (Reg.CMD_SESSION_BASE_SEQ j) := by decide
  have hk := h i j
  have hb : ∀ j : Fin 4, (Reg.CMD_SESSION_BASE_SEQ j).within := by decide
  show ((((({ s with ses := s.ses.set i x } : State).wr _ _).wr _ _).wrSat _ _).rd _) = _
  unfold State.wrSat
  rw [State.rd_wr_apart _ _ (hk _ (by simp)).1 (hb j) (hk _ (by simp)).2, State.rd_wr_apart _ _ (hk _ (by simp)).1 (hb j) (hk _ (by simp)).2,
    State.rd_wr_apart _ _ (hk _ (by simp)).1 (hb j) (hk _ (by simp)).2]
  rfl

/-! ### Taking a packet -/

theorem State.sess_countAccepted_same (s : State) (i : Fin 4) : (s.countAccepted i).sess i = { s.sess i with idleNs := 0 } := by
  show ((s.setSess i _).inc _).sess i = _
  rw [State.sess_inc, State.sess_setSess_same]

theorem State.sess_countAccepted_other (s : State) {i j : Fin 4} (h : j ≠ i) : (s.countAccepted i).sess j = s.sess j := by
  show ((s.setSess i _).inc _).sess j = _
  rw [State.sess_inc, State.sess_setSess_other _ _ h]

/-- Taking a packet changes the session and what CMD_SESSION shows of it. -/
theorem State.countAccepted_upd (s : State) (i : Fin 4) :
    ∃ l x, s.countAccepted i = { s with regs := l, ses := x } := ⟨_, _, rfl⟩

theorem State.countAccepted_eq (s : State) (i : Fin 4) :
    s.countAccepted i = { s with regs := (s.countAccepted i).regs, ses := (s.countAccepted i).ses } := by
  obtain ⟨l, x, h⟩ := State.countAccepted_upd s i
  rw [h]

theorem Keeps.countAccepted {s t : State} {fs : List Fld} (h : Keeps s t fs) {i : Fin 4} (hf : ∀ f ∈ sessionFlds i, f ∈ fs) :
    Keeps s (t.countAccepted i) fs :=
  (h.setSess _ hf).inc 1 (hf _ (by simp [sessionFlds])) (sessionFlds_within i _ (by simp [sessionFlds]))

theorem State.taken_eq (s : State) (r : Req) :
    s.taken r = { s with regs := (s.taken r).regs, ses := (s.taken r).ses, out := [], turn := r.session } := by
  obtain ⟨l, x, h⟩ := State.countAccepted_upd { s with out := [] } r.session
  unfold State.taken
  rw [h]

/-- Being chosen changes no session and no register. -/
theorem State.sess_taken (s : State) (r : Req) (j : Fin 4) : (s.taken r).sess j = (State.countAccepted { s with out := [] } r.session).sess j := by
  unfold State.taken State.sess
  rfl

theorem State.rd_taken_count (s : State) (r : Req) (g : Fld) : (s.taken r).rd g = (State.countAccepted { s with out := [] } r.session).rd g := by
  unfold State.taken State.rd State.word
  rfl

theorem State.sess_taken_same (s : State) (r : Req) : (s.taken r).sess r.session = { s.sess r.session with idleNs := 0 } := by
  rw [State.sess_taken, State.sess_countAccepted_same]
  rfl

theorem State.sess_taken_other (s : State) {r : Req} {j : Fin 4} (h : j ≠ r.session) : (s.taken r).sess j = s.sess j := by
  rw [State.sess_taken, State.sess_countAccepted_other _ h]
  rfl

theorem Keeps.taken (s : State) (r : Req) : Keeps s (s.taken r) (sessionFlds r.session) :=
  (Keeps.countAccepted (t := { s with out := [] }) (Keeps.of_regs rfl _) (fun _ h => h)).congr rfl

/-- A field that the session's fields share no bit with reads as before. -/
theorem State.rd_taken (s : State) (r : Req) {g : Fld} (hg : g.within) (h : ∀ i : Fin 4, ∀ f ∈ sessionFlds i, f.apart g) :
    (s.taken r).rd g = s.rd g := Keeps.taken s r g hg (h r.session)

theorem State.baseSeq_taken (s : State) (r : Req) (j : Fin 4) : (s.taken r).baseSeq j = s.baseSeq j := by
  have hw : ∀ i : Fin 4, (Reg.CMD_SESSION_ACCEPTED i).within := by decide
  have hb : ∀ j : Fin 4, (Reg.CMD_SESSION_BASE_SEQ j).within := by decide
  have h : ∀ i j : Fin 4, (Reg.CMD_SESSION_ACCEPTED i).apart (Reg.CMD_SESSION_BASE_SEQ j) := by decide
  refine (State.rd_taken_count s r _).trans ?_
  refine Eq.trans (State.rd_wr_apart _ _ (hw _) (hb _) (h _ _)) ?_
  exact State.baseSeq_setSess _ _ _ _

theorem State.recovery_taken (s : State) (r : Req) : (s.taken r).recovery = s.recovery := by
  show (State.rd _ _ != 0) = (State.rd _ _ != 0)
  rw [State.rd_taken s r (by decide) (by decide)]

theorem State.stage_taken (s : State) (r : Req) : (s.taken r).stage = s.stage := by
  unfold State.stage
  rw [State.rd_taken s r (by decide) (by decide), State.rd_taken s r (by decide) (by decide)]

theorem State.lifecycleBars_taken (s : State) (r : Req) (verb : Nat) : (s.taken r).lifecycleBars verb = s.lifecycleBars verb := by
  unfold State.lifecycleBars
  rw [State.rd_taken s r (by decide) (by decide), State.recovery_taken]

/-! ### The keeper's mirror -/

/-- What a keeper notes of a command for its porter stands in the command's session and nowhere else. -/
theorem State.mirrorCmd_upd (s : State) (i : Fin 4) (h : Head) (m : Mood) (c : Instr) :
    ∃ l, s.mirrorCmd i h m c = { s with ses := s.ses.set i { s.ses[i] with tell := l } } := by
  unfold State.mirrorCmd
  split
  · exact ⟨_, rfl⟩
  · refine ⟨s.ses[i].tell, ?_⟩
    have h : s.ses.set i s.ses[i] = s.ses := by ext k hk; simp
    show s = { s with ses := s.ses.set i s.ses[i] }
    rw [h]

theorem State.sess_mirrorCmd_same (s : State) (i : Fin 4) (h : Head) (m : Mood) (c : Instr) :
    ∃ l, (s.mirrorCmd i h m c).sess i = { s.sess i with tell := l } := by
  obtain ⟨l, e⟩ := State.mirrorCmd_upd s i h m c
  rw [e]
  exact ⟨l, by simp [State.sess]⟩

theorem State.sess_mirrorCmd_other (s : State) {i j : Fin 4} (h : Head) (m : Mood) (c : Instr) (hj : j ≠ i) :
    (s.mirrorCmd i h m c).sess j = s.sess j := by
  obtain ⟨l, e⟩ := State.mirrorCmd_upd s i h m c
  rw [e]
  have hv : i.val ≠ j.val := fun e => hj (Fin.ext e.symm)
  simp [State.sess, hv]

/-- The mirror's note takes nothing from a completion. -/
theorem Completed.mirrorCmd {s t : State} {r : Req} {verb flags status stage : Nat} {payload : List Byte}
    (hc : Completed s t r verb flags status payload stage) (h : Head) (m : Mood) (c : Instr) :
    Completed s (t.mirrorCmd r.session h m c) r verb flags status payload stage := by
  obtain ⟨hb, ho, hr⟩ := hc
  refine ⟨?_, fun j hj => (State.sess_mirrorCmd_other t h m c hj).trans (ho j hj), ?_⟩ <;>
    obtain ⟨l, e⟩ := State.mirrorCmd_upd t r.session h m c <;> rw [e]
  · exact hb
  · exact hr

/-- Nor from a start. -/
theorem Started.mirrorCmd {s t : State} {r : Req} {verb stage : Nat} {op : LongOp} (hs : Started s t r verb op stage) (h : Head) (m : Mood)
    (c : Instr) : Started s (t.mirrorCmd r.session h m c) r verb op stage := by
  obtain ⟨hb, ho, hy⟩ := hs
  refine ⟨?_, fun j hj => (State.sess_mirrorCmd_other t h m c hj).trans (ho j hj), ?_⟩
  · obtain ⟨l, e⟩ := State.mirrorCmd_upd t r.session h m c
    rw [e]
    exact hb
  · obtain ⟨l, e⟩ := State.sess_mirrorCmd_same t r.session h m c
    rw [e]
    exact hy

/-! ### A ready verb -/

/-- A ready verb of a verb that DO admits runs its action on the state that has taken the packet. -/
theorem execVerb_ready {s : State} {r : Req} {verb flags : Nat} (h : Ready s r verb) (hm : moodAllowed verb 1 = true) (read : Bool)
    (cmd : Instr) (act : Action) :
    execVerb s r verb flags read cmd act
      = .next ((State.settle r.session (headAt s r verb flags) false (act (s.taken r))).mirrorCmd r.session (headAt s r verb flags) r.mood cmd) := by
  obtain ⟨hr, hk, ho, hw, hd, hb, hp, hmood, hmir, hrec, hlc, hch⟩ := h
  have hch' : ({ s with out := [] } : State).chosen r.session = true := hch
  have hs : ({ s with out := [] } : State).sess r.session = s.sess r.session := rfl
  have ho' : ({ s with out := [] } : State).isOpen r.session = true := ho
  have hbase : ({ s with out := [] } : State).baseSeq r.session = s.baseSeq r.session := rfl
  have hk' : (s.taken r).isKeeper = true := hk
  have hrec' := State.recovery_taken s r
  have hlc' := State.lifecycleBars_taken s r verb
  have hsess := State.sess_taken_same s r
  unfold execVerb
  rw [onRun_eq hr]
  unfold State.runVerb
  simp only [hs, ho', hd, hb, hw, hbase, hch', assocGet, Option.isSome_none, Bool.or_false, Bool.not_true, Bool.false_and, if_false,
    Bool.false_eq_true]
  show Host.Outcome.next (State.mirrorCmd (State.runMood (s.taken r) r.session _ cmd r.mood r.mirrored read act) _ _ _ _) = _
  have hmon : (s.taken r).monitorBars r.session (headAt s r verb flags) = false := by
    unfold State.monitorBars
    rw [hsess]
    have : ((s.sess r.session).src.path == Path.mon) = false := by simpa using hp
    simp [this]
  have hrb : (s.taken r).recoveryBars cmd verb = false := by
    unfold State.recoveryBars
    rw [hrec', hrec]
    rfl
  have hhv : (headAt s r verb flags).verb = verb := rfl
  have hhm : (headAt s r verb flags).mood = 1 := by show r.mood.code = 1; rw [hmood]; rfl
  have e : headOf r verb flags (s.baseSeq r.session) = headAt s r verb flags := rfl
  rw [e]
  unfold State.runMood
  rw [hk', hmir, hhv, hhm, hm, hrb, hlc', hlc, hmon, hmood]
  rfl

/-! ### Completing -/

/-- A line put out on the monitor changes no session. -/
theorem State.sess_monPut (s : State) (l : List Byte) (i : Fin 4) : (s.monPut l).sess i = s.sess i := by
  have h : ∀ (n : Nat) (c : Prop) [Decidable c],
      (if c then s.inc Reg.CMD_MON_STAT_TX_DROPPED else ({ s with mon := { s.mon with fill := n } }).put (.line l)).sess i = s.sess i := by
    intro n c _
    split <;> rfl
  exact h _ _

/-- A reply changes no session. -/
theorem State.sess_sendReply (s : State) (d : Source) (r : Reply) (m : Bool) (i : Fin 4) : (s.sendReply d r m).sess i = s.sess i := by
  unfold State.sendReply
  split
  · rfl
  · simp only
    split
    · exact State.sess_monPut _ _ _
    · rfl
    · rfl
    · split <;> rfl
    · split <;> rfl

theorem State.sess_complete_same (s : State) (i : Fin 4) (h : Head) (st : Nat) (p : List Byte) (k : Nat) (m : Bool) :
    ∃ c, (s.complete i h st p k m).sess i = { s.sess i with cache := c } := by
  unfold State.complete
  simp only
  rw [State.sess_sendReply, State.sess_setSess_same]
  exact ⟨_, rfl⟩

theorem State.sess_complete_other (s : State) {i j : Fin 4} (h : Head) (st : Nat) (p : List Byte) (k : Nat) (m : Bool) (hj : j ≠ i) :
    (s.complete i h st p k m).sess j = s.sess j := by
  unfold State.complete
  simp only
  rw [State.sess_sendReply, State.sess_setSess_other _ _ hj]
  rfl

/-- Where nothing waits nothing refused stands at the base sequence. -/
theorem State.drainRefused_idle (n : Nat) {i : Fin 4} {s : State} (h : (s.sess i).waiting = []) : State.drainRefused n i s = s := by
  cases n with
  | zero => rfl
  | succ n =>
    unfold State.drainRefused
    simp only [h, assocGet]
    split <;> rfl

/-- Where nothing waits, finishing a command is completing it. -/
theorem State.finish_eq {s : State} {i : Fin 4} (hw : (s.sess i).waiting = []) (h : Head) (st : Nat) (p : List Byte) (k : Nat) (m : Bool) :
    s.finish i h st p k m = s.complete i h st p k m := by
  obtain ⟨c, hc⟩ := State.sess_complete_same s i h st p k m
  unfold State.finish
  exact State.drainRefused_idle 64 (by rw [hc]; exact hw)

/-- A reply of a keeper to a source that is not the monitor's: it stands among the outputs, and nothing but the CAN controllers' segments and
TX_FRAMES of the port that carries it changes. -/
theorem State.sendReply_keeper {s : State} {d : Source} (r : Reply) (hk : s.isKeeper = true) (hp : d.path ≠ .mon) :
    Out.reply d r ∈ (s.sendReply d r false).out
      ∧ Keeps s (s.sendReply d r false) [Reg.ETH_STAT_TX_FRAMES 0, Reg.ETH_STAT_TX_FRAMES 1] := by
  have hput : Out.reply d r ∈ (s.put (.reply d r)).out := by simp [State.put]
  have hkp : Keeps s (s.put (.reply d r)) [Reg.ETH_STAT_TX_FRAMES 0, Reg.ETH_STAT_TX_FRAMES 1] := Keeps.of_regs rfl _
  unfold State.sendReply
  simp only [hk, Bool.not_true, Bool.false_and, Bool.or_false, Bool.false_eq_true, if_false]
  cases hd : d.path with
  | mon => exact absurd hd hp
  | cana => exact ⟨hput, hkp.congr rfl⟩
  | canb => exact ⟨hput, hkp.congr rfl⟩
  | etha =>
    simp only
    split
    · exact ⟨hput, hkp.inc 1 (by simp) (by decide)⟩
    · exact ⟨hput, hkp⟩
  | ethb =>
    simp only
    split
    · exact ⟨hput, hkp.inc 1 (by simp) (by decide)⟩
    · exact ⟨hput, hkp⟩

/-- A command that is completed, its reply sent: the base sequence, the other sessions and the reply are as `Completed` says. -/
theorem State.complete_completed {s u : State} {r : Req} {verb flags : Nat} (st : Nat) (p : List Byte) (k : Nat) (hk : u.isKeeper = true)
    (hsrc : (u.sess r.session).src = (s.sess r.session).src) (hp : (s.sess r.session).src.path ≠ .mon)
    (ho : ∀ j : Fin 4, j ≠ r.session → u.sess j = s.sess j) :
    Completed s (u.complete r.session (headAt s r verb flags) st p k) r verb flags st p k := by
  have hwb : ∀ j : Fin 4, (Reg.CMD_SESSION_BASE_SEQ j).within := by decide
  have hab : ∀ j : Fin 4, ∀ f ∈ [Reg.ETH_STAT_TX_FRAMES 0, Reg.ETH_STAT_TX_FRAMES 1], f.apart (Reg.CMD_SESSION_BASE_SEQ j) := by decide
  have hseq : (headAt s r verb flags).seq = s.baseSeq r.session := rfl
  have hc : ∃ v w : State, ∃ x : Session, ∃ c : Nat, v = u.wr (Reg.CMD_SESSION_BASE_SEQ r.session) ((headAt s r verb flags).seq + 1)
      ∧ w = v.setSess r.session x ∧ u.complete r.session (headAt s r verb flags) st p k
        = w.sendReply (u.sess r.session).src
            { head := headAt s r verb flags, interim := false, status := st, credit := c, boot := v.boot16, stage := k, payload := p }
            false :=
    ⟨_, _, _, _, rfl, rfl, rfl⟩
  obtain ⟨v, w, x, c, hv, hw, hc⟩ := hc
  have hkw : w.isKeeper = true := by rw [hw, hv]; exact hk
  obtain ⟨hout, hkeep⟩ := State.sendReply_keeper (s := w) (d := (u.sess r.session).src)
    { head := headAt s r verb flags, interim := false, status := st, credit := c, boot := v.boot16, stage := k, payload := p }
    hkw (by rw [hsrc]; exact hp)
  refine ⟨?_, fun j hj => (State.sess_complete_other u _ _ _ _ _ hj).trans (ho j hj), ?_⟩
  · rw [hc]
    refine (hkeep (Reg.CMD_SESSION_BASE_SEQ r.session) (hwb _) (hab _)).trans ?_
    rw [hw]
    refine (State.baseSeq_setSess _ _ _ _).trans ?_
    rw [hv]
    refine (State.rd_wr_same _ _ (hwb _)).trans ?_
    rw [hseq]
    rfl
  · have hb : (w.sendReply (u.sess r.session).src
        { head := headAt s r verb flags, interim := false, status := st, credit := c, boot := v.boot16, stage := k, payload := p }
        false).boot16 = v.boot16 := by
      have h1 := hkeep Reg.ID_BOOT_COUNT_COUNT (by decide) (by decide)
      have h2 : w.rd Reg.ID_BOOT_COUNT_COUNT = v.rd Reg.ID_BOOT_COUNT_COUNT := by
        rw [hw]
        exact (Keeps.setSess (Keeps.refl v _) x (fun _ h => h)) _ (by decide) (apart_of_session (by decide) r.session)
      exact congrArg (fun n => n % 65536) (h1.trans h2)
    refine ⟨c, ?_⟩
    rw [hc, hb, ← hsrc]
    exact hout

/-- A ready verb whose action is done at once, on a state that has kept the session's part, is completed. -/
theorem execVerb_completes {s : State} {r : Req} {verb flags : Nat} (h : Ready s r verb) (hm : moodAllowed verb 1 = true) (read : Bool)
    (cmd : Instr) {act : Action} (hh : (act (s.taken r)).hold = none) (hk : (act (s.taken r)).st.isKeeper = true)
    (hw : ((act (s.taken r)).st.sess r.session).waiting = [])
    (hsrc : ((act (s.taken r)).st.sess r.session).src = (s.sess r.session).src)
    (ho : ∀ j : Fin 4, j ≠ r.session → (act (s.taken r)).st.sess j = s.sess j) :
    ∃ t, execVerb s r verb flags read cmd act = .next t
      ∧ Completed s t r verb flags (act (s.taken r)).status (act (s.taken r)).payload (act (s.taken r)).stage := by
  refine ⟨_, execVerb_ready h hm read cmd act, ?_⟩
  unfold State.settle
  rw [hh]
  simp only
  rw [State.finish_eq hw]
  exact (State.complete_completed _ _ _ hk hsrc h.2.2.2.2.2.2.1 ho).mirrorCmd _ _ _

/-- A ready verb whose action waits for an operation is in execution. -/
theorem execVerb_starts {s : State} {r : Req} {verb : Nat} (h : Ready s r verb) (hm : moodAllowed verb 1 = true) (read : Bool)
    (cmd : Instr) {act : Action} {op : LongOp} (hh : (act (s.taken r)).hold = some op) (hl : (act (s.taken r)).status = Status.OK)
    (hb : (act (s.taken r)).st.baseSeq r.session = s.baseSeq r.session)
    (ho : ∀ j : Fin 4, j ≠ r.session → (act (s.taken r)).st.sess j = s.sess j) :
    ∃ t, execVerb s r verb 0 read cmd act = .next t ∧ Started s t r verb op (act (s.taken r)).stage := by
  refine ⟨_, execVerb_ready h hm read cmd act, ?_⟩
  unfold State.settle
  rw [hh]
  simp only
  apply Started.mirrorCmd
  refine ⟨(State.baseSeq_setSess _ _ _ _).trans hb, fun j hj => (State.sess_setSess_other _ _ hj).trans (ho j hj), ?_⟩
  rw [State.sess_setSess_same, hl]
  rfl

end Sys2Proof.Machine
end

