-- ==== Sys2Proof/Tests/Slice0.lean ====
section
/-! SUPPORT. Ill-formed commands, the spec's check values and worked examples, and for every obligation a state and operands that meet the hypotheses of
each of its clauses. -/

namespace Sys2Proof.Tests

set_option linter.unusedVariables false
set_option Elab.async false

open Sys2Proof Sys2Proof.Machine

/-- A module in operation: full operation, bank 3 of the pads classified, nothing else done. -/
def up : State := { State.reset with power := { State.reset.power with region := .full, nextCold := false }, duo := { State.reset.duo with role := 0 } }

/-- The same with session 0 open and bound to an Ethernet source. -/
def host : State := up.wr (Reg.CMD_SESSION_OPEN 0) 1

/-- A packet of session 0 under mood NOW. -/
def rq : Req := { session := 0, mood := .now, mirrored := false }

/-- What an ordinary start finds. -/
def sane : StartIn := ⟨false, false, true, true, true, true, 0, false, true, true, 0⟩

/-- What comes with an ordinary boundary. -/
def quiet : BoundaryIn := ⟨0, 1000, 1000, false, false, none, none⟩

/-- A command of session 0 in execution. -/
def cmd (op : LongOp) : BusyCmd := { head := headOf rq Verb.TEST 0 0, op := op, stage := 0, late := false }

/-- The module while session 0 executes an operation. -/
def busyWith (op : LongOp) (s : State := host) : State := s.setSess 0 { s.sess 0 with busy := some (cmd op) }

/-- A state with fields set. -/
def puts (s : State) (l : List (Fld × Nat)) : State := l.foldl (fun t p => t.wr p.1 p.2) s

/-- A state with 5000 s of MONO behind it. -/
def aged (s : State) : State := s.wr (Reg.TIME_BASE_SECONDS_LO 1) 5000

/-- A station in STANDBY that may leave it: commissioned, its configuration valid, the outputs allowed, the bus slot configured. -/
def readyStation : State :=
  { puts host [(Reg.POL_STATE_STATE, 2), (Reg.LC_STATE_STATE, 1), (Reg.SAFE_STAT_OUT_ALLOWED, 1), (Reg.LOOP_SLOT_CFG_EN 1072, 1),
      (Reg.LOOP_SLOT_CFG_PV_SRC 1072, 0x4103), (Reg.LOOP_SLOT_CFG_SP_SRC 1072, 0xA500), (Reg.LOOP_SLOT_CFG_FF_SRC 1072, 0xA502)]
    with pol := { host.pol with configOk := true } }

/-- A current slot and a voltage slot of the drive as R400 has them. -/
def currentSlot (n pv sp : Nat) : List (Fld × Nat) :=
  [(Reg.LOOP_SLOT_CFG_EN n, 1), (Reg.LOOP_SLOT_CFG_FB_KIND n, 3), (Reg.LOOP_SLOT_CFG_PV_SRC n, 0xA800 + pv), (Reg.LOOP_SLOT_CFG_SP_SRC n, 0xA800 + sp)]
def voltageSlot (n kind index fb low : Nat) : List (Fld × Nat) :=
  [(Reg.LOOP_SLOT_CFG_EN n, 1), (Reg.LOOP_SLOT_CFG_FB_KIND n, fb), (Reg.LOOP_SLOT_CFG_DEST_KIND n, kind), (Reg.LOOP_SLOT_CFG_DEST_INDEX n, index),
   (Reg.LOOP_SLOT_CFG_SP_SRC n, 0xA806 + (n - 1083)), (Reg.LOOP_REGION_KP n 0, 0x3F800000), (Reg.LOOP_SLOT_CFG_OUT_HI n, 0x3F800000),
   (Reg.LOOP_SLOT_CFG_OUT_LO n, low)]

/-- A drive stage in OFF that may start. -/
def readyDrive : State :=
  { puts host ([(Reg.POL_STATE_STATE, 5), (Reg.ID_SUPPLY_STAT_VGD_OK, 1), (Reg.CLK_STAT_LOCKED, 8)] ++ currentSlot 1080 0 1 ++ currentSlot 1081 2 4
      ++ currentSlot 1082 3 5 ++ voltageSlot 1083 3 0 3 0xBF800000 ++ voltageSlot 1084 3 1 3 0xBF800000 ++ voltageSlot 1085 3 2 3 0xBF800000
      ++ voltageSlot 1086 4 0 0 0)
    with drv := { host.drv with hvLink := true, grant := true, sto := false } }

/-- A ledger train of a stage with a sample of that stage's frame. -/
def freshTrain (n k echo : Nat) : List Byte :=
  let head := [0, 0] ++ beBytes 2 k ++ List.replicate 26 0
  let led := List.replicate 14 0 ++ beBytes 2 echo ++ List.replicate 14 0
  head ++ beBytes 2 (crc16 0xFFFF head) ++ led ++ beBytes 2 (crc16 (ledgerSeed k n 0) led) ++ List.replicate 256 0

/-- A ledger train of stage 0 of a route with one cell: the head and the ledger with their check codes, an empty upstream slot. -/
def trainOf (n : Nat) : List Byte :=
  List.replicate 30 0 ++ beBytes 2 (crc16 0xFFFF (List.replicate 30 0)) ++ List.replicate 30 0
    ++ beBytes 2 (crc16 (ledgerSeed 0 n 0) (List.replicate 30 0)) ++ List.replicate 256 0

/-- A module of a pair, with bank 3 at work, and something of its pair state set. -/
def pairedWith (f : Duo → Duo) (l : List (Fld × Nat) := []) : State :=
  let s := puts up ([(Reg.ROUTE_TABLE_PAIRED, 1), (Reg.ID_VIO_STAT_CLASS3, 1)] ++ l)
  { s with duo := f s.duo }

/-- A pair frame of a type and a sequence that carries one CTRL record. -/
def ctrlFrame (type seq : Nat) : List Byte :=
  let head := beBytes 1 type ++ [0] ++ beBytes 2 seq ++ List.replicate 26 0
  let record := [1, 0] ++ beBytes 2 32 ++ List.replicate 32 0
  head ++ beBytes 2 (crc16 0xFFFF head) ++ record ++ beBytes 2 (crc16 seq record)

/-- The module after its first start, with the safety island at work. -/
def safe : State := { up with isl := { up.isl with started := true } }

/-- A safety cycle that reads OFF everywhere. -/
def cycleOf (a b : PadLevel) (check : Bool) : CycleIn :=
  ⟨Vector.replicate 8 (a, b), 0, Vector.replicate 4 .off, Vector.replicate 4 ⟨false, true, false⟩, true, check⟩

/-- A start of the safety island that its checks pass. -/
def islandIn : IslandIn := ⟨Vector.replicate 8 (.off, .off), Vector.replicate 4 .off, true, true⟩

/-- The state that an outcome leaves. -/
def nextOf (o : Host.Outcome State Fault Refusal) : Option State := match o with | .next t => some t | _ => none

/-- An outcome that holds a state. -/
theorem isOk_of {x : Except Nat State} (h : x.toBool = true) : ∃ u, x = .ok u := by
  cases x with
  | ok u => exact ⟨u, rfl⟩
  | error _ => exact nomatch (show false = true from h)

/-- An object whose write only stores it. -/
theorem plain_of {a : Nat}
    (h : (objAt a).any (fun x => !([0x01000100, 0x05000040, 0x07300000, 0x0D000200, 0x0D201000].contains x.1.base)) = true) :
    plainObject a := by
  unfold plainObject
  cases hx : objAt a with
  | none => rw [hx] at h; exact absurd h (by decide)
  | some x =>
    obtain ⟨o, l, q⟩ := x
    rw [hx] at h
    exact ⟨o, l, q, rfl, by simpa using h⟩

/-! ### Commands that are not well-formed -/

/-- Every check of `Instr.wf` refuses a command. -/
theorem test_ill_formed_commands :
    [Instr.stageBoundary ⟨2 ^ 48, 0, 0, false, false, none, none⟩, .eccWriteback memWords, .udpDatagram 0 0 0 false (List.replicate 65508 0),
      .canCmdSegment 0 (List.replicate 65 0), .monLine [10], .sessionOpen 0 ⟨.etha, 1, 1⟩ (List.replicate 1401 0),
      .sessionClose rq (List.replicate 1401 0), .get rq false 0 1404 0 [], .get rq false 0 2 0 [], .get rq false 0 6 0 [],
      .get rq false 0 4 0 [⟨memWords, true⟩], .set rq 0 (List.replicate 3 0), .set rq 0 (List.replicate 1404 0), .snapshot rq [],
      .snapshot rq (List.replicate 17 (0, 4)), .clearFaults rq 1 (List.replicate 32 0), .clearSafety rq 16 [], .setpoint rq [],
      .setpoint rq (List.replicate 33 (0, 0)), .parcel rq 0 0 (List.replicate 1393 0), .lifecycleTransition rq 1 0 [] (List.replicate 64 0),
      .lifecycleTransition rq 1 0 (List.replicate 32 0) [], .firmwareWrite rq 0 (List.replicate 1393 0), .echo rq (List.replicate 1401 0),
      .reliefCalEnd [(0, 0)], .adc4CalDone [], .ethFrameReceived 0 ⟨.own, 0, none, 65536, true, false, .other, 0⟩,
      .canFrameReceived 0 ⟨false, false, false, false, false, 0, 8, List.replicate 9 0⟩ 0,
      .canFrameReceived 0 ⟨false, true, false, false, true, 0, 8, List.replicate 8 0⟩ 0, .monUnlock []].all (fun i => !i.wf) = true := by
  decide +kernel

/-- Commands at the edges of what the checks admit. -/
theorem test_well_formed_commands :
    [Instr.eccWriteback (memWords - 1), .canCmdSegment 0 (List.replicate 64 0), .get rq false 0 4 0 [], .get rq false 0 1400 0 [],
      .set rq 0 (List.replicate 1400 0), .snapshot rq (List.replicate 16 (0, 4)), .clearSafety rq 16 (List.replicate 32 0),
      .setpoint rq (List.replicate 32 (0, 0)), .monUnlock (List.replicate 64 0), .vinOff].all Instr.wf = true := by
  decide +kernel

/-! ### Check values and worked examples of the spec -/

/-- The nine bytes of the check values. -/
def nine : List Byte := ascii "123456789"

/-- R148: the check value of CRC-32C. -/
theorem test_crc32c : crc32c 0xFFFFFFFF nine = 0xE3069283 := by decide +kernel

/-- R228: the check value of CRC-16. -/
theorem test_crc16 : crc16 0xFFFF nine = 0x29B1 := by decide +kernel

/-- R469: the check value of CRC-64. -/
theorem test_crc64 : crc64 nine = 0x995DC9BBDF1939FA := by decide +kernel

/-- The worked example of a lost datagram: the seed of session 1 and sequence 105. -/
theorem test_crc_seed : crcSeed 1 105 = 0xBFFFFF96 := by decide +kernel

/-- The same example: the head of sequence 108, an APPLY under mood AT. -/
theorem test_packet_head :
    (Packet.body { head := { session := 1, seq := 108, verb := Verb.APPLY, mood := 2, base := 0, flags := 0 }, version := 1, rest9 := 0,
                   addr := 0, due := 0x1F40 * 2 ^ 32 + 0x1DCD6500, payload := [0, 0, 0, 0] }).take 24
      = [0xD7, 0xA1, 0x01, 0x40, 0, 0, 0, 0x6C, 0x04, 0x80, 0x00, 0x04, 0, 0, 0, 0, 0, 0, 0x1F, 0x40, 0x1D, 0xCD, 0x65, 0x00] := by
  decide +kernel

/-- R7's example and the example of slot 659: where the instances of objects lie. -/
theorem test_addresses :
    objectAt 0x05014300 ≠ none ∧ (Reg.CELL_LEDGER_UDC 323).addr = 0x05014320 ∧ (Reg.LOOP_SLOT_CFG_EN 659).addr = 0x0710A4C0
      ∧ (Reg.LOOP_REGION_KP 659 0).addr = 0x07214980 ∧ (Reg.LOOP_SLOT_MODE_MODE 659).addr = 0x07301498 := by
  decide +kernel

/-- The AC leg of the worked example: DT 500 ns and TMIN 1 µs in a stage of 5 µs; a seed and a leg whose h has the low byte 0. -/
def exampleLeg : LegRules :=
  { seed := 0xFFFF, leg := 225, stage := 64000, dt := 400, tmin := 800, refresh := false, tRf := 0, tRefresh := 0 }

/-- "AC leg in one stage": u = 1,024,000 of a period of 2,560,000 and m = 0.64001. The leg is high at the start and its OFF falls at 1,600
counts, at the OFF position 3, which moves to 4; leg 1, with −m, has no edge. -/
theorem test_ac_leg :
    let z := legStage exampleLeg (carrierRequest 2560000 1024000 (64001 / 100000)) { high := true, offPos := 3 }
    z.1 = (0xFFFF, 1600) ∧ z.2.leg.offPos = 4 ∧ z.2.leg.high = false
      ∧ (legStage exampleLeg (carrierRequest 2560000 1024000 (-64001 / 100000)) {}).1 = (0xFFFF, 0xFFFF) := by
  decide +kernel

/-- The same example: with f = 6 the OFF edges at the positions 0, 2, 4, 8, 10 and 12 round up. -/
theorem test_dither :
    (List.range 16).filter (fun p => ditherCount exampleLeg.seed exampleLeg.leg p 25606 == 1601) = [0, 2, 4, 8, 10, 12] := by
  decide +kernel

/-- R5: 0.1 and 1 as binary32 values. -/
theorem test_f32 : f32OfRat (1 / 10) = 0x3DCCCCCD ∧ f32OfRat 1 = 0x3F800000 ∧ f32Rat 0xC0200000 = -5 / 2 := by decide +kernel

/-! ### One step -/

/-- A command at the front of the queue is executed, and the queue keeps the rest. -/
theorem test_step_takes_front :
    (nextOf (step { up with pending := [.vinOff, .vgdRise] })).map (fun t => (t.power.region, t.pending))
      = some (.off, [.vgdRise]) := by
  decide +kernel

/-- R147, R150: an ECHO of session 0 over ETHA answers OK, and the base sequence moves on. -/
theorem test_echo :
    (nextOf (exec (.echo rq [1, 2]) host)).map (fun t => (t.baseSeq 0, t.out.length)) = some (host.baseSeq 0 + 1, 1) := by
  decide +kernel

/-! ### Every hypothesis is met -/

theorem witness_supply_regions_follow_the_rails :
    (∃ (s : State), s.power.region = .off)
    ∧ (∃ (s : State), s.power.region ≠ .off)
    ∧ (∃ (s : State) (n : Nat), (s.power.stopping = some (.brownout, n) ∨ s.power.stopping = some (.overvoltage, n))) :=
  ⟨⟨State.reset, by decide +kernel⟩,
   ⟨up, by decide +kernel⟩,
   ⟨{ up with power := { up.power with stopping := some (.brownout, 0) } }, 0, by decide +kernel⟩⟩

theorem witness_supply_sequences_run_their_steps :
    (∃ (s : State), s.running = true ∧ (∀ p, s.power.stopping = some p → p.1 ≠ .brownout ∧ p.1 ≠ .overvoltage))
    ∧ (∃ (s : State), s.running = true ∧ (∀ p, s.power.stopping = some p → p.1 ≠ .brownout ∧ p.1 ≠ .overvoltage))
    ∧ (∃ (s : State) (k : Fin 6), s.power.region = .keepAlive ∧ s.power.stopping = none)
    ∧ (∃ (s : State) (k : Fin 6), Powered s ∧ s.power.stopping = none)
    ∧ (∃ (s : State), Powered s ∧ s.running = false ∧ s.power.stopping = none)
    ∧ (∃ (s : State), s.running = true ∧ s.power.stopping = none) :=
  ⟨⟨up, by decide +kernel, fun _ h => nomatch (show none = some _ from h)⟩,
   ⟨up, by decide +kernel, fun _ h => nomatch (show none = some _ from h)⟩,
   ⟨{ up with power := { up.power with region := .keepAlive } }, 0, by decide +kernel, by decide +kernel⟩,
   ⟨up, 0, by unfold Powered; decide +kernel, by decide +kernel⟩,
   ⟨{ up with clk := { up.clk with stopped := true } }, by unfold Powered; decide +kernel, by decide +kernel, by decide +kernel⟩,
   ⟨up, by decide +kernel, by decide +kernel⟩⟩

theorem witness_restarts_clear_what_they_must :
    (∃ (s : State) (x : StartIn), s.power.region = .keepAlive ∧ s.power.stopping = none ∧ s.ilkBank = true ∧ s.therm.shut = false ∧ s.power.nextCold = true)
    ∧ (∃ (s : State) (x : StartIn), s.power.region = .keepAlive ∧ s.power.stopping = none ∧ s.ilkBank = true ∧ s.therm.shut = false ∧ s.power.nextCold = false)
    ∧ (∃ (s : State) (x : StartIn), s.power.held = true ∧ s.power.stopping = some (.pin, 0) ∧ s.ilkBank = true)
    ∧ (∃ (s : State) (x : StartIn), Powered s ∧ s.power.stopping = none)
    ∧ (∃ (s : State) (x : StartIn), s.running = true ∧ s.sto.activate = true ∧ s.power.stopping = none ∧ s.passed s.sto.activateAt 10000000 = true) :=
  ⟨⟨({ up with power := { up.power with region := .keepAlive, nextCold := true } }).wr (vioClass 3) 2, sane, by decide +kernel, by decide +kernel, by decide +kernel, by decide +kernel⟩,
   ⟨({ up with power := { up.power with region := .keepAlive, nextCold := false } }).wr (vioClass 3) 2, sane, by decide +kernel, by decide +kernel, by decide +kernel, by decide +kernel⟩,
   ⟨({ up with power := { up.power with held := true, stopping := some (.pin, 0) } }).wr (vioClass 3) 2, sane, by decide +kernel, by decide +kernel, by decide +kernel⟩,
   ⟨up, sane, by unfold Powered; decide +kernel, by decide +kernel⟩,
   ⟨(aged { up with sto := { up.sto with activate := true } }), sane, by decide +kernel, by decide +kernel, by decide +kernel, by decide +kernel⟩⟩

theorem witness_supply_status :
    (∃ (s : State) (v : BitVec 16) (g : Byte), Powered s)
    ∧ (∃ (s : State) (b : Fin 4) (k : Bool), s.power.region ≠ .off ∧ s.rd (vioClass b) = 0)
    ∧ (∃ (s : State) (b : Fin 4), s.power.region ≠ .off ∧ s.rd (vioClass b) ≠ 0)
    ∧ (∃ (s : State) (a : Bool) (b : Bool), s.running = true ∧ (a ≠ s.power.role0 ∨ b ≠ s.power.role1)) :=
  ⟨⟨up, 24000, 120, by unfold Powered; decide +kernel⟩,
   ⟨up, 3, true, by decide +kernel, by decide +kernel⟩,
   ⟨up.wr (vioClass 3) 2, 3, by decide +kernel, by decide +kernel⟩,
   ⟨up, true, false, by decide +kernel, by decide +kernel⟩⟩

theorem witness_gate_supply :
    (∃ (s : State), s.running = true ∧ s.pllLocked 1 = true ∧ s.pllLocked 3 = true) :=
  ⟨up.wr Reg.CLK_STAT_LOCKED 10, by decide +kernel, by decide +kernel, by decide +kernel⟩

theorem witness_tamper_and_wipe :
    (∃ (s : State) (x : TamperSrc), s.power.region ≠ .off ∧ (x = .clockGlitch → s.power.region = .full))
    ∧ (∃ (s : State), s.power.region = .full ∧ s.power.fillDue = true)
    ∧ (∃ (s : State), s.power.region ≠ .off ∧ s.power.markDue = true)
    ∧ (∃ (s : State), s.running = true ∧ s.passed s.sto.nonceAt 60000000000 = true) :=
  ⟨⟨up, .clockGlitch, by decide +kernel, by decide +kernel⟩,
   ⟨{ up with power := { up.power with fillDue := true } }, by decide +kernel, by decide +kernel⟩,
   ⟨{ up with power := { up.power with markDue := true } }, by decide +kernel, by decide +kernel⟩,
   ⟨(aged up), by decide +kernel, by decide +kernel⟩⟩

theorem witness_memory_checks :
    (∃ (s : State) (w : Nat), s.running = true)
    ∧ (∃ (s : State), s.running = true ∧ s.rd Reg.MEM_MARCH_STAT_RUNNING = 1 ∧ s.rd Reg.MEM_TAMPER_STAT_WIPING = 0)
    ∧ (∃ (s : State) (w : Fin 16), s.running = true ∧ s.rd Reg.MEM_MARCH_STAT_RUNNING = 1 ∧ s.rd Reg.MEM_TAMPER_STAT_WIPING = 0 ∧ s.sto.march < 16383) :=
  ⟨⟨up, 0, by decide +kernel⟩,
   ⟨up.wr Reg.MEM_MARCH_STAT_RUNNING 1, by decide +kernel, by decide +kernel, by decide +kernel⟩,
   ⟨{ up.wr Reg.MEM_MARCH_STAT_RUNNING 1 with sto := { up.sto with march := 16382 } }, 15, by decide +kernel, by decide +kernel, by decide +kernel, by decide +kernel⟩⟩

theorem witness_pll_locks :
    (∃ (s : State) (p : Pll) (mv : BitVec 16), Powered s ∧ (p = .net ∨ p = .hv))
    ∧ (∃ (s : State) (p : Pll) (mv : BitVec 16), Powered s ∧ (p = .sys ∨ p = .lane) ∧ (mv.toNat < 700 ∨ 1400 < mv.toNat))
    ∧ (∃ (s : State) (mv : BitVec 16), Powered s ∧ 700 ≤ mv.toNat ∧ mv.toNat ≤ 1400)
    ∧ (∃ (s : State) (mv : BitVec 16), Powered s ∧ 700 ≤ mv.toNat ∧ mv.toNat ≤ 1400)
    ∧ (∃ (s : State) (mv : BitVec 16), Powered s ∧ s.pllLocked 1 = true)
    ∧ (∃ (s : State) (mv : BitVec 16), Powered s ∧ s.pllLocked 2 = true)
    ∧ (∃ (s : State) (mv : BitVec 16), Powered s ∧ s.pllLocked 0 = true)
    ∧ (∃ (s : State) (mv : BitVec 16), Powered s ∧ s.pllLocked 3 = true)
    ∧ (∃ (s : State) (lane : Bool), Powered s ∧ s.pllLocked (if lane then 1 else 0) = false ∧ (s.running = true → s.passed s.power.startMono 10000000 = true))
    ∧ (∃ (s : State), Powered s ∧ s.clk.lossRun = true ∧ s.pllLocked 0 = false ∧ s.f3Latched Code.CLK_SYS_LOST = false ∧ (s.running = true → s.passed s.clk.lossAt 10000000 = true))
    ∧ (∃ (s : State), Powered s ∧ s.rd Reg.CLK_STAT_SAFE_CLK = 1 ∧ s.pllLocked 0 = true ∧ (s.running = true → s.passed s.clk.lockAt 64000 = true)) :=
  ⟨⟨up, .hv, 0, by unfold Powered; decide +kernel, by decide +kernel⟩,
   ⟨up, .lane, 1401, by unfold Powered; decide +kernel, by decide +kernel, by decide +kernel⟩,
   ⟨up, 700, by unfold Powered; decide +kernel, by decide +kernel, by decide +kernel⟩,
   ⟨up, 1400, by unfold Powered; decide +kernel, by decide +kernel, by decide +kernel⟩,
   ⟨up.wr Reg.CLK_STAT_LOCKED 15, 0, by unfold Powered; decide +kernel, by decide +kernel⟩,
   ⟨up.wr Reg.CLK_STAT_LOCKED 15, 0, by unfold Powered; decide +kernel, by decide +kernel⟩,
   ⟨up.wr Reg.CLK_STAT_LOCKED 15, 0, by unfold Powered; decide +kernel, by decide +kernel⟩,
   ⟨up.wr Reg.CLK_STAT_LOCKED 15, 0, by unfold Powered; decide +kernel, by decide +kernel⟩,
   ⟨(aged up), true, by unfold Powered; decide +kernel, by decide +kernel, by decide +kernel⟩,
   ⟨(aged { up with clk := { up.clk with lossRun := true } }), by unfold Powered; decide +kernel, by decide +kernel, by decide +kernel, by decide +kernel, by decide +kernel⟩,
   ⟨(aged ((up.wr Reg.CLK_STAT_LOCKED 1).wr Reg.CLK_STAT_SAFE_CLK 1)), by unfold Powered; decide +kernel, by decide +kernel, by decide +kernel, by decide +kernel⟩⟩

theorem witness_reference_and_ramps :
    (∃ (s : State), s.running = true ∧ s.clk.xinGone = false ∧ s.f3Latched Code.CLK_REF_LOST = false)
    ∧ (∃ (s : State), s.power.region ≠ .off ∧ s.running = false ∧ s.clk.xinGone = false)
    ∧ (∃ (s : State) (e : Nat), s.power.region = .full ∧ s.clk.xinGone = true ∧ s.clk.stopped = true)
    ∧ (∃ (s : State) (e : Nat), s.power.region = .full ∧ s.clk.xinGone = true ∧ s.clk.stopped = false)
    ∧ (∃ (s : State) (g : Fin 2), s.running = true ∧ s.segmentEnds g = true)
    ∧ (∃ (s : State), s.running = true ∧ s.spreadEnds = true)
    ∧ (∃ (s : State), s.running = true ∧ s.rd Reg.CLK_LANE_REF_SOURCE = 3 ∧ (s.tickLaneBack s.tsNs).clk.laneBack.getD 0 = 0) :=
  ⟨⟨up, by decide +kernel, by decide +kernel, by decide +kernel⟩,
   ⟨{ up with power := { up.power with region := .keepAlive } }, by decide +kernel, by decide +kernel, by decide +kernel⟩,
   ⟨{ up with clk := { up.clk with xinGone := true, stopped := true } }, 0, by decide +kernel, by decide +kernel, by decide +kernel⟩,
   ⟨{ up with clk := { up.clk with xinGone := true } }, 0, by decide +kernel, by decide +kernel, by decide +kernel⟩,
   ⟨{ up with clk := { up.clk with rampLane := { running := true } } }, 1, by decide +kernel, by decide +kernel⟩,
   ⟨{ up with clk := { up.clk with spread := .returning } }, by decide +kernel, by decide +kernel⟩,
   ⟨up.wr Reg.CLK_LANE_REF_SOURCE 3, by decide +kernel, by decide +kernel, by decide +kernel⟩⟩

theorem witness_stage_boundary_advances :
    (∃ (s : State) (b : BoundaryIn), s.running = true) :=
  ⟨up, quiet, by decide +kernel⟩

theorem witness_timed_commands :
    (∃ (s : State) (r : Req) (p : List Byte) (b : Fin 4) (x : Word) (y : Word), Ready s { r with mood := .now } Verb.ECHO ∧ r.mood = .due b x y ∧ s.dueRefusal b x y = none)
    ∧ (∃ (s : State) (i : Fin 4) (d : DueCmd) (r : Req) (p : List Byte), s.running = true ∧ s.isKeeper = true ∧ (s.sess i).src.path ≠ .mon ∧ (s.sess i).due = some d ∧ d.cmd = .echo r p ∧ d.head.session = i.val ∧ d.head.verb = Verb.ECHO ∧ p.length ≤ 1400 ∧ s.dueNow d = true)
    ∧ (∃ (s : State) (i : Fin 4) (d : DueCmd), s.running = true ∧ (s.sess i).due = some d ∧ s.dueNow d = true ∧ (verbAct d.cmd).isSome = true ∧ s.lifecycleBars d.head.verb = false)
    ∧ (∃ (s : State) (i : Fin 4) (d : DueCmd) (r : Req) (x : BitVec 16), s.running = true ∧ s.isKeeper = true ∧ (s.sess i).src.path ≠ .mon ∧ (s.sess i).due = some d ∧ d.cmd = .trip r x ∧ d.head.session = i.val ∧ d.head.verb = Verb.TRIP ∧ s.dueNow d = true ∧ s.lifecycleBars Verb.TRIP = false)
    ∧ (∃ (s : State) (i : Fin 4) (d : DueCmd), s.running = true ∧ s.isKeeper = true ∧ (s.sess i).src.path ≠ .mon ∧ (s.sess i).due = some d ∧ d.head.session = i.val ∧ s.dueNow d = true ∧ (verbAct d.cmd).isSome = true ∧ s.lifecycleBars d.head.verb = true)
    ∧ (∃ (s : State) (i : Fin 4), s.running = true ∧ (∀ d, (s.sess i).due = some d → s.dueNow d = false)) :=
  ⟨⟨host.wr (Reg.TIME_BASE_SYNCED 0) 1, { rq with mood := .due 0 0 0 }, [], 0, 0, 0, by unfold Ready; decide +kernel, by decide +kernel, by decide +kernel⟩,
   ⟨up.setSess 0 { up.sess 0 with due := some { head := { headOf rq Verb.ECHO 0 0 with mood := 2 }, cmd := .echo rq [], base := 1, dueNs := 0, passed := 1 } }, 0, { head := { headOf rq Verb.ECHO 0 0 with mood := 2 }, cmd := .echo rq [], base := 1, dueNs := 0, passed := 1 }, rq, [], by decide +kernel, by decide +kernel, by decide +kernel, by decide +kernel⟩,
   ⟨up.setSess 0 { up.sess 0 with due := some { head := { headOf rq Verb.ECHO 0 0 with mood := 2 }, cmd := .echo rq [], base := 1, dueNs := 0, passed := 1 } }, 0, { head := { headOf rq Verb.ECHO 0 0 with mood := 2 }, cmd := .echo rq [], base := 1, dueNs := 0, passed := 1 }, by decide +kernel, by decide +kernel, by decide +kernel, by decide +kernel⟩,
   ⟨up.setSess 0 { up.sess 0 with due := some { head := { headOf rq Verb.TRIP 0 0 with mood := 2 }, cmd := .trip rq 7, base := 1, dueNs := 0, passed := 1 } }, 0, { head := { headOf rq Verb.TRIP 0 0 with mood := 2 }, cmd := .trip rq 7, base := 1, dueNs := 0, passed := 1 }, rq, 7, by decide +kernel, by decide +kernel, by decide +kernel, by decide +kernel⟩,
   ⟨(State.wr (up) Reg.LC_STATE_STATE 4).setSess 0 { up.sess 0 with due := some { head := { headOf rq Verb.TRIP 0 0 with mood := 2 }, cmd := .trip rq 7, base := 1, dueNs := 0, passed := 1 } }, 0, { head := { headOf rq Verb.TRIP 0 0 with mood := 2 }, cmd := .trip rq 7, base := 1, dueNs := 0, passed := 1 }, by decide +kernel, by decide +kernel, by decide +kernel, by decide +kernel⟩,
   ⟨up, 3, by decide +kernel, by decide +kernel⟩⟩

theorem witness_moods_decide_when_a_command_runs :
    (∃ (s : State) (r : Req) (c : BitVec 16), Ready s { r with mood := .now } Verb.TRIP ∧ r.mood = .ask)
    ∧ (∃ (s : State) (r : Req) (c : Cond) (a : Word) (d : List Byte), Ready s { r with mood := .now } Verb.SET ∧ r.mood = .when c ∧ c.refusal = none ∧ c.holds (s.word c.addr.toNat) = false ∧ c.addr.toNat < 0x05000000 ∧ ¬(0x01002000 ≤ c.addr.toNat ∧ c.addr.toNat < 0x01002040))
    ∧ (∃ (s : State) (r : Req) (c : Cond) (x : BitVec 16), Ready s { r with mood := .now } Verb.TRIP ∧ r.mood = .when c) :=
  ⟨⟨host, { rq with mood := .ask }, 0, by unfold Ready; decide +kernel, by decide +kernel⟩,
   ⟨host, { rq with mood := .when ⟨0x00000400, 1, 1, 0⟩ }, ⟨0x00000400, 1, 1, 0⟩, 0, [], by unfold Ready; decide +kernel, by decide +kernel, by decide +kernel, by decide +kernel, by decide +kernel⟩,
   ⟨host, { rq with mood := .when ⟨0, 0, 0, 0⟩ }, ⟨0, 0, 0, 0⟩, 0, by unfold Ready; decide +kernel, by decide +kernel⟩⟩

theorem witness_station_commands :
    (∃ (s : State) (r : Req) (k : Byte), Ready s r Verb.STATE ∧ s.rd Reg.LC_STATE_STATE ≠ 4 ∧ ((k = 0 ∧ (s.station = 1 ∨ s.station = 2)) ∨ (k = 1 ∧ (s.station = 0 ∨ s.station = 2))))
    ∧ (∃ (s : State) (r : Req), Ready s r Verb.STATE ∧ 3 ≤ s.station ∧ s.station ≤ 6)
    ∧ (∃ (s : State) (r : Req), Ready s r Verb.STATE ∧ 3 ≤ s.station)
    ∧ (∃ (s : State) (r : Req), Ready s { r with mood := .now } Verb.STATE ∧ r.mood = .ask)
    ∧ (∃ (s : State) (r : Req), Ready s r Verb.START ∧ s.pol.haltConv = false ∧ s.station = 2 ∧ ((s.taken r).leaveStandby 5 0x0111).status = Status.OK)
    ∧ (∃ (s : State) (r : Req), Ready s r Verb.START ∧ s.station ≤ 1)
    ∧ (∃ (s : State) (r : Req), Ready s r Verb.START ∧ s.pol.haltConv = false ∧ (s.station = 3 ∨ s.station = 4))
    ∧ (∃ (s : State) (r : Req), Ready s r Verb.START ∧ s.pol.haltConv = false ∧ s.runs = true)
    ∧ (∃ (s : State) (r : Req), Ready s r Verb.STOP ∧ (s.station < 3 ∨ 6 < s.station))
    ∧ (∃ (s : State) (r : Req), Ready s r Verb.STOP ∧ 3 ≤ s.station ∧ s.station ≤ 6)
    ∧ (∃ (s : State) (r : Req) (a : Byte), Ready s r Verb.STOP ∧ a.toNat ≤ 23 ∧ s.armOn a.toNat = true ∧ 4 ≤ s.station ∧ s.station ≤ 6) :=
  ⟨⟨(host.wr Reg.POL_STATE_STATE 2), rq, 0, by unfold Ready; decide +kernel, by decide +kernel, by decide +kernel⟩,
   ⟨(host.wr Reg.POL_STATE_STATE 6), rq, by unfold Ready; decide +kernel, by decide +kernel, by decide +kernel⟩,
   ⟨(host.wr Reg.POL_STATE_STATE 3), rq, by unfold Ready; decide +kernel, by decide +kernel⟩,
   ⟨host, { rq with mood := .ask }, by unfold Ready; decide +kernel, by decide +kernel⟩,
   ⟨readyStation, rq, by unfold Ready; decide +kernel, by decide +kernel, by decide +kernel, by decide +kernel⟩,
   ⟨(host.wr Reg.POL_STATE_STATE 1), rq, by unfold Ready; decide +kernel, by decide +kernel⟩,
   ⟨(host.wr Reg.POL_STATE_STATE 4), rq, by unfold Ready; decide +kernel, by decide +kernel, by decide +kernel⟩,
   ⟨(host.wr Reg.POL_STATE_STATE 6), rq, by unfold Ready; decide +kernel, by decide +kernel, by decide +kernel⟩,
   ⟨(host.wr Reg.POL_STATE_STATE 7), rq, by unfold Ready; decide +kernel, by decide +kernel⟩,
   ⟨(host.wr Reg.POL_STATE_STATE 3), rq, by unfold Ready; decide +kernel, by decide +kernel, by decide +kernel⟩,
   ⟨(host.wr Reg.POL_STATE_STATE 4).wr (Reg.ARM_CFG_EN 23) 1, rq, 23, by unfold Ready; decide +kernel, by decide +kernel, by decide +kernel, by decide +kernel, by decide +kernel⟩⟩

theorem witness_trip_and_drive_commands :
    (∃ (s : State) (r : Req) (x : BitVec 16), Ready s r Verb.TRIP)
    ∧ (∃ (s : State) (r : Req), Ready s r Verb.START ∧ s.pol.haltDrive = false ∧ s.runs = true ∧ (s.drive = Drv.CHARGING ∨ s.drive = Drv.RUNNING))
    ∧ (∃ (s : State) (r : Req), Ready s r Verb.START ∧ s.pol.haltDrive = false ∧ s.runs = true ∧ s.drive = Drv.OFF ∧ s.rd Reg.ID_SUPPLY_STAT_VGD_OK = 1 ∧ s.drv.hvLink = true ∧ s.hvLocked = true ∧ s.drv.sto = false ∧ s.drv.grant = true ∧ s.ntcBad = false ∧ driveSlots.find? (fun n => !((s.taken r).driveSlotOk n)) = none)
    ∧ (∃ (s : State) (r : Req), Ready s r Verb.START ∧ s.pol.haltDrive = false ∧ s.runs = true ∧ s.drive = Drv.OFF ∧ s.drv.hvLink = false)
    ∧ (∃ (s : State) (r : Req), Ready s r Verb.START ∧ (s.pol.haltDrive = true ∨ s.runs = false))
    ∧ (∃ (s : State) (r : Req), Ready s r Verb.STOP ∧ s.drive ≠ Drv.CHARGING ∧ s.drive ≠ Drv.RUNNING)
    ∧ (∃ (s : State) (r : Req), Ready s r Verb.STOP ∧ (s.drive = Drv.CHARGING ∨ s.drive = Drv.RUNNING)) :=
  ⟨⟨host, rq, 0xFFFF, by unfold Ready; decide +kernel⟩,
   ⟨(host.wr Reg.POL_STATE_STATE 5).wr Reg.DRV_STAT_STATE 1, rq, by unfold Ready; decide +kernel, by decide +kernel, by decide +kernel, by decide +kernel⟩,
   ⟨readyDrive, rq, by unfold Ready; decide +kernel, by decide +kernel, by decide +kernel, by decide +kernel, by decide +kernel⟩,
   ⟨(host.wr Reg.POL_STATE_STATE 6), rq, by unfold Ready; decide +kernel, by decide +kernel, by decide +kernel, by decide +kernel, by decide +kernel⟩,
   ⟨host, rq, by unfold Ready; decide +kernel, by decide +kernel⟩,
   ⟨host, rq, by unfold Ready; decide +kernel, by decide +kernel, by decide +kernel⟩,
   ⟨host.wr Reg.DRV_STAT_STATE 2, rq, by unfold Ready; decide +kernel, by decide +kernel⟩⟩

theorem witness_setpoints :
    (∃ (s : State) (r : Req) (l : List (BitVec 16 × Word)), Ready s r Verb.SETPOINT ∧ (∀ e ∈ l, (s.taken r).entryRefusal e = none))
    ∧ (∃ (s : State) (r : Req) (l : List (BitVec 16 × Word)) (x : Nat), Ready s r Verb.SETPOINT ∧ l.findSome? (s.taken r).entryRefusal = some x)
    ∧ (∃ (s : State) (r : Req) (x : BitVec 16) (w : Word) (q : Word), Ready s r Verb.RAMP ∧ (s.taken r).setpointRefusal x.toNat w = none ∧ f32Finite q = true ∧ 0 < f32Rat q ∧ (∀ m, maxRate x.toNat = some m → f32Rat q ≤ m))
    ∧ (∃ (s : State) (r : Req) (x : BitVec 16) (w : Word) (q : Word), Ready s r Verb.RAMP ∧ (s.taken r).setpointRefusal x.toNat w = none ∧ (f32Finite q = false ∨ f32Rat q ≤ 0 ∨ (∃ m, maxRate x.toNat = some m ∧ m < f32Rat q)))
    ∧ (∃ (s : State) (r : Req) (w : Word), Ready s r Verb.SETPOINT ∧ (f32Finite w = false ∨ f32Rat w < 750 ∨ 1500 < f32Rat w)) :=
  ⟨⟨host, rq, [(1, 0x443B8000), (3, 0)], by unfold Ready; decide +kernel, by rw [List.forall_mem_cons, List.forall_mem_singleton]; exact ⟨by decide +kernel, by decide +kernel⟩⟩,
   ⟨host, rq, [(3, 0), (5, 0)], Status.VALUE_OUT_OF_RANGE, by unfold Ready; decide +kernel, by decide +kernel⟩,
   ⟨(host.wr Reg.POL_STATE_STATE 5), rq, 1, 0x44BB8000, 0x3F800000, by unfold Ready; decide +kernel, by decide +kernel, by decide +kernel, by decide +kernel, by decide +kernel⟩,
   ⟨(host.wr Reg.POL_STATE_STATE 5), rq, 1, 0x44BB8000, 0, by unfold Ready; decide +kernel, by decide +kernel, by decide +kernel⟩,
   ⟨host, rq, 0x7FC00000, by unfold Ready; decide +kernel, by decide +kernel⟩⟩

theorem witness_cell_service :
    (∃ (s : State) (r : Req) (c : Fin 512), Ready s r Verb.SET ∧ s.active c = true ∧ s.leaving c = false ∧ (s.cell c).slotLost = false)
    ∧ (∃ (s : State) (r : Req) (c : Fin 512), Ready s r Verb.SET ∧ (s.active c = false ∨ s.leaving c = true ∨ (s.cell c).slotLost = true))
    ∧ (∃ (s : State) (r : Req) (c : Fin 512), Ready s r Verb.SET ∧ s.svc c = Svc.FAULTED ∧ 200 ≤ (s.cell c).clean ∧ s.tripped c = false)
    ∧ (∃ (s : State) (r : Req) (c : Fin 512), Ready s r Verb.SET ∧ (s.svc c ≠ Svc.FAULTED ∨ (s.cell c).clean < 200 ∨ s.tripped c = true)) :=
  ⟨⟨host.wr (Reg.CELL_SVC_STATE 511) 5, rq, 511, by unfold Ready; decide +kernel, by decide +kernel, by decide +kernel, by decide +kernel⟩,
   ⟨host, rq, 0, by unfold Ready; decide +kernel, by decide +kernel⟩,
   ⟨(host.wr (Reg.CELL_SVC_STATE 511) 7).setCell 511 { clean := 200 }, rq, 511, by unfold Ready; decide +kernel, by decide +kernel, by decide +kernel, by decide +kernel⟩,
   ⟨host.setCell 0 { clean := 199 }, rq, 0, by unfold Ready; decide +kernel, by decide +kernel⟩⟩

theorem witness_policy_events :
    (∃ (s : State), s.running = true ∧ s.awaitsContact = true ∧ s.stepLasts (s.rd Reg.POL_SEQ_T_CONTACT_MS) = true ∧ s.f3Latched Code.CONTACT_TIMEOUT = false)
    ∧ (∃ (s : State), s.running = true ∧ s.station = 3 ∧ s.step_ = 3 ∧ s.stepLasts (s.rd Reg.POL_SEQ_T_PRECHARGE_MS) = true ∧ s.f3Latched Code.PRECHARGE_TIMEOUT = false)
    ∧ (∃ (s : State), s.running = true ∧ s.station = 4 ∧ s.pol.held = false ∧ s.stateLasts (s.rd Reg.POL_SEQ_T_SYNC_MS) = true ∧ s.f3Latched Code.SYNC_TIMEOUT = false)
    ∧ (∃ (s : State), s.running = true ∧ s.station = 7 ∧ s.stateLasts (s.rd Reg.POL_SEQ_T_STOP_MS) = true ∧ s.f3Latched Code.STOP_TIMEOUT = false)
    ∧ (∃ (s : State), s.running = true)
    ∧ (∃ (s : State), s.running = true)
    ∧ (∃ (s : State), s.running = true ∧ s.rd Reg.POL_GRID_STAT_LOSS_PENDING = 1 ∧ s.passed s.pol.lossAt (s.rd Reg.POL_GRID_LOSS_MS * 1000000) = true)
    ∧ (∃ (s : State), s.running = true ∧ s.station = 6 ∧ s.derated = false ∧ 19999 ≤ s.pol.clearN)
    ∧ (∃ (s : State), s.running = true ∧ s.station = 7 ∧ s.step_ = 11 ∧ s.stagesOfMs (s.rd Reg.POL_SEQ_T_RAMPDOWN_MS) ≤ s.pol.rampN + 1)
    ∧ (∃ (s : State) (c : Fin 512), s.running = true ∧ s.svc c = Svc.BYPASSING ∧ s.rd (Reg.CELL_SVC_CAUSE c) ≠ 7 ∧ s.firstDue (s.cell c).bypassAt + 8 ≤ s.stage)
    ∧ (∃ (s : State), s.running = true ∧ s.rd Reg.MEM_LOGBOOK_STAT_POST_RUNNING = 1 ∧ s.rd Reg.MEM_LOGBOOK_STAT_POST_COUNT = 4095) :=
  ⟨⟨{ (up.wr Reg.POL_STATE_STATE 3).wr Reg.POL_STATE_STEP 2 with pol := { up.pol with stepN := 100000000 } }, by decide +kernel, by decide +kernel, by decide +kernel, by decide +kernel⟩,
   ⟨{ (up.wr Reg.POL_STATE_STATE 3).wr Reg.POL_STATE_STEP 3 with pol := { up.pol with stepN := 100000000 } }, by decide +kernel, by decide +kernel, by decide +kernel, by decide +kernel⟩,
   ⟨((up.wr Reg.POL_STATE_STATE 4).setStage 100000000), by decide +kernel, by decide +kernel, by decide +kernel, by decide +kernel⟩,
   ⟨((up.wr Reg.POL_STATE_STATE 7).setStage 100000000), by decide +kernel, by decide +kernel, by decide +kernel, by decide +kernel⟩,
   ⟨up, by decide +kernel⟩,
   ⟨up, by decide +kernel⟩,
   ⟨(aged (up.wr Reg.POL_GRID_STAT_LOSS_PENDING 1)), by decide +kernel, by decide +kernel, by decide +kernel⟩,
   ⟨{ (up.wr Reg.POL_STATE_STATE 6) with pol := { up.pol with clearN := 20000 } }, by decide +kernel, by decide +kernel, by decide +kernel, by decide +kernel⟩,
   ⟨{ (up.wr Reg.POL_STATE_STATE 7).wr Reg.POL_STATE_STEP 11 with pol := { up.pol with rampN := 100000000 } }, by decide +kernel, by decide +kernel, by decide +kernel, by decide +kernel⟩,
   ⟨((up.wr (Reg.CELL_SVC_STATE 0) 6).setStage 10000), 0, by decide +kernel, by decide +kernel, by decide +kernel, by decide +kernel⟩,
   ⟨(up.wr Reg.MEM_LOGBOOK_STAT_POST_RUNNING 1).wr Reg.MEM_LOGBOOK_STAT_POST_COUNT 4095, by decide +kernel, by decide +kernel, by decide +kernel⟩⟩

theorem witness_drive_shorts :
    (∃ (s : State) (c : Fin 6) (q : Bool) (on : BitVec 7), s.running = true ∧ s.driveActive = true ∧ s.hvVal (Reg.DRV_GATE_DS_EN c) ≠ 0 ∧ s.drv.shorts = [] ∧ s.tripOn (0x0D10 + c.val) = false)
    ∧ (∃ (s : State) (q : Bool) (on : BitVec 7), s.running = true ∧ s.driveActive = true ∧ s.hvVal (Reg.DRV_GATE_DS_EN 6) ≠ 0)
    ∧ (∃ (s : State) (l : Fin 3) (v : BitVec 16) (q : Bool) (on : BitVec 7), s.running = true ∧ (s.driveActive = true ∨ s.drive = Drv.OFF) ∧ s.hvVal Reg.DRV_PROT_OC_V < v.toNat ∧ s.drv.shorts = [] ∧ s.tripOn (0x0D20 + l.val) = false)
    ∧ (∃ (s : State) (l : Fin 3) (v : BitVec 16) (q : Bool) (on : BitVec 7), s.running = true ∧ v.toNat ≤ s.hvVal Reg.DRV_PROT_OC_V)
    ∧ (∃ (s : State), s.running = true)
    ∧ (∃ (s : State) (l : Fin 3), s.running = true ∧ s.tripOn (0x0D20 + l.val) = true ∧ s.drv.oc.getLsbD l.val = true ∧ s.mod.gate.on &&& 0x3F = 0 ∧ (∀ c ∈ s.drv.soft, c = 6) ∧ 10000 < s.drv.offNs + s.tsNs ∧ s.f3Latched Code.DRV_SHORT_PERSIST = false) :=
  ⟨⟨(up.wr Reg.DRV_STAT_STATE 2).wr (Reg.DRV_GATE_DS_EN 5) 1, 5, false, 0, by decide +kernel, by decide +kernel, by decide +kernel, by decide +kernel⟩,
   ⟨(up.wr Reg.DRV_STAT_STATE 2), false, 0, by decide +kernel, by decide +kernel, by decide +kernel⟩,
   ⟨up, 2, 246, true, 0, by decide +kernel, by decide +kernel, by decide +kernel, by decide +kernel⟩,
   ⟨up, 2, 245, true, 0, by decide +kernel, by decide +kernel⟩,
   ⟨up, by decide +kernel⟩,
   ⟨{ up with drv := { up.drv with latched := [0x0D22], oc := 4, offNs := 10000 } }, 2, by decide +kernel, by decide +kernel, by decide +kernel, by decide +kernel⟩⟩

theorem witness_drive_bus_voltage :
    (∃ (s : State) (v : BitVec 16), s.rd Reg.ID_SUPPLY_STAT_VGD_OK = 1 ∧ s.hvVal Reg.DRV_PROT_OV_TRIP_V ≤ v.toNat ∧ s.driveActive = true)
    ∧ (∃ (s : State) (v : BitVec 16), s.rd Reg.ID_SUPPLY_STAT_VGD_OK = 1 ∧ s.drv.brake = false ∧ s.hvVal Reg.DRV_PROT_OV_BRAKE_ON_V ≤ v.toNat)
    ∧ (∃ (s : State) (v : BitVec 16), v.toNat + s.hvVal Reg.DRV_PROT_OV_BRAKE_HYST ≤ s.hvVal Reg.DRV_PROT_OV_BRAKE_ON_V)
    ∧ (∃ (s : State) (l : Fin 3), s.running = true ∧ s.driveActive = true)
    ∧ (∃ (s : State), s.running = true ∧ s.tripOn 0x0D30 = true ∧ s.drv.ov = true ∧ 10000000 < s.drv.ovNs + s.tsNs ∧ s.f3Latched Code.DRV_BUS_OV = false) :=
  ⟨⟨(up.wr Reg.ID_SUPPLY_STAT_VGD_OK 1).wr Reg.DRV_STAT_STATE 2, 1650, by decide +kernel, by decide +kernel, by decide +kernel⟩,
   ⟨(up.wr Reg.ID_SUPPLY_STAT_VGD_OK 1), 1600, by decide +kernel, by decide +kernel, by decide +kernel⟩,
   ⟨up, 1550, by decide +kernel⟩,
   ⟨(up.wr Reg.DRV_STAT_STATE 2), 2, by decide +kernel, by decide +kernel⟩,
   ⟨{ up with drv := { up.drv with fresh := [0x0D30], ov := true, ovNs := 10000000 } }, by decide +kernel, by decide +kernel, by decide +kernel, by decide +kernel⟩⟩

theorem witness_drive_levels :
    (∃ (s : State) (hb : BitVec 3) (oc : BitVec 3) (w : BitVec 3) (ov : Bool) (d : Bool), s.running = true ∧ s.drv.hvLink = true ∧ s.duo.role ≠ 2)
    ∧ (∃ (s : State) (hb : BitVec 3) (oc : BitVec 3) (w : BitVec 3) (ov : Bool) (d : Bool), s.running = true ∧ s.drv.hvLink = true ∧ s.duo.role = 2)
    ∧ (∃ (s : State) (c : Fin 6) (x : BitVec 16) (y : BitVec 16), s.running = true ∧ x.toNat ≤ s.rd Reg.DRV_CFG_ATTR * 2 ∧ y.toNat ≤ 800)
    ∧ (∃ (s : State), s.running = true ∧ (s.stage + 1) % s.rd Reg.MOD_CFG_DRV_N ≠ 0)
    ∧ (∃ (s : State), s.running = true ∧ (s.stage + 1) % s.rd Reg.MOD_CFG_DRV_N = 0) :=
  ⟨⟨{ up with drv := { up.drv with hvLink := true } }, 7, 0, 5, false, true, by decide +kernel, by decide +kernel, by decide +kernel⟩,
   ⟨{ up with drv := { up.drv with hvLink := true }, duo := { up.duo with role := 2 } }, 7, 0, 5, false, true, by decide +kernel, by decide +kernel, by decide +kernel⟩,
   ⟨up, 5, 0, 800, by decide +kernel, by decide +kernel, by decide +kernel⟩,
   ⟨(up.setStage 8), by decide +kernel, by decide +kernel⟩,
   ⟨(up.setStage 49), by decide +kernel, by decide +kernel⟩⟩

theorem witness_drive_sequence :
    (∃ (s : State), s.running = true ∧ s.drive = Drv.CHARGING ∧ s.drv.boot = 0 ∧ s.rd Reg.DRV_CFG_BOOT_PULSES * 10 + 2 ≤ s.drv.stepN ∧ s.drv.hb = 7)
    ∧ (∃ (s : State), s.running = true ∧ s.drive = Drv.CHARGING ∧ s.drv.boot = 0 ∧ s.rd Reg.DRV_CFG_BOOT_PULSES * 10 + 2 ≤ s.drv.stepN ∧ s.drv.hb ≠ 7)
    ∧ (∃ (s : State) (late : Bool), s.running = true ∧ s.drive = Drv.STOPPING ∧ s.drv.y2 = false ∧ (if late then s.rd Reg.DRV_MOTOR_T_DRV_STOP_MS * 1000000 < (s.drv.stepN + 1) * s.tsNs else 20000 ≤ s.drv.zeroN))
    ∧ (∃ (s : State), s.running = true ∧ s.driveActive = true ∧ s.f32 Reg.DRV_MOTOR_MAX_RPM * 11 / 10 < absRat (s.f32 Reg.DRV_ENC_SPEED) ∧ 10 ≤ s.drv.overN) :=
  ⟨⟨{ up.wr Reg.DRV_STAT_STATE 1 with drv := { up.drv with stepN := 4000, hb := 7 } }, by decide +kernel, by decide +kernel, by decide +kernel, by decide +kernel⟩,
   ⟨{ up.wr Reg.DRV_STAT_STATE 1 with drv := { up.drv with stepN := 4000, hb := 6 } }, by decide +kernel, by decide +kernel, by decide +kernel, by decide +kernel⟩,
   ⟨{ up.wr Reg.DRV_STAT_STATE 3 with drv := { up.drv with stepN := 4000000 } }, true, by decide +kernel, by decide +kernel, by decide +kernel, by decide +kernel⟩,
   ⟨{ ((up.wr Reg.DRV_STAT_STATE 2).wr Reg.DRV_ENC_SPEED 0x461C4000) with drv := { up.drv with overN := 10 } }, by decide +kernel, by decide +kernel, by decide +kernel, by decide +kernel⟩⟩

theorem witness_encoder_and_thermistors :
    (∃ (s : State) (a : Bool) (b : Bool), s.running = true ∧ s.rd Reg.ID_VIO_STAT_CLASS2 ≠ 0 ∧ s.drv.encZ = false ∧ (quad a b + 4 - quad s.drv.encA s.drv.encB) % 4 ≠ 2)
    ∧ (∃ (s : State) (a : Bool) (b : Bool) (z : Bool), s.running = true ∧ s.rd Reg.ID_VIO_STAT_CLASS2 = 0)
    ∧ (∃ (s : State) (a : Bool) (b : Bool), s.running = true ∧ s.rd Reg.ID_VIO_STAT_CLASS2 ≠ 0 ∧ s.drv.encZ = false ∧ (quad a b + 4 - quad s.drv.encA s.drv.encB) % 4 = 2)
    ∧ (∃ (s : State), s.running = true ∧ s.rd Reg.ID_VIO_STAT_CLASS2 ≠ 0 ∧ s.drv.encZ = false)
    ∧ (∃ (s : State) (x : BitVec 12) (y : BitVec 12), s.running = true ∧ s.drv.hvLink = true ∧ s.rd Reg.DRV_NTC_NTC_EN = 0 ∧ s.drv.ntc.length = 2 ∧ s.drv.ntcNew = none) :=
  ⟨⟨(up.wr Reg.ID_VIO_STAT_CLASS2 2), true, false, by decide +kernel, by decide +kernel, by decide +kernel, by decide +kernel⟩,
   ⟨up.wr Reg.ID_VIO_STAT_CLASS2 0, true, true, true, by decide +kernel, by decide +kernel⟩,
   ⟨(up.wr Reg.ID_VIO_STAT_CLASS2 2), true, true, by decide +kernel, by decide +kernel, by decide +kernel, by decide +kernel⟩,
   ⟨(up.wr Reg.ID_VIO_STAT_CLASS2 2), by decide +kernel, by decide +kernel, by decide +kernel⟩,
   ⟨(State.wr { up with drv := { up.drv with hvLink := true } } Reg.DRV_NTC_NTC_EN 0), 0, 0xFFF, by decide +kernel, by decide +kernel, by decide +kernel, by decide +kernel⟩⟩

theorem witness_conversions :
    (∃ (s : State) (x : Fin 4) (late : Bool), s.running = true ∧ s.rd (Reg.MEAS_ADC_CFG_EN x) = 1 ∧ (s.adcOf x).busy = false ∧ s.triggerComes x = true)
    ∧ (∃ (s : State) (x : Fin 4) (late : Bool), s.running = true ∧ s.rd (Reg.MEAS_ADC_CFG_EN x) = 1 ∧ (s.adcOf x).busy = true ∧ s.rd (Reg.MEAS_STOP_TRIGGER x (((s.adcOf x).stop + 1) % s.rd (Reg.MEAS_ADC_CFG_STOP_COUNT x))) = 1 ∧ (s.adcOf x).fired.1 ≠ s.stage)
    ∧ (∃ (s : State) (x : Fin 4) (late : Bool), s.running = true ∧ s.rd (Reg.MEAS_ADC_CFG_EN x) = 1 ∧ s.triggerComes x = false)
    ∧ (∃ (s : State) (x : Fin 4) (l : List (BitVec 16 × Bool)) (ago : Byte) (p : BitVec 16) (e : MeasEntry), s.running = true ∧ s.rd (Reg.MEAS_ADC_CFG_EN x) = 1 ∧ (s.adcOf x).busy = true ∧ s.relieved x = false ∧ s.stopResult x l = some e)
    ∧ (∃ (s : State) (x : Fin 4) (c : BitVec 16) (o : Bool) (ago : Byte) (p : BitVec 16), s.running = true ∧ s.rd (Reg.MEAS_ADC_CFG_EN x) = 1 ∧ (s.adcOf x).busy = true ∧ s.relieved x = false ∧ (s.adcOf x).gain = none ∧ s.rd (Reg.MEAS_STOP_REPEAT x (s.adcOf x).stop) = 0 ∧ s.word (0x0A000300 + 0x20 * x.val + 4 * s.rd (Reg.MEAS_STOP_GAIN x (s.adcOf x).stop)) = 0 ∧ c ≠ 0x8000)
    ∧ (∃ (s : State) (x : Fin 4), s.running = true ∧ s.rd (Reg.MEAS_ADC_CFG_TIMEOUT x) ≤ (s.adcOf x).age ∧ (s.meas.table.map (fun p => p.1)).Nodup ∧ s.meas.last4.1 ≠ x.val) :=
  ⟨⟨(up.wr (Reg.MEAS_ADC_CFG_EN 3) 1), 3, true, by decide +kernel, by decide +kernel, by decide +kernel, by decide +kernel⟩,
   ⟨(State.setStage ((State.wr { up with meas := { up.meas with adc := up.meas.adc.set 3 { busy := true } } } (Reg.MEAS_ADC_CFG_EN 3) 1).wr (Reg.MEAS_STOP_TRIGGER 3 0) 1) 7), 3, true, by decide +kernel, by decide +kernel, by decide +kernel, by decide +kernel⟩,
   ⟨(State.wr { up with meas := { up.meas with adc := up.meas.adc.set 3 { busy := true } } } (Reg.MEAS_ADC_CFG_EN 3) 1), 3, true, by decide +kernel, by decide +kernel, by decide +kernel⟩,
   ⟨(State.wr { up with meas := { up.meas with adc := up.meas.adc.set 3 { busy := true } } } (Reg.MEAS_ADC_CFG_EN 3) 1), 3, [(100, false)], 0, 5, (State.stopResult (State.wr { up with meas := { up.meas with adc := up.meas.adc.set 3 { busy := true } } } (Reg.MEAS_ADC_CFG_EN 3) 1) 3 [(100, false)]).getD {}, by decide +kernel, by decide +kernel, by decide +kernel, by decide +kernel⟩,
   ⟨(State.wr { up with meas := { up.meas with adc := up.meas.adc.set 3 { busy := true } } } (Reg.MEAS_ADC_CFG_EN 3) 1), 3, 0x8001, false, 0, 5, by decide +kernel, by decide +kernel, by decide +kernel, by decide +kernel⟩,
   ⟨up.wr (Reg.MEAS_ADC_CFG_TIMEOUT 3) 0, 3, by decide +kernel, by decide +kernel, by decide +kernel, by decide +kernel⟩⟩

theorem witness_handover_cut :
    (∃ (s : State), s.running = true ∧ s.meas.cutAt ≠ some s.stage ∧ s.duo.role ≠ 2 ∧ s.meas.sdFell = 0 ∧ (s.meas.table.map (fun p => p.1)).Nodup ∧ (∀ p ∈ s.meas.table, p.1 < 260))
    ∧ (∃ (s : State), s.running = true ∧ s.meas.cutAt = some s.stage)
    ∧ (∃ (s : State), s.running = true ∧ s.meas.cutAt ≠ some s.stage ∧ s.duo.role = 2 ∧ s.meas.sdFell = 0)
    ∧ (∃ (s : State) (m : Fin 4), s.running = true ∧ s.meas.cutAt ≠ some s.stage ∧ s.duo.role ≠ 2 ∧ s.meas.sdFell = 2 ^ m.val ∧ s.meas.table = []) :=
  ⟨⟨{ up with meas := { up.meas with table := [(0, {}), (259, { new := true, stale := false })] } }, by decide +kernel, by decide +kernel, by decide +kernel, by decide +kernel⟩,
   ⟨{ up with meas := { up.meas with cutAt := some 0 } }, by decide +kernel, by decide +kernel⟩,
   ⟨{ up with duo := { up.duo with role := 2 } }, by decide +kernel, by decide +kernel, by decide +kernel, by decide +kernel⟩,
   ⟨{ up with meas := { up.meas with sdFell := 8 } }, 3, by decide +kernel, by decide +kernel, by decide +kernel, by decide +kernel⟩⟩

theorem witness_sigma_delta :
    (∃ (s : State) (m : Fin 4) (c : BitVec 16) (o : Bool) (ago : Byte) (p : BitVec 16), s.running = true ∧ s.sdDown m = false ∧ s.meas.calSd = none ∧ s.meas.settle.length = 4 ∧ s.word (0x0A000300 + 0x20 * (5 + m.val)) = 0)
    ∧ (∃ (s : State) (m : Fin 4), s.running = true ∧ s.sdDown m = false)
    ∧ (∃ (s : State) (m : Fin 4), s.running = true ∧ bit4 (s.rd Reg.MEAS_SD_STAT_LOST) m = true ∧ bit4 s.meas.sdFell m = false ∧ s.meas.settle.length = 4) :=
  ⟨⟨up.wr Reg.MEAS_SD_STAT_LOST 0, 3, 0x7FFF, true, 0, 0, by decide +kernel, by decide +kernel, by decide +kernel, by decide +kernel⟩,
   ⟨up.wr Reg.MEAS_SD_STAT_LOST 0, 3, by decide +kernel, by decide +kernel⟩,
   ⟨up.wr Reg.MEAS_SD_STAT_LOST 15, 3, by decide +kernel, by decide +kernel, by decide +kernel, by decide +kernel⟩⟩

theorem witness_relief_and_calibration :
    (∃ (s : State), s.running = true ∧ s.rd Reg.MEAS_CAL_CFG_AUTO_S ≠ 0 ∧ s.rd Reg.MEAS_CAL_CFG_AUTO_S * 250000000 < s.meas.autoNs + s.tsNs ∧ s.meas.auto < 4 ∧ s.meas.auto ∉ s.meas.queue ∧ (∀ p, s.meas.relief = some p → p.1 ≠ s.meas.auto))
    ∧ (∃ (s : State) (x : Nat) (l : List Nat), s.running = true ∧ s.meas.queue = x :: l ∧ s.meas.relief = none ∧ s.meas.cal4 = false ∧ x < 4)
    ∧ (∃ (s : State) (x : Fin 4), s.running = true ∧ s.meas.relief = some (x.val, .connected) ∧ (s.adcOf x).busy = false)
    ∧ (∃ (s : State) (x : Nat) (l : List (Int × Int)), s.running = true ∧ s.meas.relief = some (x, .running) ∧ 2000000 < s.meas.reliefNs + s.tsNs)
    ∧ (∃ (s : State) (x : Fin 4) (l : Coefs), s.running = true ∧ s.meas.relief = some (x.val, .calibrated) ∧ s.meas.coefs = some l ∧ (s.adcOf x).busy = false)
    ∧ (∃ (s : State) (r : Req) (x : Fin 4), Ready s r Verb.CAL ∧ x.val ∉ s.meas.queue ∧ (∀ p, s.meas.relief = some p → p.1 ≠ x.val))
    ∧ (∃ (s : State) (r : Req), Ready s r Verb.CAL ∧ s.meas.queue = [] ∧ s.meas.relief = none ∧ s.meas.cal4 = false)
    ∧ (∃ (s : State) (r : Req), Ready s r Verb.CAL ∧ s.station = St.STANDBY ∧ s.meas.calSd = none)
    ∧ (∃ (s : State) (r : Req), Ready s r Verb.CAL ∧ s.station ≠ St.STANDBY)
    ∧ (∃ (s : State) (r : Req) (x : Fin 4) (p : Word), Ready s r Verb.CAL ∧ p ≠ 0)
    ∧ (∃ (s : State) (l : Coefs), s.running = true ∧ s.meas.cal4 = true) :=
  ⟨⟨(State.wr { up with meas := { up.meas with auto := 3, autoNs := 250000000 } } Reg.MEAS_CAL_CFG_AUTO_S 1), by decide +kernel, by decide +kernel, by decide +kernel, by decide +kernel⟩,
   ⟨{ up with meas := { up.meas with queue := [3, 0] } }, 3, [0], by decide +kernel, by decide +kernel, by decide +kernel, by decide +kernel⟩,
   ⟨{ up with meas := { up.meas with relief := some (3, .connected) } }, 3, by decide +kernel, by decide +kernel, by decide +kernel⟩,
   ⟨{ up with meas := { up.meas with relief := some (0, .running), reliefNs := 2000000 } }, 0, [(1, 2)], by decide +kernel, by decide +kernel, by decide +kernel⟩,
   ⟨{ up with meas := { up.meas with relief := some (3, .calibrated), coefs := some [(1, 2), (3, 4), (5, 6), (7, 8)] } }, 3, [(1, 2), (3, 4), (5, 6), (7, 8)], by decide +kernel, by decide +kernel, by decide +kernel, by decide +kernel⟩,
   ⟨host, rq, 3, by unfold Ready; decide +kernel, by decide +kernel, by decide +kernel⟩,
   ⟨host, rq, by unfold Ready; decide +kernel, by decide +kernel, by decide +kernel, by decide +kernel⟩,
   ⟨host.wr Reg.POL_STATE_STATE 2, rq, by unfold Ready; decide +kernel, by decide +kernel, by decide +kernel⟩,
   ⟨host, rq, by unfold Ready; decide +kernel, by decide +kernel⟩,
   ⟨host, rq, 0, 1, by unfold Ready; decide +kernel, by decide +kernel⟩,
   ⟨{ up with meas := { up.meas with cal4 := true } }, [(0, 0), (0, 0), (0, 0), (0, 0)], by decide +kernel, by decide +kernel⟩⟩

theorem witness_link_locks :
    (∃ (s : State) (l : Fin 50), s.running = true ∧ s.rd (Reg.LANE_STAT_LOCKED l) = 1)
    ∧ (∃ (s : State) (l : Fin 50), s.running = true ∧ s.rd (Reg.LANE_STAT_LOCKED l) = 0)
    ∧ (∃ (s : State) (l : Fin 50) (x : BitVec 16), s.running = true ∧ s.rd (Reg.LANE_STAT_LOCKED l) = 1)
    ∧ (∃ (s : State) (l : Fin 50), s.running = true)
    ∧ (∃ (s : State) (n : Fin 24) (ret : Bool), s.running = true ∧ s.routeOn n = true ∧ s.ownEnd ret = true ∧ (s.route n).training = none ∧ (if ret then (s.route n).downRet else (s.route n).downOut) = true)
    ∧ (∃ (s : State) (l : Fin 50), s.running = true ∧ s.rd (Reg.LANE_STAT_LOCKED l) = 1) :=
  ⟨⟨(puts up [(Reg.LANE_STAT_LOCKED 49, 1)]), 49, by decide +kernel, by decide +kernel⟩,
   ⟨(puts up [(Reg.LANE_STAT_LOCKED 0, 0)]), 0, by decide +kernel, by decide +kernel⟩,
   ⟨(puts up [(Reg.LANE_STAT_LOCKED 49, 1)]), 49, 0xFFFF, by decide +kernel, by decide +kernel⟩,
   ⟨up, 49, by decide +kernel⟩,
   ⟨((puts up [(Reg.ROUTE_CFG_EN 23, 1)]).setRoute 23 { downRet := true }), 23, true, by decide +kernel, by decide +kernel, by decide +kernel, by decide +kernel⟩,
   ⟨(puts up [(Reg.LANE_STAT_LOCKED 49, 1)]), 49, by decide +kernel, by decide +kernel⟩⟩

theorem witness_training_ends_served_or_refused :
    (∃ (s : State) (n : Fin 24), s.running = true ∧ s.switching = false ∧ s.routeOn n = true)
    ∧ (∃ (s : State) (n : Fin 24), s.running = true ∧ s.switching = true ∧ s.routeOn n = true ∧ (s.route n).training ≠ some false)
    ∧ (∃ (s : State) (l : Fin 48), s.running = true ∧ (s.route (l.val / 2)).training.isSome = true ∧ s.ownEnd (l.val % 2 == 1) = true ∧ s.rd (Reg.LANE_STAT_LOCKED l) = 0 ∧ (s.route (l.val / 2)).since = none ∧ 3999 ≤ (s.route (l.val / 2)).waitN)
    ∧ (∃ (s : State) (n : Fin 24) (p : List LinkIn) (o : List LinkIn) (q : List LinkIn), s.running = true)
    ∧ (∃ (s : State) (n : Fin 24) (k : Nat), s.running = true ∧ (s.route n).training = some false ∧ (s.route n).since = some k ∧ k < reportFrom false)
    ∧ (∃ (s : State) (n : Fin 24) (k : Nat), s.running = true ∧ (s.route n).training = some false ∧ (s.route n).since = some k ∧ reportFrom false ≤ k)
    ∧ (∃ (s : State) (n : Fin 24) (k : Nat), s.running = true ∧ (s.route n).training = some false ∧ (s.route n).since = some k ∧ reportFrom false ≤ k ∧ (s.route n).judged = .ready)
    ∧ (∃ (s : State) (n : Fin 24), s.routeOn n = true ∧ s.endLocked n false = false ∧ s.endLocked n true = false)
    ∧ (∃ (s : State) (r : Req) (p : Word), Ready s r Verb.TEST ∧ p.toNat < 2 ^ 24 ∧ p ≠ 0 ∧ s.switching = false ∧ (∀ n : Fin 24, p.getLsbD n.val = true → s.routeOn n = true)) :=
  ⟨⟨(puts up [(Reg.ROUTE_CFG_EN 23, 1), (Reg.ROUTE_CFG_CELL_COUNT 23, 1), (Reg.ROUTE_CFG_FIRST_INDEX 23, 511), (Reg.ROUTE_RUN_REACH_OUT 23, 1)]), 23, by decide +kernel, by decide +kernel, by decide +kernel⟩,
   ⟨(puts up [(Reg.POL_STATE_STATE, 3), (Reg.ROUTE_CFG_EN 23, 1), (Reg.ROUTE_CFG_CELL_COUNT 23, 1), (Reg.ROUTE_CFG_FIRST_INDEX 23, 511), (Reg.ROUTE_RUN_REACH_OUT 23, 1)]), 23, by decide +kernel, by decide +kernel, by decide +kernel, by decide +kernel⟩,
   ⟨((puts up [(Reg.ROUTE_CFG_EN 23, 1), (Reg.ROUTE_CFG_CELL_COUNT 23, 1), (Reg.ROUTE_CFG_FIRST_INDEX 23, 511), (Reg.ROUTE_RUN_REACH_OUT 23, 1)]).setRoute 23 { training := some false, waitN := 3999 }), 47, by decide +kernel, by decide +kernel, by decide +kernel, by decide +kernel⟩,
   ⟨((puts up [(Reg.ROUTE_CFG_EN 23, 1), (Reg.ROUTE_CFG_CELL_COUNT 23, 1), (Reg.ROUTE_CFG_FIRST_INDEX 23, 511), (Reg.ROUTE_RUN_REACH_OUT 23, 1)]).setRoute 23 { training := some false, since := some 45 }), 23, [.partner 23 true []], [.burst 23 false [1, 2] 3], [.slots 23 true (List.replicate 512 0)], by decide +kernel⟩,
   ⟨((puts up [(Reg.ROUTE_CFG_EN 23, 1), (Reg.ROUTE_CFG_CELL_COUNT 23, 1), (Reg.ROUTE_CFG_FIRST_INDEX 23, 511), (Reg.ROUTE_RUN_REACH_OUT 23, 1)]).setRoute 23 { training := some false, since := some 44 }), 23, 44, by decide +kernel, by decide +kernel, by decide +kernel, by decide +kernel⟩,
   ⟨((puts up [(Reg.ROUTE_CFG_EN 23, 1), (Reg.ROUTE_CFG_CELL_COUNT 23, 1), (Reg.ROUTE_CFG_FIRST_INDEX 23, 511), (Reg.ROUTE_RUN_REACH_OUT 23, 1)]).setRoute 23 { training := some false, since := some 45, judged := .degraded, hopsOut := [⟨0, 0, [], none⟩] }), 23, 45, by decide +kernel, by decide +kernel, by decide +kernel, by decide +kernel⟩,
   ⟨((puts up [(Reg.ROUTE_CFG_EN 23, 1), (Reg.ROUTE_CFG_CELL_COUNT 23, 1), (Reg.ROUTE_CFG_FIRST_INDEX 23, 511), (Reg.ROUTE_RUN_REACH_OUT 23, 1)]).setRoute 23 { training := some false, since := some 45, judged := .ready }), 23, 45, by decide +kernel, by decide +kernel, by decide +kernel, by decide +kernel⟩,
   ⟨(puts up [(Reg.ROUTE_CFG_EN 23, 1), (Reg.ROUTE_CFG_CELL_COUNT 23, 1), (Reg.ROUTE_CFG_FIRST_INDEX 23, 511), (Reg.ROUTE_RUN_REACH_OUT 23, 1)]), 23, by decide +kernel, by decide +kernel, by decide +kernel⟩,
   ⟨(puts host [(Reg.ROUTE_CFG_EN 23, 1), (Reg.ROUTE_CFG_CELL_COUNT 23, 1), (Reg.ROUTE_CFG_FIRST_INDEX 23, 511), (Reg.ROUTE_RUN_REACH_OUT 23, 1), (Reg.ROUTE_CFG_EN 0, 1), (Reg.ROUTE_CFG_CELL_COUNT 0, 0), (Reg.ROUTE_CFG_FIRST_INDEX 0, 0), (Reg.ROUTE_RUN_REACH_OUT 0, 0)]), rq, 0x00800001, by unfold Ready; decide +kernel, by decide +kernel, by decide +kernel, by decide +kernel, by decide +kernel⟩⟩

theorem witness_ledger_trains_carry_every_slot :
    (∃ (s : State) (n : Fin 24) (ret : Bool) (b : List Byte) (x : BitVec 16), s.running = true ∧ s.rd (Reg.LANE_STAT_LOCKED (linkOf n ret)) = 0)
    ∧ (∃ (s : State) (n : Fin 24) (ret : Bool) (b : List Byte) (x : BitVec 16), s.running = true ∧ s.takesTrains n ret ∧ s.link.cutAt = some s.stage)
    ∧ (∃ (s : State) (n : Fin 24) (ret : Bool) (b : List Byte) (x : BitVec 16), s.running = true ∧ s.takesTrains n ret ∧ s.link.cutAt ≠ some s.stage ∧ headGood b = false)
    ∧ (∃ (s : State) (n : Fin 24) (ret : Bool) (b : List Byte) (x : BitVec 16), s.running = true ∧ s.takesTrains n ret ∧ s.link.cutAt ≠ some s.stage ∧ headGood b = true ∧ (∀ h : Nat, h < s.cellsOn n → allZero (slotOf b h) = true ∨ ledgerGood b n h = true) ∧ (∀ p ∈ upstream b (s.cellsOn n), allZero p.2 = true))
    ∧ (∃ (s : State) (l : List LinkIn), s.running = true ∧ s.link.cutAt = some s.stage)
    ∧ (∃ (s : State) (l : List LinkIn), s.running = true ∧ s.link.cutAt ≠ some s.stage)
    ∧ (∃ (s : State) (n : Fin 24) (b : List Byte), s.running = true ∧ s.link.cutAt ≠ some s.stage ∧ s.routes = [n.val] ∧ s.cellsOn n = 1 ∧ s.firstOf n < 512 ∧ s.reach n false = 1 ∧ s.ownEnd false = true ∧ (s.route n).training = none ∧ (s.route n).trainOut = some b ∧ ledgerGood b n 0 = true ∧ beAt b 2 2 = s.stage % 65536 ∧ s.statusOfLedger (slotOf b 0) ≠ 3)
    ∧ (∃ (s : State) (n : Fin 24), s.running = true ∧ s.link.cutAt ≠ some s.stage ∧ s.routes = [n.val] ∧ s.cellsOn n = 1 ∧ s.firstOf n < 512 ∧ s.reach n false = 1 ∧ s.ownEnd false = true ∧ (s.route n).training = none ∧ (s.route n).trainOut = none ∧ (s.route n).trainRet = none) :=
  ⟨⟨up, 23, true, [], 1, by decide +kernel, by decide +kernel⟩,
   ⟨{ (puts up [(Reg.LANE_STAT_LOCKED 47, 1), (Reg.ROUTE_CFG_EN 23, 1), (Reg.ROUTE_CFG_CELL_COUNT 23, 1), (Reg.ROUTE_CFG_FIRST_INDEX 23, 511), (Reg.ROUTE_RUN_REACH_OUT 23, 1)]) with link := { up.link with cutAt := some 0 } }, 23, true, [], 1, by decide +kernel, by unfold State.takesTrains; decide +kernel, by decide +kernel⟩,
   ⟨(puts up [(Reg.LANE_STAT_LOCKED 47, 1), (Reg.ROUTE_CFG_EN 23, 1), (Reg.ROUTE_CFG_CELL_COUNT 23, 1), (Reg.ROUTE_CFG_FIRST_INDEX 23, 511), (Reg.ROUTE_RUN_REACH_OUT 23, 1)]), 23, true, [], 1, by decide +kernel, by unfold State.takesTrains; decide +kernel, by decide +kernel, by decide +kernel⟩,
   ⟨(puts up [(Reg.LANE_STAT_LOCKED 46, 1), (Reg.ROUTE_CFG_EN 23, 1), (Reg.ROUTE_CFG_CELL_COUNT 23, 1), (Reg.ROUTE_CFG_FIRST_INDEX 23, 511), (Reg.ROUTE_RUN_REACH_OUT 23, 1)]), 23, false, trainOf 23, 1, by decide +kernel, by unfold State.takesTrains; decide +kernel, by decide +kernel, by decide +kernel, by decide +kernel, by decide +kernel⟩,
   ⟨{ up with link := { up.link with cutAt := some 0 } }, [], by decide +kernel, by decide +kernel⟩,
   ⟨(puts up [(Reg.ROUTE_CFG_EN 23, 1), (Reg.ROUTE_CFG_CELL_COUNT 23, 1), (Reg.ROUTE_CFG_FIRST_INDEX 23, 511), (Reg.ROUTE_RUN_REACH_OUT 23, 1)]), [.burst 23 true [1] 3], by decide +kernel, by decide +kernel⟩,
   ⟨(((puts up [(Reg.ROUTE_CFG_EN 23, 1), (Reg.ROUTE_CFG_CELL_COUNT 23, 1), (Reg.ROUTE_CFG_FIRST_INDEX 23, 511), (Reg.ROUTE_RUN_REACH_OUT 23, 1)]).setStage 1000).setRoute 23 { trainOut := some (freshTrain 23 1000 (up.sampleStage 1000).toNat) }), 23, freshTrain 23 1000 (up.sampleStage 1000).toNat, by decide +kernel, by decide +kernel, by decide +kernel, by decide +kernel⟩,
   ⟨(puts up [(Reg.ROUTE_CFG_EN 23, 1), (Reg.ROUTE_CFG_CELL_COUNT 23, 1), (Reg.ROUTE_CFG_FIRST_INDEX 23, 511), (Reg.ROUTE_RUN_REACH_OUT 23, 1)]), 23, by decide +kernel, by decide +kernel, by decide +kernel, by decide +kernel⟩⟩

theorem witness_waybills_and_frames :
    (∃ (s : State), s.running = true ∧ s.link.wayAt = some s.stage)
    ∧ (∃ (s : State) (n : Fin 24), s.running = true ∧ s.link.wayAt ≠ some s.stage ∧ s.routes.filter s.inUse = [n.val] ∧ (s.route n).handed = false)
    ∧ (∃ (s : State), s.running = true ∧ s.link.wayAt ≠ some s.stage ∧ (∀ n ∈ s.routes, s.inUse n = true → (s.route n).handed = true))
    ∧ (∃ (s : State) (n : Fin 24), s.running = true ∧ s.routes = [n.val] ∧ s.inUse n = true ∧ (s.route n).training = none ∧ s.paired = false ∧ s.endLocked n false = true ∧ 0 < s.reach n false ∧ s.reach n true = 0 ∧ s.link.inject = [] ∧ s.link.parcels = [] ∧ s.firstOf n + s.cellsOn n ≤ 512)
    ∧ (∃ (s : State) (n : Fin 24), s.running = true ∧ s.routes = [n.val] ∧ (s.route n).training = some false ∧ s.paired = false ∧ s.endLocked n false = true ∧ s.endLocked n true = true ∧ (s.route n).marker = none)
    ∧ (∃ (s : State) (n : Fin 24) (ret : Bool), s.running = true ∧ s.routes = [n.val] ∧ (s.route n).training = some false ∧ s.ownEnd ret = true ∧ s.endLocked n ret = true ∧ s.markers n ret ≠ [])
    ∧ (∃ (s : State) (n : Fin 24) (ret : Bool) (x : HopSeen), (s.route n).training = some false ∧ (s.route n).since = some 9 ∧ (s.route n).hops ret = [x] ∧ s.matches (s.cellAt n 0 ret) x = true) :=
  ⟨⟨{ up with link := { up.link with wayAt := some 0 } }, by decide +kernel, by decide +kernel⟩,
   ⟨(puts up [(Reg.ROUTE_CFG_EN 23, 1), (Reg.ROUTE_CFG_CELL_COUNT 23, 1), (Reg.ROUTE_CFG_FIRST_INDEX 23, 511), (Reg.ROUTE_RUN_REACH_OUT 23, 1), (Reg.ROUTE_STAT_STATE 23, 3)]), 23, by decide +kernel, by decide +kernel, by decide +kernel, by decide +kernel⟩,
   ⟨((puts up [(Reg.ROUTE_CFG_EN 23, 1), (Reg.ROUTE_CFG_CELL_COUNT 23, 1), (Reg.ROUTE_CFG_FIRST_INDEX 23, 511), (Reg.ROUTE_RUN_REACH_OUT 23, 1), (Reg.ROUTE_STAT_STATE 23, 3)]).setRoute 23 { handed := true }), by decide +kernel, by decide +kernel, by decide +kernel⟩,
   ⟨(puts up [(Reg.LANE_STAT_LOCKED 46, 1), (Reg.ROUTE_CFG_EN 23, 1), (Reg.ROUTE_CFG_CELL_COUNT 23, 1), (Reg.ROUTE_CFG_FIRST_INDEX 23, 511), (Reg.ROUTE_RUN_REACH_OUT 23, 1), (Reg.ROUTE_STAT_STATE 23, 3)]), 23, by decide +kernel, by decide +kernel, by decide +kernel, by decide +kernel⟩,
   ⟨((puts up [(Reg.LANE_STAT_LOCKED 46, 1), (Reg.LANE_STAT_LOCKED 47, 1), (Reg.ROUTE_CFG_EN 23, 1), (Reg.ROUTE_CFG_CELL_COUNT 23, 1), (Reg.ROUTE_CFG_FIRST_INDEX 23, 511), (Reg.ROUTE_RUN_REACH_OUT 23, 1)]).setRoute 23 { training := some false, since := some 0 }), 23, by decide +kernel, by decide +kernel, by decide +kernel, by decide +kernel⟩,
   ⟨((puts up [(Reg.LANE_STAT_LOCKED 47, 1), (Reg.ROUTE_CFG_EN 23, 1), (Reg.ROUTE_CFG_CELL_COUNT 23, 1), (Reg.ROUTE_CFG_FIRST_INDEX 23, 511), (Reg.ROUTE_RUN_REACH_OUT 23, 1)]).setRoute 23 { training := some false, since := some 9, hopsRet := [⟨0, 0, [], none⟩] }), 23, true, by decide +kernel, by decide +kernel, by decide +kernel, by decide +kernel⟩,
   ⟨((puts up [(Reg.ROUTE_CFG_EN 23, 1), (Reg.ROUTE_CFG_CELL_COUNT 23, 1), (Reg.ROUTE_CFG_FIRST_INDEX 23, 511), (Reg.ROUTE_RUN_REACH_OUT 23, 1)]).setRoute 23 { training := some false, since := some 9, hopsRet := [⟨0, 0, [], none⟩] }), 23, true, ⟨0, 0, [], none⟩, by decide +kernel, by decide +kernel, by decide +kernel, by decide +kernel⟩⟩

theorem witness_parcels_run_to_their_end :
    (∃ (s : State) (r : Req) (c : BitVec 16) (k : Byte) (b : List Byte), Ready s r Verb.PARCEL ∧ k.toNat ≤ 1 ∧ b.length ≤ 1392 ∧ c.toNat < s.rd Reg.ROUTE_TABLE_TOTAL_CELLS ∧ s.answering c.toNat = true ∧ assocGet s.link.parcels c.toNat = none)
    ∧ (∃ (s : State) (r : Req) (c : BitVec 16) (k : Byte) (b : List Byte), Ready s r Verb.PARCEL ∧ k.toNat ≤ 1 ∧ b.length ≤ 1392 ∧ (s.rd Reg.ROUTE_TABLE_TOTAL_CELLS ≤ c.toNat ∨ s.answering c.toNat = false))
    ∧ (∃ (s : State) (c : Fin 512) (p : Parcel), s.running = true ∧ assocGet s.link.parcels c = some p ∧ p.due = false ∧ p.busy = false ∧ p.got = false ∧ p.sentAt + 6 ≤ s.stage)
    ∧ (∃ (s : State) (c : Fin 512) (p : Parcel), s.running = true ∧ assocGet s.link.parcels c = some p ∧ p.busy = true ∧ p.busyAt + 6 ≤ s.stage)
    ∧ (∃ (s : State) (c : Fin 512) (p : Parcel) (i : Fin 4) (b : BusyCmd), Executes s i b ∧ assocGet s.link.parcels c = some p ∧ b.op = .parcel c ∧ s.passed p.since 8000000 = true ∧ s.findOp (fun o => o == .parcel c) = some i) :=
  ⟨⟨(puts host [(Reg.ROUTE_TABLE_TOTAL_CELLS, 512), (Reg.CELL_LINK_ANSWERING 511, 1)]), rq, 511, 1, [], by unfold Ready; decide +kernel, by decide +kernel, by decide +kernel, by decide +kernel, by decide +kernel⟩,
   ⟨host, rq, 0, 1, [], by unfold Ready; decide +kernel, by decide +kernel, by decide +kernel, by decide +kernel⟩,
   ⟨({ up with link := { up.link with parcels := [(511, { tag := 1, fromCell := false, body := [1, 2], done := 1, due := false, busy := false })] } }).setStage 6, 511, { tag := 1, fromCell := false, body := [1, 2], done := 1, due := false, busy := false }, by decide +kernel, by decide +kernel, by decide +kernel, by decide +kernel⟩,
   ⟨({ up with link := { up.link with parcels := [(511, { tag := 1, fromCell := false, body := [1, 2], done := 1, due := false, busy := true })] } }).setStage 6, 511, { tag := 1, fromCell := false, body := [1, 2], done := 1, due := false, busy := true }, by decide +kernel, by decide +kernel, by decide +kernel, by decide +kernel⟩,
   ⟨(aged { (busyWith (.parcel 511)) with link := { up.link with parcels := [(511, { tag := 1, fromCell := false, body := [1, 2], done := 1, due := false, busy := false })] } }), 511, { tag := 1, fromCell := false, body := [1, 2], done := 1, due := false, busy := false }, 0, cmd (.parcel 511), by unfold Executes; decide +kernel, by decide +kernel, by decide +kernel, by decide +kernel, by decide +kernel⟩⟩

theorem witness_link_tests :
    (∃ (s : State) (r : Req) (p : Word), Ready s r Verb.TEST ∧ s.prbsRefusal p = none)
    ∧ (∃ (s : State) (r : Req) (p : Word) (x : Nat), Ready s r Verb.TEST ∧ s.prbsRefusal p = some x)
    ∧ (∃ (s : State) (l : Fin 50) (i : Fin 4) (b : BusyCmd) (x : BitVec 64) (e : Word) (k : Bool), Executes s i b ∧ assocGet s.link.prbs l = some false ∧ s.reached (s.prbsEnds l) = true ∧ b.op = .prbs l ∧ s.findOp (fun o => o == .prbs l) = some i)
    ∧ (∃ (s : State) (r : Req) (p : Word), Ready s r Verb.TEST ∧ s.injectRefusal p = none) :=
  ⟨⟨host, rq, 0x26AC0031, by unfold Ready; decide +kernel, by decide +kernel⟩,
   ⟨host, rq, 0x00010032, Status.VALUE_OUT_OF_RANGE, by unfold Ready; decide +kernel, by decide +kernel⟩,
   ⟨{ (busyWith (.prbs 49)) with link := { up.link with prbs := [(48, true), (49, false)] } }, 49, 0, cmd (.prbs 49), 0, 0, true, by unfold Executes; decide +kernel, by decide +kernel, by decide +kernel, by decide +kernel, by decide +kernel⟩,
   ⟨(puts host [(Reg.ROUTE_CFG_EN 23, 1), (Reg.ROUTE_CFG_CELL_COUNT 23, 1), (Reg.ROUTE_CFG_FIRST_INDEX 23, 511), (Reg.ROUTE_RUN_REACH_OUT 23, 1)]), rq, 46, by unfold Ready; decide +kernel, by decide +kernel⟩⟩

theorem witness_packet_paths :
    (∃ (s : State) (p : Fin 2) (a : Word) (q : BitVec 16) (u : Bool) (b : List Byte), s.running = true ∧ s.pathOn (portPath p) = false)
    ∧ (∃ (s : State) (p : Fin 2) (a : Word) (q : BitVec 16) (u : Bool) (b : List Byte), s.running = true ∧ s.pathOn (portPath p) = true ∧ (u = true ∨ receive b = .notPacket))
    ∧ (∃ (s : State) (p : Fin 2) (a : Word) (q : BitVec 16) (b : List Byte) (k : Packet), s.running = true ∧ s.isKeeper = true ∧ s.duo.inStep = false ∧ s.pathOn (portPath p) = true ∧ receive b = .passed k ∧ k.head.flags / 4 % 2 = 0 ∧ s.boundTo (Fin.ofNat 4 k.head.session) ⟨portPath p, a, q⟩ = false)
    ∧ (∃ (s : State) (p : Fin 2) (a : Word) (q : BitVec 16) (b : List Byte) (k : Packet) (i : Fin 4) (c : Instr), s.running = true ∧ s.duo.inStep = false ∧ s.pathOn (portPath p) = true ∧ receive b = .passed k ∧ k.head.flags / 4 % 2 = 0 ∧ k.head.session = i.val ∧ s.boundTo i ⟨portPath p, a, q⟩ = true ∧ (k.head.seq + 2 ^ 32 - s.baseSeq i) % 2 ^ 32 < 64 ∧ assocGet (s.sess i).waiting k.head.seq = none ∧ assocGet (s.sess i).waiting (s.baseSeq i) = none ∧ (s.sess i).due = none ∧ (s.sess i).busy = none ∧ waitingOf k = .cmd k.head c)
    ∧ (∃ (s : State) (c : Fin 2) (b : Byte) (x : Byte) (d : List Byte), s.running = true ∧ s.pathOn (canPath c) = true ∧ s.canHears c = true ∧ s.canRx[c] = none ∧ b.toNat = 128)
    ∧ (∃ (s : State) (c : Fin 2) (b : Byte) (x : Byte) (d : List Byte), s.running = true ∧ s.pathOn (canPath c) = true ∧ s.canHears c = true ∧ s.canRx[c] = none ∧ b.toNat < 128)
    ∧ (∃ (s : State) (c : Fin 2) (b : Byte) (x : Byte) (d : List Byte) (a : CanAsm), s.running = true ∧ s.pathOn (canPath c) = true ∧ s.canHears c = true ∧ s.canRx[c] = some a ∧ a.dead = true ∧ b.toNat < 128)
    ∧ (∃ (s : State) (c : Fin 2) (d : List Byte), s.running = true ∧ s.canHears c = false)
    ∧ (∃ (s : State) (c : Fin 2) (a : CanAsm), s.running = true ∧ s.canRx[c] = some a ∧ a.dead = false ∧ s.passed a.at_ 50000000 = true)
    ∧ (∃ (s : State) (c : Fin 2) (x : CanReply) (l : List CanReply), s.running = true ∧ s.canTx[c] = x :: l ∧ s.passed x.since 100000000 = true)
    ∧ (∃ (s : State) (l : List Byte), s.running = true ∧ 3000 < l.length)
    ∧ (∃ (s : State) (l : List Byte) (k : Packet), s.running = true ∧ l.length ≤ 3000 ∧ l.head? ≠ some 46 ∧ readLine l = (.packet k, false)) :=
  ⟨⟨up.wr Reg.CMD_CFG_ETHB_EN 0, 1, 0, 0, false, [], by decide +kernel, by decide +kernel⟩,
   ⟨up.wr Reg.CMD_CFG_ETHB_EN 1, 1, 0, 0, true, [], by decide +kernel, by decide +kernel, by decide +kernel⟩,
   ⟨up.wr Reg.CMD_CFG_ETHA_EN 1, 0, 0, 0, ({ head := { session := 0, seq := 1, verb := Verb.ECHO, mood := 1, base := 0, flags := 0 }, version := 1, rest9 := 0, due := 0, addr := 0, payload := [] } : Packet).bytes, { head := { session := 0, seq := 1, verb := Verb.ECHO, mood := 1, base := 0, flags := 0 }, version := 1, rest9 := 0, due := 0, addr := 0, payload := [] }, by decide +kernel, by decide +kernel, by decide +kernel, by decide +kernel⟩,
   ⟨(host.wr Reg.CMD_CFG_ETHA_EN 1).wr (Reg.CMD_SESSION_BASE_SEQ 0) 1, 0, 0, 0, ({ head := { session := 0, seq := 1, verb := Verb.ECHO, mood := 1, base := 0, flags := 0 }, version := 1, rest9 := 0, due := 0, addr := 0, payload := [] } : Packet).bytes, { head := { session := 0, seq := 1, verb := Verb.ECHO, mood := 1, base := 0, flags := 0 }, version := 1, rest9 := 0, due := 0, addr := 0, payload := [] }, 0, .echo rq [], by decide +kernel, by decide +kernel, by decide +kernel, by decide +kernel⟩,
   ⟨(up.wr Reg.CMD_CFG_CANB_EN 1).wr Reg.ID_VIO_STAT_CLASS0 3, 1, 128, 0, [], by decide +kernel, by decide +kernel, by decide +kernel, by decide +kernel⟩,
   ⟨(up.wr Reg.CMD_CFG_CANB_EN 1).wr Reg.ID_VIO_STAT_CLASS0 3, 1, 127, 0, [], by decide +kernel, by decide +kernel, by decide +kernel, by decide +kernel⟩,
   ⟨(State.wr { up with canRx := up.canRx.set 1 (some { next := 0, short := false, bytes := [], dead := true }) } Reg.CMD_CFG_CANB_EN 1).wr Reg.ID_VIO_STAT_CLASS0 3, 1, 3, 0, [], { next := 0, short := false, bytes := [], dead := true }, by decide +kernel, by decide +kernel, by decide +kernel, by decide +kernel⟩,
   ⟨up.wr Reg.ID_VIO_STAT_CLASS0 0, 1, [128, 0], by decide +kernel, by decide +kernel⟩,
   ⟨(aged { up with canRx := up.canRx.set 1 (some { next := 1, short := false, bytes := [] }) }), 1, { next := 1, short := false, bytes := [] }, by decide +kernel, by decide +kernel, by decide +kernel, by decide +kernel⟩,
   ⟨(aged { up with canTx := up.canTx.set 1 [⟨[[1]], 0⟩, ⟨[[2]], 0⟩] }), 1, ⟨[[1]], 0⟩, [⟨[[2]], 0⟩], by decide +kernel, by decide +kernel, by decide +kernel⟩,
   ⟨up, List.replicate 3001 0, by decide +kernel, by decide +kernel⟩,
   ⟨up, ascii "0 1 ECHO DO 0 -", (match readLine (ascii "0 1 ECHO DO 0 -") with | (.packet k, _) => k | _ => { head := { session := 0, seq := 1, verb := Verb.ECHO, mood := 1, base := 0, flags := 0 }, version := 1, rest9 := 0, due := 0, addr := 0, payload := [] }), by decide +kernel, by decide +kernel, by decide +kernel, by decide +kernel⟩⟩

theorem witness_session_life :
    (∃ (s : State) (i : Fin 4) (x : Source) (p : List Byte), s.running = true ∧ s.isKeeper = true ∧ s.pathOn x.path = true ∧ x.path ≠ .mon ∧ s.isOpen i = false)
    ∧ (∃ (s : State) (i : Fin 4) (x : Source) (p : List Byte), s.running = true ∧ s.isKeeper = true ∧ s.pathOn x.path = true ∧ x.path ≠ .mon ∧ s.isOpen i = true ∧ (s.sess i).src ≠ x ∧ (s.sess i).idleNs < s.idleLimitNs)
    ∧ (∃ (s : State) (r : Req) (p : List Byte), Ready s r Verb.ECHO)
    ∧ (∃ (s : State) (i : Fin 4), s.running = true ∧ s.isOpen i = true ∧ (s.sess i).outstanding = 0 ∧ s.idleLimitNs ≤ (s.sess i).idleNs)
    ∧ (∃ (s : State) (i : Fin 4), s.running = true ∧ ((s.sess i).outstanding ≠ 0 ∨ (s.sess i).idleNs < s.idleLimitNs))
    ∧ (∃ (s : State) (i : Fin 4) (h : Head) (c : Instr), s.running = true ∧ s.isKeeper = true ∧ s.isOpen i = true ∧ (s.sess i).src.path ≠ .mon ∧ (s.sess i).due = none ∧ (s.sess i).busy = none ∧ h.session = i.val ∧ h.seq = (s.baseSeq i + 1) % 2 ^ 32 ∧ (s.sess i).waiting = [(h.seq, .cmd h c)] ∧ s.passed ((assocGet (s.sess i).waitAt h.seq).getD 0) 100000000 = true)
    ∧ (∃ (s : State) (i : Fin 4) (b : BusyCmd) (m : BitVec 16), Executes s i b ∧ b.op.long = true ∧ b.head.session = i.val)
    ∧ (∃ (s : State) (i : Fin 4) (b : BusyCmd), Executes s i b ∧ b.op.long = true ∧ s.atBound b = true ∧ b.head.session = i.val) :=
  ⟨⟨up.wr Reg.CMD_CFG_ETHB_EN 1, 3, ⟨.ethb, 1, 2⟩, [7], by decide +kernel, by decide +kernel, by decide +kernel, by decide +kernel⟩,
   ⟨(host.wr Reg.CMD_CFG_ETHB_EN 1).wr Reg.CMD_CFG_IDLE_S 1, 0, ⟨.ethb, 1, 2⟩, [7], by decide +kernel, by decide +kernel, by decide +kernel, by decide +kernel⟩,
   ⟨host, rq, [7], by unfold Ready; decide +kernel⟩,
   ⟨host.wr Reg.CMD_CFG_IDLE_S 0, 0, by decide +kernel, by decide +kernel, by decide +kernel, by decide +kernel⟩,
   ⟨busyWith .cal4, 0, by decide +kernel, by decide +kernel⟩,
   ⟨(aged (host.setSess 0 { waiting := [(1, .cmd (headOf rq Verb.ECHO 0 1) (.echo rq []))] })), 0, headOf rq Verb.ECHO 0 1, .echo rq [], by decide +kernel, by decide +kernel, by decide +kernel, by decide +kernel⟩,
   ⟨busyWith .cal4, 0, cmd .cal4, 500, by unfold Executes; decide +kernel, by decide +kernel, by decide +kernel⟩,
   ⟨(busyWith .cal4).setStage 1000000, 0, cmd .cal4, by unfold Executes; decide +kernel, by decide +kernel, by decide +kernel, by decide +kernel⟩⟩

theorem witness_get_returns_the_bytes_read :
    (∃ (s : State) (r : Req) (sh : Bool) (a : Word) (n : BitVec 16) (e : Nat) (l : List EccHit) (o : List (Nat × Nat)), Ready s r Verb.GET ∧ 4 ≤ n.toNat ∧ n.toNat ≤ 1400 ∧ n.toNat % 4 = 0 ∧ a.toNat < memBase ∧ objectsIn 351 a.toNat (a.toNat + n.toNat) = some o)
    ∧ (∃ (s : State) (r : Req) (a : Word) (n : BitVec 16) (e : Nat) (l : List EccHit) (o : List (Nat × Nat)), Ready s r Verb.GET ∧ 4 ≤ n.toNat ∧ n.toNat ≤ 1400 ∧ n.toNat % 4 = 0 ∧ 0x04000000 ≤ a.toNat ∧ a.toNat < memBase ∧ objectsIn 351 a.toNat (a.toNat + n.toNat) = some o)
    ∧ (∃ (s : State) (r : Req) (a : Word) (n : BitVec 16) (e : Nat) (l : List EccHit), Ready s r Verb.GET ∧ 4 ≤ n.toNat ∧ n.toNat ≤ 1400 ∧ n.toNat % 4 = 0 ∧ a.toNat < memBase ∧ objectsIn 351 a.toNat (a.toNat + n.toNat) = none)
    ∧ (∃ (s : State) (r : Req) (sh : Bool) (a : Word) (n : BitVec 16) (e : Nat) (l : List EccHit), Ready s r Verb.GET ∧ (n.toNat < 4 ∨ 1400 < n.toNat ∨ n.toNat % 4 ≠ 0))
    ∧ (∃ (s : State) (r : Req) (a : Word) (n : BitVec 16) (e : Nat), Ready s r Verb.GET ∧ 4 ≤ n.toNat ∧ n.toNat ≤ 1400 ∧ inWindow a.toNat n.toNat = true ∧ reachesSecure a.toNat n.toNat = false)
    ∧ (∃ (s : State) (r : Req) (sh : Bool) (a : Word) (n : BitVec 16) (e : Nat) (l : List EccHit), Ready s r Verb.GET ∧ 4 ≤ n.toNat ∧ n.toNat ≤ 1400 ∧ inWindow a.toNat n.toNat = true ∧ reachesSecure a.toNat n.toNat = false)
    ∧ (∃ (s : State) (r : Req) (a : Word) (n : BitVec 16) (e : Nat) (l : List EccHit), Ready s r Verb.GET ∧ 4 ≤ n.toNat ∧ n.toNat ≤ 1400 ∧ inWindow a.toNat n.toNat = true ∧ reachesSecure a.toNat n.toNat = true)
    ∧ (∃ (s : State) (r : Req) (p : List Byte), Ready s r Verb.ECHO ∧ p.length ≤ 1400) :=
  ⟨⟨host, rq, true, 0x08000100, 44, 0, [], [(0x08000100, 44)], by unfold Ready; decide +kernel, by decide +kernel, by decide +kernel, by decide +kernel, by decide +kernel⟩,
   ⟨host, rq, 0x08000100, 44, 0, [], [(0x08000100, 44)], by unfold Ready; decide +kernel, by decide +kernel, by decide +kernel, by decide +kernel, by decide +kernel⟩,
   ⟨host, rq, 0x08000101, 4, 0, [], by unfold Ready; decide +kernel, by decide +kernel, by decide +kernel, by decide +kernel, by decide +kernel⟩,
   ⟨host, rq, true, 0, 1404, 0, [], by unfold Ready; decide +kernel, by decide +kernel⟩,
   ⟨host, rq, 0x17BFFFF8, 8, 0, by unfold Ready; decide +kernel, by decide +kernel, by decide +kernel, by decide +kernel, by decide +kernel⟩,
   ⟨host, rq, true, 0x10000000, 8, 0, [⟨0, true⟩], by unfold Ready; decide +kernel, by decide +kernel, by decide +kernel, by decide +kernel, by decide +kernel⟩,
   ⟨host, rq, 0x17C00000, 8, 0, [], by unfold Ready; decide +kernel, by decide +kernel, by decide +kernel, by decide +kernel, by decide +kernel⟩,
   ⟨host, rq, List.replicate 1400 5, by unfold Ready; decide +kernel, by decide +kernel⟩⟩

theorem witness_set_writes_whole_objects :
    (∃ (s : State) (r : Req) (a : Word) (d : List Byte) (l : List (Nat × Nat)), Ready s r Verb.SET ∧ 4 ≤ d.length ∧ d.length ≤ 1400 ∧ d.length % 4 = 0 ∧ 0x03000000 ≤ a.toNat ∧ a.toNat + d.length ≤ 0x0C000000 ∧ objectsIn 351 a.toNat (a.toNat + d.length) = some l ∧ (∀ p ∈ l, plainObject p.1) ∧ (s.rd Reg.LC_STATE_STATE = 2 → ∀ p ∈ l, identityObject p.1 = false) ∧ (∀ p ∈ l, s.objectRefusal p.1 p.2 (slice d (p.1 - a.toNat) p.2) = none) ∧ (s.setAfter r.session a.toNat d l).length ≤ 1024 ∧ shadowBytes (s.setAfter r.session a.toNat d l) ≤ 65536)
    ∧ (∃ (s : State) (r : Req) (a : Word) (d : List Byte), Ready s r Verb.SET ∧ 4 ≤ d.length ∧ d.length ≤ 1400 ∧ d.length % 4 = 0 ∧ a.toNat < memBase ∧ objectsIn 351 a.toNat (a.toNat + d.length) = none)
    ∧ (∃ (s : State) (r : Req) (a : Word) (d : List Byte), Ready s r Verb.SET ∧ 4 ≤ d.length ∧ d.length ≤ 1400 ∧ inWindow a.toNat d.length = true)
    ∧ (∃ (s : State) (r : Req) (a : Word) (d : List Byte) (l : List (Nat × Nat)), Ready s r Verb.SET ∧ 4 ≤ d.length ∧ d.length ≤ 1400 ∧ d.length % 4 = 0 ∧ 0x0C000000 ≤ a.toNat ∧ a.toNat < 0x0D000000 ∧ objectsIn 351 a.toNat (a.toNat + d.length) = some l)
    ∧ (∃ (s : State) (r : Req) (a : Word) (d : List Byte) (x : Nat), Ready s r Verb.SET ∧ 4 ≤ d.length ∧ d.length ≤ 1400 ∧ d.length % 4 = 0 ∧ 0x03000000 ≤ a.toNat ∧ a.toNat < 0x0C000000 ∧ objectsIn 351 a.toNat (a.toNat + d.length) = some [(a.toNat, d.length)] ∧ (s.rd Reg.LC_STATE_STATE = 2 → identityObject a.toNat = false) ∧ s.objectRefusal a.toNat d.length d = some x) :=
  ⟨⟨host, rq, 0x08000100, ((wordsOf 0x08000100 44).map (fun w => beBytes 4 (host.word w).toNat)).flatten, [(0x08000100, 44)], by unfold Ready; decide +kernel, by decide +kernel, by decide +kernel, by decide +kernel, by decide +kernel, by decide +kernel, by decide +kernel, fun p h => plain_of (by rw [List.mem_singleton.mp h]; decide +kernel), by decide +kernel, by decide +kernel, by decide +kernel, by decide +kernel⟩,
   ⟨host, rq, 0x00000402, [0, 0, 0, 0], by unfold Ready; decide +kernel, by decide +kernel, by decide +kernel, by decide +kernel, by decide +kernel⟩,
   ⟨host, rq, 0x10000000, [0, 0, 0, 0], by unfold Ready; decide +kernel, by decide +kernel, by decide +kernel, by decide +kernel⟩,
   ⟨host, rq, 0x0C000000, List.replicate 16 0, [(0x0C000000, 16)], by unfold Ready; decide +kernel, by decide +kernel, by decide +kernel, by decide +kernel, by decide +kernel⟩,
   ⟨host, rq, 0x08000000, List.replicate 16 0, Status.READ_ONLY, by unfold Ready; decide +kernel, by decide +kernel, by decide +kernel, by decide +kernel, by decide +kernel⟩⟩

theorem witness_writes_that_act :
    (∃ (s : State) (r : Req) (g : Fin 2), Ready s r Verb.SET ∧ (g = 0 ∨ s.clk.spread = .off))
    ∧ (∃ (s : State) (r : Req), Ready s r Verb.SET ∧ s.clk.spread ≠ .off)
    ∧ (∃ (s : State) (r : Req) (g : Fin 2), Ready s r Verb.SET ∧ (s.ramp g).running = true)
    ∧ (∃ (s : State) (r : Req) (n : Fin 2048) (m : BitVec 2) (v : Word), Ready s r Verb.SET ∧ (m = 1 ∨ m = 2))
    ∧ (∃ (s : State) (r : Req) (n : Fin 2048) (m : BitVec 2) (v : Word), Ready s r Verb.SET ∧ (m = 0 ∨ m = 3))
    ∧ (∃ (s : State) (r : Req) (p : Fin 2) (o : Bool) (x : BitVec 5) (y : BitVec 5) (d : BitVec 16), Ready s r Verb.SET ∧ s.rd (Reg.ETH_MDIO_BUSY p) = 0)
    ∧ (∃ (s : State) (r : Req) (p : Fin 2) (o : Bool) (x : BitVec 5) (y : BitVec 5) (d : BitVec 16), Ready s r Verb.SET ∧ s.rd (Reg.ETH_MDIO_BUSY p) = 1)
    ∧ (∃ (s : State) (r : Req) (c : Fin 2) (n : Fin 128) (b : Bool), Ready s r Verb.SET ∧ n.val < 126 ∧ s.rd (Reg.CAN_OBJ_EN c n) = 1 ∧ s.rd (Reg.CAN_OBJ_DIR c n) = 1 ∧ s.rd (Reg.CAN_OBJ_TRIGGER c n) = 0 ∧ s.busOff c = false ∧ assocGet (s.canRun c).tx n = none)
    ∧ (∃ (s : State) (r : Req) (c : Fin 2) (n : Fin 128) (b : Bool), Ready s r Verb.SET ∧ 126 ≤ n.val)
    ∧ (∃ (s : State) (r : Req) (c : Fin 2) (n : Fin 128) (k : BitVec 6), Ready s r Verb.SET ∧ n.val < 126 ∧ 1 ≤ k.toNat ∧ k.toNat ≤ s.rd (Reg.CAN_OBJ_COUNT c n)) :=
  ⟨⟨host, rq, 1, by unfold Ready; decide +kernel, by decide +kernel⟩,
   ⟨{ host with clk := { host.clk with spread := .falling } }, rq, by unfold Ready; decide +kernel, by decide +kernel⟩,
   ⟨{ host with clk := { host.clk with rampSys := { running := true } } }, rq, 0, by unfold Ready; decide +kernel, by decide +kernel⟩,
   ⟨host, rq, 2047, 2, 0xFFFFFFFF, by unfold Ready; decide +kernel, by decide +kernel⟩,
   ⟨host, rq, 2047, 3, 1, by unfold Ready; decide +kernel, by decide +kernel⟩,
   ⟨host, rq, 1, true, 31, 31, 0xFFFF, by unfold Ready; decide +kernel, by decide +kernel⟩,
   ⟨host.wr (Reg.ETH_MDIO_BUSY 1) 1, rq, 1, true, 31, 31, 0, by unfold Ready; decide +kernel, by decide +kernel⟩,
   ⟨(host.wr (Reg.CAN_OBJ_EN 1 125) 1).wr (Reg.CAN_OBJ_DIR 1 125) 1, rq, 1, 125, false, by unfold Ready; decide +kernel, by decide +kernel, by decide +kernel, by decide +kernel, by decide +kernel⟩,
   ⟨host, rq, 1, 126, false, by unfold Ready; decide +kernel, by decide +kernel⟩,
   ⟨host.wr (Reg.CAN_OBJ_COUNT 1 125) 1, rq, 1, 125, 1, by unfold Ready; decide +kernel, by decide +kernel, by decide +kernel, by decide +kernel⟩⟩

theorem witness_captures :
    (∃ (s : State) (r : Req) (l : List (Word × Word)), Ready s r Verb.SNAPSHOT ∧ snapshotRefusal l = none)
    ∧ (∃ (s : State) (r : Req) (l : List (Word × Word)) (x : Nat), Ready s r Verb.SNAPSHOT ∧ snapshotRefusal l = some x)
    ∧ (∃ (s : State) (i : Fin 4) (b : BusyCmd) (l : List (Word × Word)) (k : Nat), Executes s i b ∧ b.op = .snapshot l (some k) ∧ (k ≠ s.stage ∨ (s.commitDue = false ∧ s.anyDue = false)))
    ∧ (∃ (s : State) (r : Req) (c : Byte) (a : Word) (n : Word) (e : List EccHit), Ready s r Verb.CRC ∧ c.toNat ≤ 1 ∧ a.toNat % 4 = 0 ∧ 4 ≤ n.toNat ∧ n.toNat % 4 = 0 ∧ n.toNat ≤ 262144 ∧ a.toNat + n.toNat ≤ 0x10000000)
    ∧ (∃ (s : State) (r : Req) (a : Word) (n : Word), Ready s r Verb.CRC ∧ inWindow a.toNat n.toNat = true ∧ reachesSecure a.toNat n.toNat = false ∧ 4 ≤ n.toNat ∧ n.toNat ≤ 1048576)
    ∧ (∃ (s : State) (r : Req) (a : Word) (n : Word) (e : List EccHit), Ready s r Verb.CRC ∧ inWindow a.toNat n.toNat = true ∧ reachesSecure a.toNat n.toNat = false ∧ 4 ≤ n.toNat ∧ n.toNat ≤ 1048576)
    ∧ (∃ (s : State) (r : Req) (c : Byte) (e : List EccHit), Ready s r Verb.CRC ∧ 2 ≤ c.toNat ∧ c.toNat ≤ 5 ∧ s.findOp LongOp.flash = none)
    ∧ (∃ (s : State) (i : Fin 4) (b : BusyCmd) (c : Nat) (x : Nat), Executes s i b ∧ b.op = .flashCrc c ∧ s.findOp LongOp.isFlashCrc = some i ∧ s.flashCrcOf c = some x)
    ∧ (∃ (s : State) (i : Fin 4) (b : BusyCmd) (c : Nat), Executes s i b ∧ b.op = .flashCrc c ∧ s.findOp LongOp.isFlashCrc = some i ∧ s.flashCrcOf c = none) :=
  ⟨⟨host, rq, [(0x08000100, 44)], by unfold Ready; decide +kernel, by decide +kernel⟩,
   ⟨host, rq, [(0x08000100, 43)], (snapshotRefusal [(0x08000100, 43)]).getD 0, by unfold Ready; decide +kernel, by decide +kernel⟩,
   ⟨(busyWith (.snapshot [(0x08000100, 44)] (some 7)) host), 0, cmd (.snapshot [(0x08000100, 44)] (some 7)), [(0x08000100, 44)], 7, by unfold Executes; decide +kernel, by decide +kernel, by decide +kernel⟩,
   ⟨host, rq, 1, 0x0FFFFFF8, 8, [], by unfold Ready; decide +kernel, by decide +kernel, by decide +kernel, by decide +kernel, by decide +kernel⟩,
   ⟨host, rq, 0x17BFFFF8, 8, by unfold Ready; decide +kernel, by decide +kernel, by decide +kernel, by decide +kernel, by decide +kernel⟩,
   ⟨host, rq, 0x10000000, 8, [⟨0, true⟩], by unfold Ready; decide +kernel, by decide +kernel, by decide +kernel, by decide +kernel, by decide +kernel⟩,
   ⟨host, rq, 5, [], by unfold Ready; decide +kernel, by decide +kernel, by decide +kernel, by decide +kernel⟩,
   ⟨(busyWith (.flashCrc 4) host), 0, cmd (.flashCrc 4), 4, crc32c 0xFFFFFFFF host.flash.imgA.bytes, by unfold Executes; decide +kernel, by decide +kernel, by decide +kernel, by decide +kernel⟩,
   ⟨(busyWith (.flashCrc 5) host), 0, cmd (.flashCrc 5), 5, by unfold Executes; decide +kernel, by decide +kernel, by decide +kernel, by decide +kernel⟩⟩

theorem witness_apply_takes_the_shadow_set :
    (∃ (s : State) (r : Req), Ready s r Verb.APPLY)
    ∧ (∃ (s : State) (r : Req), Ready s r Verb.APPLY ∧ (s.sess r.session).shadow = [])
    ∧ (∃ (s : State) (r : Req), Ready s r Verb.APPLY ∧ (s.sess r.session).shadow ≠ [] ∧ (s.rd Reg.LC_STATE_STATE = 2 → ∀ p ∈ (s.sess r.session).shadow, identityObject p.1 = false) ∧ (s.taken r).applyFail (s.sess r.session).shadow = none)
    ∧ (∃ (s : State) (r : Req) (x : Nat) (a : Nat), Ready s r Verb.APPLY ∧ (s.sess r.session).shadow ≠ [] ∧ (s.rd Reg.LC_STATE_STATE = 2 → ∀ p ∈ (s.sess r.session).shadow, identityObject p.1 = false) ∧ (s.taken r).applyFail (s.sess r.session).shadow = some (x, a))
    ∧ (∃ (s : State) (i : Fin 4) (b : BusyCmd) (l : List (Nat × List Byte)), Executes s i b ∧ b.op = .applyWait l ∧ b.stage ≤ s.stage ∧ s.lastCommit ≠ some s.stage)
    ∧ (∃ (s : State) (i : Fin 4) (b : BusyCmd) (d : List Byte), Executes s i b ∧ b.op = .applyWait [(0x08000100, d)] ∧ b.stage ≤ s.stage ∧ s.lastCommit ≠ some s.stage ∧ objectAt 0x08000100 = some (0x08000100, d.length))
    ∧ (∃ (s : State) (i : Fin 4) (b : BusyCmd) (l : List (Nat × List Byte)), Executes s i b ∧ b.op = .applyWait l ∧ (s.stage < b.stage ∨ s.lastCommit = some s.stage)) :=
  ⟨⟨{ host with ses := (host.setSess 0 { host.sess 0 with shadow := [(0x08000100, ((wordsOf 0x08000100 44).map (fun w => beBytes 4 (host.word w).toNat)).flatten)] }).ses }, rq, by unfold Ready; decide +kernel⟩,
   ⟨host, rq, by unfold Ready; decide +kernel, by decide +kernel⟩,
   ⟨{ host with ses := (host.setSess 0 { host.sess 0 with shadow := [(0x08000100, ((wordsOf 0x08000100 44).map (fun w => beBytes 4 (host.word w).toNat)).flatten)] }).ses }, rq, by unfold Ready; decide +kernel, by decide +kernel, by decide +kernel, by decide +kernel⟩,
   ⟨{ host with ses := (host.setSess 0 { host.sess 0 with shadow := [(0x08000100, List.replicate 44 0)] }).ses }, rq, ((({ host with ses := (host.setSess 0 { host.sess 0 with shadow := [(0x08000100, List.replicate 44 0)] }).ses }.taken rq).applyFail [(0x08000100, List.replicate 44 0)]).map Prod.fst).getD 0, ((({ host with ses := (host.setSess 0 { host.sess 0 with shadow := [(0x08000100, List.replicate 44 0)] }).ses }.taken rq).applyFail [(0x08000100, List.replicate 44 0)]).map Prod.snd).getD 0, by unfold Ready; decide +kernel, by decide +kernel, by decide +kernel, by decide +kernel⟩,
   ⟨(busyWith (.applyWait [(0x08000100, List.replicate 44 1)]) host), 0, cmd (.applyWait [(0x08000100, List.replicate 44 1)]), [(0x08000100, List.replicate 44 1)], by unfold Executes; decide +kernel, by decide +kernel, by decide +kernel, by decide +kernel⟩,
   ⟨(busyWith (.applyWait [(0x08000100, List.replicate 44 1)]) host), 0, cmd (.applyWait [(0x08000100, List.replicate 44 1)]), List.replicate 44 1, by unfold Executes; decide +kernel, by decide +kernel, by decide +kernel, by decide +kernel, by decide +kernel⟩,
   ⟨(busyWith (.applyWait []) { host with lastCommit := some 0 }), 0, cmd (.applyWait []), [], by unfold Executes; decide +kernel, by decide +kernel, by decide +kernel⟩⟩

theorem witness_clear_releases_trips :
    (∃ (s : State) (r : Req), Ready s r Verb.CLEAR ∧ s.clearFaultsRefusal false = none)
    ∧ (∃ (s : State) (r : Req) (x : Nat), Ready s r Verb.CLEAR ∧ s.clearFaultsRefusal false = some x)
    ∧ (∃ (s : State) (r : Req), Ready s r Verb.CLEAR ∧ s.clearDriveRefusal = none)
    ∧ (∃ (s : State) (r : Req), Ready s r Verb.CLEAR ∧ s.clearDriveRefusal ≠ none)
    ∧ (∃ (s : State) (r : Req) (c : Fin 2), Ready s r Verb.CLEAR ∧ s.busOff c = true)
    ∧ (∃ (s : State) (r : Req) (c : Fin 2), Ready s r Verb.CLEAR ∧ s.busOff c = false)
    ∧ (∃ (s : State) (r : Req), Ready s r Verb.CLEAR ∧ s.tokenForPartner s.safetyToken = false ∧ s.safetyRefusal s.safetyToken false = none)
    ∧ (∃ (s : State) (r : Req) (k : List Byte), Ready s r Verb.CLEAR ∧ k.length = 32 ∧ s.tokenForPartner k = false ∧ k ≠ s.safetyToken)
    ∧ (∃ (s : State) (r : Req), Ready s r Verb.CLEAR) :=
  ⟨⟨(puts host [(Reg.SAFE_OUT_FB_OPEN 0, 1), (Reg.SAFE_OUT_FB_OPEN 1, 1), (Reg.SAFE_OUT_FB_OPEN 2, 1), (Reg.SAFE_OUT_FB_OPEN 3, 1)]), rq, by unfold Ready; decide +kernel, by decide +kernel⟩,
   ⟨(puts host [(Reg.POL_STATE_STATE, 9)]), rq, Status.STATE_REFUSED, by unfold Ready; decide +kernel, by decide +kernel⟩,
   ⟨host, rq, by unfold Ready; decide +kernel, by decide +kernel⟩,
   ⟨{ host with drv := { host.drv with soft := [0x0D31] } }, rq, by unfold Ready; decide +kernel, by decide +kernel⟩,
   ⟨host.wr (Reg.CAN_STAT_ERR_STATE 1) 2, rq, 1, by unfold Ready; decide +kernel, by decide +kernel⟩,
   ⟨host, rq, 1, by unfold Ready; decide +kernel, by decide +kernel⟩,
   ⟨(puts host [(Reg.SAFE_STAT_RESET_VALID, 1)]), rq, by unfold Ready; decide +kernel, by decide +kernel, by decide +kernel⟩,
   ⟨host, rq, List.replicate 32 9, by unfold Ready; decide +kernel, by decide +kernel, by decide +kernel, by decide +kernel⟩,
   ⟨host, rq, by unfold Ready; decide +kernel⟩⟩

theorem witness_roles_and_records :
    (∃ (s : State) (r : Req), Ready s r Verb.ROLE)
    ∧ (∃ (s : State) (r : Req), Ready s r Verb.ROLE ∧ s.duo.role = Role.KEEPER ∧ s.duo.inStep = true ∧ s.duo.check = false)
    ∧ (∃ (s : State) (r : Req), Ready s r Verb.ROLE ∧ (s.duo.role ≠ Role.KEEPER ∨ s.duo.inStep = false ∨ s.duo.check = true))
    ∧ (∃ (s : State) (r : Req) (a : Word) (n : Byte), Ready s r Verb.JOURNAL ∧ 1 ≤ n.toNat ∧ n.toNat ≤ 21)
    ∧ (∃ (s : State) (r : Req), Ready s r Verb.LOGBOOK_FREEZE ∧ s.rd Reg.MEM_LOGBOOK_STAT_FROZEN = 0 ∧ s.rd Reg.MEM_LOGBOOK_STAT_POST_RUNNING = 0)
    ∧ (∃ (s : State) (r : Req), Ready s r Verb.LOGBOOK_FREEZE ∧ s.rd Reg.MEM_LOGBOOK_STAT_FROZEN = 1)
    ∧ (∃ (s : State) (r : Req), Ready s r Verb.LOGBOOK_FREEZE ∧ s.rd Reg.MEM_LOGBOOK_STAT_FROZEN = 1 ∧ s.rd Reg.MEM_LOGBOOK_STAT_POST_RUNNING = 0)
    ∧ (∃ (s : State) (r : Req) (x : BitVec 16) (f : BitVec 16) (n : BitVec 16), Ready s r Verb.LOGBOOK_READ ∧ x.toNat ≤ 8191 ∧ f.toNat ≤ 511 ∧ 1 ≤ n.toNat ∧ n.toNat ≤ 57 ∧ f.toNat + n.toNat ≤ 512) :=
  ⟨⟨host, rq, by unfold Ready; decide +kernel⟩,
   ⟨{ host with duo := { host.duo with role := Role.KEEPER, inStep := true } }, rq, by unfold Ready; decide +kernel, by decide +kernel, by decide +kernel, by decide +kernel⟩,
   ⟨host, rq, by unfold Ready; decide +kernel, by decide +kernel⟩,
   ⟨(puts host [(Reg.JRNL_STAT_OLDEST, 1), (Reg.JRNL_STAT_NEWEST, 30)]), rq, 1, 21, by unfold Ready; decide +kernel, by decide +kernel, by decide +kernel⟩,
   ⟨host, rq, by unfold Ready; decide +kernel, by decide +kernel, by decide +kernel⟩,
   ⟨(puts host [(Reg.MEM_LOGBOOK_STAT_FROZEN, 1)]), rq, by unfold Ready; decide +kernel, by decide +kernel⟩,
   ⟨(puts host [(Reg.MEM_LOGBOOK_STAT_FROZEN, 1)]), rq, by unfold Ready; decide +kernel, by decide +kernel, by decide +kernel⟩,
   ⟨host, rq, 8191, 455, 57, by unfold Ready; decide +kernel, by decide +kernel, by decide +kernel, by decide +kernel, by decide +kernel⟩⟩

theorem witness_life_cycle_transitions_keep_their_order :
    (∃ (s : State) (r : Req) (g : Byte) (k : Byte) (n : List Byte) (x : List Byte), Ready s r Verb.LIFECYCLE ∧ s.lcRefusal g k.toNat n x = none)
    ∧ (∃ (s : State) (r : Req) (g : Byte) (k : Byte) (n : List Byte) (x : List Byte) (st : Nat), Ready s r Verb.LIFECYCLE ∧ s.lcRefusal g k.toNat n x = some st)
    ∧ (∃ (s : State) (i : Fin 4) (b : BusyCmd) (g : Nat) (n : List Byte) (w : Bool), Executes s i b ∧ b.op = .lifecycle g n w ∧ g ≤ 4 ∧ s.findOp LongOp.isLifecycle = some i)
    ∧ (∃ (s : State) (i : Fin 4) (b : BusyCmd) (g : Nat) (n : List Byte) (w : Bool), Executes s i b ∧ b.op = .lifecycle g n w ∧ s.findOp LongOp.isLifecycle = some i)
    ∧ (∃ (s : State) (r : Req), Ready s r Verb.LIFECYCLE ∧ (s.rd Reg.LC_STATE_STATE = 1 ∨ s.rd Reg.LC_STATE_STATE = 3) ∧ s.rd Reg.LC_STATE_CHANGE_BUSY = 0 ∧ s.findOp LongOp.flash = none)
    ∧ (∃ (s : State) (r : Req), Ready s r Verb.LIFECYCLE ∧ s.rd Reg.LC_STATE_STATE ≠ 1 ∧ s.rd Reg.LC_STATE_STATE ≠ 3)
    ∧ (∃ (s : State) (i : Fin 4) (b : BusyCmd) (l : List (Nat × Word)) (k : Bool), Executes s i b ∧ b.op = .saveConfig l ∧ s.findOp LongOp.isSave = some i) :=
  ⟨⟨host, rq, 1, 0, List.replicate 32 0, List.replicate 64 0, by unfold Ready; decide +kernel, by decide +kernel⟩,
   ⟨host, rq, 5, 0, List.replicate 32 0, List.replicate 64 0, Status.VALUE_OUT_OF_RANGE, by unfold Ready; decide +kernel, by decide +kernel⟩,
   ⟨(busyWith (.lifecycle 1 (List.replicate 32 0) false) host), 0, cmd (.lifecycle 1 (List.replicate 32 0) false), 1, List.replicate 32 0, false, by unfold Executes; decide +kernel, by decide +kernel, by decide +kernel, by decide +kernel⟩,
   ⟨(busyWith (.lifecycle 1 (List.replicate 32 0) false) host), 0, cmd (.lifecycle 1 (List.replicate 32 0) false), 1, List.replicate 32 0, false, by unfold Executes; decide +kernel, by decide +kernel, by decide +kernel⟩,
   ⟨(puts host [(Reg.LC_STATE_STATE, 1)]), rq, by unfold Ready; decide +kernel, by decide +kernel, by decide +kernel, by decide +kernel⟩,
   ⟨host, rq, by unfold Ready; decide +kernel, by decide +kernel, by decide +kernel⟩,
   ⟨(busyWith (.saveConfig [(0x08000100, 1)]) host), 0, cmd (.saveConfig [(0x08000100, 1)]), [(0x08000100, 1)], true, by unfold Executes; decide +kernel, by decide +kernel, by decide +kernel⟩⟩

theorem witness_firmware_slots_follow_the_update :
    (∃ (s : State) (r : Req) (n : Word), Ready s r Verb.FIRMWARE ∧ n.toNat ≤ imageTop ∧ s.findOp LongOp.flash = none ∧ (∀ p, s.sto.update = some p → p.1 = r.session))
    ∧ (∃ (s : State) (i : Fin 4) (b : BusyCmd) (k : Bool), Executes s i b ∧ b.op = .fwBegin ∧ s.findOp (fun o => o == .fwBegin) = some i)
    ∧ (∃ (s : State) (r : Req) (o : Word) (d : List Byte) (n : Nat), Ready s r Verb.FIRMWARE ∧ s.updateOf r.session = some n ∧ s.findOp LongOp.flash = none ∧ o.toNat % 4 = 0 ∧ o.toNat + d.length ≤ n)
    ∧ (∃ (s : State) (r : Req) (o : Word) (d : List Byte), Ready s r Verb.FIRMWARE ∧ s.updateOf r.session = none)
    ∧ (∃ (s : State) (r : Req) (o : Word) (d : List Byte), Ready s r Verb.FIRMWARE ∧ s.updateOf r.session ≠ none ∧ s.findOp LongOp.flash ≠ none)
    ∧ (∃ (s : State) (r : Req) (n : Nat), Ready s r Verb.FIRMWARE ∧ s.updateOf r.session = some n ∧ s.findOp LongOp.flash = none)
    ∧ (∃ (s : State) (i : Fin 4) (b : BusyCmd) (n : Nat), Executes s i b ∧ b.op = .fwCommit n ∧ s.findOp LongOp.isCommit = some i)
    ∧ (∃ (s : State) (r : Req), Ready s r Verb.FIRMWARE)
    ∧ (∃ (s : State) (r : Req) (b : Bool), Ready s r Verb.FIRMWARE ∧ s.findOp LongOp.flash = none ∧ (s.station = 0 ∨ s.station = 2) ∧ s.flash.validSlot = some b)
    ∧ (∃ (s : State), s.running = true ∧ s.recovery = false ∧ (s.flash.img s.flash.bootB).state = 2 ∧ s.passed s.power.startMono 600000000000 = true) :=
  ⟨⟨host, rq, 400, by unfold Ready; decide +kernel, by decide +kernel, by decide +kernel, fun _ h => nomatch (show none = some _ from h)⟩,
   ⟨(busyWith (.fwBegin) host), 0, cmd (.fwBegin), false, by unfold Executes; decide +kernel, by decide +kernel, by decide +kernel⟩,
   ⟨{ host with sto := { host.sto with update := some (0, 400) } }, rq, 396, [1, 2, 3, 4], 400, by unfold Ready; decide +kernel, by decide +kernel, by decide +kernel, by decide +kernel, by decide +kernel⟩,
   ⟨host, rq, 0, [1], by unfold Ready; decide +kernel, by decide +kernel⟩,
   ⟨((busyWith .fwBegin { host with sto := { host.sto with update := some (1, 400) } }).wr (Reg.CMD_SESSION_OPEN 1) 1), { session := 1, mood := .now, mirrored := false }, 0, [1], by unfold Ready; decide +kernel, by decide +kernel, by decide +kernel⟩,
   ⟨{ host with sto := { host.sto with update := some (0, 400) } }, rq, 400, by unfold Ready; decide +kernel, by decide +kernel, by decide +kernel⟩,
   ⟨(busyWith (.fwCommit 400) host), 0, cmd (.fwCommit 400), 400, by unfold Executes; decide +kernel, by decide +kernel, by decide +kernel⟩,
   ⟨{ host with sto := { host.sto with update := some (0, 400) } }, rq, by unfold Ready; decide +kernel⟩,
   ⟨{ host with flash := host.flash.setImg true { state := 1 } }, rq, true, by unfold Ready; decide +kernel, by decide +kernel, by decide +kernel, by decide +kernel⟩,
   ⟨(aged { host with flash := host.flash.setImg host.flash.bootB { host.flash.img host.flash.bootB with state := 2 } }), by decide +kernel, by decide +kernel, by decide +kernel, by decide +kernel⟩⟩

theorem witness_safety_parameters :
    (∃ (s : State) (r : Req) (p : Word) (o : Nat) (v : Nat), Ready s r Verb.TEST ∧ s.safeParamRefusal = none ∧ safeItem (p.toNat / 2 ^ 24) (p.toNat % 2 ^ 24) = some (o, v))
    ∧ (∃ (s : State) (r : Req) (p : Word) (x : Nat), Ready s r Verb.TEST ∧ s.safeParamRefusal = some x)
    ∧ (∃ (s : State) (r : Req) (p : Word), Ready s r Verb.TEST ∧ s.safeParamRefusal = none ∧ p.toNat = s.pendingCrc ∧ s.pendingBad = false)
    ∧ (∃ (s : State) (r : Req) (p : Word), Ready s r Verb.TEST ∧ s.safeParamRefusal = none ∧ p.toNat ≠ s.pendingCrc)
    ∧ (∃ (s : State) (r : Req), Ready s r Verb.TEST ∧ s.safeParamRefusal = none)
    ∧ (∃ (s : State) (i : Fin 4) (b : BusyCmd) (l : List Word), Executes s i b ∧ b.op = .safeCommit l ∧ l.length = 16 ∧ (∀ j : Fin 4, j < i → s.safeCommitOf j = none)) :=
  ⟨⟨(puts host [(Reg.LC_STATE_STATE, 1)]), rq, 0x008001F4, 0, 0x008001F4, by unfold Ready; decide +kernel, by decide +kernel, by decide +kernel⟩,
   ⟨host, rq, 0, Status.LIFECYCLE_REFUSED, by unfold Ready; decide +kernel, by decide +kernel⟩,
   ⟨(puts host [(Reg.LC_STATE_STATE, 1)]), rq, BitVec.ofNat 32 host.pendingCrc, by unfold Ready; decide +kernel, by decide +kernel, by decide +kernel, by decide +kernel⟩,
   ⟨(puts host [(Reg.LC_STATE_STATE, 1)]), rq, BitVec.ofNat 32 (host.pendingCrc + 1), by unfold Ready; decide +kernel, by decide +kernel, by decide +kernel⟩,
   ⟨(puts host [(Reg.LC_STATE_STATE, 1)]), rq, by unfold Ready; decide +kernel, by decide +kernel⟩,
   ⟨(busyWith (.safeCommit (List.replicate 16 1)) host), 0, cmd (.safeCommit (List.replicate 16 1)), List.replicate 16 1, by unfold Executes; decide +kernel, by decide +kernel, by decide +kernel, by decide +kernel⟩⟩

theorem witness_loop_stage :
    (∃ (s : State) (n : Nat), s.running = true ∧ s.loop.issued ≠ some s.stage ∧ s.issueOrder = [n] ∧ s.takenFirst.length < s.issuePlaces)
    ∧ (∃ (s : State) (n : Nat), s.running = true ∧ s.loop.issued ≠ some s.stage ∧ s.issueOrder = [n] ∧ s.issuePlaces = 0)
    ∧ (∃ (s : State) (m : List CheckMiss) (e : List EccHit), s.running = true ∧ s.loop.issued = some s.stage)
    ∧ (∃ (s : State), s.running = true ∧ s.loop.issued = some s.stage ∧ s.loop.handed ≠ some s.stage)
    ∧ (∃ (s : State), s.running = true ∧ (s.loop.issued ≠ some s.stage ∨ s.loop.handed = some s.stage)) :=
  ⟨⟨(puts up [(Reg.LOOP_SLOT_CFG_EN 1072, 1), (Reg.LOOP_SLOT_CFG_PV_SRC 1072, 0x4103)]), 1072, by decide +kernel, by decide +kernel, by decide +kernel, by decide +kernel⟩,
   ⟨(puts up [(Reg.LOOP_STAT_PIPES, 0), (Reg.LOOP_SLOT_CFG_EN 1072, 1), (Reg.LOOP_SLOT_CFG_PV_SRC 1072, 0x4103)]), 1072, by decide +kernel, by decide +kernel, by decide +kernel, by decide +kernel⟩,
   ⟨{ up with loop := { up.loop with issued := some 0 } }, [], [], by decide +kernel, by decide +kernel⟩,
   ⟨{ up with loop := { up.loop with issued := some 0 } }, by decide +kernel, by decide +kernel, by decide +kernel⟩,
   ⟨up, by decide +kernel, by decide +kernel⟩⟩

theorem witness_edges_and_safe_state :
    (∃ (s : State) (m : BitVec 16), s.running = true ∧ s.loop.handed = some s.stage ∧ s.edgeRuns = true)
    ∧ (∃ (s : State) (m : BitVec 16), s.running = true ∧ (s.loop.handed ≠ some s.stage ∨ s.edgeRuns = false))
    ∧ (∃ (s : State), s.running = true ∧ s.edgeRuns = true)
    ∧ (∃ (s : State), s.running = true ∧ s.edgeRuns = false)
    ∧ (∃ (s : State) (e : EdgeSet), s.running = true ∧ s.mod.sent = some e ∧ e.stage = s.stage + 1)
    ∧ (∃ (s : State), s.running = true ∧ s.rd Reg.MOD_DRV_HOLD_COUNT < 2)
    ∧ (∃ (s : State), s.running = true ∧ 2 ≤ s.rd Reg.MOD_DRV_HOLD_COUNT)
    ∧ (∃ (s : State), s.running = true)
    ∧ (∃ (s : State), s.running = true ∧ s.rd Reg.LC_STATE_STATE = 0)
    ∧ (∃ (s : State), s.running = true ∧ s.rd Reg.LC_STATE_STATE ≠ 0)
    ∧ (∃ (s : State), s.running = true ∧ s.recovery = false ∧ s.mon.fill ≤ 60000 * 10000000000) :=
  ⟨⟨{ up with loop := { up.loop with issued := some 0, handed := some 0 } }, 7, by decide +kernel, by decide +kernel, by decide +kernel⟩,
   ⟨up, 7, by decide +kernel, by decide +kernel⟩,
   ⟨up, by decide +kernel, by decide +kernel⟩,
   ⟨{ up with mod := { up.mod with edgeHalted := true } }, by decide +kernel, by decide +kernel⟩,
   ⟨{ up with mod := { up.mod with sent := some { stage := 1 } } }, { stage := 1 }, by decide +kernel, by decide +kernel, by decide +kernel⟩,
   ⟨up, by decide +kernel, by decide +kernel⟩,
   ⟨up.wr Reg.MOD_DRV_HOLD_COUNT 2, by decide +kernel, by decide +kernel⟩,
   ⟨up, by decide +kernel⟩,
   ⟨up, by decide +kernel, by decide +kernel⟩,
   ⟨up.wr Reg.LC_STATE_STATE 1, by decide +kernel, by decide +kernel⟩,
   ⟨up, by decide +kernel, by decide +kernel, by decide +kernel⟩⟩

theorem witness_pair_claims :
    (∃ (s : State), s.running = true)
    ∧ (∃ (s : State), s.running = true ∧ s.duo.own = true ∧ 2 ≤ s.duo.noHand)
    ∧ (∃ (s : State), s.running = true ∧ (s.duo.own = false ∨ s.duo.noHand < 2))
    ∧ (∃ (s : State), s.running = true ∧ s.paired = true ∧ s.duo.role = Role.UNDECIDED ∧ s.duo.own = false ∧ s.ilkBank = true ∧ s.duo.partner = false ∧ (if s.second then 50000000 else 10000000) < s.duo.absentNs + s.tsNs)
    ∧ (∃ (s : State), s.running = true ∧ s.paired = true ∧ s.duo.role = Role.UNDECIDED ∧ s.duo.own = false ∧ s.ilkBank = true ∧ s.duo.partner = true)
    ∧ (∃ (s : State), s.running = true ∧ s.duo.own = true ∧ s.duo.partner = false ∧ s.duo.grant = false ∧ s.ilkBank = true ∧ s.duo.role = Role.UNDECIDED)
    ∧ (∃ (s : State), s.running = true ∧ s.duo.own = true ∧ s.duo.partner = false ∧ s.duo.grant = false ∧ s.ilkBank = true ∧ s.duo.role = Role.PORTER ∧ s.duo.cause = 3)
    ∧ (∃ (s : State), s.running = true ∧ (s.duo.own = false ∨ s.duo.partner = true ∨ s.duo.grant = true ∨ s.ilkBank = false))
    ∧ (∃ (s : State), s.running = true ∧ s.ilkBank = true ∧ s.paired = true ∧ s.duo.own = true ∧ s.second = true)
    ∧ (∃ (s : State), s.running = true ∧ s.ilkBank = true ∧ s.paired = true ∧ s.second = false)
    ∧ (∃ (s : State), s.running = true ∧ s.ilkBank = true ∧ s.paired = false)
    ∧ (∃ (s : State), s.running = true ∧ s.paired = true ∧ s.rd Reg.PAIR_CFG_TAKEOVER_EN = 1 ∧ s.duo.own = false ∧ s.ilkBank = true ∧ s.duo.role = Role.PORTER ∧ s.duo.partner = false ∧ s.pairDark = true)
    ∧ (∃ (s : State), s.running = true ∧ s.paired = true ∧ s.rd Reg.PAIR_CFG_TAKEOVER_EN = 1 ∧ s.duo.own = false ∧ s.ilkBank = true ∧ s.duo.role = Role.PORTER ∧ s.duo.partner = false ∧ s.pairDark = false ∧ s.duo.pFlags / 2 ^ 31 % 2 = 1 ∧ s.loop.selfOk = some true)
    ∧ (∃ (s : State) (m : Byte), s.running = true ∧ s.duo.grant = true ∧ s.duo.role = Role.PORTER ∧ (s.duo.cause = 1 ∨ s.duo.cause = 2) ∧ s.duo.next = none ∧ s.duo.latchAt = some s.stage ∧ (∀ p ∈ s.link.parcels, p.1 < 512))
    ∧ (∃ (s : State), s.running = true ∧ s.duo.role = Role.KEEPER ∧ s.duo.yieldAt = some ((s.stage + 1) % 2 ^ 32))
    ∧ (∃ (s : State), s.running = true ∧ s.duo.role = Role.PORTER ∧ s.duo.pFlags / 2 ^ 30 % 2 = 1 ∧ s.duo.pYieldAt = (s.stage + 1) % 2 ^ 32 ∧ s.ilkBank = true) :=
  ⟨⟨up, by decide +kernel⟩,
   ⟨pairedWith (fun d => { d with own := true, noHand := 2 }), by decide +kernel, by decide +kernel, by decide +kernel⟩,
   ⟨up, by decide +kernel, by decide +kernel⟩,
   ⟨pairedWith (fun d => { d with role := Role.UNDECIDED, absentNs := 50000000 }), by decide +kernel, by decide +kernel, by decide +kernel, by decide +kernel⟩,
   ⟨pairedWith (fun d => { d with role := Role.UNDECIDED, partner := true }), by decide +kernel, by decide +kernel, by decide +kernel, by decide +kernel⟩,
   ⟨pairedWith (fun d => { d with role := Role.UNDECIDED, own := true }), by decide +kernel, by decide +kernel, by decide +kernel, by decide +kernel⟩,
   ⟨pairedWith (fun d => { d with role := Role.PORTER, own := true, cause := 3 }), by decide +kernel, by decide +kernel, by decide +kernel, by decide +kernel⟩,
   ⟨up, by decide +kernel, by decide +kernel⟩,
   ⟨pairedWith (fun d => { d with own := true }) [(Reg.ID_STRAP_ROLE, 2)], by decide +kernel, by decide +kernel, by decide +kernel, by decide +kernel⟩,
   ⟨pairedWith (fun d => { d with own := false }), by decide +kernel, by decide +kernel, by decide +kernel, by decide +kernel⟩,
   ⟨up.wr Reg.ID_VIO_STAT_CLASS3 1, by decide +kernel, by decide +kernel, by decide +kernel⟩,
   ⟨pairedWith (fun d => { d with role := Role.PORTER }), by decide +kernel, by decide +kernel, by decide +kernel, by decide +kernel⟩,
   ⟨{ pairedWith (fun d => { d with role := Role.PORTER, pFlags := 2 ^ 31 }) [(Reg.LANE_STAT_LOCKED 48, 1)] with loop := { up.loop with selfOk := some true } }, by decide +kernel, by decide +kernel, by decide +kernel, by decide +kernel⟩,
   ⟨pairedWith (fun d => { d with role := Role.PORTER, grant := true, cause := 1, latchAt := some 0 }), 3, by decide +kernel, by decide +kernel, by decide +kernel, by decide +kernel⟩,
   ⟨pairedWith (fun d => { d with role := Role.KEEPER, yieldAt := some 1 }), by decide +kernel, by decide +kernel, by decide +kernel⟩,
   ⟨pairedWith (fun d => { d with role := Role.PORTER, pFlags := 2 ^ 30, pYieldAt := 1 }), by decide +kernel, by decide +kernel, by decide +kernel, by decide +kernel⟩⟩

theorem witness_pair_steps_and_frames :
    (∃ (s : State), s.running = true ∧ s.paired = true ∧ s.duo.role ≠ Role.KEEPER)
    ∧ (∃ (s : State), s.running = true ∧ s.paired = true ∧ s.duo.role = Role.KEEPER ∧ s.duo.release = false)
    ∧ (∃ (s : State), s.running = true ∧ s.paired = true ∧ s.duo.role = Role.KEEPER ∧ s.duo.release = true)
    ∧ (∃ (s : State) (b : Bool) (bs : List Byte) (c : List Byte) (n : Word) (k : BitVec 16), s.running = true ∧ s.paired = true ∧ s.duo.role = Role.KEEPER ∧ s.rd (Reg.LANE_STAT_LOCKED (if b then 49 else 48)) = 1 ∧ frameRecords 5 b bs = [(1, c)])
    ∧ (∃ (s : State) (b : Bool) (bs : List Byte) (c : List Byte) (src : Source) (n : Word) (k : BitVec 16), s.running = true ∧ s.paired = true ∧ s.duo.role = Role.PORTER ∧ s.rd (Reg.LANE_STAT_LOCKED (if b then 49 else 48)) = 1 ∧ frameRecords 4 b bs = [(1, c)] ∧ s.duo.set.seq ≠ beAt bs 2 2)
    ∧ (∃ (s : State) (b : Bool) (bs : List Byte) (n : Word) (k : BitVec 16), s.running = true ∧ s.pairHears b = true ∧ frameRecords 5 b bs = [])
    ∧ (∃ (s : State) (b : Bool) (bs : List Byte) (n : Word) (k : BitVec 16), s.running = true ∧ s.pairHears b = false)
    ∧ (∃ (s : State), s.running = true ∧ s.duo.role = Role.PORTER ∧ s.duo.latchAt = some s.stage)
    ∧ (∃ (s : State), s.running = true ∧ s.duo.role = Role.PORTER ∧ s.duo.latchAt ≠ some s.stage ∧ s.duo.set.cutA = none ∧ s.rd Reg.ROUTE_TABLE_TOTAL_CELLS = 0 ∧ s.duo.set.meas = [] ∧ s.duo.set.hvsNow = none ∧ s.duo.set.frames = [] ∧ s.duo.set.faults = [])
    ∧ (∃ (s : State), s.running = true ∧ s.duo.role = Role.PORTER ∧ 2 ≤ s.stage ∧ (s.stage - 1) ∉ s.duo.pDigests ∧ (s.stage - 2) ∉ s.duo.pDigests)
    ∧ (∃ (s : State), s.running = true ∧ s.duo.role = Role.KEEPER ∧ s.duo.inStep = true ∧ 2 ≤ s.stage ∧ (s.stage - 1) ∉ s.duo.pDigests ∧ (s.stage - 2) ∉ s.duo.pDigests)
    ∧ (∃ (s : State), s.running = true ∧ s.duo.check = true ∧ s.loop.selfOk = some true ∧ s.duo.role = Role.KEEPER ∧ s.duo.inStep = true ∧ s.duo.pCheck = some true)
    ∧ (∃ (s : State), s.running = true ∧ s.duo.check = true ∧ s.loop.selfOk = some false ∧ s.duo.role = Role.KEEPER ∧ s.duo.inStep = true ∧ s.duo.pCheck = some true)
    ∧ (∃ (s : State), s.running = true ∧ s.duo.check = true ∧ s.loop.selfOk = some false ∧ s.duo.role = Role.PORTER)
    ∧ (∃ (s : State), s.running = true ∧ s.paired = true ∧ s.ilkBank = true ∧ s.duo.role = Role.OUT_OF_STEP ∧ s.duo.rejoin = true)
    ∧ (∃ (s : State), s.running = true ∧ s.paired = true ∧ s.ilkBank = true ∧ s.duo.role = Role.OUT_OF_STEP ∧ s.rd Reg.PAIR_CFG_JOIN_AUTO = 1 ∧ s.rd Reg.PAIR_CFG_RETRY_S * 1000000000 < s.duo.outNs + s.tsNs)
    ∧ (∃ (s : State) (d : BitVec 16) (x : BitVec 4) (l : List (Word × Word)), s.running = true ∧ s.duo.role = Role.JOINING)
    ∧ (∃ (s : State) (d : BitVec 16) (x : BitVec 4) (l : List (Word × Word)), s.running = true ∧ s.duo.role = Role.JOINING ∧ joinBound s.duo.step < s.duo.stepN)
    ∧ (∃ (s : State) (d : BitVec 16) (x : BitVec 4) (l : List (Word × Word)), s.running = true ∧ s.duo.role = Role.JOINING ∧ s.duo.step = 2 ∧ s.duo.stepN ≤ 100)
    ∧ (∃ (s : State) (d : BitVec 16) (x : BitVec 4) (l : List (Word × Word)), s.running = true ∧ s.duo.role = Role.JOINING ∧ s.duo.step = 5 ∧ s.duo.equal = 64 ∧ s.duo.stepN ≤ 64) :=
  ⟨⟨pairedWith (fun d => { d with role := Role.PORTER }), by decide +kernel, by decide +kernel, by decide +kernel⟩,
   ⟨pairedWith (fun d => { d with role := Role.KEEPER }), by decide +kernel, by decide +kernel, by decide +kernel, by decide +kernel⟩,
   ⟨pairedWith (fun d => { d with role := Role.KEEPER, release := true }), by decide +kernel, by decide +kernel, by decide +kernel, by decide +kernel⟩,
   ⟨pairedWith (fun d => { d with role := Role.KEEPER }) [(Reg.LANE_STAT_LOCKED 48, 1)], false, ctrlFrame 5 7, List.replicate 32 0, 7, 2, by decide +kernel, by decide +kernel, by decide +kernel, by decide +kernel⟩,
   ⟨pairedWith (fun d => { d with role := Role.PORTER }) [(Reg.LANE_STAT_LOCKED 48, 1)], false, ctrlFrame 4 7, List.replicate 32 0, ⟨.etha, 1, 1⟩, 7, 2, by decide +kernel, by decide +kernel, by decide +kernel, by decide +kernel⟩,
   ⟨pairedWith (fun d => { d with role := Role.PORTER }) [(Reg.LANE_STAT_LOCKED 49, 1)], true, List.replicate 32 0, 0, 2, by decide +kernel, by decide +kernel, by decide +kernel⟩,
   ⟨up, true, [], 0, 0, by decide +kernel, by decide +kernel⟩,
   ⟨pairedWith (fun d => { d with role := Role.PORTER, latchAt := some 0 }), by decide +kernel, by decide +kernel, by decide +kernel⟩,
   ⟨pairedWith (fun d => { d with role := Role.PORTER, set := { d.set with cutA := none, meas := [], hvsNow := none, frames := [], faults := [] } }), by decide +kernel, by decide +kernel, by decide +kernel, by decide +kernel⟩,
   ⟨(pairedWith (fun d => { d with role := Role.PORTER })).setStage 2, by decide +kernel, by decide +kernel, by decide +kernel, by decide +kernel⟩,
   ⟨(pairedWith (fun d => { d with role := Role.KEEPER, inStep := true })).setStage 2, by decide +kernel, by decide +kernel, by decide +kernel, by decide +kernel⟩,
   ⟨{ pairedWith (fun d => { d with role := Role.KEEPER, check := true, inStep := true, pCheck := some true }) with loop := { up.loop with selfOk := some true } }, by decide +kernel, by decide +kernel, by decide +kernel, by decide +kernel⟩,
   ⟨{ pairedWith (fun d => { d with role := Role.KEEPER, check := true, inStep := true, pCheck := some true }) with loop := { up.loop with selfOk := some false } }, by decide +kernel, by decide +kernel, by decide +kernel, by decide +kernel⟩,
   ⟨{ pairedWith (fun d => { d with role := Role.PORTER, check := true }) with loop := { up.loop with selfOk := some false } }, by decide +kernel, by decide +kernel, by decide +kernel, by decide +kernel⟩,
   ⟨pairedWith (fun d => { d with role := Role.OUT_OF_STEP, rejoin := true }), by decide +kernel, by decide +kernel, by decide +kernel, by decide +kernel⟩,
   ⟨pairedWith (fun d => { d with role := Role.OUT_OF_STEP, outNs := 9000000000000 }), by decide +kernel, by decide +kernel, by decide +kernel, by decide +kernel⟩,
   ⟨pairedWith (fun d => { d with role := Role.JOINING }), 0, 0, [], by decide +kernel, by decide +kernel⟩,
   ⟨pairedWith (fun d => { d with role := Role.JOINING, step := 1, stepN := 2 }), 0, 0, [], by decide +kernel, by decide +kernel, by decide +kernel⟩,
   ⟨pairedWith (fun d => { d with role := Role.JOINING, step := 2, pStage := 77 }), 900, 3, [], by decide +kernel, by decide +kernel, by decide +kernel, by decide +kernel⟩,
   ⟨pairedWith (fun d => { d with role := Role.JOINING, step := 5, equal := 64 }), 900, 3, [], by decide +kernel, by decide +kernel, by decide +kernel, by decide +kernel⟩⟩

theorem witness_safety_island :
    (∃ (s : State) (c : CycleIn) (j : Fin 4) (a : Bool) (b : Bool) (i : IslandIn), s.isl.started = false)
    ∧ (∃ (s : State) (c : CycleIn), s.isl.started = true)
    ∧ (∃ (s : State) (c : CycleIn), s.isl.started = true ∧ c.check = false ∧ (∀ x ∈ s.isl.causes, x.1 ≠ 4))
    ∧ (∃ (s : State), s.isl.started = true ∧ s.isl.validN < 119999)
    ∧ (∃ (s : State), s.isl.started = true ∧ 119999 ≤ s.isl.validN)
    ∧ (∃ (s : State) (n : Nat), s.isl.started = true ∧ s.isl.ss1 = some n ∧ n ≤ 1)
    ∧ (∃ (s : State) (j : Fin 4) (low : Bool) (next : Bool), s.isl.started = true ∧ s.rd (Reg.SAFE_OUT_ON j) = 1 ∧ (s.outp j).pulse = none ∧ s.isl.cycle = 20 * j.val ∧ (s.rd (Reg.SAFE_OUT_LAST_TEST j) ≠ 3 ∨ 80 ≤ (s.outp j).since))
    ∧ (∃ (s : State) (j : Fin 4), s.isl.started = true ∧ s.rd (Reg.SAFE_PARAM_ACTIVE_OUT_FB_EN j) = 1 ∧ s.rd (Reg.SAFE_OUT_FB_OK j) = 0 ∧ (s.outp j).faulted = false ∧ 796 ≤ (s.outp j).mis ∧ 796 ≤ (s.outp j).since)
    ∧ (∃ (s : State), s.running = true ∧ s.isl.started = true)
    ∧ (∃ (s : State), s.isl.started = true ∧ s.rd Reg.SAFE_STAT_CTRL_LINK = 1 ∧ 3 ≤ s.isl.quiet)
    ∧ (∃ (s : State), s.isl.started = true ∧ s.rd Reg.SAFE_STAT_CTRL_LINK = 1 ∧ 39 ≤ s.isl.up)
    ∧ (∃ (s : State) (i : IslandIn), s.isl.started = false ∧ s.power.region ≠ .off ∧ i.check = true ∧ i.paramOk = true)
    ∧ (∃ (s : State) (i : IslandIn), s.isl.started = true)
    ∧ (∃ (s : State), s.isl.started = true ∧ (∀ x ∈ s.isl.causes, x.1 ≠ 4))
    ∧ (∃ (s : State), s.isl.started = true) :=
  ⟨⟨up, cycleOf .off .off true, 0, true, true, islandIn, by decide +kernel⟩,
   ⟨safe, cycleOf .off .off true, by decide +kernel⟩,
   ⟨safe, cycleOf .off .off false, by decide +kernel, by decide +kernel, by decide +kernel⟩,
   ⟨safe, by decide +kernel, by decide +kernel⟩,
   ⟨{ safe with isl := { safe.isl with validN := 119999 } }, by decide +kernel, by decide +kernel⟩,
   ⟨{ safe with isl := { safe.isl with ss1 := some 1 } }, 1, by decide +kernel, by decide +kernel, by decide +kernel⟩,
   ⟨(State.wr { safe with isl := { safe.isl with cycle := 60 } } (Reg.SAFE_OUT_ON 3) 1), 3, true, false, by decide +kernel, by decide +kernel, by decide +kernel, by decide +kernel⟩,
   ⟨puts (State.setOutp safe 3 { mis := 796, since := 796 }) [(Reg.SAFE_PARAM_ACTIVE_OUT_FB_EN 3, 1), (Reg.SAFE_OUT_FB_OK 3, 0)], 3, by decide +kernel, by decide +kernel, by decide +kernel, by decide +kernel⟩,
   ⟨safe, by decide +kernel, by decide +kernel⟩,
   ⟨(State.wr { safe with isl := { safe.isl with quiet := 4 } } Reg.SAFE_STAT_CTRL_LINK 1), by decide +kernel, by decide +kernel, by decide +kernel⟩,
   ⟨(State.wr { safe with isl := { safe.isl with up := 40 } } Reg.SAFE_STAT_CTRL_LINK 1), by decide +kernel, by decide +kernel, by decide +kernel⟩,
   ⟨up, islandIn, by decide +kernel, by decide +kernel, by decide +kernel, by decide +kernel⟩,
   ⟨safe, islandIn, by decide +kernel⟩,
   ⟨safe, by decide +kernel, by decide +kernel⟩,
   ⟨safe, by decide +kernel⟩⟩

theorem witness_ethernet_ports :
    (∃ (s : State) (p : Fin 2) (bad : Bool) (rf : Bool), s.running = true ∧ s.rd (Reg.ETH_CFG_EN p) = 1 ∧ s.rd (Reg.ETH_STAT_LINK p) = 0 ∧ s.rd Reg.CLK_STAT_LOCKED / 4 % 2 = 1 ∧ (bad = false ∨ s.rd (Reg.ETH_CFG_AN_EN p) = 0 ∨ s.rd (Reg.ETH_CFG_MODE p) ≠ 1))
    ∧ (∃ (s : State) (p : Fin 2) (rf : Bool), s.running = true ∧ s.rd (Reg.ETH_CFG_EN p) = 1 ∧ s.rd (Reg.ETH_STAT_LINK p) = 0 ∧ s.rd Reg.CLK_STAT_LOCKED / 4 % 2 = 1 ∧ s.rd (Reg.ETH_CFG_AN_EN p) = 1 ∧ s.rd (Reg.ETH_CFG_MODE p) = 1)
    ∧ (∃ (s : State) (p : Fin 2), s.running = true ∧ s.rd (Reg.ETH_STAT_LINK p) = 1)
    ∧ (∃ (s : State) (p : Fin 2), s.running = true ∧ s.rd (Reg.ETH_STAT_LINK p) = 0)
    ∧ (∃ (s : State) (p : Fin 2) (f : EthFrame), s.running = true ∧ s.rd (Reg.ETH_STAT_LINK p) = 1 ∧ f.fcsOk = false)
    ∧ (∃ (s : State) (p : Fin 2) (f : EthFrame), s.running = true ∧ s.rd (Reg.ETH_STAT_LINK p) = 1 ∧ f.fcsOk = true ∧ f.body ≠ .pause ∧ (1522 < f.length ∨ f.full = true ∨ s.tagOk p f.vid = false ∨ s.ethAccepts p f = false))
    ∧ (∃ (s : State) (p : Fin 2) (f : EthFrame) (x : Word) (a : Word), s.running = true ∧ s.rd (Reg.ETH_STAT_LINK p) = 1 ∧ f.fcsOk = true ∧ f.length ≤ 1518 ∧ f.full = false ∧ s.tagOk p f.vid = true ∧ f.dest = .broadcast ∧ f.body = .arpRequest x a ∧ a.toNat = s.ethIp p)
    ∧ (∃ (s : State) (p : Fin 2) (f : EthFrame) (x : Word) (a : Word) (b : List Byte), s.running = true ∧ s.rd (Reg.ETH_STAT_LINK p) = 1 ∧ f.fcsOk = true ∧ f.length ≤ 1518 ∧ f.full = false ∧ s.tagOk p f.vid = true ∧ f.dest = .own ∧ f.body = .icmpEcho x a b ∧ a.toNat = s.ethIp p ∧ b.length ≤ 1472 ∧ (s.ethRun p).icmp.length < 100)
    ∧ (∃ (s : State) (p : Fin 2) (ip : Word) (h : ArpEntry), s.running = true ∧ s.rd (Reg.ETH_STAT_LINK p) = 1 ∧ (s.ethRun p).hops.find? (fun g => g.ip == ip.toNat) = some h ∧ h.mac = none ∧ h.tries < 3 ∧ s.passed h.at_ 1000000000 = true)
    ∧ (∃ (s : State) (p : Fin 2) (ip : Word) (h : ArpEntry) (m : Nat), s.running = true ∧ s.rd (Reg.ETH_STAT_LINK p) = 1 ∧ (s.ethRun p).hops.find? (fun g => g.ip == ip.toNat) = some h ∧ h.mac = some m ∧ h.asked = false ∧ h.fails < 3 ∧ s.passed h.at_ 60000000000 = true)
    ∧ (∃ (s : State) (p : Fin 2) (ip : Word) (h : ArpEntry) (m : Nat), s.running = true ∧ (s.ethRun p).hops.find? (fun g => g.ip == ip.toNat) = some h ∧ h.mac = some m ∧ h.asked = true ∧ h.fails = 2 ∧ s.passed h.at_ 60000000000 = true)
    ∧ (∃ (s : State) (p : Fin 2) (d : BitVec 16), s.running = true ∧ s.rd (Reg.ETH_MDIO_BUSY p) = 1 ∧ s.rd Reg.ID_VIO_STAT_CLASS1 = 1)
    ∧ (∃ (s : State) (p : Fin 2) (d : BitVec 16), s.running = true ∧ s.rd (Reg.ETH_MDIO_BUSY p) = 1 ∧ s.rd Reg.ID_VIO_STAT_CLASS1 = 0 ∧ s.rd (Reg.ETH_MDIO_OP p) = 0)
    ∧ (∃ (s : State) (p : Fin 2) (f : TimedFrame) (l : List TimedFrame), s.running = true ∧ (s.ethRun p).timed = f :: l ∧ s.rd (Reg.ETH_STAT_LINK p) = 1 ∧ s.gridReaches f.launch = true)
    ∧ (∃ (s : State) (p : Fin 2) (f : TimedFrame) (l : List TimedFrame), s.running = true ∧ (s.ethRun p).timed = f :: l)
    ∧ (∃ (s : State) (p : Fin 2) (f : TimedFrame) (l : List TimedFrame), s.running = true ∧ (s.ethRun p).timed = f :: l ∧ s.gridReaches f.launch = false)
    ∧ (∃ (s : State) (k : Fin 4) (n : Nat) (st : Nat) (m : Nat) (d : List Byte) (h : ArpEntry), s.running = true ∧ s.isKeeper = true ∧ (s.telRun k).next = some n ∧ (s.telRun k).cap = some (st, d) ∧ s.rd (Reg.ETH_TELEGRAM_EN k) = 1 ∧ s.rd (Reg.ETH_TELEGRAM_PORT k) = 0 ∧ s.gridReaches (s.launchNs k n) = true ∧ s.rd (Reg.ETH_STAT_LINK 0) = 1 ∧ h.mac = some m ∧ (∃ hop, s.nextHop 0 (s.rd (Reg.ETH_TELEGRAM_DEST_IP k)) = some hop ∧ (s.ethRun 0).hops.find? (fun g => g.ip == hop) = some h))
    ∧ (∃ (s : State) (k : Fin 4) (n : Nat) (c : Nat × List Byte), s.running = true ∧ s.isKeeper = true ∧ (s.telRun k).next = some n ∧ (s.telRun k).cap = some c ∧ s.rd (Reg.ETH_TELEGRAM_EN k) = 1 ∧ s.gridReaches (s.launchNs k n) = true ∧ s.rd (Reg.ETH_STAT_LINK (s.rd (Reg.ETH_TELEGRAM_PORT k))) = 0) :=
  ⟨⟨(puts up [(Reg.ETH_CFG_EN 1, 1), (Reg.CLK_STAT_LOCKED, 4)]), 1, false, true, by decide +kernel, by decide +kernel, by decide +kernel, by decide +kernel⟩,
   ⟨(puts up [(Reg.ETH_CFG_EN 1, 1), (Reg.CLK_STAT_LOCKED, 4), (Reg.ETH_CFG_AN_EN 1, 1), (Reg.ETH_CFG_MODE 1, 1)]), 1, true, by decide +kernel, by decide +kernel, by decide +kernel, by decide +kernel⟩,
   ⟨(puts up [(Reg.ETH_STAT_LINK 1, 1)]), 1, by decide +kernel, by decide +kernel⟩,
   ⟨up, 1, by decide +kernel, by decide +kernel⟩,
   ⟨(puts up [(Reg.ETH_STAT_LINK 1, 1)]), 1, ⟨.own, 0x0200000000, none, 64, false, false, .other, 0⟩, by decide +kernel, by decide +kernel, by decide +kernel⟩,
   ⟨(puts up [(Reg.ETH_STAT_LINK 1, 1)]), 1, ⟨.own, 0x0200000000, none, 1523, true, false, .other, 0⟩, by decide +kernel, by decide +kernel, by decide +kernel, by decide +kernel⟩,
   ⟨(puts up [(Reg.ETH_STAT_LINK 1, 1), (Reg.ETH_CFG_IP 1, 0x0A000001)]), 1, ⟨.broadcast, 0x0200000000, none, 64, true, false, .arpRequest 5 0x0A000001, 0⟩, 5, 0x0A000001, by decide +kernel, by decide +kernel, by decide +kernel, by decide +kernel⟩,
   ⟨(puts up [(Reg.ETH_STAT_LINK 1, 1), (Reg.ETH_CFG_IP 1, 0x0A000001)]), 1, ⟨.own, 0x0200000000, none, 64, true, false, .icmpEcho 5 0x0A000001 [1, 2], 0⟩, 5, 0x0A000001, [1, 2], by decide +kernel, by decide +kernel, by decide +kernel, by decide +kernel⟩,
   ⟨(aged ({ (puts up [(Reg.ETH_STAT_LINK 1, 1)]) with net := ((puts up [(Reg.ETH_STAT_LINK 1, 1)]).setEth 1 { hops := [{ ip := 9 , tries := 2 }] }).net })), 1, 9, { ip := 9 , tries := 2 }, by decide +kernel, by decide +kernel, by decide +kernel, by decide +kernel⟩,
   ⟨(aged ({ (puts up [(Reg.ETH_STAT_LINK 1, 1)]) with net := ((puts up [(Reg.ETH_STAT_LINK 1, 1)]).setEth 1 { hops := [{ ip := 9 , mac := some 7 }] }).net })), 1, 9, { ip := 9 , mac := some 7 }, 7, by decide +kernel, by decide +kernel, by decide +kernel, by decide +kernel⟩,
   ⟨(aged ({ (puts up [(Reg.ETH_STAT_LINK 1, 1)]) with net := ((puts up [(Reg.ETH_STAT_LINK 1, 1)]).setEth 1 { hops := [{ ip := 9 , mac := some 7, asked := true, fails := 2 }] }).net })), 1, 9, { ip := 9 , mac := some 7, asked := true, fails := 2 }, 7, by decide +kernel, by decide +kernel, by decide +kernel, by decide +kernel⟩,
   ⟨(puts up [(Reg.ETH_MDIO_BUSY 1, 1), (Reg.ID_VIO_STAT_CLASS1, 1)]), 1, 0xFFFF, by decide +kernel, by decide +kernel, by decide +kernel⟩,
   ⟨(puts up [(Reg.ETH_MDIO_BUSY 1, 1), (Reg.ID_VIO_STAT_CLASS1, 0)]), 1, 0xFFFF, by decide +kernel, by decide +kernel, by decide +kernel, by decide +kernel⟩,
   ⟨{ (puts up [(Reg.ETH_STAT_LINK 1, 1)]) with net := ((puts up [(Reg.ETH_STAT_LINK 1, 1)]).setEth 1 { timed := [⟨3, 0⟩, ⟨4, 9⟩] }).net }, 1, ⟨3, 0⟩, [⟨4, 9⟩], by decide +kernel, by decide +kernel, by decide +kernel, by decide +kernel⟩,
   ⟨{ (puts up [(Reg.ETH_STAT_LINK 1, 1)]) with net := ((puts up [(Reg.ETH_STAT_LINK 1, 1)]).setEth 1 { timed := [⟨3, 0⟩, ⟨4, 9⟩] }).net }, 1, ⟨3, 0⟩, [⟨4, 9⟩], by decide +kernel, by decide +kernel⟩,
   ⟨{ (puts up [(Reg.ETH_STAT_LINK 1, 1)]) with net := ((puts up [(Reg.ETH_STAT_LINK 1, 1)]).setEth 1 { timed := [⟨3, 1000000⟩] }).net }, 1, ⟨3, 1000000⟩, [], by decide +kernel, by decide +kernel, by decide +kernel⟩,
   ⟨{ (puts up [(Reg.ETH_TELEGRAM_EN 3, 1), (Reg.ETH_STAT_LINK 0, 1), (Reg.ETH_CFG_IP 0, 0x0A000001), (Reg.ETH_CFG_PREFIX 0, 24), (Reg.ETH_TELEGRAM_DEST_IP 3, 0x0A000009)]) with net := (({ up with net := (up.setEth 0 { hops := [{ ip := 0x0A000009, mac := some 7 }] }).net } : State).setTel 3 { next := some 0, cap := some (0, [1]) }).net }, 3, 0, 0, 7, [1], { ip := 0x0A000009, mac := some 7 }, by decide +kernel, by decide +kernel, by decide +kernel, by decide +kernel⟩,
   ⟨{ (puts up [(Reg.ETH_TELEGRAM_EN 3, 1)]) with net := (up.setTel 3 { next := some 0, cap := some (0, [1]) }).net }, 3, 0, (0, [1]), by decide +kernel, by decide +kernel, by decide +kernel, by decide +kernel⟩⟩

theorem witness_ptp_frames_move_the_servo :
    (∃ (s : State) (p : Fin 2) (d : Byte) (n : BitVec 80) (x : Int), s.running = true ∧ s.ptpOn p = true ∧ d.toNat = s.rd Reg.PTP_CFG_DOMAIN ∧ s.net.ptp.parent ≠ some n.toNat)
    ∧ (∃ (s : State) (p : Fin 2) (d : Byte) (n : BitVec 80) (x : Int), s.running = true ∧ s.ptpOn p = true ∧ d.toNat = s.rd Reg.PTP_CFG_DOMAIN ∧ s.net.ptp.parent = some n.toNat ∧ 8 ≤ s.rd (Reg.PTP_PORT_STATE p) ∧ s.rd (Reg.PTP_PORT_DELAY_VALID p) = 1)
    ∧ (∃ (s : State) (p : Fin 2) (d : Byte) (n : BitVec 80) (x : Int), s.running = true ∧ s.ptpOn p = true ∧ d.toNat = s.rd Reg.PTP_CFG_DOMAIN ∧ s.net.ptp.parent = some n.toNat ∧ s.rd (Reg.PTP_PORT_STATE p) = 9 ∧ s.rd (Reg.PTP_PORT_DELAY_VALID p) = 1 ∧ s.rd Reg.TIME_GRID_STAT_STATE = 1 ∧ s.net.ptp.good = 7 ∧ (s.syncOffset p x).natAbs ≤ s.rd Reg.PTP_CFG_LOCK_NS * 65536)
    ∧ (∃ (s : State) (p : Fin 2) (d : Byte) (a : Announce), s.running = true ∧ (s.ptpOn p = false ∨ d.toNat ≠ s.rd Reg.PTP_CFG_DOMAIN ∨ a.sender.toNat / 65536 = s.clockId))
    ∧ (∃ (s : State) (p : Fin 2) (d : Byte) (a : Announce), s.running = true ∧ s.ptpOn p = true ∧ d.toNat = s.rd Reg.PTP_CFG_DOMAIN ∧ a.sender.toNat / 65536 ≠ s.clockId ∧ (∀ h ∈ s.net.ptp.heard[p], h.ann.sender ≠ a.sender))
    ∧ (∃ (s : State) (p : Fin 2), s.running = true ∧ s.ptpOn p = true ∧ s.rd (Reg.PTP_PORT_STATE p) ≠ 6 ∧ s.passed s.net.ptp.timer[p] 3000000000 = true)
    ∧ (∃ (s : State) (p : Fin 2), s.running = true ∧ s.ptpOn p = true ∧ s.rd (Reg.PTP_PORT_STATE p) = 6 ∧ (s.ethRun p).timed.length < 8 ∧ (s.ethRun p).sync ≠ some (s.syncInstant p))
    ∧ (∃ (s : State) (p : Fin 2), s.running = true ∧ s.ptpOn p = true ∧ s.rd (Reg.PTP_PORT_STATE p) = 6)
    ∧ (∃ (s : State) (p : Fin 2), s.running = true ∧ s.ptpOn p = true)
    ∧ (∃ (s : State) (p : Fin 2), s.running = true ∧ s.ptpOn p = true ∧ s.net.ptp.asked[p] = true)
    ∧ (∃ (s : State) (p : Fin 2) (a : Nat) (b : Nat), s.running = true ∧ s.ptpOn p = true ∧ s.net.ptp.asked[p] = true ∧ s.rd (Reg.PTP_PORT_STATE p) ≠ 8)
    ∧ (∃ (s : State) (p : Fin 2) (x : Option (Nat × Nat)), s.running = true ∧ s.net.ptp.asked[p] = false)
    ∧ (∃ (s : State), s.running = true ∧ s.net.ptp.parent ≠ none ∧ s.passed s.net.ptp.syncAt 3000000000 = true)
    ∧ (∃ (s : State), s.running = true ∧ s.rd Reg.TIME_GRID_STAT_STATE = 3 ∧ s.passed s.net.ptp.holdAt (s.rd Reg.PTP_CFG_HOLDOVER_S * 1000000000) = true) :=
  ⟨⟨(puts up [(Reg.PTP_CFG_EN, 1), (Reg.ETH_STAT_LINK 0, 1)]), 0, 0, 77, 5, by decide +kernel, by decide +kernel, by decide +kernel, by decide +kernel⟩,
   ⟨{ (puts up [(Reg.PTP_CFG_EN, 1), (Reg.ETH_STAT_LINK 0, 1), (Reg.PTP_PORT_STATE 0, 9), (Reg.PTP_PORT_DELAY_VALID 0, 1)]) with net := { up.net with ptp := { up.net.ptp with parent := some 77 } } }, 0, 0, 77, 5, by decide +kernel, by decide +kernel, by decide +kernel, by decide +kernel⟩,
   ⟨{ (puts up [(Reg.PTP_CFG_EN, 1), (Reg.ETH_STAT_LINK 0, 1), (Reg.PTP_PORT_STATE 0, 9), (Reg.PTP_PORT_DELAY_VALID 0, 1), (Reg.TIME_GRID_STAT_STATE, 1)]) with net := { up.net with ptp := { up.net.ptp with parent := some 77, good := 7 } } }, 0, 0, 77, 5, by decide +kernel, by decide +kernel, by decide +kernel, by decide +kernel⟩,
   ⟨up, 0, 0, ⟨0x12345678, 0, 1, 2, 3, 4, 5, 6, 0, false, false, false⟩, by decide +kernel, by decide +kernel⟩,
   ⟨(puts up [(Reg.PTP_CFG_EN, 1), (Reg.ETH_STAT_LINK 0, 1)]), 0, 0, ⟨0x12345678, 0, 1, 2, 3, 4, 5, 6, 0, false, false, false⟩, by decide +kernel, by decide +kernel, by decide +kernel, by decide +kernel⟩,
   ⟨(aged (puts up [(Reg.PTP_CFG_EN, 1), (Reg.ETH_STAT_LINK 0, 1)])), 0, by decide +kernel, by decide +kernel, by decide +kernel, by decide +kernel⟩,
   ⟨(puts up [(Reg.PTP_CFG_EN, 1), (Reg.ETH_STAT_LINK 0, 1), (Reg.PTP_PORT_STATE 0, 6)]), 0, by decide +kernel, by decide +kernel, by decide +kernel, by decide +kernel⟩,
   ⟨(puts up [(Reg.PTP_CFG_EN, 1), (Reg.ETH_STAT_LINK 0, 1), (Reg.PTP_PORT_STATE 0, 6)]), 0, by decide +kernel, by decide +kernel, by decide +kernel⟩,
   ⟨(puts up [(Reg.PTP_CFG_EN, 1), (Reg.ETH_STAT_LINK 0, 1)]), 0, by decide +kernel, by decide +kernel⟩,
   ⟨{ (puts up [(Reg.PTP_CFG_EN, 1), (Reg.ETH_STAT_LINK 0, 1)]) with net := { up.net with ptp := { up.net.ptp with asked := #v[true, false] } } }, 0, by decide +kernel, by decide +kernel, by decide +kernel⟩,
   ⟨{ (puts up [(Reg.PTP_CFG_EN, 1), (Reg.ETH_STAT_LINK 0, 1)]) with net := { up.net with ptp := { up.net.ptp with asked := #v[true, false] } } }, 0, 900, 100, by decide +kernel, by decide +kernel, by decide +kernel, by decide +kernel⟩,
   ⟨(puts up [(Reg.PTP_CFG_EN, 1), (Reg.ETH_STAT_LINK 0, 1)]), 1, none, by decide +kernel, by decide +kernel⟩,
   ⟨(aged { (puts up [(Reg.PTP_CFG_EN, 1), (Reg.ETH_STAT_LINK 0, 1)]) with net := { up.net with ptp := { up.net.ptp with parent := some 77 } } }), by decide +kernel, by decide +kernel, by decide +kernel⟩,
   ⟨(aged (puts up [(Reg.TIME_GRID_STAT_STATE, 3)])), by decide +kernel, by decide +kernel, by decide +kernel⟩⟩

theorem witness_can_frames_reach_the_objects :
    (∃ (s : State) (c : Fin 2) (f : CanFrame) (a : Nat), s.running = true ∧ s.isKeeper = true ∧ s.canMode c ≠ 0 ∧ s.canMode c ≠ 3 ∧ s.busOff c = false ∧ s.canHears c = true ∧ (f.fdf = false ∨ s.rd (Reg.CAN_CFG_FD_EN c) = 1) ∧ s.isReference c f = false)
    ∧ (∃ (s : State) (c : Fin 2) (f : CanFrame) (a : Nat), s.running = true ∧ s.isKeeper = true ∧ s.canMode c ≠ 0 ∧ s.canMode c ≠ 3 ∧ s.busOff c = false ∧ s.canHears c = true ∧ s.isReference c f = true ∧ s.rd (Reg.CAN_CFG_TIME_ROLE c) = 1)
    ∧ (∃ (s : State) (c : Fin 2) (f : CanFrame) (a : Nat), s.running = true ∧ s.canMode c = 3)
    ∧ (∃ (s : State) (c : Fin 2) (n : Fin 126) (b : Bool), s.running = true ∧ s.rd (Reg.CAN_OBJ_EN c n) = 1 ∧ s.rd (Reg.CAN_OBJ_DIR c n) = 1 ∧ s.rd (Reg.CAN_OBJ_TRIGGER c n) = 2 ∧ s.rd (Reg.CAN_CFG_TIME_ROLE c) ≠ 0 ∧ s.net.busFrom ≠ none ∧ s.busOff c = false ∧ s.rd (Reg.CAN_STAT_CYCLE_COUNT c) &&& s.rd (Reg.CAN_OBJ_CYC_MASK c n) = s.rd (Reg.CAN_OBJ_CYC_MATCH c n) ∧ assocGet (s.canRun c).tx n = none)
    ∧ (∃ (s : State) (c : Fin 2) (n : Fin 128) (x : CanTx), s.running = true ∧ s.canSends c = true ∧ n ≠ 127 ∧ assocGet (s.canRun c).tx n = some x ∧ s.canFormat c (s.flag (Reg.CAN_OBJ_FDF c n)) = true ∧ s.canOffered c n x.at_ = true)
    ∧ (∃ (s : State) (c : Fin 2) (n : Fin 128) (m : Fin 128) (x : CanTx) (y : CanTx), s.running = true ∧ n ≠ 127 ∧ assocGet (s.canRun c).tx n = some x ∧ (m.val, y) ∈ (s.canRun c).tx ∧ s.canOrder c m < s.canOrder c n ∧ s.canFormat c (s.flag (Reg.CAN_OBJ_FDF c m)) = true ∧ y.at_ ≤ (s.canRun c).lastEnd)
    ∧ (∃ (s : State) (c : Fin 2) (b : List Byte) (l : List (List Byte)) (a : Nat) (more : List CanReply), s.running = true ∧ s.canSends c = true ∧ s.canMode c ≠ 3 ∧ s.canFormat c true = true ∧ s.canTx[c] = { left := b :: l, since := a } :: more ∧ s.canOffered c 127 0 = true)
    ∧ (∃ (s : State) (c : Fin 2) (n : Fin 128) (x : CanTx) (e : CanErr), s.running = true ∧ s.canTries c = true ∧ n ≠ 127 ∧ assocGet (s.canRun c).tx n = some x ∧ x.oneShot = true ∧ e ≠ .arbitration ∧ e ≠ .ack)
    ∧ (∃ (s : State) (c : Fin 2) (n : Fin 128), s.running = true)
    ∧ (∃ (s : State) (c : Fin 2) (n : Fin 126) (x : CanTx), s.running = true ∧ assocGet (s.canRun c).tx n = some x ∧ x.oneShot = true ∧ (s.rd (Reg.CAN_OBJ_TRIGGER c n) ≠ 0 ∨ s.passed x.born 10000000 = true))
    ∧ (∃ (s : State) (c : Fin 2), s.running = true ∧ s.canTries c = true)
    ∧ (∃ (s : State) (c : Fin 2), s.running = true ∧ s.rd (Reg.CAN_STAT_RECOVERING c) = 1 ∧ s.passed (s.canRun c).healAt (s.canBits c 1408) = true)
    ∧ (∃ (s : State) (c : Fin 2) (n : Fin 126), s.running = true ∧ s.rd (Reg.CAN_OBJ_EN c n) = 1 ∧ s.rd (Reg.CAN_OBJ_DIR c n) = 0 ∧ s.rd (Reg.CAN_OBJ_TIMEOUT_MS c n) ≠ 0 ∧ s.passed ((assocGet (s.canRun c).taken n).getD s.power.startMono) (s.rd (Reg.CAN_OBJ_TIMEOUT_MS c n) * 1000000) = true)
    ∧ (∃ (s : State) (c : Fin 2) (a : Nat) (i : Instr), s.running = true ∧ s.rd (Reg.CAN_CFG_TIME_ROLE c) = 2 ∧ s.canSends c = true ∧ ((i = .canReferenceSend c a true ∧ (s.canRun c).follows = false ∧ s.refPassed c (s.tCycle c / 65536) = true) ∨ (i = .canBackupMasterTimeout c a true ∧ (s.canRun c).follows = true ∧ s.refPassed c (s.tCycle c / 65536 + s.canBits c (8 * (s.rd (Reg.CAN_CFG_REF_ID c) % 8))) = true)))
    ∧ (∃ (s : State) (c : Fin 2) (f : Nat), s.running = true ∧ s.timeCan = some c ∧ s.net.busFrom = some f ∧ (s.canRun c).starts = [] ∧ f + s.tCycle c < s.timeOf 3 + s.tsNs * 65536) :=
  ⟨⟨(puts up [(Reg.CAN_CFG_MODE 1, 1), (Reg.ID_VIO_STAT_CLASS0, 1)]), 1, ⟨false, false, false, false, false, 0x123, 8, List.replicate 8 0⟩, 5, by decide +kernel, by decide +kernel, by decide +kernel, by decide +kernel⟩,
   ⟨(puts up [(Reg.CAN_CFG_TIME_ROLE 1, 1), (Reg.CAN_CFG_REF_ID 1, 0), (Reg.CAN_CFG_MODE 1, 1), (Reg.ID_VIO_STAT_CLASS0, 1)]), 1, ⟨false, false, false, false, false, 0, 1, [5]⟩, 5, by decide +kernel, by decide +kernel, by decide +kernel, by decide +kernel⟩,
   ⟨(puts up [(Reg.CAN_CFG_MODE 1, 3)]), 1, ⟨false, false, false, false, false, 0x123, 8, List.replicate 8 0⟩, 5, by decide +kernel, by decide +kernel⟩,
   ⟨{ (puts up [(Reg.CAN_OBJ_EN 1 125, 1), (Reg.CAN_OBJ_DIR 1 125, 1), (Reg.CAN_OBJ_TRIGGER 1 125, 2), (Reg.CAN_CFG_TIME_ROLE 1, 1)]) with net := { up.net with busFrom := some 0 } }, 1, 125, true, by decide +kernel, by decide +kernel, by decide +kernel, by decide +kernel⟩,
   ⟨{ (puts up [(Reg.CAN_CFG_MODE 1, 1), (Reg.ID_VIO_STAT_CLASS0, 1)]) with net := (up.setCan 1 { tx := [(125, { data := [1], oneShot := true })] }).net }, 1, 125, { data := [1], oneShot := true }, by decide +kernel, by decide +kernel, by decide +kernel, by decide +kernel⟩,
   ⟨{ (puts up [(Reg.CAN_OBJ_ID 1 7, 1), (Reg.CAN_OBJ_ID 1 125, 2), (Reg.CAN_CFG_MODE 1, 1), (Reg.ID_VIO_STAT_CLASS0, 1)]) with net := (up.setCan 1 { tx := [(7, { data := [1], oneShot := true }), (125, { data := [1], oneShot := true })], lastEnd := 1 }).net }, 1, 125, 7, { data := [1], oneShot := true }, { data := [1], oneShot := true }, by decide +kernel, by decide +kernel, by decide +kernel, by decide +kernel⟩,
   ⟨{ (puts up [(Reg.CAN_CFG_FD_EN 1, 1), (Reg.CAN_CFG_MODE 1, 1), (Reg.ID_VIO_STAT_CLASS0, 1)]) with canTx := up.canTx.set 1 [⟨[[1], [2]], 0⟩] }, 1, [1], [[2]], 0, [], by decide +kernel, by decide +kernel, by decide +kernel, by decide +kernel⟩,
   ⟨{ (puts up [(Reg.CAN_CFG_MODE 1, 1), (Reg.ID_VIO_STAT_CLASS0, 1)]) with net := (up.setCan 1 { tx := [(125, { data := [1], oneShot := true })] }).net }, 1, 125, { data := [1], oneShot := true }, .bit, by decide +kernel, by decide +kernel, by decide +kernel, by decide +kernel⟩,
   ⟨up, 1, 125, by decide +kernel⟩,
   ⟨(aged ({ (puts up [(Reg.CAN_CFG_MODE 1, 1), (Reg.ID_VIO_STAT_CLASS0, 1)]) with net := (up.setCan 1 { tx := [(125, { data := [1], oneShot := true })] }).net })), 1, 125, { data := [1], oneShot := true }, by decide +kernel, by decide +kernel, by decide +kernel, by decide +kernel⟩,
   ⟨(puts up [(Reg.CAN_CFG_MODE 1, 1), (Reg.ID_VIO_STAT_CLASS0, 1)]), 1, by decide +kernel, by decide +kernel⟩,
   ⟨(aged (puts up [(Reg.CAN_STAT_RECOVERING 1, 1)])), 1, by decide +kernel, by decide +kernel, by decide +kernel⟩,
   ⟨(aged (puts up [(Reg.CAN_OBJ_EN 1 125, 1), (Reg.CAN_OBJ_TIMEOUT_MS 1 125, 5)])), 1, 125, by decide +kernel, by decide +kernel, by decide +kernel, by decide +kernel⟩,
   ⟨(puts up [(Reg.CAN_CFG_TIME_ROLE 1, 2), (Reg.CAN_CFG_MODE 1, 1), (Reg.ID_VIO_STAT_CLASS0, 1)]), 1, 5, .canReferenceSend 1 5 true, by decide +kernel, by decide +kernel, by decide +kernel, by decide +kernel⟩,
   ⟨{ (puts up [(Reg.CAN_CFG_TIME_ROLE 1, 1), (Reg.TIME_BASE_SECONDS_LO 3, 5)]) with net := { up.net with busFrom := some 9 } }, 1, 9, by decide +kernel, by decide +kernel, by decide +kernel, by decide +kernel⟩⟩

theorem witness_thermal_levels_act :
    (∃ (s : State) (r : Vector (BitVec 16 × Bool) 8) (i : StartIn), s.monitorRuns = true ∧ s.therm.shut = false ∧ (dieNext s.therm.die (readings 0 r.toList)).code ≠ 3)
    ∧ (∃ (s : State) (r : Vector (BitVec 16 × Bool) 8) (i : StartIn), s.running = true ∧ s.therm.shut = false ∧ s.power.stopping = none ∧ s.power.region = .full ∧ (dieNext s.therm.die (readings 0 r.toList)).code = 3)
    ∧ (∃ (s : State) (r : Vector (BitVec 16 × Bool) 2), s.monitorRuns = true ∧ (dieNext s.therm.hv (readings 8 r.toList)).code = 3 ∧ s.rd Reg.THERM_STAT_HV_LEVEL ≠ 3)
    ∧ (∃ (s : State) (d : DieSample), s.monitorRuns = false)
    ∧ (∃ (s : State), s.power.region = .full ∧ s.stepDue .die = true)
    ∧ (∃ (s : State), s.power.region = .full ∧ s.stepDue .hv = true)
    ∧ (∃ (s : State) (i : Fin 2), s.power.region = .full ∧ s.stepDue (.ntc i) = true)
    ∧ (∃ (s : State) (c : Fin 512), s.power.region = .full ∧ s.running = true ∧ s.stepDue (.cell c) = true ∧ s.cellLevel c < 2 ∧ s.rd (Reg.CELL_THERM_F_C c) < 8)
    ∧ (∃ (s : State) (c : Fin 512), s.power.region = .full ∧ s.running = true ∧ 2 ≤ s.cellLevel c ∧ s.tripped c = true ∧ s.active c = true)
    ∧ (∃ (s : State) (f : LimitSource), s.stepDue f = false)
    ∧ (∃ (s : State) (f : LimitSource), s.power.region ≠ .full) :=
  ⟨⟨up, Vector.replicate 8 (250, true), sane, by decide +kernel, by decide +kernel, by decide +kernel⟩,
   ⟨{ up with therm := { up.therm with die := { up := [1, 1, 1] } } }, Vector.replicate 8 (1600, true), sane, by decide +kernel, by decide +kernel, by decide +kernel, by decide +kernel⟩,
   ⟨{ up with therm := { up.therm with hv := { up := [1, 1, 1] } } }, Vector.replicate 2 (1600, true), by decide +kernel, by decide +kernel, by decide +kernel⟩,
   ⟨{ up with power := { up.power with region := .keepAlive } }, .hv (Vector.replicate 2 (0, true)), by decide +kernel⟩,
   ⟨(aged up), by decide +kernel, by decide +kernel⟩,
   ⟨(aged up), by decide +kernel, by decide +kernel⟩,
   ⟨(aged { up with therm := { up.therm with fNtc := #v[4, 8] } }), 1, by decide +kernel, by decide +kernel⟩,
   ⟨(aged (up.wr (Reg.CELL_THERM_F_C 511) 3)), 511, by decide +kernel, by decide +kernel, by decide +kernel, by decide +kernel⟩,
   ⟨puts up [(Reg.CELL_LEDGER_TRIP 511, 0x100), (Reg.CELL_LEDGER_STATUS 511, 0), (Reg.CELL_SVC_STATE 511, Svc.IN_SERVICE), (Reg.CELL_THERM_LEVEL0 511, 2)], 511, by decide +kernel, by decide +kernel, by decide +kernel, by decide +kernel⟩,
   ⟨up, .hv, by decide +kernel⟩,
   ⟨{ up with power := { up.power with region := .keepAlive } }, .hv, by decide +kernel⟩⟩

theorem witness_monitor_lines_are_served :
    (∃ (s : State) (a : Word) (n : Word) (e : Nat), s.running = true ∧ s.recovery = false ∧ s.monBusy = false ∧ s.mon.fill ≤ 60000 * 10000000000 ∧ 4 ≤ n.toNat ∧ n.toNat ≤ 32 ∧ n.toNat % 4 = 0 ∧ memBase ≤ a.toNat ∧ a.toNat + n.toNat ≤ memEnd ∧ reachesSecure a.toNat n.toNat = false)
    ∧ (∃ (s : State) (a : Word) (n : Word) (e : Nat) (l : List EccHit), s.running = true ∧ s.recovery = false ∧ s.monBusy = false ∧ s.mon.fill ≤ 60000 * 10000000000 ∧ (n.toNat < 4 ∨ 4096 < n.toNat ∨ n.toNat % 4 ≠ 0))
    ∧ (∃ (s : State) (l : Word) (p : Word) (d : Word) (v : Nat), s.running = true ∧ s.recovery = false ∧ s.monBusy = false ∧ s.lc ≠ 4 ∧ (s.lc ≠ 2 ∨ s.rd Reg.CMD_MON_STAT_UNLOCKED = 1) ∧ packParam [(l.toNat, 6, 0), (p.toNat, 2, 6), (d.toNat, 16, 16)] = some v ∧ s.prbsRefusal (BitVec.ofNat 32 v) = none)
    ∧ (∃ (s : State) (l : Word) (k : Word) (n : Word) (h : Word) (v : Nat), s.running = true ∧ s.recovery = false ∧ s.monBusy = false ∧ s.lc ≠ 4 ∧ (s.lc ≠ 2 ∨ s.rd Reg.CMD_MON_STAT_UNLOCKED = 1) ∧ packParam [(l.toNat, 6, 0), (k.toNat, 2, 6), (n.toNat, 7, 8), (h.toNat, 5, 16)] = some v ∧ s.injectRefusal (BitVec.ofNat 32 v) = none)
    ∧ (∃ (s : State), s.running = true ∧ s.recovery = false ∧ s.monBusy = false ∧ s.mon.fill ≤ 60000 * 10000000000)
    ∧ (∃ (s : State), s.running = true ∧ s.recovery = false ∧ s.monBusy = false ∧ s.lc ≠ 4 ∧ s.mon.fill ≤ 60000 * 10000000000)
    ∧ (∃ (s : State) (g : List Byte), s.running = true ∧ s.recovery = false ∧ s.monBusy = false ∧ s.lc ≠ 4 ∧ g.length = 64 ∧ s.mon.barred = false)
    ∧ (∃ (s : State), s.running = true ∧ s.recovery = false ∧ s.monBusy = false ∧ s.lc ≠ 4 ∧ s.mon.fill ≤ 60000 * 10000000000 ∧ s.rd Reg.CMD_MON_STAT_UNLOCKED = 1)
    ∧ (∃ (s : State), s.running = true ∧ s.rd Reg.CMD_MON_STAT_UNLOCKED = 1 ∧ s.agoNs s.mon.lastLine (idleLimitS * 1000000000) = true)
    ∧ (∃ (s : State), s.running = true ∧ s.recovery = false ∧ s.mon.fill ≤ 60000 * 10000000000 ∧ (s.monBusy = true ∨ s.lc = 4))
    ∧ (∃ (s : State), s.running = true ∧ s.agoNs s.mon.barAt 60000000000 = true)
    ∧ (∃ (s : State), s.running = true)
    ∧ (∃ (s : State), s.running = true)
    ∧ (∃ (s : State), s.running = true) :=
  ⟨⟨up, 0x17BFFFE0, 32, 0, by decide +kernel, by decide +kernel, by decide +kernel, by decide +kernel⟩,
   ⟨up, 0, 3, 0, [], by decide +kernel, by decide +kernel, by decide +kernel, by decide +kernel⟩,
   ⟨up, 49, 0, 9900, 49 + 9900 * 65536, by decide +kernel, by decide +kernel, by decide +kernel, by decide +kernel⟩,
   ⟨(puts up [(Reg.ROUTE_CFG_EN 23, 1), (Reg.ROUTE_CFG_CELL_COUNT 23, 1), (Reg.ROUTE_CFG_FIRST_INDEX 23, 511), (Reg.ROUTE_RUN_REACH_OUT 23, 1)]), 46, 0, 0, 0, 46, by decide +kernel, by decide +kernel, by decide +kernel, by decide +kernel⟩,
   ⟨up, by decide +kernel, by decide +kernel, by decide +kernel, by decide +kernel⟩,
   ⟨up, by decide +kernel, by decide +kernel, by decide +kernel, by decide +kernel⟩,
   ⟨up, List.replicate 64 0, by decide +kernel, by decide +kernel, by decide +kernel, by decide +kernel⟩,
   ⟨up.wr Reg.CMD_MON_STAT_UNLOCKED 1, by decide +kernel, by decide +kernel, by decide +kernel, by decide +kernel⟩,
   ⟨(aged (up.wr Reg.CMD_MON_STAT_UNLOCKED 1)), by decide +kernel, by decide +kernel, by decide +kernel⟩,
   ⟨up.wr Reg.LC_STATE_STATE 4, by decide +kernel, by decide +kernel, by decide +kernel, by decide +kernel⟩,
   ⟨(aged up), by decide +kernel, by decide +kernel⟩,
   ⟨up, by decide +kernel⟩,
   ⟨up, by decide +kernel⟩,
   ⟨up, by decide +kernel⟩⟩

theorem witness_shadow_sets :
    (∃ (s : State) (r : Req) (a : Word) (d : List Byte) (l : List (Nat × Nat)), Ready s r Verb.SET ∧ 4 ≤ d.length ∧ d.length ≤ 1400 ∧ d.length % 4 = 0 ∧ a.toNat < memBase ∧ objectsIn 351 a.toNat (a.toNat + d.length) = some l ∧ (∀ p ∈ l, inSafety p.1 = false) ∧ (s.rd Reg.LC_STATE_STATE = 2 → ∀ p ∈ l, identityObject p.1 = false) ∧ (∀ p ∈ l, (s.taken r).objectRefusal p.1 p.2 (slice d (p.1 - a.toNat) p.2) = none) ∧ (∃ u, State.writeObjects (l.map (fun p => (p.1, slice d (p.1 - a.toNat) p.2))) (s.taken r) = .ok u) ∧ (s.setAfter r.session a.toNat d l).length ≤ 1024 ∧ shadowBytes (s.setAfter r.session a.toNat d l) ≤ 65536)
    ∧ (∃ (s : State) (r : Req) (a : Word) (d : List Byte) (l : List (Nat × Nat)), Ready s r Verb.SET ∧ 4 ≤ d.length ∧ d.length ≤ 1400 ∧ d.length % 4 = 0 ∧ a.toNat < memBase ∧ objectsIn 351 a.toNat (a.toNat + d.length) = some l ∧ (∀ p ∈ l, inSafety p.1 = false) ∧ (s.rd Reg.LC_STATE_STATE = 2 → ∀ p ∈ l, identityObject p.1 = false) ∧ (∀ p ∈ l, (s.taken r).objectRefusal p.1 p.2 (slice d (p.1 - a.toNat) p.2) = none) ∧ (∃ p ∈ l, objectShadowed p.1 p.2 = true) ∧ (1024 < (s.setAfter r.session a.toNat d l).length ∨ 65536 < shadowBytes (s.setAfter r.session a.toNat d l))) :=
  ⟨⟨host, rq, 0x08000100, ((wordsOf 0x08000100 44).map (fun w => beBytes 4 (host.word w).toNat)).flatten, [(0x08000100, 44)], by unfold Ready; decide +kernel, by decide +kernel, by decide +kernel, by decide +kernel, by decide +kernel, by decide +kernel, by decide +kernel, by decide +kernel, by decide +kernel, isOk_of (by decide +kernel), by decide +kernel, by decide +kernel⟩,
   ⟨{ host with ses := (host.setSess 0 { host.sess 0 with shadow := (List.range 1024).map (fun k => (k, [])) }).ses }, rq, 0x08000100, ((wordsOf 0x08000100 44).map (fun w => beBytes 4 (host.word w).toNat)).flatten, [(0x08000100, 44)], by unfold Ready; decide +kernel, by decide +kernel, by decide +kernel, by decide +kernel, by decide +kernel⟩⟩

theorem witness_accepted_levels :
    (∃ (s : State) (i : Fin 8) (l : List CycleIn), s.isl.started = true ∧ 4 ≤ l.length)
    ∧ (∃ (s : State) (i : Fin 8) (l : List CycleIn), s.isl.started = true ∧ 4 ≤ l.length)
    ∧ (∃ (s : State) (i : Fin 8) (l : List CycleIn), s.isl.started = true ∧ (s.pair i).na = 0)
    ∧ (∃ (s : State) (i : Fin 8) (l : List CycleIn), s.isl.started = true ∧ (s.pair i).nb = 0) :=
  ⟨⟨safe, 7, List.replicate 4 (cycleOf .on .off true), by decide +kernel, by decide +kernel⟩,
   ⟨safe, 7, List.replicate 4 (cycleOf .off .on true), by decide +kernel, by decide +kernel⟩,
   ⟨safe, 7, List.replicate 5 (cycleOf .between .off true), by decide +kernel, by decide +kernel⟩,
   ⟨safe, 7, List.replicate 5 (cycleOf .off .between true), by decide +kernel, by decide +kernel⟩⟩

theorem witness_step_takes_the_front_command :
    (∃ (c : Instr) (l : List Instr) (s : State), s.pending = c :: l) ∧ (∃ s : State, s.pending = []) :=
  ⟨⟨.vgdRise, [.vinOff], { up with pending := [.vgdRise, .vinOff] }, rfl⟩, ⟨up, rfl⟩⟩

/-- A packet with its fields at their largest values. -/
def widest : Packet :=
  { head := { session := 3, seq := 2 ^ 32 - 1, verb := Verb.SET, mood := 2, base := 3, flags := 14 }, version := 1, rest9 := 0,
    due := 2 ^ 64 - 1, addr := 2 ^ 32 - 1, payload := List.replicate 1400 255 }

theorem witness_packets_round_trip :
    ∃ p : Packet, p.version = 1 ∧ p.head.session < 4 ∧ p.head.seq < 2 ^ 32 ∧ p.head.verb < 256 ∧ p.head.mood < 4 ∧ p.head.base < 4
      ∧ p.head.flags < 16 ∧ p.head.flags % 2 = 0 ∧ p.rest9 = 0 ∧ p.payload.length ≤ 1400 ∧ p.addr < 2 ^ 32 ∧ p.due < 2 ^ 64
      ∧ (p.due ≠ 0 → p.head.mood = 2) ∧ (p.addr ≠ 0 → p.head.verb = Verb.GET ∨ p.head.verb = Verb.SET) :=
  ⟨widest, by decide +kernel⟩

theorem witness_steps_keep_the_canonical_forms :
    ∃ s t : State, Memory.wf s.mem = true ∧ Words.wf s.regs = true ∧ step s = .next t :=
  ⟨{ host with mem := [(0x10000000, 5), (0x17FFFFFF, 255)], pending := [.vgdRise] }, _, by decide +kernel, by decide +kernel, rfl⟩

/-- The same on a small packet: its bytes pass, and a bit flipped in them fails the check code. -/
theorem test_packet_round_trip :
    let p : Packet := { widest with payload := [1, 2, 3] }
    receive p.bytes = .passed p ∧ receive (p.bytes.set 30 0) ≠ .passed p := by
  decide +kernel

end Sys2Proof.Tests
end

section
/-! SUPPORT. Every operation of the model keeps memory and registers in their canonical forms: one lemma per operation, in the order of the
model's files, and from them that every step does. The idea: registers change through `setWord` and by dropping words alone, memory through
`store` and by dropping bytes alone; every other update leaves both as they are. A proof names the operations of the definition's body from the
last to the first. -/

namespace Sys2Proof.Machine

open Sys2Proof

/-! ### The form, and what keeps it -/

/-- `State.canon` as a structure, so that unification compares states and never looks into the form. -/
structure State.Canonical (s : State) : Prop where
  mem : Memory.wf s.mem = true
  regs : Words.wf s.regs = true

/-- An action's answer leaves a state in canonical form. -/
structure VRes.Canonical (r : VRes) : Prop where
  st : r.st.Canonical

/-- The next state, where there is one, is in canonical form. -/
structure Res.Canonical (r : Res) : Prop where
  of_next : ∀ t, r = .next t → t.Canonical

/-- A write that is not refused leaves a state in canonical form. -/
def OkCanonical (r : Except Nat State) : Prop := ∀ t, r = .ok t → t.Canonical

namespace State.Canonical

theorem of_canon {s : State} (h : s.canon) : s.Canonical := ⟨h.1, h.2⟩

section

variable {s : State}

theorem canon (h : s.Canonical) : s.canon := ⟨h.mem, h.regs⟩

/-- An update of other fields than `mem` and `regs`. -/
theorem keep {power flash sto clk ses canRx canTx mon lastCommit turn seen seenOld flt duo mod drv meas therm isl net atB cells link loop pol out
    free pending} (h : s.Canonical) :
    State.Canonical { regs := s.regs, mem := s.mem, power := power, flash := flash, sto := sto, clk := clk, ses := ses, canRx := canRx,
                      canTx := canTx, mon := mon, lastCommit := lastCommit, turn := turn, seen := seen, seenOld := seenOld, flt := flt, duo := duo,
                      mod := mod, drv := drv, meas := meas, therm := therm, isl := isl, net := net, atB := atB, cells := cells, link := link,
                      loop := loop, pol := pol, out := out, free := free, pending := pending } := ⟨h.mem, h.regs⟩

theorem setWord {a w} (h : s.Canonical) : (s.setWord a w).Canonical := of_canon (h.canon.setWord a w)
theorem wr {f v} (h : s.Canonical) : (s.wr f v).Canonical := of_canon (h.canon.wr f v)
theorem wrB {f b} (h : s.Canonical) : (s.wrB f b).Canonical := of_canon (h.canon.wrB f b)
theorem wrS {f v} (h : s.Canonical) : (s.wrS f v).Canonical := of_canon (h.canon.wrS f v)
theorem wrSat {f v} (h : s.Canonical) : (s.wrSat f v).Canonical := of_canon (h.canon.wrSat f v)
theorem inc {f n} (h : s.Canonical) : (s.inc f n).Canonical := of_canon (h.canon.inc f n)
theorem store {a bs} (h : s.Canonical) : (s.store a bs).Canonical := of_canon (h.canon.store a bs)
theorem setSess {i x} (h : s.Canonical) : (s.setSess i x).Canonical := of_canon (h.canon.setSess i x)
theorem journal {c k b d m} (h : s.Canonical) : (s.journal c k b d m).Canonical := of_canon (h.canon.journal c k b d m)
theorem event {c b d} (h : s.Canonical) : (s.event c b d).Canonical := of_canon (h.canon.event c b d)
theorem raise {c k b d m} (h : s.Canonical) : (s.raise c k b d m).Canonical := of_canon (h.canon.raise c k b d m)
theorem takeFree (h : s.Canonical) : s.takeFree.2.Canonical := .keep h

end

theorem ite {c : Prop} [Decidable c] {a b : State} (ha : a.Canonical) (hb : b.Canonical) : (if c then a else b).Canonical := by
  split <;> assumption

theorem dite {c : Prop} [Decidable c] {a : c → State} {b : ¬c → State} (ha : ∀ hc, (a hc).Canonical) (hb : ∀ hc, (b hc).Canonical) :
    (if hc : c then a hc else b hc).Canonical := by
  split
  · exact ha _
  · exact hb _

/-- A conditional whose first branch goes on from the second. -/
theorem when {c : Prop} [Decidable c] {a b : State} (hb : b.Canonical) (ha : b.Canonical → a.Canonical) : (if c then a else b).Canonical :=
  .ite (ha hb) hb

/-- A conditional whose second branch goes on from the first. -/
theorem orElse {c : Prop} [Decidable c] {a b : State} (ha : a.Canonical) (hb : a.Canonical → b.Canonical) : (if c then a else b).Canonical :=
  .ite ha (hb ha)

theorem fstIte {α : Type} {c : Prop} [Decidable c] {a b : State × α} (ha : a.1.Canonical) (hb : b.1.Canonical) :
    (if c then a else b).1.Canonical := by
  split <;> assumption

theorem sndIte {α : Type} {c : Prop} [Decidable c] {a b : α × State} (ha : a.2.Canonical) (hb : b.2.Canonical) :
    (if c then a else b).2.Canonical := by
  split <;> assumption

theorem foldl {α : Type} {f : State → α → State} {l : List α} (hf : ∀ t x, t.Canonical → (f t x).Canonical) {s : State} (h : s.Canonical) :
    (l.foldl f s).Canonical :=
  of_canon (State.canon.foldl (fun t x ht => (hf t x (of_canon ht)).canon) l h.canon)

theorem st {r : VRes} (h : r.Canonical) : r.st.Canonical := h.st

end State.Canonical

namespace VRes.Canonical

/-- An answer with a state that is in canonical form. -/
theorem res {status payload hold stage} {s : State} (h : s.Canonical) :
    VRes.Canonical { status := status, payload := payload, st := s, hold := hold, stage := stage } := ⟨h⟩

theorem ite {c : Prop} [Decidable c] {a b : VRes} (ha : a.Canonical) (hb : b.Canonical) : (if c then a else b).Canonical := by
  split <;> assumption

theorem when {c : Prop} [Decidable c] {a b : VRes} (hb : b.Canonical) (ha : b.Canonical → a.Canonical) : (if c then a else b).Canonical :=
  .ite (ha hb) hb

theorem orElse {c : Prop} [Decidable c] {a b : VRes} (ha : a.Canonical) (hb : a.Canonical → b.Canonical) : (if c then a else b).Canonical :=
  .ite ha (hb ha)

end VRes.Canonical

namespace Res.Canonical

theorem next {s : State} (h : s.Canonical) : Res.Canonical (.next s) := ⟨fun _ e => Host.Outcome.next.inj e ▸ h⟩

theorem ite {c : Prop} [Decidable c] {a b : Res} (ha : a.Canonical) (hb : b.Canonical) : Res.Canonical (if c then a else b) := by
  split <;> assumption

section

variable {s : State} (h : s.Canonical) {f : State → State} (hf : ∀ t, t.Canonical → (f t).Canonical)
include h hf

theorem always : (always s f).Canonical := .next (hf _ (.keep h))
theorem onRun : (onRun s f).Canonical := .next (.when (.keep h) fun h => hf _ h)
theorem onPower : (onPower s f).Canonical :=
  .always h fun _ h => .ite (hf _ h) h

end

end Res.Canonical

variable {s : State}

/-! ### Regs -/

theorem State.Canonical.see {f} (h : s.Canonical) : (s.see f).Canonical := .keep <| .wr h

/-! ### Ops -/

theorem State.Canonical.setStage {k} (h : s.Canonical) : (s.setStage k).Canonical := .wr <| .wr h
theorem State.Canonical.setTime {b u} (h : s.Canonical) : (s.setTime b u).Canonical := .wr <| .wr <| .wr <| .wr h
theorem State.Canonical.stampBase {b} (h : s.Canonical) : (s.stampBase b).Canonical := .foldl (fun _ _ => .setWord) h
theorem State.Canonical.stampStage (h : s.Canonical) : s.stampStage.Canonical := .foldl (fun _ _ => .stampBase) <| .wr <| .wr h

theorem State.Canonical.writeEntry {e} (h : s.Canonical) : (s.writeEntry e).Canonical :=
  .wr <| .keep <| .orElse (.when (.store h) fun h => .wr <| .inc h) .wr

theorem State.Canonical.writeQueued (h : s.Canonical) : s.writeQueued.Canonical := .wr <| .foldl (fun _ _ => .writeEntry) <| .keep h
theorem State.Canonical.raiseEach {code cls subject data} (h : s.Canonical) : (s.raiseEach code cls subject data).Canonical := .keep h
theorem State.Canonical.askTrigger (h : s.Canonical) : s.askTrigger.Canonical := .keep h
theorem State.Canonical.put {o} (h : s.Canonical) : (s.put o).Canonical := .keep h

/-! ### Mirror -/

theorem State.Canonical.mirrorBytes {session bs} (h : s.Canonical) : (s.mirrorBytes session bs).Canonical := .ite (.keep h) h
theorem State.Canonical.mirrorCmd {i hd m c} (h : s.Canonical) : (s.mirrorCmd i hd m c).Canonical := .ite (.keep h) h

/-! ### Time -/

theorem State.Canonical.later {elapsed} (h : s.Canonical) : (s.later elapsed).Canonical := .setTime <| .setTime <| .setTime <| .setTime h

/-! ### Session -/

theorem State.Canonical.monPut {line} (h : s.Canonical) : (s.monPut line).Canonical := .ite (.inc h) <| .put <| .keep h
theorem State.Canonical.queueReply {c r} (h : s.Canonical) : (s.queueReply c r).Canonical := .keep h
theorem State.Canonical.nextReply {c} (h : s.Canonical) : (s.nextReply c).Canonical := .keep h

theorem State.Canonical.sendReply {dst r mirrored} (h : s.Canonical) : (s.sendReply dst r mirrored).Canonical := by
  refine .ite h ?_
  split
  · exact .monPut h
  · exact .queueReply <| .put h
  · exact .queueReply <| .put h
  · exact .when (.put h) .inc
  · exact .when (.put h) .inc

theorem State.Canonical.refusePacket {dst hd status credit} (h : s.Canonical) : (s.refusePacket dst hd status credit).Canonical :=
  .sendReply h

theorem State.Canonical.complete {i hd status payload stage mirrored} (h : s.Canonical) :
    (s.complete i hd status payload stage mirrored).Canonical :=
  .sendReply <| .setSess <| .wr h

theorem State.Canonical.drainRefused {n i} {s : State} (h : s.Canonical) : (State.drainRefused n i s).Canonical := by
  induction n generalizing s with
  | zero => exact h
  | succ n ih =>
    unfold State.drainRefused
    refine .ite h ?_
    split
    · exact ih (.complete (.setSess h))
    · exact h

theorem State.Canonical.finish {i hd status payload stage mirrored} (h : s.Canonical) :
    (s.finish i hd status payload stage mirrored).Canonical :=
  .drainRefused <| .complete h

theorem State.Canonical.orphanReply {p status payload} (h : s.Canonical) : (s.orphanReply p status payload).Canonical := .sendReply h

theorem State.Canonical.endOrphan {i f status payload} (h : s.Canonical) : (s.endOrphan i f status payload).Canonical := by
  unfold State.endOrphan
  dsimp only
  split
  · exact .orphanReply <| .setSess h
  · exact h

theorem State.Canonical.endBusy {i op status payload} (h : s.Canonical) : (s.endBusy i op status payload).Canonical := by
  unfold State.endBusy
  dsimp only
  split
  · exact .ite (.finish <| .setSess h) <| .endOrphan h
  · exact .endOrphan h

theorem State.Canonical.endOpsOf {f status payload i} (h : s.Canonical) : (State.endOpsOf f status payload s i).Canonical := by
  unfold State.endOpsOf
  dsimp only
  split
  · exact .when (.foldl (fun _ _ => .endOrphan) h) fun h => .finish <| .setSess h
  · exact .foldl (fun _ _ => .endOrphan) h

theorem State.Canonical.endOps {f status payload} (h : s.Canonical) : (s.endOps f status payload).Canonical :=
  .foldl (fun _ _ => .endOpsOf) h

theorem VRes.Canonical.no {status} (h : s.Canonical) : (s.no status).Canonical := .res h
theorem VRes.Canonical.ok {payload} (h : s.Canonical) : (s.ok payload).Canonical := .res h
theorem VRes.Canonical.okNext {payload} (h : s.Canonical) : (s.okNext payload).Canonical := .res h
theorem VRes.Canonical.wait {op stage} (h : s.Canonical) : (s.wait op stage).Canonical := .res h

theorem State.Canonical.settle {i hd mirrored} {r : VRes} (h : r.Canonical) : (State.settle i hd mirrored r).Canonical := by
  unfold State.settle
  split
  · exact .setSess <| .st h
  · exact .finish <| .st h

theorem State.Canonical.runAsk {i hd mirrored read} {r : VRes} (h : s.Canonical) (h1 : r.Canonical) :
    (s.runAsk i hd mirrored read r).Canonical := by
  unfold State.runAsk
  split
  · exact .settle <| .res h
  · exact .finish <| .st h1
  · exact .finish h
  · exact .finish h

theorem State.Canonical.condWord {a} {s : State} (h : s.Canonical) : (s.condWord a).1.Canonical := .fstIte (.takeFree h) h

theorem State.Canonical.runMood {i hd cmd m mirrored read act} (h : s.Canonical) (ha : ∀ s, s.Canonical → (act s).Canonical) :
    (s.runMood i hd cmd m mirrored read act).Canonical := by
  refine .ite (.finish h) <| .ite (.finish h) <| .ite (.finish h) <| .ite (.finish h) ?_
  split
  · exact .runAsk h <| ha _ h
  · exact .settle <| ha _ h
  · split
    · exact .finish h
    · exact .ite (.settle <| ha _ (.condWord h)) <| .finish <| .condWord h
  · split
    · exact .finish h
    · exact .setSess h

theorem State.Canonical.countAccepted {i} (h : s.Canonical) : (s.countAccepted i).Canonical := .inc <| .setSess h
theorem State.Canonical.addWaiting {i seq w} (h : s.Canonical) : (s.addWaiting i seq w).Canonical := .setSess h

theorem State.Canonical.queueBehind {i r verb flags cmd} (h : s.Canonical) : (s.queueBehind i r verb flags cmd).Canonical := by
  unfold State.queueBehind
  split
  · exact .mirrorCmd <| .addWaiting <| .countAccepted h
  · exact .inc <| .refusePacket h

theorem State.Canonical.runVerb {r verb flags read cmd act} (h : s.Canonical) (ha : ∀ s, s.Canonical → (act s).Canonical) :
    (s.runVerb r verb flags read cmd act).Canonical := by
  refine .ite (.refusePacket h) <| .orElse (.queueBehind h) fun h' => ?_
  split
  · split
    · exact .ite (.ite (.runMood (.keep <| .setSess h) ha) h) h'
    · exact h'
  · exact .mirrorCmd <| .runMood (.keep <| .countAccepted h) ha

theorem Res.Canonical.execVerb {r verb flags read cmd act} (h : s.Canonical) (ha : ∀ s, s.Canonical → (act s).Canonical) :
    (execVerb s r verb flags read cmd act).Canonical :=
  .onRun h fun _ h => .runVerb h ha

theorem State.Canonical.openSess {i src} (h : s.Canonical) : (s.openSess i src).Canonical :=
  .wr <| .wr <| .wr <| .wr <| .wr <| .wr <| .wr <| .wr <| .setSess h

theorem State.Canonical.flushSeqs {n i status gaps} {s : State} (h : s.Canonical) : (State.flushSeqs n i status gaps s).Canonical := by
  induction n generalizing s with
  | zero => exact h
  | succ n ih =>
    unfold State.flushSeqs
    dsimp only
    split
    · exact ih (.complete (.setSess h))
    · exact ih (.complete (.setSess h))
    · exact .ite h <| .ite (ih (.complete h)) (ih (.wr h))

theorem State.Canonical.closeSess {i} (h : s.Canonical) : (s.closeSess i).Canonical := by
  refine .ite h <| .wr <| .setSess <| .when (.flushSeqs ?_) .keep
  split
  · refine .wr <| .setSess ?_
    split
    · exact .complete <| .setSess h
    · exact h
  · split
    · exact .complete <| .setSess h
    · exact h

/-! ### Access -/

theorem State.Canonical.commitObject {p} (h : s.Canonical) : (s.commitObject p).Canonical := .foldl (fun _ _ => .setWord) h
theorem State.Canonical.commitSet {sh} (h : s.Canonical) : (s.commitSet sh).Canonical := .foldl (fun _ _ => .commitObject) h
theorem State.Canonical.wipe (h : s.Canonical) : s.wipe.Canonical := .keep <| .wrB <| .wr <| .inc h

theorem State.Canonical.eccHit {e} (h : s.Canonical) : (s.eccHit e).Canonical :=
  .ite (.ite (.raiseEach <| .inc <| .wr <| .wr <| .wr h) <| .ite (.ite (.journal <| .inc <| .wr <| .wr <| .wr h) <| .raise <| .inc <|
    .wr <| .wr <| .wr h) <| .raiseEach <| .wipe <| .inc <| .wr <| .wr <| .wr h) <| .orElse (.inc <| .wr <| .wr <| .wr h) .keep

theorem VRes.Canonical.okRead {hits payload} (h : s.Canonical) : (s.okRead hits payload).Canonical :=
  .res <| .st <| .ok <| .foldl (fun _ _ => .eccHit) h

theorem VRes.Canonical.actGet {i shadow addr len elapsed ecc} (h : s.Canonical) : (actGet i shadow addr len elapsed ecc s).Canonical := by
  refine .ite (.no h) <| .ite (.ite (.no h) <| .ite (.no h) <| .okRead h) ?_
  split
  · exact .no h
  · exact .ok h

/-! ### CmdPath -/

theorem State.Canonical.countNotPacket {p} (h : s.Canonical) : (s.countNotPacket p).Canonical := .inc h

theorem State.Canonical.refuseReceived {src hd status} (h : s.Canonical) : (s.refuseReceived src hd status).Canonical :=
  .refusePacket <| .ite (.inc h) h

theorem State.Canonical.takeOpen {src hd payload} (h : s.Canonical) : (s.takeOpen src hd payload).Canonical :=
  .ite (.refusePacket h) <| .sendReply <| .mirrorBytes <| .openSess <| .closeSess h

theorem State.Canonical.takeSequenced {src p} (h : s.Canonical) : (s.takeSequenced src p).Canonical := by
  refine .ite (.ite (.inc <| .setSess h) <| .drainRefused <| .addWaiting <| .mirrorBytes <| .countAccepted h) <| .ite (.inc <|
    .refusePacket <| .setSess h) ?_
  split
  · exact .sendReply <| .setSess h
  · exact .refusePacket <| .setSess h

theorem State.Canonical.takePacket {src p} (h : s.Canonical) : (s.takePacket src p).Canonical :=
  .ite (.ite (.refusePacket h) <| .ite (.refusePacket h) <| .takeOpen h) <| .ite (.refusePacket h) <| .takeSequenced h

theorem State.Canonical.takeBytes {src bs} (h : s.Canonical) : (s.takeBytes src bs).Canonical := by
  unfold State.takeBytes
  split
  · exact .countNotPacket h
  · exact .refuseReceived h
  · exact .takePacket h

theorem Res.Canonical.execUdpDatagram {port srcIp srcPort unfit bytes} (h : s.Canonical) :
    (execUdpDatagram port srcIp srcPort unfit bytes s).Canonical :=
  .onRun h fun _ h => .ite h <| .ite (.countNotPacket h) <| .takeBytes h

theorem State.Canonical.takeRun {c before last short} (h : s.Canonical) : (s.takeRun c before last short).Canonical :=
  .ite (.takeBytes h) <| .ite (.countNotPacket h) <| .refuseReceived h

theorem State.Canonical.setAsm {c a} (h : s.Canonical) : (s.setAsm c a).Canonical := .keep h
theorem State.Canonical.dropRun {c last} (h : s.Canonical) : (s.dropRun c last).Canonical := .setAsm h

theorem State.Canonical.takeSegment {c a ix last data} (h : s.Canonical) : (s.takeSegment c a ix last data).Canonical :=
  .ite (.takeRun <| .setAsm h) <| .ite (.countNotPacket <| .dropRun h) <| .setAsm h

theorem Res.Canonical.execCanCmdSegment {c bytes} (h : s.Canonical) : (execCanCmdSegment c bytes s).Canonical := by
  refine .onRun h fun _ h => .ite h <| .ite (.ite (.takeSegment <| .setAsm <| .ite (.countNotPacket h) h) <| .countNotPacket <|
    .dropRun <| .ite (.countNotPacket h) h) ?_
  split
  · exact .countNotPacket <| .dropRun h
  · exact .orElse (.dropRun h) fun h' => .ite (.takeSegment h) <| .countNotPacket h'

theorem Res.Canonical.execCanSegmentTimeout {c} (h : s.Canonical) : (execCanSegmentTimeout c s).Canonical := by
  refine .onRun h fun _ h => ?_
  split
  · exact .ite h <| .orElse (.setAsm h) .countNotPacket
  · exact h

theorem Res.Canonical.execCanReplyAbandon {c} (h : s.Canonical) : (execCanReplyAbandon c s).Canonical := by
  refine .onRun h fun _ h => ?_
  split
  · exact h
  · exact .ite h <| .inc <| .nextReply h

theorem Res.Canonical.execSessionOpen {i src payload} (h : s.Canonical) : (execSessionOpen i src payload s).Canonical :=
  .onRun h fun _ h => .ite (.takeOpen h) h

theorem State.Canonical.runClose {i hd payload mirrored} (h : s.Canonical) : (s.runClose i hd payload mirrored).Canonical :=
  .closeSess <| .complete h

theorem Res.Canonical.execSessionClose {r payload} (h : s.Canonical) : (execSessionClose r payload s).Canonical := by
  refine .onRun h fun _ h => .ite (.refusePacket h) <| .orElse (.queueBehind h) fun h' => ?_
  dsimp only
  split
  · exact .ite (.ite (.ite (.runClose <| .keep <| .setSess h) <| .finish <| .keep <| .setSess h) h) <| .queueBehind h
  · exact h'
  · exact .mirrorCmd <| .ite (.runClose <| .keep <| .countAccepted h) <| .finish <| .keep <| .countAccepted h

theorem Res.Canonical.execSessionIdleTimeout {i} (h : s.Canonical) : (execSessionIdleTimeout i s).Canonical :=
  .onRun h fun _ h => .ite (.closeSess h) h

theorem Res.Canonical.execSequenceGapTimeout {i} (h : s.Canonical) : (execSequenceGapTimeout i s).Canonical :=
  .onRun h fun _ h => .ite (.setSess <| .flushSeqs <| .inc h) h

theorem Res.Canonical.execProgressReply {i permille} (h : s.Canonical) : (execProgressReply i permille s).Canonical := by
  refine .onRun h fun _ h => ?_
  dsimp only
  split
  · exact .sendReply h
  · exact h

/-! ### Gate -/

theorem State.Canonical.gatesOff (h : s.Canonical) : s.gatesOff.Canonical := .keep h
theorem State.Canonical.placeEdges (h : s.Canonical) : s.placeEdges.Canonical := .keep h

/-! ### Modulate -/

theorem State.Canonical.setCell {c r} (h : s.Canonical) : (s.setCell c r).Canonical := .keep h
theorem State.Canonical.countEdges {g n} (h : s.Canonical) : (s.countEdges g n).Canonical := .inc <| .inc <| .inc <| .inc h

theorem State.Canonical.takeCellStage {c mode bypass ilim z} (h : s.Canonical) : (s.takeCellStage c mode bypass ilim z).Canonical := by
  refine .foldl (fun _ _ h => ?_) <| .inc <| .inc <| .wrB <| .wrB <| .setCell h
  split
  · exact .countEdges h
  · exact h

theorem State.Canonical.driveSet {k gates m brake} {s : State} (h : s.Canonical) : (s.driveSet k gates m brake).2.Canonical :=
  .sndIte (.keep h) <| .countEdges <| .countEdges <| .keep h

/-! ### Station -/

theorem State.Canonical.wrF {f q} (h : s.Canonical) : (s.wrF f q).Canonical := .wr h
theorem State.Canonical.setSvc {c st} (h : s.Canonical) : (s.setSvc c st).Canonical := .ite h <| .wr <| .wr h
theorem State.Canonical.unrank {c} (h : s.Canonical) : (s.unrank c).Canonical := .wr <| .wr <| .wr h

theorem State.Canonical.rankFrom {n j l} {s : State} (h : s.Canonical) : (s.rankFrom n j l).Canonical := by
  induction l generalizing s j with
  | nil => exact h
  | cons c l ih => exact ih (.wr <| .wr <| .wr h)

theorem State.Canonical.rankArm {a l} (h : s.Canonical) : (s.rankArm a l).Canonical := .wr <| .rankFrom <| .foldl (fun _ _ => .unrank) h
theorem State.Canonical.rerank {a} (h : s.Canonical) : (s.rerank a).Canonical := .rankArm h
theorem State.Canonical.slotManual {n out} (h : s.Canonical) : (s.slotManual n out).Canonical := .wr <| .wr h
theorem State.Canonical.slotAuto {n} (h : s.Canonical) : (s.slotAuto n).Canonical := .ite h <| .wr <| .wr <| .wr h
theorem State.Canonical.slotsManual {l} (h : s.Canonical) : (s.slotsManual l).Canonical := .foldl (fun _ _ => .slotManual) h
theorem State.Canonical.stopArm1 {a} (h : s.Canonical) : (s.stopArm1 a).Canonical := .slotsManual <| .wr <| .wr h

theorem State.Canonical.stopGroup {a} (h : s.Canonical) : (s.stopGroup a).Canonical :=
  .ite h <| .when (.foldl (fun _ _ => .stopArm1) h) .raise

theorem State.Canonical.driveTo {st} (h : s.Canonical) : (s.driveTo st).Canonical := .ite h <| .event <| .wr <| .ite (.gatesOff h) h
theorem State.Canonical.driveStop (h : s.Canonical) : s.driveStop.Canonical := .ite (.keep <| .driveTo h) <| .ite (.driveTo h) h
theorem State.Canonical.driveOff (h : s.Canonical) : s.driveOff.Canonical := .ite (.wr <| .slotsManual <| .driveTo h) h
theorem State.Canonical.latchTrip {code} (h : s.Canonical) : (s.latchTrip code).Canonical := .ite (.orElse (.gatesOff h) .keep) h

theorem State.Canonical.entry {old st} (h : s.Canonical) : (s.entry old st).Canonical :=
  .ite (.foldl (fun _ _ h => .ite (.wr h) h) <| .keep <| .orElse (.wr h) .wr) <| .ite (.slotsManual <| .wr <| .wr <| .driveOff <|
    .keep <| .orElse (.wr h) .wr) <| .ite (.wr <| .wr <| .keep <| .orElse (.wr h) .wr) <| .when (.keep <| .orElse (.wr h) .wr) .keep

theorem State.Canonical.enter {st cause} (h : s.Canonical) : (s.enter st cause).Canonical :=
  .entry <| .event <| .wr <| .keep <| .wr <| .wr <| .wr h

theorem State.Canonical.goTo {st cause} (h : s.Canonical) : (s.goTo st cause).Canonical := .keep h
theorem State.Canonical.adapt {mechanism subject data} (h : s.Canonical) : (s.adapt mechanism subject data).Canonical := .event h

/-! ### Levels -/

theorem State.Canonical.stepCell {c d} (h : s.Canonical) : (s.stepCell c d).Canonical :=
  .orElse (.setCell h) fun h => .adapt <| .ite (.inc <| .wr <| .wr h) <| .inc <| .wr <| .wr h

theorem State.Canonical.cellThermal {c} (h : s.Canonical) : (s.cellThermal c).Canonical :=
  .orElse (.when (.wrS <| .wr <| .wr <| .wr <| .setCell h) .see) .stepCell

/-! ### Frame -/

theorem State.Canonical.setRoute {n r} (h : s.Canonical) : (s.setRoute n r).Canonical :=
  .dite (fun _ => .keep h) fun _ => h

/-! ### Train -/

theorem State.Canonical.endParcel {c status payload} (h : s.Canonical) : (s.endParcel c status payload).Canonical := by
  unfold State.endParcel
  split
  · exact h
  · dsimp only
    split
    · exact .endBusy <| .ite (.inc <| .wr <| .keep h) <| .when (.wr <| .keep h) .inc
    · exact .ite (.inc <| .wr <| .keep h) <| .when (.wr <| .keep h) .inc

theorem State.Canonical.powerDown {l} (h : s.Canonical) : (s.powerDown l).Canonical :=
  .wr <| .wr <| .wr <| .wr <| .wr <| .wr <| .ite (.inc <| .see h) h

theorem State.Canonical.useEnds {n} (h : s.Canonical) : (s.useEnds n).Canonical := .foldl (fun _ _ h => .ite (.wr h) <| .powerDown h) h
theorem State.Canonical.usePair (h : s.Canonical) : s.usePair.Canonical := .foldl (fun _ _ h => .ite (.wr h) <| .powerDown h) h
theorem State.Canonical.endStep1 {n} (h : s.Canonical) : (s.endStep1 n).Canonical := .ite (.setRoute h) h
theorem State.Canonical.noReach {n} (h : s.Canonical) : (s.noReach n).Canonical := .ite h <| .wr <| .wr <| .wr <| .wr h

theorem State.Canonical.startQuiet {n} (h : s.Canonical) : (s.startQuiet n).Canonical :=
  .ite h <| .endStep1 <| .noReach <| .wr <| .useEnds <| .setRoute h

theorem State.Canonical.startLive {n} (h : s.Canonical) : (s.startLive n).Canonical := .ite h <| .useEnds <| .setRoute h
theorem State.Canonical.startTraining {n} (h : s.Canonical) : (s.startTraining n).Canonical := .ite (.startLive h) <| .startQuiet h

theorem Res.Canonical.execQuietTraining {n} (h : s.Canonical) : (execQuietTraining n s).Canonical :=
  .onRun h fun _ h => .ite h <| .startQuiet h

theorem Res.Canonical.execLiveTraining {n} (h : s.Canonical) : (execLiveTraining n s).Canonical := .onRun h fun _ h => .ite (.startLive h) h
theorem State.Canonical.leaveLaneRef (h : s.Canonical) : s.leaveLaneRef.Canonical := .wr <| .keep <| .takeFree h

theorem State.Canonical.lockLost {l} (h : s.Canonical) : (s.lockLost l).Canonical := by
  refine .ite h <| .ite ?_ <| .when (.inc <| .see <| .wr <| .wr h) fun h => .ite (.wr h) <| .leaveLaneRef h
  dsimp only
  split
  · exact .startQuiet <| .inc <| .see <| .wr <| .wr h
  · exact .startLive <| .inc <| .see <| .wr <| .wr h
  · exact .when (.inc <| .see <| .wr <| .wr h) .setRoute

theorem Res.Canonical.execLinkLos {l} (h : s.Canonical) : (execLinkLos l s).Canonical := .onRun h fun _ h => .lockLost <| .see <| .wr h

theorem Res.Canonical.execLinkBlockLockLoss {l invalid} (h : s.Canonical) : (execLinkBlockLockLoss l invalid s).Canonical :=
  .onRun h fun _ h => .lockLost <| .wr <| .inc h

theorem State.Canonical.endLocks {n ret wasDown} (h : s.Canonical) : (s.endLocks n ret wasDown).Canonical :=
  .ite (.startTraining <| .setRoute h) <| .endStep1 <| .setRoute h

theorem Res.Canonical.execLinkLocked {l} (h : s.Canonical) : (execLinkLocked l s).Canonical :=
  .onRun h fun _ h => .when (.wr <| .wr <| .wr <| .wr h) .endLocks

theorem State.Canonical.partnerLocks {mask} (h : s.Canonical) : (s.partnerLocks mask).Canonical :=
  .foldl (fun _ _ h => .ite h <| .ite (.ite h <| .startTraining h) <| .ite (.startTraining h) h) <| .keep h

theorem Res.Canonical.execLinkUp {l} (h : s.Canonical) : (execLinkUp l s).Canonical := .onRun h fun _ h => .ite (.wr h) h

theorem Res.Canonical.execTrainingLockTimeout {l} (h : s.Canonical) : (execTrainingLockTimeout l s).Canonical :=
  .onRun h fun _ h => .ite (.endStep1 <| .setRoute h) h

theorem State.Canonical.heardSlots {n ret l area} (h : s.Canonical) : (s.heardSlots n ret l area).Canonical := .when (.inc h) .setRoute

theorem State.Canonical.heardBurst {n ret b invalid} (h : s.Canonical) : (s.heardBurst n ret b invalid).Canonical :=
  .orElse (.inc h) fun h => .orElse (.inc h) fun h' => .orElse (.ite (.setRoute h) h') fun h => .ite (.heardSlots h) <|
    .ite (.heardSlots h) h

theorem State.Canonical.heardEcho {n ret block trip} (h : s.Canonical) : (s.heardEcho n ret block trip).Canonical := by
  unfold State.heardEcho
  dsimp only
  split
  · exact .ite (.setRoute h) h
  · exact h

theorem State.Canonical.heardPartner {n closed hops} (h : s.Canonical) : (s.heardPartner n closed hops).Canonical := .ite (.setRoute h) h

theorem State.Canonical.hear {x_1} (h : s.Canonical) : (s.hear x_1).Canonical := by
  unfold State.hear
  split
  · exact .heardBurst h
  · exact .ite (.heardSlots h) h
  · exact .ite (.heardEcho h) h
  · exact .heardPartner h

theorem State.Canonical.compareHop {n hd good} (h : s.Canonical) : (s.compareHop n hd good).Canonical := by
  unfold State.compareHop
  dsimp only
  split
  · exact .wr h
  · exact .ite (.wr h) <| .raise <| .wr <| .wr <| .wr h

theorem State.Canonical.decideRoute {n live} (h : s.Canonical) : (s.decideRoute n live).Canonical :=
  .orElse (.setRoute h) fun h => .foldl (fun _ _ => .compareHop) h

theorem State.Canonical.delayRoute {n live} (h : s.Canonical) : (s.delayRoute n live).Canonical :=
  .orElse (.ite (.setRoute h) h) fun h => .foldl (fun _ _ h => .wr <| .wr h) h

theorem State.Canonical.tickTraining {n} (h : s.Canonical) : (s.tickTraining n).Canonical := by
  unfold State.tickTraining
  dsimp only
  split
  · exact .ite (.decideRoute <| .setRoute h) <| .when (.setRoute h) .delayRoute
  · exact .setRoute h
  · exact h

theorem State.Canonical.foundHop {n hd good} (h : s.Canonical) : (s.foundHop n hd good).Canonical := .wrB <| .wrB <| .wr h

theorem State.Canonical.serviceOfHop {c live} (h : s.Canonical) : (s.serviceOfHop c live).Canonical :=
  .ite (.when (.setCell h) fun h => .ite (.wr <| .setSvc h) <| .setSvc h) <| .ite h <| .ite (.when (.wr <| .wr <|
    .setSvc h) .slotsManual) <| .ite h <| .when (.wr <| .setSvc h) .slotsManual

theorem State.Canonical.serve {n f i j} (h : s.Canonical) : (s.serve n f i j).Canonical := .wr <| .wr <| .wr <| .wr h

theorem State.Canonical.endTrainOf {i b} (h : s.Canonical) : (State.endTrainOf i s b).Canonical := by
  unfold State.endTrainOf
  split
  · exact .ite h <| .endBusy h
  · exact h

theorem State.Canonical.endTrainTest (h : s.Canonical) : s.endTrainTest.Canonical :=
  .foldl (fun _ _ h => .foldl (fun _ _ => .endTrainOf) h) h

theorem State.Canonical.trained {n live} (h : s.Canonical) : (s.trained n live).Canonical :=
  .endTrainTest <| .foldl (fun _ _ => .rerank) <| .event <| .setRoute <| .orElse (.wr <| .inc <| .wr <| .wrB <| .wr <|
    .wr h) fun h => .orElse (.orElse (.wr <| .wr <| .foldl (fun _ _ h => .serviceOfHop <|
    .foundHop h) h) fun h => .foldl (fun _ _ => .setCell) h) .serve

theorem Res.Canonical.execTrainingComplete {n partner outbound return_} (h : s.Canonical) :
    (execTrainingComplete n partner outbound return_ s).Canonical := by
  refine .onRun h fun _ h => ?_
  dsimp only
  split
  · exact .when (.foldl (fun _ _ => .hear) h) .trained
  · exact .foldl (fun _ _ => .hear) h

theorem VRes.Canonical.actRouteTrain {param} (h : s.Canonical) : (actRouteTrain param s).Canonical :=
  .ite (.no h) <| .ite (.no h) <| .ite (.ok <| .foldl (fun _ _ h => .ite (.startQuiet h) h) h) <| .wait <|
    .foldl (fun _ _ h => .ite (.startQuiet h) h) h

/-! ### Link -/

theorem State.Canonical.answerChunk {c b} (h : s.Canonical) : (s.answerChunk c b).Canonical := by
  unfold State.answerChunk
  split
  · exact h
  · exact .ite h <| .orElse (.endParcel h) fun h' => .ite h <| .ite h' <| .when (.wr <| .wr <| .keep h) fun h => .endParcel <| .setCell h

theorem Res.Canonical.execLedgerTrainReceived {n ret bytes invalid} (h : s.Canonical) :
    (execLedgerTrainReceived n ret bytes invalid s).Canonical :=
  .onRun h fun _ h => .orElse (.inc h) fun h => .ite (.inc h) <| .ite (.inc h) <| .foldl (fun _ _ h => .ite (.answerChunk h) h) <|
    .setRoute <| .inc h

theorem State.Canonical.noLedger {c status} (h : s.Canonical) : (s.noLedger c status).Canonical := .inc <| .wr <| .setCell h

theorem State.Canonical.parcelField {c field} (h : s.Canonical) : (s.parcelField c field).Canonical := by
  unfold State.parcelField
  split
  · exact h
  · exact .ite h <| .ite (.endParcel h) <| .ite h <| .ite (.ite h <| .keep h) <| .ite (.when (.wr <| .keep h) .wr) h

theorem State.Canonical.takeLedger {c copy e b} (h : s.Canonical) : (s.takeLedger c copy e b).Canonical :=
  .ite (.wrB <| .noLedger <| .setCell h) <| .parcelField <| .setCell <| .cellThermal <| .wrB <| .wr <| .setWord <| .setWord <|
    .foldl (fun _ _ => .setWord) <| .setCell h

theorem State.Canonical.cutHop {n k hd} (h : s.Canonical) : (s.cutHop n k hd).Canonical := by
  unfold State.cutHop
  dsimp only
  split
  · exact .when (.noLedger <| .setCell h) .endParcel
  · refine .ite h ?_
    split
    · exact .takeLedger <| .ite (.inc h) h
    · exact .takeLedger <| .ite (.inc h) h
    · exact .noLedger <| .ite (.inc h) h

theorem State.Canonical.cutRoute {k n} (h : s.Canonical) : (s.cutRoute k n).Canonical :=
  .setRoute <| .when (.foldl (fun _ _ => .cutHop) h) .inc

theorem Res.Canonical.execLedgerCut {heard} (h : s.Canonical) : (execLedgerCut heard s).Canonical :=
  .onRun h fun _ h => .ite h <| .keep <| .foldl (fun _ _ => .cutRoute) <| .foldl (fun _ _ => .hear) h

theorem State.Canonical.permit {n} (h : s.Canonical) : (s.permit n).Canonical := .ite (.event <| .wr <| .wr h) h
theorem State.Canonical.unpermit {n} (h : s.Canonical) : (s.unpermit n).Canonical := .ite (.wr <| .wr h) h

theorem State.Canonical.setReach {n out ret} (h : s.Canonical) : (s.setReach n out ret).Canonical :=
  .ite h <| .event <| .inc <| .wr <| .wr <| .wr <| .wr h

theorem State.Canonical.closeRoute {n} (h : s.Canonical) : (s.closeRoute n).Canonical :=
  .event <| .unpermit <| .inc <| .wr <| .wr <| .wr <| .wr h

theorem State.Canonical.judgeRoute {n} (h : s.Canonical) : (s.judgeRoute n).Canonical := by
  unfold State.judgeRoute
  dsimp only
  split
  · exact .setReach <| .setRoute <| .permit h
  · exact .ite h <| .ite (.closeRoute <| .setRoute h) <| .setRoute h

theorem State.Canonical.safeState {cause code subject} (h : s.Canonical) : (s.safeState cause code subject).Canonical :=
  .raise <| .keep <| .gatesOff <| .ite h <| .wr <| .wr h

theorem State.Canonical.missHandover {n} (h : s.Canonical) : (s.missHandover n).Canonical := .safeState <| .inc <| .setRoute h

theorem Res.Canonical.execWaybillCut (h : s.Canonical) : (execWaybillCut s).Canonical :=
  .onRun h fun _ h => .ite h <| .keep <| .foldl (fun _ _ h => .orElse (.judgeRoute h) .missHandover) h

theorem State.Canonical.chunksSent {cells} (h : s.Canonical) : (s.chunksSent cells).Canonical := by
  refine .foldl (fun _ _ h => ?_) h
  split
  · exact .keep h
  · exact h

theorem State.Canonical.noteSent {c w} (h : s.Canonical) : (s.noteSent c w).Canonical := .orElse (.wr <| .wr <| .wr h) .setCell
theorem State.Canonical.unsent {c} (h : s.Canonical) : (s.unsent c).Canonical := .ite (.setCell h) h

theorem State.Canonical.sendFrame {n ret waybills} (h : s.Canonical) : (s.sendFrame n ret waybills).Canonical := by
  unfold State.sendFrame
  dsimp only
  split
  · exact .put <| .keep <| .chunksSent <| .setRoute h
  · exact .put <| .chunksSent <| .setRoute h

theorem State.Canonical.sendMarkers {n ret} (h : s.Canonical) : (s.sendMarkers n ret).Canonical := .ite h <| .put h

theorem State.Canonical.launchRoute {n} (h : s.Canonical) : (s.launchRoute n).Canonical :=
  .ite (.foldl (fun _ _ => .put) <| .foldl (fun _ _ => .sendMarkers) h) <|
    .orElse (.foldl (fun _ _ => .sendMarkers) h) fun h => .setRoute <| .when (.foldl (fun _ _ => .noteSent) <|
    .foldl (fun _ _ => .sendFrame) h) fun h => .foldl (fun _ _ => .unsent) h

theorem Res.Canonical.execRouteFrameLaunch (h : s.Canonical) : (execRouteFrameLaunch s).Canonical :=
  .onRun h fun _ h => .foldl (fun _ _ => .launchRoute) <| .keep h

theorem VRes.Canonical.actParcel {cell fromCell body} (h : s.Canonical) : (actParcel cell fromCell body s).Canonical :=
  .ite (.no h) <| .ite (.no h) <| .ite (.no h) <| .wait <| .setCell <| .wr <| .wr <| .wr <| .wr <| .keep h

theorem Res.Canonical.execParcelChunkResend {cell} (h : s.Canonical) : (execParcelChunkResend cell s).Canonical := by
  refine .onRun h fun _ h => ?_
  split
  · exact .ite h <| .inc <| .keep h
  · exact h

theorem Res.Canonical.execParcelBusyRetry {cell} (h : s.Canonical) : (execParcelBusyRetry cell s).Canonical := by
  refine .onRun h fun _ h => ?_
  split
  · exact .ite (.inc <| .keep h) h
  · exact h

theorem Res.Canonical.execParcelTimeout {cell} (h : s.Canonical) : (execParcelTimeout cell s).Canonical :=
  .onRun h fun _ h => .ite (.endParcel h) h

theorem State.Canonical.monOk {data} (h : s.Canonical) : (s.monOk data).Canonical := .monPut h
theorem State.Canonical.monErr {status} (h : s.Canonical) : (s.monErr status).Canonical := .monPut h
theorem State.Canonical.startPrbs {param byMon} (h : s.Canonical) : (s.startPrbs param byMon).Canonical := .when (.wr <| .keep h) .setRoute

theorem VRes.Canonical.actLinkPrbs {param} (h : s.Canonical) : (actLinkPrbs param s).Canonical := by
  unfold Machine.actLinkPrbs
  split
  · exact .no h
  · exact .wait <| .startPrbs h

theorem State.Canonical.endPrbs {l} (h : s.Canonical) : (s.endPrbs l).Canonical := .wr <| .keep h

theorem Res.Canonical.execPrbsTestEnd {l count locked} (h : s.Canonical) : (execPrbsTestEnd l count locked s).Canonical := by
  refine .onRun h fun _ h => ?_
  split
  · exact h
  · refine .ite h <| .ite (.ite (.monOk <| .endPrbs h) <| .monErr <| .endPrbs h) ?_
    split
    · exact .endBusy <| .endPrbs h
    · exact .endPrbs h

theorem State.Canonical.startInject {param byMon} (h : s.Canonical) : (s.startInject param byMon).Canonical := .keep h

theorem VRes.Canonical.actLinkInject {param} (h : s.Canonical) : (actLinkInject param s).Canonical := by
  unfold Machine.actLinkInject
  split
  · exact .no h
  · exact .wait <| .startInject h

theorem State.Canonical.endInject {j} (h : s.Canonical) : (s.endInject j).Canonical := by
  refine .ite (.monOk h) ?_
  split
  · exact .endBusy h
  · exact h

theorem State.Canonical.tickInject (h : s.Canonical) : s.tickInject.Canonical := .foldl (fun _ _ => .endInject) <| .keep h

/-! ### Loop -/

theorem State.Canonical.setSlotRun {n q} (h : s.Canonical) : (s.setSlotRun n q).Canonical := .keep h

theorem State.Canonical.storeSlot {n plant o} (h : s.Canonical) : (s.storeSlot n plant o).Canonical :=
  .wr <| .wr <| .wr <| .wr <| .wr <| .wr <| .wrB <| .wrB <| .wrB <| .wrB <| .wrB <| .wrB <| .wrB <| .wrB <| .wrB <| .wrB <| .wrB <|
    .wr <| .wr <| .wr <| .wr <| .wr <| .setSlotRun h

theorem State.Canonical.fallbackFault {n} (h : s.Canonical) : (s.fallbackFault n).Canonical :=
  .ite h <| .ite (.setCell <| .ite (.raise h) h) <| .ite (.raise <| .ite (.raise h) h) <| .when (.ite (.raise h) h) .latchTrip

theorem State.Canonical.fallBack {n} (h : s.Canonical) : (s.fallBack n).Canonical := .fallbackFault <| .event <| .wr <| .wr h

theorem State.Canonical.takeSlot {n} {s0 : State} (h : s.Canonical) : (s0.takeSlot s n).Canonical :=
  .when (.when (.storeSlot h) .adapt) .fallBack

theorem State.Canonical.overrunSlot {n} (h : s.Canonical) : (s.overrunSlot n).Canonical := .inc <| .inc <| .wr <| .setSlotRun h
theorem State.Canonical.slotOff {n} (h : s.Canonical) : (s.slotOff n).Canonical := .wr <| .wr <| .wr <| .keep h

theorem State.Canonical.countOverrun {late} (h : s.Canonical) : (s.countOverrun late).Canonical :=
  .ite (.wr <| .foldl (fun _ _ => .overrunSlot) <| .keep h) <| .when (.inc <| .wrSat <| .foldl (fun _ _ => .overrunSlot) <| .keep h) .raise

theorem State.Canonical.retirePipe {p} (h : s.Canonical) : (s.retirePipe p).Canonical := .ite h <| .when (.raise <| .wr h) .raise
theorem State.Canonical.mismatch {q} (h : s.Canonical) : (s.mismatch q).Canonical := .wr <| .wr <| .event <| .inc h

theorem State.Canonical.decideMiss {single q} (h : s.Canonical) : (s.decideMiss single q).Canonical :=
  .ite (.raise <| .wr h) <| .ite (.retirePipe <| .wr h) <| .raise <| .wr <| .wr h

theorem State.Canonical.takeCheck {r} {s0 : State} (h : s.Canonical) : (s0.takeCheck s r).Canonical :=
  .foldl (fun _ _ => .decideMiss) <| .keep <| .foldl (fun _ _ => .mismatch) <| .foldl (fun _ _ => .decideMiss) <| .ite (.keep <|
    .wr h) <| .wr <| .wr h

theorem State.Canonical.runLoop {misses ecc} {s0 : State} (h : s0.Canonical) : (s0.runLoop misses ecc).Canonical :=
  .wr <| .wr <| .keep <| .countOverrun <| .takeCheck <| .foldl (fun _ _ => .takeSlot) <| .foldl (fun _ _ => .slotOff) <| .keep <|
    .foldl (fun _ _ => .eccHit) h

theorem Res.Canonical.execLoopIssue {misses ecc} (h : s.Canonical) : (execLoopIssue misses ecc s).Canonical :=
  .onRun h fun _ h => .ite h <| .runLoop h

theorem Res.Canonical.execLoopOutputHandover (h : s.Canonical) : (execLoopOutputHandover s).Canonical :=
  .onRun h fun _ h => .ite h <| .keep h

theorem VRes.Canonical.actLoopSlotModeWrite {n mode manOut} (h : s.Canonical) : (actLoopSlotModeWrite n mode manOut s).Canonical :=
  .ite (.no h) <| .ok <| .wr <| .wr h

theorem Res.Canonical.execLoopSlotModeWrite {r slot mode manOut} (h : s.Canonical) :
    (execLoopSlotModeWrite r slot mode manOut s).Canonical :=
  .execVerb h fun _ => .actLoopSlotModeWrite

/-! ### EdgeStage -/

theorem State.Canonical.setArmRun {a r} (h : s.Canonical) : (s.setArmRun a r).Canonical := .keep h
theorem State.Canonical.orderBypass {c} (h : s.Canonical) : (s.orderBypass c).Canonical := .unrank <| .setCell h

theorem State.Canonical.bypassArm {a} (h : s.Canonical) : (s.bypassArm a).Canonical :=
  .orElse (.foldl (fun _ _ => .orderBypass) h) fun h => .rankArm <| .ite h <| .setArmRun h

theorem State.Canonical.edgesOf {k c} (h : s.Canonical) : (s.edgesOf k c).Canonical := .takeCellStage h
theorem State.Canonical.countSat {a} (h : s.Canonical) : (s.countSat a).Canonical := .wr h
theorem State.Canonical.handOver {n} (h : s.Canonical) : (s.handOver n).Canonical := .setRoute h

theorem Res.Canonical.execEdgeComputation {margin} (h : s.Canonical) : (execEdgeComputation margin s).Canonical :=
  .onRun h fun _ h => .ite h <| .wr <| .foldl (fun _ _ => .handOver) <| .keep <| .foldl (fun _ _ => .countSat) <|
    .foldl (fun _ _ => .edgesOf) <| .foldl (fun _ _ => .bypassArm) h

theorem Res.Canonical.execDriveEdgeSet (h : s.Canonical) : (execDriveEdgeSet s).Canonical :=
  .onRun h fun _ h => .ite h <| .keep <| .driveSet h

theorem Res.Canonical.execEdgeSetCheck {arrived} (h : s.Canonical) : (execEdgeSetCheck arrived s).Canonical := by
  refine .onRun h fun _ h => ?_
  dsimp only
  split
  · exact .wr <| .wr <| .wr <| .keep <| .placeEdges h
  · exact .orElse (.wrB <| .wr <| .inc <| .keep <| .placeEdges h) fun h => .latchTrip <| .gatesOff h

theorem Res.Canonical.execEdgeClockStopped (h : s.Canonical) : (execEdgeClockStopped s).Canonical :=
  .onRun h fun _ h => .safeState <| .keep h

theorem State.Canonical.haltUnit (h : s.Canonical) : s.haltUnit.Canonical := .keep <| .takeFree h

theorem Res.Canonical.execDebugHalt (h : s.Canonical) : (execDebugHalt s).Canonical :=
  .onRun h fun _ h => .ite h <| .safeState <| .haltUnit h

/-! ### Signals -/

theorem State.Canonical.snapView (h : s.Canonical) : s.snapView.Canonical := .keep h
theorem State.Canonical.handSig {ix q} (h : s.Canonical) : (s.handSig ix q).Canonical := .ite h <| .keep h
theorem State.Canonical.showSetpoint {id} (h : s.Canonical) : (s.showSetpoint id).Canonical := .ite (.wrB <| .wrF <| .wrF <| .wrF h) h
theorem State.Canonical.putSetpoint {id r} (h : s.Canonical) : (s.putSetpoint id r).Canonical := .showSetpoint <| .keep h

theorem State.Canonical.tickSetpoints (h : s.Canonical) : s.tickSetpoints.Canonical :=
  .keep <| .foldl (fun _ _ => .putSetpoint) <| .foldl (fun _ _ => .putSetpoint) h

theorem State.Canonical.tickRunUp (h : s.Canonical) : s.tickRunUp.Canonical := .keep h

theorem State.Canonical.setLock {now} (h : s.Canonical) : (s.setLock now).Canonical :=
  .ite (.wr <| .inc <| .keep <| .wrB h) <| .when (.keep <| .wrB h) fun h => .wr <| .keep h

theorem State.Canonical.trackFresh (h : s.Canonical) : s.trackFresh.Canonical :=
  .setLock <| .wrF <| .wrF <| .wrF <| .keep <| .sndIte (.takeFree h) h

theorem State.Canonical.trackGrid (h : s.Canonical) : s.trackGrid.Canonical := .ite h <| .ite (.trackFresh h) <| .setLock <| .keep h

theorem State.Canonical.armSignals {a} (h : s.Canonical) : (s.armSignals a).Canonical :=
  .ite h <| .foldl (fun _ _ h => .orElse (.handSig h) .wrF) <| .wrF <| .wrF <| .wrF <| .wrF <| .wrF <| .handSig <| .handSig <|
    .handSig <| .handSig <| .handSig <| .handSig <| .setArmRun h

theorem State.Canonical.dabSignals (h : s.Canonical) : s.dabSignals.Canonical := by
  refine .foldl (fun _ _ h => ?_) h
  split
  · exact .orElse (.handSig h) .wrF
  · exact .handSig h

theorem State.Canonical.signals (h : s.Canonical) : s.signals.Canonical :=
  .wrF <| .handSig <| .handSig <| .dabSignals <| .foldl (fun _ _ => .armSignals) <| .trackGrid <| .keep h

/-! ### Service -/

theorem State.Canonical.toSpare {c} (h : s.Canonical) : (s.toSpare c).Canonical := .when (.wr <| .wr <| .setSvc h) .slotAuto
theorem State.Canonical.toService {c} (h : s.Canonical) : (s.toService c).Canonical := .when (.when (.setSvc h) .slotAuto) .slotAuto

theorem State.Canonical.insertSpare {c p} (h : s.Canonical) : (s.insertSpare c p).Canonical :=
  .adapt <| .inc <| .inc <| .slotsManual <| .wr <| .wr <| .setSvc h

theorem State.Canonical.insertArm {a} (h : s.Canonical) : (s.insertArm a).Canonical := .foldl (fun _ _ => .insertSpare) h

theorem State.Canonical.takeOut1 {c cause} (h : s.Canonical) : (s.takeOut1 c cause).Canonical :=
  .adapt <| .when (.unrank <| .orElse (.slotsManual <| .inc <| .inc <| .wr <| .wr <| .setSvc h) .setCell) .raise

theorem State.Canonical.watchLedger {c} (h : s.Canonical) : (s.watchLedger c).Canonical := .ite (.setCell h) <| .when (.setCell h) .raise
theorem State.Canonical.bypassFail {c} (h : s.Canonical) : (s.bypassFail c).Canonical := .raise <| .wr h

theorem State.Canonical.confirm {c} (h : s.Canonical) : (s.confirm c).Canonical :=
  .ite h <| .ite (.ite (.toSpare h) <| .setSvc h) <| .bypassFail h

theorem State.Canonical.comeBack {c} (h : s.Canonical) : (s.comeBack c).Canonical := .ite (.toSpare h) h

theorem State.Canonical.fillArm {a} (h : s.Canonical) : (s.fillArm a).Canonical :=
  .rerank <| .foldl (fun _ _ h => .wr <| .wr <| .toService h) <| .foldl (fun _ _ => .toSpare) h

theorem State.Canonical.checkShort {a} (h : s.Canonical) : (s.checkShort a).Canonical := .ite (.raise h) h
theorem State.Canonical.showArm {a} (h : s.Canonical) : (s.showArm a).Canonical := .wr <| .wr <| .wr <| .wr h
theorem State.Canonical.showDerating (h : s.Canonical) : s.showDerating.Canonical := .wrB <| .wrB <| .wrB h

theorem State.Canonical.capWindow {c r} (h : s.Canonical) : (s.capWindow c r).Canonical :=
  .ite h <| .when (.when (.setCell <| .ite (.inc <| .wr <| .inc <| .wr <| .wrF h) <| .wr <| .wr <| .inc <| .wr <|
    .wrF h) fun h => .adapt <| .see h) fun h => .raise <| .adapt <| .see h

theorem State.Canonical.capStage {c} (h : s.Canonical) : (s.capStage c).Canonical :=
  .ite (.setCell h) <| .ite (.setCell h) <| .capWindow <| .setCell h

theorem State.Canonical.capCell {c} (h : s.Canonical) : (s.capCell c).Canonical := .ite (.capStage h) <| .ite h <| .setCell h

theorem State.Canonical.serviceStage (h : s.Canonical) : s.serviceStage.Canonical := by
  refine .showDerating <| .foldl (fun _ _ => .showArm) <| .foldl (fun _ _ => .capCell) <| .foldl (fun _ _ => .wrB) <|
    .orElse (.foldl (fun _ _ => .checkShort) <| .foldl (fun _ _ => .rerank) <| .foldl (fun _ _ h => ?_) <|
    .foldl (fun _ _ => .comeBack) <| .foldl (fun _ _ => .confirm) <|
    .foldl (fun _ _ => .watchLedger) h) fun h => .foldl (fun _ _ => .insertArm) h
  split
  · exact .takeOut1 h
  · exact .ite (.toService h) h

theorem State.Canonical.takeCauses (h : s.Canonical) : s.takeCauses.Canonical := .keep <| .foldl (fun _ _ => .setCell) h
theorem State.Canonical.order {c} (h : s.Canonical) : (s.order c).Canonical := .setCell h
theorem State.Canonical.orders (h : s.Canonical) : s.orders.Canonical := .foldl (fun _ _ => .order) h

/-! ### Policy -/

theorem State.Canonical.stepTo {n} (h : s.Canonical) : (s.stepTo n).Canonical := .keep <| .wr h

theorem State.Canonical.prechargeStep (h : s.Canonical) : s.prechargeStep.Canonical := by
  unfold State.prechargeStep
  split
  · exact .wr <| .stepTo h
  · exact .ite (.stepTo h) h
  · exact .ite (.wr <| .stepTo h) h
  · exact .ite (.wr <| .stepTo h) h
  · exact .ite (.goTo h) h

theorem State.Canonical.enterRun (h : s.Canonical) : s.enterRun.Canonical :=
  .ite (.goTo h) <| .goTo <| .keep <| .foldl (fun _ _ => .event) h

theorem State.Canonical.syncStep (h : s.Canonical) : s.syncStep.Canonical := by
  unfold State.syncStep
  split
  · exact .ite (.keep <| .stepTo <| .foldl (fun _ _ => .slotAuto) h) h
  · exact .when (.tickRunUp h) fun h => .keep <| .stepTo <| .foldl (fun _ _ => .slotAuto) h
  · exact .when (.tickRunUp h) fun h => .keep <| .stepTo h
  · exact .when (.keep h) .enterRun

theorem State.Canonical.stopStep (h : s.Canonical) : s.stopStep.Canonical := by
  unfold State.stopStep
  split
  · exact .ite h <| .keep <| .stepTo h
  · exact .when (.keep h) fun h => .slotsManual <| .stepTo h
  · exact .wr <| .stepTo h
  · exact .ite (.stepTo h) h
  · exact .goTo h

theorem State.Canonical.selfTest (h : s.Canonical) : s.selfTest.Canonical := .ite (.wr h) <| .goTo h

theorem State.Canonical.sequence (h : s.Canonical) : s.sequence.Canonical :=
  .ite h <| .ite (.selfTest <| .keep h) <| .ite (.prechargeStep <| .keep h) <| .ite (.syncStep <| .keep h) <|
    .ite (.when (.keep h) .goTo) <| .ite (.keep <| .keep h) <| .when (.keep h) .stopStep

theorem State.Canonical.busStage (h : s.Canonical) : s.busStage.Canonical := .when (.when (.keep h) .raise) .raise
theorem State.Canonical.showStation (h : s.Canonical) : s.showStation.Canonical := .wrB <| .wrB <| .wr h

theorem State.Canonical.policyStage (h : s.Canonical) : s.policyStage.Canonical :=
  .showStation <| .sequence <| .serviceStage <| .busStage <| .signals h

theorem State.Canonical.takeOrder {halted x_1} (h : s.Canonical) : (State.takeOrder halted s x_1).Canonical := by
  unfold State.takeOrder
  split
  · exact h
  · exact .ite h <| .when (.enter <| .ite (.foldl (fun _ _ => .fillArm) h) h) fun h => .ite (.driveOff h) <| .driveStop h

theorem State.Canonical.applyGoto (h : s.Canonical) : s.applyGoto.Canonical := .when (.takeOrder <| .keep h) .wr

theorem VRes.Canonical.leaveStandby {target cause} (h : s.Canonical) : (s.leaveStandby target cause).Canonical := by
  refine .ite (.no h) <| .orElse (.no h) fun h' => ?_
  split
  · exact .no <| .event h
  · exact .ite (.no h) <| .ite h' <| .ite (.no <| .foldl (fun _ _ => .event) h) <| .okNext <| .goTo <| .keep h

theorem State.Canonical.stopBy {cause} (h : s.Canonical) : (s.stopBy cause).Canonical := .goTo <| .keep h
theorem State.Canonical.aim {target} (h : s.Canonical) : (s.aim target).Canonical := .keep h

theorem VRes.Canonical.actState {target} (h : s.Canonical) : (actState target s).Canonical := by
  refine .when ?_ fun h => .res <| .st h
  split
  · exact .ok h
  · split
    · exact .ite (.no h) <| .ite (.ok h) <| .okNext <| .goTo h
    · exact .ite (.no h) <| .ite (.no h) <| .ite (.ok h) <| .okNext <| .goTo h
    · exact .ite (.ok h) <| .ite (.okNext <| .stopBy h) <| .no h
    · exact .ite (.leaveStandby h) <| .ite (.ok h) <| .no h
    · exact .ite (.leaveStandby h) <| .ite (.okNext <| .aim h) <| .ite (.ok h) <| .no h
    · exact .no h

theorem VRes.Canonical.actStartConverter (h : s.Canonical) : (actStartConverter s).Canonical :=
  .orElse (.no h) fun h' => .ite (.when (.leaveStandby h) fun h => .res <| .keep <| .st h) <| .ite (.when (.okNext <|
    .aim h) fun h => .res <| .keep <| .st h) <| .ite (.when (.ok h) fun h => .res <| .keep <| .st h) h'

theorem VRes.Canonical.actStopConverter (h : s.Canonical) : (actStopConverter s).Canonical :=
  .ite (.okNext <| .stopBy <| .keep h) <| .ok <| .keep h

theorem VRes.Canonical.actStopArm {arm} (h : s.Canonical) : (actStopArm arm s).Canonical :=
  .ite (.no h) <| .ite (.okNext <| .keep h) <| .no h

theorem VRes.Canonical.actTrip {reason} (h : s.Canonical) : (actTrip reason s).Canonical := .okNext <| .raise <| .event <| .keep h
theorem State.Canonical.dueSet {id r} (h : s.Canonical) : (s.dueSet id r).Canonical := .keep h

theorem VRes.Canonical.actSetpoint {entries} (h : s.Canonical) : (actSetpoint entries s).Canonical := by
  unfold Machine.actSetpoint
  split
  · exact .no h
  · exact .okNext <| .foldl (fun _ _ => .dueSet) h

theorem VRes.Canonical.actRamp {id target rate} (h : s.Canonical) : (actRamp id target rate s).Canonical := by
  unfold Machine.actRamp
  split
  · exact .no h
  · exact .ite (.no h) <| .okNext <| .dueSet h

theorem VRes.Canonical.actTakeOut {c} (h : s.Canonical) : (actTakeOut c s).Canonical := .ite (.no h) <| .ok <| .keep h
theorem VRes.Canonical.actRelease {c} (h : s.Canonical) : (actRelease c s).Canonical := .ite (.ok <| .toSpare h) <| .no h

theorem Res.Canonical.execPolicySignalDeadline {late} (h : s.Canonical) : (execPolicySignalDeadline late s).Canonical :=
  .onRun h fun _ h => .ite (.when (.inc <| .keep h) .raise) <| .keep h

theorem Res.Canonical.execBypassConfirmTimeout {cell} (h : s.Canonical) : (execBypassConfirmTimeout cell s).Canonical :=
  .onRun h fun _ h => .ite (.bypassFail h) h

theorem Res.Canonical.execContactTimeout (h : s.Canonical) : (execContactTimeout s).Canonical := .onRun h fun _ h => .ite (.raise h) h
theorem Res.Canonical.execPrechargeTimeout (h : s.Canonical) : (execPrechargeTimeout s).Canonical := .onRun h fun _ h => .ite (.raise h) h
theorem Res.Canonical.execSyncTimeout (h : s.Canonical) : (execSyncTimeout s).Canonical := .onRun h fun _ h => .ite (.raise h) h
theorem Res.Canonical.execStopTimeout (h : s.Canonical) : (execStopTimeout s).Canonical := .onRun h fun _ h => .ite (.raise h) h
theorem Res.Canonical.execRampdownEnd (h : s.Canonical) : (execRampdownEnd s).Canonical := .onRun h fun _ h => .ite (.keep h) h
theorem Res.Canonical.execDerateClear (h : s.Canonical) : (execDerateClear s).Canonical := .onRun h fun _ h => .ite (.goTo h) h
theorem Res.Canonical.execGridLost (h : s.Canonical) : (execGridLost s).Canonical := .onRun h fun _ h => .ite (.when (.wr h) .raise) h

/-! ### Drive -/

theorem State.Canonical.writeHv (h : s.Canonical) : s.writeHv.Canonical := .ite (.keep h) h
theorem State.Canonical.showTrip {code} (h : s.Canonical) : (s.showTrip code).Canonical := .raise <| .keep <| .setWord h

theorem State.Canonical.driveTrips (h : s.Canonical) : s.driveTrips.Canonical := by
  unfold State.driveTrips
  dsimp only
  split
  · exact .keep h
  · exact .orElse (.foldl (fun _ _ => .showTrip) <| .keep h) fun h => .keep <| .wr <| .slotsManual <| .inc <| .driveTo <| .wr h

theorem State.Canonical.latchAtBoundary (h : s.Canonical) : s.latchAtBoundary.Canonical := .keep h

theorem State.Canonical.showNtc (h : s.Canonical) : s.showNtc.Canonical := by
  unfold State.showNtc
  split
  · exact .foldl (fun _ _ h => .wr <| .wrS h) h
  · exact h

theorem Res.Canonical.execHvsStatusFrame {hb legs ov ds6} (h : s.Canonical) : (execHvsStatusFrame hb legs ov ds6 s).Canonical :=
  .onRun h fun _ h => .ite h <| .ite (.foldl (fun _ _ => .journal) <| .keep <| .keep <| .showNtc h) <| .keep <| .keep <| .showNtc h

theorem State.Canonical.shortReport {leg code first quick on} (h : s.Canonical) : (s.shortReport leg code first quick on).Canonical :=
  .ite h <| .latchTrip <| .inc <| .keep <| .ite (.keep h) h

theorem Res.Canonical.execDesat {ch quick on} (h : s.Canonical) : (execDesat ch quick on s).Canonical :=
  .onRun h fun _ h => .ite h <| .when (.when (.shortReport h) .keep) .raise

theorem Res.Canonical.execOcFast {leg centivolts quick on} (h : s.Canonical) : (execOcFast leg centivolts quick on s).Canonical :=
  .onRun h fun _ h => .ite h <| .shortReport <| .keep h

theorem Res.Canonical.execSoftTurnoffEnd (h : s.Canonical) : (execSoftTurnoffEnd s).Canonical := .onRun h fun _ => .keep

theorem Res.Canonical.execDrvShortPersist {leg} (h : s.Canonical) : (execDrvShortPersist leg s).Canonical :=
  .onRun h fun _ h => .ite (.raise h) h

theorem Res.Canonical.execOvTrip {volts} (h : s.Canonical) : (execOvTrip volts s).Canonical :=
  .always h fun _ h => .ite (.latchTrip <| .keep h) h

theorem Res.Canonical.execDrvBusOv (h : s.Canonical) : (execDrvBusOv s).Canonical := .onRun h fun _ h => .ite (.raise h) h

theorem Res.Canonical.execOvBrakeOn {volts} (h : s.Canonical) : (execOvBrakeOn volts s).Canonical :=
  .always h fun _ h => .ite (.when (.when (.keep h) .keep) .inc) h

theorem Res.Canonical.execOvBrakeOff {volts} (h : s.Canonical) : (execOvBrakeOff volts s).Canonical :=
  .always h fun _ h => .ite (.keep <| .ite (.keep h) h) h

theorem Res.Canonical.execBootstrapUv {leg} (h : s.Canonical) : (execBootstrapUv leg s).Canonical :=
  .onRun h fun _ h => .ite (.latchTrip h) h

theorem Res.Canonical.execSwitchTimeMeasure {ch first span} (h : s.Canonical) : (execSwitchTimeMeasure ch first span s).Canonical :=
  .onRun h fun _ h => .ite h <| .keep h

theorem State.Canonical.adaptChannel {ch} (h : s.Canonical) : (s.adaptChannel ch).Canonical :=
  .orElse (.wr <| .wr h) fun h => .adapt <| .inc <| .wr h

theorem Res.Canonical.execAdaptLevel (h : s.Canonical) : (execAdaptLevel s).Canonical :=
  .onRun h fun _ h => .ite h <| .keep <| .foldl (fun _ _ => .adaptChannel) h

theorem State.Canonical.initLevels (h : s.Canonical) : s.initLevels.Canonical := .keep <| .foldl (fun _ _ => .wr) h
theorem State.Canonical.gateEnable (h : s.Canonical) : s.gateEnable.Canonical := .ite h <| .gatesOff h

theorem Res.Canonical.execStoLineChange {asserted} (h : s.Canonical) : (execStoLineChange asserted s).Canonical :=
  .always h fun _ h => .gateEnable <| .keep h

theorem VRes.Canonical.actStartDrive (h : s.Canonical) : (actStartDrive s).Canonical := by
  refine .orElse (.no h) fun h' => .ite h' <| .ite (.res <| .st <| .ok h) <| .orElse (.no h) fun h'' => .ite h' <| .ite h'' ?_
  split
  · exact .no <| .event h
  · exact .res <| .st <| .ok <| .keep h

theorem VRes.Canonical.actStopDrive (h : s.Canonical) : (actStopDrive s).Canonical := .ite (.okNext <| .keep <| .keep h) <| .ok <| .keep h
theorem State.Canonical.startDrive (h : s.Canonical) : s.startDrive.Canonical := .keep <| .driveTo h

theorem Res.Canonical.execBootChargeCheck (h : s.Canonical) : (execBootChargeCheck s).Canonical :=
  .onRun h fun _ h => .ite (.ite (.keep h) <| .latchTrip h) h

theorem State.Canonical.stepD4 (h : s.Canonical) : s.stepD4.Canonical :=
  .ite (.foldl (fun _ _ => .slotAuto) <| .slotManual <| .wr <| .keep <| .takeFree <| .keep <| .wr <| .initLevels h) <| .wr <|
    .foldl (fun _ _ => .slotAuto) <| .keep <| .wr <| .initLevels h

theorem Res.Canonical.execDriveStopEnd {late} (h : s.Canonical) : (execDriveStopEnd late s).Canonical :=
  .onRun h fun _ h => .ite (.keep <| .wr <| .slotsManual <| .ite (.event h) h) h

theorem Res.Canonical.execOverspeed (h : s.Canonical) : (execOverspeed s).Canonical := .onRun h fun _ h => .ite (.latchTrip h) h
theorem State.Canonical.encIndex (h : s.Canonical) : s.encIndex.Canonical := .keep <| .ite (.inc h) h

theorem Res.Canonical.execEncoderEdge {a b z} (h : s.Canonical) : (execEncoderEdge a b z s).Canonical :=
  .onRun h fun _ h => .ite h <| .when (.when (.keep h) fun h => .inc <| .keep h) .encIndex

theorem State.Canonical.latchEncoder (h : s.Canonical) : s.latchEncoder.Canonical := .keep <| .wr h
theorem State.Canonical.quot {x y} {s : State} (h : s.Canonical) : (s.quot x y).2.Canonical := .sndIte (.takeFree h) h

theorem State.Canonical.driveSignals (h : s.Canonical) : s.driveSignals.Canonical :=
  .keep <| .wrF <| .handSig <| .foldl (fun _ _ => .handSig) <| .quot <| .quot <| .quot <| .quot <| .sndIte h <| .quot h

theorem State.Canonical.watchEncoder (h : s.Canonical) : s.watchEncoder.Canonical := .ite (.ite (.raise <| .keep h) <| .latchTrip h) h

theorem State.Canonical.openLoop (h : s.Canonical) : s.openLoop.Canonical :=
  .ite (.ite (.slotAuto <| .wr <| .keep <| .keep h) <| .when (.keep h) .latchTrip) h

theorem State.Canonical.moveSpeedRef (h : s.Canonical) : s.moveSpeedRef.Canonical := .keep h

theorem State.Canonical.driveStage (h : s.Canonical) : s.driveStage.Canonical :=
  .openLoop <| .watchEncoder <| .driveSignals <| .moveSpeedRef h

theorem State.Canonical.driveSequence (h : s.Canonical) : s.driveSequence.Canonical :=
  .ite (.ite (.stepD4 <| .keep h) <| .when (.keep h) fun h => .inc <| .driveTo <| .keep h) <| .ite (.ite (.driveTo <| .keep h) <| .keep h) h

theorem State.Canonical.driveOrders (h : s.Canonical) : s.driveOrders.Canonical :=
  .when (.keep <| .when (.when (.driveTrips <| .ite (.driveTo h) h) .driveStop) .startDrive) .driveOff

theorem State.Canonical.showDrive (h : s.Canonical) : s.showDrive.Canonical :=
  .wrB <| .orElse (.wrB <| .wr <| .wrB <| .wrB <| .wrB <| .wrB h) .wr

theorem State.Canonical.holdTimes (h : s.Canonical) : s.holdTimes.Canonical := .keep h

theorem State.Canonical.driveBoundary (h : s.Canonical) : s.driveBoundary.Canonical :=
  .showDrive <| .latchEncoder <| .holdTimes <| .latchAtBoundary <| .driveOrders <| .ite (.driveSequence h) h

theorem State.Canonical.clearDriveTrips (h : s.Canonical) : s.clearDriveTrips.Canonical := .keep <| .wr <| .setWord h
theorem State.Canonical.levelNtc {i reading} (h : s.Canonical) : (s.levelNtc i reading).Canonical := .when (.wr <| .keep h) .latchTrip
theorem State.Canonical.tripNtc {i} (h : s.Canonical) : (s.tripNtc i).Canonical := .when (.ite (.latchTrip h) h) .latchTrip

theorem State.Canonical.sampleNtc {i code overScale} (h : s.Canonical) : (s.sampleNtc i code overScale).Canonical :=
  .orElse (.keep <| .keep h) fun h => .tripNtc <| .levelNtc h

theorem Res.Canonical.execNtcSample {code0 code1 over0 over1} (h : s.Canonical) : (execNtcSample code0 code1 over0 over1 s).Canonical :=
  .onRun h fun _ h => .ite (.sampleNtc <| .sampleNtc h) h

/-! ### Meas -/

theorem State.Canonical.setEntry {i e} (h : s.Canonical) : (s.setEntry i e).Canonical := .keep h
theorem State.Canonical.setAdc {x r} (h : s.Canonical) : (s.setAdc x r).Canonical := .keep h

theorem Res.Canonical.execAdcStopTrigger {x late} (h : s.Canonical) : (execAdcStopTrigger x late s).Canonical :=
  .onRun h fun _ h => .ite h <| .ite (.inc <| .setAdc h) <| .when (.setAdc h) .inc

theorem State.Canonical.showData {adc i e} (h : s.Canonical) : (s.showData adc i e).Canonical :=
  .wr <| .wr <| .wrB <| .wrB <| .wrB <| .wrB <| .wr h

theorem Res.Canonical.execAdcResultWrite {x convs ago sample} (h : s.Canonical) : (execAdcResultWrite x convs ago sample s).Canonical := by
  refine .onRun h fun _ h => .ite h ?_
  split
  · exact h
  · exact .setAdc <| .when (.showData <| .setEntry h) .keep

theorem State.Canonical.handEntry {p} (h : s.Canonical) : (s.handEntry p).Canonical :=
  .setEntry <| .wr <| .wr <| .wr <| .wr <| .wr <| .wrB <| .wrB <| .wrB <| .wrB <| .wrB <| .wr <| .wr h

theorem State.Canonical.handTable (h : s.Canonical) : s.handTable.Canonical := .ite (.keep h) <| .foldl (fun _ _ => .handEntry) h
theorem State.Canonical.ageMeas (h : s.Canonical) : s.ageMeas.Canonical := .keep h
theorem State.Canonical.tellLost {m} (h : s.Canonical) : (s.tellLost m).Canonical := .raise h
theorem State.Canonical.cutLost {m} (h : s.Canonical) : (s.cutLost m).Canonical := .ite h <| .tellLost <| .setEntry <| .keep <| .wr h

theorem Res.Canonical.execMeasHandoverCut (h : s.Canonical) : (execMeasHandoverCut s).Canonical :=
  .onRun h fun _ h => .ite h <| .handTable <| .foldl (fun _ _ => .cutLost) <| .ageMeas h

theorem State.Canonical.staleEntry {limit x p} (h : s.Canonical) : (State.staleEntry limit x s p).Canonical := .ite (.setEntry h) h
theorem State.Canonical.staleFrom {x limit} (h : s.Canonical) : (s.staleFrom x limit).Canonical := .foldl (fun _ _ => .staleEntry) h
theorem State.Canonical.staleData {x limit} (h : s.Canonical) : (s.staleData x limit).Canonical := .when (.ite (.wr h) h) .wr

theorem Res.Canonical.execResultStale {x} (h : s.Canonical) : (execResultStale x s).Canonical :=
  .onRun h fun _ h => .staleData <| .staleFrom h

theorem State.Canonical.setSettle {m n} (h : s.Canonical) : (s.setSettle m n).Canonical := .wr <| .keep h

theorem State.Canonical.showCal {x cs ok} (h : s.Canonical) : (s.showCal x cs ok).Canonical :=
  .inc <| .wr <| .ite (.foldl (fun _ _ => .setWord) h) <| .inc h

theorem State.Canonical.endSdCal {l} (h : s.Canonical) : (s.endSdCal l).Canonical :=
  .ite (.endOps <| .foldl (fun _ _ => .showCal) <| .keep h) <| .endOps <| .foldl (fun _ _ => .showCal) <| .keep h

theorem State.Canonical.sdCalStep {m raw} (h : s.Canonical) : (s.sdCalStep m raw).Canonical := by
  unfold State.sdCalStep
  split
  · exact h
  · exact .ite (.endSdCal h) <| .keep h

theorem Res.Canonical.execSdFilterOutput {m code ovr ago sample} (h : s.Canonical) :
    (execSdFilterOutput m code ovr ago sample s).Canonical :=
  .onRun h fun _ h => .ite h <| .sdCalStep <| .setSettle <| .setEntry h

theorem Res.Canonical.execSdBitstreamLost {m} (h : s.Canonical) : (execSdBitstreamLost m s).Canonical :=
  .onRun h fun _ h => .ite h <| .inc <| .keep h

theorem Res.Canonical.execSdBitstreamRecover {m} (h : s.Canonical) : (execSdBitstreamRecover m s).Canonical :=
  .onRun h fun _ h => .ite h <| .setSettle <| .wr <| .keep <| .ite (.tellLost h) h

theorem State.Canonical.showQueue (h : s.Canonical) : s.showQueue.Canonical := .wr h
theorem State.Canonical.askRelief {x} (h : s.Canonical) : (s.askRelief x).Canonical := .ite h <| .showQueue <| .keep h
theorem VRes.Canonical.actCalAdc {x param} (h : s.Canonical) : (actCalAdc x param s).Canonical := .ite (.no h) <| .wait <| .askRelief h

theorem VRes.Canonical.actCalAdc4 {param} (h : s.Canonical) : (actCalAdc4 param s).Canonical :=
  .ite (.no h) <| .ite (.no h) <| .wait <| .keep h

theorem VRes.Canonical.actCalSdOffset {param} (h : s.Canonical) : (actCalSdOffset param s).Canonical :=
  .ite (.no h) <| .ite (.no h) <| .ite (.no h) <| .wait <| .keep h

theorem Res.Canonical.execReliefRunStart (h : s.Canonical) : (execReliefRunStart s).Canonical := by
  refine .onRun h fun _ h => ?_
  split
  · exact .ite h <| .inc <| .wr <| .wr <| .wr <| .showQueue <| .keep h
  · exact h

theorem State.Canonical.preset {x} (h : s.Canonical) : (s.preset x).Canonical := .setAdc h

theorem Res.Canonical.execReliefHandover (h : s.Canonical) : (execReliefHandover s).Canonical := by
  refine .onRun h fun _ h => ?_
  split
  · exact .ite h <| .wr <| .preset <| .keep h
  · exact h

theorem Res.Canonical.execReliefCalEnd {coefs} (h : s.Canonical) : (execReliefCalEnd coefs s).Canonical := by
  refine .onRun h fun _ h => ?_
  split
  · exact .ite h <| .keep h
  · exact h

theorem State.Canonical.endCal {x cs f} (h : s.Canonical) : (s.endCal x cs f).Canonical :=
  .ite (.endOps <| .showCal h) <| .endOps <| .showCal h

theorem Res.Canonical.execReliefHandback (h : s.Canonical) : (execReliefHandback s).Canonical := by
  refine .onRun h fun _ h => ?_
  split
  · exact .ite h <| .endCal <| .wr <| .wr <| .wr <| .wr <| .preset <| .keep h
  · exact h

theorem Res.Canonical.execAdc4CalDone {coefs} (h : s.Canonical) : (execAdc4CalDone coefs s).Canonical :=
  .onRun h fun _ h => .ite (.endCal <| .keep h) h

theorem Res.Canonical.execAutoCalRequest (h : s.Canonical) : (execAutoCalRequest s).Canonical :=
  .onRun h fun _ h => .ite h <| .askRelief <| .keep h

theorem State.Canonical.restartAdc {x} (h : s.Canonical) : (s.restartAdc x).Canonical :=
  .orElse (.setAdc h) fun h => .staleData <| .staleFrom h

/-! ### SafetyIsland -/

theorem State.Canonical.setPair {i p} (h : s.Canonical) : (s.setPair i p).Canonical := .keep h
theorem State.Canonical.setOutp {j o} (h : s.Canonical) : (s.setOutp j o).Canonical := .keep h
theorem State.Canonical.islandReport {code data} (h : s.Canonical) : (s.islandReport code data).Canonical := .keep h
theorem State.Canonical.newNonce (h : s.Canonical) : s.newNonce.Canonical := .wr <| .takeFree h

theorem State.Canonical.lockOut {cause subject} (h : s.Canonical) : (s.lockOut cause subject).Canonical :=
  .orElse (.keep <| .islandReport <| .inc h) fun h => .inc <| .newNonce <| .wr <| .wr <| .wr <| .wr h

theorem State.Canonical.driveOut {j} (h : s.Canonical) : (s.driveOut j).Canonical := .ite h <| .setOutp <| .wrB h
theorem State.Canonical.showPair {i} (h : s.Canonical) : (s.showPair i).Canonical := .wr <| .wrSat <| .wr h
theorem State.Canonical.showIsland (h : s.Canonical) : s.showIsland.Canonical := .wrB <| .wrSat <| .wr <| .foldl (fun _ _ => .showPair) h

theorem State.Canonical.islandAct {ending} (h : s.Canonical) : (State.islandAct ending s).Canonical :=
  .showIsland <| .foldl (fun _ _ => .driveOut) <| .wrB <| .wrB <| .orElse (.ite (.keep h) h) fun h => .gateEnable <| .keep h

theorem State.Canonical.readPair {l i} (h : s.Canonical) : (State.readPair l s i).Canonical := .setPair <| .wrB <| .wrB h
theorem State.Canonical.readFb {l j} (h : s.Canonical) : (State.readFb l s j).Canonical := .setOutp <| .wrB h

theorem State.Canonical.timePair {disc i} (h : s.Canonical) : (State.timePair disc s i).Canonical :=
  .ite h <| .ite (.ite (.lockOut <| .when (.inc <| .setPair h) .keep) <| .setPair h) <| .setPair <| .ite h <| .wrSat h

theorem State.Canonical.beginDemand {i} (h : s.Canonical) : (s.beginDemand i).Canonical :=
  .when (.islandReport <| .inc <| .inc <| .setPair h) .keep

theorem State.Canonical.evalPair {i} (h : s.Canonical) : (s.evalPair i).Canonical :=
  .ite h <| .ite (.when (.setPair h) .beginDemand) <| .ite h <| .ite (.wr <| .wr <| .setPair h) <| .ite (.setPair <| .wr <|
    .setPair h) <| .setPair <| .wr <| .setPair h

theorem State.Canonical.endAwait {i} (h : s.Canonical) : (s.endAwait i).Canonical := .ite (.setPair h) h

theorem State.Canonical.resetOp (h : s.Canonical) : s.resetOp.Canonical := by
  unfold State.resetOp
  split
  · exact h
  · dsimp only
    split
    · exact .ite (.keep h) <| .ite (.keep h) h
    · exact .ite (.keep h) <| .ite (.wr <| .foldl (fun _ _ => .endAwait) <| .keep h) <| .keep h

theorem State.Canonical.readOut {l j} (h : s.Canonical) : (State.readOut l s j).Canonical :=
  .when (.setOutp <| .wrB <| .wrB h) fun h => .lockOut <| .inc h

theorem State.Canonical.judgePulse {j} (h : s.Canonical) : (s.judgePulse j).Canonical := by
  unfold State.judgePulse
  dsimp only
  split
  · exact h
  · exact .ite (.inc <| .wr <| .setOutp h) <| .ite (.setOutp h) <| .orElse (.wr <| .setOutp h) fun h => .lockOut <| .inc h

theorem State.Canonical.checkFb {j} (h : s.Canonical) : (s.checkFb j).Canonical :=
  .ite (.setOutp <| .wr h) <| .ite (.setOutp <| .wr <| .ite (.wrSat h) h) <| .setOutp <| .wr h

theorem State.Canonical.checkIsland {agree check} (h : s.Canonical) : (s.checkIsland agree check).Canonical := .when (.keep h) .lockOut
theorem State.Canonical.tickIsland (h : s.Canonical) : s.tickIsland.Canonical := .keep h

theorem Res.Canonical.execSafetyCycle {c} (h : s.Canonical) : (execSafetyCycle c s).Canonical :=
  .always h fun _ h => .ite h <| .showIsland <| .foldl (fun _ _ => .checkFb) <| .islandAct <| .foldl (fun _ _ => .judgePulse) <|
    .islandAct <| .checkIsland <| .foldl (fun _ _ => .readOut) <| .resetOp <| .foldl (fun _ _ => .evalPair) <|
    .foldl (fun _ _ => .timePair) <| .foldl (fun _ _ => .readFb) <| .foldl (fun _ _ => .readPair) <| .tickIsland h

theorem Res.Canonical.execResetValidityExpiry (h : s.Canonical) : (execResetValidityExpiry s).Canonical :=
  .always h fun _ h => .ite (.wr h) h

theorem Res.Canonical.execSs1DelayEnd (h : s.Canonical) : (execSs1DelayEnd s).Canonical :=
  .always h fun _ h => .ite h <| .islandAct <| .wr <| .gateEnable <| .keep h

theorem Res.Canonical.execOutputTestPulse {j low next} (h : s.Canonical) : (execOutputTestPulse j low next s).Canonical :=
  .always h fun _ h => .ite (.setOutp <| .inc h) h

theorem Res.Canonical.execFeedbackMismatch {j} (h : s.Canonical) : (execFeedbackMismatch j s).Canonical :=
  .always h fun _ h => .ite (.islandAct <| .lockOut <| .setOutp h) h

theorem Res.Canonical.execControllerMessage (h : s.Canonical) : (execControllerMessage s).Canonical :=
  .onRun h fun _ h => .ite h <| .wr <| .keep h

theorem Res.Canonical.execControllerLinkLoss (h : s.Canonical) : (execControllerLinkLoss s).Canonical :=
  .always h fun _ h => .ite h <| .islandAct <| .inc <| .wr <| .keep h

theorem Res.Canonical.execControllerLinkRestore (h : s.Canonical) : (execControllerLinkRestore s).Canonical :=
  .always h fun _ h => .ite (.keep h) h

theorem State.Canonical.setPending {ws} (h : s.Canonical) : (s.setPending ws).Canonical := .foldl (fun _ _ => .setWord) h
theorem State.Canonical.setActive {ws} (h : s.Canonical) : (s.setActive ws).Canonical := .foldl (fun _ _ => .setWord) h
theorem State.Canonical.showParams (h : s.Canonical) : s.showParams.Canonical := .wr <| .wrB h

/-- The island's words are dropped. -/
theorem State.Canonical.islandOff {s : State} (h : s.Canonical) : s.islandOff.Canonical := ⟨h.mem, Words.wf_filter h.regs _⟩

theorem State.Canonical.startPair {l i} (h : s.Canonical) : (State.startPair l s i).Canonical := .wr <| .wrB <| .wrB h
theorem State.Canonical.startFb {l j} (h : s.Canonical) : (State.startFb l s j).Canonical := .wrB h

theorem State.Canonical.islandStart {i} (h : s.Canonical) : (s.islandStart i).Canonical :=
  .islandAct <| .gateEnable <| .keep <| .orElse (.orElse (.showParams <| .setPending <| .foldl (fun _ _ => .startFb) <|
    .foldl (fun _ _ => .startPair) <| .keep <| .islandOff h) .lockOut) .lockOut

theorem Res.Canonical.execIslandStart {i} (h : s.Canonical) : (execIslandStart i s).Canonical :=
  .always h fun _ h => .ite h <| .islandStart h

theorem Res.Canonical.execIslandWatchdog {i} (h : s.Canonical) : (execIslandWatchdog i s).Canonical :=
  .always h fun _ h => .ite (.islandAct <| .lockOut <| .islandStart h) h

theorem Res.Canonical.execProgramCrcCheck {ok} (h : s.Canonical) : (execProgramCrcCheck ok s).Canonical :=
  .always h fun _ h => .ite h <| .islandAct <| .orElse (.keep h) .lockOut

theorem State.Canonical.safetyRelease (h : s.Canonical) : s.safetyRelease.Canonical :=
  .showIsland <| .foldl (fun _ _ => .setPair) <| .keep <| .wr <| .wr <| .wr <| .wr <| .wr h

theorem VRes.Canonical.actSafeParamWrite {param} (h : s.Canonical) : (actSafeParamWrite param s).Canonical := by
  unfold Machine.actSafeParamWrite
  split
  · exact .no h
  · split
    · exact .no h
    · exact .ok <| .showParams <| .wr <| .setWord h

theorem VRes.Canonical.actSafeParamCommit {param} (h : s.Canonical) : (actSafeParamCommit param s).Canonical := by
  unfold Machine.actSafeParamCommit
  split
  · exact .no h
  · exact .ite (.res <| .st <| .no h) <| .ite (.no h) <| .wait h

theorem VRes.Canonical.actSafeParamDiscard {param} (h : s.Canonical) : (actSafeParamDiscard param s).Canonical := by
  unfold Machine.actSafeParamDiscard
  split
  · exact .no h
  · exact .ite (.no h) <| .ok <| .showParams <| .setPending h

theorem State.Canonical.dropUnused {i} (h : s.Canonical) : (s.dropUnused i).Canonical := .ite (.setPair h) h

theorem State.Canonical.commitSafe {ws} (h : s.Canonical) : (s.commitSafe ws).Canonical :=
  .islandAct <| .lockOut <| .keep <| .foldl (fun _ _ => .dropUnused) <| .showParams <| .setActive h

theorem Res.Canonical.execSafeParamCommitDone (h : s.Canonical) : (execSafeParamCommitDone s).Canonical := by
  refine .onRun h fun _ h => ?_
  split
  · exact h
  · split
    · exact .endBusy <| .commitSafe h
    · exact h

/-! ### Eth -/

theorem State.Canonical.setEth {p e} (h : s.Canonical) : (s.setEth p e).Canonical := .keep h
theorem State.Canonical.sendEth {p o} (h : s.Canonical) : (s.sendEth p o).Canonical := .ite (.put <| .inc h) h
theorem State.Canonical.askArp {p ip} (h : s.Canonical) : (s.askArp p ip).Canonical := .sendEth h

theorem State.Canonical.setGrid {st} (h : s.Canonical) : (s.setGrid st).Canonical :=
  .ite (.keep <| .keep <| .wrB <| .wrB <| .wr h) <| .when (.keep <| .wrB <| .wrB <| .wr h) .keep

theorem State.Canonical.gridLoss (h : s.Canonical) : s.gridLoss.Canonical := by
  unfold State.gridLoss
  split
  · exact .setGrid h
  · exact .setGrid h
  · exact h

theorem State.Canonical.setPtp {f} (h : s.Canonical) : (s.setPtp f).Canonical := .keep h
theorem State.Canonical.ptpBegin {p} (h : s.Canonical) : (s.ptpBegin p).Canonical := .wr <| .setPtp h

theorem Res.Canonical.execEthLinkUp {p speedBad remoteFault} (h : s.Canonical) : (execEthLinkUp p speedBad remoteFault s).Canonical :=
  .onRun h fun _ h => .ite h <| .ite (.wr <| .wrB h) <| .ptpBegin <| .askArp <| .setEth <| .wrB <| .wr <| .wr <| .wrB h

theorem State.Canonical.ethDown {p} (h : s.Canonical) : (s.ethDown p).Canonical :=
  .ite h <| .ptpBegin <| .setEth <| .inc <| .wr <| .wr <| .ite (.setPtp <| .gridLoss h) h

theorem Res.Canonical.execEthLinkDown {p} (h : s.Canonical) : (execEthLinkDown p s).Canonical := .onRun h fun _ => .ethDown

theorem State.Canonical.takeFrame {p f} (h : s.Canonical) : (s.takeFrame p f).Canonical := by
  unfold State.takeFrame
  split
  · exact .ite (.sendEth h) h
  · exact .setEth h
  · exact .ite (.inc h) <| .sendEth <| .setEth h
  · exact .inc h
  · exact h

theorem Res.Canonical.execEthFrameReceived {p f} (h : s.Canonical) : (execEthFrameReceived p f s).Canonical :=
  .onRun h fun _ h => .ite h <| .ite (.inc h) <| .ite h <| .ite (.inc h) <| .takeFrame <| .inc h

theorem Res.Canonical.execArpResolveRetry {p ip} (h : s.Canonical) : (execArpResolveRetry p ip s).Canonical := by
  refine .onRun h fun _ h => ?_
  dsimp only
  split
  · exact .ite (.askArp <| .setEth h) h
  · exact h

theorem Res.Canonical.execArpRenewal {p ip} (h : s.Canonical) : (execArpRenewal p ip s).Canonical := by
  refine .onRun h fun _ h => ?_
  dsimp only
  split
  · exact .ite h <| .ite (.setEth h) <| .askArp <| .setEth h
  · exact h

theorem VRes.Canonical.actMdioStart {p op phyad regad data} (h : s.Canonical) : (actMdioStart p op phyad regad data s).Canonical :=
  .ite (.no h) <| .ok <| .wr <| .wr <| .wr <| .wr <| .wrB h

theorem Res.Canonical.execMdioCycleDone {p data} (h : s.Canonical) : (execMdioCycleDone p data s).Canonical :=
  .onRun h fun _ h => .ite h <| .orElse (.wr h) fun h => .ite (.wr <| .takeFree h) <| .wr h

theorem State.Canonical.setTel {t x} (h : s.Canonical) : (s.setTel t x).Canonical := .keep h
theorem State.Canonical.tickTelegram {t} (h : s.Canonical) : (s.tickTelegram t).Canonical := .ite (.setTel h) <| .setTel <| .ite (.inc h) h

theorem State.Canonical.sendTelegram {t p n stage data} (h : s.Canonical) : (s.sendTelegram t p n stage data).Canonical := by
  unfold State.sendTelegram
  dsimp only
  split
  · exact .inc h
  · split
    · exact .askArp <| .setEth <| .inc h
    · split
      · exact .inc h
      · exact .wr <| .inc <| .sendEth h

theorem Res.Canonical.execTelegramLaunch {t} (h : s.Canonical) : (execTelegramLaunch t s).Canonical := by
  refine .onRun h fun _ h => ?_
  dsimp only
  split
  · exact .ite h <| .orElse (.setTel h) fun h => .ite (.inc h) <| .sendTelegram h
  · exact h

theorem State.Canonical.showParent {a steps port} (h : s.Canonical) : (s.showParent a steps port).Canonical :=
  .wr <| .wrB <| .wrB <| .wrB <| .wr <| .wr <| .wr <| .wr <| .wr <| .wr <| .ite h <| .inc h

theorem State.Canonical.followParent {a p} (h : s.Canonical) : (s.followParent a p).Canonical := .when (.setPtp <| .showParent h) .setGrid
theorem State.Canonical.enterSlave {p} (h : s.Canonical) : (s.enterSlave p).Canonical := .ite (.wr h) <| .ite h <| .when (.wr h) .setGrid

theorem State.Canonical.applyPort {timedOut p} (h : s.Canonical) : (State.applyPort timedOut s p).Canonical := by
  refine .ite h ?_
  split
  · exact h
  · split
    · exact .enterSlave <| .followParent h
    · exact h
  · exact .wr h

theorem State.Canonical.runBmca {timedOut} (h : s.Canonical) : (s.runBmca timedOut).Canonical :=
  .orElse (.foldl (fun _ _ => .applyPort) h) fun h => .when (.ite (.setPtp <| .gridLoss h) h) .showParent

theorem Res.Canonical.execPtpAnnounceReceived {p domain a} (h : s.Canonical) : (execPtpAnnounceReceived p domain a s).Canonical :=
  .onRun h fun _ h => .ite h <| .runBmca <| .setPtp h

theorem Res.Canonical.execPtpAnnounceTimeout {p} (h : s.Canonical) : (execPtpAnnounceTimeout p s).Canonical :=
  .onRun h fun _ h => .ite h <| .runBmca <| .when (.setPtp <| .inc h) .wr

theorem State.Canonical.restartPtp (h : s.Canonical) : s.restartPtp.Canonical := .ptpBegin <| .ptpBegin <| .setPtp <| .gridLoss h
theorem State.Canonical.removeOffset {offset} (h : s.Canonical) : (s.removeOffset offset).Canonical := .ite (.keep h) <| .keep h
theorem State.Canonical.servoStep {offset} (h : s.Canonical) : (s.servoStep offset).Canonical := .keep <| .setPtp h

theorem State.Canonical.gridAfter {offset} (h : s.Canonical) : (s.gridAfter offset).Canonical := by
  unfold State.gridAfter
  dsimp only
  split
  · exact .ite (.setGrid h) <| .setPtp h
  · exact .ite (.setGrid h) <| .setPtp h
  · exact .ite (.setGrid h) <| .setGrid h
  · exact h

theorem State.Canonical.takeSync {p delta} (h : s.Canonical) : (s.takeSync p delta).Canonical :=
  .gridAfter <| .ite (.removeOffset <| .wrS <| .setPtp <| .enterSlave h) <| .servoStep <| .wrS <| .setPtp <| .enterSlave h

theorem Res.Canonical.execPtpSyncReceived {p domain sender delta} (h : s.Canonical) :
    (execPtpSyncReceived p domain sender delta s).Canonical :=
  .onRun h fun _ h => .ite h <| .when (.inc h) .takeSync

theorem Res.Canonical.execPtpSyncLoss (h : s.Canonical) : (execPtpSyncLoss s).Canonical :=
  .onRun h fun _ h => .ite h <| .when (.when (.gridLoss h) .wr) .wr

theorem Res.Canonical.execPtpHoldoverExpiry (h : s.Canonical) : (execPtpHoldoverExpiry s).Canonical :=
  .onRun h fun _ h => .ite (.setGrid h) h

theorem State.Canonical.sendPtp {p kind} (h : s.Canonical) : (s.sendPtp p kind).Canonical := .sendEth <| .setPtp h

theorem Res.Canonical.execPtpSyncSend {p} (h : s.Canonical) : (execPtpSyncSend p s).Canonical :=
  .onRun h fun _ h => .ite (.setEth <| .setPtp h) h

theorem Res.Canonical.execTimedFrameLaunch {p late} (h : s.Canonical) : (execTimedFrameLaunch p late s).Canonical := by
  refine .onRun h fun _ h => ?_
  dsimp only
  split
  · exact h
  · exact .ite h <| .orElse (.setEth h) fun h => .when (.sendEth <| .inc h) .sendEth

theorem Res.Canonical.execPtpAnnounceSend {p} (h : s.Canonical) : (execPtpAnnounceSend p s).Canonical :=
  .onRun h fun _ h => .ite (.sendPtp h) h

theorem Res.Canonical.execPtpPdelayRequest {p} (h : s.Canonical) : (execPtpPdelayRequest p s).Canonical :=
  .onRun h fun _ h => .ite (.sendPtp <| .setPtp h) h

theorem Res.Canonical.execPtpPdelay {p times} (h : s.Canonical) : (execPtpPdelay p times s).Canonical := by
  refine .onRun h fun _ h => .ite h ?_
  split
  · exact .inc <| .setPtp h
  · exact .when (.wr <| .wrSat <| .setPtp h) .enterSlave

/-! ### Can -/

theorem State.Canonical.setCan {c x} (h : s.Canonical) : (s.setCan c x).Canonical := .keep h
theorem State.Canonical.showErr {c} (h : s.Canonical) : (s.showErr c).Canonical := .ite (.wrB h) h
theorem State.Canonical.setTx {c n t} (h : s.Canonical) : (s.setTx c n t).Canonical := .wrB <| .setCan h

theorem State.Canonical.queueTx {c n data oneShot started} {s0 : State} (h : s0.Canonical) :
    (s0.queueTx c n data oneShot started).Canonical := by
  unfold State.queueTx
  dsimp only
  split
  · exact .setTx <| .setCan h
  · exact .ite (.setTx <| .when (.setCan h) .inc) <| .setTx <| .inc <| .setCan h

theorem State.Canonical.hostTx {c n started} (h : s.Canonical) : (s.hostTx c n started).Canonical := .ite (.when (.queueTx h) .wr) h
theorem State.Canonical.timedTx {c n started} (h : s.Canonical) : (s.timedTx c n started).Canonical := .ite (.wr h) <| .queueTx h
theorem State.Canonical.nextTx {c n t} (h : s.Canonical) : (s.nextTx c n t).Canonical := .setTx h
theorem VRes.Canonical.actTxReq {c n started} (h : s.Canonical) : (actTxReq c n started s).Canonical := .ite (.no h) <| .ok <| .hostTx h

theorem Res.Canonical.execCanCycleTrigger {c n started} (h : s.Canonical) : (execCanCycleTrigger c n started s).Canonical :=
  .onRun h fun _ h => .ite (.timedTx h) h

theorem State.Canonical.stageTx {on c n} (h : s.Canonical) : (State.stageTx on c s n).Canonical := .ite (.timedTx h) h

theorem State.Canonical.emitCan {c id ide fdf brs dlc data} (h : s.Canonical) : (s.emitCan c id ide fdf brs dlc data).Canonical :=
  .ite (.setCan <| .takeFree h) <| .put h

theorem State.Canonical.canEnd {c} (h : s.Canonical) : (s.canEnd c).Canonical := .setCan h
theorem State.Canonical.canSent {c} (h : s.Canonical) : (s.canSent c).Canonical := .showErr <| .wr <| .inc h

theorem State.Canonical.sendSegment {c} (h : s.Canonical) : (s.sendSegment c).Canonical := by
  unfold State.sendSegment
  split
  · exact .canSent <| .ite (.nextReply <| .emitCan h) <| .keep <| .emitCan h
  · exact .nextReply h
  · exact h

theorem Res.Canonical.execCanTxDone {c n} (h : s.Canonical) : (execCanTxDone c n s).Canonical := by
  refine .onRun h fun _ h => .ite (.ite (.canEnd <| .sendSegment h) h) ?_
  split
  · exact .ite h <| .canEnd <| .nextTx <| .canSent <| .inc <| .wr <| .emitCan h
  · exact h

theorem State.Canonical.failTx {c n t err} (h : s.Canonical) : (s.failTx c n t err).Canonical := .nextTx <| .inc <| .wr <| .wr h
theorem State.Canonical.canErr {c err} (h : s.Canonical) : (s.canErr c err).Canonical := .showErr <| .orElse (.inc h) .wrSat

theorem Res.Canonical.execCanTxError {c n err} (h : s.Canonical) : (execCanTxError c n err s).Canonical := by
  refine .onRun h fun _ h => .ite (.ite h <| .ite (.canEnd h) <| .canEnd <| .canErr h) ?_
  split
  · exact .ite h <| .ite (.canEnd h) <| .canEnd <| .ite (.failTx <| .canErr h) <| .wr <| .canErr h
  · exact h

theorem Res.Canonical.execCanOneshotDeadline {c n} (h : s.Canonical) : (execCanOneshotDeadline c n s).Canonical := by
  refine .onRun h fun _ h => ?_
  split
  · exact .ite (.failTx h) h
  · exact h

theorem State.Canonical.canRecover {c} (h : s.Canonical) : (s.canRecover c).Canonical := .ite h <| .wr <| .setCan h
theorem State.Canonical.busOffTx {c p} (h : s.Canonical) : (State.busOffTx c s p).Canonical := .ite (.wr <| .setTx h) <| .wr h

theorem Res.Canonical.execCanBusoff {c} (h : s.Canonical) : (execCanBusoff c s).Canonical :=
  .onRun h fun _ h => .ite h <| .foldl (fun _ _ => .busOffTx) <| .ite (.canRecover <| .wr <| .inc <| .wr h) <| .wr <| .wr <| .inc <| .wr h

theorem Res.Canonical.execCanRecoveryDone {c} (h : s.Canonical) : (execCanRecoveryDone c s).Canonical :=
  .onRun h fun _ h => .ite (.wr <| .wr <| .wr <| .wr h) h

theorem State.Canonical.countTaken {c n} (h : s.Canonical) : (s.countTaken c n).Canonical := .wr <| .inc <| .inc <| .setCan h

theorem State.Canonical.queueRx {c n f ageNs} (h : s.Canonical) : (s.queueRx c n f ageNs).Canonical :=
  .ite (.inc <| .inc <| .wr h) <| .countTaken <| .wr <| .foldl (fun _ _ => .setWord) h

theorem State.Canonical.canSetpoint {c n f} (h : s.Canonical) : (s.canSetpoint c n f).Canonical := by
  unfold State.canSetpoint
  dsimp only
  split
  · exact .inc h
  · exact .dueSet h

theorem State.Canonical.deliverFrames {c l} {s : State} (h : s.Canonical) : (deliverFrames c l s).Canonical := by
  induction l generalizing s with
  | nil => exact h
  | cons p l ih =>
    unfold Machine.deliverFrames
    dsimp only
    split
    · exact ih h
    · exact .ite (ih <| .orElse (.countTaken h) .canSetpoint) (ih (.queueRx h))

theorem State.Canonical.deliverCan {c} (h : s.Canonical) : (s.deliverCan c).Canonical := .deliverFrames <| .setCan h
theorem State.Canonical.ackRx {c n k} (h : s.Canonical) : (s.ackRx c n k).Canonical := .wr <| .wr <| .wr h

theorem VRes.Canonical.actAck {c n count} (h : s.Canonical) : (actAck c n count s).Canonical :=
  .ite (.no h) <| .ite (.no h) <| .ite (.ok h) <| .ok <| .ackRx h

theorem Res.Canonical.execCanRxStale {c n} (h : s.Canonical) : (execCanRxStale c n s).Canonical := .onRun h fun _ h => .ite (.wr h) h

theorem State.Canonical.beginCycle {c count ageNs master} (h : s.Canonical) : (s.beginCycle c count ageNs master).Canonical :=
  .when (.wr <| .wrB <| .wr <| .setCan h) .wr

theorem State.Canonical.takeReference {c f ageNs} (h : s.Canonical) : (s.takeReference c f ageNs).Canonical := .ite h <| .beginCycle h

theorem Res.Canonical.execCanFrameReceived {c f ageNs} (h : s.Canonical) : (execCanFrameReceived c f ageNs s).Canonical :=
  .onRun h fun _ h => .ite h <| .when (.setCan <| .showErr <| .wr h) .takeReference

theorem State.Canonical.sendReference {c ageNs acked} (h : s.Canonical) : (s.sendReference c ageNs acked).Canonical := by
  unfold State.sendReference
  dsimp only
  exact .beginCycle <| .when (.setCan <| .emitCan h) .inc

theorem Res.Canonical.execCanReferenceSend {c ageNs acked} (h : s.Canonical) : (execCanReferenceSend c ageNs acked s).Canonical :=
  .onRun h fun _ h => .ite (.sendReference h) h

theorem Res.Canonical.execCanBackupMasterTimeout {c ageNs acked} (h : s.Canonical) :
    (execCanBackupMasterTimeout c ageNs acked s).Canonical :=
  .onRun h fun _ h => .ite (.sendReference h) h

theorem Res.Canonical.execBusTimeCycleMissing (h : s.Canonical) : (execBusTimeCycleMissing s).Canonical := by
  refine .onRun h fun _ h => ?_
  split
  · exact .ite h <| .when (.wr <| .wr <| .keep <| .setCan h) .wr
  · exact h

theorem State.Canonical.tickBus (h : s.Canonical) : s.tickBus.Canonical := by
  unfold State.tickBus
  split
  · exact .keep h
  · exact .keep <| .setCan <| .setTime h

theorem State.Canonical.hearRecord {c f ageNs} (h : s.Canonical) : (s.hearRecord c f ageNs).Canonical :=
  .when (.ite h <| .setCan h) .takeReference

theorem State.Canonical.restartCan {c} (h : s.Canonical) : (s.restartCan c).Canonical :=
  .keep <| .wr <| .wr <| .wr <| .wr <| .wr <| .wr <| .wr <| .wr <| .setCan <| .foldl (fun _ _ => .wr) h

/-- An object is given its ring, or passed over. -/
theorem State.Canonical.assignRing {c old n} {r : State × Nat} (h : r.1.Canonical) : (State.assignRing c old r n).1.Canonical :=
  .fstIte h <| .orElse h fun h => .wr <| .wr <| .wr <| .wr h

theorem State.Canonical.restartTimeout {c n} {old : State} (h : s.Canonical) : (State.restartTimeout c old s n).Canonical :=
  .ite (.setCan h) h

theorem State.Canonical.assignRings {old c} {s : State} (h : s.Canonical) : (s.assignRings old c).Canonical :=
  .foldl (fun _ _ => .restartTimeout) <|
    List.foldlRecOn (motive := fun r : State × Nat => r.1.Canonical) _ _ h fun _ hr _ _ => .assignRing hr

theorem State.Canonical.showCanPath {c} (h : s.Canonical) : (s.showCanPath c).Canonical :=
  .wr <| .wr <| .wr <| .wr <| .wr <| .wr <| .wr <| .wr <| .wr <| .wr <| .wr h

/-! ### Store -/

theorem Res.Canonical.execEccWriteback {word} (h : s.Canonical) : (execEccWriteback word s).Canonical := .onRun h fun _ => .keep
theorem State.Canonical.marchFail {ix} (h : s.Canonical) : (s.marchFail ix).Canonical := .raiseEach <| .see <| .wr <| .wr <| .wr h
theorem State.Canonical.marchReads {ecc} (h : s.Canonical) : (s.marchReads ecc).Canonical := .keep <| .foldl (fun _ _ => .eccHit) h

theorem State.Canonical.marchNext (h : s.Canonical) : s.marchNext.Canonical :=
  .ite (.keep h) <| .ite (.wr <| .keep h) <| .inc <| .wr <| .keep h

theorem Res.Canonical.execMarchPreservingBlock {failWord ecc} (h : s.Canonical) : (execMarchPreservingBlock failWord ecc s).Canonical := by
  refine .onRun h fun _ h => .ite h <| .marchNext <| .marchReads ?_
  split
  · exact .marchFail h
  · exact h

theorem State.Canonical.showMarch (h : s.Canonical) : s.showMarch.Canonical := .wr h
theorem State.Canonical.lockMon (h : s.Canonical) : s.lockMon.Canonical := .ite (.event <| .wr <| .wr h) h
theorem State.Canonical.mapOps {f} (h : s.Canonical) : (s.mapOps f).Canonical := .foldl (fun _ _ => .keep) h

theorem Res.Canonical.execTamperEvent {src} (h : s.Canonical) : (execTamperEvent src s).Canonical := by
  refine .always h fun _ h => .ite h <| .raiseEach <| .lockMon <| .mapOps <| .takeFree ?_
  split
  · exact .wr <| .see <| .wipe h
  · exact .wr <| .see <| .wipe h
  · exact .see <| .wipe h

/-- The bytes of the secure region are dropped. -/
theorem State.Canonical.fillSecure {s : State} (h : s.Canonical) : s.fillSecure.Canonical :=
  ⟨Memory.wf_clear h.mem _ _, Words.wf_setWord h.regs _ _⟩

theorem Res.Canonical.execSecureRegionFill (h : s.Canonical) : (execSecureRegionFill s).Canonical :=
  .always h fun _ h => .ite (.fillSecure h) h

theorem Res.Canonical.execTamperFlashMarker (h : s.Canonical) : (execTamperFlashMarker s).Canonical := .always h fun _ h => .ite (.keep h) h

theorem VRes.Canonical.actSnapshot {ranges} (h : s.Canonical) : (actSnapshot ranges s).Canonical := by
  unfold Machine.actSnapshot
  split
  · exact .no h
  · exact .wait h

theorem State.Canonical.copySnap {i bytes} (h : s.Canonical) : (s.copySnap i bytes).Canonical :=
  .wr <| .wr <| .wr <| .wr <| .wr <| .wr <| .store h

theorem State.Canonical.captureFor {i} {image : State} (h : s.Canonical) : (image.captureFor s i).Canonical := by
  refine .foldl (fun _ _ h => ?_) h
  split
  · exact .copySnap h
  · exact h

theorem State.Canonical.captureSnaps (h : s.Canonical) : s.captureSnaps.Canonical := .mapOps <| .foldl (fun _ _ => .captureFor) h

theorem State.Canonical.recaptureFor {i} {image : State} (h : s.Canonical) : (image.recaptureFor s i).Canonical := by
  refine .foldl (fun _ _ h => ?_) h
  split
  · exact .ite (.copySnap h) h
  · exact h

theorem State.Canonical.recaptureSnaps (h : s.Canonical) : s.recaptureSnaps.Canonical := .foldl (fun _ _ => .recaptureFor) h

theorem VRes.Canonical.actCrc {channel start len} (h : s.Canonical) : (actCrc channel start len s).Canonical :=
  .orElse (.no h) fun h' => .ite (.ite h' <| .ite (.no h) <| .wait h) <| .ite h' <| .ite (.ite (.no h) <| .ite (.no h) <| .okRead h) <|
    .ite (.no h) <| .wait h

theorem Res.Canonical.execSnapshotCopyDone {session} (h : s.Canonical) : (execSnapshotCopyDone session s).Canonical := by
  refine .onRun h fun _ h => ?_
  split
  · exact .ite h <| .endBusy <| .wr <| .wr h
  · exact h

theorem State.Canonical.captureCrcs (h : s.Canonical) : s.captureCrcs.Canonical := by
  refine .foldl (fun _ _ h => .foldl (fun _ _ h => ?_) h) h
  split
  · exact .ite h <| .endBusy h
  · exact h

theorem State.Canonical.loadWords {words} (h : s.Canonical) : (s.loadWords words).Canonical := .foldl (fun _ _ => .setWord) h
theorem State.Canonical.showDirty (h : s.Canonical) : s.showDirty.Canonical := .wrB h
theorem State.Canonical.newChallenge (h : s.Canonical) : s.newChallenge.Canonical := .foldl (fun _ _ h => .wr <| .takeFree h) <| .keep h

theorem VRes.Canonical.actSaveConfig (h : s.Canonical) : (actSaveConfig s).Canonical :=
  .ite (.no <| .newChallenge h) <| .ite (.no <| .newChallenge h) <| .ite (.no <| .newChallenge h) <| .wait <| .newChallenge h

theorem Res.Canonical.execConfigRecordWritten {flashOk} (h : s.Canonical) : (execConfigRecordWritten flashOk s).Canonical := by
  refine .onRun h fun _ h => ?_
  split
  · split
    · exact .endBusy <| .showDirty <| .keep h
    · exact h
  · exact h

theorem Res.Canonical.execLcNonceRefresh (h : s.Canonical) : (execLcNonceRefresh s).Canonical :=
  .onRun h fun _ h => .ite (.newChallenge h) h

theorem VRes.Canonical.actLifecycle {target authKind key sig} (h : s.Canonical) : (actLifecycle target authKind key sig s).Canonical := by
  unfold Machine.actLifecycle
  split
  · exact .no <| .newChallenge h
  · exact .wait <| .wr <| .wipe <| .newChallenge h

theorem Res.Canonical.execLifecycleTransition {r target authKind newKey signature} (h : s.Canonical) :
    (execLifecycleTransition r target authKind newKey signature s).Canonical :=
  .execVerb h fun _ => .actLifecycle

theorem State.Canonical.lcInstall {target key tampered} (h : s.Canonical) : (s.lcInstall target key tampered).Canonical :=
  .wrB <| .keep <| .inc <| .wr h

theorem Res.Canonical.execLifecycleComplete {flashOk} (h : s.Canonical) : (execLifecycleComplete flashOk s).Canonical := by
  refine .onRun h fun _ h => ?_
  split
  · split
    · exact .ite (.endBusy <| .event <| .lockMon <| .lcInstall <| .wr h) <| .endBusy <| .wr h
    · exact h
  · exact h

theorem State.Canonical.showFw (h : s.Canonical) : s.showFw.Canonical :=
  .wr <| .wr <| .wr <| .wr <| .wr <| .wrB <| .wr <| .wr <| .wr <| .wr <| .wrB <| .wr h

theorem State.Canonical.setImg {b x} (h : s.Canonical) : (s.setImg b x).Canonical := .showFw <| .keep h

theorem VRes.Canonical.actFwBegin {i size} (h : s.Canonical) : (actFwBegin i size s).Canonical :=
  .ite (.no h) <| .ite (.no h) <| .wait <| .keep <| .setImg h

theorem Res.Canonical.execFirmwareBeginDone {flashOk} (h : s.Canonical) : (execFirmwareBeginDone flashOk s).Canonical := by
  refine .onRun h fun _ h => ?_
  split
  · exact .ite (.endBusy h) <| .endBusy <| .keep h
  · exact h

theorem VRes.Canonical.actFwWrite {i offset data} (h : s.Canonical) : (actFwWrite i offset data s).Canonical := by
  unfold Machine.actFwWrite
  dsimp only
  split
  · exact .no h
  · exact .ite (.no h) <| .ite (.no h) <| .ok <| .setImg h

theorem VRes.Canonical.actFwCommit {i} (h : s.Canonical) : (actFwCommit i s).Canonical := by
  unfold Machine.actFwCommit
  split
  · exact .no h
  · exact .ite (.no h) <| .wait h

theorem Res.Canonical.execFirmwareCommitDone (h : s.Canonical) : (execFirmwareCommitDone s).Canonical := by
  refine .onRun h fun _ h => ?_
  split
  · split
    · exact .ite (.endBusy <| .setImg <| .keep h) <| .endBusy <| .keep h
    · exact h
  · exact h

theorem VRes.Canonical.actFwAbort {i} (h : s.Canonical) : (actFwAbort i s).Canonical := .ite (.ok <| .keep h) <| .ok h

theorem VRes.Canonical.actFwActivate (h : s.Canonical) : (actFwActivate s).Canonical := by
  refine .ite (.no h) <| .ite (.no h) ?_
  split
  · exact .no h
  · exact .ok <| .keep <| .setImg h

theorem Res.Canonical.execFirmwareConfirm (h : s.Canonical) : (execFirmwareConfirm s).Canonical :=
  .onRun h fun _ h => .ite (.setImg <| .keep h) h

theorem Res.Canonical.execFlashCrcDone (h : s.Canonical) : (execFlashCrcDone s).Canonical := by
  refine .onRun h fun _ h => ?_
  split
  · split
    · split
      · exact .endBusy h
      · exact .endBusy <| .takeFree h
    · exact h
  · exact h

/-! ### Monitor -/

theorem State.Canonical.sawLine (h : s.Canonical) : s.sawLine.Canonical := .when (.keep h) .wr

theorem State.Canonical.dumpLines {n a bs} {s : State} (h : s.Canonical) : (State.dumpLines n a bs s).Canonical := by
  induction n generalizing s a bs with
  | zero => exact h
  | succ n ih =>
    unfold State.dumpLines
    exact .ite h <| ih <| .monPut h

theorem State.Canonical.monDump {a n elapsed ecc} (h : s.Canonical) : (s.monDump a n elapsed ecc).Canonical := by
  refine .ite (.monErr h) <| .ite (.ite (.monErr h) <| .ite (.monErr h) <| .ite (.monErr <| .dumpLines <|
    .foldl (fun _ _ => .eccHit) h) <| .monOk <| .dumpLines <| .foldl (fun _ _ => .eccHit) h) ?_
  split
  · exact .monErr h
  · exact .monOk <| .dumpLines h

theorem State.Canonical.monPrbs {param} (h : s.Canonical) : (s.monPrbs param).Canonical := by
  unfold State.monPrbs
  split
  · exact .monErr h
  · split
    · exact .monErr h
    · exact .startPrbs <| .keep h

theorem State.Canonical.monInject {param} (h : s.Canonical) : (s.monInject param).Canonical := by
  unfold State.monInject
  split
  · exact .monErr h
  · split
    · exact .monErr h
    · exact .startInject h

theorem State.Canonical.unlockFails (h : s.Canonical) : s.unlockFails.Canonical := .monErr <| .inc <| .keep h

theorem State.Canonical.monUnlock {sig} (h : s.Canonical) : (s.monUnlock sig).Canonical :=
  .ite (.monOk <| .event <| .inc <| .wr <| .wr <| .newChallenge h) <| .unlockFails <| .newChallenge h

theorem State.Canonical.monAct {c} (h : s.Canonical) : (s.monAct c).Canonical := by
  unfold State.monAct
  split
  · exact .monOk <| .safeState h
  · exact .monDump h
  · exact .monPrbs h
  · exact .monInject h
  · exact .monOk h
  · exact .ite (.monErr h) <| .monOk h
  · exact .ite (.monErr <| .newChallenge h) <| .monUnlock h
  · exact .monOk <| .lockMon h

theorem State.Canonical.monCmd {c} (h : s.Canonical) : (s.monCmd c).Canonical :=
  .ite (.monErr <| .sawLine h) <| .ite (.monErr <| .sawLine h) <| .ite (.monErr <| .sawLine h) <| .monAct <| .sawLine h

theorem Res.Canonical.execMonHalt (h : s.Canonical) : (execMonHalt s).Canonical := .onRun h fun _ => .monCmd

theorem Res.Canonical.execMonDump {addr len elapsed ecc} (h : s.Canonical) : (execMonDump addr len elapsed ecc s).Canonical :=
  .onRun h fun _ => .monCmd

theorem Res.Canonical.execMonPrbs {link pattern duration} (h : s.Canonical) : (execMonPrbs link pattern duration s).Canonical :=
  .onRun h fun _ => .monCmd

theorem Res.Canonical.execMonInject {link kind n hop} (h : s.Canonical) : (execMonInject link kind n hop s).Canonical :=
  .onRun h fun _ => .monCmd

theorem Res.Canonical.execMonStat (h : s.Canonical) : (execMonStat s).Canonical := .onRun h fun _ => .monCmd
theorem Res.Canonical.execMonUnlockChallenge (h : s.Canonical) : (execMonUnlockChallenge s).Canonical := .onRun h fun _ => .monCmd

theorem Res.Canonical.execMonUnlock {signature} (h : s.Canonical) : (execMonUnlock signature s).Canonical :=
  .onRun h fun _ h => .ite (.monCmd h) <| .monErr <| .sawLine h

theorem Res.Canonical.execMonLock (h : s.Canonical) : (execMonLock s).Canonical := .onRun h fun _ => .monCmd
theorem Res.Canonical.execMonUnlockIdle (h : s.Canonical) : (execMonUnlockIdle s).Canonical := .onRun h fun _ h => .ite (.lockMon h) h
theorem Res.Canonical.execMonAuthBackoffEnd (h : s.Canonical) : (execMonAuthBackoffEnd s).Canonical := .onRun h fun _ h => .ite (.keep h) h

theorem State.Canonical.textLine {line} (h : s.Canonical) : (s.textLine line).Canonical := by
  unfold State.textLine
  split
  · exact .countNotPacket h
  · exact .monPut <| .countNotPacket h
  · exact .ite (.refuseReceived h) <| .takeBytes h

theorem Res.Canonical.execMonLine {line} (h : s.Canonical) : (execMonLine line s).Canonical := by
  refine .onRun h fun _ h => .ite (.countNotPacket <| .sawLine h) <| .ite ?_ <| .textLine <| .sawLine h
  split
  · exact .monCmd h
  · exact .monErr <| .sawLine h

theorem Res.Canonical.execMonBreak (h : s.Canonical) : (execMonBreak s).Canonical := .onRun h fun _ h => .see <| .wr h

theorem Res.Canonical.execMonFramingError (h : s.Canonical) : (execMonFramingError s).Canonical :=
  .onRun h fun _ h => .countNotPacket <| .inc h

theorem Res.Canonical.execMonLineStall (h : s.Canonical) : (execMonLineStall s).Canonical := .onRun h fun _ h => h

theorem State.Canonical.monProgress (h : s.Canonical) : s.monProgress.Canonical := by
  unfold State.monProgress
  split
  · exact h
  · exact .ite (.keep h) <| .ite h <| .monPut <| .keep h

theorem State.Canonical.tickMon (h : s.Canonical) : s.tickMon.Canonical := .when (.keep <| .monProgress h) .wr

/-! ### Faults -/

theorem State.Canonical.showLatch {i} (h : s.Canonical) : (s.showLatch i).Canonical := .ite (.wrB h) h
theorem State.Canonical.showFaults (h : s.Canonical) : s.showFaults.Canonical := .wr <| .wr <| .foldl (fun _ _ => .showLatch) h

theorem State.Canonical.latchF3 {f} (h : s.Canonical) : (s.latchF3 f).Canonical := by
  unfold State.latchF3
  split
  · exact .wr <| .wr <| .wr <| .wr <| .wr h
  · exact h

theorem State.Canonical.raiseOne {f} (h : s.Canonical) : (s.raiseOne f).Canonical := by
  refine .ite h <| .keep <| .when ?_ .latchF3
  split
  · exact .inc <| .journal h
  · exact .journal h

theorem State.Canonical.slideTrips (h : s.Canonical) : s.slideTrips.Canonical := .wrSat <| .keep h

theorem State.Canonical.react {l} (h : s.Canonical) : (s.react l).Canonical := by
  unfold State.react
  dsimp only
  split
  · exact .ite (.keep h) <| .inc <| .goTo h
  · exact .when (.ite (.foldl (fun _ _ => .stopGroup) h) h) fun h => .goTo <| .keep h

theorem State.Canonical.raiseAll (h : s.Canonical) : s.raiseAll.Canonical :=
  .react <| .slideTrips <| .foldl (fun _ _ => .raiseOne) <| .keep h

theorem State.Canonical.islandReact {code} (h : s.Canonical) : (s.islandReact code).Canonical :=
  .ite (.ite (.keep h) <| .goTo h) <| .ite (.goTo <| .keep h) h

theorem State.Canonical.takeReport {r} (h : s.Canonical) : (s.takeReport r).Canonical := .orElse (.keep <| .journal h) .islandReact
theorem State.Canonical.takeReports (h : s.Canonical) : s.takeReports.Canonical := .foldl (fun _ _ => .takeReport) <| .keep h

theorem State.Canonical.recordSlot (h : s.Canonical) : s.recordSlot.Canonical :=
  .ite h <| .when (.keep <| .wr <| .store <| .ite (.store h) h) .inc

theorem State.Canonical.takeTrigger (h : s.Canonical) : s.takeTrigger.Canonical :=
  .ite h <| .ite (.inc <| .keep h) <| .keep <| .wr <| .wr <| .wr <| .keep h

theorem Res.Canonical.execLogbookFrozen (h : s.Canonical) : (execLogbookFrozen s).Canonical :=
  .onRun h fun _ h => .ite (.event <| .wr <| .wr h) h

theorem VRes.Canonical.actLogbookTrigger (h : s.Canonical) : (actLogbookTrigger s).Canonical := .ite (.ok h) <| .okNext <| .askTrigger h

theorem VRes.Canonical.actLogbookRelease (h : s.Canonical) : (actLogbookRelease s).Canonical :=
  .ite (.no h) <| .ite (.ok <| .keep <| .event <| .wr h) <| .ok h

theorem VRes.Canonical.actLogbookRead {slot firstCell count ecc} (h : s.Canonical) :
    (actLogbookRead slot firstCell count ecc s).Canonical :=
  .ite (.no h) <| .okRead h

theorem Res.Canonical.execLogbookRead {r slot firstCell count ecc} (h : s.Canonical) :
    (execLogbookRead r slot firstCell count ecc s).Canonical :=
  .execVerb h fun _ => .actLogbookRead

theorem VRes.Canonical.actJournal {start count} (h : s.Canonical) : (actJournal start count s).Canonical := .ite (.no h) <| .okRead h

theorem State.Canonical.releaseFaults (h : s.Canonical) : s.releaseFaults.Canonical :=
  .when (.when (.wr <| .wr <| .foldl (fun _ _ => .setWord) <| .ite (.keep h) h) fun h => .wr <| .keep h) .goTo

theorem State.Canonical.clearAll {params token} (h : s.Canonical) : (s.clearAll params token).Canonical :=
  .event <| .when (.when (.when (.when (.ite (.releaseFaults h) h) .clearDriveTrips) .canRecover) .canRecover) .safetyRelease

theorem State.Canonical.afterSafety {params} (h : s.Canonical) : (s.afterSafety params).Canonical := .ite (.newNonce <| .takeFree h) h

theorem VRes.Canonical.actClear {params token} (h : s.Canonical) : (actClear params token s).Canonical := by
  refine .ite (.no h) ?_
  split
  · exact .no <| .afterSafety h
  · exact .okNext <| .afterSafety <| .clearAll h

/-! ### Pair -/

theorem State.Canonical.setGrant {b} (h : s.Canonical) : (s.setGrant b).Canonical := .gateEnable <| .keep h
theorem State.Canonical.dropClaim (h : s.Canonical) : s.dropClaim.Canonical := .setGrant <| .keep h
theorem State.Canonical.leaveStep {rejoin} (h : s.Canonical) : (s.leaveStep rejoin).Canonical := .foldl (fun _ _ => .wr) <| .wr <| .keep h
theorem State.Canonical.dropPorter (h : s.Canonical) : s.dropPorter.Canonical := .foldl (fun _ _ => .unpermit) <| .keep h
theorem Res.Canonical.execIlkClaimLoss (h : s.Canonical) : (execIlkClaimLoss s).Canonical := .onRun h fun _ => .keep
theorem Res.Canonical.execClaimHwDrop (h : s.Canonical) : (execClaimHwDrop s).Canonical := .onRun h fun _ h => .ite (.dropClaim h) h

theorem Res.Canonical.execClaimDecision (h : s.Canonical) : (execClaimDecision s).Canonical :=
  .onRun h fun _ h => .ite h <| .ite (.leaveStep h) <| .ite (.keep h) h

theorem Res.Canonical.execPartnerClaimPresent (h : s.Canonical) : (execPartnerClaimPresent s).Canonical :=
  .onRun h fun _ h => .ite h <| .ite (.raise <| .setGrant <| .keep h) <| .when (.setGrant <| .keep h) fun h => .leaveStep <| .dropClaim h

theorem State.Canonical.yieldTo (h : s.Canonical) : s.yieldTo.Canonical := .event <| .inc <| .wr <| .wr <| .wr <| .keep h

theorem Res.Canonical.execKeeperGrant (h : s.Canonical) : (execKeeperGrant s).Canonical :=
  .onRun h fun _ h => .ite h <| .when (.setGrant h) .keep

theorem State.Canonical.sendParts {a b} (h : s.Canonical) : (s.sendParts a b).Canonical := .put <| .put h
theorem State.Canonical.beginFrame (h : s.Canonical) : s.beginFrame.Canonical := .sendParts <| .keep h

theorem Res.Canonical.execPairFrameLaunch (h : s.Canonical) : (execPairFrameLaunch s).Canonical :=
  .onRun h fun _ h => .ite h <| .ite (.when (.beginFrame <| .keep h) fun h => .leaveStep <| .keep h) <| .sendParts <| .keep h

theorem State.Canonical.endFrame (h : s.Canonical) : s.endFrame.Canonical := by
  unfold State.endFrame
  dsimp only
  split
  · exact .keep h
  · exact .sendParts <| .keep h

theorem State.Canonical.takeDigest {k} (h : s.Canonical) : (s.takeDigest k).Canonical := .keep h

theorem State.Canonical.compareDigests {sameIn sameOut} (h : s.Canonical) : (s.compareDigests sameIn sameOut).Canonical :=
  .ite (.when (.keep h) .keep) <| .ite (.keep h) <| .ite h <| .ite (.ite (.leaveStep <| .raise h) <| .dropPorter h) <| .event <| .inc <|
    .keep h

theorem State.Canonical.takePartnerDigest {body} (h : s.Canonical) : (s.takePartnerDigest body).Canonical := by
  refine .ite h ?_
  split
  · exact .when (.keep h) .compareDigests
  · exact .keep h

theorem Res.Canonical.execDigestMissing (h : s.Canonical) : (execDigestMissing s).Canonical :=
  .onRun h fun _ h => .ite h <| .ite (.leaveStep h) <| .dropPorter h

theorem State.Canonical.takeCtrl {b} (h : s.Canonical) : (s.takeCtrl b).Canonical :=
  .when (.partnerLocks <| .keep h) fun h => .foldl (fun _ _ => .wr) <| .wr h

theorem State.Canonical.openMirror {i src base} (h : s.Canonical) : (s.openMirror i src base).Canonical :=
  .setSess <| .wr <| .openSess <| .closeSess h

theorem State.Canonical.mirrorPacket {src bs} (h : s.Canonical) : (s.mirrorPacket src bs).Canonical := by
  unfold State.mirrorPacket
  split
  · exact .ite (.openMirror h) <| .orElse (.ite h <| .openMirror h) fun h => .drainRefused <| .addWaiting <| .countAccepted h
  · exact h

theorem State.Canonical.takeChunk {src b} (h : s.Canonical) : (s.takeChunk src b).Canonical :=
  .orElse (.keep h) fun _ => .ite (.mirrorPacket <| .keep h) <| .keep h

theorem State.Canonical.takeKeeperRecord {onB src r} (h : s.Canonical) : (State.takeKeeperRecord onB src s r).Canonical :=
  .ite h <| .ite (.takeCtrl <| .keep h) <| .ite (.takePartnerDigest <| .keep h) <| .ite (.takeChunk <| .keep h) <| .when (.keep h) .keep

theorem State.Canonical.pairCounts {type b bytes invalid} (h : s.Canonical) : (s.pairCounts type b bytes invalid).Canonical :=
  .inc <| .inc h

theorem Res.Canonical.execKeeperFrameReceived {b frame frames src serial} (h : s.Canonical) :
    (execKeeperFrameReceived b frame frames src serial s).Canonical :=
  .onRun h fun _ h => .orElse (.ite (.pairCounts h) h) fun h => .ite h <| .foldl (fun _ _ => .takeKeeperRecord) <| .wr <| .keep h

theorem State.Canonical.takePorterRecord {r} (h : s.Canonical) : (s.takePorterRecord r).Canonical :=
  .ite (.takeCtrl h) <| .ite (.takePartnerDigest h) <| .ite (.keep h) <| .ite (.keep h) h

theorem Res.Canonical.execPorterFrameReceived {b frame serial} (h : s.Canonical) : (execPorterFrameReceived b frame serial s).Canonical :=
  .onRun h fun _ h => .orElse (.ite (.pairCounts h) h) fun h => .ite h <| .foldl (fun _ _ => .takePorterRecord) <| .wr h

theorem State.Canonical.takeEntry {p} (h : s.Canonical) : (s.takeEntry p).Canonical :=
  .ite (.wrB <| .noLedger h) <| .setCell <| .cellThermal <| .wrB <| .wr <| .wr <| .wr <| .wr <| .foldl (fun _ _ => .setWord) <|
    .takeFree <| .takeFree h

theorem State.Canonical.takeMeas {e} (h : s.Canonical) : (s.takeMeas e).Canonical := .handEntry h
theorem State.Canonical.takeHvs {b} (h : s.Canonical) : (s.takeHvs b).Canonical := .keep <| .setWord h

theorem State.Canonical.raiseMirrored {l} (h : s.Canonical) : (s.raiseMirrored l).Canonical :=
  .applyGoto <| .foldl (fun _ _ h => .ite (.islandReact h) h) <| .react <| .foldl (fun _ _ => .raiseOne) <| .ite h <| .keep <|
    .driveTrips <| .keep h

theorem State.Canonical.latchSet (h : s.Canonical) : s.latchSet.Canonical := by
  refine .snapView <| .keep <| .raiseMirrored <| .deliverCan <| .deliverCan <| .foldl (fun _ _ => .hearRecord) ?_
  split
  · refine .takeHvs <| .foldl (fun _ _ => .takeMeas) <| .foldl (fun _ _ => .wr) <| .foldl (fun _ _ h => ?_) <| .ite h <| .inc h
    split
    · exact .takeEntry h
    · exact .noLedger h
  · refine .foldl (fun _ _ => .takeMeas) <| .foldl (fun _ _ => .wr) <| .foldl (fun _ _ h => ?_) <| .ite h <| .inc h
    split
    · exact .takeEntry h
    · exact .noLedger h

theorem Res.Canonical.execPorterLatch (h : s.Canonical) : (execPorterLatch s).Canonical := .onRun h fun _ h => .ite (.latchSet h) h

theorem Res.Canonical.execSelfcheckOutcome (h : s.Canonical) : (execSelfcheckOutcome s).Canonical := by
  refine .onRun h fun _ h => ?_
  split
  · refine .ite ?_ <| .when (.keep <| .ite h <| .inc h) fun h' => ?_
    · split
      · exact .raise <| .dropPorter <| .keep <| .ite h <| .inc h
      · exact .raise <| .dropPorter <| .keep <| .ite h <| .inc h
      · exact .keep <| .dropClaim <| .keep <| .ite h <| .inc h
      · exact .raise <| .keep <| .ite h <| .inc h
    · split
      · exact .raise <| .leaveStep <| .keep <| .ite h <| .inc h
      · exact .keep <| .ite h <| .inc h
      · exact .raise <| .leaveStep <| .keep <| .ite h <| .inc h
  · exact h

theorem State.Canonical.claimFor {cause} (h : s.Canonical) : (s.claimFor cause).Canonical := .keep h

theorem Res.Canonical.execTakeoverClaim (h : s.Canonical) : (execTakeoverClaim s).Canonical :=
  .onRun h fun _ h => .ite h <| .ite (.ite (.ite (.raise <| .leaveStep h) h) <| .ite (.claimFor h) <| .ite (.ite (.claimFor h) h) <|
    .ite h <| .raise h) <| .ite (.raise <| .claimFor h) h

theorem Res.Canonical.execTakeover {missed} (h : s.Canonical) : (execTakeover missed s).Canonical :=
  .onRun h fun _ h => .ite h <| .endOps <| .foldl (fun _ _ => .endParcel) <| .askTrigger <| .raise <| .event <| .inc <| .wr <| .wr <|
    .wr <| .foldl (fun _ _ => .unpermit) <| .keep <| .ite (.latchSet h) h

theorem State.Canonical.yieldFrom (h : s.Canonical) : s.yieldFrom.Canonical := .event <| .inc <| .wr <| .wr <| .wr <| .wr <| .keep h

theorem State.Canonical.takeRole {yields} (h : s.Canonical) : (s.takeRole yields).Canonical := by
  unfold State.takeRole
  split
  · exact .ite (.ite (.ite (.yieldTo h) h) <| .ite h <| .keep h) <| .ite (.yieldFrom h) h
  · exact h

theorem Res.Canonical.execYieldHandover (h : s.Canonical) : (execYieldHandover s).Canonical :=
  .onRun h fun _ h => .ite (.keep <| .dropClaim h) <| .ite (.keep h) h

theorem VRes.Canonical.actRoleReport (h : s.Canonical) : (actRoleReport s).Canonical := .res <| .takeFree h
theorem VRes.Canonical.actRoleYield (h : s.Canonical) : (actRoleYield s).Canonical := .ite (.no h) <| .ok <| .keep <| .takeFree h
theorem State.Canonical.takeLaneRef (h : s.Canonical) : s.takeLaneRef.Canonical := .wr <| .keep h
theorem State.Canonical.beginJoin (h : s.Canonical) : s.beginJoin.Canonical := .takeLaneRef <| .keep h
theorem Res.Canonical.execJoinStart (h : s.Canonical) : (execJoinStart s).Canonical := .onRun h fun _ h => .ite (.beginJoin h) h
theorem Res.Canonical.execJoinRetry (h : s.Canonical) : (execJoinRetry s).Canonical := .onRun h fun _ h => .ite (.beginJoin h) h
theorem State.Canonical.failJoin (h : s.Canonical) : s.failJoin.Canonical := .leaveStep <| .raise h

theorem Res.Canonical.execJoinStep {ok delay delta image} (h : s.Canonical) : (execJoinStep ok delay delta image s).Canonical := by
  refine .onRun h fun _ h => .ite h <| .orElse (.failJoin h) fun h' => ?_
  split
  · exact .ite (.keep h) h'
  · exact .keep <| .setStage <| .wr <| .wr h
  · exact .keep h
  · exact .keep <| .foldl (fun _ _ h => .ite (.setWord h) h) <| .keep h
  · exact .ite (.event <| .inc <| .wr <| .keep h) h'

theorem State.Canonical.tickPair (h : s.Canonical) : s.tickPair.Canonical := .keep h

theorem State.Canonical.pairBefore (h : s.Canonical) : s.pairBefore.Canonical :=
  .orElse (.when (.when (.tickPair <| .keep h) .put) .keep) fun h => .ite (.raise <| .keep h) <| .ite (.keep <| .keep h) <|
    .ite (.failJoin <| .keep h) <| .when (.keep h) .leaveStep

theorem State.Canonical.laneFollow (h : s.Canonical) : s.laneFollow.Canonical :=
  .ite (.ite (.takeLaneRef h) h) <| .ite (.leaveLaneRef h) <| .ite (.wr h) <| .ite (.wr h) h

theorem State.Canonical.showPair_ (h : s.Canonical) : s.showPair_.Canonical :=
  .wr <| .wrB <| .wrB <| .wr <| .wr <| .wrB <| .wrB <| .wrB <| .wr h

theorem State.Canonical.pairAfter (h : s.Canonical) : s.pairAfter.Canonical :=
  .showPair_ <| .laneFollow <| .takeRole <| .ite h <| .when (.when (.takeDigest h) .endFrame) .leaveStep

theorem State.Canonical.takeRelayed (h : s.Canonical) : s.takeRelayed.Canonical := by
  refine .ite h <| .foldl (fun _ _ h => ?_) <| .keep h
  split
  · exact .takeEntry h
  · exact .noLedger h

/-! ### Clock -/

theorem State.Canonical.setLocked {p b} (h : s.Canonical) : (s.setLocked p b).Canonical := .wr h

theorem State.Canonical.readPin {p mv} (h : s.Canonical) : (s.readPin p mv).Canonical := by
  refine .wrB ?_
  split
  · exact .wr h
  · exact .wr h
  · exact h

theorem State.Canonical.setRamp {g r} (h : s.Canonical) : (s.setRamp g r).Canonical :=
  .ite (.wrS <| .wrB <| .wrS <| .keep h) <| .wrB <| .wrS <| .keep h

theorem State.Canonical.stopRamp {g} (h : s.Canonical) : (s.stopRamp g).Canonical := .setRamp h
theorem State.Canonical.toSafeClock (h : s.Canonical) : s.toSafeClock.Canonical := .ite h <| .inc <| .wr h

theorem State.Canonical.stepChange (h : s.Canonical) : s.stepChange.Canonical :=
  .keep <| .toSafeClock <| .setLocked <| .ite (.event <| .stopRamp h) h

theorem State.Canonical.hvLinkDown (h : s.Canonical) : s.hvLinkDown.Canonical := .latchTrip <| .keep <| .wr h
theorem State.Canonical.linksLost (h : s.Canonical) : s.linksLost.Canonical := .foldl (fun _ _ h => .lockLost <| .wr <| .wr h) h

theorem State.Canonical.pllLoss {x_1} (h : s.Canonical) : (s.pllLoss x_1).Canonical := by
  unfold State.pllLoss
  split
  · exact .raise <| .keep <| .toSafeClock <| .inc <| .stopRamp h
  · exact .hvLinkDown <| .linksLost <| .raise <| .inc <| .stopRamp <| .keep h
  · exact .raise <| .gridLoss <| .ethDown <| .ethDown h
  · exact .latchTrip h

theorem State.Canonical.spreadEnable (h : s.Canonical) : s.spreadEnable.Canonical := .ite (.setRamp <| .keep h) h

theorem Res.Canonical.execPllLock {p pinMv} (h : s.Canonical) : (execPllLock p pinMv s).Canonical :=
  .onPower h fun _ h => .orElse (.readPin h) fun h => .ite (.setRamp <| .when (.setLocked h) .keep) <|
    .when (.when (.setLocked h) .keep) .spreadEnable

theorem Res.Canonical.execPllUnlock {p pinMv} (h : s.Canonical) : (execPllUnlock p pinMv s).Canonical :=
  .onPower h fun _ h => .orElse (.readPin h) fun h => .pllLoss <| .see <| .setLocked h

theorem Res.Canonical.execPllLockTimeout {lane} (h : s.Canonical) : (execPllLockTimeout lane s).Canonical :=
  .onPower h fun _ h => .ite h <| .ite (.ite h <| .event h) <| .ite h <| .event h

theorem Res.Canonical.execClkSysLost (h : s.Canonical) : (execClkSysLost s).Canonical := .onPower h fun _ h => .ite (.raise h) h

theorem Res.Canonical.execSafeClockReturn (h : s.Canonical) : (execSafeClockReturn s).Canonical :=
  .onPower h fun _ h => .ite (.wr <| .keep h) h

theorem State.Canonical.timesOn {mono} (h : s.Canonical) : (s.timesOn mono).Canonical :=
  .setTime <| .setTime <| .setTime <| .setTime <| .keep h

theorem State.Canonical.holdBases (h : s.Canonical) : s.holdBases.Canonical := .foldl (fun _ _ => .wr) h
theorem State.Canonical.releaseBases (h : s.Canonical) : s.releaseBases.Canonical := .foldl (fun _ _ => .wrB) h

theorem Res.Canonical.execXinLost (h : s.Canonical) : (execXinLost s).Canonical :=
  .always h fun _ h => .ite h <| .when (.holdBases <| .keep <| .inc <| .wr <| .wr h) fun h => .raise <| .keep h

theorem State.Canonical.stopIslands (h : s.Canonical) : s.stopIslands.Canonical :=
  .keep <| .hvLinkDown <| .ethDown <| .ethDown <| .linksLost h

theorem Res.Canonical.execXinReturn {elapsed} (h : s.Canonical) : (execXinReturn elapsed s).Canonical :=
  .always h fun _ h => .ite h <| .releaseBases <| .wr <| .wr <| .keep <| .ite (.wr <| .timesOn h) h

theorem State.Canonical.tickRamp {ns g} (h : s.Canonical) : (State.tickRamp ns s g).Canonical := by
  refine .ite h ?_
  split
  · exact .ite (.setRamp h) <| .setRamp h
  · exact .setRamp h

theorem VRes.Canonical.actRampStart {g} (h : s.Canonical) : (actRampStart g s).Canonical := .ite (.no h) <| .ok <| .setRamp <| .wr h
theorem VRes.Canonical.actRampAbort {g} (h : s.Canonical) : (actRampAbort g s).Canonical := .ok <| .ite (.stopRamp h) h

theorem Res.Canonical.execRampSegmentEnd {g} (h : s.Canonical) : (execRampSegmentEnd g s).Canonical :=
  .onRun h fun _ h => .ite h <| .ite (.setRamp <| .wr h) <| .ite (.setRamp <| .wr h) <| .setRamp h

theorem State.Canonical.tickSpread {ns} (h : s.Canonical) : (s.tickSpread ns).Canonical := .ite h <| .setRamp <| .keep h

theorem Res.Canonical.execLaneSpreadEnd (h : s.Canonical) : (execLaneSpreadEnd s).Canonical :=
  .onRun h fun _ h => .ite (.setRamp <| .keep h) h

theorem State.Canonical.tickLaneBack {ns} (h : s.Canonical) : (State.tickLaneBack ns s).Canonical := .keep h

theorem Res.Canonical.execLaneRefReturnDone (h : s.Canonical) : (execLaneRefReturnDone s).Canonical :=
  .onRun h fun _ h => .ite (.wr <| .keep h) h

theorem State.Canonical.readPins {b} (h : s.Canonical) : (s.readPins b).Canonical := .readPin <| .readPin h

/-! ### Commit -/

theorem State.Canonical.showPlace {c} (h : s.Canonical) : (s.showPlace c).Canonical := by
  unfold State.showPlace
  split <;> exact .wr <| .wr <| .wr h

theorem State.Canonical.showFirst {n} (h : s.Canonical) : (s.showFirst n).Canonical := .wr h
theorem State.Canonical.showPositions {a} (h : s.Canonical) : (s.showPositions a).Canonical := .wr <| .wr <| .wr h

theorem State.Canonical.deriveTable (h : s.Canonical) : s.deriveTable.Canonical :=
  .foldl (fun _ _ => .showPlace) <| .foldl (fun _ _ => .showPositions) <| .foldl (fun _ _ => .showFirst) <| .wr h

theorem State.Canonical.resetIndex {c} (h : s.Canonical) : (s.resetIndex c).Canonical := .setCell <| .foldl (fun _ _ => .setWord) h

theorem State.Canonical.moveIndex {j c} {old : State} (h : s.Canonical) : (old.moveIndex j c s).Canonical :=
  .ite (.wr <| .wr <| .setCell <| .setWord <| .foldl (fun _ _ => .setWord) h) <| .wr <| .setCell <| .setWord <|
    .foldl (fun _ _ => .setWord) h

theorem State.Canonical.commitIndex {routes c} {old : State} (h : s.Canonical) : (old.commitIndex routes s c).Canonical := by
  unfold State.commitIndex
  split
  · exact .ite (.resetIndex h) h
  · refine .ite h ?_
    dsimp only
    split
    · exact .moveIndex <| .resetIndex h
    · exact .wr <| .resetIndex h

theorem State.Canonical.restartRoute {n} (h : s.Canonical) : (s.restartRoute n).Canonical :=
  .ite (.startQuiet h) <| .foldl (fun _ _ => .powerDown) <| .setWord <| .wr <| .noReach <| .setRoute h

theorem State.Canonical.commitTable {old : State} (h : s.Canonical) : (old.commitTable s).Canonical :=
  .endTrainTest <| .foldl (fun _ _ => .rankArm) <| .foldl (fun _ _ => .restartRoute) <| .when (.foldl (fun _ _ => .commitIndex) <|
    .deriveTable h) .usePair

theorem State.Canonical.commitSlot {n} {old : State} (h : s.Canonical) : (old.commitSlot s n).Canonical := .ite (.wr <| .setSlotRun h) h
theorem State.Canonical.restartDither (h : s.Canonical) : s.restartDither.Canonical := .keep <| .foldl (fun _ _ => .setCell) h

theorem State.Canonical.commitClock {old : State} (h : s.Canonical) : (old.commitClock s).Canonical :=
  .spreadEnable <| .when (.ite (.stepChange h) h) .restartDither

theorem State.Canonical.commitMarch {old : State} (h : s.Canonical) : (old.commitMarch s).Canonical := .ite (.event <| .showMarch h) h
theorem State.Canonical.commitLevels (h : s.Canonical) : s.commitLevels.Canonical := .foldl (fun _ _ h => .ite h <| .wr h) h

theorem State.Canonical.commitMeas {old : State} (h : s.Canonical) : (old.commitMeas s).Canonical :=
  .foldl (fun _ _ h => .ite (.setSettle h) h) <| .foldl (fun _ _ h => .ite (.restartAdc h) h) h

theorem State.Canonical.commitNet {old : State} (h : s.Canonical) : (old.commitNet s).Canonical :=
  .foldl (fun _ _ h => .ite (.setTel h) h) <| .foldl (fun _ _ h => .assignRings <| .when (.showCanPath h) .restartCan) <|
    .when (.foldl (fun _ _ h => .ite (.ethDown h) h) h) .restartPtp

theorem State.Canonical.commitEffects {old : State} (h : s.Canonical) : (old.commitEffects s).Canonical :=
  .showDirty <| .writeHv <| .commitNet <| .commitMeas <| .commitLevels <| .foldl (fun _ _ => .commitSlot) <| .when (.commitMarch <|
    .commitClock <| .ite (.commitTable h) h) fun h => .foldl (fun _ _ => .rankArm) h

theorem State.Canonical.closePaths (h : s.Canonical) : s.closePaths.Canonical := .foldl (fun _ _ h => .ite (.closeSess h) h) h

/-! ### Power -/

theorem State.Canonical.cutWrite {b} {t : State} (h : t.Canonical) : (t.cutWrite b).Canonical := by
  unfold State.cutWrite
  split
  · exact .keep h
  · exact .when (.takeFree h) .keep
  · exact .when (.takeFree h) .commitSafe
  · exact h

theorem State.Canonical.cutWrites (h : s.Canonical) : s.cutWrites.Canonical := .foldl (fun _ _ h => .foldl (fun _ _ => .cutWrite) h) h
theorem State.Canonical.stopCopies (h : s.Canonical) : s.stopCopies.Canonical := .foldl (fun _ _ => .wr) h

/-- A start drops words, and where it is cold the whole memory. -/
theorem State.Canonical.fresh {cold} {s : State} (h : s.Canonical) : (s.fresh cold).Canonical := by
  have hs : s.cutWrites.stopCopies.Canonical := .stopCopies (.cutWrites h)
  refine ⟨?_, Words.wf_filter hs.regs _⟩
  show Memory.wf (if cold then [] else s.cutWrites.stopCopies.mem) = true
  split
  · exact Memory.wf_nil
  · exact hs.mem

theorem State.Canonical.stepClocks {i} (h : s.Canonical) : (State.stepClocks i s).Canonical := .wr <| .wrB <| .wrB <| .wrB <| .setLocked h

/-- The destructive march leaves no byte. -/
theorem State.Canonical.stepMarch {i} {s : State} (h : s.Canonical) : (State.stepMarch i s).Canonical :=
  .when ⟨Memory.wf_nil, (h.wr.wrB).regs⟩ .event

theorem State.Canonical.stepImage {i watchdog} (h : s.Canonical) : (State.stepImage i watchdog s).Canonical := by
  unfold State.stepImage
  dsimp only
  exact .when (.event <| .showFw <| .wrB <| .keep <| .wrB <| .wrB <| .wr h) .event

theorem State.Canonical.stepIdentity (h : s.Canonical) : s.stepIdentity.Canonical :=
  .foldl (fun _ _ h => .wr <| .wr h) <| .setWord <| .wr <| .foldl (fun _ _ => .setWord) h

theorem State.Canonical.stepFactory (h : s.Canonical) : s.stepFactory.Canonical := .foldl (fun _ _ => .setWord) h

theorem State.Canonical.stepLifecycle (h : s.Canonical) : s.stepLifecycle.Canonical := by
  unfold State.stepLifecycle
  dsimp only
  exact .newChallenge <| .wrB <| .wr <| .wr <| .when (.ite (.keep h) h) .fillSecure

theorem State.Canonical.markSlot {n} (h : s.Canonical) : (s.markSlot n).Canonical := .store h

theorem State.Canonical.stepLogbook (h : s.Canonical) : s.stepLogbook.Canonical :=
  .ite h <| .event <| .wr <| .wr <| .wr <| .foldl (fun _ _ => .markSlot) h

theorem State.Canonical.stepConfig (h : s.Canonical) : s.stepConfig.Canonical := by
  unfold State.stepConfig
  dsimp only
  refine .setRamp <| .showDirty <| .showMarch <| .initLevels <| .foldl (fun _ _ => .wr) <| .foldl (fun _ _ h => .assignRings <|
    .showCanPath h) <| .foldl (fun _ _ => .wr) <| .deriveTable <| .stepLogbook <| .stepLifecycle ?_
  split
  · exact .keep <| .loadWords h
  · exact .event h

theorem State.Canonical.stepTimes {cold elapsed} (h : s.Canonical) : (State.stepTimes cold elapsed s).Canonical :=
  .keep <| .ite (.holdBases <| .wr <| .orElse (.wr <| .wr <| .ite h <| .timesOn h) .gridLoss) <| .releaseBases <| .wr <| .orElse (.wr <|
    .wr <| .ite h <| .timesOn h) .gridLoss

theorem State.Canonical.stepLinks {i} (h : s.Canonical) : (State.stepLinks i s).Canonical :=
  .usePair <| .foldl (fun _ _ => .startQuiet) <| .spreadEnable <| .stampStage <| .setStage <| .orElse (.writeHv <| .keep <|
    .setLocked <| .setLocked <| .setLocked h) .wr

theorem State.Canonical.stepStation {trips} (h : s.Canonical) : (State.stepStation trips s).Canonical := by
  unfold State.stepStation
  dsimp only
  split
  · exact .enter <| .showPair_ <| .showFaults <| .ite h <| .keep h
  · exact .when (.showPair_ <| .showFaults <| .ite h <| .keep h) .goTo

theorem State.Canonical.restart {cause i} (h : s.Canonical) : (s.restart cause i).Canonical :=
  .keep <| .when (.stepStation <| .stepLinks <| .stepConfig <| .stepFactory <| .stepIdentity <| .stepImage <| .when (.stepClocks <|
    .when (.stepTimes <| .inc <| .setWord <| .when (.fresh h) fun h => .setWord <| .setWord <| .setWord h) fun h => .setWord <|
    .setWord h) .stepMarch) .goTo

theorem Res.Canonical.execVinRiseKeepalive (h : s.Canonical) : (execVinRiseKeepalive s).Canonical :=
  .always h fun _ h => .ite h <| .wr <| .keep h

theorem Res.Canonical.execColdStart {i} (h : s.Canonical) : (execColdStart i s).Canonical := .always h fun _ h => .ite (.restart h) h

theorem Res.Canonical.execKeepaliveReturn {i} (h : s.Canonical) : (execKeepaliveReturn i s).Canonical :=
  .always h fun _ h => .ite (.restart h) h

/-- Without VIN nothing of the memory is left, and of the words the safety die's alone. -/
theorem State.Canonical.vinOff {s : State} (h : s.Canonical) : s.vinOff.Canonical :=
  have hs := h.cutWrites.islandOff
  .setWord ⟨Memory.wf_nil, Words.wf_filter (State.Canonical.regs (.sndIte (.takeFree hs) hs)) _⟩

theorem Res.Canonical.execVinOff (h : s.Canonical) : (execVinOff s).Canonical := .always h fun _ h => .ite h <| .vinOff h
theorem State.Canonical.cutStart {k} (h : s.Canonical) : (s.cutStart k).Canonical := .keep <| .inc <| .ite (.keep <| .fresh h) h

theorem State.Canonical.supplySequence {kind fault seen startStep} (h : s.Canonical) :
    (s.supplySequence kind fault seen startStep).Canonical := by
  unfold State.supplySequence
  dsimp only
  split
  · exact .ite h <| .ite (.islandAct <| .see <| .gatesOff <| .keep <| .cutStart <| .keep <| .fresh h) <| .islandAct <| .see <|
      .gatesOff <| .keep <| .cutStart h
  · exact .ite h <| .ite (.raise <| .islandAct <| .see <| .gatesOff <| .keep h) <| .islandAct <| .see <| .gatesOff <| .keep h

theorem Res.Canonical.execBrownoutSequence {startStep} (h : s.Canonical) : (execBrownoutSequence startStep s).Canonical :=
  .always h fun _ => .supplySequence

theorem Res.Canonical.execOvervoltageSequence {startStep} (h : s.Canonical) : (execOvervoltageSequence startStep s).Canonical :=
  .always h fun _ => .supplySequence

theorem State.Canonical.unclassify (h : s.Canonical) : s.unclassify.Canonical := .setWord h

theorem State.Canonical.stopAll (h : s.Canonical) : s.stopAll.Canonical :=
  .gatesOff <| .unclassify <| .wr <| .keep <| .dropClaim <| .stopCopies <| .cutWrites <| .lockMon h

theorem Res.Canonical.execKeepaliveEntry (h : s.Canonical) : (execKeepaliveEntry s).Canonical :=
  .always h fun _ h => .ite (.islandAct <| .keep <| .inc <| .wr <| .stopAll h) h

theorem State.Canonical.hold (h : s.Canonical) : s.hold.Canonical := .keep <| .stopAll h

theorem Res.Canonical.execResetAssert (h : s.Canonical) : (execResetAssert s).Canonical :=
  .always h fun _ h => .ite h <| .ite (.askTrigger <| .gatesOff <| .keep h) <| .hold <| .gatesOff <| .keep h

theorem Res.Canonical.execResetRelease {i} (h : s.Canonical) : (execResetRelease i s).Canonical := .always h fun _ h => .ite (.restart h) h

theorem Res.Canonical.execWatchdogRestart {i} (h : s.Canonical) : (execWatchdogRestart i s).Canonical :=
  .always h fun _ h => .ite (.restart h) h

theorem Res.Canonical.execFirmwareRestart {i} (h : s.Canonical) : (execFirmwareRestart i s).Canonical :=
  .onRun h fun _ h => .ite (.restart h) h

theorem Res.Canonical.execSupplyStatUpdate {vinMv vgdDv} (h : s.Canonical) : (execSupplyStatUpdate vinMv vgdDv s).Canonical :=
  .onPower h fun _ h => .wr <| .wr h

theorem Res.Canonical.execVioBankClassified {bank is3v3} (h : s.Canonical) : (execVioBankClassified bank is3v3 s).Canonical :=
  .always h fun _ h => .ite h <| .wr h

theorem Res.Canonical.execVioBankFault {bank} (h : s.Canonical) : (execVioBankFault bank s).Canonical :=
  .always h fun _ h => .ite h <| .when (.event <| .see <| .wr h) fun h => .keep <| .dropClaim h

theorem Res.Canonical.execVgdUndervoltage (h : s.Canonical) : (execVgdUndervoltage s).Canonical :=
  .always h fun _ h => .gatesOff <| .latchTrip <| .wr h

theorem Res.Canonical.execVgdOkRise (h : s.Canonical) : (execVgdOkRise s).Canonical := .always h fun _ => .wr
theorem Res.Canonical.execVgdRise (h : s.Canonical) : (execVgdRise s).Canonical := .always h fun _ => .keep
theorem Res.Canonical.execHvLinkUp (h : s.Canonical) : (execHvLinkUp s).Canonical := .onRun h fun _ h => .ite (.writeHv <| .keep h) h

theorem Res.Canonical.execRolePadChange {role0 role1} (h : s.Canonical) : (execRolePadChange role0 role1 s).Canonical :=
  .onRun h fun _ h => .ite h <| .event <| .keep h

/-! ### Thermal -/

theorem State.Canonical.showReading {r} (h : s.Canonical) : (s.showReading r).Canonical := .orElse (.wrB <| .wrS <| .wrS h) .keep
theorem State.Canonical.sampleRate {d l} (h : s.Canonical) : (s.sampleRate d l).Canonical := .wrB <| .keep h
theorem State.Canonical.throttleDie {d} (h : s.Canonical) : (s.throttleDie d).Canonical := .when (.wr <| .wr h) .inc
theorem State.Canonical.setTherm {t} (h : s.Canonical) : (s.setTherm t).Canonical := .keep h
theorem State.Canonical.stepsNow {i} (h : s.Canonical) : (s.stepsNow i).Canonical := .keep h
theorem State.Canonical.countFrom {i d} (h : s.Canonical) : (s.countFrom i d).Canonical := .ite h <| .stepsNow h

theorem State.Canonical.shutDie (h : s.Canonical) : s.shutDie.Canonical :=
  .ite (.when (.gatesOff <| .inc <| .keep h) .raise) <| .ite (.raise <| .keep <| .gatesOff <| .inc <| .keep h) <| .hold <| .keep <|
    .gatesOff <| .inc <| .keep h

theorem State.Canonical.coolDie {l i} (h : s.Canonical) : (s.coolDie l i).Canonical :=
  .orElse (.keep h) fun h => .ite (.keep h) <| .ite (.restart h) h

theorem State.Canonical.sampleDie {l i} (h : s.Canonical) : (s.sampleDie l i).Canonical := by
  refine .ite (.coolDie <| .countFrom <| .throttleDie <| .wr <| .keep <| .sampleRate ?_) <| .when (.countFrom <| .throttleDie <| .wr <|
    .keep <| .sampleRate ?_) .shutDie
  · split
    · exact .wrS <| .foldl (fun _ _ => .showReading) h
    · exact .foldl (fun _ _ => .showReading) h
  · split
    · exact .wrS <| .foldl (fun _ _ => .showReading) h
    · exact .foldl (fun _ _ => .showReading) h

theorem State.Canonical.levelHv {old new} (h : s.Canonical) : (s.levelHv old new).Canonical := .wr <| .countFrom <| .keep h
theorem State.Canonical.coolHv {l} (h : s.Canonical) : (s.coolHv l).Canonical := .ite (.setTherm h) h

theorem State.Canonical.shutHv {old new} (h : s.Canonical) : (s.shutHv old new).Canonical :=
  .ite (.gatesOff <| .latchTrip <| .inc <| .setTherm h) h

theorem State.Canonical.sampleHv {l} (h : s.Canonical) : (s.sampleHv l).Canonical := by
  refine .shutHv <| .coolHv <| .levelHv <| .setTherm <| .sampleRate ?_
  split
  · exact .wrS <| .foldl (fun _ _ => .showReading) h
  · exact .foldl (fun _ _ => .showReading) h

theorem Res.Canonical.execDieSensorSample {d} (h : s.Canonical) : (execDieSensorSample d s).Canonical := by
  refine .always h fun _ h => .ite ?_ h
  split
  · exact .sampleDie h
  · exact .sampleHv h

theorem Res.Canonical.execThermalFactorStep {f} (h : s.Canonical) : (execThermalFactorStep f s).Canonical := by
  refine .always h fun _ h => .ite h ?_
  split
  · exact .throttleDie <| .stepsNow h
  · exact .keep h
  · exact .keep h
  · exact .ite h <| .stepCell h

/-! ### Verbs -/

theorem Res.Canonical.execGet {r shadow addr len elapsed ecc} (h : s.Canonical) : (execGet r shadow addr len elapsed ecc s).Canonical :=
  .execVerb h fun _ => .actGet

theorem VRes.Canonical.actEcho {payload} (h : s.Canonical) : (actEcho payload s).Canonical := .ite (.no h) <| .ok h
theorem State.Canonical.writeWords {p} (h : s.Canonical) : (s.writeWords p).Canonical := .foldl (fun _ _ => .setWord) h

theorem OkCanonical.ok {s : State} (h : s.Canonical) : OkCanonical (.ok s) := fun _ e => Except.ok.inj e ▸ h
theorem OkCanonical.error {n} : OkCanonical (.error n) := fun _ e => nomatch e
theorem OkCanonical.ite {c : Prop} [Decidable c] {a b : Except Nat State} (ha : OkCanonical a) (hb : OkCanonical b) :
    OkCanonical (if c then a else b) := by
  split <;> assumption

theorem OkCanonical.onWrite {asked act} {s : State} (h : s.Canonical) (ha : ∀ s, s.Canonical → (act s).Canonical) :
    OkCanonical (onWrite asked act s) :=
  .ite (.ite (.ok (.st (ha _ h))) .error) (.ok h)

theorem OkCanonical.writeCan {c n w} (h : s.Canonical) : OkCanonical (s.writeCan c n w) := by
  have ht : (if (assocGet (s.canRun c).tx n).isSome then s.takeFree else (0, s)).2.Canonical := .sndIte (.takeFree h) h
  unfold State.writeCan
  split
  next free t e0 =>
    rw [e0] at ht
    split
    · exact .error
    · next e => exact .onWrite (OkCanonical.onWrite ht (fun _ => .actTxReq) _ e) fun _ => .actAck

theorem OkCanonical.writeObject {p} {s : State} (h : s.Canonical) : OkCanonical (s.writeObject p) := by
  unfold State.writeObject
  have hw : (s.writeWords p).Canonical := .writeWords h
  dsimp only
  split
  · exact .error
  · refine .ite (.ite (.onWrite hw fun _ => .actRampAbort) (.onWrite hw fun _ => .actRampStart)) <| .ite ?_ <|
      .ite (.onWrite hw fun _ => .actLoopSlotModeWrite) <| .ite (.onWrite hw fun _ => .actMdioStart) <| .ite (.writeCan hw) (.ok hw)
    split
    · exact .error
    · next e => exact .onWrite (OkCanonical.onWrite hw (fun _ => .actTakeOut) _ e) fun _ => .actRelease

theorem OkCanonical.writeObjects {l} {s : State} (h : s.Canonical) : OkCanonical (State.writeObjects l s) := by
  induction l generalizing s with
  | nil => exact .ok h
  | cons p l ih =>
    unfold State.writeObjects
    split
    · exact .error
    · next e => exact ih (OkCanonical.writeObject h _ e)

theorem VRes.Canonical.actSet {i addr data} {s : State} (h : s.Canonical) : (actSet i addr data s).Canonical := by
  unfold Machine.actSet
  refine .ite (.no h) <| .ite (.no h) ?_
  split
  · exact .no h
  · refine .ite (.no h) <| .ite (.no h) ?_
    split
    · exact .no h
    · refine .ite (.no h) ?_
      split
      · exact .no h
      · next e => exact .ok <| .orElse (OkCanonical.writeObjects h _ e) .setSess

theorem VRes.Canonical.actApplyCommit {i} (h : s.Canonical) : (actApplyCommit i s).Canonical := by
  refine .ite (.ok h) ?_
  split
  · exact .res <| .st <| .no h
  · split
    · exact .res <| .st <| .no h
    · exact .wait h

theorem VRes.Canonical.actApplyDiscard {i} (h : s.Canonical) : (actApplyDiscard i s).Canonical := .ok <| .setSess h

theorem State.Canonical.abandon {x_1} (h : s.Canonical) : (s.abandon x_1).Canonical := by
  unfold State.abandon
  split
  · exact .wr h
  · exact .showDirty <| .keep h
  · exact .keep h
  · exact .keep h
  · exact .endPrbs h
  · exact .keep h
  · exact .keep h
  · exact h

theorem Res.Canonical.execLongVerbTimeout {session} (h : s.Canonical) : (execLongVerbTimeout session s).Canonical := by
  refine .onRun h fun _ h => ?_
  split
  · exact .endBusy <| .abandon h
  · exact h

/-- Every verb's action leaves a state in canonical form. -/
theorem VRes.Canonical.verbAct {c act} {s : State} (h : s.Canonical) (e : verbAct c = some act) : (act s).Canonical := by
  unfold Machine.verbAct at e
  split at e <;> cases e
  exacts [.actRampStart h, .actRampAbort h, .actGet h, .actSet h, .actSnapshot h, .actApplyCommit h, .actApplyDiscard h, .actState h,
    .actStartConverter h, .actStartDrive h, .actStopConverter h, .actStopDrive h, .actStopArm h, .actTrip h, .actClear h, .actClear h,
    .actClear h, .actClear h, .actRoleReport h, .actRoleYield h, .actSetpoint h, .actRamp h, .actRouteTrain h, .actLinkPrbs h,
    .actLinkInject h, .actSafeParamWrite h, .actSafeParamCommit h, .actSafeParamDiscard h, .actCalAdc h, .actCalAdc4 h, .actCalSdOffset h,
    .actJournal h, .actLogbookTrigger h, .actLogbookRelease h, .actLogbookRead h, .actParcel h, .actLifecycle h, .actSaveConfig h,
    .actFwBegin h, .actFwWrite h, .actFwCommit h, .actFwAbort h, .actFwActivate h, .actCrc h, .actEcho h, .actTakeOut h, .actRelease h,
    .actLoopSlotModeWrite h, .actMdioStart h, .actTxReq h, .actAck h]

/-! ### Boundary -/

theorem State.Canonical.mapDue {f} (h : s.Canonical) : (s.mapDue f).Canonical := .foldl (fun _ _ => .keep) h

theorem State.Canonical.stepGrid (h : s.Canonical) : s.stepGrid.Canonical := by
  unfold State.stepGrid
  split
  · exact h
  · exact .event <| .mapDue <| .inc <| .setTime <| .keep h

theorem State.Canonical.tickTime {mono} (h : s.Canonical) : (s.tickTime mono).Canonical :=
  .stepGrid <| .tickBus <| .setTime <| .setTime <| .setTime <| .setTime <| .keep h

theorem State.Canonical.showUptime (h : s.Canonical) : s.showUptime.Canonical := .wr <| .wr <| .wr <| .wr h
theorem State.Canonical.tickIdle {mono} (h : s.Canonical) : (State.tickIdle mono s).Canonical := .foldl (fun _ _ h => .ite (.setSess h) h) h
theorem State.Canonical.answerStarts {conv drive} (h : s.Canonical) : (State.answerStarts conv drive s).Canonical := .endOps <| .endOps h
theorem State.Canonical.clearOrders (h : s.Canonical) : s.clearOrders.Canonical := .keep h

theorem State.Canonical.tickStop (h : s.Canonical) : s.tickStop.Canonical := by
  unfold State.tickStop
  split
  · exact h
  · exact .when (.keep h) .hold

theorem State.Canonical.tickXin (h : s.Canonical) : s.tickXin.Canonical := by
  unfold State.tickXin
  split
  · exact h
  · exact .ite (.stopIslands h) <| .keep h

theorem State.Canonical.endStage (h : s.Canonical) : s.endStage.Canonical :=
  .foldl (fun _ _ => .tickTraining) <| .driveStage <| .policyStage <| .pairBefore <| .recordSlot h

theorem State.Canonical.advance {b} (h : s.Canonical) : (State.advance b s).Canonical :=
  .tickIdle <| .tickMon <| .readPins <| .tickLaneBack <| .tickSpread <| .foldl (fun _ _ => .tickRamp) <| .showUptime <| .stampStage <|
    .tickTime <| .setStage h

theorem State.Canonical.endLag (h : s.Canonical) : s.endLag.Canonical := .keep h

theorem State.Canonical.reactAll (h : s.Canonical) : s.reactAll.Canonical :=
  .showFaults <| .clearOrders <| .answerStarts <| .pairAfter <| .takeRelayed <| .takeTrigger <| .applyGoto <| .takeReports <|
    .foldl (fun _ _ => .stopGroup) <| .raiseAll <| .when (.driveBoundary <| .tickSetpoints <| .when (.endLag <|
    .takeRole h) fun h => .deliverCan <| .deliverCan h) .event

theorem State.Canonical.beginStage {b} (h : s.Canonical) : (State.beginStage b s).Canonical :=
  .snapView <| .takeCauses <| .orders <| .tickInject <| .foldl (fun _ _ => .stageTx) <| .foldl (fun _ _ => .stageTx) <|
    .foldl (fun _ _ => .tickTelegram) <| .orElse (.captureSnaps <| .keep <| .wrB <| .wrB <| .mapDue <| .writeQueued <| .wr <| .keep <|
    .wrB h) .captureCrcs

theorem Res.Canonical.execStageBoundary {b} (h : s.Canonical) : (execStageBoundary b s).Canonical :=
  .onRun h fun _ h => .tickStop <| .tickXin <| .beginStage <| .reactAll <| .advance <| .endStage <| .keep h

theorem State.Canonical.flushSets (h : s.Canonical) : s.flushSets.Canonical := .keep <| .foldl (fun _ _ => .putSetpoint) h

theorem State.Canonical.flushFaults {old} (h : s.Canonical) : (State.flushFaults old s).Canonical :=
  .orElse (.foldl (fun _ _ => .raiseOne) <| .keep h) fun h => .react <| .slideTrips h

theorem State.Canonical.flushDrive (h : s.Canonical) : s.flushDrive.Canonical := .keep <| .when (.ite (.driveStop h) h) .startDrive

theorem State.Canonical.flush {old : State} (h : s.Canonical) : (old.flush s).Canonical :=
  .snapView <| .showFaults <| .takeTrigger <| .applyGoto <| .keep <| .foldl (fun _ _ => .stopGroup) <| .flushFaults <| .flushDrive <|
    .flushSets h

theorem VRes.Canonical.atAct {c act} (h : s.Canonical) (ha : ∀ s, s.Canonical → (act s).Canonical) : (s.atAct c act).Canonical := by
  refine .orElse ?_ fun h => .res <| .st h
  split
  · exact .res <| .setStage <| .st <| ha _ (.setStage h)
  · exact .ite (.no h) <| ha _ h
  · exact .ite (.no h) <| ha _ h
  · exact ha _ h

theorem State.Canonical.recaptureTel {t} (h : s.Canonical) : (s.recaptureTel t).Canonical := by
  unfold State.recaptureTel
  dsimp only
  split
  · exact .ite (.setTel h) h
  · exact h

theorem State.Canonical.recapture {old : State} (h : s.Canonical) : (old.recapture s).Canonical :=
  .foldl (fun _ _ => .recaptureTel) <| .orElse (.recaptureSnaps <| .keep h) .captureCrcs

theorem State.Canonical.runDue {i d} {s : State} (h : s.Canonical) : (s.runDue i d).Canonical := by
  unfold State.runDue
  have hs : (s.setSess i { s.sess i with due := none }).Canonical := .setSess h
  dsimp only
  split
  · exact .finish hs
  · next e =>
    exact .ite (.finish hs) <| .recapture <| .settle <| .res <| .flush <| .keep <| .st <| .atAct (.keep hs) fun _ h => .verbAct h e

theorem Res.Canonical.execAtExecution {session} (h : s.Canonical) : (execAtExecution session s).Canonical := by
  refine .onRun h fun _ h => ?_
  split
  · exact .ite (.runDue h) h
  · exact h

theorem State.Canonical.commitShadow {i set} (h : s.Canonical) : (s.commitShadow i set).Canonical := by
  unfold State.commitShadow
  dsimp only
  exact .recapture <| .when (.keep <| .commitEffects <| .commitSet h) .setSess

theorem Res.Canonical.execShadowCommit {session} (h : s.Canonical) : (execShadowCommit session s).Canonical := by
  refine .onRun h fun _ h => ?_
  split
  · exact .ite (.closePaths <| .endBusy <| .commitShadow h) h
  · exact h

/-! ### The dispatch, and a step -/

/-- Every command leaves a state in canonical form: one lemma per command. -/
theorem Res.Canonical.exec (c : Instr) (h : s.Canonical) : Res.Canonical (Machine.exec c s) :=
  match c with
  | .vinRiseKeepalive => .execVinRiseKeepalive h
  | .coldStart .. => .execColdStart h
  | .brownoutSequence .. => .execBrownoutSequence h
  | .overvoltageSequence .. => .execOvervoltageSequence h
  | .keepaliveEntry => .execKeepaliveEntry h
  | .keepaliveReturn .. => .execKeepaliveReturn h
  | .vinOff => .execVinOff h
  | .resetAssert => .execResetAssert h
  | .resetRelease .. => .execResetRelease h
  | .watchdogRestart .. => .execWatchdogRestart h
  | .supplyStatUpdate .. => .execSupplyStatUpdate h
  | .vioBankClassified .. => .execVioBankClassified h
  | .vioBankFault .. => .execVioBankFault h
  | .vgdUndervoltage => .execVgdUndervoltage h
  | .vgdRise => .execVgdRise h
  | .hvLinkUp => .execHvLinkUp h
  | .rolePadChange .. => .execRolePadChange h
  | .tamperEvent .. => .execTamperEvent h
  | .secureRegionFill => .execSecureRegionFill h
  | .tamperFlashMarker => .execTamperFlashMarker h
  | .pllLock .. => .execPllLock h
  | .pllUnlock .. => .execPllUnlock h
  | .pllLockTimeout .. => .execPllLockTimeout h
  | .clkSysLost => .execClkSysLost h
  | .safeClockReturn => .execSafeClockReturn h
  | .xinLost => .execXinLost h
  | .xinReturn .. => .execXinReturn h
  | .rampStart .. => .execVerb h fun _ => .actRampStart
  | .rampAbort .. => .execVerb h fun _ => .actRampAbort
  | .rampSegmentEnd .. => .execRampSegmentEnd h
  | .laneSpreadEnd => .execLaneSpreadEnd h
  | .stageBoundary .. => .execStageBoundary h
  | .atExecution .. => .execAtExecution h
  | .eccWriteback .. => .execEccWriteback h
  | .marchPreservingBlock .. => .execMarchPreservingBlock h
  | .snapshotCopyDone .. => .execSnapshotCopyDone h
  | .lcNonceRefresh => .execLcNonceRefresh h
  | .lifecycleComplete .. => .execLifecycleComplete h
  | .udpDatagram .. => .execUdpDatagram h
  | .canCmdSegment .. => .execCanCmdSegment h
  | .canSegmentTimeout .. => .execCanSegmentTimeout h
  | .canReplyAbandon .. => .execCanReplyAbandon h
  | .monLine .. => .execMonLine h
  | .sessionOpen .. => .execSessionOpen h
  | .sessionClose .. => .execSessionClose h
  | .sessionIdleTimeout .. => .execSessionIdleTimeout h
  | .sequenceGapTimeout .. => .execSequenceGapTimeout h
  | .progressReply .. => .execProgressReply h
  | .longVerbTimeout .. => .execLongVerbTimeout h
  | .get .. => .execGet h
  | .set .. => .execVerb h fun _ => .actSet
  | .snapshot .. => .execVerb h fun _ => .actSnapshot
  | .applyCommit .. => .execVerb h fun _ => .actApplyCommit
  | .applyDiscard .. => .execVerb h fun _ => .actApplyDiscard
  | .shadowCommit .. => .execShadowCommit h
  | .state .. => .execVerb h fun _ => .actState
  | .startConverter .. => .execVerb h fun _ => .actStartConverter
  | .startDrive .. => .execVerb h fun _ => .actStartDrive
  | .stopConverter .. => .execVerb h fun _ => .actStopConverter
  | .stopDrive .. => .execVerb h fun _ => .actStopDrive
  | .stopArm .. => .execVerb h fun _ => .actStopArm
  | .trip .. => .execVerb h fun _ => .actTrip
  | .clearFaults .. => .execVerb h fun _ => .actClear
  | .clearDrive .. => .execVerb h fun _ => .actClear
  | .clearCanRecover .. => .execVerb h fun _ => .actClear
  | .clearSafety .. => .execVerb h fun _ => .actClear
  | .roleReport .. => .execVerb h fun _ => .actRoleReport
  | .roleYield .. => .execVerb h fun _ => .actRoleYield
  | .setpoint .. => .execVerb h fun _ => .actSetpoint
  | .ramp .. => .execVerb h fun _ => .actRamp
  | .routeTrain .. => .execVerb h fun _ => .actRouteTrain
  | .linkPrbs .. => .execVerb h fun _ => .actLinkPrbs
  | .linkInject .. => .execVerb h fun _ => .actLinkInject
  | .safeParamWrite .. => .execVerb h fun _ => .actSafeParamWrite
  | .safeParamCommit .. => .execVerb h fun _ => .actSafeParamCommit
  | .safeParamDiscard .. => .execVerb h fun _ => .actSafeParamDiscard
  | .calAdc .. => .execVerb h fun _ => .actCalAdc
  | .calAdc4 .. => .execVerb h fun _ => .actCalAdc4
  | .calSdOffset .. => .execVerb h fun _ => .actCalSdOffset
  | .journal .. => .execVerb h fun _ => .actJournal
  | .logbookTrigger .. => .execVerb h fun _ => .actLogbookTrigger
  | .logbookRelease .. => .execVerb h fun _ => .actLogbookRelease
  | .logbookRead .. => .execLogbookRead h
  | .parcel .. => .execVerb h fun _ => .actParcel
  | .lifecycleTransition .. => .execLifecycleTransition h
  | .saveConfig .. => .execVerb h fun _ => .actSaveConfig
  | .firmwareBegin .. => .execVerb h fun _ => .actFwBegin
  | .firmwareWrite .. => .execVerb h fun _ => .actFwWrite
  | .firmwareCommit .. => .execVerb h fun _ => .actFwCommit
  | .firmwareAbort .. => .execVerb h fun _ => .actFwAbort
  | .firmwareActivate .. => .execVerb h fun _ => .actFwActivate
  | .firmwareRestart .. => .execFirmwareRestart h
  | .firmwareConfirm => .execFirmwareConfirm h
  | .crc .. => .execVerb h fun _ => .actCrc
  | .echo .. => .execVerb h fun _ => .actEcho
  | .takeOut .. => .execVerb h fun _ => .actTakeOut
  | .release .. => .execVerb h fun _ => .actRelease
  | .loopSlotModeWrite .. => .execLoopSlotModeWrite h
  | .linkLos .. => .execLinkLos h
  | .linkBlockLockLoss .. => .execLinkBlockLockLoss h
  | .linkLocked .. => .execLinkLocked h
  | .linkUp .. => .execLinkUp h
  | .quietTraining .. => .execQuietTraining h
  | .trainingLockTimeout .. => .execTrainingLockTimeout h
  | .trainingComplete .. => .execTrainingComplete h
  | .liveTraining .. => .execLiveTraining h
  | .ledgerTrainReceived .. => .execLedgerTrainReceived h
  | .ledgerCut .. => .execLedgerCut h
  | .waybillCut => .execWaybillCut h
  | .routeFrameLaunch => .execRouteFrameLaunch h
  | .parcelChunkResend .. => .execParcelChunkResend h
  | .parcelBusyRetry .. => .execParcelBusyRetry h
  | .parcelTimeout .. => .execParcelTimeout h
  | .loopIssue .. => .execLoopIssue h
  | .loopOutputHandover => .execLoopOutputHandover h
  | .edgeComputation .. => .execEdgeComputation h
  | .driveEdgeSet => .execDriveEdgeSet h
  | .edgeSetCheck .. => .execEdgeSetCheck h
  | .edgeClockStopped => .execEdgeClockStopped h
  | .debugHalt => .execDebugHalt h
  | .policySignalDeadline .. => .execPolicySignalDeadline h
  | .bypassConfirmTimeout .. => .execBypassConfirmTimeout h
  | .contactTimeout => .execContactTimeout h
  | .prechargeTimeout => .execPrechargeTimeout h
  | .syncTimeout => .execSyncTimeout h
  | .stopTimeout => .execStopTimeout h
  | .rampdownEnd => .execRampdownEnd h
  | .derateClear => .execDerateClear h
  | .gridLost => .execGridLost h
  | .logbookFrozen => .execLogbookFrozen h
  | .hvsStatusFrame .. => .execHvsStatusFrame h
  | .desat .. => .execDesat h
  | .ocFast .. => .execOcFast h
  | .softTurnoffEnd => .execSoftTurnoffEnd h
  | .drvShortPersist .. => .execDrvShortPersist h
  | .ovTrip .. => .execOvTrip h
  | .drvBusOv => .execDrvBusOv h
  | .ovBrakeOn .. => .execOvBrakeOn h
  | .ovBrakeOff .. => .execOvBrakeOff h
  | .bootstrapUv .. => .execBootstrapUv h
  | .switchTimeMeasure .. => .execSwitchTimeMeasure h
  | .adaptLevel => .execAdaptLevel h
  | .bootChargeCheck => .execBootChargeCheck h
  | .driveStopEnd .. => .execDriveStopEnd h
  | .stoLineChange .. => .execStoLineChange h
  | .encoderEdge .. => .execEncoderEdge h
  | .overspeed => .execOverspeed h
  | .ntcSample .. => .execNtcSample h
  | .adcStopTrigger .. => .execAdcStopTrigger h
  | .adcResultWrite .. => .execAdcResultWrite h
  | .measHandoverCut => .execMeasHandoverCut h
  | .resultStale .. => .execResultStale h
  | .sdFilterOutput .. => .execSdFilterOutput h
  | .sdBitstreamLost .. => .execSdBitstreamLost h
  | .sdBitstreamRecover .. => .execSdBitstreamRecover h
  | .reliefRunStart => .execReliefRunStart h
  | .reliefHandover => .execReliefHandover h
  | .reliefCalEnd .. => .execReliefCalEnd h
  | .reliefHandback => .execReliefHandback h
  | .autoCalRequest => .execAutoCalRequest h
  | .ilkClaimLoss => .execIlkClaimLoss h
  | .claimHwDrop => .execClaimHwDrop h
  | .claimDecision => .execClaimDecision h
  | .keeperGrant => .execKeeperGrant h
  | .keeperFrameReceived .. => .execKeeperFrameReceived h
  | .porterFrameReceived .. => .execPorterFrameReceived h
  | .digestMissing => .execDigestMissing h
  | .porterLatch => .execPorterLatch h
  | .selfcheckOutcome => .execSelfcheckOutcome h
  | .takeoverClaim => .execTakeoverClaim h
  | .takeover .. => .execTakeover h
  | .yieldHandover => .execYieldHandover h
  | .joinStart => .execJoinStart h
  | .joinStep .. => .execJoinStep h
  | .joinRetry => .execJoinRetry h
  | .safetyCycle .. => .execSafetyCycle h
  | .resetValidityExpiry => .execResetValidityExpiry h
  | .ss1DelayEnd => .execSs1DelayEnd h
  | .outputTestPulse .. => .execOutputTestPulse h
  | .feedbackMismatch .. => .execFeedbackMismatch h
  | .controllerMessage => .execControllerMessage h
  | .controllerLinkLoss => .execControllerLinkLoss h
  | .controllerLinkRestore => .execControllerLinkRestore h
  | .islandStart .. => .execIslandStart h
  | .islandWatchdog .. => .execIslandWatchdog h
  | .programCrcCheck .. => .execProgramCrcCheck h
  | .ethLinkUp .. => .execEthLinkUp h
  | .ethLinkDown .. => .execEthLinkDown h
  | .ethFrameReceived .. => .execEthFrameReceived h
  | .arpResolveRetry .. => .execArpResolveRetry h
  | .arpRenewal .. => .execArpRenewal h
  | .mdioStart .. => .execVerb h fun _ => .actMdioStart
  | .mdioCycleDone .. => .execMdioCycleDone h
  | .timedFrameLaunch .. => .execTimedFrameLaunch h
  | .telegramLaunch .. => .execTelegramLaunch h
  | .ptpSyncReceived .. => .execPtpSyncReceived h
  | .ptpAnnounceReceived .. => .execPtpAnnounceReceived h
  | .ptpAnnounceTimeout .. => .execPtpAnnounceTimeout h
  | .ptpSyncSend .. => .execPtpSyncSend h
  | .ptpPdelay .. => .execPtpPdelay h
  | .ptpSyncLoss => .execPtpSyncLoss h
  | .ptpHoldoverExpiry => .execPtpHoldoverExpiry h
  | .canFrameReceived .. => .execCanFrameReceived h
  | .txReq .. => .execVerb h fun _ => .actTxReq
  | .ack .. => .execVerb h fun _ => .actAck
  | .canCycleTrigger .. => .execCanCycleTrigger h
  | .canTxDone .. => .execCanTxDone h
  | .canTxError .. => .execCanTxError h
  | .canOneshotDeadline .. => .execCanOneshotDeadline h
  | .canBusoff .. => .execCanBusoff h
  | .canRecoveryDone .. => .execCanRecoveryDone h
  | .canReferenceSend .. => .execCanReferenceSend h
  | .canBackupMasterTimeout .. => .execCanBackupMasterTimeout h
  | .busTimeCycleMissing => .execBusTimeCycleMissing h
  | .canRxStale .. => .execCanRxStale h
  | .dieSensorSample .. => .execDieSensorSample h
  | .thermalFactorStep .. => .execThermalFactorStep h
  | .monHalt => .execMonHalt h
  | .monDump .. => .execMonDump h
  | .monPrbs .. => .execMonPrbs h
  | .monInject .. => .execMonInject h
  | .monStat => .execMonStat h
  | .monUnlockChallenge => .execMonUnlockChallenge h
  | .monUnlock .. => .execMonUnlock h
  | .monLock => .execMonLock h
  | .monUnlockIdle => .execMonUnlockIdle h
  | .monAuthBackoffEnd => .execMonAuthBackoffEnd h
  | .monBreak => .execMonBreak h
  | .monFramingError => .execMonFramingError h
  | .monLineStall => .execMonLineStall h
  | .partnerClaimPresent => .execPartnerClaimPresent h
  | .vgdOkRise => .execVgdOkRise h
  | .laneRefReturnDone => .execLaneRefReturnDone h
  | .pairFrameLaunch => .execPairFrameLaunch h
  | .ptpAnnounceSend .. => .execPtpAnnounceSend h
  | .ptpPdelayRequest .. => .execPtpPdelayRequest h
  | .configRecordWritten .. => .execConfigRecordWritten h
  | .firmwareBeginDone .. => .execFirmwareBeginDone h
  | .firmwareCommitDone => .execFirmwareCommitDone h
  | .flashCrcDone => .execFlashCrcDone h
  | .prbsTestEnd .. => .execPrbsTestEnd h
  | .adc4CalDone .. => .execAdc4CalDone h
  | .safeParamCommitDone => .execSafeParamCommitDone h

theorem Res.Canonical.step (h : s.Canonical) : Res.Canonical (Machine.step s) := by
  unfold Machine.step
  split
  · exact .next h
  · exact .exec _ (.keep h)

/-- Settles O60. Every command's meaning is made of operations that keep the forms, so its next state has them. -/
theorem stepsKeepTheCanonicalForms : Obligations.StepsKeepTheCanonicalForms := by
  intro s t hm hr hs
  exact ((Res.Canonical.step ⟨hm, hr⟩).of_next t hs).canon

end Sys2Proof.Machine
end

section
/-! SUPPORT. What a ready verb leaves where its action is done at once, waits for an operation, or is only asked about: the reply or the
note of execution of `Completed` and `Started`, and beside it the whole next state. -/

namespace Sys2Proof.Machine

open Sys2Proof

/-! ### Words that taking a packet leaves -/

theorem State.sess_congr {s t : State} (h : s.ses = t.ses) (i : Fin 4) : s.sess i = t.sess i := by
  unfold State.sess
  rw [h]

/-- A field of the command block is written. -/
theorem State.word_wr_command (s : State) {f : Fld} (v : Nat) (hf : f.addr / 0x1000000 = 3) {a : Nat} (ha : a / 0x1000000 ≠ 3) :
    (s.wr f v).word a = s.word a := State.word_wr_other s v (fun e => ha (by rw [e]; exact hf))

/-- A session shows itself in the words of the command block alone. -/
theorem State.word_setSess (s : State) (i : Fin 4) (x : Session) {a : Nat} (ha : a / 0x1000000 ≠ 3) : (s.setSess i x).word a = s.word a := by
  have hb : ∀ i : Fin 4, (Reg.CMD_SESSION_OUTSTANDING i).addr / 0x1000000 = 3 ∧ (Reg.CMD_SESSION_SHADOW_COUNT i).addr / 0x1000000 = 3
      ∧ (Reg.CMD_SESSION_IDLE i).addr / 0x1000000 = 3 := by decide
  obtain ⟨ho, hs, hi⟩ := hb i
  unfold State.setSess State.wrSat
  simp only
  rw [State.word_wr_command (f := Reg.CMD_SESSION_IDLE i) _ _ hi ha, State.word_wr_command (f := Reg.CMD_SESSION_SHADOW_COUNT i) _ _ hs ha,
    State.word_wr_command (f := Reg.CMD_SESSION_OUTSTANDING i) _ _ ho ha]
  exact State.word_congr (s := { s with ses := s.ses.set i x }) (t := s) rfl a

theorem State.countAccepted_wr (s : State) (i : Fin 4) :
    ∃ x n, s.countAccepted i = (s.setSess i x).wr (Reg.CMD_SESSION_ACCEPTED i) n := ⟨_, _, rfl⟩

theorem State.word_taken (s : State) (r : Req) {a : Nat} (ha : a / 0x1000000 ≠ 3) : (s.taken r).word a = s.word a := by
  have hb : ∀ i : Fin 4, (Reg.CMD_SESSION_ACCEPTED i).addr / 0x1000000 = 3 := by decide
  have hc : (s.taken r).word a = (State.countAccepted { s with out := [] } r.session).word a := by
    unfold State.taken State.word
    rfl
  obtain ⟨x, n, hx⟩ := State.countAccepted_wr { s with out := [] } r.session
  rw [hc, hx, State.word_wr_command (f := Reg.CMD_SESSION_ACCEPTED r.session) _ _ (hb r.session) ha,
    State.word_setSess { s with out := [] } r.session x ha]
  unfold State.word
  rfl

/-- Taking a packet changes registers and sessions, clears the outputs and turns the scheduler. -/
theorem State.taken_upd (s : State) (r : Req) : ∃ l x, s.taken r = { s with regs := l, ses := x, out := [], turn := r.session } :=
  ⟨_, _, State.taken_eq s r⟩

theorem State.taken_duo (s : State) (r : Req) : (s.taken r).duo = s.duo := by obtain ⟨l, x, e⟩ := State.taken_upd s r; rw [e]
theorem State.taken_pol (s : State) (r : Req) : (s.taken r).pol = s.pol := by obtain ⟨l, x, e⟩ := State.taken_upd s r; rw [e]
theorem State.taken_mem (s : State) (r : Req) : (s.taken r).mem = s.mem := by obtain ⟨l, x, e⟩ := State.taken_upd s r; rw [e]

theorem State.rd_taken_outside (s : State) (r : Req) {f : Fld} (hf : f.addr / 0x1000000 ≠ 3) : (s.taken r).rd f = s.rd f := by
  unfold State.rd
  rw [State.word_taken s r hf]

/-! ### The state after a reply -/

/-- The command path's part of a state after a command's reply: apart from it `t` is `u`, and the session's shadow set is kept. -/
structure AfterReply (i : Fin 4) (u t : State) : Prop where
  upd : t = { u with regs := t.regs, ses := t.ses, canTx := t.canTx, out := t.out }
  keeps : Keeps u t (sessionFlds i)
  shadow : (t.sess i).shadow = (u.sess i).shadow

/-- A reply to a source that is not the monitor's changes registers, the CAN controllers' segments and the outputs. -/
theorem State.sendReply_upd (s : State) {d : Source} (r : Reply) (hp : d.path ≠ .mon) :
    ∃ l c o, s.sendReply d r false = { s with regs := l, canTx := c, out := o } := by
  unfold State.sendReply
  split
  case isTrue => exact ⟨_, _, _, rfl⟩
  case isFalse =>
    simp only
    cases hd : d.path with
    | mon => exact absurd hd hp
    | cana => exact ⟨_, _, _, rfl⟩
    | canb => exact ⟨_, _, _, rfl⟩
    | etha => simp only; split <;> exact ⟨_, _, _, rfl⟩
    | ethb => simp only; split <;> exact ⟨_, _, _, rfl⟩

/-- Completing a command: what changes is the command path's part alone. -/
theorem State.complete_afterReply {u : State} {i : Fin 4} (h : Head) (st : Nat) (p : List Byte) (k : Nat) (hk : u.isKeeper = true)
    (hp : (u.sess i).src.path ≠ .mon) : AfterReply i u (u.complete i h st p k) := by
  have hc : ∃ (v : State) (x : Session) (r : Reply), v = u.wr (Reg.CMD_SESSION_BASE_SEQ i) (h.seq + 1)
      ∧ u.complete i h st p k = (v.setSess i x).sendReply (u.sess i).src r false := ⟨_, _, _, rfl, rfl⟩
  obtain ⟨v, x, r, hv, hc⟩ := hc
  have hkv : (v.setSess i x).isKeeper = true := by rw [hv]; exact hk
  refine ⟨?_, ?_, ?_⟩
  · obtain ⟨l, c, o, hs⟩ := State.sendReply_upd (v.setSess i x) r hp
    rw [hc, hs, hv]
    rfl
  · rw [hc]
    have hb : Keeps u v (sessionFlds i) := by
      rw [hv]
      exact (Keeps.refl u _).wr _ (by simp [sessionFlds]) (sessionFlds_within i _ (by simp [sessionFlds]))
    exact (hb.setSess x fun _ h => h).trans ((State.sendReply_keeper r hkv hp).2.mono (by simp [sessionFlds]))
  · obtain ⟨c, e⟩ := State.sess_complete_same u i h st p k false
    rw [e]

theorem AfterReply.mirrorCmd {u t : State} {i : Fin 4} (h : AfterReply i u t) (hd : Head) (m : Mood) (c : Instr) :
    AfterReply i u (t.mirrorCmd i hd m c) := by
  obtain ⟨l, e⟩ := State.mirrorCmd_upd t i hd m c
  obtain ⟨l', e'⟩ := State.sess_mirrorCmd_same t i hd m c
  refine ⟨?_, h.keeps.congr (by rw [e]), by rw [e']; exact h.shadow⟩
  rw [e]
  have hu := h.upd
  generalize t.ses.set i { t.ses[i] with tell := l } = x
  rw [hu]

/-! ### The state in which an action leaves the command path -/

/-- What an action on the taken state must leave alone for its command to end as a command does: the module's rank, the session's source and
its empty queue, and the other sessions. -/
structure Serves (s : State) (i : Fin 4) (u : State) : Prop where
  keeper : u.isKeeper = true
  waiting : (u.sess i).waiting = []
  src : (u.sess i).src = (s.sess i).src
  others : ∀ j : Fin 4, j ≠ i → u.sess j = s.sess j

theorem Serves.taken {s : State} {r : Req} {u : State} (hk : s.isKeeper = true) (hw : (s.sess r.session).waiting = [])
    (hs : u.ses = (s.taken r).ses) (hd : u.duo = (s.taken r).duo) : Serves s r.session u := by
  have hu : ∀ j, u.sess j = (s.taken r).sess j := State.sess_congr hs
  refine ⟨?_, ?_, ?_, fun j hj => (hu j).trans (State.sess_taken_other s hj)⟩
  · unfold State.isKeeper at hk ⊢
    rw [hd, State.taken_duo]
    exact hk
  · rw [hu, State.sess_taken_same]
    exact hw
  · rw [hu, State.sess_taken_same]

theorem Ready.keeper {s : State} {r : Req} {verb : Nat} (h : Ready s r verb) : s.isKeeper = true := by
  obtain ⟨-, hk, -⟩ := h
  exact hk

theorem Ready.idle {s : State} {r : Req} {verb : Nat} (h : Ready s r verb) : (s.sess r.session).waiting = [] := by
  obtain ⟨-, -, -, hw, -⟩ := h
  exact hw

theorem Ready.notMonitor {s : State} {r : Req} {verb : Nat} (h : Ready s r verb) : (s.sess r.session).src.path ≠ .mon := by
  obtain ⟨-, -, -, -, -, -, hp, -⟩ := h
  exact hp

theorem Ready.serves {s : State} {r : Req} {verb : Nat} (h : Ready s r verb) {u : State} (hs : u.ses = (s.taken r).ses)
    (hd : u.duo = (s.taken r).duo) : Serves s r.session u := Serves.taken h.keeper h.idle hs hd

/-- Ending a command whose action is done at once. -/
theorem settle_done {s : State} {r : Req} {verb flags : Nat} {u : State} (hu : Serves s r.session u) (hp : (s.sess r.session).src.path ≠ .mon)
    (st : Nat) (p : List Byte) (k : Nat) (m : Mood) (c : Instr) :
    let t := (State.settle r.session (headAt s r verb flags) false ⟨st, p, u, none, k⟩).mirrorCmd r.session (headAt s r verb flags) m c
    Completed s t r verb flags st p k ∧ AfterReply r.session u t := by
  have e : State.settle r.session (headAt s r verb flags) false ⟨st, p, u, none, k⟩
      = u.complete r.session (headAt s r verb flags) st p k := State.finish_eq hu.waiting _ _ _ _ _
  rw [e]
  exact ⟨(State.complete_completed _ _ _ hu.keeper hu.src hp hu.others).mirrorCmd _ _ _,
    (State.complete_afterReply _ _ _ _ hu.keeper (hu.src ▸ hp)).mirrorCmd _ _ _⟩

/-- A ready verb whose action is done at once. -/
theorem execVerb_done {s : State} {r : Req} {verb flags : Nat} (h : Ready s r verb) (hm : moodAllowed verb 1 = true) (read : Bool)
    (cmd : Instr) {act : Action} {u : State} {st : Nat} {p : List Byte} {k : Nat} (ha : act (s.taken r) = ⟨st, p, u, none, k⟩)
    (hu : Serves s r.session u) :
    ∃ t, execVerb s r verb flags read cmd act = .next t ∧ Completed s t r verb flags st p k ∧ AfterReply r.session u t :=
  ⟨_, execVerb_ready h hm read cmd act, ha ▸ settle_done hu h.notMonitor st p k r.mood cmd⟩

/-- A reading verb under ASK answers as it would under NOW, in the stage at hand (R147, R159). -/
theorem execVerb_asked {s : State} {r : Req} {verb flags : Nat} (h : Ready s { r with mood := .now } verb) (hask : r.mood = .ask)
    (hm : moodAllowed verb 0 = true) (cmd : Instr) {act : Action} {u : State} {st : Nat} {p : List Byte} {k : Nat}
    (ha : act (s.taken r) = ⟨st, p, u, none, k⟩) (hu : Serves s r.session u) :
    ∃ t, execVerb s r verb flags true cmd act = .next t ∧ Completed s t r verb flags st p s.stage ∧ AfterReply r.session u t := by
  obtain ⟨hr, hk, ho, hw, hd, hb, hp, -, hmir, hrec, hlc, hch⟩ := h
  have hrun : execVerb s r verb flags true cmd act
      = .next ((State.settle r.session (headAt s r verb flags) false ⟨st, p, u, none, s.stage⟩).mirrorCmd r.session (headAt s r verb flags)
          r.mood cmd) := by
    have hch' : ({ s with out := [] } : State).chosen r.session = true := hch
    have hs : ({ s with out := [] } : State).sess r.session = s.sess r.session := rfl
    have ho' : ({ s with out := [] } : State).isOpen r.session = true := ho
    have hbase : ({ s with out := [] } : State).baseSeq r.session = s.baseSeq r.session := rfl
    have hk' : (s.taken r).isKeeper = true := hk
    have hmon : (s.taken r).monitorBars r.session (headAt s r verb flags) = false := by
      unfold State.monitorBars
      rw [State.sess_taken_same]
      simp [show ((s.sess r.session).src.path == Path.mon) = false by simpa using hp]
    have hrb : (s.taken r).recoveryBars cmd verb = false := by
      unfold State.recoveryBars
      rw [State.recovery_taken, hrec]
      rfl
    have hhm : (headAt s r verb flags).mood = 0 := by show r.mood.code = 0; rw [hask]; rfl
    unfold execVerb
    rw [onRun_eq hr]
    unfold State.runVerb
    simp only [show (({ s with out := [] } : State).sess r.session).due = none from hd,
      show (({ s with out := [] } : State).sess r.session).busy = none from hb,
      show (({ s with out := [] } : State).sess r.session).waiting = [] from hw, ho', hbase, hch', assocGet, Option.isSome_none,
      Bool.or_false, Bool.not_true, Bool.false_and, if_false, Bool.false_eq_true]
    show Host.Outcome.next (State.mirrorCmd (State.runMood (s.taken r) r.session (headAt s r verb flags) cmd r.mood r.mirrored true act)
      _ _ _ _) = _
    unfold State.runMood
    rw [hk', show r.mirrored = false from hmir, show (headAt s r verb flags).verb = verb from rfl, hhm, hm, hrb, State.lifecycleBars_taken,
      hlc, hmon, hask]
    simp only [ha, State.runAsk, State.stage_taken, State.settle, Bool.not_true, Bool.false_and, Bool.false_eq_true, if_false, Bool.or_self,
      Bool.not_false, Bool.and_false]
    rfl
  exact ⟨_, hrun, settle_done hu hp st p s.stage r.mood cmd⟩

/-! ### Actions that change the policy's part alone -/

section

variable {s t : State} {r : Req} {verb flags : Nat} {P : Policy}

theorem AfterReply.of_taken_pol (h : AfterReply r.session { s.taken r with pol := P } t) :
    t = { s with regs := t.regs, ses := t.ses, turn := r.session, canTx := t.canTx, out := t.out, pol := P }
      ∧ Keeps s t (sessionFlds r.session) := by
  have hu := h.upd
  refine ⟨?_, ((Keeps.taken s r).congr (u := { s.taken r with pol := P }) rfl).trans h.keeps⟩
  obtain ⟨l, x, e⟩ := State.taken_upd s r
  rw [e] at hu
  exact hu

theorem AfterReply.of_taken (h : AfterReply r.session (s.taken r) t) :
    t = { s with regs := t.regs, ses := t.ses, turn := r.session, canTx := t.canTx, out := t.out } ∧ Keeps s t (sessionFlds r.session) := by
  have e : ({ s.taken r with pol := s.pol } : State) = s.taken r := by
    obtain ⟨l, x, e⟩ := State.taken_upd s r
    rw [e]
  exact AfterReply.of_taken_pol (P := s.pol) (by rw [e]; exact h)

/-- A ready verb that is done at once and changes the policy's part of the state. -/
theorem execVerb_pol (h : Ready s r verb) (hm : moodAllowed verb 1 = true) (read : Bool) (cmd : Instr) {act : Action} {st : Nat}
    {p : List Byte} {k : Nat} (ha : act (s.taken r) = ⟨st, p, { s.taken r with pol := P }, none, k⟩) :
    ∃ t, execVerb s r verb flags read cmd act = .next t ∧ Completed s t r verb flags st p k
      ∧ t = { s with regs := t.regs, ses := t.ses, turn := r.session, canTx := t.canTx, out := t.out, pol := P }
      ∧ Keeps s t (sessionFlds r.session) := by
  obtain ⟨t, ht, hc, hr⟩ := execVerb_done (flags := flags) h hm read cmd ha (h.serves rfl rfl)
  exact ⟨t, ht, hc, hr.of_taken_pol⟩

/-- A ready verb that is done at once and has no effect. -/
theorem execVerb_same (h : Ready s r verb) (hm : moodAllowed verb 1 = true) (read : Bool) (cmd : Instr) {act : Action} {st : Nat}
    {p : List Byte} {k : Nat} (ha : act (s.taken r) = ⟨st, p, s.taken r, none, k⟩) :
    ∃ t, execVerb s r verb flags read cmd act = .next t ∧ Completed s t r verb flags st p k
      ∧ t = { s with regs := t.regs, ses := t.ses, turn := r.session, canTx := t.canTx, out := t.out }
      ∧ Keeps s t (sessionFlds r.session) := by
  obtain ⟨t, ht, hc, hr⟩ := execVerb_done (flags := flags) h hm read cmd ha (h.serves rfl rfl)
  exact ⟨t, ht, hc, hr.of_taken⟩

/-- A ready verb whose action is refused. -/
theorem execVerb_no (h : Ready s r verb) (hm : moodAllowed verb 1 = true) (read : Bool) (cmd : Instr) {act : Action} {st : Nat}
    (ha : act (s.taken r) = (s.taken r).no st) :
    ∃ t, execVerb s r verb flags read cmd act = .next t ∧ Completed s t r verb flags st [] s.stage
      ∧ t = { s with regs := t.regs, ses := t.ses, turn := r.session, canTx := t.canTx, out := t.out }
      ∧ Keeps s t (sessionFlds r.session) :=
  execVerb_same h hm read cmd (ha.trans (by rw [State.no, State.stage_taken]))

/-- A ready verb that waits for an operation, whose action changes the policy's part of the state. -/
theorem execVerb_held (h : Ready s r verb) (hm : moodAllowed verb 1 = true) (read : Bool) (cmd : Instr) {act : Action} {op : LongOp}
    {k : Nat} (ha : act (s.taken r) = ⟨Status.OK, [], { s.taken r with pol := P }, some op, k⟩) :
    ∃ t, execVerb s r verb 0 read cmd act = .next t ∧ Started s t r verb op k
      ∧ t = { s with regs := t.regs, ses := t.ses, turn := r.session, out := [], pol := P } ∧ Keeps s t (sessionFlds r.session) := by
  have hb : ({ s.taken r with pol := P } : State).baseSeq r.session = s.baseSeq r.session :=
    (State.rd_congr (s := { s.taken r with pol := P }) (t := s.taken r) rfl _).trans (State.baseSeq_taken s r r.session)
  have ho : ∀ j : Fin 4, j ≠ r.session → ({ s.taken r with pol := P } : State).sess j = s.sess j :=
    fun j hj => (State.sess_congr (s := { s.taken r with pol := P }) (t := s.taken r) rfl j).trans (State.sess_taken_other s hj)
  obtain ⟨t, ht, hst⟩ := execVerb_starts (act := act) (op := op) h hm read cmd (by rw [ha]) (by rw [ha])
    (by rw [ha]; exact hb) (by rw [ha]; exact ho)
  rw [execVerb_ready h hm read cmd act, ha] at ht
  rw [ha] at hst
  refine ⟨t, (execVerb_ready h hm read cmd act).trans (ha ▸ ht), hst, ?_⟩
  injection ht with ht
  obtain ⟨l, e⟩ := State.mirrorCmd_upd
    (State.settle r.session (headAt s r verb 0) false ⟨Status.OK, [], { s.taken r with pol := P }, some op, k⟩)
    r.session (headAt s r verb 0) r.mood cmd
  rw [e] at ht
  constructor
  · rw [← ht]
    obtain ⟨l, x, e⟩ := State.taken_upd s r
    unfold State.settle
    rw [e]
    rfl
  · rw [← ht]
    exact ((((Keeps.taken s r).congr (u := { s.taken r with pol := P }) rfl).setSess _ fun _ h => h)).congr rfl

end

end Sys2Proof.Machine
end

section
/-! SUPPORT. The reset state. -/

namespace Sys2Proof.Machine

open Sys2Proof

/-- Settles O58. The reset state lists no byte and no word, so each word reads as its object's Reset column has it. -/
theorem resetState : Obligations.ResetState :=
  ⟨rfl, rfl, Memory.wf_reset, rfl, fun _ => rfl, fun _ => rfl, by decide +kernel, by decide +kernel, by decide +kernel, by decide +kernel,
    by decide +kernel, by decide +kernel, by decide +kernel, by decide +kernel, by decide +kernel⟩

end Sys2Proof.Machine
end

section
/-! SUPPORT. The commands of the station: what their actions answer on the state that has taken the packet. -/

namespace Sys2Proof.Machine

open Sys2Proof

/-! ### What taking a packet leaves of the station -/

section

variable (s : State) (r : Req)

theorem State.station_taken : (s.taken r).station = s.station := State.rd_taken_outside s r (by decide)

theorem State.runs_taken : (s.taken r).runs = s.runs := by unfold State.runs; rw [State.station_taken]

theorem State.report_taken : (s.taken r).report = s.report := by
  unfold State.report
  rw [State.station_taken, State.rd_taken_outside s r (f := Reg.POL_STATE_PREV) (by decide),
    State.rd_taken_outside s r (f := Reg.POL_STATE_CAUSE) (by decide), State.taken_pol]

theorem State.armOn_taken {a : Nat} (ha : a ≤ 23) : (s.taken r).armOn a = s.armOn a := by
  have hb : (Reg.ARM_CFG_EN a).addr / 0x1000000 ≠ 3 := by
    unfold Reg.ARM_CFG_EN
    simp only
    omega
  unfold State.armOn State.flag
  rw [State.rd_taken_outside s r hb]

end

/-! ### Leaving STANDBY -/

/-- A command that may leave STANDBY raises the run-up target and orders PRECHARGE for the boundary. -/
theorem State.leaveStandby_of_ok {s : State} {target cause : Nat} (h : (s.leaveStandby target cause).status = Status.OK) :
    s.leaveStandby target cause
      = State.okNext { s with pol := { s.pol with target := max s.pol.target target, goto := some (St.PRECHARGE, cause) } } := by
  have hno : ∀ (u : State) (st : Nat) (v : VRes), st ≠ Status.OK → (u.no st).status = Status.OK → u.no st = v :=
    fun _ _ _ hst h => absurd h hst
  revert h
  unfold State.leaveStandby
  simp only
  split
  · exact hno _ _ _ (by decide)
  split
  · exact hno _ _ _ (by decide)
  split
  · exact hno _ _ _ (by decide)
  split
  · exact hno _ _ _ (by decide)
  split
  · exact hno _ _ _ (by decide)
  split
  · exact hno _ _ _ (by decide)
  · exact fun _ => rfl

/-! ### What the actions answer -/

section

variable {s : State}

theorem actState_off (h : s.station = 1 ∨ s.station = 2) :
    actState (some 0) s = ⟨Status.OK, s.report, s.goTo St.OFF 0x0110, none, s.stage + 1⟩ := by
  have h0 : ¬ 2 < s.station := by omega
  have h1 : s.station ≠ 0 := by omega
  simp [actState, h0, h1, State.okNext]; rfl

theorem actState_off_refused (h : 3 ≤ s.station) : actState (some 0) s = s.no Status.STATE_REFUSED := by
  have h0 : 2 < s.station := by omega
  simp [actState, h0, State.no, Status.STATE_REFUSED, Status.OK]

theorem actState_selftest (h : s.station = 0 ∨ s.station = 2) (hl : s.rd Reg.LC_STATE_STATE ≠ 4) :
    actState (some 1) s = ⟨Status.OK, s.report, s.goTo St.SELFTEST 0x0110, none, s.stage + 1⟩ := by
  have h0 : ¬ 2 < s.station := by omega
  have h1 : s.station ≠ 1 := by omega
  simp [actState, h0, h1, hl, State.okNext]; rfl

theorem actState_stop (h3 : 3 ≤ s.station) (h6 : s.station ≤ 6) :
    actState (some 2) s = ⟨Status.OK, s.report, s.stopBy 0x0110, none, s.stage + 1⟩ := by
  have h0 : ¬ (s.station = 2 ∨ s.station = 7) := by omega
  simp [actState, h0, h3, h6, State.okNext]; rfl

theorem actState_ask : actState none s = ⟨Status.OK, s.report, s, none, s.stage⟩ := rfl

theorem actStartConverter_standby (hh : s.pol.haltConv = false) (h : s.station = 2) (hl : (s.leaveStandby 5 0x0111).status = Status.OK) :
    actStartConverter s
      = ⟨Status.OK, [], { s with pol := { s.pol with target := max s.pol.target 5, goto := some (St.PRECHARGE, 0x0111), launchConv := true } },
          some (.start false), s.stage + 1⟩ := by
  simp [actStartConverter, hh, h, State.leaveStandby_of_ok hl, State.okNext]

theorem actStartConverter_refused (h : s.station ≤ 1) : actStartConverter s = s.no Status.STATE_REFUSED := by
  have h2 : s.station ≠ 2 := by omega
  have h34 : ¬ (s.station = 3 ∨ s.station = 4) := by omega
  have h56 : s.runs = false := by simp only [State.runs, decide_eq_false_iff_not]; omega
  simp [actStartConverter, h2, h34, h56]

theorem actStartConverter_runUp (hh : s.pol.haltConv = false) (h : s.station = 3 ∨ s.station = 4) :
    actStartConverter s = ⟨Status.OK, [], { s with pol := { s.pol with target := max s.pol.target 5, launchConv := true } },
      some (.start false), s.stage + 1⟩ := by
  have h2 : s.station ≠ 2 := by omega
  simp [actStartConverter, hh, h2, h, State.okNext, State.aim]

theorem actStartConverter_runs (hh : s.pol.haltConv = false) (h : s.runs = true) :
    actStartConverter s = ⟨Status.OK, [], { s with pol := { s.pol with launchConv := true } }, some (.start false), s.stage + 1⟩ := by
  have h56 : s.station = 5 ∨ s.station = 6 := by simpa [State.runs] using h
  have h2 : s.station ≠ 2 := by omega
  have h34 : ¬ (s.station = 3 ∨ s.station = 4) := by omega
  simp [actStartConverter, hh, h2, h34, h, State.ok]

theorem actStopConverter_rest (h : s.station < 3 ∨ 6 < s.station) :
    actStopConverter s = ⟨Status.OK, [], { s with pol := { s.pol with haltConv := true } }, none, s.stage⟩ := by
  have h36 : ¬ (3 ≤ s.station ∧ s.station ≤ 6) := by omega
  unfold actStopConverter
  simp only
  rw [if_neg h36]
  rfl

theorem actStopConverter_stop (h3 : 3 ≤ s.station) (h6 : s.station ≤ 6) :
    actStopConverter s
      = ⟨Status.OK, [], { s with pol := { s.pol with haltConv := true, stopFault := false, goto := some (St.STOPPING, 0x0112) } }, none,
          s.stage + 1⟩ := by
  unfold actStopConverter
  simp only
  rw [if_pos ⟨h3, h6⟩]
  rfl

theorem actStopArm_stop {a : Byte} (ha : a.toNat ≤ 23) (hon : s.armOn a.toNat = true) (h4 : 4 ≤ s.station) (h6 : s.station ≤ 6) :
    actStopArm a s = ⟨Status.OK, [], { s with pol := { s.pol with groupStops := s.pol.groupStops ++ [a.toNat] } }, none, s.stage + 1⟩ := by
  have h23 : ¬ 23 < a.toNat := by omega
  simp [actStopArm, h23, hon, h4, h6, State.okNext]; rfl

end

/-- Settles O13, clause by clause: each is what its action answers on the state that has taken the packet. -/
theorem stationCommands : Obligations.StationCommands := by
  refine ⟨?_, ?_, ?_, ?_, ?_, ?_, ?_, ?_, ?_, ?_, ?_⟩
  · rintro s r k hr hl (⟨rfl, hs⟩ | ⟨rfl, hs⟩)
    · rw [← s.station_taken r] at hs
      exact execVerb_pol hr (by decide) true _ (by rw [actState_off hs, State.report_taken, State.stage_taken, State.goTo, State.taken_pol]; rfl)
    · rw [← s.station_taken r] at hs
      rw [← s.rd_taken_outside r (by decide)] at hl
      exact execVerb_pol hr (by decide) true _
        (by rw [actState_selftest hs hl, State.report_taken, State.stage_taken, State.goTo, State.taken_pol]; rfl)
  · intro s r hr h3 h6
    rw [← s.station_taken r] at h3 h6
    exact execVerb_pol hr (by decide) true _
      (by rw [actState_stop h3 h6, State.report_taken, State.stage_taken, State.stopBy, State.goTo, State.taken_pol]; rfl)
  · intro s r hr h3
    rw [← s.station_taken r] at h3
    exact execVerb_no hr (by decide) true _ (actState_off_refused h3)
  · intro s r hr hask
    obtain ⟨t, ht, hc, ha⟩ := execVerb_asked (flags := 0) hr hask (by decide) (.state r none) (actState_ask (s := s.taken r))
      (Serves.taken hr.keeper hr.idle rfl rfl)
    rw [State.report_taken] at hc
    exact ⟨t, ht, hc, ha.of_taken⟩
  · intro s r hr hh hs hl
    rw [← s.station_taken r] at hs
    rw [← s.taken_pol r] at hh
    exact execVerb_held hr (by decide) false _ (by rw [actStartConverter_standby hh hs hl, State.stage_taken, State.taken_pol]; rfl)
  · intro s r hr h1
    rw [← s.station_taken r] at h1
    exact execVerb_no hr (by decide) false _ (actStartConverter_refused h1)
  · intro s r hr hh hs
    rw [← s.station_taken r] at hs
    rw [← s.taken_pol r] at hh
    exact execVerb_held hr (by decide) false _ (by rw [actStartConverter_runUp hh hs, State.stage_taken, State.taken_pol])
  · intro s r hr hh hs
    rw [← s.runs_taken r] at hs
    rw [← s.taken_pol r] at hh
    exact execVerb_held hr (by decide) false _ (by rw [actStartConverter_runs hh hs, State.stage_taken, State.taken_pol])
  · intro s r hr hs
    rw [← s.station_taken r] at hs
    exact execVerb_pol hr (by decide) false _ (by rw [actStopConverter_rest hs, State.stage_taken, State.taken_pol])
  · intro s r hr h3 h6
    rw [← s.station_taken r] at h3 h6
    exact execVerb_pol hr (by decide) false _ (by rw [actStopConverter_stop h3 h6, State.stage_taken, State.taken_pol]; rfl)
  · intro s r a hr ha hon h4 h6
    rw [← s.station_taken r] at h4 h6
    rw [← s.armOn_taken r ha] at hon
    exact execVerb_pol hr (by decide) false _ (by rw [actStopArm_stop ha hon h4 h6, State.stage_taken, State.taken_pol])

end Sys2Proof.Machine
end

section
/-! SUPPORT. What GET and ECHO answer on the state that has taken their packet, and what the errors met in memory leave alone. -/

namespace Sys2Proof.Machine

open Sys2Proof

/-! ### The bytes of words -/

@[simp] theorem length_beBytes (n v : Nat) : (beBytes n v).length = n := by
  induction n with
  | zero => rfl
  | succ n ih => rw [beBytes, List.length_cons, ih]

/-- A span of whole words is read as its length in bytes. -/
theorem State.length_readBytes (s : State) (e : Nat) (sh : Option (List (Nat × List Byte))) (a : Nat) {n : Nat} (hn : n % 4 = 0) :
    (s.readBytes e sh a n).length = n := by
  have hw : ∀ f : Nat → Word, ((wordsOf a n).map (fun w => wordBytes (f w))).flatten.length = n := by
    intro f
    simp only [wordsOf, wordBytes, List.length_flatten, List.map_map, Function.comp_def, length_beBytes, List.map_const', List.length_range,
      List.sum_replicate, smul_eq_mul]
    omega
  exact hw _

/-! ### The time bases as a read finds them -/

/-- The time bases' words lie in the clock block. -/
theorem State.word_setTime (s : State) {b : Nat} (hb : b < 4) (u : Nat) {a : Nat} (ha : a / 0x1000000 ≠ 1) :
    (s.setTime b u).word a = s.word a := by
  unfold State.setTime
  simp only
  rw [State.word_wr_other (f := Reg.TIME_BASE_FRACTION b) _ _ (by simp only [Reg.TIME_BASE_FRACTION]; omega),
    State.word_wr_other (f := Reg.TIME_BASE_NANOSECONDS b) _ _ (by simp only [Reg.TIME_BASE_NANOSECONDS]; omega),
    State.word_wr_other (f := Reg.TIME_BASE_SECONDS_LO b) _ _ (by simp only [Reg.TIME_BASE_SECONDS_LO]; omega),
    State.word_wr_other (f := Reg.TIME_BASE_SECONDS_HI b) _ _ (by simp only [Reg.TIME_BASE_SECONDS_HI]; omega)]

theorem State.word_later (s : State) (e : Nat) {a : Nat} (ha : a / 0x1000000 ≠ 1) : (s.later e).word a = s.word a := by
  unfold State.later
  simp only
  rw [State.word_setTime _ (by decide) _ ha, State.word_setTime _ (by decide) _ ha, State.word_setTime _ (by decide) _ ha,
    State.word_setTime _ (by decide) _ ha]

/-- The state at the last boundary does not know of a packet taken since. -/
theorem State.asOfBoundary_word_taken (s : State) (r : Req) (a : Nat) : (s.taken r).asOfBoundary.word a = s.asOfBoundary.word a := by
  obtain ⟨l, x, e⟩ := State.taken_upd s r
  rw [e]
  rfl

/-- Outside the clock and the command block a packet's taking and the time since the boundary do not show. -/
theorem State.readBytes_taken (s : State) (r : Req) (e : Nat) {a n : Nat} (ha : 0x04000000 ≤ a) :
    (s.taken r).readBytes e none a n
      = ((wordsOf a n).map (fun w => beBytes 4 (if reportsState w then s.asOfBoundary.word w else s.word w).toNat)).flatten := by
  unfold State.readBytes
  simp only
  congr 1
  refine List.map_congr_left fun w hw => ?_
  have hle : a ≤ w := by
    obtain ⟨k, -, rfl⟩ := List.mem_map.mp hw
    omega
  have hnow : ((s.taken r).later e).getWord none w = s.word w :=
    (State.word_later _ _ (by omega)).trans (State.word_taken s r (by omega))
  rw [hnow, State.asOfBoundary_word_taken]
  rfl

theorem State.load_taken (s : State) (r : Req) (a n : Nat) : (s.taken r).load a n = s.load a n := by
  unfold State.load State.byte
  rw [State.taken_mem]

/-! ### Errors of memory words -/

/-- What counting and recording an error of a memory word, and acting on it, may write (R112, R113). -/
def eccFlds : List Fld :=
  [Reg.MEM_ECC_LAST_KIND, Reg.MEM_ECC_LAST_REGION, Reg.MEM_ECC_LAST_WORD, Reg.MEM_ECC_CNT_UE, Reg.MEM_ECC_CNT_CE,
   Reg.MEM_TAMPER_STAT_WIPE_COUNT, Reg.LC_STATE_SECRETS_PRESENT, Reg.MEM_TAMPER_STAT_WIPING, Reg.JRNL_STAT_QUEUED, Reg.JRNL_STAT_DROPPED]

/-- What an error of a memory word leaves alone: memory, the sessions, the module's rank and the registers apart from its own. -/
structure EccStep (s t : State) : Prop where
  mem : t.mem = s.mem
  ses : t.ses = s.ses
  duo : t.duo = s.duo
  keeps : Keeps s t eccFlds

namespace EccStep

variable {s t u : State}

theorem refl (s : State) : EccStep s s := ⟨rfl, rfl, rfl, Keeps.refl s _⟩

theorem trans (h : EccStep s t) (h' : EccStep t u) : EccStep s u :=
  ⟨h'.mem.trans h.mem, h'.ses.trans h.ses, h'.duo.trans h.duo, h.keeps.trans h'.keeps⟩

theorem wr {f : Fld} (h : EccStep s t) (v : Nat) (hf : f ∈ eccFlds) (ho : f.within) : EccStep s (t.wr f v) :=
  ⟨h.mem, h.ses, h.duo, h.keeps.wr v hf ho⟩

theorem inc {f : Fld} (h : EccStep s t) (hf : f ∈ eccFlds) (ho : f.within) : EccStep s (t.inc f) := h.wr _ hf ho

theorem stage (h : EccStep s t) : t.stage = s.stage := by
  unfold State.stage
  rw [h.keeps _ (by decide) (by decide), h.keeps _ (by decide) (by decide)]

theorem wipe (h : EccStep s t) : EccStep s t.wipe := by
  have hw : EccStep s (((t.inc Reg.MEM_TAMPER_STAT_WIPE_COUNT).wr Reg.LC_STATE_SECRETS_PRESENT 0).wrB Reg.MEM_TAMPER_STAT_WIPING
      (decide (t.power.region = .full))) :=
    ((h.inc (f := Reg.MEM_TAMPER_STAT_WIPE_COUNT) (by decide) (by decide)).wr _ (f := Reg.LC_STATE_SECRETS_PRESENT) (by decide)
      (by decide)).wr _ (f := Reg.MEM_TAMPER_STAT_WIPING) (by decide) (by decide)
  exact ⟨hw.mem, hw.ses, hw.duo, hw.keeps.congr rfl⟩

theorem raiseEach (h : EccStep s t) (c : Nat) (k : FaultClass) : EccStep s (t.raiseEach c k) :=
  ⟨h.mem, h.ses, h.duo, h.keeps.congr rfl⟩

theorem raise (h : EccStep s t) (c : Nat) (k : FaultClass) : EccStep s (t.raise c k) := by
  rw [State.raise_eq]
  exact ⟨h.mem, h.ses, h.duo, h.keeps.congr rfl⟩

theorem journal (h : EccStep s t) (c k : Nat) : EccStep s (t.journal c k 0 []) :=
  ⟨h.mem, h.ses, h.duo, h.keeps.journal c k 0 [] false (by decide) (by decide)⟩

theorem eccHit (h : EccStep s t) (e : EccHit) : EccStep s (t.eccHit e) := by
  unfold State.eccHit
  extract_lets region u ue ce
  have hu : EccStep s u := ((h.wr _ (by decide) (by decide)).wr _ (by decide) (by decide)).wr _ (by decide) (by decide)
  have hue : EccStep s ue := hu.inc (by decide) (by decide)
  have hce : EccStep s ce := hu.inc (by decide) (by decide)
  clear_value ue ce
  split
  case isTrue =>
    split
    · exact hue.raiseEach _ _
    split
    · split
      · exact hue.journal _ _
      · exact hue.raise _ _
    · exact hue.wipe.raiseEach _ _
  case isFalse =>
    split
    · exact hce
    · exact ⟨hce.mem, hce.ses, hce.duo, hce.keeps.congr rfl⟩

/-- The errors of a span, one after the other. -/
theorem eccHits (l : List EccHit) (h : EccStep s t) : EccStep s (l.foldl State.eccHit t) := by
  induction l generalizing t with
  | nil => exact h
  | cons e l ih => exact ih (h.eccHit e)

end EccStep

/-! ### What the actions answer -/

section

variable (s : State) (i : Fin 4) (sh : Bool) (a : Word) (n : BitVec 16) (e : Nat) (l : List EccHit)

theorem actGet_length (h : n.toNat < 4 ∨ 1400 < n.toNat ∨ n.toNat % 4 ≠ 0) : actGet i sh a n e l s = s.no Status.VALUE_OUT_OF_RANGE := by
  unfold actGet
  simp only
  rw [if_pos h]

variable {n a}
variable (h4 : 4 ≤ n.toNat) (h1400 : n.toNat ≤ 1400)
include h4 h1400

section

variable (hn : n.toNat % 4 = 0) (ha : a.toNat < memBase)
include hn ha

theorem actGet_no_objects (ho : objectsIn 351 a.toNat (a.toNat + n.toNat) = none) :
    actGet i sh a n e l s = s.no Status.ADDRESS_INVALID := by
  unfold actGet
  simp only [ho]
  rw [if_neg (by omega), if_neg (by omega)]

theorem actGet_whole_objects {o : List (Nat × Nat)} (ho : objectsIn 351 a.toNat (a.toNat + n.toNat) = some o) :
    actGet i sh a n e l s = s.ok (s.readBytes e (if sh then some (s.sess i).shadow else none) a.toNat n.toNat) := by
  unfold actGet
  simp only [ho]
  rw [if_neg (by omega), if_neg (by omega)]

end

theorem actGet_window (hw : inWindow a.toNat n.toNat = true) :
    actGet i sh a n e l s = if reachesSecure a.toNat n.toNat then s.no Status.ACCESS_DENIED
      else s.okRead (hitsIn l a.toNat n.toNat) (s.load a.toNat n.toNat) := by
  obtain ⟨hb, -, -, hn⟩ : memBase ≤ a.toNat ∧ a.toNat + n.toNat ≤ memEnd ∧ a.toNat % 4 = 0 ∧ n.toNat % 4 = 0 := by
    simpa [inWindow] using hw
  unfold actGet
  simp only
  rw [if_neg (by omega), if_pos hb, hw]
  simp

end

theorem actEcho_ok (s : State) {p : List Byte} (hp : p.length ≤ 1400) : actEcho p s = s.ok p := by
  unfold actEcho
  rw [if_neg (by omega)]

/-- What okRead answers where the errors it meets are counted on the taken state: the command ends as any other, and memory stays. -/
theorem execVerb_okRead {s : State} {r : Req} {verb flags : Nat} (h : Ready s r verb) (hm : moodAllowed verb 1 = true) (read : Bool)
    (cmd : Instr) {act : Action} {hits : List EccHit} {p : List Byte} (ha : act (s.taken r) = (s.taken r).okRead hits p) :
    ∃ t, execVerb s r verb flags read cmd act = .next t
      ∧ Completed s t r verb flags (if hits.any (fun x => x.double) then Status.DATA_UNCORRECTABLE else Status.OK) p s.stage
      ∧ t.mem = s.mem := by
  have he : EccStep (s.taken r) (hits.foldl State.eccHit (s.taken r)) := (EccStep.refl _).eccHits hits
  obtain ⟨t, ht, hc, hr⟩ := execVerb_done (flags := flags) h hm read cmd (ha.trans (by rw [State.okRead, State.ok])) (h.serves he.ses he.duo)
  rw [he.stage, State.stage_taken] at hc
  refine ⟨t, ht, hc, ?_⟩
  rw [hr.upd]
  exact he.mem.trans (State.taken_mem s r)

/-- Settles O35, clause by clause: each is what its action answers on the state that has taken the packet. -/
theorem getReturnsTheBytesRead : Obligations.GetReturnsTheBytesRead := by
  refine ⟨?_, ?_, ?_, ?_, ?_, ?_, ?_, ?_⟩
  · intro s r sh a n e l o hr h4 h1400 hn ha ho
    have hact := actGet_whole_objects (s.taken r) r.session sh e l h4 h1400 hn ha ho
    rw [State.sess_taken_same] at hact
    obtain ⟨t, ht, hc, hu, hk⟩ := execVerb_same (flags := if sh then flagShadow else 0) hr (by decide) true (.get r sh a n e l)
      (hact.trans (by rw [State.ok, State.stage_taken]))
    exact ⟨t, ht, hc, State.length_readBytes _ _ _ _ hn, hu, hk⟩
  · intro s r a n e l o hr h4 h1400 hn hlo ha ho
    have hact := actGet_whole_objects (s.taken r) r.session false e l h4 h1400 hn ha ho
    rw [if_neg (by decide), State.readBytes_taken s r e hlo] at hact
    obtain ⟨t, ht, hc, -⟩ := execVerb_same (flags := 0) hr (by decide) true (.get r false a n e l)
      (hact.trans (by rw [State.ok, State.stage_taken]))
    exact ⟨t, ht, hc⟩
  · intro s r a n e l hr h4 h1400 hn ha ho
    exact execVerb_no hr (by decide) true _ (actGet_no_objects (s.taken r) r.session false e l h4 h1400 hn ha ho)
  · intro s r sh a n e l hr hn
    exact execVerb_no hr (by decide) true _ (actGet_length (s.taken r) r.session sh a n e l hn)
  · intro s r a n e hr h4 h1400 hw hs
    have hact := actGet_window (s.taken r) r.session false e [] h4 h1400 hw
    rw [hs, if_neg (by decide), State.load_taken] at hact
    exact execVerb_same (flags := 0) hr (by decide) true (.get r false a n e []) (hact.trans (by rw [← State.stage_taken s r]; rfl))
  · intro s r sh a n e l hr h4 h1400 hw hs
    have hact := actGet_window (s.taken r) r.session sh e l h4 h1400 hw
    rw [hs, if_neg (by decide), State.load_taken] at hact
    exact execVerb_okRead hr (by decide) true _ hact
  · intro s r a n e l hr h4 h1400 hw hs
    have hact := actGet_window (s.taken r) r.session false e l h4 h1400 hw
    rw [hs, if_pos rfl] at hact
    exact execVerb_no hr (by decide) true _ hact
  · intro s r p hr hp
    exact execVerb_same hr (by decide) true _ ((actEcho_ok (s.taken r) hp).trans (by rw [State.ok, State.stage_taken]))

end Sys2Proof.Machine
end

section
/-! SUPPORT. Spans of whole objects: how `objectsIn` cuts a span, where the words lie in which sessions show themselves, and what writing
the words of a span leaves. -/

namespace Sys2Proof.Machine

open Sys2Proof

/-! ### The object at an address -/

/-- The span in which an address is found: a row of the list, the object's first address and size from it. -/
theorem spanAt_some {l : List Span} {a b size : Nat} (h : spanAt l a = some (b, size)) :
    ∃ r ∈ l, r.1 ≤ a ∧ r.2.2 = size ∧ ∃ is q, locateDims r.2.1 (a - r.1) = some (is, q) ∧ q < size ∧ b = a - q := by
  induction l with
  | nil => exact nomatch h
  | cons r l ih =>
    obtain ⟨base, dims, n⟩ := r
    have hrest : spanAt l a = some (b, size) →
        ∃ r ∈ (base, dims, n) :: l,
          r.1 ≤ a ∧ r.2.2 = size ∧ ∃ is q, locateDims r.2.1 (a - r.1) = some (is, q) ∧ q < size ∧ b = a - q :=
      fun h => by
        obtain ⟨r, hr, hs⟩ := ih h
        exact ⟨r, List.mem_cons_of_mem _ hr, hs⟩
    rw [spanAt] at h
    split at h
    case isTrue => exact hrest h
    case isFalse hle =>
      split at h
      case h_1 is q hl =>
        split at h
        case isTrue hq =>
          injection h with h
          obtain ⟨rfl, rfl⟩ := Prod.mk.inj h
          exact ⟨_, List.mem_cons_self, Nat.le_of_not_lt hle, rfl, is, q, hl, hq, rfl⟩
        case isFalse => exact hrest h
      case h_2 => exact hrest h

/-- Objects are whole words long. -/
theorem objectAt_size {a b size : Nat} (h : objectAt a = some (b, size)) : 0 < size ∧ size % 4 = 0 := by
  have hall : ∀ k, ∀ r ∈ spansOfBlock k, r.2.2 % 4 = 0 := by
    intro k
    unfold spansOfBlock
    split <;> decide
  obtain ⟨r, hr, -, rfl, -, q, -, hq, -⟩ := spanAt_some h
  exact ⟨by omega, hall _ r hr⟩

theorem locateDims_single {r q : Nat} {is : List Nat} (h : locateDims [] r = some (is, q)) : q = r := by
  injection h with h
  exact (Prod.mk.inj h).2.symm

theorem locateDims_row {c st r q : Nat} {is : List Nat} (h : locateDims [(c, st)] r = some (is, q)) : r / st < c ∧ q = r % st := by
  rw [locateDims] at h
  split at h
  case isTrue hc =>
    injection h with h
    exact ⟨hc, (Prod.mk.inj h).2.symm⟩
  case isFalse => exact nomatch h

/-- The words of CMD_SESSION. -/
def sessionWord (a : Nat) : Prop := 0x03000100 ≤ a ∧ a < 0x03000180

/-- An object of the command block that holds a word of CMD_SESSION is one of CMD_SESSION, and none of its fields is written by a SET. -/
theorem objectWritable_session {a size w : Nat} (h : objectAt a = some (a, size)) (h3 : a / 0x1000000 = 3) (hlo : a ≤ w) (hhi : w < a + size)
    (hw : sessionWord w) : objectWritable a size = false := by
  obtain ⟨hw1, hw2⟩ := hw
  have hro : ∀ j : Fin 4, objectWritable (0x03000100 + 0x20 * j) 28 = false := by decide +kernel
  have hfind : ∃ j : Fin 4, a = 0x03000100 + 0x20 * j ∧ size = 28 := by
    obtain ⟨⟨base, dims, n⟩, hr, hb, hn, is, q, hl, hq, ha⟩ := spanAt_some h
    rw [h3] at hr
    have hq0 : q = 0 := by omega
    subst hq0
    simp only [spansOfBlock, spansOfBlock03, List.mem_cons, Prod.mk.injEq, List.not_mem_nil, or_false] at hr
    rcases hr with ⟨rfl, rfl, rfl⟩ | ⟨rfl, rfl, rfl⟩ | ⟨rfl, rfl, rfl⟩ | ⟨rfl, rfl, rfl⟩ | ⟨rfl, rfl, rfl⟩ | ⟨rfl, rfl, rfl⟩
    case inr.inr.inl =>
      obtain ⟨hc, h0⟩ := locateDims_row hl
      exact ⟨⟨(a - 0x03000100) / 0x20, hc⟩, by simp only; omega, hn.symm⟩
    case inr.inl | inr.inr.inr.inl =>
      obtain ⟨hc, h0⟩ := locateDims_row hl
      simp only at hn hb
      omega
    all_goals
      have h0 := locateDims_single hl
      simp only at hn hb
      omega
  obtain ⟨j, rfl, rfl⟩ := hfind
  exact hro j

/-! ### Spans of whole objects -/

theorem objectsIn_nil {n a e : Nat} (h : objectsIn n a e = some []) : a = e := by
  cases n with
  | zero => exact nomatch h
  | succ n =>
    rw [objectsIn] at h
    split at h
    case isTrue he => exact he
    case isFalse =>
      split at h
      · exact nomatch h
      · split at h
        · split at h
          · split at h <;> simp at h
          · exact nomatch h
        · exact nomatch h

/-- A span begins with its first object, and the others lie behind it. -/
theorem objectsIn_cons {n a e : Nat} {p : Nat × Nat} {l : List (Nat × Nat)} (h : objectsIn n a e = some (p :: l)) :
    p.1 = a ∧ objectAt a = some (a, p.2) ∧ ∃ m, objectsIn m (a + p.2) e = some l := by
  cases n with
  | zero => exact nomatch h
  | succ n =>
    rw [objectsIn] at h
    split at h
    · exact nomatch h
    · split at h
      · exact nomatch h
      · split at h
        case h_2 => exact nomatch h
        case h_1 b size ho =>
          split at h
          case isFalse => exact nomatch h
          case isTrue hb =>
            split at h
            case h_2 => exact nomatch h
            case h_1 l' hl =>
              injection h with h
              obtain ⟨rfl, rfl⟩ := List.cons.inj h
              exact ⟨rfl, hb ▸ ho, n, hl⟩

theorem objectsIn_le {n a e : Nat} {l : List (Nat × Nat)} (h : objectsIn n a e = some l) : a ≤ e := by
  induction l generalizing n a with
  | nil => exact (objectsIn_nil h).le
  | cons p l ih =>
    obtain ⟨-, -, m, hm⟩ := objectsIn_cons h
    exact (Nat.le_add_right a p.2).trans (ih hm)

/-- Each object of a span begins where `objectAt` says, lies in the span, and is whole words long. -/
theorem objectsIn_mem {n a e : Nat} {l : List (Nat × Nat)} (h : objectsIn n a e = some l) :
    ∀ p ∈ l, objectAt p.1 = some p ∧ a ≤ p.1 ∧ p.1 + p.2 ≤ e := by
  induction l generalizing n a with
  | nil => exact fun p hp => nomatch hp
  | cons q l ih =>
    obtain ⟨hq, ho, m, hm⟩ := objectsIn_cons h
    intro p hp
    rcases List.mem_cons.mp hp with rfl | hp
    · obtain ⟨x, y⟩ := p
      obtain rfl : x = a := hq
      exact ⟨ho, le_refl _, objectsIn_le hm⟩
    · obtain ⟨h1, h2, h3⟩ := ih hm p hp
      exact ⟨h1, by omega, h3⟩

/-! ### Words of a span -/

theorem mem_wordsOf {a n w : Nat} : w ∈ wordsOf a n ↔ ∃ k, k < n / 4 ∧ w = a + 4 * k := by
  simp [wordsOf, eq_comm]

theorem wordsOf_nodup (a n : Nat) : (wordsOf a n).Nodup :=
  List.Nodup.map (fun x y h => by simpa using h) List.nodup_range

/-- The words of a span are those of its first part and those of the rest. -/
theorem wordsOf_add {a m : Nat} (n : Nat) (hm : m % 4 = 0) : wordsOf a (m + n) = wordsOf a m ++ wordsOf (a + m) n := by
  have hdiv : (m + n) / 4 = m / 4 + n / 4 := by omega
  unfold wordsOf
  rw [hdiv, List.range_add, List.map_append, List.map_map]
  congr 1
  refine List.map_congr_left fun k _ => ?_
  simp only [Function.comp_apply]
  omega

/-- A word of an object of a span is a word of the span. -/
theorem mem_wordsOf_of_objectsIn {n a e : Nat} {l : List (Nat × Nat)} (h : objectsIn n a e = some l) {w : Nat}
    (hw : w ∈ wordsOf a (e - a)) : ∃ p ∈ l, w ∈ wordsOf p.1 p.2 := by
  induction l generalizing n a with
  | nil =>
    obtain rfl := objectsIn_nil h
    simp [wordsOf] at hw
  | cons p l ih =>
    obtain ⟨hp, ho, m, hm⟩ := objectsIn_cons h
    have hle := objectsIn_le hm
    have hsplit : e - a = p.2 + (e - (a + p.2)) := by omega
    rw [hsplit, wordsOf_add _ (objectAt_size ho).2, List.mem_append] at hw
    rcases hw with hw | hw
    · exact ⟨p, List.mem_cons_self, hp ▸ hw⟩
    · obtain ⟨q, hq, hwq⟩ := ih hm hw
      exact ⟨q, List.mem_cons_of_mem _ hq, hwq⟩

/-! ### Bytes of a span -/

theorem length_slice {d : List Byte} {o n : Nat} (h : o + n ≤ d.length) : (slice d o n).length = n := by
  simp [slice]
  omega

/-- A word of a slice is that of the whole. -/
theorem wordAt_slice (d : List Byte) {o n k : Nat} (hk : k + 4 ≤ n) : wordAt (slice d o n) k = wordAt d (o + k) := by
  have hb : (List.range 4).map (fun j => (slice d o n).getD (k + j) 0) = (List.range 4).map (fun j => d.getD (o + k + j) 0) := by
    refine List.map_congr_left fun j hj => ?_
    have hj4 : j < 4 := List.mem_range.mp hj
    simp only [slice, List.getD_eq_getElem?_getD, List.getElem?_take, List.getElem?_drop]
    rw [if_pos (by omega), Nat.add_assoc]
  unfold wordAt beAt
  rw [hb]

/-! ### Writing words -/

/-- Words set one after the other, each to what its old value and the events of the stage make of it. -/
def setWords (g : Nat → Word → Word → Word) (l : List Nat) (s : State) : State :=
  l.foldl (fun t w => t.setWord w (g w (t.word w) (t.seenMask w))) s

theorem setWords_append (g : Nat → Word → Word → Word) (l m : List Nat) (s : State) :
    setWords g (l ++ m) s = setWords g m (setWords g l s) := List.foldl_append

theorem setWords_upd (g : Nat → Word → Word → Word) (l : List Nat) (s : State) : ∃ x, setWords g l s = { s with regs := x } := by
  induction l generalizing s with
  | nil => exact ⟨s.regs, rfl⟩
  | cons w l ih =>
    obtain ⟨x, hx⟩ := ih (s.setWord w (g w (s.word w) (s.seenMask w)))
    exact ⟨x, hx⟩

theorem setWords_congr {g g' : Nat → Word → Word → Word} {l : List Nat} (h : ∀ w ∈ l, g w = g' w) (s : State) :
    setWords g l s = setWords g' l s := by
  induction l generalizing s with
  | nil => rfl
  | cons w l ih =>
    unfold setWords
    rw [List.foldl_cons, List.foldl_cons, h w List.mem_cons_self]
    exact ih (fun x hx => h x (List.mem_cons_of_mem _ hx)) _

/-- A word that is not among them stays. -/
theorem word_setWords_other (g : Nat → Word → Word → Word) {l : List Nat} {a : Nat} (h : a ∉ l) (s : State) :
    (setWords g l s).word a = s.word a := by
  induction l generalizing s with
  | nil => rfl
  | cons w l ih =>
    obtain ⟨hw, hl⟩ := not_or.mp (mt List.mem_cons.mpr h)
    exact (ih hl _).trans (State.word_setWord_other _ _ hw)

/-- A word that is one of them gets its value. -/
theorem word_setWords_mem (g : Nat → Word → Word → Word) {l : List Nat} (hl : l.Nodup) {a : Nat} (h : a ∈ l) (s : State) :
    (setWords g l s).word a = g a (s.word a) (s.seenMask a) := by
  induction l generalizing s with
  | nil => exact nomatch h
  | cons w l ih =>
    obtain ⟨hw, hl⟩ := List.nodup_cons.mp hl
    rcases List.mem_cons.mp h with rfl | ha
    · exact (word_setWords_other g hw _).trans (State.word_setWord_same _ _ _)
    · have hne : a ≠ w := fun e => hw (e ▸ ha)
      refine (ih hl ha _).trans ?_
      rw [State.word_setWord_other _ _ hne]
      rfl

/-- What a SET makes of a word, from the bytes of the span that begins at an address. -/
def spanWord (a : Nat) (d : List Byte) (w : Nat) (old kept : Word) : Word := writtenWord (rowsAt w).1 old (wordAt d (w - a)) kept

theorem State.writeWords_eq (s : State) (a : Nat) (d : List Byte) : s.writeWords (a, d) = setWords (spanWord a d) (wordsOf a d.length) s := rfl

/-- The objects of a span with their bytes of it. -/
def objectBytes (a : Nat) (d : List Byte) (l : List (Nat × Nat)) : List (Nat × List Byte) := l.map (fun p => (p.1, slice d (p.1 - a) p.2))

/-- Writing an object of a span is writing its words from the bytes of the span. -/
theorem State.writeWords_slice (s : State) {a b n : Nat} {d : List Byte} (hab : a ≤ b) (hn : b + n ≤ a + d.length) :
    s.writeWords (b, slice d (b - a) n) = setWords (spanWord a d) (wordsOf b n) s := by
  rw [State.writeWords_eq, length_slice (by omega)]
  refine setWords_congr (fun w hw => ?_) s
  obtain ⟨k, hk, rfl⟩ := mem_wordsOf.mp hw
  funext old kept
  unfold spanWord
  rw [wordAt_slice d (by omega), show b - a + (b + 4 * k - b) = b + 4 * k - a by omega]

/-- Writing the words of a span's objects one object after the other is writing the words of the span. -/
theorem foldl_writeWords {n a b e : Nat} {d : List Byte} {l : List (Nat × Nat)} (h : objectsIn n b e = some l) (hab : a ≤ b)
    (he : e = a + d.length) (s : State) :
    (objectBytes a d l).foldl State.writeWords s = setWords (spanWord a d) (wordsOf b (e - b)) s := by
  induction l generalizing n b s with
  | nil =>
    obtain rfl := objectsIn_nil h
    rw [Nat.sub_self]
    rfl
  | cons p l ih =>
    obtain ⟨hp, ho, m, hm⟩ := objectsIn_cons h
    obtain ⟨hpos, h4⟩ := objectAt_size ho
    have hle := objectsIn_le hm
    have hsplit : e - b = p.2 + (e - (b + p.2)) := by omega
    rw [hsplit, wordsOf_add _ h4, setWords_append, ← ih hm (by omega), ← State.writeWords_slice s hab (by omega)]
    show (objectBytes a d l).foldl State.writeWords (s.writeWords (p.1, slice d (p.1 - a) p.2)) = _
    rw [hp]

end Sys2Proof.Machine
end

section
/-! SUPPORT. What SET answers on the state that has taken its packet, and what it leaves. -/

namespace Sys2Proof.Machine

open Sys2Proof

/-! ### The words that a command's taking and reply leave -/

theorem getBits_word (w : Word) : getBits w 31 0 = w.toNat := by
  unfold getBits
  rw [BitVec.extractLsb'_eq_self]

/-- A word in which no field of the list lies. -/
theorem Keeps.word {s t : State} {fs : List Fld} (h : Keeps s t fs) {a : Nat} (ha : ∀ f ∈ fs, f.addr ≠ a) : t.word a = s.word a := by
  have hr : t.rd (wordFld a) = s.rd (wordFld a) := h (wordFld a) ⟨Nat.zero_le 31, Nat.lt_succ_self 31⟩ (fun f hf => Or.inl (ha f hf))
  unfold State.rd at hr
  rw [show wordFld a = ⟨a, 31, 0⟩ from rfl] at hr
  rw [getBits_word, getBits_word] at hr
  exact BitVec.eq_of_toNat_eq hr

/-- A session shows itself in CMD_SESSION and in the networks' block alone. -/
theorem Keeps.word_unshown {s t : State} {i : Fin 4} (h : Keeps s t (sessionFlds i)) {a : Nat} (ha : ¬ sessionWord a)
    (hd : a / 0x1000000 ≠ 0x0D) : t.word a = s.word a := by
  have hf : ∀ i : Fin 4, ∀ f ∈ sessionFlds i, (0x03000100 ≤ f.addr ∧ f.addr < 0x03000180) ∨ f.addr / 0x1000000 = 0x0D := by decide
  refine h.word fun f hm => ?_
  rintro rfl
  rcases hf i f hm with hs | hs
  · exact ha hs
  · exact hd hs

/-! ### Objects of a span that a SET may write -/

/-- A word of an object that SET writes is no word of CMD_SESSION. -/
theorem not_sessionWord_of_writable {a size w : Nat} (h : objectAt a = some (a, size)) (ha : 0x03000000 ≤ a) (hw : w ∈ wordsOf a size)
    (hwr : objectWritable a size = true) : ¬ sessionWord w := by
  intro hs
  obtain ⟨k, hk, rfl⟩ := mem_wordsOf.mp hw
  have h3 : a / 0x1000000 = 3 := by
    obtain ⟨-, hhi⟩ := hs
    omega
  rw [objectWritable_session h h3 (by omega) (by omega) hs] at hwr
  exact nomatch hwr

theorem State.wordRefusal_congr {s t : State} {a : Nat} (h : t.word a = s.word a) (w : Word) : t.wordRefusal a w = s.wordRefusal a w := by
  unfold State.wordRefusal
  rw [h]

theorem findSome?_congr_mem {α β : Type} {f g : α → Option β} {l : List α} (h : ∀ x ∈ l, f x = g x) :
    l.findSome? f = l.findSome? g := by
  induction l with
  | nil => rfl
  | cons x l ih => rw [List.findSome?_cons, List.findSome?_cons, h x List.mem_cons_self, ih fun y hy => h y (List.mem_cons_of_mem _ hy)]

/-- Taking a packet refuses no object and lets none through. -/
theorem State.objectRefusal_taken (s : State) (r : Req) {a size : Nat} (h : objectAt a = some (a, size)) (ha : 0x03000000 ≤ a)
    (hc : a + size ≤ 0x0D000000) (d : List Byte) : (s.taken r).objectRefusal a size d = s.objectRefusal a size d := by
  unfold State.objectRefusal
  cases hwr : objectWritable a size with
  | false => rfl
  | true =>
    refine findSome?_congr_mem fun w hw => State.wordRefusal_congr ?_ _
    have hlt : w < a + size := by
      obtain ⟨k, hk, rfl⟩ := mem_wordsOf.mp hw
      omega
    exact (Keeps.taken s r).word_unshown (not_sessionWord_of_writable h ha hw hwr) (by omega)

theorem State.writable_of_not_refused {s : State} {a size : Nat} {d : List Byte} (h : s.objectRefusal a size d = none) :
    objectWritable a size = true := by
  cases hwr : objectWritable a size with
  | true => rfl
  | false =>
    unfold State.objectRefusal at h
    rw [hwr] at h
    exact nomatch h

/-! ### Writing objects that only store -/

theorem State.writeObject_plain (s : State) {p : Nat × List Byte} (h : plainObject p.1) : s.writeObject p = .ok (s.writeWords p) := by
  obtain ⟨o, is, q, ho, hb⟩ := h
  simp only [List.mem_cons, List.not_mem_nil, or_false, not_or] at hb
  obtain ⟨h1, h2, h3, h4, h5⟩ := hb
  unfold State.writeObject
  simp only [ho]
  rw [if_neg h1, if_neg h2, if_neg h3, if_neg h4, if_neg h5]

theorem State.writeObjects_plain {l : List (Nat × List Byte)} (h : ∀ p ∈ l, plainObject p.1) (s : State) :
    State.writeObjects l s = .ok (l.foldl State.writeWords s) := by
  induction l generalizing s with
  | nil => rfl
  | cons p l ih =>
    rw [State.writeObjects, State.writeObject_plain s (h p List.mem_cons_self)]
    exact ih (fun q hq => h q (List.mem_cons_of_mem _ hq)) _

/-! ### What the action answers -/

/-- `u` is `t` with a session's shadow set replaced, and with it what CMD_SESSION shows of that session. -/
structure StoredBy (i : Fin 4) (t : State) (set : List (Nat × List Byte)) (u : State) : Prop where
  upd : u = { t with regs := u.regs, ses := u.ses }
  keeps : Keeps t u (sessionFlds i)
  same : u.sess i = { t.sess i with shadow := set }
  others : ∀ j : Fin 4, j ≠ i → u.sess j = t.sess j

theorem State.setSess_upd (s : State) (i : Fin 4) (x : Session) : ∃ l y, s.setSess i x = { s with regs := l, ses := y } := ⟨_, _, rfl⟩

theorem StoredBy.of_store {s t : State} (i : Fin 4) (h : t.ses = s.ses) (objs : List (Nat × List Byte)) :
    StoredBy i t (shadowStore (s.sess i).shadow objs)
      (if objs = [] then t else t.setSess i { t.sess i with shadow := shadowStore (s.sess i).shadow objs }) := by
  split
  case isTrue he =>
    have hs : t.sess i = { t.sess i with shadow := shadowStore (s.sess i).shadow objs } := by
      rw [he, ← State.sess_congr h i]
      rfl
    exact ⟨rfl, Keeps.refl t _, hs, fun _ _ => rfl⟩
  case isFalse =>
    refine ⟨?_, (Keeps.refl t _).setSess _ fun _ h => h, State.sess_setSess_same _ _ _, fun j hj => State.sess_setSess_other _ _ hj⟩
    obtain ⟨l, x, e⟩ := State.setSess_upd t i { t.sess i with shadow := shadowStore (s.sess i).shadow objs }
    rw [e]

theorem setWords_ses (g : Nat → Word → Word → Word) (l : List Nat) (s : State) : (setWords g l s).ses = s.ses := by
  obtain ⟨x, h⟩ := setWords_upd g l s
  rw [h]

/-- Objects below the safety block are none of it. -/
theorem not_inSafety {l : List (Nat × Nat)} (hc : ∀ p ∈ l, p.1 < 0x0C000000) : l.any (fun p => inSafety p.1) = false := by
  rw [List.any_eq_false]
  intro p hp
  have hlt := hc p hp
  unfold inSafety
  rw [beq_iff_eq]
  omega

/-- The life cycle bars no object of a span. -/
theorem not_identity {s : State} {l : List (Nat × Nat)} (hid : s.lc = 2 → ∀ p ∈ l, identityObject p.1 = false) :
    ¬ (s.lc = 2 ∧ l.any (fun p => identityObject p.1) = true) := by
  rintro ⟨hlc, hany⟩
  obtain ⟨p, hp, h⟩ := List.any_eq_true.mp hany
  rw [hid hlc p hp] at h
  exact nomatch h

section

variable (s : State) (i : Fin 4) {a : Word} {d : List Byte} (h4 : 4 ≤ d.length) (h1400 : d.length ≤ 1400)
include h4 h1400

theorem actSet_window (hw : inWindow a.toNat d.length = true) : actSet i a d s = s.no Status.ACCESS_DENIED := by
  obtain ⟨hb, -, -, hn⟩ : memBase ≤ a.toNat ∧ a.toNat + d.length ≤ memEnd ∧ a.toNat % 4 = 0 ∧ d.length % 4 = 0 := by
    simpa [inWindow] using hw
  unfold actSet
  simp only
  rw [if_neg (by omega), if_pos hb, hw, if_pos rfl]

variable (hn : d.length % 4 = 0)
include hn

theorem actSet_no_objects (ha : a.toNat < memBase) (ho : objectsIn 351 a.toNat (a.toNat + d.length) = none) :
    actSet i a d s = s.no Status.ADDRESS_INVALID := by
  unfold actSet
  simp only [ho]
  rw [if_neg (by omega), if_neg (by omega)]

variable {l : List (Nat × Nat)} (ho : objectsIn 351 a.toNat (a.toNat + d.length) = some l)
include ho

theorem actSet_safety (hlo : 0x0C000000 ≤ a.toNat) (hhi : a.toNat < 0x0D000000) : actSet i a d s = s.no Status.ACCESS_DENIED := by
  have hany : l.any (fun p => inSafety p.1) = true := by
    cases l with
    | nil => exact absurd (objectsIn_nil ho) (by omega)
    | cons p l =>
      obtain ⟨hp, -, -⟩ := objectsIn_cons ho
      simp only [List.any_cons, Bool.or_eq_true]
      refine Or.inl ?_
      unfold inSafety
      rw [hp, beq_iff_eq]
      omega
  have hbase : ¬ memBase ≤ a.toNat := by
    unfold memBase
    omega
  unfold actSet
  simp only [ho]
  rw [if_neg (by omega), if_neg hbase, if_pos hany]

variable (ha : a.toNat < 0x0C000000) (hc : ∀ p ∈ l, p.1 < 0x0C000000) (hid : s.lc = 2 → ∀ p ∈ l, identityObject p.1 = false)
include ha hc hid

/-- A SET of whole objects below the safety block that the life cycle admits: an object that its own check refuses refuses it. -/
theorem actSet_refused {x : Nat}
    (hx : (objectBytes a.toNat d l).findSome? (fun p => s.objectRefusal p.1 p.2.length p.2) = some x) : actSet i a d s = s.no x := by
  have hbase : ¬ memBase ≤ a.toNat := by
    unfold memBase
    omega
  unfold objectBytes at hx
  unfold actSet
  simp only [ho, hx]
  rw [if_neg (by omega), if_neg hbase, not_inSafety hc, if_neg (by decide), if_neg (not_identity hid)]

/-- Where no object is refused, each only stores, and the shadow set has room, the words are written and the shadow set is stored. -/
theorem actSet_stores (hx : (objectBytes a.toNat d l).findSome? (fun p => s.objectRefusal p.1 p.2.length p.2) = none)
    (hpl : ∀ p ∈ l, plainObject p.1) (hlen : (s.setAfter i a.toNat d l).length ≤ 1024)
    (hbytes : shadowBytes (s.setAfter i a.toNat d l) ≤ 65536) :
    ∃ u, actSet i a d s = u.ok ∧ StoredBy i (setWords (spanWord a.toNat d) (wordsOf a.toNat d.length) s) (s.setAfter i a.toNat d l) u := by
  have hw : State.writeObjects (objectBytes a.toNat d l) s = .ok (setWords (spanWord a.toNat d) (wordsOf a.toNat d.length) s) := by
    have hpl' : ∀ p ∈ objectBytes a.toNat d l, plainObject p.1 := by
      intro p hp
      obtain ⟨q, hq, rfl⟩ := List.mem_map.mp hp
      exact hpl q hq
    rw [State.writeObjects_plain hpl', foldl_writeWords ho (le_refl _) rfl, Nat.add_sub_cancel_left]
  have hbase : ¬ memBase ≤ a.toNat := by
    unfold memBase
    omega
  have hroom : ¬ (1024 < (s.setAfter i a.toNat d l).length ∨ 65536 < shadowBytes (s.setAfter i a.toNat d l)) := by omega
  unfold State.setAfter at hroom ⊢
  unfold objectBytes at hx hw
  generalize hF : (l.map (fun p => (p.1, slice d (p.1 - a.toNat) p.2))).filter (fun p => objectShadowed p.1 p.2.length) = F at hroom ⊢
  refine ⟨_, ?_, StoredBy.of_store i (setWords_ses _ _ _) F⟩
  unfold actSet
  simp only [ho, hx, hw, hF]
  rw [if_neg (by omega), if_neg hbase, not_inSafety hc, if_neg (by decide), if_neg (not_identity hid), if_neg (fun h => hroom h.2)]

end

/-! ### From the state that has taken the packet -/

section

variable {s u : State} {r : Req} {g : Nat → Word → Word → Word} {ws : List Nat} {set : List (Nat × List Byte)}

theorem State.seenMask_taken (s : State) (r : Req) (a : Nat) : (s.taken r).seenMask a = s.seenMask a := by
  obtain ⟨l, x, e⟩ := State.taken_upd s r
  rw [e]
  rfl

theorem State.setAfter_taken (s : State) (r : Req) (a : Nat) (d : List Byte) (l : List (Nat × Nat)) :
    (s.taken r).setAfter r.session a d l = s.setAfter r.session a d l := by
  unfold State.setAfter
  rw [State.sess_taken_same]

theorem State.lc_taken (s : State) (r : Req) : (s.taken r).lc = s.lc := State.rd_taken_outside s r (by decide)

variable (h : StoredBy r.session (setWords g ws (s.taken r)) set u)
include h

theorem StoredBy.taken_upd : ∃ l x, u = { s with regs := l, ses := x, out := [], turn := r.session } := by
  obtain ⟨l, x, e⟩ := State.taken_upd s r
  obtain ⟨l', e'⟩ := setWords_upd g ws (s.taken r)
  have hu := h.upd
  rw [e', e] at hu
  exact ⟨_, _, hu⟩

theorem StoredBy.serves {verb : Nat} (hr : Ready s r verb) : Serves s r.session u := by
  have hses : (setWords g ws (s.taken r)).ses = (s.taken r).ses := setWords_ses _ _ _
  have hs : u.sess r.session = { (s.taken r).sess r.session with shadow := set } := by
    rw [h.same, State.sess_congr hses]
  rw [State.sess_taken_same] at hs
  obtain ⟨l, x, e⟩ := h.taken_upd
  refine ⟨?_, by rw [hs]; exact hr.idle, by rw [hs], fun j hj => ?_⟩
  · rw [e]
    exact hr.keeper
  · rw [h.others j hj, State.sess_congr hses, State.sess_taken_other s hj]

/-- A word that is not written and in which no session shows itself. -/
theorem StoredBy.word_other {w : Nat} (hw : w ∉ ws) (hs : ¬ sessionWord w) (hd : w / 0x1000000 ≠ 0x0D) : u.word w = s.word w :=
  ((h.keeps.word_unshown hs hd).trans (word_setWords_other g hw _)).trans ((Keeps.taken s r).word_unshown hs hd)

/-- A word that is written. -/
theorem StoredBy.word_mem {w : Nat} (hn : ws.Nodup) (hw : w ∈ ws) (hs : ¬ sessionWord w) (hd : w / 0x1000000 ≠ 0x0D) :
    u.word w = g w (s.word w) (s.seenMask w) := by
  rw [h.keeps.word_unshown hs hd, word_setWords_mem g hn hw, (Keeps.taken s r).word_unshown hs hd, State.seenMask_taken]

/-- The stage counter is none of the words of a span from block 3 on. -/
theorem StoredBy.stage (hw : ∀ w ∈ ws, 0x03000000 ≤ w) : u.stage = s.stage := by
  have hc : ∀ f : Fld, f.addr / 0x1000000 = 1 → u.rd f = s.rd f := by
    intro f hf
    unfold State.rd
    rw [h.word_other (fun hm => absurd (hw _ hm) (by omega)) (fun hs => absurd hs.1 (by omega)) (by omega)]
  unfold State.stage
  rw [hc _ (by decide), hc _ (by decide)]

end

/-- A word of a span of objects that a SET may write is no word of CMD_SESSION. -/
theorem not_sessionWord_of_span {n a e w : Nat} {l : List (Nat × Nat)} (ho : objectsIn n a e = some l) (ha : 0x03000000 ≤ a)
    (hwr : ∀ p ∈ l, objectWritable p.1 p.2 = true) (hw : w ∈ wordsOf a (e - a)) : ¬ sessionWord w := by
  obtain ⟨p, hp, hwp⟩ := mem_wordsOf_of_objectsIn ho hw
  obtain ⟨hat, hle, -⟩ := objectsIn_mem ho p hp
  exact not_sessionWord_of_writable hat (ha.trans hle) hwp (hwr p hp)

/-- The checks of a span's objects find on the state that has taken the packet what they find before. -/
theorem State.findRefusal_taken (s : State) (r : Req) {n a : Nat} {d : List Byte} {l : List (Nat × Nat)}
    (ho : objectsIn n a (a + d.length) = some l) (ha : 0x03000000 ≤ a) (hc : a + d.length ≤ 0x0D000000) :
    (objectBytes a d l).findSome? (fun p => (s.taken r).objectRefusal p.1 p.2.length p.2)
      = l.findSome? (fun p => s.objectRefusal p.1 p.2 (slice d (p.1 - a) p.2)) := by
  unfold objectBytes
  rw [List.findSome?_map]
  refine findSome?_congr_mem fun p hp => ?_
  obtain ⟨hat, hle, hend⟩ := objectsIn_mem ho p hp
  show (s.taken r).objectRefusal p.1 (slice d (p.1 - a) p.2).length (slice d (p.1 - a) p.2) = _
  rw [length_slice (by omega)]
  exact State.objectRefusal_taken s r hat (ha.trans hle) (by omega) _

/-- Settles O36, clause by clause: the words of the span are written on the state that has taken the packet, or the SET is refused there. -/
theorem setWritesWholeObjects : Obligations.SetWritesWholeObjects := by
  refine ⟨?_, ?_, ?_, ?_, ?_⟩
  · intro s r a d l hr h4 h1400 hn hlo hhi ho hpl hid hx hlen hbytes
    rw [← State.setAfter_taken] at hlen hbytes ⊢
    have hnone : (objectBytes a.toNat d l).findSome? (fun p => (s.taken r).objectRefusal p.1 p.2.length p.2) = none := by
      rw [State.findRefusal_taken s r ho hlo (by omega), List.findSome?_eq_none_iff]
      exact hx
    have hbelow : ∀ p ∈ l, p.1 < 0x0C000000 := by
      intro p hp
      obtain ⟨hat, -, hend⟩ := objectsIn_mem ho p hp
      have hpos := (objectAt_size hat).1
      omega
    obtain ⟨u, hact, hu⟩ := actSet_stores (s.taken r) r.session h4 h1400 hn ho (by omega) hbelow
      (by rw [State.lc_taken]; exact hid) hnone hpl hlen hbytes
    have hge : ∀ w ∈ wordsOf a.toNat d.length, 0x03000000 ≤ w ∧ w < 0x0C000000 := by
      intro w hw
      obtain ⟨k, hk, rfl⟩ := mem_wordsOf.mp hw
      omega
    obtain ⟨t, ht, hc, hr'⟩ := execVerb_done (flags := 0) hr (by decide) false (.set r a d) (hact.trans (by rw [State.ok])) (hu.serves hr)
    rw [hu.stage fun w hw => (hge w hw).1] at hc
    refine ⟨t, ht, hc, ?_, hr'.shadow.trans (by rw [hu.same]), fun w hw => ?_, fun w h3 hd hw => ?_⟩
    · obtain ⟨l, x, e⟩ := hu.taken_upd
      have hupd := hr'.upd
      rw [e] at hupd
      exact hupd
    · have hs : ¬ sessionWord w := not_sessionWord_of_span ho hlo (fun p hp => State.writable_of_not_refused (hx p hp))
        (by rw [Nat.add_sub_cancel_left]; exact hw)
      have hd : w / 0x1000000 ≠ 0x0D := by
        have := hge w hw
        omega
      exact (hr'.keeps.word_unshown hs hd).trans (hu.word_mem (wordsOf_nodup _ _) hw hs hd)
    · have hs : ¬ sessionWord w := fun hs => by
        obtain ⟨hs1, hs2⟩ := hs
        omega
      exact (hr'.keeps.word_unshown hs hd).trans (hu.word_other hw hs hd)
  · intro s r a d hr h4 h1400 hn ha ho
    exact execVerb_no hr (by decide) false _ (actSet_no_objects (s.taken r) r.session h4 h1400 hn ha ho)
  · intro s r a d hr h4 h1400 hw
    exact execVerb_no hr (by decide) false _ (actSet_window (s.taken r) r.session h4 h1400 hw)
  · intro s r a d l hr h4 h1400 hn hlo hhi ho
    exact execVerb_no hr (by decide) false _ (actSet_safety (s.taken r) r.session h4 h1400 hn ho hlo hhi)
  · intro s r a d x hr h4 h1400 hn hlo hhi ho hid hx
    have hbelow : ∀ p ∈ [(a.toNat, d.length)], p.1 < 0x0C000000 := by
      intro p hp
      rw [List.mem_singleton.mp hp]
      exact hhi
    have hid' : (s.taken r).lc = 2 → ∀ p ∈ [(a.toNat, d.length)], identityObject p.1 = false := by
      rw [State.lc_taken]
      intro hl p hp
      rw [List.mem_singleton.mp hp]
      exact hid hl
    refine execVerb_no hr (by decide) false _ (actSet_refused (s.taken r) r.session h4 h1400 hn ho hhi hbelow hid' ?_)
    rw [State.findRefusal_taken s r ho hlo (by omega)]
    simpa [slice] using hx

end Sys2Proof.Machine
end

section
/-! SUPPORT. A sample of a die: what reading its sensors shows, the level that the readings bring, and the two shutdowns. The idea: a sample is
first read and levelled, in `State.dieLevelled` and `State.hvLevelled`, and a shutdown acts on the state that this leaves. -/

namespace Sys2Proof.Machine

open Sys2Proof

/-! ### Counts, signed fields and the outputs that a trip turns off -/

theorem State.rd_inc_same (s : State) {f : Fld} (h : f.within) : (s.inc f).rd f = s.oneMore f := by
  have hp : 0 < 2 ^ (f.msb - f.lsb + 1) := by positivity
  refine (State.rd_wr_same s _ h).trans (Nat.mod_eq_of_lt ?_)
  unfold Fld.top
  omega

/-- Sixteen bits hold a signed 16-bit value. -/
theorem toSigned_ofSigned (x : BitVec 16) : toSigned 16 (ofSigned 16 x.toInt % 2 ^ 16) = x.toInt := by
  have hlo := BitVec.le_toInt x
  have hhi := BitVec.toInt_lt (x := x)
  simp only [toSigned, ofSigned]
  norm_num at hlo hhi ⊢
  split <;> omega

theorem State.rdS_congr {s t : State} {f : Fld} (h : t.rd f = s.rd f) : t.rdS f = s.rdS f := by
  unfold State.rdS
  rw [h]

/-- A signed 16-bit field just written. -/
theorem State.rdS_wrS_same (s : State) {f : Fld} (h : f.within) (hn : f.msb - f.lsb + 1 = 16) (x : BitVec 16) :
    (s.wrS f x.toInt).rdS f = x.toInt := by
  unfold State.rdS State.wrS
  rw [State.rd_wr_same s _ h, hn]
  exact toSigned_ofSigned x

/-- A field of another word than the one written in. -/
theorem State.rd_wr_elsewhere (s : State) {f g : Fld} (v : Nat) (h : g.addr ≠ f.addr) : (s.wr f v).rd g = s.rd g := by
  unfold State.rd
  rw [State.word_wr_other s v h]

theorem State.oneMore_congr {s t : State} {f : Fld} (h : t.rd f = s.rd f) : t.oneMore f = s.oneMore f := by
  unfold State.oneMore
  rw [h]

theorem State.f3Latched_congr {s t : State} {fs : List Fld} (h : Keeps s t fs) (code : Nat)
    (ha : ∀ i ∈ latchIdx, ∀ f ∈ fs, f.apart (Reg.FLT_LATCH_VALID i) ∧ f.apart (Reg.FLT_LATCH_CODE i)) :
    t.f3Latched code = s.f3Latched code := by
  unfold State.f3Latched State.flag
  rw [Bool.eq_iff_iff, List.any_eq_true, List.any_eq_true]
  refine exists_congr fun i => and_congr_right fun hi => ?_
  have hw : (Reg.FLT_LATCH_VALID i).within ∧ (Reg.FLT_LATCH_CODE i).within := ⟨by simp [Fld.within, Reg.FLT_LATCH_VALID],
    by simp [Fld.within, Reg.FLT_LATCH_CODE]⟩
  rw [h _ hw.1 fun f hf => (ha i hi f hf).1, h _ hw.2 fun f hf => (ha i hi f hf).2]

/-- An F3 fault that is raised is due, unless it is latched already (R448). -/
theorem State.raise_f3 (s : State) (code : Nat) : s.f3Latched code = true ∨ FaultDue (s.raise code .f3) code := by
  by_cases hl : s.f3Latched code = true
  · exact .inl hl
  refine .inr ?_
  unfold FaultDue State.raise
  split
  case isTrue h =>
    obtain ⟨-, hl'⟩ | hp := h
    · exact absurd hl' hl
    · obtain ⟨f, hf, he⟩ := List.any_eq_true.mp hp
      simp only [Bool.and_eq_true, beq_iff_eq] at he
      obtain ⟨⟨hc, -⟩, -⟩ := he
      exact ⟨f, hf, hc⟩
  case isFalse => exact ⟨_, List.mem_append_right _ (List.mem_singleton_self _), rfl⟩

theorem State.latchTrip_upd (s : State) (code : Nat) : ∃ m f, s.latchTrip code = { s with mod := m, drv := { s.drv with fresh := f } } := by
  unfold State.latchTrip State.gatesOff
  split
  · simp only
    split <;> exact ⟨_, _, rfl⟩
  · exact ⟨_, _, rfl⟩

/-- A trip of an active drive stage is held (R388). -/
theorem State.latchTrip_held {s : State} (h : s.driveActive = true) (code : Nat) :
    code ∈ (s.latchTrip code).drv.fresh ++ (s.latchTrip code).drv.atB ++ (s.latchTrip code).drv.reported := by
  unfold State.latchTrip
  rw [h, Bool.true_or, if_pos rfl]
  simp only
  split
  case isTrue hc => exact List.contains_iff_mem.mp hc
  case isFalse => simp

/-! ### Reading the sensors -/

/-- The fields that show a sensor. -/
def sensorFlds (k : Nat) : List Fld :=
  [Reg.THERM_SENSOR_TEMP k, Reg.THERM_SENSOR_PEAK k, ⟨Reg.THERM_STAT_SENSOR_FAIL.addr, 12 + k, 12 + k⟩]

/-- The fields that show the sensors of a sample. -/
def shownFlds (l : List Reading) : List Fld := l.flatMap fun r => sensorFlds r.sensor

/-- The fields that the sensors of both dice show themselves in. -/
def readFlds : List Fld := (List.range 10).flatMap sensorFlds ++ [Reg.THERM_STAT_DIE_MAX, Reg.THERM_STAT_HV_MAX, Reg.THERM_STAT_FAST]

theorem sensor_of_mem_readings {n : Nat} {l : List (BitVec 16 × Bool)} {r : Reading} (h : r ∈ readings n l) :
    n ≤ r.sensor ∧ r.sensor < n + l.length := by
  induction l generalizing n with
  | nil => simp [readings] at h
  | cons p t ih =>
    rw [readings, List.mem_cons] at h
    rw [List.length_cons]
    obtain rfl | h := h
    · exact ⟨le_rfl, by simp only; omega⟩
    · have := ih h
      omega

theorem counts_of_mem_readings {n : Nat} {l : List (BitVec 16 × Bool)}
    (hl : ∀ p ∈ l, p.2 = true ∧ -550 ≤ p.1.toInt ∧ p.1.toInt ≤ 1750) {r : Reading} (h : r ∈ readings n l) : r.counts = true := by
  induction l generalizing n with
  | nil => simp [readings] at h
  | cons p t ih =>
    obtain ⟨hp, ht⟩ := List.forall_mem_cons.mp hl
    rw [readings, List.mem_cons] at h
    obtain rfl | h := h
    · simp [hp]
    · exact ih ht h

/-- What one reading changes: both halves of its sensor's word, the sensor's bit of SENSOR_FAIL, and the note that it has been read. -/
theorem State.showReading_eq (s : State) (r : Reading) : ∃ p b n, s.showReading r
    = { s with regs := (((s.wrS (Reg.THERM_SENSOR_TEMP r.sensor) r.temp).wrS (Reg.THERM_SENSOR_PEAK r.sensor) p).wrB
                 ⟨Reg.THERM_STAT_SENSOR_FAIL.addr, 12 + r.sensor, 12 + r.sensor⟩ b).regs
               therm := { s.therm with seen := n } } := by
  unfold State.showReading
  simp only
  generalize (if s.therm.seen.contains r.sensor = true then max (s.rdS (Reg.THERM_SENSOR_PEAK r.sensor)) r.temp else r.temp) = p
  split <;> exact ⟨p, _, _, rfl⟩

theorem State.showReading_upd (s : State) (r : Reading) : ∃ l n, s.showReading r = { s with regs := l, therm := { s.therm with seen := n } } := by
  obtain ⟨p, b, n, e⟩ := State.showReading_eq s r
  exact ⟨_, _, e⟩

theorem State.showReading_regs (s : State) (r : Reading) : ∃ p b, (s.showReading r).regs
    = (((s.wrS (Reg.THERM_SENSOR_TEMP r.sensor) r.temp).wrS (Reg.THERM_SENSOR_PEAK r.sensor) p).wrB
        ⟨Reg.THERM_STAT_SENSOR_FAIL.addr, 12 + r.sensor, 12 + r.sensor⟩ b).regs := by
  obtain ⟨p, b, n, e⟩ := State.showReading_eq s r
  exact ⟨p, b, by rw [e]⟩

theorem State.showReadings_upd (s : State) (l : List Reading) :
    ∃ w n, l.foldl State.showReading s = { s with regs := w, therm := { s.therm with seen := n } } := by
  induction l generalizing s with
  | nil => exact ⟨_, _, rfl⟩
  | cons r t ih =>
    obtain ⟨w, n, e⟩ := State.showReading_upd s r
    rw [List.foldl_cons, e]
    exact ih _

theorem Keeps.showReading {s t : State} {fs : List Fld} (h : Keeps s t fs) {r : Reading} (hr : r.sensor < 10)
    (hf : ∀ f ∈ sensorFlds r.sensor, f ∈ fs) : Keeps s (t.showReading r) fs := by
  obtain ⟨p, b, e⟩ := State.showReading_regs t r
  refine Keeps.congr (((h.wrS _ (hf _ ?_) ?_).wrS p (hf _ ?_) ?_).wrB b (hf _ ?_) ?_) e
  · simp [sensorFlds]
  · exact ⟨by simp [Reg.THERM_SENSOR_TEMP], by simp [Reg.THERM_SENSOR_TEMP]⟩
  · simp [sensorFlds]
  · exact ⟨by simp [Reg.THERM_SENSOR_PEAK], by simp [Reg.THERM_SENSOR_PEAK]⟩
  · simp [sensorFlds]
  · exact ⟨le_rfl, by simp only; omega⟩

theorem Keeps.showReadings {s t : State} {fs : List Fld} (h : Keeps s t fs) {l : List Reading} (hl : ∀ r ∈ l, r.sensor < 10)
    (hf : ∀ f ∈ shownFlds l, f ∈ fs) : Keeps s (l.foldl State.showReading t) fs := by
  induction l generalizing t with
  | nil => exact h
  | cons r l ih =>
    obtain ⟨hr, hl⟩ := List.forall_mem_cons.mp hl
    rw [shownFlds, List.flatMap_cons] at hf
    exact ih (h.showReading hr fun f hm => hf f (List.mem_append_left _ hm)) hl fun f hm => hf f (List.mem_append_right _ hm)

/-- The fields of one sensor share no bit with TEMP of another. -/
theorem apart_temp_of_ne {j k : Nat} (h : j ≠ k) : ∀ f ∈ sensorFlds j, f.apart (Reg.THERM_SENSOR_TEMP k) := by
  simp only [sensorFlds, List.forall_mem_cons, Fld.apart, Reg.THERM_SENSOR_TEMP, Reg.THERM_SENSOR_PEAK, Reg.THERM_STAT_SENSOR_FAIL]
  simp
  omega

theorem temp_within (k : Nat) : (Reg.THERM_SENSOR_TEMP k).within := ⟨by simp [Reg.THERM_SENSOR_TEMP], by simp [Reg.THERM_SENSOR_TEMP]⟩

/-- TEMP of the sensor just read. -/
theorem State.rdS_showReading (s : State) (k : Nat) (x : BitVec 16) (ok : Bool) :
    (s.showReading ⟨k, x.toInt, ok⟩).rdS (Reg.THERM_SENSOR_TEMP k) = x.toInt := by
  obtain ⟨p, b, e⟩ := State.showReading_regs s ⟨k, x.toInt, ok⟩
  have hbit : (Reg.THERM_SENSOR_TEMP k).addr ≠ Reg.THERM_STAT_SENSOR_FAIL.addr := by
    simp only [Reg.THERM_STAT_SENSOR_FAIL, Reg.THERM_SENSOR_TEMP]
    omega
  have hpeak : (Reg.THERM_SENSOR_PEAK k).within ∧ (Reg.THERM_SENSOR_PEAK k).apart (Reg.THERM_SENSOR_TEMP k) := by
    simp [Fld.within, Fld.apart, Reg.THERM_SENSOR_PEAK, Reg.THERM_SENSOR_TEMP]
  have hword : (s.showReading ⟨k, x.toInt, ok⟩).rd (Reg.THERM_SENSOR_TEMP k)
      = (s.wrS (Reg.THERM_SENSOR_TEMP k) x.toInt).rd (Reg.THERM_SENSOR_TEMP k) := by
    rw [State.rd_congr e]
    exact (State.rd_wr_elsewhere (f := ⟨Reg.THERM_STAT_SENSOR_FAIL.addr, 12 + k, 12 + k⟩) _ _ hbit).trans
      (State.rd_wr_apart _ _ hpeak.1 (temp_within k) hpeak.2)
  exact (State.rdS_congr hword).trans (State.rdS_wrS_same s (temp_within k) rfl x)

/-- After a sample each sensor's TEMP shows its reading (R577). -/
theorem State.rdS_showReadings (s : State) (n : Nat) (l : List (BitVec 16 × Bool)) (hl : n + l.length ≤ 10) {k : Nat} (hk : k < l.length) :
    ((readings n l).foldl State.showReading s).rdS (Reg.THERM_SENSOR_TEMP (n + k)) = l[k].1.toInt := by
  induction l generalizing n s k with
  | nil => simp at hk
  | cons p t ih =>
    rw [readings, List.foldl_cons]
    rw [List.length_cons] at hl hk
    cases k with
    | succ k =>
      have := ih (s.showReading ⟨n, p.1.toInt, p.2 && decide (-550 ≤ p.1.toInt ∧ p.1.toInt ≤ 1750)⟩) (n + 1) (by omega) (k := k) (by omega)
      rwa [Nat.add_right_comm, Nat.add_assoc n k 1] at this
    | zero =>
      have hrest := Keeps.showReadings
        (Keeps.refl (s.showReading ⟨n, p.1.toInt, p.2 && decide (-550 ≤ p.1.toInt ∧ p.1.toInt ≤ 1750)⟩) (shownFlds (readings (n + 1) t)))
        (fun r hr => by have := sensor_of_mem_readings hr; omega) (fun _ h => h)
      have hkeep := hrest (Reg.THERM_SENSOR_TEMP n) (temp_within n) fun f hf => by
        obtain ⟨r, hr, hf⟩ := List.mem_flatMap.mp hf
        exact apart_temp_of_ne (by have := sensor_of_mem_readings hr; omega) f hf
      exact (State.rdS_congr hkeep).trans (State.rdS_showReading s n p.1 _)

theorem readings_subset_readFlds {n : Nat} {l : List (BitVec 16 × Bool)} (hl : n + l.length ≤ 10) :
    ∀ f ∈ shownFlds (readings n l), f ∈ readFlds := by
  intro f hf
  obtain ⟨r, hr, hf⟩ := List.mem_flatMap.mp hf
  have := sensor_of_mem_readings hr
  exact List.mem_append_left _ (List.mem_flatMap.mpr ⟨r.sensor, List.mem_range.mpr (by omega), hf⟩)

/-- The sensors of die `d` are read: each is shown, the hottest stands in `f`, and the sampling rate follows (R566, R567, R576). -/
def State.dieRead (s : State) (d : Nat) (f : Fld) (l : List Reading) : State :=
  let u := l.foldl State.showReading s
  ((hottest l).elim u (u.wrS f)).sampleRate d l

theorem State.dieRead_upd (s : State) (d : Nat) (f : Fld) (l : List Reading) :
    ∃ w n far fast, s.dieRead d f l = { s with regs := w, therm := { s.therm with seen := n, far := far, fast := fast } } := by
  obtain ⟨w, n, e⟩ := State.showReadings_upd s l
  unfold State.dieRead
  simp only
  rw [e]
  cases hottest l <;> exact ⟨_, _, _, _, rfl⟩

/-- After the sensors have been shown, a sample writes its maximum and FAST. -/
theorem Keeps.dieRead_shown (s : State) (d : Nat) {f : Fld} (hf : f.within) (l : List Reading) :
    Keeps (l.foldl State.showReading s) (s.dieRead d f l) [f, Reg.THERM_STAT_FAST] := by
  unfold State.dieRead State.sampleRate
  simp only
  refine Keeps.wrB (Keeps.congr ?_ rfl) _ (by simp) (by decide)
  cases hottest l with
  | none => exact Keeps.refl _ _
  | some x => exact (Keeps.refl _ _).wrS x (by simp) hf

theorem Keeps.dieRead (s : State) (d : Nat) {f : Fld} (hf : f = Reg.THERM_STAT_DIE_MAX ∨ f = Reg.THERM_STAT_HV_MAX) {n : Nat}
    {l : List (BitVec 16 × Bool)} (hl : n + l.length ≤ 10) : Keeps s (s.dieRead d f (readings n l)) readFlds := by
  have hw : f.within := by obtain rfl | rfl := hf <;> decide
  have hs : Keeps s ((readings n l).foldl State.showReading s) readFlds :=
    Keeps.showReadings (Keeps.refl s _) (fun r hr => by have := sensor_of_mem_readings hr; omega) (readings_subset_readFlds hl)
  refine hs.trans ((Keeps.dieRead_shown s d hw _).mono fun g hg => List.mem_append_right _ ?_)
  obtain rfl | rfl := hf <;> (simp at hg ⊢; tauto)

/-! ### The step of the die throttle -/

/-- The fields that a step of the die throttle may change (R568). -/
def throttleFlds : List Fld := [Reg.THERM_STAT_STEP, Reg.CLK_SYS_NOW_CORE_DIV, Reg.THERM_STAT_THROTTLE_STEPS]

theorem State.throttleDie_eq (s : State) (d : Int) : s.throttleDie d = { s with regs := (s.throttleDie d).regs } := by
  unfold State.throttleDie
  simp only
  split <;> rfl

theorem Keeps.throttleDie (s : State) (d : Int) : Keeps s (s.throttleDie d) throttleFlds := by
  unfold State.throttleDie
  simp only
  have h := ((Keeps.refl s throttleFlds).wr (f := Reg.THERM_STAT_STEP) (min 4 (max 0 ((s.rd Reg.THERM_STAT_STEP : Int) - d))).toNat
    (by simp [throttleFlds]) (by decide)).wr (f := Reg.CLK_SYS_NOW_CORE_DIV)
    (coreDiv (min 4 (max 0 ((s.rd Reg.THERM_STAT_STEP : Int) - d))).toNat) (by simp [throttleFlds]) (by decide)
  split
  · exact h.inc 1 (by simp [throttleFlds]) (by decide)
  · exact h

theorem State.rd_step_throttleDie (s : State) (d : Int) :
    (s.throttleDie d).rd Reg.THERM_STAT_STEP = (min 4 (max 0 ((s.rd Reg.THERM_STAT_STEP : Int) - d))).toNat := by
  unfold State.throttleDie
  simp only
  generalize hn : (min 4 (max 0 ((s.rd Reg.THERM_STAT_STEP : Int) - d))).toNat = n
  have hb : n % 2 ^ 3 = n := Nat.mod_eq_of_lt (by omega)
  have hw : ((s.wr Reg.THERM_STAT_STEP n).wr Reg.CLK_SYS_NOW_CORE_DIV (coreDiv n)).rd Reg.THERM_STAT_STEP = n :=
    (State.rd_wr_elsewhere _ _ (by decide)).trans ((State.rd_wr_same s n (by decide)).trans hb)
  split
  · exact (State.rd_wr_elsewhere _ _ (by decide)).trans hw
  · exact hw

theorem State.countFrom_eq (s : State) (i : Fin 4) (d : Int) :
    s.countFrom i d = { s with therm := { s.therm with stepAt := (s.countFrom i d).therm.stepAt } } := by
  unfold State.countFrom State.stepsNow
  split <;> rfl

theorem State.countFrom_regs (s : State) (i : Fin 4) (d : Int) : (s.countFrom i d).regs = s.regs := by rw [State.countFrom_eq]

/-! ### The level of the controller die -/

/-- Four sensors of the sample are excluded: the controller die counts as being at THROTTLE (R567). -/
def fourExcluded (l : List Reading) : Bool := decide (4 ≤ (l.filter (fun r => !r.counts)).length)

/-- The level of the controller die after a sample (R564, R567). -/
def State.dieLevelAfter (s : State) (l : List Reading) : Nat :=
  if s.therm.forced || fourExcluded l then max throttle (dieNext s.therm.die l).code else (dieNext s.therm.die l).code

theorem State.dieLevelAfter_shutdown (s : State) (l : List Reading) : s.dieLevelAfter l = 3 ↔ (dieNext s.therm.die l).code = 3 := by
  unfold State.dieLevelAfter throttle
  split <;> omega

/-- Where every sensor counts, none is excluded. -/
theorem State.dieLevelAfter_counting (s : State) {l : List Reading} (hf : s.therm.forced = false) (hl : ∀ r ∈ l, r.counts = true) :
    s.dieLevelAfter l = (dieNext s.therm.die l).code := by
  have he : l.filter (fun r => !r.counts) = [] := List.filter_eq_nil_iff.mpr fun r hr => by simp [hl r hr]
  unfold State.dieLevelAfter fourExcluded
  rw [hf, he]
  rfl

/-- The controller die after a sample, before a shutdown or its end: what is read, the level, and the step that the level brings at once. -/
def State.dieLevelled (s : State) (l : List Reading) : State :=
  let u := s.dieRead 0 Reg.THERM_STAT_DIE_MAX l
  let new := u.dieLevelAfter l
  let d := stepAtOnce (u.rd Reg.THERM_STAT_DIE_LEVEL) new
  let v := u.setTherm { u.therm with die := dieNext u.therm.die l, forced := u.therm.forced || fourExcluded l }
  ((v.wr Reg.THERM_STAT_DIE_LEVEL new).throttleDie d).countFrom 0 d

theorem State.sampleDie_eq (s : State) (l : List Reading) (i : StartIn) : s.sampleDie l i
    = if (s.dieLevelled l).therm.shut then (s.dieLevelled l).coolDie l i
      else if (s.dieRead 0 Reg.THERM_STAT_DIE_MAX l).dieLevelAfter l = 3 ∧ (s.dieLevelled l).power.region = .full then
        (s.dieLevelled l).shutDie
      else s.dieLevelled l := by
  unfold State.sampleDie State.dieLevelled State.dieRead
  cases hottest l <;> rfl

/-- The fields that a sample of the controller die may change before a shutdown. -/
def dieFlds : List Fld := readFlds ++ Reg.THERM_STAT_DIE_LEVEL :: throttleFlds

theorem State.dieLevelAfter_dieRead (s : State) (d : Nat) (f : Fld) (l m : List Reading) :
    (s.dieRead d f l).dieLevelAfter m = s.dieLevelAfter m := by
  obtain ⟨w, n, far, fast, e⟩ := State.dieRead_upd s d f l
  rw [e]
  rfl

theorem State.dieLevelled_upd (s : State) (l : List Reading) : ∃ w n far fast forced a, s.dieLevelled l
    = { s with regs := w, therm := { s.therm with die := dieNext s.therm.die l, seen := n, far := far, fast := fast, forced := forced,
                                                  stepAt := a } } := by
  obtain ⟨w, n, far, fast, e⟩ := State.dieRead_upd s 0 Reg.THERM_STAT_DIE_MAX l
  unfold State.dieLevelled
  simp only
  rw [e]
  rw [State.countFrom_eq, State.throttleDie_eq]
  exact ⟨_, _, _, _, _, _, rfl⟩

theorem Keeps.dieLevelled_read (s : State) (l : List Reading) :
    Keeps (s.dieRead 0 Reg.THERM_STAT_DIE_MAX l) (s.dieLevelled l) (Reg.THERM_STAT_DIE_LEVEL :: throttleFlds) := by
  unfold State.dieLevelled
  simp only
  refine Keeps.congr (Keeps.trans ?_ ((Keeps.throttleDie _ _).mono fun _ h => List.mem_cons_of_mem _ h)) (State.countFrom_regs _ _ _)
  exact (Keeps.of_regs rfl _).wr _ List.mem_cons_self (by decide)

theorem Keeps.dieLevelled (s : State) {l : List (BitVec 16 × Bool)} (hl : l.length ≤ 10) : Keeps s (s.dieLevelled (readings 0 l)) dieFlds :=
  ((Keeps.dieRead s 0 (.inl rfl) (by omega)).mono fun _ h => List.mem_append_left _ h).trans
    ((Keeps.dieLevelled_read s _).mono fun _ h => List.mem_append_right _ h)

theorem State.rd_dieLevel_dieLevelled (s : State) (l : List Reading) :
    (s.dieLevelled l).rd Reg.THERM_STAT_DIE_LEVEL = s.dieLevelAfter l % 4 := by
  rw [← State.dieLevelAfter_dieRead s 0 Reg.THERM_STAT_DIE_MAX l l]
  unfold State.dieLevelled
  simp only
  rw [State.rd_congr (State.countFrom_regs _ _ _), Keeps.throttleDie _ _ _ (by decide) (by decide)]
  exact State.rd_wr_same _ _ (by decide)

/-- The sensors of a sample show their readings whatever level the sample brings. -/
theorem State.rdS_dieLevelled (s : State) {l : List (BitVec 16 × Bool)} (hl : l.length ≤ 10) {k : Nat} (hk : k < l.length) :
    (s.dieLevelled (readings 0 l)).rdS (Reg.THERM_SENSOR_TEMP k) = l[k].1.toInt := by
  have hlev : ∀ f ∈ Reg.THERM_STAT_DIE_LEVEL :: throttleFlds, f.addr ≠ (Reg.THERM_SENSOR_TEMP k).addr := by
    simp [throttleFlds, Reg.THERM_STAT_DIE_LEVEL, Reg.THERM_STAT_STEP, Reg.CLK_SYS_NOW_CORE_DIV, Reg.THERM_STAT_THROTTLE_STEPS,
      Reg.THERM_SENSOR_TEMP]
    omega
  have hmax : ∀ f ∈ [Reg.THERM_STAT_DIE_MAX, Reg.THERM_STAT_FAST], f.addr ≠ (Reg.THERM_SENSOR_TEMP k).addr := by
    simp [Reg.THERM_STAT_DIE_MAX, Reg.THERM_STAT_FAST, Reg.THERM_SENSOR_TEMP]
    omega
  have hshown := State.rdS_showReadings s 0 l (by omega) hk
  rw [Nat.zero_add] at hshown
  refine (State.rdS_congr ?_).trans hshown
  exact (Keeps.dieLevelled_read s _ _ (temp_within k) fun f hf => .inl (hlev f hf)).trans
    (Keeps.dieRead_shown s 0 (by decide) _ _ (temp_within k) fun f hf => .inl (hmax f hf))

/-! ### The shutdown of the controller die -/

section

variable {s : State} {l : List Reading} (hs : s.therm.shut = false)
include hs

theorem State.dieLevelled_shut : (s.dieLevelled l).therm.shut = false := by
  obtain ⟨w, n, far, fast, forced, a, e⟩ := State.dieLevelled_upd s l
  rw [e]
  exact hs

theorem State.sampleDie_level (hc : (dieNext s.therm.die l).code ≠ 3) (i : StartIn) : s.sampleDie l i = s.dieLevelled l := by
  rw [State.sampleDie_eq, State.dieLevelled_shut hs, State.dieLevelAfter_dieRead, if_neg (by decide),
    if_neg fun h => hc ((State.dieLevelAfter_shutdown s l).mp h.1)]

theorem State.sampleDie_shutdown (hc : (dieNext s.therm.die l).code = 3) (hr : s.power.region = .full) (i : StartIn) :
    s.sampleDie l i = (s.dieLevelled l).shutDie := by
  have hp : (s.dieLevelled l).power.region = .full := by
    obtain ⟨w, n, far, fast, forced, a, e⟩ := State.dieLevelled_upd s l
    rw [e]
    exact hr
  rw [State.sampleDie_eq, State.dieLevelled_shut hs, State.dieLevelAfter_dieRead, if_neg (by decide),
    if_pos ⟨(State.dieLevelAfter_shutdown s l).mpr hc, hp⟩]

end

/-- A running controller die at SHUTDOWN, up to the fault that this raises: noted and counted, the gates off, the stop sequence begun (R569). -/
def State.dieStopping (s : State) : State :=
  let u := (State.inc { s with therm := { s.therm with shut := true, cool := 0 } } Reg.THERM_STAT_SHUTDOWNS).gatesOff
  { u with power := { u.power with stopping := some (.thermal, 5) } }

theorem Keeps.dieStopping (s : State) : Keeps s s.dieStopping [Reg.THERM_STAT_SHUTDOWNS] :=
  ((Keeps.of_regs (t := { s with therm := { s.therm with shut := true, cool := 0 } }) rfl _).inc 1 List.mem_cons_self (by decide)).congr rfl

theorem State.shutDie_running {s : State} (hr : s.running = true) (hp : s.power.stopping = none) :
    s.shutDie = s.dieStopping.raise Code.DIE_OVERTEMP .f3 := by
  have hn : ¬ s.power.stopping.isSome = true := by rw [hp]; decide
  exact (if_neg hn).trans (if_pos hr)

/-- The shutdown of a controller die that runs and stops for nothing else yet (R569). -/
theorem State.shutDie_entry {s : State} (hr : s.running = true) (hp : s.power.stopping = none) :
    Keeps s s.shutDie [Reg.THERM_STAT_SHUTDOWNS] ∧ s.shutDie.rd Reg.THERM_STAT_SHUTDOWNS = s.oneMore Reg.THERM_STAT_SHUTDOWNS
    ∧ s.shutDie.therm.shut = true ∧ s.shutDie.mod.applied.gates = false
    ∧ s.shutDie.power = { s.power with stopping := some (.thermal, 5) }
    ∧ (s.f3Latched Code.DIE_OVERTEMP = true ∨ FaultDue s.shutDie Code.DIE_OVERTEMP) := by
  rw [State.shutDie_running hr hp]
  refine ⟨(Keeps.dieStopping s).raise _ _ _ _ _, ?_, by rw [State.raise_eq]; rfl, by rw [State.raise_eq]; rfl,
    by rw [State.raise_eq]; rfl, ?_⟩
  · rw [State.rd_congr (State.raise_regs _ _ _ _ _ _)]
    exact State.rd_inc_same { s with therm := { s.therm with shut := true, cool := 0 } } (by decide)
  · rw [← State.f3Latched_congr (Keeps.dieStopping s) Code.DIE_OVERTEMP (by decide)]
    exact State.raise_f3 _ _

/-- A sample that shuts nothing down shows the readings, and where all of them count the level they give (R564, R577). -/
theorem State.sampleDie_shows {s : State} (hs : s.therm.shut = false) {l : List (BitVec 16 × Bool)} (hl : l.length ≤ 10)
    (hc : (dieNext s.therm.die (readings 0 l)).code ≠ 3) (i : StartIn) :
    (∀ (k : Nat) (hk : k < l.length), (s.sampleDie (readings 0 l) i).rdS (Reg.THERM_SENSOR_TEMP k) = l[k].1.toInt)
    ∧ (s.therm.forced = false → (∀ p ∈ l, p.2 = true ∧ -550 ≤ p.1.toInt ∧ p.1.toInt ≤ 1750) →
        (s.sampleDie (readings 0 l) i).therm.die = dieNext s.therm.die (readings 0 l)
        ∧ (s.sampleDie (readings 0 l) i).rd Reg.THERM_STAT_DIE_LEVEL = (dieNext s.therm.die (readings 0 l)).code % 4)
    ∧ s.sampleDie (readings 0 l) i
        = { s with regs := (s.sampleDie (readings 0 l) i).regs, therm := (s.sampleDie (readings 0 l) i).therm } := by
  obtain ⟨w, n, far, fast, forced, a, e⟩ := State.dieLevelled_upd s (readings 0 l)
  rw [State.sampleDie_level hs hc i]
  refine ⟨fun k hk => State.rdS_dieLevelled s hl hk, fun hf hr => ⟨by rw [e], ?_⟩, by rw [e]⟩
  rw [State.rd_dieLevel_dieLevelled, State.dieLevelAfter_counting s hf fun _ hx => counts_of_mem_readings hr hx]

/-- A sample by which a running controller die reaches SHUTDOWN (R569). -/
theorem State.sampleDie_shutsDown {s : State} (hr : s.running = true) (hs : s.therm.shut = false) (hp : s.power.stopping = none)
    (hfull : s.power.region = .full) {l : List (BitVec 16 × Bool)} (hl : l.length ≤ 10)
    (hc : (dieNext s.therm.die (readings 0 l)).code = 3) (i : StartIn) :
    (s.sampleDie (readings 0 l) i).rd Reg.THERM_STAT_DIE_LEVEL = 3
    ∧ (s.sampleDie (readings 0 l) i).rd Reg.THERM_STAT_SHUTDOWNS = s.oneMore Reg.THERM_STAT_SHUTDOWNS
    ∧ (s.sampleDie (readings 0 l) i).therm.shut = true ∧ (s.sampleDie (readings 0 l) i).mod.applied.gates = false
    ∧ (s.sampleDie (readings 0 l) i).power = { s.power with stopping := some (.thermal, 5) }
    ∧ (s.f3Latched Code.DIE_OVERTEMP = true ∨ FaultDue (s.sampleDie (readings 0 l) i) Code.DIE_OVERTEMP) := by
  have hk := Keeps.dieLevelled s hl
  obtain ⟨w, n, far, fast, forced, a, e⟩ := State.dieLevelled_upd s (readings 0 l)
  obtain ⟨hkeep, hcount, hshut, hgates, hpower, hfault⟩ :=
    State.shutDie_entry (s := s.dieLevelled (readings 0 l)) (by rw [e]; exact hr) (by rw [e]; exact hp)
  rw [State.sampleDie_shutdown hs hc hfull i]
  refine ⟨?_, hcount.trans (State.oneMore_congr (hk _ (by decide) (by decide))), hshut, hgates, by rw [hpower, e], ?_⟩
  · rw [hkeep _ (by decide) (by decide), State.rd_dieLevel_dieLevelled, (State.dieLevelAfter_shutdown s _).mpr hc]
  · rwa [State.f3Latched_congr hk Code.DIE_OVERTEMP (by decide)] at hfault

/-! ### The HV die -/

/-- The level of the HV die after a sample (R564, R567). -/
def State.hvLevelAfter (s : State) (l : List Reading) : Nat :=
  if l.all (fun r => !r.counts) then max throttle (dieNext s.therm.hv l).code else (dieNext s.therm.hv l).code

theorem State.hvLevelAfter_shutdown {s : State} {l : List Reading} (h : (dieNext s.therm.hv l).code = 3) : s.hvLevelAfter l = 3 := by
  unfold State.hvLevelAfter throttle
  split <;> omega

/-- The HV die after a sample, before a shutdown: what is read, the level, the step that it brings at once, and the end of a shutdown. -/
def State.hvLevelled (s : State) (l : List Reading) : State :=
  let u := s.dieRead 1 Reg.THERM_STAT_HV_MAX l
  ((u.setTherm { u.therm with hv := dieNext u.therm.hv l }).levelHv (u.rd Reg.THERM_STAT_HV_LEVEL) (u.hvLevelAfter l)).coolHv l

theorem State.sampleHv_eq (s : State) (l : List Reading) : s.sampleHv l
    = (s.hvLevelled l).shutHv ((s.dieRead 1 Reg.THERM_STAT_HV_MAX l).rd Reg.THERM_STAT_HV_LEVEL)
        ((s.dieRead 1 Reg.THERM_STAT_HV_MAX l).hvLevelAfter l) := by
  unfold State.sampleHv State.hvLevelled State.dieRead
  cases hottest l <;> rfl

theorem State.coolHv_regs (s : State) (l : List Reading) : (s.coolHv l).regs = s.regs := by
  unfold State.coolHv
  split <;> rfl

theorem Keeps.hvLevelled_read (s : State) (l : List Reading) :
    Keeps (s.dieRead 1 Reg.THERM_STAT_HV_MAX l) (s.hvLevelled l) [Reg.THERM_STAT_HV_LEVEL] := by
  unfold State.hvLevelled State.levelHv
  simp only
  refine Keeps.congr (Keeps.wr ?_ _ List.mem_cons_self (by decide)) (State.coolHv_regs _ _)
  exact Keeps.of_regs (State.countFrom_regs _ _ _) _

theorem State.rd_hvLevel_hvLevelled (s : State) (l : List Reading) :
    (s.hvLevelled l).rd Reg.THERM_STAT_HV_LEVEL = (s.dieRead 1 Reg.THERM_STAT_HV_MAX l).hvLevelAfter l % 4 := by
  unfold State.hvLevelled State.levelHv
  simp only
  rw [State.rd_congr (State.coolHv_regs _ _)]
  exact State.rd_wr_same _ _ (by decide)

/-- The entry of the HV die to SHUTDOWN (R570). -/
theorem State.shutHv_entry {s : State} {old : Nat} (h : old ≠ 3) : Keeps s (s.shutHv old 3) [Reg.THERM_STAT_SHUTDOWNS]
    ∧ (s.shutHv old 3).rd Reg.THERM_STAT_SHUTDOWNS = s.oneMore Reg.THERM_STAT_SHUTDOWNS
    ∧ (s.shutHv old 3).therm.hvShut = true ∧ (s.shutHv old 3).mod.applied.gates = false
    ∧ (s.driveActive = true → 0x0D74 ∈ (s.shutHv old 3).drv.fresh ++ (s.shutHv old 3).drv.atB ++ (s.shutHv old 3).drv.reported) := by
  have hd : (s.shutHv old 3) = (((s.setTherm { s.therm with hvShut := true }).inc Reg.THERM_STAT_SHUTDOWNS).latchTrip 0x0D74).gatesOff :=
    if_pos ⟨rfl, h⟩
  have hk : Keeps s ((s.setTherm { s.therm with hvShut := true }).inc Reg.THERM_STAT_SHUTDOWNS) [Reg.THERM_STAT_SHUTDOWNS] :=
    (Keeps.of_regs rfl _).inc 1 List.mem_cons_self (by decide)
  obtain ⟨m, f, e⟩ := State.latchTrip_upd ((s.setTherm { s.therm with hvShut := true }).inc Reg.THERM_STAT_SHUTDOWNS) 0x0D74
  have hr : (s.shutHv old 3).regs = ((s.setTherm { s.therm with hvShut := true }).inc Reg.THERM_STAT_SHUTDOWNS).regs := by
    rw [hd, e]
    rfl
  refine ⟨hk.congr hr, ?_, by rw [hd, e]; rfl, by rw [hd]; rfl, fun ha => ?_⟩
  · rw [State.rd_congr hr]
    exact State.rd_inc_same _ (by decide)
  · rw [hd]
    refine State.latchTrip_held ?_ 0x0D74
    unfold State.driveActive State.drive at ha ⊢
    rwa [hk _ (by decide) (by decide)]

theorem State.hvLevelAfter_dieRead (s : State) (d : Nat) (f : Fld) (l m : List Reading) :
    (s.dieRead d f l).hvLevelAfter m = s.hvLevelAfter m := by
  obtain ⟨w, n, far, fast, e⟩ := State.dieRead_upd s d f l
  rw [e]
  rfl

/-- A sample by which the HV die reaches SHUTDOWN (R570). -/
theorem State.sampleHv_shutsDown {s : State} {l : List (BitVec 16 × Bool)} (hl : l.length ≤ 2)
    (hc : (dieNext s.therm.hv (readings 8 l)).code = 3) (hold : s.rd Reg.THERM_STAT_HV_LEVEL ≠ 3) :
    (s.sampleHv (readings 8 l)).rd Reg.THERM_STAT_HV_LEVEL = 3
    ∧ (s.sampleHv (readings 8 l)).rd Reg.THERM_STAT_SHUTDOWNS = s.oneMore Reg.THERM_STAT_SHUTDOWNS
    ∧ (s.sampleHv (readings 8 l)).therm.hvShut = true ∧ (s.sampleHv (readings 8 l)).mod.applied.gates = false
    ∧ (s.driveActive = true → 0x0D74 ∈ (s.sampleHv (readings 8 l)).drv.fresh ++ (s.sampleHv (readings 8 l)).drv.atB
        ++ (s.sampleHv (readings 8 l)).drv.reported) := by
  have hread := Keeps.dieRead s 1 (.inr rfl) (n := 8) (l := l) (by omega)
  have hk : Keeps s (s.hvLevelled (readings 8 l)) (readFlds ++ [Reg.THERM_STAT_HV_LEVEL]) :=
    (hread.mono fun _ h => List.mem_append_left _ h).trans
      ((Keeps.hvLevelled_read s _).mono fun _ h => List.mem_append_right _ h)
  have hnew : (s.dieRead 1 Reg.THERM_STAT_HV_MAX (readings 8 l)).hvLevelAfter (readings 8 l) = 3 :=
    (State.hvLevelAfter_dieRead s _ _ _ _).trans (State.hvLevelAfter_shutdown hc)
  rw [State.sampleHv_eq, hread _ (by decide) (by decide), hnew]
  obtain ⟨hkeep, hcount, hshut, hgates, htrip⟩ := State.shutHv_entry (s := s.hvLevelled (readings 8 l)) hold
  refine ⟨?_, hcount.trans (State.oneMore_congr (hk _ (by decide) (by decide))), hshut, hgates, fun ha => htrip ?_⟩
  · rw [hkeep _ (by decide) (by decide), State.rd_hvLevel_hvLevelled, hnew]
  · unfold State.driveActive State.drive at ha ⊢
    rwa [hk _ (by decide) (by decide)]

end Sys2Proof.Machine
end

section
/-! SUPPORT. The step that a limit factor takes every 100 ms, and what the two commands of the thermal monitor do. -/

namespace Sys2Proof.Machine

open Sys2Proof

/-! ### What a cell holds -/

@[simp] theorem State.cell_setCell_same (s : State) (c : Nat) (r : CellRun) : (s.setCell c r).cell c = r := by
  unfold State.cell
  rw [State.setCell_cells]
  unfold assocPut
  split
  case isTrue h => rw [assocGet_erase_same, h, Option.getD_none]
  case isFalse => rw [assocGet_insert_same _ _ _ (assocGet_erase_same _ _), Option.getD_some]

theorem State.cell_setCell_other (s : State) {c d : Nat} (r : CellRun) (h : d ≠ c) : (s.setCell c r).cell d = s.cell d := by
  unfold State.cell
  rw [State.setCell_cells]
  unfold assocPut
  split
  · rw [assocGet_erase_other _ h]
  · rw [assocGet_insert_other _ _ h, assocGet_erase_other _ h]

/-! ### The step of a limit factor every 100 ms -/

theorem furtherStep_throttled {level : Nat} (h : 2 ≤ level) : furtherStep level = -1 := if_pos h

theorem furtherStep_below {level : Nat} (h : level < 2) : furtherStep level = 1 := if_neg (Nat.not_le.mpr h)

/-- The die throttle's step at a level (R568). -/
theorem State.rd_step_furtherStep (s : State) (level : Nat) : (s.throttleDie (furtherStep level)).rd Reg.THERM_STAT_STEP
    = (if 2 ≤ level then min 4 (s.rd Reg.THERM_STAT_STEP + 1) else min 4 (s.rd Reg.THERM_STAT_STEP - 1)) := by
  rw [State.rd_step_throttleDie]
  split
  case isTrue h => rw [furtherStep_throttled h]; omega
  case isFalse h => rw [furtherStep_below (Nat.not_le.mp h)]; omega

/-- A factor's step at a level (R565). -/
theorem stepFactor_furtherStep (f level : Nat) :
    stepFactor f (furtherStep level) = max 1 (min 8 (if 2 ≤ level then f - 1 else f + 1)) := by
  unfold stepFactor
  simp only
  split
  case isTrue h => rw [furtherStep_throttled h]; omega
  case isFalse h => rw [furtherStep_below (Nat.not_le.mp h)]; omega

/-- A journal entry of an adaptation leaves the fields outside JRNL_STAT. -/
theorem State.rd_adapt (s : State) (m b : Nat) (d : List Byte) {g : Fld} (hg : g.within) (h : g.addr < 0x0F000000) :
    (s.adapt m b d).rd g = s.rd g := by
  refine Keeps.event (Keeps.refl s journalFlds) _ _ _ (by simp [journalFlds]) (by simp [journalFlds]) g hg fun f hf => .inl ?_
  have hj : ∀ f ∈ journalFlds, 0x0F000000 ≤ f.addr := by decide
  have := hj f hf
  omega

/-- The words of a cell that a step of its factor writes. -/
theorem cellStepFlds_within (c : Fin 512) :
    ∀ f ∈ [Reg.CELL_THERM_F_C c, Reg.CELL_THERM_STEPS_UP c, Reg.CELL_THERM_LAST_STAGE c], f.within ∧ f.addr < 0x0F000000 := by
  simp [Fld.within, Reg.CELL_THERM_F_C, Reg.CELL_THERM_STEPS_UP, Reg.CELL_THERM_LAST_STAGE]
  omega

/-- A step up of a cell's factor below 8 (R572). -/
theorem State.stepCell_up (s : State) (c : Nat) (h : s.rd (Reg.CELL_THERM_F_C c) < 8) : ∃ d, s.stepCell c 1
    = ((((s.setCell c { s.cell c with thermAt := s.timeOf 1 }).wr (Reg.CELL_THERM_F_C c) (s.rd (Reg.CELL_THERM_F_C c) + 1)).wr
        (Reg.CELL_THERM_LAST_STAGE c) s.stage32).inc (Reg.CELL_THERM_STEPS_UP c)).adapt 3 (subj 1 c) d := by
  have hf : stepFactor (s.rd (Reg.CELL_THERM_F_C c)) 1 = s.rd (Reg.CELL_THERM_F_C c) + 1 := by
    unfold stepFactor
    simp only
    omega
  unfold State.stepCell
  simp only [hf]
  exact ⟨_, if_neg (by omega)⟩

section

variable {s : State} {c : Fin 512} (h : s.rd (Reg.CELL_THERM_F_C c) < 8)
include h

theorem State.rd_factor_stepCell_up : (s.stepCell c 1).rd (Reg.CELL_THERM_F_C c) = s.rd (Reg.CELL_THERM_F_C c) + 1 := by
  obtain ⟨hw, ha⟩ := cellStepFlds_within c (Reg.CELL_THERM_F_C c) (by simp)
  obtain ⟨d, e⟩ := State.stepCell_up s c h
  have hu : (Reg.CELL_THERM_F_C c).addr ≠ (Reg.CELL_THERM_STEPS_UP c).addr := by simp [Reg.CELL_THERM_F_C, Reg.CELL_THERM_STEPS_UP]
  have hl : (Reg.CELL_THERM_F_C c).addr ≠ (Reg.CELL_THERM_LAST_STAGE c).addr := by simp [Reg.CELL_THERM_F_C, Reg.CELL_THERM_LAST_STAGE]
  rw [e, State.rd_adapt _ _ _ _ hw ha]
  refine (State.rd_wr_elsewhere _ _ hu).trans ((State.rd_wr_elsewhere _ _ hl).trans ((State.rd_wr_same _ _ hw).trans (Nat.mod_eq_of_lt ?_)))
  show _ < 16
  omega

theorem State.rd_count_stepCell_up : (s.stepCell c 1).rd (Reg.CELL_THERM_STEPS_UP c) = s.oneMore (Reg.CELL_THERM_STEPS_UP c) := by
  obtain ⟨hw, ha⟩ := cellStepFlds_within c (Reg.CELL_THERM_STEPS_UP c) (by simp)
  obtain ⟨d, e⟩ := State.stepCell_up s c h
  have hf : (Reg.CELL_THERM_STEPS_UP c).addr ≠ (Reg.CELL_THERM_F_C c).addr := by simp [Reg.CELL_THERM_F_C, Reg.CELL_THERM_STEPS_UP]
  have hl : (Reg.CELL_THERM_STEPS_UP c).addr ≠ (Reg.CELL_THERM_LAST_STAGE c).addr := by
    simp [Reg.CELL_THERM_STEPS_UP, Reg.CELL_THERM_LAST_STAGE]
  rw [e, State.rd_adapt _ _ _ _ hw ha, State.rd_inc_same _ hw]
  exact State.oneMore_congr ((State.rd_wr_elsewhere _ _ hl).trans (State.rd_wr_elsewhere _ _ hf))

theorem State.rd_stage_stepCell_up : (s.stepCell c 1).rd (Reg.CELL_THERM_LAST_STAGE c) = s.stage32 := by
  obtain ⟨hw, ha⟩ := cellStepFlds_within c (Reg.CELL_THERM_LAST_STAGE c) (by simp)
  obtain ⟨d, e⟩ := State.stepCell_up s c h
  have hu : (Reg.CELL_THERM_LAST_STAGE c).addr ≠ (Reg.CELL_THERM_STEPS_UP c).addr := by
    simp [Reg.CELL_THERM_LAST_STAGE, Reg.CELL_THERM_STEPS_UP]
  rw [e, State.rd_adapt _ _ _ _ hw ha]
  exact (State.rd_wr_elsewhere _ _ hu).trans ((State.rd_wr_same _ _ hw).trans (Nat.mod_mod _ _))

theorem State.mem_stepCell_up : (s.stepCell c 1).mem = s.mem := by
  obtain ⟨d, e⟩ := State.stepCell_up s c h
  rw [e]
  rfl

theorem State.cell_stepCell_up : (s.stepCell c 1).cell c = { s.cell c with thermAt := s.timeOf 1 } := by
  obtain ⟨d, e⟩ := State.stepCell_up s c h
  rw [e]
  exact State.cell_setCell_same s c _

theorem State.cell_stepCell_up_other {k : Nat} (hk : k ≠ c.val) : (s.stepCell c 1).cell k = s.cell k := by
  obtain ⟨d, e⟩ := State.stepCell_up s c h
  rw [e]
  exact State.cell_setCell_other s _ hk

end

/-! ### The two commands -/

theorem exec_dieSensorSample_idle {s : State} (h : s.monitorRuns = false) (d : DieSample) :
    exec (.dieSensorSample d) s = .next { s with out := [] } :=
  congrArg Host.Outcome.next (if_neg fun hr => Bool.false_ne_true (h.symm.trans hr))

theorem exec_dieSensorSample_controller {s : State} (h : s.monitorRuns = true) (r : Vector (BitVec 16 × Bool) 8) (i : StartIn) :
    exec (.dieSensorSample (.controller r i)) s = .next (State.sampleDie { s with out := [] } (readings 0 r.toList) i) :=
  congrArg Host.Outcome.next (if_pos h)

theorem exec_dieSensorSample_hv {s : State} (h : s.monitorRuns = true) (r : Vector (BitVec 16 × Bool) 2) :
    exec (.dieSensorSample (.hv r)) s = .next (State.sampleHv { s with out := [] } (readings 8 r.toList)) :=
  congrArg Host.Outcome.next (if_pos h)

theorem State.monitorRuns_of_full {s : State} (h : s.power.region = .full) : s.monitorRuns = true := by
  unfold State.monitorRuns
  rw [h]
  rfl

theorem State.skipsStep_iff (s : State) (f : LimitSource) :
    (decide (s.power.region ≠ .full) || !(s.stepDue f)) = true ↔ s.power.region ≠ .full ∨ s.stepDue f = false := by simp

/-- Before its 100 ms have passed, and outside full operation, a source takes no step (R565). -/
theorem exec_thermalFactorStep_idle {s : State} {f : LimitSource} (h : s.power.region ≠ .full ∨ s.stepDue f = false) :
    exec (.thermalFactorStep f) s = .next { s with out := [] } :=
  congrArg Host.Outcome.next (if_pos ((State.skipsStep_iff { s with out := [] } f).mpr h))

section

variable {s : State} (hr : s.power.region = .full)
include hr

theorem State.not_skipsStep {f : LimitSource} (hd : s.stepDue f = true) : ¬ (decide (s.power.region ≠ .full) || !(s.stepDue f)) = true := by
  simp [hr, hd]

theorem exec_thermalFactorStep_die (hd : s.stepDue .die = true) : exec (.thermalFactorStep .die) s
    = .next (State.throttleDie (State.stepsNow { s with out := [] } 0) (furtherStep (s.rd Reg.THERM_STAT_DIE_LEVEL))) :=
  congrArg Host.Outcome.next (if_neg (State.not_skipsStep (s := { s with out := [] }) (f := .die) hr hd))

theorem exec_thermalFactorStep_hv (hd : s.stepDue .hv = true) : exec (.thermalFactorStep .hv) s
    = .next { s with out := [], therm := { s.therm with
        fHv := stepFactor s.therm.fHv (furtherStep (s.rd Reg.THERM_STAT_HV_LEVEL)), stepAt := s.therm.stepAt.set 1 (s.timeOf 1) } } :=
  congrArg Host.Outcome.next (if_neg (State.not_skipsStep (s := { s with out := [] }) (f := .hv) hr hd))

theorem exec_thermalFactorStep_ntc {i : Fin 2} (hd : s.stepDue (.ntc i) = true) : exec (.thermalFactorStep (.ntc i)) s
    = .next { s with out := [], therm := { s.therm with
        fNtc := s.therm.fNtc.set i (stepFactor s.therm.fNtc[i] (furtherStep (s.therm.ntc.getD i {}).code))
        stepAt := s.therm.stepAt.setIfInBounds (2 + i) (s.timeOf 1) } } :=
  congrArg Host.Outcome.next (if_neg (State.not_skipsStep (s := { s with out := [] }) (f := .ntc i) hr hd))

theorem exec_thermalFactorStep_cell {c : Fin 512} (hd : s.stepDue (.cell c) = true) : exec (.thermalFactorStep (.cell c)) s
    = .next (if !s.running ∨ (furtherStep (s.cellLevel c) < 0 ∧ s.leaving c) then { s with out := [] }
        else State.stepCell { s with out := [] } c (furtherStep (s.cellLevel c))) :=
  congrArg Host.Outcome.next (if_neg (State.not_skipsStep (s := { s with out := [] }) (f := .cell c) hr hd))

/-- A cell below THROTTLE whose step is due steps up. -/
theorem exec_thermalFactorStep_up {c : Fin 512} (hd : s.stepDue (.cell c) = true) (hrun : s.running = true) (hl : s.cellLevel c < 2) :
    exec (.thermalFactorStep (.cell c)) s = .next (State.stepCell { s with out := [] } c 1) := by
  rw [exec_thermalFactorStep_cell hr hd, furtherStep_below hl, if_neg (by simp [hrun])]

/-- A cell that is leaving service takes no step down, due or not (R25). -/
theorem exec_thermalFactorStep_leaving {c : Fin 512} (hl : 2 ≤ s.cellLevel c) (hg : s.leaving c = true) :
    exec (.thermalFactorStep (.cell c)) s = .next { s with out := [] } := by
  cases hd : s.stepDue (.cell c) with
  | false => exact exec_thermalFactorStep_idle (.inr hd)
  | true => rw [exec_thermalFactorStep_cell hr hd, furtherStep_throttled hl, if_pos (.inr ⟨by decide, hg⟩)]

end

/-- A tripped cell in service is leaving it (R347). -/
theorem State.leaving_of_tripped {s : State} {c : Nat} (ha : s.active c = true) (ht : s.tripped c = true) : s.leaving c = true := by
  unfold State.leaving
  rw [ha, ht]
  rfl

/-- Settles O53. The two shutdowns are the shared sample up to the level, then the shutdown; the steps are the factor's, source by source. -/
theorem thermalLevelsAct : Obligations.ThermalLevelsAct := by
  refine ⟨?_, ?_, ?_, ?_, ?_, ?_, ?_, ?_, ?_, ?_, ?_⟩
  · intro s r i hm hs hc
    obtain ⟨hshown, hlevel, hrest⟩ := State.sampleDie_shows (s := { s with out := [] }) hs (l := r.toList) (by simp) hc i
    refine ⟨_, exec_dieSensorSample_controller hm r i, fun k => hshown k (by simp), fun hf hr => hlevel hf fun p hp => ?_, hrest⟩
    obtain ⟨k, hk, rfl⟩ := List.getElem_of_mem hp
    exact hr ⟨k, by simpa using hk⟩
  · intro s r i hr hs hp hfull hc
    exact ⟨_, exec_dieSensorSample_controller (State.monitorRuns_of_full hfull) r i,
      State.sampleDie_shutsDown (s := { s with out := [] }) hr hs hp hfull (by simp) hc i⟩
  · intro s r hm hc hold
    exact ⟨_, exec_dieSensorSample_hv hm r, State.sampleHv_shutsDown (s := { s with out := [] }) (by simp) hc hold⟩
  · intro s d hm
    exact ⟨_, exec_dieSensorSample_idle hm d, rfl⟩
  · intro s hr hd
    refine ⟨_, exec_thermalFactorStep_die hr hd, ?_, ?_, ?_⟩
    · exact State.rd_step_furtherStep _ _
    · rw [State.throttleDie_eq]
      rfl
    · exact (Keeps.of_regs (t := State.stepsNow { s with out := [] } 0) rfl _).trans (Keeps.throttleDie _ _)
  · intro s hr hd
    exact ⟨_, exec_thermalFactorStep_hv hr hd, rfl, stepFactor_furtherStep _ _⟩
  · intro s i hr hd
    refine ⟨_, exec_thermalFactorStep_ntc hr hd, rfl, ?_, ?_⟩
    · rw [← stepFactor_furtherStep]
      simp
    · have hi : ∀ i : Fin 2, i.val ≠ (1 - i).val := by decide
      simp [hi i]
  · intro s c hr hrun hd hlow hf
    have hf' : State.rd { s with out := [] } (Reg.CELL_THERM_F_C c) < 8 := hf
    exact ⟨_, exec_thermalFactorStep_up hr hd hrun hlow, State.rd_factor_stepCell_up hf', State.rd_count_stepCell_up hf',
      State.rd_stage_stepCell_up hf', State.mem_stepCell_up hf', State.cell_stepCell_up hf', fun _ hk => State.cell_stepCell_up_other hf' hk⟩
  · intro s c hr _ hl ht ha
    exact ⟨_, exec_thermalFactorStep_leaving hr hl (State.leaving_of_tripped ha ht), rfl⟩
  · intro s f hd
    exact ⟨_, exec_thermalFactorStep_idle (.inr hd), rfl⟩
  · intro s f hr
    exact ⟨_, exec_thermalFactorStep_idle (.inl hr), rfl⟩

end Sys2Proof.Machine
end

section
/-! SUPPORT. What a start of the controller settles (R44, R45): the region and the hold, the sampled ROLE pads, the sessions, the waiting commands
and, where it is cold, that memory is empty. One lemma per operation, in the order of the model's files: it leaves what is settled. The idea: a
start settles these things in `State.fresh` and `State.stepImage`; whatever follows writes registers and other fields. -/

namespace Sys2Proof.Machine

open Sys2Proof

/-! ### What a start settles -/

/-- What a start settles once, memory apart. -/
structure StartCore where
  region   : Region
  held     : Bool
  stopping : Option (StopKind × Nat)
  nextCold : Bool
  role0    : Bool
  role1    : Bool
  stopped  : Bool
  activate : Bool
  ses      : Vector Session 4
  pending  : List Instr

def State.startCore (s : State) : StartCore :=
  { region := s.power.region, held := s.power.held, stopping := s.power.stopping, nextCold := s.power.nextCold, role0 := s.power.role0,
    role1 := s.power.role1, stopped := s.clk.stopped, activate := s.sto.activate, ses := s.ses, pending := s.pending }

/-- A state with a core, and with empty memory where `blank` says so. -/
structure State.Started (c : StartCore) (blank : Prop) (s : State) : Prop where
  core : s.startCore = c
  mem : blank → s.mem = []

namespace State.Started

variable {c : StartCore} {blank : Prop} {s : State}

theorem refl (s : State) : Started s.startCore False s := ⟨rfl, False.elim⟩

/-- An update of fields of which nothing is settled. -/
theorem keep {regs flash canRx canTx mon lastCommit turn seen seenOld flt duo mod drv meas therm isl net atB cells link loop pol out free}
    (h : Started c blank s) :
    Started c blank
      { regs := regs, mem := s.mem, power := s.power, flash := flash, sto := s.sto, clk := s.clk, ses := s.ses, canRx := canRx, canTx := canTx,
        mon := mon, lastCommit := lastCommit, turn := turn, seen := seen, seenOld := seenOld, flt := flt, duo := duo, mod := mod, drv := drv,
        meas := meas, therm := therm, isl := isl, net := net, atB := atB, cells := cells, link := link, loop := loop, pol := pol, out := out,
        free := free, pending := s.pending } := ⟨h.core, h.mem⟩

theorem setWord {a w} (h : Started c blank s) : Started c blank (s.setWord a w) := .keep h
theorem wr {f v} (h : Started c blank s) : Started c blank (s.wr f v) := .keep h
theorem wrB {f b} (h : Started c blank s) : Started c blank (s.wrB f b) := .keep h
theorem wrS {f v} (h : Started c blank s) : Started c blank (s.wrS f v) := .keep h
theorem wrSat {f v} (h : Started c blank s) : Started c blank (s.wrSat f v) := .keep h
theorem inc {f n} (h : Started c blank s) : Started c blank (s.inc f n) := .keep h
theorem see {f} (h : Started c blank s) : Started c blank (s.see f) := .keep (.wr h)
theorem event {k b d} (h : Started c blank s) : Started c blank (s.event k b d) := .keep h
theorem takeFree (h : Started c blank s) : Started c blank s.takeFree.2 := .keep h

theorem ite {p : Prop} [Decidable p] {a b : State} (ha : Started c blank a) (hb : Started c blank b) :
    Started c blank (if p then a else b) := by
  split <;> assumption

/-- A conditional whose first branch goes on from the second. -/
theorem when {p : Prop} [Decidable p] {a b : State} (hb : Started c blank b) (ha : Started c blank b → Started c blank a) :
    Started c blank (if p then a else b) :=
  .ite (ha hb) hb

/-- A conditional whose second branch goes on from the first. -/
theorem orElse {p : Prop} [Decidable p] {a b : State} (ha : Started c blank a) (hb : Started c blank a → Started c blank b) :
    Started c blank (if p then a else b) :=
  .ite ha (hb ha)

theorem foldl {α : Type} {f : State → α → State} {l : List α} (hf : ∀ t x, Started c blank t → Started c blank (f t x)) {s : State}
    (h : Started c blank s) : Started c blank (l.foldl f s) :=
  List.foldlRecOn (motive := Started c blank) _ _ h fun t ht x _ => hf t x ht

/-! ### Ops, Gate and Station -/

theorem setStage {k} (h : Started c blank s) : Started c blank (s.setStage k) := .wr <| .wr h
theorem setTime {b u} (h : Started c blank s) : Started c blank (s.setTime b u) := .wr <| .wr <| .wr <| .wr h
theorem stampBase {b} (h : Started c blank s) : Started c blank (s.stampBase b) := .foldl (fun _ _ => .setWord) h
theorem stampStage (h : Started c blank s) : Started c blank s.stampStage := .foldl (fun _ _ => .stampBase) <| .wr <| .wr h
theorem gatesOff (h : Started c blank s) : Started c blank s.gatesOff := .keep h
theorem gateEnable (h : Started c blank s) : Started c blank s.gateEnable := .ite h <| .gatesOff h
theorem slotsManual {l} (h : Started c blank s) : Started c blank (s.slotsManual l) := .foldl (fun _ _ h => .wr <| .wr h) h
theorem driveTo {st} (h : Started c blank s) : Started c blank (s.driveTo st) := .ite h <| .event <| .wr <| .ite (.gatesOff h) h
theorem driveOff (h : Started c blank s) : Started c blank s.driveOff := .ite (.wr <| .slotsManual <| .driveTo h) h

theorem entry {old st} (h : Started c blank s) : Started c blank (s.entry old st) :=
  .ite (.foldl (fun _ _ h => .ite (.wr h) h) <| .keep <| .orElse (.wr h) .wr) <| .ite (.slotsManual <| .wr <| .wr <| .driveOff <|
    .keep <| .orElse (.wr h) .wr) <| .ite (.wr <| .wr <| .keep <| .orElse (.wr h) .wr) <| .when (.keep <| .orElse (.wr h) .wr) .keep

theorem enter {st cause} (h : Started c blank s) : Started c blank (s.enter st cause) := .entry <| .event <| .wr <| .keep <| .wr <| .wr <| .wr h
theorem goTo {st cause} (h : Started c blank s) : Started c blank (s.goTo st cause) := .keep h

/-! ### Train -/

theorem setRoute {n r} (h : Started c blank s) : Started c blank (s.setRoute n r) := by
  unfold State.setRoute
  split
  · exact .keep h
  · exact h

theorem powerDown {l} (h : Started c blank s) : Started c blank (s.powerDown l) :=
  .wr <| .wr <| .wr <| .wr <| .wr <| .wr <| .ite (.inc <| .see h) h

theorem useEnds {n} (h : Started c blank s) : Started c blank (s.useEnds n) := .foldl (fun _ _ h => .ite (.wr h) <| .powerDown h) h
theorem usePair (h : Started c blank s) : Started c blank s.usePair := .foldl (fun _ _ h => .ite (.wr h) <| .powerDown h) h
theorem noReach {n} (h : Started c blank s) : Started c blank (s.noReach n) := .ite h <| .wr <| .wr <| .wr <| .wr h
theorem endStep1 {n} (h : Started c blank s) : Started c blank (s.endStep1 n) := .ite (.setRoute h) h

theorem startQuiet {n} (h : Started c blank s) : Started c blank (s.startQuiet n) :=
  .ite h <| .endStep1 <| .noReach <| .wr <| .useEnds <| .setRoute h

/-! ### Drive, SafetyIsland and Eth -/

theorem writeHv (h : Started c blank s) : Started c blank s.writeHv := .ite (.keep h) h
theorem initLevels (h : Started c blank s) : Started c blank s.initLevels := .keep <| .foldl (fun _ _ => .wr) h
theorem setPair {i p} (h : Started c blank s) : Started c blank (s.setPair i p) := .keep h
theorem setOutp {j o} (h : Started c blank s) : Started c blank (s.setOutp j o) := .keep h
theorem islandReport {code data} (h : Started c blank s) : Started c blank (s.islandReport code data) := .keep h
theorem newNonce (h : Started c blank s) : Started c blank s.newNonce := .wr <| .takeFree h

theorem lockOut {cause subject} (h : Started c blank s) : Started c blank (s.lockOut cause subject) :=
  .orElse (.keep <| .islandReport <| .inc h) fun h => .inc <| .newNonce <| .wr <| .wr <| .wr <| .wr h

theorem driveOut {j} (h : Started c blank s) : Started c blank (s.driveOut j) := .ite h <| .setOutp <| .wrB h
theorem showIsland (h : Started c blank s) : Started c blank s.showIsland :=
  .wrB <| .wrSat <| .wr <| .foldl (fun _ _ h => .wr <| .wrSat <| .wr h) h

theorem islandAct {ending} (h : Started c blank s) : Started c blank (State.islandAct ending s) :=
  .showIsland <| .foldl (fun _ _ => .driveOut) <| .wrB <| .wrB <| .orElse (.ite (.keep h) h) fun h => .gateEnable <| .keep h

theorem setActive {ws} (h : Started c blank s) : Started c blank (s.setActive ws) := .foldl (fun _ _ => .setWord) h
theorem showParams (h : Started c blank s) : Started c blank s.showParams := .wr <| .wrB h
theorem dropUnused {i} (h : Started c blank s) : Started c blank (s.dropUnused i) := .ite (.setPair h) h

theorem commitSafe {ws} (h : Started c blank s) : Started c blank (s.commitSafe ws) :=
  .islandAct <| .lockOut <| .keep <| .foldl (fun _ _ => .dropUnused) <| .showParams <| .setActive h

theorem setGrid {st} (h : Started c blank s) : Started c blank (s.setGrid st) :=
  .ite (.keep <| .keep <| .wrB <| .wrB <| .wr h) <| .when (.keep <| .wrB <| .wrB <| .wr h) .keep

theorem gridLoss (h : Started c blank s) : Started c blank s.gridLoss := by
  unfold State.gridLoss
  split
  · exact .setGrid h
  · exact .setGrid h
  · exact h

/-! ### Can -/

theorem showCanPath {k} (h : Started c blank s) : Started c blank (s.showCanPath k) :=
  .wr <| .wr <| .wr <| .wr <| .wr <| .wr <| .wr <| .wr <| .wr <| .wr <| .wr h

theorem assignRing {k old n} {r : State × Nat} (h : Started c blank r.1) : Started c blank (State.assignRing k old r n).1 := by
  unfold State.assignRing
  simp only
  split
  · exact h
  · exact .orElse h fun h => .wr <| .wr <| .wr <| .wr h

theorem restartTimeout {k n} {old : State} (h : Started c blank s) : Started c blank (State.restartTimeout k old s n) := .ite (.keep h) h

theorem assignRings {old k} {s : State} (h : Started c blank s) : Started c blank (s.assignRings old k) :=
  .foldl (fun _ _ => .restartTimeout) <|
    List.foldlRecOn (motive := fun r : State × Nat => Started c blank r.1) _ _ h fun _ hr _ _ => .assignRing hr

/-! ### Store -/

theorem showMarch (h : Started c blank s) : Started c blank s.showMarch := .wr h
theorem showDirty (h : Started c blank s) : Started c blank s.showDirty := .wrB h
theorem loadWords {words} (h : Started c blank s) : Started c blank (s.loadWords words) := .foldl (fun _ _ => .setWord) h

theorem showFw (h : Started c blank s) : Started c blank s.showFw :=
  .wr <| .wr <| .wr <| .wr <| .wr <| .wrB <| .wr <| .wr <| .wr <| .wr <| .wrB <| .wr h

theorem fillSecure (h : Started c blank s) : Started c blank s.fillSecure :=
  ⟨h.core, fun hb => by show memClear s.mem _ _ = []; rw [h.mem hb]; rfl⟩

theorem newChallenge (h : Started c blank s) : Started c blank s.newChallenge := .foldl (fun _ _ h => .wr <| .takeFree h) ⟨h.core, h.mem⟩

theorem store {a bs} (h : Started c False s) : Started c False (s.store a bs) := by
  unfold State.store
  split
  · exact ⟨h.core, False.elim⟩
  · exact h

/-! ### Faults, Pair, Clock and Commit -/

theorem showLatch {i} (h : Started c blank s) : Started c blank (s.showLatch i) := .ite (.wrB h) h
theorem showFaults (h : Started c blank s) : Started c blank s.showFaults := .wr <| .wr <| .foldl (fun _ _ => .showLatch) h

theorem showPair_ (h : Started c blank s) : Started c blank s.showPair_ :=
  .wr <| .wrB <| .wrB <| .wr <| .wr <| .wrB <| .wrB <| .wrB <| .wr h

theorem setLocked {p b} (h : Started c blank s) : Started c blank (s.setLocked p b) := .wr h

theorem setRamp {g r} (h : Started c blank s) : Started c blank (s.setRamp g r) := by
  unfold State.setRamp
  split
  · exact .wrS <| .wrB <| .wrS ⟨h.core, h.mem⟩
  · exact .wrB <| .wrS ⟨h.core, h.mem⟩

theorem spreadEnable (h : Started c blank s) : Started c blank s.spreadEnable := .ite (.setRamp ⟨h.core, h.mem⟩) h

theorem timesOn {mono} (h : Started c blank s) : Started c blank (s.timesOn mono) :=
  .setTime <| .setTime <| .setTime <| .setTime ⟨h.core, h.mem⟩

theorem holdBases (h : Started c blank s) : Started c blank s.holdBases := .foldl (fun _ _ => .wr) h
theorem releaseBases (h : Started c blank s) : Started c blank s.releaseBases := .foldl (fun _ _ => .wrB) h

theorem showPlace {n} (h : Started c blank s) : Started c blank (s.showPlace n) := by
  unfold State.showPlace
  split <;> exact .wr <| .wr <| .wr h

theorem deriveTable (h : Started c blank s) : Started c blank s.deriveTable :=
  .foldl (fun _ _ => .showPlace) <| .foldl (fun _ _ h => .wr <| .wr <| .wr h) <| .foldl (fun _ _ => .wr) <| .wr h

/-! ### Power -/

/-- A write that was cut short may change the flash, the safety island and the wipe's marker. -/
theorem cutWrite {b} (h : Started c blank s) : Started c blank (s.cutWrite b) := by
  unfold State.cutWrite
  split
  · exact .keep h
  · exact .when (.takeFree h) fun h => ⟨h.core, h.mem⟩
  · exact .when (.takeFree h) .commitSafe
  · exact h

theorem cutWrites (h : Started c blank s) : Started c blank s.cutWrites := .foldl (fun _ _ h => .foldl (fun _ _ => .cutWrite) h) h
theorem stopCopies (h : Started c blank s) : Started c blank s.stopCopies := .foldl (fun _ _ => .wr) h

theorem stepClocks {i} (h : Started c blank s) : Started c blank (State.stepClocks i s) := .wr <| .wrB <| .wrB <| .wrB <| .setLocked h

theorem stepMarch {i} (h : Started c blank s) : Started c blank (State.stepMarch i s) := by
  unfold State.stepMarch
  dsimp only
  exact .when ⟨h.core, fun _ => rfl⟩ .event

theorem samplePads (h : Started c blank s) (a b : Bool) :
    Started { c with role0 := a, role1 := b } blank { s with power := { s.power with role0 := a, role1 := b } } :=
  ⟨by rw [← h.core]; rfl, h.mem⟩

/-- Step 5 samples the ROLE pads. -/
theorem stepImage {i watchdog} (h : Started c blank s) :
    Started { c with role0 := i.role0, role1 := i.role1 } blank (State.stepImage i watchdog s) := by
  unfold State.stepImage
  extract_lets role strapped power sampled f
  have hs : Started { c with role0 := i.role0, role1 := i.role1 } blank sampled :=
    samplePads (s := strapped) (.wrB <| .wrB <| .wr h) i.role0 i.role1
  clear_value sampled
  exact .when (.event <| .showFw <| .wrB <| .keep hs) .event

theorem stepIdentity (h : Started c blank s) : Started c blank s.stepIdentity :=
  .foldl (fun _ _ h => .wr <| .wr h) <| .setWord <| .wr <| .foldl (fun _ _ => .setWord) h

theorem stepFactory (h : Started c blank s) : Started c blank s.stepFactory := .foldl (fun _ _ => .setWord) h

theorem stepLifecycle (h : Started c blank s) : Started c blank s.stepLifecycle := by
  unfold State.stepLifecycle
  dsimp only
  exact .newChallenge <| .wrB <| .wr <| .wr <| .when (.ite ⟨h.core, h.mem⟩ h) .fillSecure

/-- Marking the slots that are missing stores into memory: it is left empty where no recording was running (R117). -/
theorem stepLogbook (h : Started c blank s) (hp : blank → s.flag Reg.MEM_LOGBOOK_STAT_POST_RUNNING = false) :
    Started c blank s.stepLogbook := by
  by_cases hb : blank
  · unfold State.stepLogbook
    rw [hp hb]
    exact h
  · have hs : Started c False s.stepLogbook :=
      .ite ⟨h.core, False.elim⟩ <| .event <| .wr <| .wr <| .wr <| .foldl (fun _ _ => .store) ⟨h.core, False.elim⟩
    exact ⟨hs.core, fun h => absurd h hb⟩

end State.Started

end Sys2Proof.Machine
end

section
/-! SUPPORT. A word that operations leave as it reads: what a start's steps up to the logbook leave of MEM_LOGBOOK_STAT, so that a cold start
finds no recording to close (R117). -/

namespace Sys2Proof.Machine

open Sys2Proof

/-! ### What leaves a word -/

/-- A word that reads a value, as a structure, so that unification compares states. -/
structure State.Reads (a : Nat) (w : Word) (s : State) : Prop where
  word : s.word a = w

namespace State.Reads

variable {a : Nat} {w : Word} {s : State}

/-- An update of other fields than the registers. -/
theorem keep {mem power flash sto clk ses canRx canTx mon lastCommit turn seen seenOld flt duo mod drv meas therm isl net atB cells link loop pol
    out free pending} (h : Reads a w s) :
    Reads a w
      { regs := s.regs, mem := mem, power := power, flash := flash, sto := sto, clk := clk, ses := ses, canRx := canRx, canTx := canTx, mon := mon,
        lastCommit := lastCommit, turn := turn, seen := seen, seenOld := seenOld, flt := flt, duo := duo, mod := mod, drv := drv, meas := meas,
        therm := therm, isl := isl, net := net, atB := atB, cells := cells, link := link, loop := loop, pol := pol, out := out, free := free,
        pending := pending } := ⟨h.word⟩

theorem setWord {b v} (h : Reads a w s) (hb : a ≠ b) : Reads a w (s.setWord b v) := ⟨(State.word_setWord_other s v hb).trans h.word⟩
theorem wr {f v} (h : Reads a w s) (hf : a ≠ f.addr) : Reads a w (s.wr f v) := h.setWord hf
theorem wrB {f b} (h : Reads a w s) (hf : a ≠ f.addr) : Reads a w (s.wrB f b) := h.setWord hf
theorem inc {f n} (h : Reads a w s) (hf : a ≠ f.addr) : Reads a w (s.inc f n) := h.setWord hf

theorem ite {p : Prop} [Decidable p] {t u : State} (ht : Reads a w t) (hu : Reads a w u) : Reads a w (if p then t else u) := by
  split <;> assumption

theorem when {p : Prop} [Decidable p] {t u : State} (hu : Reads a w u) (ht : Reads a w u → Reads a w t) : Reads a w (if p then t else u) :=
  .ite (ht hu) hu

theorem foldl {α : Type} {f : State → α → State} {l : List α} (hf : ∀ t, ∀ x ∈ l, Reads a w t → Reads a w (f t x)) {s : State}
    (h : Reads a w s) : Reads a w (l.foldl f s) :=
  List.foldlRecOn (motive := Reads a w) _ _ h fun t ht x hx => hf t x hx ht

/-- Journaling writes JRNL_STAT alone. -/
theorem event {k b d} (h : Reads a w s) (ha : a < 0x0F000000) : Reads a w (s.event k b d) := by
  have hj : ∀ f ∈ journalFlds, 0x0F000000 ≤ f.addr := by decide
  have hk : Keeps s (s.event k b d) journalFlds := (Keeps.refl s _).event k b d (by decide) (by decide)
  exact ⟨(hk.word fun f hf => by have := hj f hf; omega).trans h.word⟩


/-- A configuration record leaves a word that holds no configuration (R128). -/
theorem loadWords {l} (h : Reads a w s) (ha : configMask (rowsAt a).1 = 0) : Reads a w (s.loadWords l) := by
  refine .foldl (fun t p _ ht => ?_) h
  by_cases hp : a = p.1
  · subst hp
    refine ⟨?_⟩
    rw [State.word_setWord_same, ha, ht.word]
    show w &&& BitVec.allOnes 32 ||| p.2 &&& 0#32 = w
    rw [BitVec.and_allOnes, BitVec.and_zero, BitVec.or_zero]
  · exact ht.setWord hp

end State.Reads

/-! ### The logbook's word in a cold start -/

/-- A word that is dropped from the list reads its reset value. -/
theorem State.word_filter_dropped {s : State} {keep : Nat × Word → Bool} {a : Nat} (h : ∀ v, keep (a, v) = false) {l : List (Nat × Word)}
    (hs : s.regs = l.filter keep) : s.word a = resetWord a := by
  have hn : assocGet s.regs a = none := by
    rw [hs, assocGet_find, Option.map_eq_none_iff, List.find?_eq_none]
    rintro ⟨b, v⟩ hb he
    obtain rfl : b = a := by simpa using he
    simp [h v] at hb
  unfold State.word
  rw [hn]

/-- The word of MEM_LOGBOOK_STAT; it reads 0 where no recording runs. -/
def logbookWord : Nat := 0x02000030

namespace State.Reads

variable {w : Word} {s : State}

theorem freshLogbook (s : State) : Reads logbookWord 0 (s.fresh true) :=
  ⟨(State.word_filter_dropped (keep := fun p => keptCold p.1) (fun _ => rfl) rfl).trans rfl⟩

theorem stepTimes {e} (h : Reads logbookWord w s) : Reads logbookWord w (State.stepTimes true e s) := by
  unfold State.stepTimes
  simp only [if_true]
  have hs : Reads logbookWord w (((s.wr (Reg.TIME_BASE_SYNCED 1) 1).wr (Reg.TIME_BASE_SYNCED 2) 1).wr (Reg.TIME_BASE_SYNCED 3) 0) :=
    .wr (.wr (.wr h (by decide)) (by decide)) (by decide)
  refine .keep (.ite (.foldl (fun t b hb ht => .wr ht ?_) hs) (.foldl (fun t b hb ht => .wrB ht ?_) hs))
  · revert b; decide
  · revert b; decide

theorem stepClocks {i} (h : Reads logbookWord w s) : Reads logbookWord w (State.stepClocks i s) :=
  .wr (.wrB (.wrB (.wrB (.wr h (by decide)) (by decide)) (by decide)) (by decide)) (by decide)

theorem stepMarch {i} (h : Reads logbookWord w s) : Reads logbookWord w (State.stepMarch i s) := by
  unfold State.stepMarch
  dsimp only
  exact .when (.keep (.wrB (.wr h (by decide)) (by decide))) fun h => .event h (by decide)

theorem showFw (h : Reads logbookWord w s) : Reads logbookWord w s.showFw := by
  unfold State.showFw
  extract_lets rom slot both
  have hslot (b : Bool) {t : State} (ht : Reads logbookWord w t) : Reads logbookWord w (slot t b) := by
    cases b <;> exact .wr (.wr (.wr (.wrB (.wr ht (by decide)) (by decide)) (by decide)) (by decide)) (by decide)
  exact .wr (.wr (hslot true (hslot false h)) (by decide)) (by decide)

theorem stepImage {i watchdog} (h : Reads logbookWord w s) : Reads logbookWord w (State.stepImage i watchdog s) := by
  unfold State.stepImage
  extract_lets role strapped power sampled f
  have hs : Reads logbookWord w sampled := .keep <| .wrB (.wrB (.wr h (by decide)) (by decide)) (by decide)
  clear_value sampled
  exact .when (.event (.showFw <| .wrB (.keep hs) (by decide)) (by decide)) fun h => .event h (by decide)

theorem stepIdentity (h : Reads logbookWord w s) : Reads logbookWord w s.stepIdentity := by
  refine .foldl (fun t p hp ht => .wr (.wr ht ?_) ?_) <| .setWord (.wr (.foldl (fun t b hb ht => .setWord ht ?_) h) (by decide)) (by decide)
  · revert p; decide
  · revert p; decide
  · revert b; decide

theorem stepFactory (h : Reads logbookWord w s) : Reads logbookWord w s.stepFactory :=
  .foldl (fun t p _ ht => .setWord ht (by unfold logbookWord; omega)) h

theorem stepLifecycle (h : Reads logbookWord w s) : Reads logbookWord w s.stepLifecycle := by
  unfold State.stepLifecycle
  dsimp only
  refine .foldl (fun t n hn ht => .wr (.keep ht) ?_) <| .keep <| .wrB (.wr (.wr (.when (.ite (.keep h) h) fun h =>
    .keep (.wr h (by decide))) (by decide)) (by decide)) (by decide)
  have hn := List.mem_range.mp hn
  show 0x02000030 ≠ 0x00000810 + 4 * n
  omega

end State.Reads

end Sys2Proof.Machine
end

section
/-! SUPPORT. A whole start, and the commands that begin one. -/

namespace Sys2Proof.Machine

open Sys2Proof

/-! ### The steps of a start -/

/-- The core of a start that has begun: full operation, and everything but the waiting commands as at reset. -/
def freshCore (q : List Instr) (role0 role1 : Bool) : StartCore :=
  { region := .full, held := false, stopping := none, nextCold := false, role0 := role0, role1 := role1, stopped := false, activate := false,
    ses := State.reset.ses, pending := q }

namespace State.Started

variable {c : StartCore} {blank : Prop} {s : State}

theorem stepConfig (h : Started c blank s) (hl : blank → Reads logbookWord 0 s) : Started c blank s.stepConfig := by
  unfold State.stepConfig
  extract_lets loaded
  have hs : Started c blank loaded := by
    unfold loaded
    split
    · exact .keep <| .loadWords h
    · exact .event h
  have hr (hb : blank) : Reads logbookWord 0 loaded := by
    unfold loaded
    split
    · exact .keep <| .loadWords (hl hb) (by decide)
    · exact .event (hl hb) (by decide)
  have hp (hb : blank) : loaded.stepLifecycle.flag Reg.MEM_LOGBOOK_STAT_POST_RUNNING = false := by
    have hw : loaded.stepLifecycle.word Reg.MEM_LOGBOOK_STAT_POST_RUNNING.addr = 0 := (hr hb).stepLifecycle.word
    unfold State.flag State.rd
    rw [hw]
    rfl
  clear_value loaded
  exact .setRamp <| .showDirty <| .showMarch <| .initLevels <| .foldl (fun _ _ => .wr) <| .foldl (fun _ _ h => .assignRings <|
    .showCanPath h) <| .foldl (fun _ _ => .wr) <| .deriveTable <| .stepLogbook (.stepLifecycle hs) hp

theorem stepTimes {cold elapsed} (h : Started c blank s) : Started c blank (State.stepTimes cold elapsed s) := by
  unfold State.stepTimes
  extract_lets on synced lost held
  have hs : Started c blank held := .ite (.holdBases <| .wr <| .orElse (.wr <| .wr <| .ite h <| .timesOn h) .gridLoss) <| .releaseBases <| .wr <|
    .orElse (.wr <| .wr <| .ite h <| .timesOn h) .gridLoss
  exact ⟨hs.core, hs.mem⟩

theorem stepLinks {i} (h : Started c blank s) : Started c blank (State.stepLinks i s) :=
  .usePair <| .foldl (fun _ _ => .startQuiet) <| .spreadEnable <| .stampStage <| .setStage <| .orElse (.writeHv <| .keep <|
    .setLocked <| .setLocked <| .setLocked h) .wr

theorem stepStation {trips} (h : Started c blank s) : Started c blank (State.stepStation trips s) := by
  unfold State.stepStation
  dsimp only
  split
  · exact .enter <| .showPair_ <| .showFaults <| .ite h <| .keep h
  · exact .when (.showPair_ <| .showFaults <| .ite h <| .keep h) .goTo

theorem fresh (s : State) (cold : Bool) : Started (freshCore s.pending false false) (cold = true) (s.fresh cold) := by
  have hs : Started s.startCore False s.cutWrites.stopCopies := (refl s).cutWrites.stopCopies
  have hp : s.cutWrites.stopCopies.pending = s.pending := congrArg StartCore.pending hs.core
  refine ⟨?_, fun hc => if_pos hc⟩
  unfold State.fresh State.startCore freshCore
  simp only [hp]
  cases cold <;> rfl

/-- A start ends in full operation, with the sessions as at reset and the waiting commands as they were (R44, R45). -/
theorem restart (s : State) (cause : Cause) (i : StartIn) :
    Started (freshCore s.pending i.role0 i.role1) (cause = .por) (s.restart cause i) := by
  unfold State.restart
  extract_lets cold early fresh banked caused warmed clocked marched linked stationed lockedOut
  have hm : Started (freshCore s.pending false false) (cause = .por) marched := by
    have hf : Started (freshCore s.pending false false) (cause = .por) fresh :=
      ⟨(State.Started.fresh s cold).core, fun hc => (State.Started.fresh s cold).mem (beq_iff_eq.mpr hc)⟩
    exact .when (.stepClocks <| .when (.stepTimes <| .inc <| .setWord <| .when hf fun h => .setWord <| .setWord <| .setWord h) fun h => .setWord <|
      .setWord h) .stepMarch
  have hr (hc : cause = .por) : Reads logbookWord 0 marched := by
    subst hc
    exact .when (.stepClocks <| .when (.stepTimes <| .inc (.setWord (.when (.freshLogbook s) fun h =>
      .setWord (.setWord (.setWord h (by decide)) (by decide)) (by decide)) (by decide)) (by decide)) fun h =>
        .setWord (.setWord h (by decide)) (by decide)) .stepMarch
  clear_value marched
  have hl : Started (freshCore s.pending i.role0 i.role1) (cause = .por) linked :=
    .stepLinks <| .stepConfig (.stepFactory <| .stepIdentity <| .stepImage hm) fun hc => (hr hc).stepImage.stepIdentity.stepFactory
  exact .keep <| .when (.stepStation hl) .goTo

section

variable {q : List Instr} {a b : Bool} {t : State} (h : Started (freshCore q a b) blank t)
include h

theorem running : t.running = true := by
  have hr : t.power.region = .full := congrArg StartCore.region h.core
  have hh : t.power.held = false := congrArg StartCore.held h.core
  have hs : t.clk.stopped = false := congrArg StartCore.stopped h.core
  simp [State.running, hr, hh, hs]

theorem stopping : t.power.stopping = none := congrArg StartCore.stopping h.core
theorem nextCold : t.power.nextCold = false := congrArg StartCore.nextCold h.core
theorem role0 : t.power.role0 = a := congrArg StartCore.role0 h.core
theorem role1 : t.power.role1 = b := congrArg StartCore.role1 h.core
theorem ses : t.ses = State.reset.ses := congrArg StartCore.ses h.core
theorem pending : t.pending = q := congrArg StartCore.pending h.core
theorem activate : t.sto.activate = false := congrArg StartCore.activate h.core

end

end State.Started

/-! ### When a start begins -/

section

variable {s : State} {i : StartIn}

theorem State.mayStart_clear (s : State) : ({ s with out := [] } : State).mayStart = s.mayStart := rfl

theorem State.passed_clear (s : State) (since leastNs : Nat) : ({ s with out := [] } : State).passed since leastNs = s.passed since leastNs := rfl

theorem State.mayStart_of (hr : s.power.region = .keepAlive) (hs : s.power.stopping = none) (hb : s.ilkBank = true) (ht : s.therm.shut = false) :
    s.mayStart = true := by
  simp [State.mayStart, hr, hs, hb, ht]

theorem exec_coldStart (hm : s.mayStart = true) (hc : s.power.nextCold = true) :
    exec (.coldStart i) s = .next ({ s with out := [] }.restart .por i) := by
  have hg : (({ s with out := [] } : State).mayStart && s.power.nextCold) = true := by rw [State.mayStart_clear, hm, hc]; rfl
  exact (always_eq s _).trans (congrArg Host.Outcome.next (if_pos hg))

theorem exec_keepaliveReturn (hm : s.mayStart = true) (hc : s.power.nextCold = false) :
    exec (.keepaliveReturn i) s = .next ({ s with out := [] }.restart (if s.power.ovLast then .supplyOv else .keepalive) i) := by
  have hg : (({ s with out := [] } : State).mayStart && !s.power.nextCold) = true := by rw [State.mayStart_clear, hm, hc]; rfl
  exact (always_eq s _).trans (congrArg Host.Outcome.next (if_pos hg))

theorem exec_resetRelease (hh : s.power.held = true) (hp : s.power.stopping = some (.pin, 0)) (hb : s.ilkBank = true) :
    exec (.resetRelease i) s = .next ({ s with out := [] }.restart .pin i) := by
  have hb' : ({ s with out := [] } : State).ilkBank = true := hb
  have hg : (s.power.held && s.power.stopping == some (.pin, 0) && ({ s with out := [] } : State).ilkBank) = true := by rw [hh, hp, hb']; rfl
  exact (always_eq s _).trans (congrArg Host.Outcome.next (if_pos hg))

theorem exec_watchdogRestart (hp : Powered s) (hs : s.power.stopping = none) :
    exec (.watchdogRestart i) s = .next ({ s with out := [] }.restart .watchdog i) := by
  obtain ⟨hr, hh⟩ := hp
  have hg : s.power.region = .full ∧ !s.power.held ∧ s.power.stopping.isNone := by simp [hr, hh, hs]
  exact (always_eq s _).trans (congrArg Host.Outcome.next (if_pos hg))

theorem exec_firmwareRestart (hr : s.running = true) (ha : s.sto.activate = true) (hs : s.power.stopping = none)
    (hp : s.passed s.sto.activateAt 10000000 = true) :
    exec (.firmwareRestart i) s = .next ({ s with out := [] }.restart .firmware i) := by
  show execFirmwareRestart i s = _
  unfold execFirmwareRestart
  rw [onRun_eq hr]
  simp only [State.passed_clear, ha, hs, hp, Option.isNone_none, Bool.and_self, if_true]

end

/-- Settles O3: each command begins `State.restart`, and what that settles is `State.Started.restart`. -/
theorem restartsClearWhatTheyMust : Obligations.RestartsClearWhatTheyMust := by
  refine ⟨?_, ?_, ?_, ?_, ?_⟩
  · intro s x hr hs hb ht hc
    have h := State.Started.restart { s with out := [] } .por x
    exact ⟨_, exec_coldStart (State.mayStart_of hr hs hb ht) hc, h.running, h.stopping, h.nextCold, h.role0, h.role1, h.ses, h.mem rfl, h.pending⟩
  · intro s x hr hs hb ht hc
    have h := State.Started.restart { s with out := [] } (if s.power.ovLast then .supplyOv else .keepalive) x
    exact ⟨_, exec_keepaliveReturn (State.mayStart_of hr hs hb ht) hc, h.running, h.stopping, h.nextCold, h.role0, h.role1, h.ses, h.pending⟩
  · intro s x hh hp hb
    have h := State.Started.restart { s with out := [] } .pin x
    exact ⟨_, exec_resetRelease hh hp hb, h.running, h.stopping, h.role0, h.role1, h.ses, h.pending⟩
  · intro s x hp hs
    have h := State.Started.restart { s with out := [] } .watchdog x
    exact ⟨_, exec_watchdogRestart hp hs, h.running, h.stopping, h.role0, h.role1, h.ses, h.pending⟩
  · intro s x hr ha hs hp
    have h := State.Started.restart { s with out := [] } .firmware x
    exact ⟨_, exec_firmwareRestart hr ha hs hp, h.running, h.stopping, h.activate, h.role0, h.role1, h.ses, h.pending⟩

end Sys2Proof.Machine
end

section
/-! SUPPORT. The gates turned off: VGD and the isolation link, and RST_N while stages run. -/

namespace Sys2Proof.Machine

open Sys2Proof

/-! ### Every gate off (R376, R388) -/

section

variable (s : State)

@[simp] theorem State.gatesOff_gates : s.gatesOff.mod.applied.gates = false := rfl

@[simp] theorem State.gatesOff_on : s.gatesOff.mod.gate.on = 0 := by
  show s.mod.gate.on &&& ~~~(BitVec.allOnes 7) = 0
  simp

/-- Of the pending turn-ons those of the seven channels are cancelled. -/
theorem State.gatesOff_due : s.gatesOff.mod.gate.due = s.mod.gate.due.filter (fun p => decide (7 ≤ p.1)) := by
  show s.mod.gate.due.filter (fun p => !((BitVec.allOnes 7).getLsbD p.1)) = _
  refine List.filter_congr fun p _ => ?_
  rw [BitVec.getLsbD_allOnes]
  by_cases h : p.1 < 7 <;> simp [h, not_le.mpr, not_lt.mp]

/-- A trip, and every gate off after it: the trip may be noted, and the gates are off. -/
theorem State.gatesOff_latchTrip (code : Nat) : ∃ f g, (s.latchTrip code).gatesOff
    = { s with drv := { s.drv with fresh := f }
               mod := { s.mod with applied := { s.mod.applied with gates := false, boot := false }, gate := g } } := by
  unfold State.latchTrip
  split
  · simp only
    split <;> exact ⟨_, _, rfl⟩
  · exact ⟨_, _, rfl⟩

/-- A trip does not latch in a drive stage that is not active, unless it is one that acts in OFF too (R391). -/
theorem State.latchTrip_idle {s : State} {code : Nat} (h : s.driveActive = false) (hc : tripInOff code = false) : s.latchTrip code = s := by
  unfold State.latchTrip
  rw [h, hc]
  simp

end

/-! ### VGD and the isolation link (R38, R39, R390) -/

/-- VGD_OK says nothing of the drive state. -/
theorem State.driveActive_vgdOk (s : State) (v : Nat) : (s.wr Reg.ID_SUPPLY_STAT_VGD_OK v).driveActive = s.driveActive := by
  unfold State.driveActive State.drive
  rw [State.rd_wr_elsewhere s v (by decide)]

theorem exec_vgdUndervoltage (s : State) :
    exec .vgdUndervoltage s = .next ((({ s with out := [] } : State).wr Reg.ID_SUPPLY_STAT_VGD_OK 0).latchTrip 0x0D31).gatesOff := rfl

theorem exec_hvLinkUp {s : State} (hr : s.running = true) (h1 : s.pllLocked 1 = true) (h3 : s.pllLocked 3 = true) : exec .hvLinkUp s
    = .next { s with out := [], drv := { s.drv with hvLink := true, hvRegs := s.regs.filter (fun p => hvHolds p.1) } } := by
  have hg : (({ s with out := [] } : State).pllLocked 1 && ({ s with out := [] } : State).pllLocked 3) = true := Bool.and_eq_true_iff.mpr ⟨h1, h3⟩
  exact (onRun_eq hr _).trans (congrArg Host.Outcome.next (if_pos hg))

/-- Settles O5: VGD_UNDERVOLTAGE by what a trip does, the rest by the command's meaning. -/
theorem gateSupply : Obligations.GateSupply := by
  refine ⟨?_, ?_, ?_, ?_⟩
  · intro s
    obtain ⟨f, g, e⟩ := State.gatesOff_latchTrip (({ s with out := [] } : State).wr Reg.ID_SUPPLY_STAT_VGD_OK 0) 0x0D31
    refine ⟨_, exec_vgdUndervoltage s, ?_, State.gatesOff_on _, ?_, ?_, fun ha => ?_, fun ha => ?_⟩
    · rw [e]
      rfl
    · rw [e]
      exact State.rd_wr_same { s with out := [] } 0 (by decide)
    · rw [e]
      exact ((Keeps.refl { s with out := [] } _).wr 0 (by simp) (by decide)).congr rfl
    · exact State.latchTrip_held ((State.driveActive_vgdOk { s with out := [] } 0).trans ha) 0x0D31
    · have hi := State.latchTrip_idle (code := 0x0D31) ((State.driveActive_vgdOk { s with out := [] } 0).trans ha) (by decide)
      exact (congrArg (fun t : State => t.gatesOff.drv.fresh) hi :)
  · intro s
    exact ⟨_, rfl, rfl, State.rd_wr_same _ _ (by decide), (Keeps.refl { s with out := [] } _).wr 1 (by simp) (by decide)⟩
  · exact fun s => ⟨_, rfl, rfl⟩
  · exact fun s hr h1 h3 => ⟨_, exec_hvLinkUp hr h1 h3, rfl⟩

/-! ### RST_N while stages run (R50) -/

theorem exec_resetAssert_running {s : State} (hr : s.running = true) (hs : s.power.stopping = none) : exec .resetAssert s
    = .next (({ s with out := [], power := { s.power with stopping := some (.pin, 5) } } : State).gatesOff.askTrigger) := by
  have hr' : ({ s with out := [] } : State).running = true := hr
  obtain ⟨hf, hh⟩ : s.power.region = .full ∧ s.power.held = false := by
    simp only [State.running, Bool.and_eq_true, decide_eq_true_eq, Bool.not_eq_true'] at hr
    exact hr.1
  show execResetAssert s = _
  unfold execResetAssert
  rw [always_eq]
  simp only [hf, hh, hs, hr', Option.isSome_none, ne_eq, not_true_eq_false, Bool.false_eq_true, or_self, if_false, if_true]

/-- RESET_ASSERT leaves no turn-on pending only where all that are pending are of the seven channels. -/
theorem due_nil_of_resetAssert {s t : State} (hr : s.running = true) (hs : s.power.stopping = none) (ht : exec .resetAssert s = .next t)
    (hd : t.mod.gate.due = []) : ∀ p ∈ s.mod.gate.due, p.1 < 7 := by
  rw [exec_resetAssert_running hr hs] at ht
  obtain rfl := Host.Outcome.next.inj ht
  have hf : s.mod.gate.due.filter (fun p => decide (7 ≤ p.1)) = [] := (State.gatesOff_due _).symm.trans hd
  intro p hp
  have := List.filter_eq_nil_iff.mp hf p hp
  simpa using this

/-- A running controller with a turn-on pending for a channel 7, which the drive stage does not have. -/
def strayTurnOn : State := { power := { region := .full }, mod := { gate := { due := [(7, 0)] } } }

/-- Refutes O2 in its last clause, the RST_N of a running controller: it speaks of every state, and `GateRun.due` may list a channel that is
none of the seven. The mask that turns every gate off cancels the pending turn-ons of the seven, so that of channel 7 stays. -/
theorem not_supplySequencesRunTheirSteps : ¬ Obligations.SupplySequencesRunTheirSteps := by
  rintro ⟨-, -, -, -, -, hreset⟩
  obtain ⟨t, ht, -, -, hd⟩ := hreset strayTurnOn (by decide) rfl
  exact absurd (due_nil_of_resetAssert (s := strayTurnOn) (by decide) rfl ht hd (7, 0) (List.mem_singleton_self _)) (by decide)

end Sys2Proof.Machine
end

section
/-! SUPPORT. Leaving Off, losing VIN and entering keep-alive, and where O1 stands: it holds if and only if no free word is odd. Whether a flash write
that a stop cuts short has been made is open (R132), and the model asks a free word, of which nothing can be proved; a life-cycle change that has been
made may clear `markDue`. -/

namespace Sys2Proof.Machine

open Sys2Proof

/-! ### What the safety island's action leaves -/

/-- What asserting or releasing STO leaves alone: everything but the island, the HV die's STO lines, its gates and the safety block. -/
structure IslandStep (s t : State) : Prop where
  power : t.power = s.power
  mem : t.mem = s.mem
  ses : t.ses = s.ses
  duo : t.duo = s.duo
  pending : t.pending = s.pending
  gates : s.mod.applied.gates = false → t.mod.applied.gates = false
  word : ∀ a < 0x0C000000, t.word a = s.word a

namespace IslandStep

variable {s t : State}

theorem refl (s : State) : IslandStep s s := ⟨rfl, rfl, rfl, rfl, rfl, id, fun _ _ => rfl⟩

theorem wr {f v} (h : IslandStep s t) (hf : 0x0C000000 ≤ f.addr) : IslandStep s (t.wr f v) :=
  ⟨h.power, h.mem, h.ses, h.duo, h.pending, h.gates, fun a ha => (State.word_wr_other t v (by omega)).trans (h.word a ha)⟩

theorem setIsl {i} (h : IslandStep s t) : IslandStep s { t with isl := i } := ⟨h.power, h.mem, h.ses, h.duo, h.pending, h.gates, h.word⟩

theorem setSto {b} (h : IslandStep s t) : IslandStep s { t with drv := { t.drv with sto := b } } :=
  ⟨h.power, h.mem, h.ses, h.duo, h.pending, h.gates, h.word⟩

theorem gateEnable (h : IslandStep s t) : IslandStep s t.gateEnable := by
  unfold State.gateEnable
  split
  · exact h
  · exact ⟨h.power, h.mem, h.ses, h.duo, h.pending, fun _ => rfl, h.word⟩

theorem ite {p : Prop} [Decidable p] {a b : State} (ha : IslandStep s a) (hb : IslandStep s b) : IslandStep s (if p then a else b) := by
  split <;> assumption

theorem foldl {α : Type} {f : State → α → State} {l : List α} (hf : ∀ u x, IslandStep s u → IslandStep s (f u x)) {t : State}
    (h : IslandStep s t) : IslandStep s (l.foldl f t) :=
  List.foldlRecOn (motive := IslandStep s) _ _ h fun u hu x _ => hf u x hu

theorem driveOut {j} (h : IslandStep s t) : IslandStep s (t.driveOut j) :=
  .ite h <| .setIsl <| .wr h <| Nat.le_trans (by decide) (Nat.le_add_right _ _)

theorem showPair {i} (h : IslandStep s t) : IslandStep s (t.showPair i) :=
  .wr (.wr (.wr h <| Nat.le_trans (by decide) (Nat.le_add_right _ _)) <| Nat.le_trans (by decide) (Nat.le_add_right _ _)) (by decide)

theorem showIsland (h : IslandStep s t) : IslandStep s t.showIsland :=
  .wr (.wr (.wr (.foldl (fun _ _ => .showPair) h) (by decide)) (by decide)) (by decide)

theorem islandAct (s : State) (ending : Bool) : IslandStep s (State.islandAct ending s) := by
  have hc : IslandStep s (if s.stoDemand || s.locked then { s with isl := { s.isl with ss1 := none } } else s) := .ite (.setIsl (.refl s)) (.refl s)
  exact .showIsland <| .foldl (fun _ _ => .driveOut) <| .wr (.wr (.ite hc (.gateEnable (.setSto hc))) (by decide)) (by decide)

end IslandStep

/-! ### A sequence that stops the controller, where no write is made -/

/-- No free word is odd: of the writes that are cut short none that may have been made is. -/
def FreeWordsEven : Prop := ∀ n, (Config.freeWord n).getLsbD 0 = false

/-- A write that was not made may take a free word, and spoils the record that it was writing. -/
theorem State.cutWrite_unmade (he : FreeWordsEven) (t : State) (b : BusyCmd) : ∃ f n, t.cutWrite b = { t with flash := f, free := n } := by
  unfold State.cutWrite
  split
  · exact ⟨_, _, rfl⟩
  · exact ⟨_, _, if_neg (Bool.eq_false_iff.mp (he t.free))⟩
  · exact ⟨_, _, if_neg (Bool.eq_false_iff.mp (he t.free))⟩
  · exact ⟨_, _, rfl⟩

theorem State.cutWrites_unmade (he : FreeWordsEven) (s : State) : ∃ f n, s.cutWrites = { s with flash := f, free := n } := by
  have hops (l : List BusyCmd) (t : State) (ht : ∃ f n, t = { s with flash := f, free := n }) :
      ∃ f n, l.foldl State.cutWrite t = { s with flash := f, free := n } := by
    refine List.foldlRecOn (motive := fun t : State => ∃ f n, t = { s with flash := f, free := n }) l _ ht fun t ht b _ => ?_
    obtain ⟨f, n, rfl⟩ := ht
    obtain ⟨f', n', e⟩ := State.cutWrite_unmade he { s with flash := f, free := n } b
    exact ⟨f', n', e⟩
  exact List.foldlRecOn (motive := fun t : State => ∃ f n, t = { s with flash := f, free := n }) _ _ ⟨_, _, rfl⟩ fun t ht i _ => hops _ t ht

/-- The count of keep-alive entries. -/
def keepaliveWord : Nat := 0x410

/-- What the stopping of the controller leaves alone. -/
structure StopStep (s t : State) : Prop where
  power : t.power = s.power
  mem : t.mem = s.mem
  pending : t.pending = s.pending
  count : State.Reads keepaliveWord (s.word keepaliveWord) t

namespace StopStep

variable {s t : State}

theorem wr {f v} (h : StopStep s t) (hf : keepaliveWord ≠ f.addr) : StopStep s (t.wr f v) := ⟨h.power, h.mem, h.pending, h.count.wr hf⟩

theorem setWord {a w} (h : StopStep s t) (ha : keepaliveWord ≠ a) : StopStep s (t.setWord a w) :=
  ⟨h.power, h.mem, h.pending, h.count.setWord ha⟩

theorem lockMon (s : State) : StopStep s s.lockMon := by
  have hr : State.Reads keepaliveWord (s.word keepaliveWord) s := ⟨rfl⟩
  unfold State.lockMon
  split
  · exact ⟨rfl, rfl, rfl, .event (.wr (.wr hr (by decide)) (by decide)) (by decide)⟩
  · exact ⟨rfl, rfl, rfl, hr⟩

theorem cutWrites (he : FreeWordsEven) (h : StopStep s t) : StopStep s t.cutWrites := by
  obtain ⟨f, n, e⟩ := State.cutWrites_unmade he t
  rw [e]
  exact ⟨h.power, h.mem, h.pending, h.count.keep⟩

theorem stopCopies (h : StopStep s t) : StopStep s t.stopCopies :=
  ⟨h.power, h.mem, h.pending, .foldl (fun u i hi hu => .wr hu (by revert i; decide)) h.count⟩

theorem dropClaim (h : StopStep s t) : StopStep s t.dropClaim := by
  unfold State.dropClaim State.setGrant State.gateEnable
  split <;> exact ⟨h.power, h.mem, h.pending, h.count.keep⟩

theorem gatesOff (h : StopStep s t) : StopStep s t.gatesOff := ⟨h.power, h.mem, h.pending, h.count.keep⟩

theorem stopAll (he : FreeWordsEven) (s : State) : StopStep s s.stopAll := by
  have h := ((lockMon s).cutWrites he).stopCopies.dropClaim
  exact .gatesOff <| .setWord (.wr ⟨h.power, h.mem, h.pending, h.count.keep⟩ (by decide)) (by decide)

end StopStep

theorem State.dropClaim_own (s : State) : s.dropClaim.duo.own = false := by
  unfold State.dropClaim State.setGrant State.gateEnable
  split <;> rfl

/-- Keep-alive begins: HOLDOVER of GRID_TIME, the count, and the region (R46). -/
def State.keepAlive (s : State) : State :=
  let u := (s.wr (Reg.TIME_BASE_HOLDOVER 0) 1).inc Reg.ID_KEEPALIVE_CNT_COUNT
  State.islandAct false { u with power := { u.power with region := .keepAlive, stopping := none, held := false } }

theorem exec_keepaliveEntry {s : State} {n : Nat} (hs : s.power.stopping = some (.brownout, n) ∨ s.power.stopping = some (.overvoltage, n)) :
    exec .keepaliveEntry s = .next (({ s with out := [] } : State).stopAll.keepAlive) := by
  have hg : s.power.stopping.any (fun p => p.1 == .brownout || p.1 == .overvoltage) = true := by
    rcases hs with hs | hs <;> (rw [hs]; rfl)
  exact (always_eq s _).trans (congrArg Host.Outcome.next (if_pos hg))

theorem State.keepAlive_step (s : State) : s.keepAlive.power = { s.power with region := .keepAlive, stopping := none, held := false }
    ∧ s.keepAlive.mem = s.mem ∧ s.keepAlive.ses = s.ses ∧ s.keepAlive.duo = s.duo ∧ s.keepAlive.pending = s.pending
    ∧ (s.mod.applied.gates = false → s.keepAlive.mod.applied.gates = false)
    ∧ s.keepAlive.rd Reg.ID_KEEPALIVE_CNT_COUNT = s.oneMore Reg.ID_KEEPALIVE_CNT_COUNT := by
  unfold State.keepAlive
  extract_lets u
  have hi := IslandStep.islandAct { u with power := { u.power with region := .keepAlive, stopping := none, held := false } } false
  have hw : (State.islandAct false { u with power := { u.power with region := .keepAlive, stopping := none, held := false } }).rd
      Reg.ID_KEEPALIVE_CNT_COUNT = u.rd Reg.ID_KEEPALIVE_CNT_COUNT := by
    unfold State.rd
    rw [hi.word _ (by decide)]
    rfl
  refine ⟨hi.power, hi.mem, hi.ses, hi.duo, hi.pending, hi.gates, hw.trans ?_⟩
  refine (State.rd_inc_same _ (by decide)).trans (State.oneMore_congr ?_)
  exact State.rd_wr_elsewhere s 1 (by decide)

/-- What stopping the controller ends. -/
theorem State.stopAll_ends (s : State) :
    s.stopAll.ses = State.reset.ses ∧ s.stopAll.mod.applied.gates = false ∧ s.stopAll.duo.own = false :=
  ⟨rfl, State.gatesOff_gates _, State.dropClaim_own _⟩

/-! ### The statement O1 -/

theorem exec_vinRiseKeepalive {s : State} (hr : s.power.region = .off) : exec .vinRiseKeepalive s
    = .next (State.wr { s with out := [], power := { s.power with region := .keepAlive, nextCold := true } } Reg.CLK_STAT_XIN_OK 1) := by
  show execVinRiseKeepalive s = _
  unfold execVinRiseKeepalive
  rw [always_eq]
  simp only [hr, ne_eq, not_true_eq_false, if_false]

theorem exec_vinOff {s : State} (hr : s.power.region ≠ .off) : exec .vinOff s = .next ({ s with out := [] } : State).vinOff := by
  show execVinOff s = _
  unfold execVinOff
  rw [always_eq]
  simp only [hr, if_false]

/-- Without VIN every word but the safety die's and ID_SUPPLY_STAT reads as at reset (R32). -/
theorem State.word_vinOff (s : State) {a : Nat} (h4 : a ≠ 0x404) (ha : a < 0x0C000000 ∨ 0x0D000000 ≤ a) : s.vinOff.word a = resetWord a := by
  have hk : within a 0x0C000000 0x0D000000 = false := by
    simp only [within, decide_eq_false_iff_not]
    omega
  refine (State.word_setWord_other _ _ h4).trans ?_
  exact State.word_filter_dropped (keep := fun p => within p.1 0x0C000000 0x0D000000) (fun _ => hk) rfl

theorem State.pending_vinOff (s : State) : s.vinOff.pending = s.pending := by
  have hp : s.cutWrites.pending = s.pending := congrArg StartCore.pending (State.Started.refl s).cutWrites.core
  unfold State.vinOff
  extract_lets u
  have hu : u.pending = s.pending := hp
  clear_value u
  show (if u.power.markDue then u.takeFree else (0, u)).2.pending = s.pending
  split <;> exact hu

/-- KEEPALIVE_ENTRY where no write is made. -/
theorem keepaliveEntry_halts (he : FreeWordsEven) {s : State} {n : Nat}
    (hs : s.power.stopping = some (.brownout, n) ∨ s.power.stopping = some (.overvoltage, n)) :
    ∃ t, exec .keepaliveEntry s = .next t
      ∧ t.power = { s.power with region := .keepAlive, stopping := none, held := false } ∧ t.mem = s.mem ∧ t.pending = s.pending
      ∧ t.ses = State.reset.ses ∧ t.mod.applied.gates = false ∧ t.duo.own = false
      ∧ t.rd Reg.ID_KEEPALIVE_CNT_COUNT = s.oneMore Reg.ID_KEEPALIVE_CNT_COUNT := by
  have ha := StopStep.stopAll he { s with out := [] }
  obtain ⟨hses, hg, ho⟩ := State.stopAll_ends { s with out := [] }
  refine ⟨_, exec_keepaliveEntry hs, ?_⟩
  generalize ({ s with out := [] } : State).stopAll = u at ha hses hg ho
  obtain ⟨kp, km, ks, kd, kq, kg, kc⟩ := State.keepAlive_step u
  refine ⟨?_, km.trans ha.mem, kq.trans ha.pending, ks.trans hses, kg hg, ?_, kc.trans (State.oneMore_congr ?_)⟩
  · rw [kp, ha.power]
  · rw [kd, ho]
  · unfold State.rd
    rw [show u.word Reg.ID_KEEPALIVE_CNT_COUNT.addr = s.word Reg.ID_KEEPALIVE_CNT_COUNT.addr from ha.count.word]

/-- Keep-alive is entered while a life-cycle change is being written, its wipe's flash marker is due, and `n` free values have been taken. -/
def cutTransition (n : Nat) : State :=
  { power := { region := .full, stopping := some (.brownout, 0), markDue := true }
    ses := (Vector.replicate 4 {}).set 0 { busy := some ⟨⟨0, 0, 0, 0, 0, 0⟩, .lifecycle 1 [] false, 0, false⟩ }
    free := n }

/-- Where the next free word is odd, the change has been made, and with its fresh copy of the secure region the marker is no longer due. -/
theorem markDue_cutTransition {n : Nat} (hn : (Config.freeWord n).getLsbD 0 = true) : (cutTransition n).cutWrites.power.markDue = false := by
  have hc : (cutTransition n).cutWrites = (cutTransition n).cutWrite ⟨⟨0, 0, 0, 0, 0, 0⟩, .lifecycle 1 [] false, 0, false⟩ := rfl
  rw [hc]
  unfold State.cutWrite
  simp only
  have hw : (cutTransition n).takeFree.1.getLsbD 0 = true := hn
  rw [if_pos hw]
  rfl

theorem State.power_dropClaim (s : State) : s.dropClaim.power = s.power := by
  unfold State.dropClaim State.setGrant State.gateEnable
  split <;> rfl

theorem keepalive_markDue (n : Nat) (t : State) (ht : exec .keepaliveEntry (cutTransition n) = .next t) :
    t.power.markDue = (cutTransition n).cutWrites.power.markDue := by
  rw [exec_keepaliveEntry (n := 0) (.inl rfl)] at ht
  obtain rfl := Host.Outcome.next.inj ht
  rw [(State.keepAlive_step _).1]
  have hl : (cutTransition n).lockMon = cutTransition n := by
    have hf : (cutTransition n).flag Reg.CMD_MON_STAT_UNLOCKED = false :=
      show State.reset.flag Reg.CMD_MON_STAT_UNLOCKED = false by decide
    unfold State.lockMon
    rw [hf]
    rfl
  show (State.dropClaim _).power.markDue = _
  rw [State.power_dropClaim]
  show (State.cutWrites (State.lockMon (cutTransition n))).power.markDue = _
  rw [hl]

/-- O1 is left open by the model: it holds if and only if no free word is odd, and of the free words nothing can be proved. Its first two clauses hold
whatever they are; KEEPALIVE_ENTRY keeps `markDue`, as its clause says, unless a life-cycle change that it cuts short has been made. -/
theorem supplyRegionsFollowTheRails_iff : Obligations.SupplyRegionsFollowTheRails ↔ FreeWordsEven := by
  constructor
  · rintro ⟨-, -, hentry⟩ n
    obtain ⟨t, ht, hp, -⟩ := hentry (cutTransition n) 0 (.inl rfl)
    have hm : (cutTransition n).cutWrites.power.markDue = true := by
      rw [← keepalive_markDue n t ht, hp]
      rfl
    by_contra hn
    rw [markDue_cutTransition (Bool.of_not_eq_false hn)] at hm
    exact Bool.false_ne_true hm
  · intro he
    refine ⟨?_, ?_, fun s n hs => keepaliveEntry_halts he hs⟩
    · intro s hr
      exact ⟨_, exec_vinRiseKeepalive hr, rfl, State.rd_wr_same _ _ (by decide), (Keeps.refl { s with out := [] } _).wr 1 (by simp) (by decide)⟩
    · intro s hr
      exact ⟨_, exec_vinOff hr, rfl, rfl, rfl, State.pending_vinOff _, fun a h4 ha => State.word_vinOff _ h4 ha⟩

end Sys2Proof.Machine
end

section
/-! SUPPORT. The clocks' operations: what the lock pin, LOCKED, a ramp generator and the lane spread show in the registers, and what they leave
alone. -/

namespace Sys2Proof.Machine

open Sys2Proof

/-! ### Fields and their bits -/

theorem State.rd_lt (s : State) (f : Fld) : s.rd f < 2 ^ (f.msb - f.lsb + 1) := BitVec.isLt _

/-- A one-bit field is 0 or 1. -/
theorem State.rd_bit (s : State) {f : Fld} (h : f.msb = f.lsb) : s.rd f = 0 ∨ s.rd f = 1 := by
  have := s.rd_lt f
  rw [h, Nat.sub_self] at this
  omega

theorem State.flag_iff (s : State) {f : Fld} (h : f.msb = f.lsb) : s.flag f = true ↔ s.rd f = 1 := by
  unfold State.flag
  rcases s.rd_bit h with e | e <;> simp [e]

theorem State.rd_wrB_same (s : State) (b : Bool) {f : Fld} (h : f.within) : (s.wrB f b).rd f = if b then 1 else 0 := by
  have hp : 1 < 2 ^ (f.msb - f.lsb + 1) := Nat.one_lt_two_pow (by omega)
  refine (State.rd_wr_same s _ h).trans (Nat.mod_eq_of_lt ?_)
  split <;> omega

theorem State.pllLocked_congr {s t : State} (h : t.rd Reg.CLK_STAT_LOCKED = s.rd Reg.CLK_STAT_LOCKED) (n : Nat) : t.pllLocked n = s.pllLocked n := by
  unfold State.pllLocked
  rw [h]

/-- Of the four bits of LOCKED the one that is set takes its value. -/
theorem State.pllLocked_setLocked (s : State) (p : Pll) (b : Bool) (n : Nat) :
    (s.setLocked p b).pllLocked n = if n = p.index then b else s.pllLocked n := by
  have hbits : ∀ v < 16, ∀ i < 4, ∀ b, withBit v i b < 16 ∧ ∀ n < 4, (withBit v i b / 2 ^ n % 2 == 1) = if n = i then b else (v / 2 ^ n % 2 == 1) := by
    decide
  have hv : s.rd Reg.CLK_STAT_LOCKED < 16 := s.rd_lt _
  have hi : p.index < 4 := by cases p <;> decide
  obtain ⟨hlt, hn⟩ := hbits _ hv _ hi b
  have hrd : (s.setLocked p b).rd Reg.CLK_STAT_LOCKED = withBit (s.rd Reg.CLK_STAT_LOCKED) p.index b :=
    (State.rd_wr_same s _ (by decide)).trans (Nat.mod_eq_of_lt hlt)
  unfold State.pllLocked
  rw [hrd]
  by_cases h4 : n < 4
  · exact hn n h4
  · have hp : 16 ≤ 2 ^ n := Nat.pow_le_pow_right (by decide : 0 < 2) (by omega : 4 ≤ n)
    rw [Nat.div_eq_of_lt (by omega), Nat.div_eq_of_lt (by omega), if_neg (by omega)]

/-! ### The lock pin (R63, R89) -/

/-- The fields that a lock pin's voltage may change. -/
def pinFlds (p : Pll) : List Fld :=
  match p with
  | .sys => [Reg.CLK_LKF_LKF_SYS_MV, Reg.CLK_STAT_LKF_OPEN]
  | .lane => [Reg.CLK_LKF_LKF_LANE_MV, Reg.CLK_STAT_LKF_OPEN]
  | _ => [Reg.CLK_STAT_LKF_OPEN]

theorem Keeps.readPin (s : State) (p : Pll) (mv : Nat) : Keeps s (s.readPin p mv) (pinFlds p) := by
  cases p
  case sys | lane => exact ((Keeps.refl s _).wr mv (by decide) (by decide)).wrB _ (by decide) (by decide)
  case net | hv => exact (Keeps.refl s _).wrB _ (by decide) (by decide)

theorem State.readPin_upd (s : State) (p : Pll) (mv : Nat) : ∃ l, s.readPin p mv = { s with regs := l } := by
  cases p <;> exact ⟨_, rfl⟩

/-- LKF_SYS_MV and LKF_LANE_MV report the pin just read. -/
theorem State.rd_lkf_readPin (s : State) (mv : BitVec 16) : (s.readPin .sys mv.toNat).rd Reg.CLK_LKF_LKF_SYS_MV = mv.toNat
    ∧ (s.readPin .lane mv.toNat).rd Reg.CLK_LKF_LKF_LANE_MV = mv.toNat := by
  have hm : mv.toNat % 2 ^ 16 = mv.toNat := Nat.mod_eq_of_lt mv.isLt
  exact ⟨(State.rd_wr_apart _ _ (by decide) (by decide) (by decide)).trans ((State.rd_wr_same s _ (by decide)).trans hm),
    (State.rd_wr_apart _ _ (by decide) (by decide) (by decide)).trans ((State.rd_wr_same s _ (by decide)).trans hm)⟩

/-! ### A ramp generator (R88, R91, R97) -/

/-- The fields in which a generator shows itself. -/
def rampFlds (g : Fin 2) : List Fld :=
  if g = 0 then [Reg.CLK_RAMP_STAT_CUR_OFFSET 0, Reg.CLK_STAT_RAMP_SYS, Reg.CLK_SYS_NOW_OFFSET_PPM]
  else [Reg.CLK_RAMP_STAT_CUR_OFFSET 1, Reg.CLK_STAT_RAMP_LANE]

/-- The clocks' state with a generator replaced. -/
def Clock.setRamp (c : Clock) (g : Fin 2) (r : RampGen) : Clock := if g = 0 then { c with rampSys := r } else { c with rampLane := r }

theorem State.setRamp_upd (s : State) (g : Fin 2) (r : RampGen) : ∃ l, s.setRamp g r = { s with regs := l, clk := s.clk.setRamp g r } := by
  match g with
  | 0 => exact ⟨_, rfl⟩
  | 1 => exact ⟨_, rfl⟩

@[simp] theorem State.setRamp_clk (s : State) (g : Fin 2) (r : RampGen) : (s.setRamp g r).clk = s.clk.setRamp g r := by
  obtain ⟨l, e⟩ := State.setRamp_upd s g r
  rw [e]

theorem State.ramp_setRamp_same (s : State) (g : Fin 2) (r : RampGen) : (s.setRamp g r).ramp g = r := by
  match g with
  | 0 => rfl
  | 1 => rfl

theorem State.ramp_setRamp_other (s : State) {g k : Fin 2} (r : RampGen) (h : k ≠ g) : (s.setRamp g r).ramp k = s.ramp k := by
  match g, k with
  | 0, 1 => rfl
  | 1, 0 => rfl
  | 0, 0 | 1, 1 => exact absurd rfl h

theorem Keeps.setRamp {s t : State} {fs : List Fld} (h : Keeps s t fs) (g : Fin 2) (r : RampGen) (hf : ∀ f ∈ rampFlds g, f ∈ fs) :
    Keeps s (t.setRamp g r) fs := by
  match g with
  | 0 =>
    have h0 : Keeps s { t with clk := { t.clk with rampSys := r } } fs := h.congr rfl
    exact ((h0.wrS _ (hf _ (by decide)) (by decide)).wrB _ (hf _ (by decide)) (by decide)).wrS _ (hf _ (by decide)) (by decide)
  | 1 =>
    have h0 : Keeps s { t with clk := { t.clk with rampLane := r } } fs := h.congr rfl
    exact (h0.wrS _ (hf _ (by decide)) (by decide)).wrB _ (hf _ (by decide)) (by decide)

/-- Whether the generator runs, as CLK_STAT shows it. -/
theorem State.rd_rampSys_setRamp (s : State) (r : RampGen) : (s.setRamp 0 r).rd Reg.CLK_STAT_RAMP_SYS = if r.running then 1 else 0 :=
  (State.rd_wr_apart _ _ (by decide) (by decide) (by decide)).trans (State.rd_wrB_same _ _ (by decide))

theorem State.rd_rampLane_setRamp (s : State) (r : RampGen) : (s.setRamp 1 r).rd Reg.CLK_STAT_RAMP_LANE
    = if r.running || s.clk.spread != .off then 1 else 0 := State.rd_wrB_same _ _ (by decide)

/-! ### The lane spread (R74) -/

theorem Keeps.spreadEnable (s : State) : Keeps s s.spreadEnable (rampFlds 1) := by
  unfold State.spreadEnable
  split
  · exact Keeps.setRamp (Keeps.of_regs rfl _) 1 _ fun _ h => h
  · exact Keeps.refl s _

theorem State.spreadEnable_upd (s : State) : ∃ l, s.spreadEnable = { s with regs := l, clk := if s.rd Reg.CLK_LANE_SPREAD_EN = 1 ∧ s.clk.spread = .off
    then { s.clk with spread := .falling, rampLane := RampGen.at 0 } else s.clk } := by
  unfold State.spreadEnable
  simp only [State.flag_iff s (f := Reg.CLK_LANE_SPREAD_EN) rfl]
  split
  · exact ⟨_, rfl⟩
  · exact ⟨_, rfl⟩

end Sys2Proof.Machine
end

section
/-! SUPPORT. PLL_LOCK and PLL_UNLOCK: when a lock is declared, what the loss of one brings about, and what that leaves alone. The idea: the loss of
PLL_LANE takes fifty links, each of which may start a training; `LinkStep` says once what all of that leaves. -/

namespace Sys2Proof.Machine

open Sys2Proof

/-! ### PLL_LOCK (R62) -/

theorem pinLocks_iff {p : Pll} (h : p = .sys ∨ p = .lane) (mv : Nat) : pinLocks p mv = true ↔ 700 ≤ mv ∧ mv ≤ 1400 := by
  rcases h with rfl | rfl <;> exact decide_eq_true_iff

/-- PLL_SYS is declared locked: LOCKED, the instant of the lock, and after a step change the new target (R62, R66). -/
def State.sysLocks (s : State) : State :=
  let u := { s.setLocked .sys true with clk := { s.clk with lockAt := (s.setLocked .sys true).timeOf 1 } }
  if s.clk.stepRun then u.setRamp 0 { s.clk.rampSys with milli := u.rdS Reg.CLK_SYS_TARGET_OFFSET_PPM * 1000 } else u

/-- What the declaration of a PLL's lock brings about (R62). -/
def State.pllLocks (s : State) : Pll → State
  | .sys => s.sysLocks
  | .lane => (s.setLocked .lane true).spreadEnable
  | p => s.setLocked p true

section

variable {s : State} (hp : Powered s) (p : Pll) (mv : BitVec 16)
include hp

theorem exec_pllLock : exec (.pllLock p mv) s = .next (if pinLocks p mv.toNat then (({ s with out := [] } : State).readPin p mv.toNat).pllLocks p
    else ({ s with out := [] } : State).readPin p mv.toNat) := by
  show execPllLock p mv s = _
  unfold execPllLock
  rw [onPower_eq hp]
  congr 1
  cases hl : pinLocks p mv.toNat with
  | false => rfl
  | true =>
    cases p with
    | sys => simp only [Bool.not_true, Bool.false_eq_true, if_false, if_true, true_and]; rfl
    | lane | net | hv => rfl

end

/-! ### What a link's loss of lock leaves (R193, R200, R214) -/

/-- What links that lose lock leave of the clocks and the faults, and that none of them locks. -/
structure LinkStep (s t : State) : Prop where
  clkStat : t.word Reg.CLK_STAT_LOCKED.addr = s.word Reg.CLK_STAT_LOCKED.addr
  spread : t.clk.spread = s.clk.spread
  flt : t.flt = s.flt
  down : ∀ j : Nat, s.rd (Reg.LANE_STAT_LOCKED j) = 0 → t.rd (Reg.LANE_STAT_LOCKED j) = 0

theorem lockedFld_within (l : Nat) : (Reg.LANE_STAT_LOCKED l).within := ⟨Nat.le_refl 31, Nat.lt_succ_self 31⟩

namespace LinkStep

variable {s t u : State}

theorem refl (s : State) : LinkStep s s := ⟨rfl, rfl, rfl, fun _ h => h⟩

theorem trans (h : LinkStep s t) (h' : LinkStep t u) : LinkStep s u :=
  ⟨h'.clkStat.trans h.clkStat, h'.spread.trans h.spread, h'.flt.trans h.flt, fun j hj => h'.down j (h.down j hj)⟩

/-- A field is written that is no link's LOCKED. -/
theorem wr {f : Fld} {v : Nat} (h : LinkStep s t) (hf : f.within) (ha : f.addr ≠ 0x01000000) (hd : ∀ j, f.apart (Reg.LANE_STAT_LOCKED j)) :
    LinkStep s (t.wr f v) :=
  ⟨(State.word_wr_other t v ha.symm).trans h.clkStat, h.spread, h.flt,
    fun j hj => (State.rd_wr_apart t v hf (lockedFld_within j) (hd j)).trans (h.down j hj)⟩

theorem unlock {l : Nat} (h : LinkStep s t) : LinkStep s (t.wr (Reg.LANE_STAT_LOCKED l) 0) := by
  refine ⟨(State.word_wr_other t 0 ?_).trans h.clkStat, h.spread, h.flt, fun j hj => ?_⟩
  · show 0x01000000 ≠ 0x04001010 + 0x40 * l
    omega
  · by_cases hjl : j = l
    · subst hjl
      exact (State.rd_wr_same t 0 (lockedFld_within j)).trans (Nat.zero_mod _)
    · refine (State.rd_wr_elsewhere t 0 ?_).trans (h.down j hj)
      show 0x04001010 + 0x40 * j ≠ 0x04001010 + 0x40 * l
      omega

/-- Bits below bit 31 of a word of the routes' and links' block. -/
theorem wrLow {a m l v : Nat} (h : LinkStep s t) (hl : l ≤ m) (hm : m < 31) (ha : 0x04000000 ≤ a) : LinkStep s (t.wr ⟨a, m, l⟩ v) :=
  h.wr ⟨hl, Nat.lt_succ_of_lt hm⟩ (by show a ≠ 0x01000000; omega) fun _ => .inr (.inl hm)

/-- A word that is no link's status. -/
theorem wrOther {a m l v : Nat} (h : LinkStep s t) (hl : l ≤ m) (hm : m < 32) (ha : a ≠ 0x01000000) (hd : ∀ j, a ≠ 0x04001010 + 0x40 * j) :
    LinkStep s (t.wr ⟨a, m, l⟩ v) := h.wr ⟨hl, hm⟩ ha fun j => .inl (hd j)

theorem keep {l : Links} {c : Option Int} {n : Nat} {x : List Fld} (h : LinkStep s t) :
    LinkStep s { t with link := l, clk := { t.clk with laneBack := c }, free := n, seen := x } := ⟨h.clkStat, h.spread, h.flt, h.down⟩

theorem setRoute {n : Nat} {r : RouteRun} (h : LinkStep s t) : LinkStep s (t.setRoute n r) := by
  unfold State.setRoute
  split
  · exact h.keep
  · exact h

theorem countLoss {l : Nat} (h : LinkStep s t) : LinkStep s (t.inc (Reg.LANE_CNT_LOCK_LOSS l)) :=
  h.wrOther (by decide) (by decide) (by omega) fun j => by omega

theorem seeLoss {l : Nat} (h : LinkStep s t) : LinkStep s (t.see (Reg.LANE_STAT_LOL_SEEN l)) :=
  (h.wrLow (by decide) (by decide) (a := 0x04001010 + 0x40 * l) (by omega)).keep

theorem powerDown {l : Nat} (h : LinkStep s t) : LinkStep s (t.powerDown l) := by
  have ha : 0x04000000 ≤ 0x04001010 + 0x40 * l := by omega
  have hs : LinkStep s (if t.flag (Reg.LANE_STAT_LOCKED l) then (t.see (Reg.LANE_STAT_LOL_SEEN l)).inc (Reg.LANE_CNT_LOCK_LOSS l) else t) := by
    split
    · exact h.seeLoss.countLoss
    · exact h
  exact (((hs.unlock.wrLow (by decide) (by decide) ha).wrLow (by decide) (by decide) ha).wrLow (by decide) (by decide) ha).wrLow (by decide)
    (by decide) ha |>.wrLow (by decide) (by decide) ha

theorem useEnds {n : Nat} (h : LinkStep s t) : LinkStep s (t.useEnds n) := by
  refine List.foldlRecOn (motive := LinkStep s) _ _ h fun u hu ret _ => ?_
  split
  · exact hu.wrLow (by decide) (by decide) (Nat.le_trans (by decide) (Nat.le_add_right _ _))
  · exact hu.powerDown

variable {n : Nat} (hn : n < 24)
include hn

theorem noReach (h : LinkStep s t) : LinkStep s (t.noReach n) := by
  have ha {m l v : Nat} {u : State} (hl : l ≤ m) (hm : m < 32) (hu : LinkStep s u) : LinkStep s (u.wr ⟨0x04000600 + 0x10 * n, m, l⟩ v) :=
    hu.wrOther hl hm (by omega) fun j => by omega
  unfold State.noReach
  split
  · exact h
  · exact (ha (by decide) (by decide) <| ha (by decide) (by decide) <| ha (by decide) (by decide) h).wrOther (by decide) (by decide) (by omega)
      fun j => by omega

theorem startQuiet (h : LinkStep s t) : LinkStep s (t.startQuiet n) := by
  unfold State.startQuiet
  split
  · exact h
  · dsimp only
    have hs := ((h.setRoute (n := n) (r := { training := some false, turn := (t.route n).turn })).useEnds (n := n)).wrOther
      (a := 0x04000400 + 0x10 * n) (m := 31) (l := 29) (v := 2) (by decide) (by decide) (by omega) (fun j => by omega)
    unfold State.endStep1
    dsimp only
    split
    · exact (hs.noReach hn).setRoute
    · exact hs.noReach hn

omit hn

theorem startLive {n : Nat} (h : LinkStep s t) : LinkStep s (t.startLive n) := by
  unfold State.startLive
  split
  · exact h
  · exact h.setRoute.useEnds

/-- The source of PLL_LANE's reference is written. -/
theorem wrLaneRef {v : Nat} (h : LinkStep s t) : LinkStep s (t.wr Reg.CLK_LANE_REF_SOURCE v) :=
  h.wrOther (Nat.zero_le 1) (by decide) (by decide) fun j => by omega

theorem leaveLaneRef (h : LinkStep s t) : LinkStep s t.leaveLaneRef := wrLaneRef h.keep

/-- A link loses lock: it is not locked then. -/
theorem lockLost {l : Nat} (h : LinkStep s t) : LinkStep s (t.lockLost l) ∧ (t.lockLost l).rd (Reg.LANE_STAT_LOCKED l) = 0 := by
  have hl : 0x04000000 ≤ 0x04001010 + 0x40 * l := by omega
  unfold State.lockLost
  split
  case isTrue hf =>
    refine ⟨h, ?_⟩
    rcases t.rd_bit (f := Reg.LANE_STAT_LOCKED l) rfl with e | e
    · exact e
    · simp [State.flag, e] at hf
  case isFalse =>
    extract_lets u v n r src other
    have hw : LinkStep t (t.wr (Reg.LANE_STAT_LOCKED l) 0) := (LinkStep.refl t).unlock
    have hv : LinkStep (t.wr (Reg.LANE_STAT_LOCKED l) 0) v :=
      ((LinkStep.refl _).wrLow (by decide) (by decide) hl).seeLoss.countLoss
    have h0 : v.rd (Reg.LANE_STAT_LOCKED l) = 0 := hv.down l ((State.rd_wr_same t 0 (lockedFld_within l)).trans (Nat.zero_mod _))
    have hsv := (h.trans hw).trans hv
    suffices hstep : ∀ w, LinkStep v w → LinkStep s w ∧ w.rd (Reg.LANE_STAT_LOCKED l) = 0 by
      apply hstep
      clear_value v
      split
      case isTrue hlt =>
        split
        · exact (LinkStep.refl v).startQuiet (by omega)
        · exact (LinkStep.refl v).startLive
        · split
          · exact (LinkStep.refl v).setRoute
          · exact .refl v
      case isFalse =>
        split
        · split
          · exact (LinkStep.refl v).wrLaneRef
          · exact (LinkStep.refl v).leaveLaneRef
        · exact .refl v
    exact fun w hw => ⟨hsv.trans hw, hw.down l h0⟩

end LinkStep

/-- The first links lose lock. -/
def State.linksLostTo (s : State) (n : Nat) : State :=
  (List.range n).foldl (fun t l => ((t.wr (Reg.LANE_STAT_CDR_LOCK l) 0).wr (Reg.LANE_STAT_BLOCK_LOCK l) 0).lockLost l) s

theorem State.linksLostTo_succ (s : State) (n : Nat) : s.linksLostTo (n + 1)
    = (((s.linksLostTo n).wr (Reg.LANE_STAT_CDR_LOCK n) 0).wr (Reg.LANE_STAT_BLOCK_LOCK n) 0).lockLost n := by
  unfold State.linksLostTo
  rw [List.range_succ, List.foldl_append, List.foldl_cons, List.foldl_nil]

theorem State.linksLostTo_step (s : State) (n : Nat) :
    LinkStep s (s.linksLostTo n) ∧ ∀ l < n, (s.linksLostTo n).rd (Reg.LANE_STAT_LOCKED l) = 0 := by
  induction n with
  | zero => exact ⟨.refl s, fun l hl => absurd hl (Nat.not_lt_zero l)⟩
  | succ n ih =>
    obtain ⟨hs, hd⟩ := ih
    have ha : 0x04000000 ≤ 0x04001010 + 0x40 * n := by omega
    obtain ⟨hl, h0⟩ := (((LinkStep.refl (s.linksLostTo n)).wrLow (v := 0) (Nat.le_refl 29) (by decide) ha).wrLow (v := 0) (Nat.le_refl 28)
      (by decide) ha).lockLost (l := n)
    rw [State.linksLostTo_succ]
    refine ⟨hs.trans hl, fun l hl' => ?_⟩
    rcases Nat.lt_succ_iff_lt_or_eq.mp hl' with hlt | rfl
    · exact hl.down l (hd l hlt)
    · exact h0

/-- Every serial link loses lock (R69): none is locked then. -/
theorem State.linksLost_step (s : State) : LinkStep s s.linksLost ∧ ∀ l < 50, s.linksLost.rd (Reg.LANE_STAT_LOCKED l) = 0 :=
  s.linksLostTo_step 50

/-! ### PLL_UNLOCK (R63, R69) -/

/-- A bit of a field is the field of that bit. -/
theorem getBits_bit (w : Word) {m l i : Nat} (h : l + i ≤ m) : getBits w m l / 2 ^ i % 2 = getBits w (l + i) (l + i) := by
  obtain ⟨k, hk⟩ : ∃ k, m - l + 1 = i + (k + 1) := ⟨m - l - i, by omega⟩
  simp only [getBits, BitVec.extractLsb'_toNat, Nat.shiftRight_eq_div_pow, hk, Nat.sub_self, zero_add, pow_one]
  calc w.toNat / 2 ^ l % 2 ^ (i + (k + 1)) / 2 ^ i % 2 = w.toNat / 2 ^ l / 2 ^ i % 2 ^ (k + 1) % 2 := by
        rw [pow_add, Nat.mod_mul_right_div_self]
    _ = w.toNat / 2 ^ l / 2 ^ i % 2 := Nat.mod_mod_of_dvd _ (dvd_pow_self 2 (Nat.succ_ne_zero k))
    _ = w.toNat / 2 ^ (l + i) % 2 := by rw [Nat.div_div_eq_div_mul, pow_add]

theorem State.rd_lostSeen (s : State) (p : Pll) : s.rd Reg.CLK_STAT_LOST_SEEN / 2 ^ p.index % 2 = s.rd (lostSeen p) :=
  getBits_bit _ (by cases p <;> decide)

theorem lostSeen_within (p : Pll) : (lostSeen p).within := by cases p <;> decide

/-- The loss of a PLL's lock is declared: LOCKED, and LOST_SEEN (R63, R88). -/
def State.unlocked (s : State) (p : Pll) (mv : Nat) : State := ((s.readPin p mv).setLocked p false).see (lostSeen p)

theorem State.unlocked_upd (s : State) (p : Pll) (mv : Nat) :
    ∃ l, s.unlocked p mv = { s with regs := l, seen := s.seen ++ [lostSeen p] } := by
  obtain ⟨l, e⟩ := s.readPin_upd p mv
  unfold State.unlocked
  rw [e]
  exact ⟨_, rfl⟩

theorem Keeps.unlocked (s : State) (p : Pll) (mv : Nat) : Keeps s (s.unlocked p mv) (pinFlds p ++ [Reg.CLK_STAT_LOCKED, Reg.CLK_STAT_LOST_SEEN]) := by
  intro g hg ha
  have hseen : (lostSeen p).apart g := by
    have h := ha Reg.CLK_STAT_LOST_SEEN (by simp)
    have hi : p.index < 4 := by cases p <;> decide
    simp only [Fld.apart, lostSeen, Reg.CLK_STAT_LOST_SEEN] at h ⊢
    omega
  have hr : (s.readPin p mv).rd g = s.rd g := Keeps.readPin s p mv g hg fun f hf => ha f (List.mem_append_left _ hf)
  exact (State.rd_wr_apart _ _ (lostSeen_within p) hg hseen).trans ((State.rd_wr_apart _ _ (by decide) hg (ha _ (by simp))).trans hr)

theorem State.pllLocked_unlocked (s : State) (p : Pll) (mv : Nat) : (s.unlocked p mv).pllLocked p.index = false := by
  have h : (s.unlocked p mv).rd Reg.CLK_STAT_LOCKED = ((s.readPin p mv).setLocked p false).rd Reg.CLK_STAT_LOCKED :=
    State.rd_wr_apart _ _ (lostSeen_within p) (by decide) (by cases p <;> decide)
  rw [State.pllLocked_congr h, State.pllLocked_setLocked, if_pos rfl]

theorem State.lostSeen_unlocked (s : State) (p : Pll) (mv : Nat) : (s.unlocked p mv).rd Reg.CLK_STAT_LOST_SEEN / 2 ^ p.index % 2 = 1 := by
  rw [State.rd_lostSeen]
  refine (State.rd_wr_same _ _ (lostSeen_within p)).trans ?_
  cases p <;> rfl

theorem exec_pllUnlock {s : State} (hp : Powered s) {p : Pll} (hl : s.pllLocked p.index = true) (mv : BitVec 16) :
    exec (.pllUnlock p mv) s = .next ((({ s with out := [] } : State).unlocked p mv.toNat).pllLoss p) := by
  have hk := Keeps.readPin { s with out := [] } p mv.toNat Reg.CLK_STAT_LOCKED (by decide) (by cases p <;> decide)
  have hl' : (({ s with out := [] } : State).readPin p mv.toNat).pllLocked p.index = true := (State.pllLocked_congr hk _).trans hl
  show execPllUnlock p mv s = _
  unfold execPllUnlock
  rw [onPower_eq hp]
  simp only [hl', Bool.not_true, Bool.false_eq_true, if_false]
  rfl

/-! ### What the loss of a lock brings about (R68, R69) -/

/-- A fault is due once raised, unless it is an F3 fault that is latched (R448). -/
theorem State.raise_due (s : State) {code subject : Nat} {cls : FaultClass} {data : List Byte} {mirrored : Bool}
    (h : cls = .f3 → s.f3Latched code = false) : FaultDue (s.raise code cls subject data mirrored) code := by
  unfold FaultDue State.raise
  split
  case isTrue hr =>
    obtain ⟨hc, hl⟩ | hp := hr
    · rw [h hc] at hl
      exact nomatch hl
    · obtain ⟨f, hf, he⟩ := List.any_eq_true.mp hp
      simp only [Bool.and_eq_true, beq_iff_eq] at he
      obtain ⟨⟨hc, -⟩, -⟩ := he
      exact ⟨f, hf, hc⟩
  case isFalse => exact ⟨_, List.mem_append_right _ (List.mem_singleton_self _), rfl⟩

theorem State.raise_upd (s : State) (c : Nat) (k : FaultClass) (b : Nat) (d : List Byte) (m : Bool) :
    ∃ p, s.raise c k b d m = { s with flt := { s.flt with pending := p } } := by
  unfold State.raise
  split
  · exact ⟨s.flt.pending, rfl⟩
  · exact ⟨_, rfl⟩

section

variable (s : State)

theorem State.toSafeClock_upd : ∃ l, s.toSafeClock = { s with regs := l } := by
  unfold State.toSafeClock
  split <;> exact ⟨_, rfl⟩

theorem Keeps.toSafeClock : Keeps s s.toSafeClock [Reg.CLK_STAT_SAFE_CLK, Reg.CLK_EVENTS_SAFE_SWITCH] := by
  unfold State.toSafeClock
  split
  · exact Keeps.refl s _
  · exact ((Keeps.refl s _).wr 1 (by decide) (by decide)).inc 1 (by decide) (by decide)

theorem State.safeClk_toSafeClock : s.toSafeClock.rd Reg.CLK_STAT_SAFE_CLK = 1 := by
  unfold State.toSafeClock
  split
  case isTrue h => exact (s.flag_iff rfl).mp h
  case isFalse => exact (State.rd_wr_apart _ _ (by decide) (by decide) (by decide)).trans (State.rd_wr_same s 1 (by decide))

/-- A profile of PLL_SYS is aborted, the loss is counted, and the islands go to their safe clocks. -/
def State.sysUnlocked (s : State) : State := ((s.stopRamp 0).inc Reg.CLK_EVENTS_SYS_UNLOCK).toSafeClock

/-- The fields that the loss of PLL_SYS may change, LOCKED and LOST_SEEN apart. -/
def sysLossFlds : List Fld := rampFlds 0 ++ [Reg.CLK_EVENTS_SYS_UNLOCK, Reg.CLK_STAT_SAFE_CLK, Reg.CLK_EVENTS_SAFE_SWITCH]

theorem Keeps.sysUnlocked : Keeps s s.sysUnlocked sysLossFlds := by
  have hr : Keeps s ((s.stopRamp 0).inc Reg.CLK_EVENTS_SYS_UNLOCK) sysLossFlds :=
    ((Keeps.refl s sysLossFlds).setRamp 0 _ (by decide)).inc 1 (by decide) (by decide)
  exact hr.trans ((Keeps.toSafeClock _).mono (by decide))

theorem State.sysUnlocked_upd : ∃ l, s.sysUnlocked
    = { s with regs := l, clk := { s.clk with rampSys := { s.clk.rampSys with running := false } } } := by
  obtain ⟨l, e⟩ := ((s.stopRamp 0).inc Reg.CLK_EVENTS_SYS_UNLOCK).toSafeClock_upd
  exact ⟨l, e⟩

theorem State.sysUnlocked_shows : s.sysUnlocked.rd Reg.CLK_STAT_SAFE_CLK = 1
    ∧ s.sysUnlocked.rd Reg.CLK_EVENTS_SYS_UNLOCK = s.oneMore Reg.CLK_EVENTS_SYS_UNLOCK := by
  refine ⟨State.safeClk_toSafeClock _, (Keeps.toSafeClock _ _ (by decide) (by decide)).trans ((State.rd_inc_same _ (by decide)).trans ?_)⟩
  exact State.oneMore_congr (((Keeps.refl s (rampFlds 0)).setRamp 0 _ fun _ h => h) _ (by decide) (by decide))

/-- The loss of PLL_SYS (R68). -/
theorem State.sysLoss_eq : s.pllLoss .sys
    = ({ s.sysUnlocked with clk := { s.sysUnlocked.clk with lossRun := true, lossAt := s.sysUnlocked.timeOf 1 } } : State).raise
        Code.CLK_SYS_UNLOCK .f0 := rfl

theorem State.sysLoss_regs : (s.pllLoss .sys).regs = s.sysUnlocked.regs := State.raise_regs _ _ _ _ _ _

theorem State.sysLoss_upd : ∃ l p a, s.pllLoss .sys = { s with
    regs := l, flt := { s.flt with pending := p },
    clk := { s.clk with rampSys := { s.clk.rampSys with running := false }, lossRun := true, lossAt := a } } := by
  obtain ⟨l, e⟩ := s.sysUnlocked_upd
  obtain ⟨p, e'⟩ := State.raise_upd
    { s.sysUnlocked with clk := { s.sysUnlocked.clk with lossRun := true, lossAt := s.sysUnlocked.timeOf 1 } } Code.CLK_SYS_UNLOCK .f0 0 [] false
  rw [State.sysLoss_eq, e']
  generalize s.sysUnlocked.timeOf 1 = a
  rw [e]
  exact ⟨l, p, a, rfl⟩

/-! The isolation link, and the loss of PLL_LANE (R69). -/

theorem State.hvLinkDown_upd : ∃ m f, s.hvLinkDown
    = { s.wr Reg.ID_SUPPLY_STAT_VGD_DV 0 with mod := m, drv := { s.drv with hvLink := false, fresh := f } } := by
  obtain ⟨m, f, e⟩ := State.latchTrip_upd
    { s.wr Reg.ID_SUPPLY_STAT_VGD_DV 0 with drv := { (s.wr Reg.ID_SUPPLY_STAT_VGD_DV 0).drv with hvLink := false } } 0x0D50
  exact ⟨m, f, e⟩

theorem State.rd_hvLinkDown {f : Fld} (hf : f.addr ≠ Reg.ID_SUPPLY_STAT_VGD_DV.addr) : s.hvLinkDown.rd f = s.rd f := by
  obtain ⟨m, d, e⟩ := s.hvLinkDown_upd
  rw [e]
  exact State.rd_wr_elsewhere s 0 hf

/-- The spread and a profile of PLL_LANE end, and its loss is counted and raised. -/
def State.laneUnlocked (s : State) : State :=
  (({ s with clk := { s.clk with spread := .off } } : State).stopRamp 1).inc Reg.CLK_EVENTS_LANE_UNLOCK

theorem State.laneLoss_eq : s.pllLoss .lane = (s.laneUnlocked.raise Code.CLK_LANE_LOST .f3).linksLost.hvLinkDown := rfl

theorem Keeps.laneUnlocked : Keeps s s.laneUnlocked (rampFlds 1 ++ [Reg.CLK_EVENTS_LANE_UNLOCK]) := by
  have h0 : Keeps s { s with clk := { s.clk with spread := .off } } (rampFlds 1 ++ [Reg.CLK_EVENTS_LANE_UNLOCK]) := Keeps.of_regs rfl _
  exact (h0.setRamp 1 _ (by decide)).inc 1 (by decide) (by decide)

theorem State.laneLoss_ends : (s.pllLoss .lane).clk.spread = .off ∧ (s.pllLoss .lane).drv.hvLink = false
    ∧ (∀ l < 50, (s.pllLoss .lane).rd (Reg.LANE_STAT_LOCKED l) = 0)
    ∧ (s.f3Latched Code.CLK_LANE_LOST = true ∨ FaultDue (s.pllLoss .lane) Code.CLK_LANE_LOST)
    ∧ (s.pllLoss .lane).word Reg.CLK_STAT_LOCKED.addr = s.laneUnlocked.word Reg.CLK_STAT_LOCKED.addr := by
  obtain ⟨p, hr⟩ := s.laneUnlocked.raise_upd Code.CLK_LANE_LOST .f3 0 [] false
  obtain ⟨hl, hd⟩ := State.linksLost_step (s.laneUnlocked.raise Code.CLK_LANE_LOST .f3)
  have hf := s.laneUnlocked.raise_f3 Code.CLK_LANE_LOST
  have hlatch : s.laneUnlocked.f3Latched Code.CLK_LANE_LOST = s.f3Latched Code.CLK_LANE_LOST :=
    State.f3Latched_congr (Keeps.laneUnlocked s) _ (by decide)
  obtain ⟨m, f, e⟩ := (s.laneUnlocked.raise Code.CLK_LANE_LOST .f3).linksLost.hvLinkDown_upd
  rw [State.laneLoss_eq]
  refine ⟨?_, ?_, fun l hl' => ?_, ?_, ?_⟩
  · rw [e]
    refine hl.spread.trans ?_
    rw [hr]
    rfl
  · rw [e]
  · refine (State.rd_hvLinkDown _ ?_).trans (hd l hl')
    show 0x04001010 + 0x40 * l ≠ 0x404
    omega
  · rw [← hlatch]
    refine hf.imp_right fun ⟨x, hx, hc⟩ => ⟨x, ?_, hc⟩
    rw [e]
    exact (congrArg Faults.pending hl.flt).symm ▸ hx
  · rw [e]
    refine (State.word_wr_other _ _ (by decide)).trans (hl.clkStat.trans ?_)
    rw [hr]
    rfl

end

/-! The loss of PLL_NET: the Ethernet links go down. -/

/-- The words that the state of GRID_TIME is shown in. -/
def gridWords : List Nat := [0x01002104, 0x0100200C]

/-- The words of a port that its link's going down writes. -/
def portWords (p : Fin 2) : List Nat := [0x0D000100 + 0x40 * p, 0x0D000114 + 0x40 * p, 0x0D100100 + 0x20 * p]

namespace State.Reads

variable {a : Nat} {w : Word} {s : State}

theorem setGrid {st : Nat} (h : Reads a w s) (hg : a ∉ gridWords) : Reads a w (s.setGrid st) := by
  simp only [gridWords, List.mem_cons, List.not_mem_nil, or_false, not_or] at hg
  obtain ⟨h1, h2⟩ := hg
  have hs : Reads a w (((s.wr Reg.TIME_GRID_STAT_STATE st).wrB (Reg.TIME_BASE_SYNCED 0) (2 ≤ st)).wrB (Reg.TIME_BASE_HOLDOVER 0) (st = 3)) :=
    .wrB (.wrB (.wr h h1) h2) h2
  unfold State.setGrid
  dsimp only
  split
  · exact .keep hs
  · split
    · exact .keep hs
    · exact .keep hs

theorem gridLoss (h : Reads a w s) (hg : a ∉ gridWords) : Reads a w s.gridLoss := by
  unfold State.gridLoss
  split
  · exact h.setGrid hg
  · exact h.setGrid hg
  · exact h

theorem setPtp {f : PtpRun → PtpRun} (h : Reads a w s) : Reads a w (s.setPtp f) := .keep h
theorem setEth {p : Fin 2} {e : EthRun} (h : Reads a w s) : Reads a w (s.setEth p e) := .keep h

theorem ethDown {p : Fin 2} (h : Reads a w s) (hg : a ∉ gridWords) (hp : a ∉ portWords p) : Reads a w (s.ethDown p) := by
  simp only [portWords, List.mem_cons, List.not_mem_nil, or_false, not_or] at hp
  obtain ⟨h1, h2, h3⟩ := hp
  unfold State.ethDown
  split
  · exact h
  · extract_lets u v
    have hu : Reads a w u := .ite (.setPtp <| h.gridLoss hg) h
    have hv : Reads a w v := .inc (.wr (.wr hu h1) h1) h2
    clear_value v
    exact .wr (.setPtp <| .setEth hv) h3

end State.Reads

theorem linkFld_facts : ∀ p : Fin 2, (Reg.ETH_STAT_LINK p).within ∧ (Reg.ETH_STAT_AN_DONE p).within
    ∧ (Reg.ETH_STAT_AN_DONE p).apart (Reg.ETH_STAT_LINK p) ∧ (Reg.ETH_STAT_LINK p).addr ≠ (Reg.ETH_STAT_LINK_DOWNS p).addr
    ∧ (Reg.ETH_STAT_LINK p).addr ≠ (Reg.PTP_PORT_STATE p).addr := by decide

theorem State.rd_link_ptpBegin (s : State) (p : Fin 2) : (s.ptpBegin p).rd (Reg.ETH_STAT_LINK p) = s.rd (Reg.ETH_STAT_LINK p) := by
  obtain ⟨-, -, -, -, h⟩ := linkFld_facts p
  exact (State.rd_wr_elsewhere _ _ h).trans (State.rd_congr rfl _)

theorem State.rd_link_dropped (s : State) (p : Fin 2) :
    (((s.wr (Reg.ETH_STAT_LINK p) 0).wr (Reg.ETH_STAT_AN_DONE p) 0).inc (Reg.ETH_STAT_LINK_DOWNS p)).rd (Reg.ETH_STAT_LINK p) = 0 := by
  obtain ⟨hl, ha, hap, hd, -⟩ := linkFld_facts p
  refine (State.rd_wr_elsewhere _ _ hd).trans ((State.rd_wr_apart _ _ ha hl hap).trans ?_)
  exact (State.rd_wr_same _ _ hl).trans (Nat.zero_mod _)

theorem State.rd_link_ethDown (s : State) (p : Fin 2) : (s.ethDown p).rd (Reg.ETH_STAT_LINK p) = 0 := by
  unfold State.ethDown
  split
  case isTrue h =>
    rcases s.rd_bit (f := Reg.ETH_STAT_LINK p) rfl with e | e
    · exact e
    · simp [State.flag, e] at h
  case isFalse => exact (State.rd_link_ptpBegin _ p).trans ((State.rd_congr (State.setEth_regs _ _ _) _).trans (State.rd_link_dropped _ p))

/-- A read of a field whose word is left. -/
theorem State.Reads.rd {s t : State} {f : Fld} (h : State.Reads f.addr (s.word f.addr) t) : t.rd f = s.rd f := by
  unfold State.rd
  rw [h.word]

/-- The loss of PLL_NET: both links go down, F0 CLK_NET_UNLOCK comes up, and CLK_STAT stays (R69). -/
theorem State.netLoss_ends (s : State) : (s.pllLoss .net).rd (Reg.ETH_STAT_LINK 0) = 0 ∧ (s.pllLoss .net).rd (Reg.ETH_STAT_LINK 1) = 0
    ∧ FaultDue (s.pllLoss .net) Code.CLK_NET_UNLOCK ∧ (s.pllLoss .net).word Reg.CLK_STAT_LOCKED.addr = s.word Reg.CLK_STAT_LOCKED.addr := by
  have hregs : (s.pllLoss .net).regs = (((s.ethDown 0).ethDown 1).gridLoss).regs := State.raise_regs _ _ _ _ _ _
  refine ⟨(State.rd_congr hregs _).trans ?_, (State.rd_congr hregs _).trans ?_, State.raise_due _ nofun, (State.word_congr hregs _).trans ?_⟩
  · exact (State.Reads.rd (.gridLoss (.ethDown ⟨rfl⟩ (by decide) (by decide)) (by decide))).trans (s.rd_link_ethDown 0)
  · exact (State.Reads.rd (.gridLoss ⟨rfl⟩ (by decide))).trans ((s.ethDown 0).rd_link_ethDown 1)
  · exact (State.Reads.gridLoss (.ethDown (.ethDown ⟨rfl⟩ (by decide) (by decide)) (by decide) (by decide)) (by decide)).word

/-! ### The clauses of O8 -/

/-- What a command keeps of the state with its outputs cleared it keeps of the state before. -/
theorem Keeps.fresh {s t : State} {fs : List Fld} (h : Keeps { s with out := [] } t fs) : Keeps s t fs := h

theorem Keeps.setLocked {s t : State} {fs : List Fld} (h : Keeps s t fs) (p : Pll) (b : Bool) (hf : Reg.CLK_STAT_LOCKED ∈ fs) :
    Keeps s (t.setLocked p b) fs := h.wr _ hf (by decide)

/-- Every time base reads as before where no field of the list lies in its words. -/
theorem State.timeOf_congr {s t : State} {fs : List Fld} (h : Keeps s t fs) {b : Nat} (ha : ∀ f ∈ fs, f.addr < 0x01002000) :
    t.timeOf b = s.timeOf b := by
  have hr (k m l : Nat) (hl : l ≤ m) (hm : m < 32) : t.rd ⟨0x01002000 + k, m, l⟩ = s.rd ⟨0x01002000 + k, m, l⟩ := by
    refine h _ ⟨hl, hm⟩ fun f hf => .inl ?_
    have := ha f hf
    simp only
    omega
  have h0 := hr (0x10 * b) 31 0 (by decide) (by decide)
  have h4 := hr (4 + 0x10 * b) 31 0 (by decide) (by decide)
  have h8 := hr (8 + 0x10 * b) 31 0 (by decide) (by decide)
  have hc := hr (12 + 0x10 * b) 31 16 (by decide) (by decide)
  rw [← Nat.add_assoc] at h4 h8 hc
  unfold State.timeOf
  exact congrArg₂ (· + ·) (congrArg (· * 65536) (congrArg₂ (· + ·) (congrArg (· * 1000000000) (congrArg₂ (· + ·) (congrArg (· * 2 ^ 32) h0) h4)) h8)) hc

section

variable {s : State}

/-! What the lock of PLL_SYS changes (R62, R66). -/

theorem Keeps.sysLocks (s : State) : Keeps s s.sysLocks (Reg.CLK_STAT_LOCKED :: rampFlds 0) := by
  have hl : Keeps s { s.setLocked .sys true with clk := { s.clk with lockAt := (s.setLocked .sys true).timeOf 1 } }
      (Reg.CLK_STAT_LOCKED :: rampFlds 0) := ((Keeps.refl s _).setLocked .sys true (by decide)).congr rfl
  unfold State.sysLocks
  dsimp only
  split
  · exact hl.setRamp 0 _ (by decide)
  · exact hl

theorem State.sysLocks_upd (s : State) : ∃ l c, s.sysLocks = { s with regs := l, clk := c } := by
  unfold State.sysLocks
  dsimp only
  split <;> exact ⟨_, _, rfl⟩

theorem State.pllLocked_sysLocks (s : State) : s.sysLocks.pllLocked 0 = true := by
  have h : s.sysLocks.rd Reg.CLK_STAT_LOCKED = (s.setLocked .sys true).rd Reg.CLK_STAT_LOCKED := by
    unfold State.sysLocks
    dsimp only
    split
    · exact Keeps.setRamp (Keeps.of_regs rfl _) 0 _ (fun _ h => h) _ (by decide) (by decide)
    · rfl
  rw [State.pllLocked_congr h, State.pllLocked_setLocked]
  rfl

theorem State.clk_sysLocks (s : State) : s.sysLocks.clk.lockAt = s.timeOf 1
    ∧ (if s.clk.stepRun then s.sysLocks.clk.rampSys.milli = s.rdS Reg.CLK_SYS_TARGET_OFFSET_PPM * 1000
        else s.sysLocks.clk = { s.clk with lockAt := s.timeOf 1 }) := by
  have hk : Keeps s (s.setLocked .sys true) [Reg.CLK_STAT_LOCKED] := (Keeps.refl s _).setLocked .sys true (by decide)
  have htime : (s.setLocked .sys true).timeOf 1 = s.timeOf 1 := State.timeOf_congr hk (by decide)
  have htarget : (s.setLocked .sys true).rdS Reg.CLK_SYS_TARGET_OFFSET_PPM = s.rdS Reg.CLK_SYS_TARGET_OFFSET_PPM :=
    State.rdS_congr (hk _ (by decide) (by decide))
  unfold State.sysLocks
  dsimp only
  split
  · exact ⟨htime, congrArg (· * 1000) htarget⟩
  · exact ⟨htime, congrArg (fun a => { s.clk with lockAt := a }) htime⟩

theorem pllLock_locks {p : Pll} (hp : Powered s) (mv : BitVec 16) (h : p = .net ∨ p = .hv) :
    ∃ t, exec (.pllLock p mv) s = .next t ∧ t = { s with regs := t.regs, out := [] }
      ∧ (∀ n : Nat, t.pllLocked n = (s.pllLocked n || n == p.index)) ∧ Keeps s t [Reg.CLK_STAT_LOCKED, Reg.CLK_STAT_LKF_OPEN] := by
  obtain ⟨l, e⟩ := State.readPin_upd { s with out := [] } p mv.toNat
  have hpin : Keeps s (({ s with out := [] } : State).readPin p mv.toNat) (pinFlds p) := (Keeps.readPin _ p mv.toNat).fresh
  have hl := State.pllLocked_congr (hpin Reg.CLK_STAT_LOCKED (by decide) (by rcases h with rfl | rfl <;> decide))
  refine ⟨(({ s with out := [] } : State).readPin p mv.toNat).setLocked p true, ?_, ?_, fun n => ?_, ?_⟩
  · rw [exec_pllLock hp]
    rcases h with rfl | rfl <;> rfl
  · rw [e]
    rfl
  · rw [State.pllLocked_setLocked, hl]
    by_cases hn : n = p.index <;> simp [hn]
  · exact (hpin.mono (by rcases h with rfl | rfl <;> decide)).setLocked p true (by decide)

theorem pllLock_refused {p : Pll} (hp : Powered s) (mv : BitVec 16) (h : p = .sys ∨ p = .lane) (hm : mv.toNat < 700 ∨ 1400 < mv.toNat) :
    ∃ t, exec (.pllLock p mv) s = .next t ∧ t = { s with regs := t.regs, out := [] }
      ∧ Keeps s t [Reg.CLK_LKF_LKF_SYS_MV, Reg.CLK_LKF_LKF_LANE_MV, Reg.CLK_STAT_LKF_OPEN] := by
  obtain ⟨l, e⟩ := State.readPin_upd { s with out := [] } p mv.toNat
  have hpin : Keeps s (({ s with out := [] } : State).readPin p mv.toNat) (pinFlds p) := (Keeps.readPin _ p mv.toNat).fresh
  refine ⟨({ s with out := [] } : State).readPin p mv.toNat, ?_, ?_, hpin.mono (by rcases h with rfl | rfl <;> decide)⟩
  · rw [exec_pllLock hp, if_neg fun hl => by have := (pinLocks_iff h _).mp hl; omega]
  · rw [e]

theorem pllLock_sys (hp : Powered s) (mv : BitVec 16) (h7 : 700 ≤ mv.toNat) (h14 : mv.toNat ≤ 1400) :
    ∃ t, exec (.pllLock .sys mv) s = .next t ∧ t = { s with regs := t.regs, out := [], clk := t.clk } ∧ t.pllLocked 0 = true
      ∧ t.clk.lockAt = s.timeOf 1 ∧ t.rd Reg.CLK_LKF_LKF_SYS_MV = mv.toNat
      ∧ (if s.clk.stepRun then t.clk.rampSys.milli = s.rdS Reg.CLK_SYS_TARGET_OFFSET_PPM * 1000 else t.clk = { s.clk with lockAt := s.timeOf 1 })
      ∧ Keeps s t [Reg.CLK_STAT_LOCKED, Reg.CLK_STAT_LKF_OPEN, Reg.CLK_LKF_LKF_SYS_MV, Reg.CLK_RAMP_STAT_CUR_OFFSET 0, Reg.CLK_STAT_RAMP_SYS,
          Reg.CLK_SYS_NOW_OFFSET_PPM] := by
  obtain ⟨u, hu⟩ : ∃ u, u = ({ s with out := [] } : State).readPin .sys mv.toNat := ⟨_, rfl⟩
  have hk : Keeps s u (pinFlds .sys) := hu ▸ (Keeps.readPin _ .sys mv.toNat).fresh
  have hmv : u.rd Reg.CLK_LKF_LKF_SYS_MV = mv.toNat := hu ▸ (State.rd_lkf_readPin _ mv).1
  have hupd : u = { s with regs := u.regs, out := [] } := by
    obtain ⟨l, e⟩ := State.readPin_upd { s with out := [] } .sys mv.toNat
    rw [hu, e]
  have hc : u.clk = s.clk := by rw [hupd]
  obtain ⟨hat, hrun⟩ := u.clk_sysLocks
  rw [State.timeOf_congr hk (by decide)] at hat hrun
  rw [State.rdS_congr (hk Reg.CLK_SYS_TARGET_OFFSET_PPM (by decide) (by decide)), hc] at hrun
  obtain ⟨l, c, e⟩ := u.sysLocks_upd
  have hsl := Keeps.sysLocks u
  refine ⟨u.sysLocks, ?_, ?_, u.pllLocked_sysLocks, hat, (hsl _ (by decide) (by decide)).trans hmv, hrun,
    (hk.mono (by decide)).trans (hsl.mono (by decide))⟩
  · rw [exec_pllLock hp, if_pos ((pinLocks_iff (.inl rfl) _).mpr ⟨h7, h14⟩), hu]
    rfl
  · rw [e, hupd]

theorem pllLock_lane (hp : Powered s) (mv : BitVec 16) (h7 : 700 ≤ mv.toNat) (h14 : mv.toNat ≤ 1400) :
    ∃ t, exec (.pllLock .lane mv) s = .next t ∧ t = { s with regs := t.regs, out := [], clk := t.clk } ∧ t.pllLocked 1 = true
      ∧ t.rd Reg.CLK_LKF_LKF_LANE_MV = mv.toNat
      ∧ t.clk = (if s.rd Reg.CLK_LANE_SPREAD_EN = 1 ∧ s.clk.spread = .off then { s.clk with spread := .falling, rampLane := RampGen.at 0 } else s.clk)
      ∧ Keeps s t [Reg.CLK_STAT_LOCKED, Reg.CLK_STAT_LKF_OPEN, Reg.CLK_LKF_LKF_LANE_MV, Reg.CLK_RAMP_STAT_CUR_OFFSET 1, Reg.CLK_STAT_RAMP_LANE] := by
  obtain ⟨u, hu⟩ : ∃ u, u = (({ s with out := [] } : State).readPin .lane mv.toNat).setLocked .lane true := ⟨_, rfl⟩
  have hk : Keeps s u (Reg.CLK_STAT_LOCKED :: pinFlds .lane) :=
    hu ▸ ((Keeps.readPin _ .lane mv.toNat).fresh.mono (by decide)).setLocked .lane true (by decide)
  have hlock : u.pllLocked 1 = true := by
    rw [hu, State.pllLocked_setLocked]
    rfl
  have hmv : u.rd Reg.CLK_LKF_LKF_LANE_MV = mv.toNat :=
    hu ▸ (State.rd_wr_apart _ _ (by decide) (by decide) (by decide)).trans (State.rd_lkf_readPin _ mv).2
  have hupd : u = { s with regs := u.regs, out := [] } := by
    obtain ⟨l, e⟩ := State.readPin_upd { s with out := [] } .lane mv.toNat
    rw [hu, e]
    rfl
  have hen : u.rd Reg.CLK_LANE_SPREAD_EN = s.rd Reg.CLK_LANE_SPREAD_EN := hk _ (by decide) (by decide)
  have hc : u.clk = s.clk := by rw [hupd]
  have hsp := Keeps.spreadEnable u
  obtain ⟨l, e⟩ := u.spreadEnable_upd
  refine ⟨u.spreadEnable, ?_, ?_, (State.pllLocked_congr (hsp _ (by decide) (by decide)) 1).trans hlock, (hsp _ (by decide) (by decide)).trans hmv, ?_,
    (hk.mono (by decide)).trans (hsp.mono (by decide))⟩
  · rw [exec_pllLock hp, if_pos ((pinLocks_iff (.inr rfl) _).mpr ⟨h7, h14⟩), hu]
    rfl
  · rw [e, hupd]
  · rw [e, ← hen, ← hc]

end

/-! PLL_UNLOCK, clause by clause. -/

section

variable {s : State} (hp : Powered s) (mv : BitVec 16)
include hp

theorem pllUnlock_lane (hl : s.pllLocked 1 = true) :
    ∃ t, exec (.pllUnlock .lane mv) s = .next t ∧ t.pllLocked 1 = false ∧ t.rd Reg.CLK_STAT_LOST_SEEN / 2 % 2 = 1 ∧ t.clk.spread = .off
      ∧ t.drv.hvLink = false ∧ (∀ l : Nat, l < 50 → t.rd (Reg.LANE_STAT_LOCKED l) = 0)
      ∧ (s.f3Latched Code.CLK_LANE_LOST = true ∨ FaultDue t Code.CLK_LANE_LOST) := by
  obtain ⟨u, hu⟩ : ∃ u, u = ({ s with out := [] } : State).unlocked .lane mv.toNat := ⟨_, rfl⟩
  have hk : Keeps s u (pinFlds .lane ++ [Reg.CLK_STAT_LOCKED, Reg.CLK_STAT_LOST_SEEN]) := hu ▸ (Keeps.unlocked _ .lane mv.toNat).fresh
  have hlock : u.pllLocked 1 = false := hu ▸ State.pllLocked_unlocked _ .lane mv.toNat
  have hseen : u.rd Reg.CLK_STAT_LOST_SEEN / 2 ^ 1 % 2 = 1 := hu ▸ State.lostSeen_unlocked _ .lane mv.toNat
  obtain ⟨hspread, hlink, hdown, hfault, hword⟩ := u.laneLoss_ends
  have hstat (f : Fld) (hf : f.addr = Reg.CLK_STAT_LOCKED.addr) (hw : f.within) (ha : ∀ g ∈ rampFlds 1 ++ [Reg.CLK_EVENTS_LANE_UNLOCK], g.apart f) :
      (u.pllLoss .lane).rd f = u.rd f := by
    rw [← Keeps.laneUnlocked u f hw ha]
    unfold State.rd
    rw [hf, hword]
  refine ⟨u.pllLoss .lane, hu ▸ exec_pllUnlock (p := .lane) hp hl mv, ?_, ?_, hspread, hlink, hdown, ?_⟩
  · exact (State.pllLocked_congr (hstat _ rfl (by decide) (by decide)) 1).trans hlock
  · rw [hstat Reg.CLK_STAT_LOST_SEEN rfl (by decide) (by decide)]
    exact hseen
  · rwa [State.f3Latched_congr hk Code.CLK_LANE_LOST (by decide)] at hfault

theorem pllUnlock_net (hl : s.pllLocked 2 = true) :
    ∃ t, exec (.pllUnlock .net mv) s = .next t ∧ t.pllLocked 2 = false ∧ t.rd Reg.CLK_STAT_LOST_SEEN / 4 % 2 = 1
      ∧ t.rd (Reg.ETH_STAT_LINK 0) = 0 ∧ t.rd (Reg.ETH_STAT_LINK 1) = 0 ∧ FaultDue t Code.CLK_NET_UNLOCK := by
  obtain ⟨h0, h1, hfault, hword⟩ := State.netLoss_ends (({ s with out := [] } : State).unlocked .net mv.toNat)
  have hstat (f : Fld) (hf : f.addr = Reg.CLK_STAT_LOCKED.addr) :
      ((({ s with out := [] } : State).unlocked .net mv.toNat).pllLoss .net).rd f = (({ s with out := [] } : State).unlocked .net mv.toNat).rd f := by
    unfold State.rd
    rw [hf, hword]
  refine ⟨_, exec_pllUnlock (p := .net) hp hl mv, ?_, ?_, h0, h1, hfault⟩
  · exact (State.pllLocked_congr (hstat _ rfl) 2).trans (State.pllLocked_unlocked _ .net mv.toNat)
  · rw [hstat Reg.CLK_STAT_LOST_SEEN rfl]
    exact State.lostSeen_unlocked _ .net mv.toNat

theorem pllUnlock_sys (hl : s.pllLocked 0 = true) :
    ∃ t, exec (.pllUnlock .sys mv) s = .next t ∧ t.pllLocked 0 = false ∧ t.rd Reg.CLK_STAT_LOST_SEEN % 2 = 1
      ∧ t.rd Reg.CLK_STAT_SAFE_CLK = 1 ∧ t.clk.rampSys.running = false ∧ t.clk.rampSys.milli = s.clk.rampSys.milli
      ∧ t.rd Reg.CLK_EVENTS_SYS_UNLOCK = s.oneMore Reg.CLK_EVENTS_SYS_UNLOCK ∧ FaultDue t Code.CLK_SYS_UNLOCK
      ∧ t = { s with regs := t.regs, out := [], clk := t.clk, flt := t.flt, seen := s.seen ++ [lostSeen .sys] } := by
  obtain ⟨u, hu⟩ : ∃ u, u = ({ s with out := [] } : State).unlocked .sys mv.toNat := ⟨_, rfl⟩
  have hk : Keeps s u (pinFlds .sys ++ [Reg.CLK_STAT_LOCKED, Reg.CLK_STAT_LOST_SEEN]) := hu ▸ (Keeps.unlocked _ .sys mv.toNat).fresh
  have hlock : u.pllLocked 0 = false := hu ▸ State.pllLocked_unlocked _ .sys mv.toNat
  have hseen : u.rd Reg.CLK_STAT_LOST_SEEN / 2 ^ 0 % 2 = 1 := hu ▸ State.lostSeen_unlocked _ .sys mv.toNat
  have hupd : u = { s with regs := u.regs, out := [], seen := s.seen ++ [lostSeen .sys] } := by
    obtain ⟨l, e⟩ := State.unlocked_upd { s with out := [] } .sys mv.toNat
    rw [hu, e]
  have hrd (f : Fld) : (u.pllLoss .sys).rd f = u.sysUnlocked.rd f := State.rd_congr u.sysLoss_regs f
  have hstat := Keeps.sysUnlocked u
  obtain ⟨hsafe, hcount⟩ := u.sysUnlocked_shows
  obtain ⟨l, p, a, e⟩ := u.sysLoss_upd
  refine ⟨u.pllLoss .sys, hu ▸ exec_pllUnlock (p := .sys) hp hl mv, ?_, ?_, (hrd _).trans hsafe, ?_, ?_, ?_, ?_, ?_⟩
  · exact (State.pllLocked_congr ((hrd _).trans (hstat _ (by decide) (by decide))) 0).trans hlock
  · rw [(hrd Reg.CLK_STAT_LOST_SEEN).trans (hstat _ (by decide) (by decide)), ← hseen, pow_zero, Nat.div_one]
  · rw [e]
  · rw [e, hupd]
  · exact (hrd _).trans (hcount.trans (State.oneMore_congr (hk _ (by decide) (by decide))))
  · rw [State.sysLoss_eq]
    exact State.raise_due _ nofun
  · rw [e, hupd]

theorem pllUnlock_hv (hl : s.pllLocked 3 = true) :
    ∃ t, exec (.pllUnlock .hv mv) s = .next t ∧ t.pllLocked 3 = false ∧ t.rd Reg.CLK_STAT_LOST_SEEN / 8 % 2 = 1
      ∧ Keeps s t [Reg.CLK_STAT_LOCKED, Reg.CLK_STAT_LOST_SEEN, Reg.CLK_STAT_LKF_OPEN] := by
  have hk := (Keeps.unlocked { s with out := [] } .hv mv.toNat).fresh
  have hregs : ((({ s with out := [] } : State).unlocked .hv mv.toNat).pllLoss .hv).regs = (({ s with out := [] } : State).unlocked .hv mv.toNat).regs := by
    obtain ⟨m, f, e⟩ := (({ s with out := [] } : State).unlocked .hv mv.toNat).latchTrip_upd 0x0D50
    rw [State.pllLoss, e]
  refine ⟨_, exec_pllUnlock (p := .hv) hp hl mv, ?_, ?_, (hk.mono (by decide)).congr hregs⟩
  · exact (State.pllLocked_congr (State.rd_congr hregs _) 3).trans (State.pllLocked_unlocked _ .hv mv.toNat)
  · rw [State.rd_congr hregs Reg.CLK_STAT_LOST_SEEN]
    exact State.lostSeen_unlocked _ .hv mv.toNat

/-! PLL_LOCK_TIMEOUT, CLK_SYS_LOST and SAFE_CLOCK_RETURN, each in a stage in which its time ends. -/

omit mv

theorem exec_pllLockTimeout {lane : Bool} (hl : s.pllLocked (if lane then 1 else 0) = false)
    (ht : s.running = true → s.passed s.power.startMono 10000000 = true) :
    exec (.pllLockTimeout lane) s = .next (({ s with out := [] } : State).event (if lane then Ev.CLK_LANE_NO_LOCK else Ev.CLK_SYS_NO_LOCK)) := by
  have hg : (({ s with out := [] } : State).running && !(({ s with out := [] } : State).passed s.power.startMono 10000000)) = false := by
    show (s.running && !(s.passed s.power.startMono 10000000)) = false
    cases hr : s.running with
    | false => rfl
    | true => rw [ht hr]; rfl
  have hl' : ({ s with out := [] } : State).pllLocked (if lane then 1 else 0) = false := hl
  show execPllLockTimeout lane s = _
  unfold execPllLockTimeout
  rw [onPower_eq hp]
  refine congrArg Host.Outcome.next ((if_neg (Bool.eq_false_iff.mp hg)).trans ?_)
  cases lane with
  | false => exact if_neg (Bool.eq_false_iff.mp hl')
  | true => exact if_neg (Bool.eq_false_iff.mp hl')

theorem exec_clkSysLost (hrun : s.clk.lossRun = true) (hl : s.pllLocked 0 = false) (ht : s.running = true → s.passed s.clk.lossAt 10000000 = true) :
    exec .clkSysLost s = .next (({ s with out := [] } : State).raise Code.CLK_SYS_LOST .f3) := by
  have hg : (s.clk.lossRun && !(s.pllLocked 0) && (!s.running || s.passed s.clk.lossAt 10000000)) = true := by
    rw [hrun, hl]
    cases hr : s.running with
    | false => rfl
    | true => rw [ht hr]; rfl
  show execClkSysLost s = _
  unfold execClkSysLost
  rw [onPower_eq hp]
  exact congrArg Host.Outcome.next (if_pos hg)

theorem exec_safeClockReturn (hsafe : s.rd Reg.CLK_STAT_SAFE_CLK = 1) (hl : s.pllLocked 0 = true)
    (ht : s.running = true → s.passed s.clk.lockAt 64000 = true) :
    exec .safeClockReturn s
      = .next (State.wr { s with out := [], clk := { s.clk with stepRun := false, lossRun := false } } Reg.CLK_STAT_SAFE_CLK 0) := by
  have hg : (s.flag Reg.CLK_STAT_SAFE_CLK && s.pllLocked 0 && (!s.running || s.passed s.clk.lockAt 64000)) = true := by
    rw [(s.flag_iff rfl).mpr hsafe, hl]
    cases hr : s.running with
    | false => rfl
    | true => rw [ht hr]; rfl
  show execSafeClockReturn s = _
  unfold execSafeClockReturn
  rw [onPower_eq hp]
  exact congrArg Host.Outcome.next (if_pos hg)

end

/-- Settles O8: PLL_LOCK and PLL_UNLOCK PLL by PLL, and the three times by the commands' meanings. -/
theorem pllLocks : Obligations.PllLocks := by
  refine ⟨fun s p mv hp h => pllLock_locks hp mv h, fun s p mv hp h hm => pllLock_refused hp mv h hm, fun s mv hp h7 h14 => pllLock_sys hp mv h7 h14,
    fun s mv hp h7 h14 => pllLock_lane hp mv h7 h14, fun s mv hp hl => pllUnlock_lane hp mv hl, fun s mv hp hl => pllUnlock_net hp mv hl,
    fun s mv hp hl => pllUnlock_sys hp mv hl, fun s mv hp hl => pllUnlock_hv hp mv hl, ?_, ?_, ?_⟩
  · intro s lane hp hl ht
    exact ⟨_, exec_pllLockTimeout hp hl ht, rfl, (Keeps.refl _ _).event _ _ _ (by decide) (by decide)⟩
  · intro s hp hrun hl hf ht
    obtain ⟨p, e⟩ := State.raise_upd { s with out := [] } Code.CLK_SYS_LOST .f3 0 [] false
    refine ⟨_, exec_clkSysLost hp hrun hl ht, ?_, State.raise_due _ fun _ => hf⟩
    rw [e]
  · intro s hp hsafe hl ht
    exact ⟨_, exec_safeClockReturn hp hsafe hl ht, rfl, State.rd_wr_same _ 0 (by decide),
      (Keeps.refl { s with out := [] } _).wr 0 (by decide) (by decide)⟩

end Sys2Proof.Machine
end

section
/-! SUPPORT. The loss and the return of XIN, the end of a ramp's segment, and the ends of the lane spread and of the reference's return. -/

namespace Sys2Proof.Machine

open Sys2Proof

/-! ### HOLDOVER of the time bases (R70) -/

/-- HOLDOVER of the four bases. -/
def holdoverFlds : List Fld := (List.range 4).map Reg.TIME_BASE_HOLDOVER

/-- Each base's HOLDOVER is written. -/
def State.wrHoldovers (s : State) (v : Nat → Nat) : State := [0, 1, 2, 3].foldl (fun t b => t.wr (Reg.TIME_BASE_HOLDOVER b) (v b)) s

theorem State.wrHoldovers_upd (s : State) (v : Nat → Nat) : ∃ l, s.wrHoldovers v = { s with regs := l } := ⟨_, rfl⟩

theorem Keeps.wrHoldovers {s t : State} {fs : List Fld} (h : Keeps s t fs) (v : Nat → Nat) (hf : ∀ f ∈ holdoverFlds, f ∈ fs) :
    Keeps s (t.wrHoldovers v) fs :=
  (((h.wr _ (hf _ (by decide)) (by decide)).wr _ (hf _ (by decide)) (by decide)).wr _ (hf _ (by decide)) (by decide)).wr _ (hf _ (by decide))
    (by decide)

theorem State.rd_wrHoldovers (s : State) (v : Nat → Nat) {b : Nat} (hb : b < 4) :
    (s.wrHoldovers v).rd (Reg.TIME_BASE_HOLDOVER b) = v b % 2 := by
  have hother (t : State) {k : Nat} (hk : b ≠ k) (x : Nat) :
      (t.wr (Reg.TIME_BASE_HOLDOVER k) x).rd (Reg.TIME_BASE_HOLDOVER b) = t.rd (Reg.TIME_BASE_HOLDOVER b) :=
    State.rd_wr_elsewhere t x (by simp only [Reg.TIME_BASE_HOLDOVER]; omega)
  have hsame (t : State) (x : Nat) : (t.wr (Reg.TIME_BASE_HOLDOVER b) x).rd (Reg.TIME_BASE_HOLDOVER b) = x % 2 :=
    State.rd_wr_same t x ⟨Nat.le_refl 2, by show 2 < 32; decide⟩
  obtain rfl | rfl | rfl | rfl : b = 0 ∨ b = 1 ∨ b = 2 ∨ b = 3 := by omega
  · exact (hother _ (by decide) _).trans ((hother _ (by decide) _).trans ((hother _ (by decide) _).trans (hsame _ _)))
  · exact (hother _ (by decide) _).trans ((hother _ (by decide) _).trans (hsame _ _))
  · exact (hother _ (by decide) _).trans (hsame _ _)
  · exact hsame _ _

/-! ### XIN_LOST -/

/-- The fields that the loss of XIN changes. -/
def xinLostFlds : List Fld := [Reg.CLK_STAT_XIN_OK, Reg.CLK_STAT_HOLDOVER, Reg.CLK_EVENTS_XIN_LOST] ++ holdoverFlds

/-- XIN is noted as lost and counted. -/
def State.xinCounted (s : State) : State := ((s.wr Reg.CLK_STAT_XIN_OK 0).wr Reg.CLK_STAT_HOLDOVER 1).inc Reg.CLK_EVENTS_XIN_LOST

/-- The loss of XIN: it is noted, and every base holds over. -/
def State.xinGoes (s : State) : State := State.wrHoldovers { s.xinCounted with clk := { s.clk with xinGone := true } } fun _ => 1

section

variable (s : State)

theorem State.xinGoes_upd : ∃ l, s.xinGoes = { s with regs := l, clk := { s.clk with xinGone := true } } := ⟨_, rfl⟩

theorem State.rd_xinGoes {f : Fld} (hf : f.within) (ha : ∀ g ∈ holdoverFlds, g.apart f) : s.xinGoes.rd f = s.xinCounted.rd f :=
  (Keeps.wrHoldovers (Keeps.of_regs rfl holdoverFlds) _ fun _ h => h) f hf ha

theorem Keeps.xinCounted : Keeps s s.xinCounted xinLostFlds :=
  (((Keeps.refl s _).wr 0 (by decide) (by decide)).wr 1 (by decide) (by decide)).inc 1 (by decide) (by decide)

theorem Keeps.xinGoes : Keeps s s.xinGoes xinLostFlds := by
  have hc : Keeps s { s.xinCounted with clk := { s.clk with xinGone := true } } xinLostFlds := (Keeps.xinCounted s).congr rfl
  exact Keeps.wrHoldovers hc _ (by decide)

theorem State.xinCounted_shows : s.xinCounted.rd Reg.CLK_STAT_XIN_OK = 0 ∧ s.xinCounted.rd Reg.CLK_STAT_HOLDOVER = 1
    ∧ s.xinCounted.rd Reg.CLK_EVENTS_XIN_LOST = s.oneMore Reg.CLK_EVENTS_XIN_LOST := by
  have hold (t : State) {f : Fld} (hw : f.within) (hf : Reg.CLK_STAT_HOLDOVER.apart f) : (t.wr Reg.CLK_STAT_HOLDOVER 1).rd f = t.rd f :=
    State.rd_wr_apart _ _ (by decide) hw hf
  refine ⟨?_, ?_, (State.rd_inc_same _ (by decide)).trans (State.oneMore_congr ?_)⟩
  · exact (State.rd_wr_apart _ _ (by decide) (by decide) (by decide)).trans ((hold _ (by decide) (by decide)).trans
      (State.rd_wr_same s 0 (by decide)))
  · exact (State.rd_wr_apart _ _ (by decide) (by decide) (by decide)).trans (State.rd_wr_same _ 1 (by decide))
  · exact (hold _ (by decide) (by decide)).trans (State.rd_wr_apart s 0 (by decide) (by decide) (by decide))

theorem State.xinGoes_shows : s.xinGoes.rd Reg.CLK_STAT_XIN_OK = 0 ∧ s.xinGoes.rd Reg.CLK_STAT_HOLDOVER = 1
    ∧ (∀ b < 4, s.xinGoes.rd (Reg.TIME_BASE_HOLDOVER b) = 1) ∧ s.xinGoes.rd Reg.CLK_EVENTS_XIN_LOST = s.oneMore Reg.CLK_EVENTS_XIN_LOST := by
  obtain ⟨h0, h1, hc⟩ := s.xinCounted_shows
  exact ⟨(s.rd_xinGoes (by decide) (by decide)).trans h0, (s.rd_xinGoes (by decide) (by decide)).trans h1, fun b hb => State.rd_wrHoldovers _ _ hb,
    (s.rd_xinGoes (by decide) (by decide)).trans hc⟩

end

section

variable {s : State}

theorem exec_xinLost (hr : s.power.region ≠ .off) (hx : s.clk.xinGone = false) : exec .xinLost s
    = .next (if s.running then State.raise { ({ s with out := [] } : State).xinGoes with
        clk := { s.clk with xinGone := true, xinStages := some 5 } } Code.CLK_REF_LOST .f3 else ({ s with out := [] } : State).xinGoes) := by
  have hn : ¬(s.power.region = .off ∨ s.clk.xinGone = true) := by simp [hr, hx]
  show execXinLost s = _
  unfold execXinLost
  rw [always_eq]
  exact congrArg Host.Outcome.next (if_neg hn)

theorem State.full_of_running (h : s.running = true) : s.power.region = .full := by
  simp only [State.running, Bool.and_eq_true, decide_eq_true_eq] at h
  obtain ⟨⟨hf, -⟩, -⟩ := h
  exact hf

theorem xinLost_running (hr : s.running = true) (hx : s.clk.xinGone = false) (hl : s.f3Latched Code.CLK_REF_LOST = false) :
    ∃ t, exec .xinLost s = .next t
      ∧ t = { s with regs := t.regs, out := [], flt := { s.flt with pending := t.flt.pending },
                     clk := { s.clk with xinGone := true, xinStages := some 5 } }
      ∧ t.rd Reg.CLK_STAT_XIN_OK = 0 ∧ t.rd Reg.CLK_STAT_HOLDOVER = 1 ∧ (∀ b : Nat, b < 4 → t.rd (Reg.TIME_BASE_HOLDOVER b) = 1)
      ∧ t.rd Reg.CLK_EVENTS_XIN_LOST = s.oneMore Reg.CLK_EVENTS_XIN_LOST ∧ FaultDue t Code.CLK_REF_LOST
      ∧ Keeps s t ([Reg.CLK_STAT_XIN_OK, Reg.CLK_STAT_HOLDOVER, Reg.CLK_EVENTS_XIN_LOST] ++ (List.range 4).map Reg.TIME_BASE_HOLDOVER) := by
  have he := exec_xinLost (s := s) (by rw [s.full_of_running hr]; decide) hx
  rw [if_pos hr] at he
  obtain ⟨v, hv⟩ : ∃ v : State, v = ({ s with out := [] } : State).xinGoes := ⟨_, rfl⟩
  obtain ⟨u, hu⟩ : ∃ u : State, u = { v with clk := { s.clk with xinGone := true, xinStages := some 5 } } := ⟨_, rfl⟩
  rw [← hv, ← hu] at he
  obtain ⟨h0, h1, hb, hc⟩ := hv ▸ State.xinGoes_shows { s with out := [] }
  have hk : Keeps s u xinLostFlds := (hv ▸ (Keeps.xinGoes { s with out := [] }).fresh).congr (hu ▸ rfl)
  have hrd (f : Fld) : (u.raise Code.CLK_REF_LOST .f3).rd f = v.rd f :=
    (State.rd_congr (State.raise_regs _ _ _ _ _ _) f).trans (State.rd_congr (hu ▸ rfl) f)
  refine ⟨u.raise Code.CLK_REF_LOST .f3, he, ?_, (hrd _).trans h0, (hrd _).trans h1, fun b hb' => (hrd _).trans (hb b hb'), (hrd _).trans hc, ?_,
    hk.raise _ _ _ _ _⟩
  · obtain ⟨p, e⟩ := u.raise_upd Code.CLK_REF_LOST .f3 0 [] false
    obtain ⟨l, ev⟩ := State.xinGoes_upd { s with out := [] }
    rw [e, hu, hv, ev]
  · exact State.raise_due _ fun _ => (State.f3Latched_congr hk _ (by decide)).trans hl

theorem xinLost_stopped (hr : s.power.region ≠ .off) (hrun : s.running = false) (hx : s.clk.xinGone = false) :
    ∃ t, exec .xinLost s = .next t ∧ t = { s with regs := t.regs, out := [], clk := { s.clk with xinGone := true } }
      ∧ t.rd Reg.CLK_STAT_XIN_OK = 0 ∧ t.rd Reg.CLK_STAT_HOLDOVER = 1 ∧ (∀ b : Nat, b < 4 → t.rd (Reg.TIME_BASE_HOLDOVER b) = 1)
      ∧ t.rd Reg.CLK_EVENTS_XIN_LOST = s.oneMore Reg.CLK_EVENTS_XIN_LOST := by
  have he := exec_xinLost hr hx
  rw [if_neg (Bool.eq_false_iff.mp hrun)] at he
  exact ⟨_, he, rfl, State.xinGoes_shows { s with out := [] }⟩

end

/-! ### XIN_RETURN -/

/-- XIN is back: XIN_OK is set, and HOLDOVER clears where it may. -/
def State.xinBack (s : State) : State := ((s.wr Reg.CLK_STAT_XIN_OK 1).wr Reg.CLK_STAT_HOLDOVER 0).releaseBases

/-- What HOLDOVER of a base becomes: GRID_TIME keeps it in its own HOLDOVER and in keep-alive. -/
def State.heldBack (s : State) (b : Nat) : Nat := if b == 0 && decide (s.power.region = .keepAlive ∨ s.rd Reg.TIME_GRID_STAT_STATE = 3) then 1 else 0

section

variable (s : State)

theorem State.releaseBases_eq : s.releaseBases = s.wrHoldovers s.heldBack := rfl

/-- XIN_OK is set and HOLDOVER of the clocks is cleared. -/
def State.xinThere (s : State) : State := (s.wr Reg.CLK_STAT_XIN_OK 1).wr Reg.CLK_STAT_HOLDOVER 0

theorem State.xinBack_eq : s.xinBack = s.xinThere.wrHoldovers s.xinThere.heldBack := State.releaseBases_eq _

theorem State.xinBack_upd : ∃ l, s.xinBack = { s with regs := l } := by
  obtain ⟨l, e⟩ := s.xinThere.wrHoldovers_upd s.xinThere.heldBack
  exact ⟨l, (State.xinBack_eq s).trans e⟩

theorem Keeps.xinBack : Keeps s s.xinBack ([Reg.CLK_STAT_XIN_OK, Reg.CLK_STAT_HOLDOVER] ++ holdoverFlds) := by
  rw [State.xinBack_eq]
  exact Keeps.wrHoldovers (((Keeps.refl s _).wr 1 (by decide) (by decide)).wr 0 (by decide) (by decide)) _ (by decide)

theorem State.xinThere_shows : s.xinThere.rd Reg.CLK_STAT_XIN_OK = 1 ∧ s.xinThere.rd Reg.CLK_STAT_HOLDOVER = 0 ∧ s.xinThere.heldBack = s.heldBack := by
  have hstate : s.xinThere.rd Reg.TIME_GRID_STAT_STATE = s.rd Reg.TIME_GRID_STAT_STATE :=
    (State.rd_wr_elsewhere _ _ (by decide)).trans (State.rd_wr_elsewhere _ _ (by decide))
  have hpower : s.xinThere.power = s.power := rfl
  refine ⟨(State.rd_wr_apart _ _ (by decide) (by decide) (by decide)).trans (State.rd_wr_same s 1 (by decide)), State.rd_wr_same _ 0 (by decide), ?_⟩
  funext b
  unfold State.heldBack
  rw [hstate, hpower]

theorem State.xinBack_shows : s.xinBack.rd Reg.CLK_STAT_XIN_OK = 1 ∧ s.xinBack.rd Reg.CLK_STAT_HOLDOVER = 0
    ∧ ∀ b < 4, s.xinBack.rd (Reg.TIME_BASE_HOLDOVER b) = s.heldBack b := by
  obtain ⟨h1, h0, hheld⟩ := s.xinThere_shows
  have hk : Keeps s.xinThere s.xinBack holdoverFlds := by
    rw [State.xinBack_eq]
    exact Keeps.wrHoldovers (Keeps.refl _ _) _ fun _ h => h
  refine ⟨(hk _ (by decide) (by decide)).trans h1, (hk _ (by decide) (by decide)).trans h0, fun b hb => ?_⟩
  rw [State.xinBack_eq, State.rd_wrHoldovers _ _ hb, hheld]
  unfold State.heldBack
  split <;> rfl

theorem State.timesOn_upd (e : Nat) : ∃ l c, s.timesOn e = { s with regs := l, clk := { s.clk with gridRest := c } } := ⟨_, _, rfl⟩

end

section

variable {s : State}

/-- The bases and the locks as they are at the return: after a stop they have gone on, and every PLL is locked. -/
def State.xinResumed (s : State) (e : Nat) : State := if s.clk.stopped then (s.timesOn e).wr Reg.CLK_STAT_LOCKED 15 else s

theorem exec_xinReturn (hr : s.power.region = .full) (hx : s.clk.xinGone = true) (e : Nat) : exec (.xinReturn e) s
    = .next (State.xinBack { ({ s with out := [] } : State).xinResumed e with
        clk := { (({ s with out := [] } : State).xinResumed e).clk with xinGone := false, xinStages := none, stopped := false } }) := by
  have hn : ¬(s.power.region = .off ∨ (!s.clk.xinGone) = true) := by simp [hr, hx]
  show execXinReturn e s = _
  unfold execXinReturn
  rw [always_eq]
  exact congrArg Host.Outcome.next (if_neg hn)

theorem xinReturn_stopped (hr : s.power.region = .full) (hx : s.clk.xinGone = true) (hs : s.clk.stopped = true) (e : Nat) :
    ∃ t, exec (.xinReturn e) s = .next t ∧ t.clk.stopped = false ∧ t.clk.xinGone = false ∧ t.rd Reg.CLK_STAT_LOCKED = 15
      ∧ t.rd Reg.CLK_STAT_XIN_OK = 1 ∧ t.rd Reg.CLK_STAT_HOLDOVER = 0 ∧ t.mem = s.mem ∧ t.ses = s.ses ∧ t.flt = s.flt := by
  have hres : ({ s with out := [] } : State).xinResumed e = (({ s with out := [] } : State).timesOn e).wr Reg.CLK_STAT_LOCKED 15 := if_pos hs
  obtain ⟨l, c, et⟩ := ({ s with out := [] } : State).timesOn_upd e
  obtain ⟨v, hv⟩ : ∃ v : State, v = ({ s with out := [] } : State).timesOn e := ⟨_, rfl⟩
  have he := exec_xinReturn hr hx e
  rw [hres, ← hv] at he
  rw [← hv] at et
  obtain ⟨u, hu⟩ : ∃ u : State, u = { v.wr Reg.CLK_STAT_LOCKED 15 with
    clk := { (v.wr Reg.CLK_STAT_LOCKED 15).clk with xinGone := false, xinStages := none, stopped := false } } := ⟨_, rfl⟩
  rw [← hu] at he
  have hlock : u.rd Reg.CLK_STAT_LOCKED = 15 := (State.rd_congr (hu ▸ rfl) _).trans (State.rd_wr_same v 15 (by decide))
  obtain ⟨h1, h0, -⟩ := u.xinBack_shows
  obtain ⟨lb, eb⟩ := u.xinBack_upd
  have hend : u.xinBack.clk.stopped = false ∧ u.xinBack.clk.xinGone = false ∧ u.xinBack.mem = s.mem ∧ u.xinBack.ses = s.ses ∧ u.xinBack.flt = s.flt := by
    rw [eb, hu, et]
    exact ⟨rfl, rfl, rfl, rfl, rfl⟩
  obtain ⟨hstop, hgone, hrest⟩ := hend
  exact ⟨_, he, hstop, hgone, ((Keeps.xinBack u) _ (by decide) (by decide)).trans hlock, h1, h0, hrest⟩

theorem xinReturn_running (hr : s.power.region = .full) (hx : s.clk.xinGone = true) (hs : s.clk.stopped = false) (e : Nat) :
    ∃ t, exec (.xinReturn e) s = .next t
      ∧ t = { s with regs := t.regs, out := [], clk := { s.clk with xinGone := false, xinStages := none } }
      ∧ t.rd Reg.CLK_STAT_XIN_OK = 1 ∧ t.rd Reg.CLK_STAT_HOLDOVER = 0
      ∧ (∀ b : Nat, b < 4 → t.rd (Reg.TIME_BASE_HOLDOVER b) = (if b = 0 ∧ s.rd Reg.TIME_GRID_STAT_STATE = 3 then 1 else 0))
      ∧ Keeps s t ([Reg.CLK_STAT_XIN_OK, Reg.CLK_STAT_HOLDOVER] ++ (List.range 4).map Reg.TIME_BASE_HOLDOVER) := by
  have hres : ({ s with out := [] } : State).xinResumed e = { s with out := [] } := if_neg (by rw [hs]; decide)
  have he := exec_xinReturn hr hx e
  rw [hres] at he
  obtain ⟨u, hu⟩ : ∃ u : State, u = { s with out := [], clk := { s.clk with xinGone := false, xinStages := none, stopped := false } } := ⟨_, rfl⟩
  rw [← hu] at he
  have hk : Keeps s u ([Reg.CLK_STAT_XIN_OK, Reg.CLK_STAT_HOLDOVER] ++ holdoverFlds) := hu ▸ Keeps.of_regs rfl _
  have hheld (b : Nat) : u.heldBack b = if b = 0 ∧ s.rd Reg.TIME_GRID_STAT_STATE = 3 then 1 else 0 := by
    have hreg : u.power.region = .full := hu ▸ hr
    have hst : u.rd Reg.TIME_GRID_STAT_STATE = s.rd Reg.TIME_GRID_STAT_STATE := hu ▸ State.rd_congr rfl _
    simp [State.heldBack, hreg, hst]
  obtain ⟨h1, h0, hb⟩ := u.xinBack_shows
  refine ⟨_, he, ?_, h1, h0, fun b h => (hb b h).trans (hheld b), hk.trans (Keeps.xinBack u)⟩
  obtain ⟨lb, eb⟩ := u.xinBack_upd
  rw [eb, hu, ← hs]

end

/-! ### The end of a ramp's segment (R72) -/

/-- The fields in which the end of a segment shows. -/
def segmentFlds (g : Fin 2) : List Fld :=
  [Reg.CLK_RAMP_STAT_CUR_SEG g, Reg.CLK_RAMP_STAT_CUR_OFFSET g, Reg.CLK_STAT_RAMP_SYS, Reg.CLK_STAT_RAMP_LANE, Reg.CLK_SYS_NOW_OFFSET_PPM]

theorem rampFlds_segmentFlds : ∀ g : Fin 2, ∀ f ∈ rampFlds g, f ∈ segmentFlds g := by decide

theorem curSeg_within : ∀ g : Fin 2, (Reg.CLK_RAMP_STAT_CUR_SEG g).within ∧ (Reg.CLK_RAMP_STAT_CUR_SEG g).msb = 23
    ∧ (Reg.CLK_RAMP_STAT_CUR_SEG g).lsb = 20 ∧ ∀ f ∈ rampFlds g, f.apart (Reg.CLK_RAMP_STAT_CUR_SEG g) := by decide

/-- The generator at the end of its segment: at the segment's end offset, with the time that this took spent. -/
def State.segmentGen (s : State) (g : Fin 2) : RampGen :=
  { s.ramp g with milli := s.rampEnd g, heldNs := 0, spent := (s.ramp g).spent + (s.rampNeeds g).getD 0 }

/-- The generator goes on with a segment. -/
def State.toSegment (s : State) (g : Fin 2) (n : Nat) : State := (s.wr (Reg.CLK_RAMP_STAT_CUR_SEG g) n).setRamp g (s.segmentGen g)

/-- The profile is over after its last segment. -/
def State.profileEnd (s : State) (g : Fin 2) : State := s.setRamp g { s.segmentGen g with running := false }

section

variable (s : State) (g : Fin 2)

theorem State.running_of_segmentEnds (h : s.segmentEnds g = true) : (s.ramp g).running = true := by
  unfold State.segmentEnds at h
  split at h
  · exact ((Bool.and_eq_true _ _).mp h).1
  · exact absurd h (by decide)

theorem State.toSegment_upd (n : Nat) : ∃ l c, s.toSegment g n = { s with regs := l, clk := c } := by
  obtain ⟨l, e⟩ := State.setRamp_upd (s.wr (Reg.CLK_RAMP_STAT_CUR_SEG g) n) g (s.segmentGen g)
  exact ⟨_, _, e⟩

theorem State.profileEnd_upd : ∃ l c, s.profileEnd g = { s with regs := l, clk := c } := by
  obtain ⟨l, e⟩ := State.setRamp_upd s g { s.segmentGen g with running := false }
  exact ⟨_, _, e⟩

theorem Keeps.toSegment (n : Nat) : Keeps s (s.toSegment g n) (segmentFlds g) :=
  ((Keeps.refl s _).wr n List.mem_cons_self (curSeg_within g).1).setRamp g _ (rampFlds_segmentFlds g)

theorem Keeps.profileEnd : Keeps s (s.profileEnd g) (segmentFlds g) := (Keeps.refl s _).setRamp g _ (rampFlds_segmentFlds g)

theorem State.rd_curSeg_setRamp (r : RampGen) : (s.setRamp g r).rd (Reg.CLK_RAMP_STAT_CUR_SEG g) = s.rd (Reg.CLK_RAMP_STAT_CUR_SEG g) := by
  obtain ⟨hw, -, -, ha⟩ := curSeg_within g
  exact (Keeps.refl s (rampFlds g)).setRamp g r (fun _ h => h) _ hw ha

theorem State.curSeg_toSegment {n : Nat} (hn : n < 16) : (s.toSegment g n).rd (Reg.CLK_RAMP_STAT_CUR_SEG g) = n := by
  obtain ⟨hw, hm, hl, -⟩ := curSeg_within g
  refine (State.rd_curSeg_setRamp _ g _).trans ((State.rd_wr_same s n hw).trans (Nat.mod_eq_of_lt ?_))
  rw [hm, hl]
  exact hn

end

theorem exec_rampSegmentEnd {s : State} (hr : s.running = true) (g : Fin 2) (h : s.segmentEnds g = true) : exec (.rampSegmentEnd g) s
    = .next (if s.rd (Reg.CLK_RAMP_STAT_CUR_SEG g) + 1 < s.rd (Reg.CLK_RAMP_SEG_COUNT g)
        then ({ s with out := [] } : State).toSegment g (s.rd (Reg.CLK_RAMP_STAT_CUR_SEG g) + 1)
      else if s.flag (Reg.CLK_RAMP_REPEAT g) then ({ s with out := [] } : State).toSegment g 0 else ({ s with out := [] } : State).profileEnd g) := by
  have hn : ¬((!s.segmentEnds g) = true) := by simp [h]
  show execRampSegmentEnd g s = _
  unfold execRampSegmentEnd
  rw [onRun_eq hr]
  exact congrArg Host.Outcome.next (if_neg hn)

theorem rampSegmentEnd_ends {s : State} (hr : s.running = true) (g : Fin 2) (h : s.segmentEnds g = true) :
    ∃ t, exec (.rampSegmentEnd g) s = .next t ∧ t = { s with regs := t.regs, out := [], clk := t.clk }
      ∧ (t.ramp g).milli = s.rampEnd g
      ∧ (s.rd (Reg.CLK_RAMP_STAT_CUR_SEG g) + 1 < s.rd (Reg.CLK_RAMP_SEG_COUNT g) → s.rd (Reg.CLK_RAMP_SEG_COUNT g) ≤ 16 →
          (t.ramp g).running = true ∧ t.rd (Reg.CLK_RAMP_STAT_CUR_SEG g) = s.rd (Reg.CLK_RAMP_STAT_CUR_SEG g) + 1)
      ∧ (s.rd (Reg.CLK_RAMP_SEG_COUNT g) ≤ s.rd (Reg.CLK_RAMP_STAT_CUR_SEG g) + 1 → s.rd (Reg.CLK_RAMP_REPEAT g) = 0 →
          (t.ramp g).running = false ∧ t.rd (Reg.CLK_RAMP_STAT_CUR_SEG g) = s.rd (Reg.CLK_RAMP_STAT_CUR_SEG g))
      ∧ (s.rd (Reg.CLK_RAMP_SEG_COUNT g) ≤ s.rd (Reg.CLK_RAMP_STAT_CUR_SEG g) + 1 → s.rd (Reg.CLK_RAMP_REPEAT g) = 1 →
          (t.ramp g).running = true ∧ t.rd (Reg.CLK_RAMP_STAT_CUR_SEG g) = 0)
      ∧ Keeps s t (segmentFlds g) := by
  have hrun := s.running_of_segmentEnds g h
  have he := exec_rampSegmentEnd hr g h
  obtain ⟨u, hu⟩ : ∃ u : State, u = { s with out := [] } := ⟨_, rfl⟩
  rw [← hu] at he
  have hgen : u.segmentGen g = s.segmentGen g := hu ▸ rfl
  have hseg : u.rd (Reg.CLK_RAMP_STAT_CUR_SEG g) = s.rd (Reg.CLK_RAMP_STAT_CUR_SEG g) := hu ▸ rfl
  have hk : Keeps s u (segmentFlds g) := hu ▸ Keeps.of_regs rfl _
  have hto (n : Nat) : u.toSegment g n = { s with regs := (u.toSegment g n).regs, out := [], clk := (u.toSegment g n).clk }
      ∧ ((u.toSegment g n).ramp g) = s.segmentGen g := by
    obtain ⟨l, c, e⟩ := u.toSegment_upd g n
    exact ⟨by rw [e, hu], (State.ramp_setRamp_same _ g _).trans hgen⟩
  by_cases hlast : s.rd (Reg.CLK_RAMP_STAT_CUR_SEG g) + 1 < s.rd (Reg.CLK_RAMP_SEG_COUNT g)
  · rw [if_pos hlast] at he
    obtain ⟨heq, hramp⟩ := hto (s.rd (Reg.CLK_RAMP_STAT_CUR_SEG g) + 1)
    refine ⟨_, he, heq, hramp ▸ rfl, fun _ h16 => ⟨hramp ▸ hrun, u.curSeg_toSegment g (by omega)⟩, fun hc => ?_, fun hc => ?_,
      hk.trans (Keeps.toSegment u g _)⟩
    · omega
    · omega
  · rw [if_neg hlast] at he
    by_cases hrep : s.flag (Reg.CLK_RAMP_REPEAT g) = true
    · rw [if_pos hrep] at he
      have hone := (s.flag_iff (f := Reg.CLK_RAMP_REPEAT g) rfl).mp hrep
      obtain ⟨heq, hramp⟩ := hto 0
      refine ⟨_, he, heq, hramp ▸ rfl, fun hc => absurd hc hlast, fun _ hz => ?_, fun _ _ => ⟨hramp ▸ hrun, u.curSeg_toSegment g (by decide)⟩,
        hk.trans (Keeps.toSegment u g _)⟩
      omega
    · rw [if_neg hrep] at he
      have hzero : s.rd (Reg.CLK_RAMP_REPEAT g) ≠ 1 := fun h1 => hrep ((s.flag_iff (f := Reg.CLK_RAMP_REPEAT g) rfl).mpr h1)
      have hramp : (u.profileEnd g).ramp g = { s.segmentGen g with running := false } := hgen ▸ State.ramp_setRamp_same u g _
      obtain ⟨l, c, e⟩ := u.profileEnd_upd g
      refine ⟨_, he, ?_, hramp ▸ rfl, fun hc => absurd hc hlast, fun _ _ => ⟨hramp ▸ rfl, (State.rd_curSeg_setRamp u g _).trans hseg⟩,
        fun _ h1 => absurd h1 hzero, hk.trans (Keeps.profileEnd u g)⟩
      rw [e, hu]

/-! ### The ends of the lane spread and of the reference's return (R74, R75) -/

theorem laneSpreadEnd_ends {s : State} (hr : s.running = true) (h : s.spreadEnds = true) :
    ∃ t, exec .laneSpreadEnd s = .next t
      ∧ t = { s with regs := t.regs, out := [], clk := { s.clk with spread := .off, rampLane := RampGen.at 0 } }
      ∧ t.rd (Reg.CLK_RAMP_STAT_CUR_OFFSET 1) = 0 ∧ t.rd Reg.CLK_STAT_RAMP_LANE = 0
      ∧ Keeps s t [Reg.CLK_RAMP_STAT_CUR_OFFSET 1, Reg.CLK_STAT_RAMP_LANE] := by
  obtain ⟨u, hu⟩ : ∃ u : State, u = { s with out := [], clk := { s.clk with spread := .off } } := ⟨_, rfl⟩
  have he : exec .laneSpreadEnd s = .next (u.setRamp 1 (RampGen.at 0)) := by
    show execLaneSpreadEnd s = _
    unfold execLaneSpreadEnd
    rw [onRun_eq hr, hu]
    exact congrArg Host.Outcome.next (if_pos h)
  have hk : Keeps s u (rampFlds 1) := hu ▸ Keeps.of_regs rfl _
  have hlane : (u.setRamp 1 (RampGen.at 0)).rd Reg.CLK_STAT_RAMP_LANE = 0 :=
    (u.rd_rampLane_setRamp _).trans (by rw [hu]; rfl)
  refine ⟨_, he, ?_, ?_, hlane, hk.setRamp 1 _ fun _ h => h⟩
  · obtain ⟨l, e⟩ := u.setRamp_upd 1 (RampGen.at 0)
    rw [e, hu]
    rfl
  · exact (State.rd_wr_elsewhere _ _ (by decide)).trans (State.rd_wr_same _ _ (by decide))

theorem laneRefReturnDone_ends {s : State} (hr : s.running = true) (hsrc : s.rd Reg.CLK_LANE_REF_SOURCE = 3)
    (hback : (s.tickLaneBack s.tsNs).clk.laneBack.getD 0 = 0) :
    ∃ t, exec .laneRefReturnDone s = .next t ∧ t = { s with regs := t.regs, out := [], clk := { s.clk with laneBack := none } }
      ∧ t.rd Reg.CLK_LANE_REF_SOURCE = 0 ∧ Keeps s t [Reg.CLK_LANE_REF_SOURCE] := by
  obtain ⟨u, hu⟩ : ∃ u : State, u = { s with out := [], clk := { s.clk with laneBack := none } } := ⟨_, rfl⟩
  have he : exec .laneRefReturnDone s = .next (u.wr Reg.CLK_LANE_REF_SOURCE 0) := by
    show execLaneRefReturnDone s = _
    unfold execLaneRefReturnDone
    rw [onRun_eq hr, hu]
    exact congrArg Host.Outcome.next (if_pos ⟨hsrc, hback⟩)
  have hk : Keeps s u [Reg.CLK_LANE_REF_SOURCE] := hu ▸ Keeps.of_regs rfl _
  exact ⟨_, he, by rw [hu]; rfl, State.rd_wr_same u 0 (by decide), hk.wr 0 (by decide) (by decide)⟩

/-- Settles O9: each of the five events shows what it says, and leaves the rest. -/
theorem referenceAndRamps : Obligations.ReferenceAndRamps := by
  unfold Obligations.ReferenceAndRamps
  exact ⟨fun _ hr hx hl => xinLost_running hr hx hl, fun _ hr hrun hx => xinLost_stopped hr hrun hx, fun _ e hr hx hs => xinReturn_stopped hr hx hs e,
    fun _ e hr hx hs => xinReturn_running hr hx hs e, fun _ g hr h => rampSegmentEnd_ends hr g h, fun _ hr h => laneSpreadEnd_ends hr h,
    fun _ hr hsrc hback => laneRefReturnDone_ends hr hsrc hback⟩

end Sys2Proof.Machine
end

section
/-! SUPPORT. The writes of SET that act: what a ramp generator, a loop slot, a management cycle and a message object show after theirs, and what
the taking of the packet and the reply leave of that. -/

namespace Sys2Proof.Machine

open Sys2Proof

/-! ### Fields given by their bounds -/

theorem Fld.within_mk {a m l : Nat} (h : l ≤ m ∧ m < 32 := by decide) : (⟨a, m, l⟩ : Fld).within := h

/-- Bits that do not overlap are apart in any word. -/
theorem State.rd_wr_bits (s : State) {a a' m l m' l' v : Nat} (h : (l ≤ m ∧ m < 32) ∧ (l' ≤ m' ∧ m' < 32) ∧ (m < l' ∨ m' < l) := by decide) :
    (s.wr ⟨a, m, l⟩ v).rd ⟨a', m', l'⟩ = s.rd ⟨a', m', l'⟩ := by
  obtain ⟨hw, hw', hbits⟩ := h
  exact State.rd_wr_apart s v hw hw' (.inr hbits)

/-- The command path shows itself in the words of CMD_SESSION and of the ports' counts. -/
theorem sessionFlds_addr : ∀ i : Fin 4, ∀ f ∈ sessionFlds i, f.addr < 0x04000000 ∧ 0x03000000 ≤ f.addr ∨ f.addr < 0x0D000200 ∧ 0x0D000000 ≤ f.addr := by
  decide

/-- A field that the command path does not show: in none of those words. -/
def Fld.quiet (f : Fld) : Prop := ¬(f.addr < 0x04000000 ∧ 0x03000000 ≤ f.addr) ∧ ¬(f.addr < 0x0D000200 ∧ 0x0D000000 ≤ f.addr)

theorem Fld.quiet.apart {g : Fld} (h : g.quiet) (i : Fin 4) : ∀ f ∈ sessionFlds i, f.apart g := by
  intro f hf
  obtain ⟨h3, hd⟩ := h
  refine Or.inl fun e => ?_
  rcases sessionFlds_addr i f hf with hs | hs
  · exact h3 (e ▸ hs)
  · exact hd (e ▸ hs)

theorem Keeps.quiet {s t : State} {i : Fin 4} (h : Keeps s t (sessionFlds i)) {f : Fld} (hw : f.within) (hq : f.quiet) : t.rd f = s.rd f :=
  h f hw (hq.apart i)

theorem State.rd_taken_quiet (s : State) (r : Req) {f : Fld} (hw : f.within) (hq : f.quiet) : (s.taken r).rd f = s.rd f :=
  (Keeps.taken s r).quiet hw hq

theorem State.flag_congr {s t : State} {f : Fld} (h : t.rd f = s.rd f) : t.flag f = s.flag f := by
  unfold State.flag
  rw [h]

/-! ### A verb that writes registers and the clocks' or the networks' part -/

theorem Keeps.stage {s t : State} {fs : List Fld} (h : Keeps s t fs) (hf : ∀ f ∈ fs, f.addr ≠ 0x01001000 ∧ f.addr ≠ 0x01001004) :
    t.stage = s.stage := by
  unfold State.stage
  rw [h Reg.CLK_STAGE_COUNT_COUNT_HI (by decide) fun f hm => Or.inl (hf f hm).1,
    h Reg.CLK_STAGE_COUNT_COUNT_LO (by decide) fun f hm => Or.inl (hf f hm).2]

/-- A ready verb that is done at once and writes registers, the clocks and the networks. -/
theorem execVerb_wrote {s : State} {r : Req} {verb : Nat} (h : Ready s r verb) (hm : moodAllowed verb 1 = true) (cmd : Instr) {act : Action}
    {u : State} {fs : List Fld} {c : Clock} {n : Net} (ha : act (s.taken r) = u.ok)
    (hu : u = { s.taken r with regs := u.regs, clk := c, net := n }) (hk : Keeps (s.taken r) u fs)
    (hf : ∀ f ∈ fs, f.addr ≠ 0x01001000 ∧ f.addr ≠ 0x01001004) :
    ∃ t, execVerb s r verb 0 false cmd act = .next t ∧ Completed s t r verb 0 Status.OK [] s.stage
      ∧ t = { s with regs := t.regs, ses := t.ses, turn := r.session, canTx := t.canTx, out := t.out, clk := c, net := n }
      ∧ Keeps s t (fs ++ sessionFlds r.session) ∧ Keeps u t (sessionFlds r.session) := by
  have hses : u.ses = (s.taken r).ses := by rw [hu]
  have hduo : u.duo = (s.taken r).duo := by rw [hu]
  have hact : act (s.taken r) = ⟨Status.OK, [], u, none, s.stage⟩ := by
    rw [ha, State.ok, hk.stage hf, State.stage_taken]
  obtain ⟨t, ht, hc, hr⟩ := execVerb_done (flags := 0) h hm false cmd hact (h.serves hses hduo)
  obtain ⟨hupd, hkeeps, -⟩ := hr
  have hkt : Keeps s u (fs ++ sessionFlds r.session) :=
    ((Keeps.taken s r).mono fun _ h => List.mem_append_right _ h).trans (hk.mono fun _ h => List.mem_append_left _ h)
  refine ⟨t, ht, hc, ?_, hkt.trans (hkeeps.mono fun _ h => List.mem_append_right _ h), hkeeps⟩
  obtain ⟨l, x, e⟩ := State.taken_upd s r
  rw [e] at hu
  rw [hu] at hupd
  exact hupd

theorem State.taken_clk (s : State) (r : Req) : (s.taken r).clk = s.clk := by obtain ⟨l, x, e⟩ := State.taken_upd s r; rw [e]
theorem State.taken_net (s : State) (r : Req) : (s.taken r).net = s.net := by obtain ⟨l, x, e⟩ := State.taken_upd s r; rw [e]

theorem State.ramp_congr {s t : State} (h : t.clk = s.clk) (g : Fin 2) : t.ramp g = s.ramp g := by
  unfold State.ramp
  rw [h]

theorem State.canRun_congr {s t : State} (h : t.net = s.net) (c : Fin 2) : t.canRun c = s.canRun c := by
  unfold State.canRun
  rw [h]

section

variable {s : State} {r : Req} (h : Ready s r Verb.SET)
include h

/-- A SET that is refused. -/
theorem set_refused (cmd : Instr) {act : Action} {st : Nat} (ha : act (s.taken r) = (s.taken r).no st) :
    ∃ t, execVerb s r Verb.SET 0 false cmd act = .next t ∧ Completed s t r Verb.SET 0 st [] s.stage
      ∧ t = { s with regs := t.regs, ses := t.ses, turn := r.session, canTx := t.canTx, out := t.out } ∧ Keeps s t (sessionFlds r.session) :=
  execVerb_no h (by decide) false cmd ha

/-- A SET that writes registers alone. -/
theorem set_wrote (cmd : Instr) {act : Action} {u : State} {fs : List Fld} (ha : act (s.taken r) = u.ok)
    (hu : u = { s.taken r with regs := u.regs }) (hk : Keeps (s.taken r) u fs) (hf : ∀ f ∈ fs, f.addr ≠ 0x01001000 ∧ f.addr ≠ 0x01001004) :
    ∃ t, execVerb s r Verb.SET 0 false cmd act = .next t ∧ Completed s t r Verb.SET 0 Status.OK [] s.stage
      ∧ t = { s with regs := t.regs, ses := t.ses, turn := r.session, canTx := t.canTx, out := t.out }
      ∧ Keeps s t (fs ++ sessionFlds r.session) ∧ Keeps u t (sessionFlds r.session) := by
  have hu' : u = { s.taken r with regs := u.regs, clk := s.clk, net := s.net } := by
    rw [← State.taken_clk s r, ← State.taken_net s r]
    exact hu
  exact execVerb_wrote h (by decide) cmd ha hu' hk hf

end

/-! ### Ramps (R72, R73, R97) -/

/-- The generator as START leaves it. -/
def State.rampStarted (s : State) (g : Fin 2) : State :=
  (s.wr (Reg.CLK_RAMP_STAT_CUR_SEG g) 0).setRamp g { s.ramp g with running := true, heldNs := 0, spent := 0 }

theorem segmentFlds_quiet : ∀ g : Fin 2, ∀ f ∈ segmentFlds g, f.addr ≠ 0x01001000 ∧ f.addr ≠ 0x01001004 := by decide

section

variable (s : State) (g : Fin 2)

theorem Keeps.rampStarted : Keeps s (s.rampStarted g) (segmentFlds g) :=
  ((Keeps.refl s _).wr 0 List.mem_cons_self (curSeg_within g).1).setRamp g _ (rampFlds_segmentFlds g)

theorem State.rampStarted_upd : ∃ l, s.rampStarted g
    = { s with regs := l, clk := s.clk.setRamp g { s.ramp g with running := true, heldNs := 0, spent := 0 } } := by
  obtain ⟨l, e⟩ := State.setRamp_upd (s.wr (Reg.CLK_RAMP_STAT_CUR_SEG g) 0) g { s.ramp g with running := true, heldNs := 0, spent := 0 }
  exact ⟨l, e⟩

theorem State.rampStarted_shows : (s.rampStarted g).rd (Reg.CLK_RAMP_STAT_CUR_SEG g) = 0
    ∧ (s.rampStarted g).rd (if g = 0 then Reg.CLK_STAT_RAMP_SYS else Reg.CLK_STAT_RAMP_LANE) = 1 := by
  refine ⟨(State.rd_curSeg_setRamp _ g _).trans ((State.rd_wr_same s 0 (curSeg_within g).1).trans (Nat.zero_mod _)), ?_⟩
  match g with
  | 0 => exact State.rd_rampSys_setRamp _ _
  | 1 => exact State.rd_rampLane_setRamp _ _

end

theorem rampShown_quiet : ∀ g : Fin 2, (Reg.CLK_RAMP_STAT_CUR_SEG g).within ∧ (Reg.CLK_RAMP_STAT_CUR_SEG g).addr < 0x03000000
    ∧ (if g = 0 then Reg.CLK_STAT_RAMP_SYS else Reg.CLK_STAT_RAMP_LANE).within
    ∧ (if g = 0 then Reg.CLK_STAT_RAMP_SYS else Reg.CLK_STAT_RAMP_LANE).addr < 0x03000000 := by decide

theorem Fld.quiet_low {f : Fld} (h : f.addr < 0x03000000) : f.quiet := ⟨fun c => absurd c.2 (by omega), fun c => absurd c.2 (by omega)⟩

section

variable {s : State} {r : Req} (h : Ready s r Verb.SET)
include h

theorem rampStart_runs (g : Fin 2) (hg : g = 0 ∨ s.clk.spread = .off) :
    ∃ t, exec (.rampStart r g) s = .next t ∧ Completed s t r Verb.SET 0 Status.OK [] s.stage
      ∧ t = { s with regs := t.regs, ses := t.ses, turn := r.session, canTx := t.canTx, out := t.out, clk := t.clk }
      ∧ t.ramp g = { s.ramp g with running := true, heldNs := 0, spent := 0 } ∧ (∀ k : Fin 2, k ≠ g → t.ramp k = s.ramp k)
      ∧ t.rd (Reg.CLK_RAMP_STAT_CUR_SEG g) = 0 ∧ t.rd (if g = 0 then Reg.CLK_STAT_RAMP_SYS else Reg.CLK_STAT_RAMP_LANE) = 1
      ∧ Keeps s t (segmentFlds g ++ sessionFlds r.session) := by
  have ha : actRampStart g (s.taken r) = ((s.taken r).rampStarted g).ok := by
    refine if_neg ?_
    rintro ⟨rfl, hs⟩
    rw [State.taken_clk] at hs
    rcases hg with hg | hg
    · exact absurd hg (by decide)
    · exact hs hg
  obtain ⟨u, hu⟩ : ∃ u : State, u = (s.taken r).rampStarted g := ⟨_, rfl⟩
  obtain ⟨l, e⟩ := (s.taken r).rampStarted_upd g
  rw [← hu] at e ha
  have hclk : u.clk = s.clk.setRamp g { s.ramp g with running := true, heldNs := 0, spent := 0 } := by
    rw [e, State.taken_clk, State.ramp_congr (State.taken_clk s r)]
  have heq : u = { s.taken r with regs := u.regs, clk := u.clk, net := s.net } := by rw [e, ← State.taken_net s r]
  obtain ⟨t, ht, hc, hupd, hk, hkt⟩ := execVerb_wrote h (by decide) (.rampStart r g) ha heq (hu ▸ Keeps.rampStarted _ g) (segmentFlds_quiet g)
  have hramp (k : Fin 2) : t.ramp k = (s.setRamp g { s.ramp g with running := true, heldNs := 0, spent := 0 }).ramp k :=
    State.ramp_congr (by rw [hupd, State.setRamp_clk, ← hclk]) k
  obtain ⟨hseg, hrun⟩ := (s.taken r).rampStarted_shows g
  obtain ⟨hw, hl, hw', hl'⟩ := rampShown_quiet g
  refine ⟨t, ht, hc, ?_, (hramp g).trans (State.ramp_setRamp_same _ _ _), fun k hk => (hramp k).trans (State.ramp_setRamp_other _ _ hk),
    (hkt.quiet hw (Fld.quiet_low hl)).trans (hu ▸ hseg), (hkt.quiet hw' (Fld.quiet_low hl')).trans (hu ▸ hrun), hk⟩
  have hck : t.clk = u.clk := by rw [hupd]
  rw [hck]
  exact hupd

theorem rampStart_spread (hs : s.clk.spread ≠ .off) :
    ∃ t, exec (.rampStart r 1) s = .next t ∧ Completed s t r Verb.SET 0 Status.STATE_REFUSED [] s.stage
      ∧ t = { s with regs := t.regs, ses := t.ses, turn := r.session, canTx := t.canTx, out := t.out } ∧ Keeps s t (sessionFlds r.session) :=
  set_refused h (.rampStart r 1) (act := actRampStart 1) (if_pos ⟨rfl, by rw [State.taken_clk]; exact hs⟩)

end

theorem abortFlds : ∀ g : Fin 2, (∀ f ∈ rampFlds g, f ∈ [Reg.CLK_RAMP_STAT_CUR_OFFSET g, Reg.CLK_STAT_RAMP_SYS, Reg.CLK_STAT_RAMP_LANE,
      Reg.CLK_SYS_NOW_OFFSET_PPM])
    ∧ ∀ f ∈ [Reg.CLK_RAMP_STAT_CUR_OFFSET g, Reg.CLK_STAT_RAMP_SYS, Reg.CLK_STAT_RAMP_LANE, Reg.CLK_SYS_NOW_OFFSET_PPM],
        f.addr ≠ 0x01001000 ∧ f.addr ≠ 0x01001004 := by decide

theorem rampAbort_stops {s : State} {r : Req} (h : Ready s r Verb.SET) (g : Fin 2) (hg : (s.ramp g).running = true) :
    ∃ t, exec (.rampAbort r g) s = .next t ∧ Completed s t r Verb.SET 0 Status.OK [] s.stage
      ∧ t = { s with regs := t.regs, ses := t.ses, turn := r.session, canTx := t.canTx, out := t.out, clk := t.clk }
      ∧ t.ramp g = { s.ramp g with running := false } ∧ (∀ k : Fin 2, k ≠ g → t.ramp k = s.ramp k)
      ∧ Keeps s t ([Reg.CLK_RAMP_STAT_CUR_OFFSET g, Reg.CLK_STAT_RAMP_SYS, Reg.CLK_STAT_RAMP_LANE, Reg.CLK_SYS_NOW_OFFSET_PPM]
          ++ sessionFlds r.session) := by
  have hsame : (s.taken r).ramp g = s.ramp g := State.ramp_congr (State.taken_clk s r) g
  have ha : actRampAbort g (s.taken r) = ((s.taken r).stopRamp g).ok := congrArg State.ok (if_pos (hsame ▸ hg))
  obtain ⟨u, hu⟩ : ∃ u : State, u = (s.taken r).stopRamp g := ⟨_, rfl⟩
  obtain ⟨l, e⟩ := (s.taken r).setRamp_upd g { (s.taken r).ramp g with running := false }
  rw [← hu] at ha
  replace e := hu.trans e
  obtain ⟨hflds, hquiet⟩ := abortFlds g
  have hclk : u.clk = s.clk.setRamp g { s.ramp g with running := false } := by rw [e, State.taken_clk, hsame]
  have heq : u = { s.taken r with regs := u.regs, clk := u.clk, net := s.net } := by rw [e, ← State.taken_net s r]
  obtain ⟨t, ht, hc, hupd, hk, -⟩ := execVerb_wrote h (by decide) (.rampAbort r g) ha heq (hu ▸ (Keeps.refl _ _).setRamp g _ hflds) hquiet
  have hramp (k : Fin 2) : t.ramp k = (s.setRamp g { s.ramp g with running := false }).ramp k :=
    State.ramp_congr (by rw [hupd, State.setRamp_clk, ← hclk]) k
  refine ⟨t, ht, hc, ?_, (hramp g).trans (State.ramp_setRamp_same _ _ _), fun k hk => (hramp k).trans (State.ramp_setRamp_other _ _ hk), hk⟩
  have hck : t.clk = u.clk := by rw [hupd]
  rw [hck]
  exact hupd

/-! ### LOOP_SLOT_MODE (R294) -/

/-- A slot has its mode and its manual output. -/
def State.slotMode (s : State) (n m v : Nat) : State := (s.wr (Reg.LOOP_SLOT_MODE_MODE n) m).wr (Reg.LOOP_SLOT_MODE_MAN_OUT n) v

theorem slotModeFlds_within (n : Nat) : (Reg.LOOP_SLOT_MODE_MODE n).within ∧ (Reg.LOOP_SLOT_MODE_MAN_OUT n).within :=
  ⟨Fld.within_mk, Fld.within_mk⟩

theorem slotModeFlds_quiet (n : Fin 2048) : (Reg.LOOP_SLOT_MODE_MODE n).quiet ∧ (Reg.LOOP_SLOT_MODE_MAN_OUT n).quiet := by
  have := n.isLt
  simp only [Fld.quiet, Reg.LOOP_SLOT_MODE_MODE, Reg.LOOP_SLOT_MODE_MAN_OUT]
  omega

theorem Keeps.slotMode (s : State) (n m v : Nat) : Keeps s (s.slotMode n m v) [Reg.LOOP_SLOT_MODE_MODE n, Reg.LOOP_SLOT_MODE_MAN_OUT n] := by
  obtain ⟨hm, hv⟩ := slotModeFlds_within n
  exact ((Keeps.refl s _).wr m List.mem_cons_self hm).wr v (List.mem_cons_of_mem _ List.mem_cons_self) hv

theorem State.slotMode_upd (s : State) (n m v : Nat) : s.slotMode n m v = { s with regs := (s.slotMode n m v).regs } := rfl

theorem State.slotMode_shows (s : State) (n : Nat) (m : BitVec 2) (v : Word) :
    (s.slotMode n m.toNat v.toNat).rd (Reg.LOOP_SLOT_MODE_MODE n) = m.toNat
      ∧ (s.slotMode n m.toNat v.toNat).rd (Reg.LOOP_SLOT_MODE_MAN_OUT n) = v.toNat := by
  obtain ⟨hm, hv⟩ := slotModeFlds_within n
  have hne : (Reg.LOOP_SLOT_MODE_MODE n).addr ≠ (Reg.LOOP_SLOT_MODE_MAN_OUT n).addr := by
    simp only [Reg.LOOP_SLOT_MODE_MODE, Reg.LOOP_SLOT_MODE_MAN_OUT]
    omega
  exact ⟨(State.rd_wr_elsewhere _ _ hne).trans ((State.rd_wr_same s _ hm).trans (Nat.mod_eq_of_lt m.isLt)),
    (State.rd_wr_same _ _ hv).trans (Nat.mod_eq_of_lt v.isLt)⟩

theorem loopSlotModeWrite_writes {s : State} {r : Req} (h : Ready s r Verb.SET) (n : Fin 2048) (m : BitVec 2) (v : Word) (hm : m = 1 ∨ m = 2) :
    ∃ t, exec (.loopSlotModeWrite r n m v) s = .next t ∧ Completed s t r Verb.SET 0 Status.OK [] s.stage
      ∧ t = { s with regs := t.regs, ses := t.ses, turn := r.session, canTx := t.canTx, out := t.out }
      ∧ t.rd (Reg.LOOP_SLOT_MODE_MODE n) = m.toNat ∧ t.rd (Reg.LOOP_SLOT_MODE_MAN_OUT n) = v.toNat
      ∧ Keeps s t ([Reg.LOOP_SLOT_MODE_MODE n, Reg.LOOP_SLOT_MODE_MAN_OUT n] ++ sessionFlds r.session) := by
  have hm' : ¬(m = 0 ∨ m = 3) := by rcases hm with rfl | rfl <;> decide
  have ha : actLoopSlotModeWrite n m v (s.taken r) = ((s.taken r).slotMode n m.toNat v.toNat).ok := if_neg hm'
  have hf : ∀ f ∈ [Reg.LOOP_SLOT_MODE_MODE n, Reg.LOOP_SLOT_MODE_MAN_OUT n], f.addr ≠ 0x01001000 ∧ f.addr ≠ 0x01001004 := by
    simp only [List.forall_mem_cons, Reg.LOOP_SLOT_MODE_MODE, Reg.LOOP_SLOT_MODE_MAN_OUT, List.not_mem_nil, false_implies, implies_true, and_true]
    omega
  obtain ⟨t, ht, hc, hupd, hk, hkt⟩ := set_wrote h (.loopSlotModeWrite r n m v) ha (State.slotMode_upd _ _ _ _) (Keeps.slotMode _ _ _ _) hf
  obtain ⟨hmode, hout⟩ := (s.taken r).slotMode_shows n m v
  obtain ⟨hwm, hwv⟩ := slotModeFlds_within n
  obtain ⟨hqm, hqv⟩ := slotModeFlds_quiet n
  exact ⟨t, ht, hc, hupd, (hkt.quiet hwm hqm).trans hmode, (hkt.quiet hwv hqv).trans hout, hk⟩

theorem loopSlotModeWrite_refused {s : State} {r : Req} (h : Ready s r Verb.SET) (n : Fin 2048) (m : BitVec 2) (v : Word) (hm : m = 0 ∨ m = 3) :
    ∃ t, exec (.loopSlotModeWrite r n m v) s = .next t ∧ Completed s t r Verb.SET 0 Status.VALUE_OUT_OF_RANGE [] s.stage
      ∧ t = { s with regs := t.regs, ses := t.ses, turn := r.session, canTx := t.canTx, out := t.out } ∧ Keeps s t (sessionFlds r.session) :=
  set_refused h (.loopSlotModeWrite r n m v) (act := actLoopSlotModeWrite n m v) (if_pos hm)

/-! ### The management interface (R528) -/

/-- The fields of a management cycle. -/
def mdioFlds (p : Fin 2) : List Fld :=
  [Reg.ETH_MDIO_BUSY p, Reg.ETH_MDIO_OP p, Reg.ETH_MDIO_PHYAD p, Reg.ETH_MDIO_REGAD p, Reg.ETH_MDIO_DATA p]

/-- The port's management interface with a cycle begun. -/
def State.mdioBegun (s : State) (p : Fin 2) (op : Bool) (x y d : Nat) : State :=
  ((((s.wrB (Reg.ETH_MDIO_OP p) op).wr (Reg.ETH_MDIO_PHYAD p) x).wr (Reg.ETH_MDIO_REGAD p) y).wr (Reg.ETH_MDIO_DATA p) d).wr
    (Reg.ETH_MDIO_BUSY p) 1

theorem mdioFlds_within : ∀ p : Fin 2, ∀ f ∈ mdioFlds p, f.within ∧ f.addr < 0x0D000300 ∧ 0x0D000200 ≤ f.addr := by decide

theorem mdioFlds_quiet {p : Fin 2} {f : Fld} (h : f ∈ mdioFlds p) : f.quiet := by
  obtain ⟨-, -, hge⟩ := mdioFlds_within p f h
  exact ⟨by omega, by omega⟩

theorem Keeps.mdioBegun (s : State) (p : Fin 2) (op : Bool) (x y d : Nat) : Keeps s (s.mdioBegun p op x y d) (mdioFlds p) := by
  have hw {f : Fld} (h : f ∈ mdioFlds p) := (mdioFlds_within p f h).1
  have hop : Reg.ETH_MDIO_OP p ∈ mdioFlds p := by simp [mdioFlds]
  have hx : Reg.ETH_MDIO_PHYAD p ∈ mdioFlds p := by simp [mdioFlds]
  have hy : Reg.ETH_MDIO_REGAD p ∈ mdioFlds p := by simp [mdioFlds]
  have hd : Reg.ETH_MDIO_DATA p ∈ mdioFlds p := by simp [mdioFlds]
  have hb : Reg.ETH_MDIO_BUSY p ∈ mdioFlds p := by simp [mdioFlds]
  exact (((((Keeps.refl s _).wrB op hop (hw hop)).wr x hx (hw hx)).wr y hy (hw hy)).wr d hd (hw hd)).wr 1 hb (hw hb)

theorem State.mdioBegun_upd (s : State) (p : Fin 2) (op : Bool) (x y d : Nat) :
    s.mdioBegun p op x y d = { s with regs := (s.mdioBegun p op x y d).regs } := rfl

theorem State.mdioBegun_shows (s : State) (p : Fin 2) (op : Bool) (x y : BitVec 5) (d : BitVec 16) :
    let t := s.mdioBegun p op x.toNat y.toNat d.toNat
    t.rd (Reg.ETH_MDIO_BUSY p) = 1 ∧ t.rd (Reg.ETH_MDIO_OP p) = (if op then 1 else 0) ∧ t.rd (Reg.ETH_MDIO_PHYAD p) = x.toNat
      ∧ t.rd (Reg.ETH_MDIO_REGAD p) = y.toNat ∧ t.rd (Reg.ETH_MDIO_DATA p) = d.toNat := by
  refine ⟨State.rd_wr_same _ 1 Fld.within_mk, ?_, ?_, ?_, ?_⟩
  · exact (State.rd_wr_bits _).trans ((State.rd_wr_bits _).trans ((State.rd_wr_bits _).trans ((State.rd_wr_bits _).trans
      (State.rd_wrB_same s op Fld.within_mk))))
  · exact (State.rd_wr_bits _).trans ((State.rd_wr_bits _).trans ((State.rd_wr_bits _).trans ((State.rd_wr_same _ _ Fld.within_mk).trans
      (Nat.mod_eq_of_lt x.isLt))))
  · exact (State.rd_wr_bits _).trans ((State.rd_wr_bits _).trans ((State.rd_wr_same _ _ Fld.within_mk).trans (Nat.mod_eq_of_lt y.isLt)))
  · exact (State.rd_wr_bits _).trans ((State.rd_wr_same _ _ Fld.within_mk).trans (Nat.mod_eq_of_lt d.isLt))

section

variable {s : State} {r : Req} (h : Ready s r Verb.SET) (p : Fin 2) (o : Bool) (x y : BitVec 5) (d : BitVec 16)
include h

theorem mdioStart_begins (hb : s.rd (Reg.ETH_MDIO_BUSY p) = 0) :
    ∃ t, exec (.mdioStart r p o x y d) s = .next t ∧ Completed s t r Verb.SET 0 Status.OK [] s.stage
      ∧ t = { s with regs := t.regs, ses := t.ses, turn := r.session, canTx := t.canTx, out := t.out }
      ∧ t.rd (Reg.ETH_MDIO_BUSY p) = 1 ∧ t.rd (Reg.ETH_MDIO_OP p) = (if o then 1 else 0) ∧ t.rd (Reg.ETH_MDIO_PHYAD p) = x.toNat
      ∧ t.rd (Reg.ETH_MDIO_REGAD p) = y.toNat ∧ t.rd (Reg.ETH_MDIO_DATA p) = d.toNat ∧ Keeps s t (mdioFlds p ++ sessionFlds r.session) := by
  have hmem : Reg.ETH_MDIO_BUSY p ∈ mdioFlds p := List.mem_cons_self
  have hfree : ¬ (s.taken r).flag (Reg.ETH_MDIO_BUSY p) = true := by
    rw [State.flag_iff _ rfl, State.rd_taken_quiet s r (mdioFlds_within p _ hmem).1 (mdioFlds_quiet hmem), hb]
    decide
  have ha : actMdioStart p o x y d (s.taken r) = ((s.taken r).mdioBegun p o x.toNat y.toNat d.toNat).ok := if_neg hfree
  have hf : ∀ f ∈ mdioFlds p, f.addr ≠ 0x01001000 ∧ f.addr ≠ 0x01001004 := fun f hf => by
    obtain ⟨-, -, hge⟩ := mdioFlds_within p f hf
    omega
  obtain ⟨t, ht, hc, hupd, hk, hkt⟩ := set_wrote h (.mdioStart r p o x y d) ha (State.mdioBegun_upd _ _ _ _ _ _) (Keeps.mdioBegun _ p o _ _ _) hf
  have hrd {f : Fld} (hm : f ∈ mdioFlds p) : t.rd f = ((s.taken r).mdioBegun p o x.toNat y.toNat d.toNat).rd f :=
    hkt.quiet (mdioFlds_within p f hm).1 (mdioFlds_quiet hm)
  obtain ⟨hbusy, hop, hphy, hreg, hdata⟩ := (s.taken r).mdioBegun_shows p o x y d
  exact ⟨t, ht, hc, hupd, (hrd hmem).trans hbusy, (hrd (by simp [mdioFlds])).trans hop, (hrd (by simp [mdioFlds])).trans hphy,
    (hrd (by simp [mdioFlds])).trans hreg, (hrd (by simp [mdioFlds])).trans hdata, hk⟩

theorem mdioStart_busy (hb : s.rd (Reg.ETH_MDIO_BUSY p) = 1) :
    ∃ t, exec (.mdioStart r p o x y d) s = .next t ∧ Completed s t r Verb.SET 0 Status.RESOURCE_BUSY [] s.stage
      ∧ t = { s with regs := t.regs, ses := t.ses, turn := r.session, canTx := t.canTx, out := t.out } ∧ Keeps s t (sessionFlds r.session) := by
  have hmem : Reg.ETH_MDIO_BUSY p ∈ mdioFlds p := List.mem_cons_self
  have hbusy : (s.taken r).flag (Reg.ETH_MDIO_BUSY p) = true := by
    rw [State.flag_iff _ rfl, State.rd_taken_quiet s r (mdioFlds_within p _ hmem).1 (mdioFlds_quiet hmem), hb]
  exact set_refused h (.mdioStart r p o x y d) (act := actMdioStart p o x y d) (if_pos hbusy)

end

/-! ### TX_REQ (R542) -/

/-- The words of the message objects are none that the command path shows itself in. -/
theorem Fld.quiet_can {f : Fld} (h : 0x0D201000 ≤ f.addr) : f.quiet := ⟨fun hc => absurd hc.1 (by omega), fun hc => absurd hc.1 (by omega)⟩

/-- A field of a message object. -/
theorem canObj_quiet {o m l : Nat} (c : Fin 2) (n : Nat) (h : 0x0D201000 ≤ o := by decide) : Fld.quiet ⟨o + 0x10000 * c.val + 0x80 * n, m, l⟩ :=
  Fld.quiet_can (by show 0x0D201000 ≤ o + 0x10000 * c.val + 0x80 * n; omega)

theorem State.canRun_setCan_other (s : State) {c k : Fin 2} (x : CanRun) (h : k ≠ c) : (s.setCan c x).canRun k = s.canRun k := by
  show (s.net.can.set c x)[k] = s.net.can[k]
  exact Vector.getElem_set_ne _ _ fun e => h (Fin.ext e.symm)

section

variable (s : State) (c : Fin 2) (n : Nat)

/-- The frame of an object is queued as the controller's next event. -/
def State.txQueued (x : CanTx) : State := (s.setCan c { s.canRun c with events := (s.canRun c).events + 1 }).setTx c n (some x)

theorem State.txQueued_upd (x : CanTx) :
    s.txQueued c n x = { s with regs := (s.txQueued c n x).regs, net := { s.net with can := (s.txQueued c n x).net.can } } := rfl

theorem State.canRun_setTx_same (x : CanTx) : ((s.setTx c n (some x)).canRun c).tx = assocInsert (assocErase (s.canRun c).tx n) n x :=
  congrArg CanRun.tx (State.canRun_setCan_same s c _)

theorem State.canRun_setTx_other (x : Option CanTx) {k : Fin 2} (h : k ≠ c) : (s.setTx c n x).canRun k = s.canRun k :=
  State.canRun_setCan_other s _ h

theorem Keeps.setTx (x : Option CanTx) : Keeps s (s.setTx c n x) [Reg.CAN_OBJ_PENDING c n] :=
  (Keeps.of_regs (t := s.setCan c _) rfl _).wrB _ List.mem_cons_self Fld.within_mk

theorem State.canRun_txQueued_same (x : CanTx) : ((s.txQueued c n x).canRun c).tx = assocInsert (assocErase (s.canRun c).tx n) n x :=
  (State.canRun_setTx_same _ c n x).trans (by rw [State.canRun_setCan_same])

theorem State.canRun_txQueued_other (x : CanTx) {k : Fin 2} (h : k ≠ c) : (s.txQueued c n x).canRun k = s.canRun k :=
  (State.canRun_setTx_other _ c n _ h).trans (State.canRun_setCan_other s _ h)

theorem Keeps.txQueued (x : CanTx) : Keeps s (s.txQueued c n x) [Reg.CAN_OBJ_PENDING c n] :=
  (Keeps.of_regs (t := s.setCan c _) rfl _).trans (Keeps.setTx _ c n (some x))

theorem State.queueTx_first {data : List Byte} {oneShot started : Bool} (h : assocGet (s.canRun c).tx n = none) :
    s.queueTx c n data oneShot started
      = s.txQueued c n { data := data, oneShot := oneShot, at_ := (s.canRun c).events + 1, born := s.timeOf 1 } := by
  unfold State.queueTx
  simp only [State.canRun_setCan_same, h]
  rfl

end

theorem errState_within : ∀ c : Fin 2, (Reg.CAN_STAT_ERR_STATE c).within ∧ 0x0D000200 ≤ (Reg.CAN_STAT_ERR_STATE c).addr := by decide

/-- An object with nothing pending, enabled for the host, on a controller that is not bus-off: its frame is queued. -/
theorem State.hostTx_first {s : State} {c : Fin 2} {n : Nat} {b : Bool} (hen : s.rd (Reg.CAN_OBJ_EN c n) = 1) (hdir : s.rd (Reg.CAN_OBJ_DIR c n) = 1)
    (htrig : s.rd (Reg.CAN_OBJ_TRIGGER c n) = 0) (hoff : s.busOff c = false) (hnone : assocGet (s.canRun c).tx n = none) :
    ∃ x : CanTx, x.oneShot = s.flag (Reg.CAN_OBJ_ONE_SHOT c n) ∧ x.next = none
      ∧ s.hostTx c n b = s.txQueued c n x := by
  refine ⟨{ data := s.txData c n true, oneShot := s.flag (Reg.CAN_OBJ_ONE_SHOT c n), at_ := (s.canRun c).events + 1, born := s.timeOf 1 },
    rfl, rfl, ?_⟩
  unfold State.hostTx
  rw [State.queueTx_first s c n hnone]
  have hcond : (s.flag (Reg.CAN_OBJ_EN c n) && s.flag (Reg.CAN_OBJ_DIR c n) && s.rd (Reg.CAN_OBJ_TRIGGER c n) == 0) = true := by
    simp [State.flag, hen, hdir, htrig]
  have hk (x : CanTx) : (s.txQueued c n x).busOff c = false := by
    have hne : (Reg.CAN_OBJ_PENDING c n).addr ≠ (Reg.CAN_STAT_ERR_STATE c).addr := by
      simp only [Reg.CAN_STAT_ERR_STATE, Reg.CAN_OBJ_PENDING]
      omega
    rw [← hoff]
    unfold State.busOff
    rw [Keeps.txQueued s c n x _ (errState_within c).1 fun f hf => Or.inl (List.mem_singleton.mp hf ▸ hne)]
  rw [if_pos hcond]
  simp only [hk, Bool.false_and, Bool.false_eq_true, if_false]

section

variable {s : State} {r : Req} (h : Ready s r Verb.SET) (c : Fin 2) (n : Fin 128)
include h

theorem txReq_queues (b : Bool) (hn : n.val < 126) (hen : s.rd (Reg.CAN_OBJ_EN c n) = 1) (hdir : s.rd (Reg.CAN_OBJ_DIR c n) = 1)
    (htrig : s.rd (Reg.CAN_OBJ_TRIGGER c n) = 0) (hoff : s.busOff c = false) (hnone : assocGet (s.canRun c).tx n = none) :
    ∃ t, exec (.txReq r c n b) s = .next t ∧ Completed s t r Verb.SET 0 Status.OK [] s.stage
      ∧ t = { s with regs := t.regs, ses := t.ses, turn := r.session, canTx := t.canTx, out := t.out, net := { s.net with can := t.net.can } }
      ∧ (∃ x : CanTx, assocGet (t.canRun c).tx n = some x ∧ x.oneShot = s.flag (Reg.CAN_OBJ_ONE_SHOT c n) ∧ x.next = none)
      ∧ (∀ m : Nat, m ≠ n.val → assocGet (t.canRun c).tx m = assocGet (s.canRun c).tx m)
      ∧ (∀ k : Fin 2, k ≠ c → t.canRun k = s.canRun k) := by
  have hrd {o m l : Nat} (hw : l ≤ m ∧ m < 32) (ho : 0x0D201000 ≤ o) : (s.taken r).rd ⟨o + 0x10000 * c.val + 0x80 * n.val, m, l⟩
      = s.rd ⟨o + 0x10000 * c.val + 0x80 * n.val, m, l⟩ := State.rd_taken_quiet s r hw (canObj_quiet c n ho)
  have hcan (k : Fin 2) : (s.taken r).canRun k = s.canRun k := State.canRun_congr (State.taken_net s r) k
  have hbus : (s.taken r).busOff c = false := by
    obtain ⟨hw, hge⟩ := errState_within c
    rw [← hoff]
    unfold State.busOff
    rw [State.rd_taken_quiet s r hw ⟨by omega, by omega⟩]
  obtain ⟨x, hone, hnext, hq⟩ := State.hostTx_first (b := b) ((hrd (by decide) (by decide)).trans hen) ((hrd (by decide) (by decide)).trans hdir)
    ((hrd (by decide) (by decide)).trans htrig) hbus (by rw [hcan]; exact hnone)
  obtain ⟨u, hu⟩ : ∃ u : State, u = (s.taken r).txQueued c n x := ⟨_, rfl⟩
  rw [← hu] at hq
  have ha : actTxReq c n b (s.taken r) = u.ok := (if_neg (by omega)).trans (congrArg State.ok hq)
  have heq : u = { s.taken r with regs := u.regs, net := { (s.taken r).net with can := u.net.can } } := by
    rw [hu]
    exact State.txQueued_upd _ c n x
  rw [State.taken_net] at heq
  have heq' : u = { s.taken r with regs := u.regs, clk := s.clk, net := { s.net with can := u.net.can } } := by
    rw [← State.taken_clk s r]
    exact heq
  have hf : ∀ f ∈ [Reg.CAN_OBJ_PENDING c n], f.addr ≠ 0x01001000 ∧ f.addr ≠ 0x01001004 := by
    simp only [List.forall_mem_cons, Reg.CAN_OBJ_PENDING, List.not_mem_nil, false_implies, implies_true, and_true]
    omega
  obtain ⟨t, ht, hc, hupd, -, -⟩ := execVerb_wrote h (by decide) (.txReq r c n b) ha heq' (hu ▸ Keeps.txQueued _ c n x) hf
  have hnet : t.net = { s.net with can := u.net.can } := by rw [hupd]
  have hrun (k : Fin 2) : t.canRun k = u.canRun k := by
    unfold State.canRun
    rw [hnet]
  have htx : (u.canRun c).tx = assocInsert (assocErase (s.canRun c).tx n) n x := by
    rw [hu, State.canRun_txQueued_same, hcan]
  refine ⟨t, ht, hc, ?_, ⟨x, ?_, hone.trans (State.flag_congr (hrd (by decide) (by decide))), hnext⟩, fun m hm => ?_, fun k hk => ?_⟩
  · rw [show t.net.can = u.net.can by rw [hnet]]
    exact hupd
  · rw [hrun, htx]
    exact assocGet_insert_same _ _ _ (assocGet_erase_same _ _)
  · rw [hrun, htx, assocGet_insert_other _ _ hm, assocGet_erase_other _ hm]
  · rw [hrun, hu, State.canRun_txQueued_other _ _ _ _ hk, hcan]

theorem txReq_readOnly (b : Bool) (hn : 126 ≤ n.val) :
    ∃ t, exec (.txReq r c n b) s = .next t ∧ Completed s t r Verb.SET 0 Status.READ_ONLY [] s.stage
      ∧ t = { s with regs := t.regs, ses := t.ses, turn := r.session, canTx := t.canTx, out := t.out } ∧ Keeps s t (sessionFlds r.session) :=
  set_refused h (.txReq r c n b) (act := actTxReq c n b) (if_pos hn)

end

/-! ### ACK (R546) -/

/-- The fields that ACK of a receive object moves. -/
def ackFlds (c n : Nat) : List Fld := [Reg.CAN_OBJ_HEAD c n, Reg.CAN_OBJ_COUNT c n, Reg.CAN_OBJ_FULL c n]

theorem Keeps.ackRx (s : State) (c : Fin 2) (n k : Nat) : Keeps s (s.ackRx c n k) (ackFlds c n) :=
  (((Keeps.refl s _).wr _ List.mem_cons_self Fld.within_mk).wr _ (List.mem_cons_of_mem _ List.mem_cons_self) Fld.within_mk).wr 0
    (List.mem_cons_of_mem _ (List.mem_cons_of_mem _ List.mem_cons_self)) Fld.within_mk

theorem State.ackRx_upd (s : State) (c : Fin 2) (n k : Nat) : s.ackRx c n k = { s with regs := (s.ackRx c n k).regs } := rfl

theorem State.ackRx_shows (s : State) (c : Fin 2) (n k : Nat) : (s.ackRx c n k).rd (Reg.CAN_OBJ_COUNT c n) = s.rd (Reg.CAN_OBJ_COUNT c n) - k
    ∧ (s.ackRx c n k).rd (Reg.CAN_OBJ_FULL c n) = 0 := by
  obtain ⟨v, hv⟩ : ∃ v : State, v = s.wr (Reg.CAN_OBJ_HEAD c n)
    (s.rd (Reg.CAN_OBJ_BASE c n) + (s.rd (Reg.CAN_OBJ_HEAD c n) - s.rd (Reg.CAN_OBJ_BASE c n) + k) % s.rd (Reg.CAN_OBJ_DEPTH c n)) := ⟨_, rfl⟩
  have hack : s.ackRx c n k = (v.wr (Reg.CAN_OBJ_COUNT c n) (v.rd (Reg.CAN_OBJ_COUNT c n) - k)).wr (Reg.CAN_OBJ_FULL c n) 0 := by
    rw [hv]
    rfl
  have hcount : v.rd (Reg.CAN_OBJ_COUNT c n) = s.rd (Reg.CAN_OBJ_COUNT c n) := hv ▸ State.rd_wr_elsewhere s _ (by
    simp only [Reg.CAN_OBJ_HEAD, Reg.CAN_OBJ_COUNT]
    omega)
  have hlt : s.rd (Reg.CAN_OBJ_COUNT c n) - k < 2 ^ (5 - 0 + 1) := Nat.lt_of_le_of_lt (Nat.sub_le _ _) (s.rd_lt (Reg.CAN_OBJ_COUNT c n))
  rw [hack, hcount]
  exact ⟨(State.rd_wr_bits _).trans ((State.rd_wr_same v _ Fld.within_mk).trans (Nat.mod_eq_of_lt hlt)), State.rd_wr_same _ 0 Fld.within_mk⟩

theorem ack_releases {s : State} {r : Req} (h : Ready s r Verb.SET) (c : Fin 2) (n : Fin 128) (k : BitVec 6) (hn : n.val < 126) (h1 : 1 ≤ k.toNat)
    (hk : k.toNat ≤ s.rd (Reg.CAN_OBJ_COUNT c n)) :
    ∃ t, exec (.ack r c n k) s = .next t ∧ Completed s t r Verb.SET 0 Status.OK [] s.stage
      ∧ t = { s with regs := t.regs, ses := t.ses, turn := r.session, canTx := t.canTx, out := t.out }
      ∧ t.rd (Reg.CAN_OBJ_COUNT c n) = s.rd (Reg.CAN_OBJ_COUNT c n) - k.toNat ∧ t.rd (Reg.CAN_OBJ_FULL c n) = 0
      ∧ Keeps s t (ackFlds c n ++ sessionFlds r.session) := by
  have hcount : (s.taken r).rd (Reg.CAN_OBJ_COUNT c n) = s.rd (Reg.CAN_OBJ_COUNT c n) :=
    State.rd_taken_quiet s r Fld.within_mk (canObj_quiet c n)
  have hzero : k ≠ 0 := by
    rintro rfl
    exact absurd h1 (by decide)
  have ha : actAck c n k (s.taken r) = ((s.taken r).ackRx c n k.toNat).ok := by
    unfold actAck
    rw [if_neg (by omega), if_neg (by rw [hcount]; omega), if_neg hzero]
  have hf : ∀ f ∈ ackFlds c n, f.addr ≠ 0x01001000 ∧ f.addr ≠ 0x01001004 := by
    simp only [ackFlds, List.forall_mem_cons, Reg.CAN_OBJ_HEAD, Reg.CAN_OBJ_COUNT, Reg.CAN_OBJ_FULL, List.not_mem_nil, false_implies, implies_true,
      and_true]
    omega
  obtain ⟨t, ht, hc, hupd, hkt, hut⟩ := set_wrote h (.ack r c n k) ha (State.ackRx_upd _ _ _ _) (Keeps.ackRx _ c n _) hf
  obtain ⟨hcnt, hfull⟩ := (s.taken r).ackRx_shows c n k.toNat
  exact ⟨t, ht, hc, hupd, ((hut.quiet Fld.within_mk (canObj_quiet c n)).trans hcnt).trans (by rw [hcount]),
    (hut.quiet Fld.within_mk (canObj_quiet c n)).trans hfull, hkt⟩

/-- Settles O37: each of the writes on the state that has taken its packet, then what the reply leaves. -/
theorem writesThatAct : Obligations.WritesThatAct := by
  unfold Obligations.WritesThatAct
  exact ⟨fun _ _ g h hg => rampStart_runs h g hg, fun _ _ h hs => rampStart_spread h hs, fun _ _ g h hg => rampAbort_stops h g hg,
    fun _ _ n m v h hm => loopSlotModeWrite_writes h n m v hm, fun _ _ n m v h hm => loopSlotModeWrite_refused h n m v hm,
    fun _ _ p o x y d h hb => mdioStart_begins h p o x y d hb, fun _ _ p o x y d h hb => mdioStart_busy h p o x y d hb,
    fun _ _ c n b h hn hen hdir htrig hoff hnone => txReq_queues h c n b hn hen hdir htrig hoff hnone,
    fun _ _ c n b h hn => txReq_readOnly h c n b hn, fun _ _ c n k h hn h1 hk => ack_releases h c n k hn h1 hk⟩

end Sys2Proof.Machine
end

section
/-! SUPPORT. Outside the advance of the time itself a stage boundary keeps the stage counter, the time bases, their stamps and the waiting commands:
one lemma for each operation that a boundary reaches, in the order of the model's files. The idea: an address from 0x02000000 on is none of theirs,
which the address's constant part shows by itself, and the few fields below it that are written share no bit with them. A proof names the operations
of the definition's body from the last to the first. -/

namespace Sys2Proof.Machine

open Sys2Proof

/- Each of these lemmas waits for the automatic hypotheses of those before it, and all at once they would ask for a thread each. -/
set_option Elab.async false

/-- The fields of a time base's value. -/
def baseFlds (b : Nat) : List Fld :=
  [Reg.TIME_BASE_SECONDS_HI b, Reg.TIME_BASE_SECONDS_LO b, Reg.TIME_BASE_NANOSECONDS b, Reg.TIME_BASE_FRACTION b]

/-- The fields of a time base's stamp, as far as whole nanoseconds go. -/
def stampFlds (b : Nat) : List Fld :=
  [Reg.TIME_STAMP_BASE_SECONDS_HI b, Reg.TIME_STAMP_BASE_SECONDS_LO b, Reg.TIME_STAMP_BASE_NANOSECONDS b]

/-- The fields that say what stage and what time it is. -/
def timeFlds : List Fld :=
  [Reg.CLK_STAGE_PERIOD_TS, Reg.CLK_STAGE_COUNT_COUNT_HI, Reg.CLK_STAGE_COUNT_COUNT_LO, Reg.TIME_STAGE_STAMP_STAGE_HI,
   Reg.TIME_STAGE_STAMP_STAGE_LO] ++ [0, 1, 2, 3].flatMap baseFlds ++ [0, 1, 2, 3].flatMap stampFlds

theorem timeFlds_low : ∀ f ∈ timeFlds, f.within ∧ f.addr < 0x02000000 := by decide

/-- A state that shows the stage, the times and the waiting commands of `s₀`. -/
structure State.Timed (s₀ s : State) : Prop where
  rd : ∀ f ∈ timeFlds, s.rd f = s₀.rd f
  pending : s.pending = s₀.pending

namespace State.Timed

section

variable {s₀ s : State}

theorem refl (s : State) : s.Timed s := ⟨fun _ _ => rfl, rfl⟩

/-- An update of other fields than `regs` and `pending`. -/
theorem keep {power flash sto clk ses canRx canTx mon lastCommit turn seen seenOld flt duo mod drv meas therm isl net mem atB cells link loop pol out
    free} (h : s₀.Timed s) :
    s₀.Timed { regs := s.regs, mem := mem, power := power, flash := flash, sto := sto, clk := clk, ses := ses, canRx := canRx,
               canTx := canTx, mon := mon, lastCommit := lastCommit, turn := turn, seen := seen, seenOld := seenOld, flt := flt, duo := duo,
               mod := mod, drv := drv, meas := meas, therm := therm, isl := isl, net := net, atB := atB, cells := cells, link := link,
               loop := loop, pol := pol, out := out, free := free, pending := s.pending } := ⟨h.rd, h.pending⟩

theorem of_keeps {t : State} {fs : List Fld} (h : s₀.Timed s) (hk : Keeps s t fs) (hp : t.pending = s.pending)
    (hf : ∀ f ∈ fs, ∀ g ∈ timeFlds, f.apart g) : s₀.Timed t :=
  ⟨fun g hg => (hk g (timeFlds_low g hg).1 fun f hm => hf f hm g hg).trans (h.rd g hg), hp.trans h.pending⟩

theorem setWordOther {a w} (h : s₀.Timed s) (ha : ∀ g ∈ timeFlds, g.addr ≠ a) : s₀.Timed (s.setWord a w) := by
  refine ⟨fun g hg => ?_, h.pending⟩
  rw [← h.rd g hg]
  unfold State.rd
  rw [State.word_setWord_other s w (ha g hg)]

theorem setWord {a w} (h : s₀.Timed s) (ha : 0x02000000 ≤ a := by (repeat refine Nat.le_add_right_of_le ?_); decide) :
    s₀.Timed (s.setWord a w) :=
  setWordOther h fun g hg e => absurd (timeFlds_low g hg).2 (by omega)

section

variable {f : Fld} (h : s₀.Timed s) (ha : 0x02000000 ≤ f.addr := by (repeat refine Nat.le_add_right_of_le ?_); decide)
include h ha

theorem wr {v} : s₀.Timed (s.wr f v) := setWord h ha
theorem wrB {b} : s₀.Timed (s.wrB f b) := setWord h ha
theorem wrS {v} : s₀.Timed (s.wrS f v) := setWord h ha
theorem wrSat {v} : s₀.Timed (s.wrSat f v) := setWord h ha
theorem inc {n} : s₀.Timed (s.inc f n) := setWord h ha
theorem see : s₀.Timed (s.see f) := .keep <| .wr h ha

end

section

variable {f : Fld} (h : s₀.Timed s) (ha : f.within ∧ ∀ g ∈ timeFlds, f.apart g := by decide)
include h ha

/-- A field of the clocks' and the device's blocks, which the time shares. -/
theorem wrLow {v} : s₀.Timed (s.wr f v) :=
  ⟨fun g hg => (State.rd_wr_apart s v ha.1 (timeFlds_low g hg).1 (ha.2 g hg)).trans (h.rd g hg), h.pending⟩

theorem wrBLow {b} : s₀.Timed (s.wrB f b) := wrLow h ha

end

theorem store {a bs} (h : s₀.Timed s) : s₀.Timed (s.store a bs) := by
  unfold State.store
  split
  · exact .keep h
  · exact h

theorem setSess {i x} (h : s₀.Timed s) : s₀.Timed (s.setSess i x) := .wrSat <| .wr <| .wr <| .keep h

theorem journal {c k b d m} (h : s₀.Timed s) : s₀.Timed (s.journal c k b d m) :=
  h.of_keeps ((Keeps.refl s journalFlds).journal c k b d m (by decide) (by decide)) rfl (by decide)

theorem event {c b d} (h : s₀.Timed s) : s₀.Timed (s.event c b d) := .journal h

theorem raise {c k b d m} (h : s₀.Timed s) : s₀.Timed (s.raise c k b d m) := by
  rw [State.raise_eq]
  exact .keep h

theorem takeFree (h : s₀.Timed s) : s₀.Timed s.takeFree.2 := .keep h

theorem ite {c : Prop} [Decidable c] {a b : State} (ha : s₀.Timed a) (hb : s₀.Timed b) : s₀.Timed (if c then a else b) := by
  split <;> assumption

theorem dite {c : Prop} [Decidable c] {a : c → State} {b : ¬c → State} (ha : ∀ hc, s₀.Timed (a hc)) (hb : ∀ hc, s₀.Timed (b hc)) :
    s₀.Timed (if hc : c then a hc else b hc) := by
  split
  · exact ha _
  · exact hb _

/-- A conditional whose first branch goes on from the second. -/
theorem when {c : Prop} [Decidable c] {a b : State} (hb : s₀.Timed b) (ha : s₀.Timed b → s₀.Timed a) : s₀.Timed (if c then a else b) :=
  .ite (ha hb) hb

/-- A conditional whose second branch goes on from the first. -/
theorem orElse {c : Prop} [Decidable c] {a b : State} (ha : s₀.Timed a) (hb : s₀.Timed a → s₀.Timed b) : s₀.Timed (if c then a else b) :=
  .ite ha (hb ha)

theorem sndIte {α : Type} {c : Prop} [Decidable c] {a b : α × State} (ha : s₀.Timed a.2) (hb : s₀.Timed b.2) :
    s₀.Timed (if c then a else b).2 := by
  split <;> assumption

theorem foldl {α : Type} {f : State → α → State} {l : List α} (hf : ∀ t x, s₀.Timed t → s₀.Timed (f t x)) {s : State} (h : s₀.Timed s) :
    s₀.Timed (l.foldl f s) := by
  induction l generalizing s with
  | nil => exact h
  | cons x l ih => exact ih (hf s x h)

end

end State.Timed

section

variable {s₀ s : State}

/-! ### Ops -/

theorem State.Timed.writeEntry {e} (h : s₀.Timed s) : s₀.Timed (s.writeEntry e) :=
  .wr <| .keep <| .orElse (.when (.store h) fun h => .wr <| .inc h) .wr

theorem State.Timed.writeQueued (h : s₀.Timed s) : s₀.Timed s.writeQueued := .wr <| .foldl (fun _ _ => .writeEntry) <| .keep h
theorem State.Timed.put {o} (h : s₀.Timed s) : s₀.Timed (s.put o) := .keep h

/-! ### Session -/

theorem State.Timed.monPut {line} (h : s₀.Timed s) : s₀.Timed (s.monPut line) := .ite (.inc h) <| .put <| .keep h
theorem State.Timed.queueReply {c r} (h : s₀.Timed s) : s₀.Timed (s.queueReply c r) := .keep h
theorem State.Timed.sendReply {dst r mirrored} (h : s₀.Timed s) : s₀.Timed (s.sendReply dst r mirrored) := by
  refine .ite h ?_
  split
  · exact .monPut h
  · exact .queueReply <| .put h
  · exact .queueReply <| .put h
  · exact .when (.put h) .inc
  · exact .when (.put h) .inc

theorem State.Timed.complete {i hd status payload stage mirrored} (h : s₀.Timed s) :
    s₀.Timed (s.complete i hd status payload stage mirrored) :=
  .sendReply <| .setSess <| .wr h

theorem State.Timed.drainRefused {n i} {s : State} (h : s₀.Timed s) : s₀.Timed (State.drainRefused n i s) := by
  induction n generalizing s with
  | zero => exact h
  | succ n ih =>
    unfold State.drainRefused
    refine .ite h ?_
    split
    · exact ih (.complete (.setSess h))
    · exact h

theorem State.Timed.finish {i hd status payload stage mirrored} (h : s₀.Timed s) :
    s₀.Timed (s.finish i hd status payload stage mirrored) :=
  .drainRefused <| .complete h

theorem State.Timed.orphanReply {p status payload} (h : s₀.Timed s) : s₀.Timed (s.orphanReply p status payload) := .sendReply h

theorem State.Timed.endOrphan {i f status payload} (h : s₀.Timed s) : s₀.Timed (s.endOrphan i f status payload) := by
  unfold State.endOrphan
  dsimp only
  split
  · exact .orphanReply <| .setSess h
  · exact h

theorem State.Timed.endBusy {i op status payload} (h : s₀.Timed s) : s₀.Timed (s.endBusy i op status payload) := by
  unfold State.endBusy
  dsimp only
  split
  · exact .ite (.finish <| .setSess h) <| .endOrphan h
  · exact .endOrphan h

theorem State.Timed.endOpsOf {f status payload i} (h : s₀.Timed s) : s₀.Timed (State.endOpsOf f status payload s i) := by
  unfold State.endOpsOf
  dsimp only
  split
  · exact .when (.foldl (fun _ _ => .endOrphan) h) fun h => .finish <| .setSess h
  · exact .foldl (fun _ _ => .endOrphan) h

theorem State.Timed.endOps {f status payload} (h : s₀.Timed s) : s₀.Timed (s.endOps f status payload) :=
  .foldl (fun _ _ => .endOpsOf) h

/-! ### Gate -/

theorem State.Timed.gatesOff (h : s₀.Timed s) : s₀.Timed s.gatesOff := .keep h

/-! ### Modulate -/

theorem State.Timed.setCell {c r} (h : s₀.Timed s) : s₀.Timed (s.setCell c r) := .keep h

/-! ### Station -/

theorem State.Timed.wrF {f q} (h : s₀.Timed s) (ha : 0x02000000 ≤ f.addr := by (repeat refine Nat.le_add_right_of_le ?_); decide) :
    s₀.Timed (s.wrF f q) := .wr h ha

theorem State.Timed.setSvc {c st} (h : s₀.Timed s) : s₀.Timed (s.setSvc c st) := .ite h <| .wr <| .wr h
theorem State.Timed.unrank {c} (h : s₀.Timed s) : s₀.Timed (s.unrank c) := .wr <| .wr <| .wr h

theorem State.Timed.rankFrom {n j l} {s : State} (h : s₀.Timed s) : s₀.Timed (s.rankFrom n j l) := by
  induction l generalizing s j with
  | nil => exact h
  | cons c l ih => exact ih (.wr <| .wr <| .wr h)

theorem State.Timed.rankArm {a l} (h : s₀.Timed s) : s₀.Timed (s.rankArm a l) := .wr <| .rankFrom <| .foldl (fun _ _ => .unrank) h
theorem State.Timed.rerank {a} (h : s₀.Timed s) : s₀.Timed (s.rerank a) := .rankArm h
theorem State.Timed.slotManual {n out} (h : s₀.Timed s) : s₀.Timed (s.slotManual n out) := .wr <| .wr h
theorem State.Timed.slotAuto {n} (h : s₀.Timed s) : s₀.Timed (s.slotAuto n) := .ite h <| .wr <| .wr <| .wr h
theorem State.Timed.slotsManual {l} (h : s₀.Timed s) : s₀.Timed (s.slotsManual l) := .foldl (fun _ _ => .slotManual) h
theorem State.Timed.stopArm1 {a} (h : s₀.Timed s) : s₀.Timed (s.stopArm1 a) := .slotsManual <| .wr <| .wr h

theorem State.Timed.stopGroup {a} (h : s₀.Timed s) : s₀.Timed (s.stopGroup a) :=
  .ite h <| .when (.foldl (fun _ _ => .stopArm1) h) .raise

theorem State.Timed.driveTo {st} (h : s₀.Timed s) : s₀.Timed (s.driveTo st) := .ite h <| .event <| .wr <| .ite (.gatesOff h) h
theorem State.Timed.driveStop (h : s₀.Timed s) : s₀.Timed s.driveStop := .ite (.keep <| .driveTo h) <| .ite (.driveTo h) h
theorem State.Timed.driveOff (h : s₀.Timed s) : s₀.Timed s.driveOff := .ite (.wr <| .slotsManual <| .driveTo h) h
theorem State.Timed.latchTrip {code} (h : s₀.Timed s) : s₀.Timed (s.latchTrip code) := .ite (.orElse (.gatesOff h) .keep) h

theorem State.Timed.entry {old st} (h : s₀.Timed s) : s₀.Timed (s.entry old st) :=
  .ite (.foldl (fun _ _ h => .ite (.wr h) h) <| .keep <| .orElse (.wr h) .wr) <| .ite (.slotsManual <| .wr <| .wr <| .driveOff <|
    .keep <| .orElse (.wr h) .wr) <| .ite (.wr <| .wr <| .keep <| .orElse (.wr h) .wr) <| .when (.keep <| .orElse (.wr h) .wr) .keep

theorem State.Timed.enter {st cause} (h : s₀.Timed s) : s₀.Timed (s.enter st cause) :=
  .entry <| .event <| .wr <| .keep <| .wr <| .wr <| .wr h

theorem State.Timed.goTo {st cause} (h : s₀.Timed s) : s₀.Timed (s.goTo st cause) := .keep h
theorem State.Timed.adapt {mechanism subject data} (h : s₀.Timed s) : s₀.Timed (s.adapt mechanism subject data) := .event h

/-! ### Levels -/

theorem State.Timed.stepCell {c d} (h : s₀.Timed s) : s₀.Timed (s.stepCell c d) :=
  .orElse (.setCell h) fun h => .adapt <| .ite (.inc <| .wr <| .wr h) <| .inc <| .wr <| .wr h

theorem State.Timed.cellThermal {c} (h : s₀.Timed s) : s₀.Timed (s.cellThermal c) :=
  .orElse (.when (.wrS <| .wr <| .wr <| .wr <| .setCell h) .see) .stepCell

/-! ### Frame -/

theorem State.Timed.setRoute {n r} (h : s₀.Timed s) : s₀.Timed (s.setRoute n r) :=
  .dite (fun _ => .keep h) fun _ => h

/-! ### Train -/

theorem State.Timed.powerDown {l} (h : s₀.Timed s) : s₀.Timed (s.powerDown l) :=
  .wr <| .wr <| .wr <| .wr <| .wr <| .wr <| .ite (.inc <| .see h) h

theorem State.Timed.useEnds {n} (h : s₀.Timed s) : s₀.Timed (s.useEnds n) := .foldl (fun _ _ h => .ite (.wr h) <| .powerDown h) h
theorem State.Timed.endStep1 {n} (h : s₀.Timed s) : s₀.Timed (s.endStep1 n) := .ite (.setRoute h) h
theorem State.Timed.noReach {n} (h : s₀.Timed s) : s₀.Timed (s.noReach n) := .ite h <| .wr <| .wr <| .wr <| .wr h

theorem State.Timed.startQuiet {n} (h : s₀.Timed s) : s₀.Timed (s.startQuiet n) :=
  .ite h <| .endStep1 <| .noReach <| .wr <| .useEnds <| .setRoute h

theorem State.Timed.startLive {n} (h : s₀.Timed s) : s₀.Timed (s.startLive n) := .ite h <| .useEnds <| .setRoute h
theorem State.Timed.leaveLaneRef (h : s₀.Timed s) : s₀.Timed s.leaveLaneRef := .wrLow <| .keep <| .takeFree h

theorem State.Timed.lockLost {l} (h : s₀.Timed s) : s₀.Timed (s.lockLost l) := by
  refine .ite h <| .ite ?_ <| .when (.inc <| .see <| .wr <| .wr h) fun h => .ite (.wrLow h) <| .leaveLaneRef h
  dsimp only
  split
  · exact .startQuiet <| .inc <| .see <| .wr <| .wr h
  · exact .startLive <| .inc <| .see <| .wr <| .wr h
  · exact .when (.inc <| .see <| .wr <| .wr h) .setRoute

theorem State.Timed.compareHop {n hd good} (h : s₀.Timed s) : s₀.Timed (s.compareHop n hd good) := by
  unfold State.compareHop
  dsimp only
  split
  · exact .wr h
  · exact .ite (.wr h) <| .raise <| .wr <| .wr <| .wr h

theorem State.Timed.decideRoute {n live} (h : s₀.Timed s) : s₀.Timed (s.decideRoute n live) :=
  .orElse (.setRoute h) fun h => .foldl (fun _ _ => .compareHop) h

theorem State.Timed.delayRoute {n live} (h : s₀.Timed s) : s₀.Timed (s.delayRoute n live) :=
  .orElse (.ite (.setRoute h) h) fun h => .foldl (fun _ _ h => .wr <| .wr h) h

theorem State.Timed.tickTraining {n} (h : s₀.Timed s) : s₀.Timed (s.tickTraining n) := by
  unfold State.tickTraining
  dsimp only
  split
  · exact .ite (.decideRoute <| .setRoute h) <| .when (.setRoute h) .delayRoute
  · exact .setRoute h
  · exact h

/-! ### Link -/

theorem State.Timed.noLedger {c status} (h : s₀.Timed s) : s₀.Timed (s.noLedger c status) := .inc <| .wr <| .setCell h

theorem State.Timed.monOk {data} (h : s₀.Timed s) : s₀.Timed (s.monOk data) := .monPut h
theorem State.Timed.endInject {j} (h : s₀.Timed s) : s₀.Timed (s.endInject j) := by
  refine .ite (.monOk h) ?_
  split
  · exact .endBusy h
  · exact h

theorem State.Timed.tickInject (h : s₀.Timed s) : s₀.Timed s.tickInject := .foldl (fun _ _ => .endInject) <| .keep h

/-! ### EdgeStage -/

theorem State.Timed.setArmRun {a r} (h : s₀.Timed s) : s₀.Timed (s.setArmRun a r) := .keep h

/-! ### Signals -/

theorem State.Timed.snapView (h : s₀.Timed s) : s₀.Timed s.snapView := .keep h
theorem State.Timed.handSig {ix q} (h : s₀.Timed s) : s₀.Timed (s.handSig ix q) := .ite h <| .keep h
theorem State.Timed.showSetpoint {id} (h : s₀.Timed s) : s₀.Timed (s.showSetpoint id) := .ite (.wrB <| .wrF <| .wrF <| .wrF h) h
theorem State.Timed.putSetpoint {id r} (h : s₀.Timed s) : s₀.Timed (s.putSetpoint id r) := .showSetpoint <| .keep h

theorem State.Timed.tickSetpoints (h : s₀.Timed s) : s₀.Timed s.tickSetpoints :=
  .keep <| .foldl (fun _ _ => .putSetpoint) <| .foldl (fun _ _ => .putSetpoint) h

theorem State.Timed.tickRunUp (h : s₀.Timed s) : s₀.Timed s.tickRunUp := .keep h

theorem State.Timed.setLock {now} (h : s₀.Timed s) : s₀.Timed (s.setLock now) :=
  .ite (.wr <| .inc <| .keep <| .wrB h) <| .when (.keep <| .wrB h) fun h => .wr <| .keep h

theorem State.Timed.trackFresh (h : s₀.Timed s) : s₀.Timed s.trackFresh :=
  .setLock <| .wrF <| .wrF <| .wrF <| .keep <| .sndIte (.takeFree h) h

theorem State.Timed.trackGrid (h : s₀.Timed s) : s₀.Timed s.trackGrid := .ite h <| .ite (.trackFresh h) <| .setLock <| .keep h

theorem State.Timed.armSignals {a} (h : s₀.Timed s) : s₀.Timed (s.armSignals a) :=
  .ite h <| .foldl (fun _ _ h => .orElse (.handSig h) .wrF) <| .wrF <| .wrF <| .wrF <| .wrF <| .wrF <| .handSig <| .handSig <|
    .handSig <| .handSig <| .handSig <| .handSig <| .setArmRun h

theorem State.Timed.dabSignals (h : s₀.Timed s) : s₀.Timed s.dabSignals := by
  refine .foldl (fun _ _ h => ?_) h
  split
  · exact .orElse (.handSig h) .wrF
  · exact .handSig h

theorem State.Timed.signals (h : s₀.Timed s) : s₀.Timed s.signals :=
  .wrF <| .handSig <| .handSig <| .dabSignals <| .foldl (fun _ _ => .armSignals) <| .trackGrid <| .keep h

/-! ### Service -/

theorem State.Timed.toSpare {c} (h : s₀.Timed s) : s₀.Timed (s.toSpare c) := .when (.wr <| .wr <| .setSvc h) .slotAuto
theorem State.Timed.toService {c} (h : s₀.Timed s) : s₀.Timed (s.toService c) := .when (.when (.setSvc h) .slotAuto) .slotAuto

theorem State.Timed.insertSpare {c p} (h : s₀.Timed s) : s₀.Timed (s.insertSpare c p) :=
  .adapt <| .inc <| .inc <| .slotsManual <| .wr <| .wr <| .setSvc h

theorem State.Timed.insertArm {a} (h : s₀.Timed s) : s₀.Timed (s.insertArm a) := .foldl (fun _ _ => .insertSpare) h

theorem State.Timed.takeOut1 {c cause} (h : s₀.Timed s) : s₀.Timed (s.takeOut1 c cause) :=
  .adapt <| .when (.unrank <| .orElse (.slotsManual <| .inc <| .inc <| .wr <| .wr <| .setSvc h) .setCell) .raise

theorem State.Timed.watchLedger {c} (h : s₀.Timed s) : s₀.Timed (s.watchLedger c) := .ite (.setCell h) <| .when (.setCell h) .raise
theorem State.Timed.bypassFail {c} (h : s₀.Timed s) : s₀.Timed (s.bypassFail c) := .raise <| .wr h

theorem State.Timed.confirm {c} (h : s₀.Timed s) : s₀.Timed (s.confirm c) :=
  .ite h <| .ite (.ite (.toSpare h) <| .setSvc h) <| .bypassFail h

theorem State.Timed.comeBack {c} (h : s₀.Timed s) : s₀.Timed (s.comeBack c) := .ite (.toSpare h) h

theorem State.Timed.fillArm {a} (h : s₀.Timed s) : s₀.Timed (s.fillArm a) :=
  .rerank <| .foldl (fun _ _ h => .wr <| .wr <| .toService h) <| .foldl (fun _ _ => .toSpare) h

theorem State.Timed.checkShort {a} (h : s₀.Timed s) : s₀.Timed (s.checkShort a) := .ite (.raise h) h
theorem State.Timed.showArm {a} (h : s₀.Timed s) : s₀.Timed (s.showArm a) := .wr <| .wr <| .wr <| .wr h
theorem State.Timed.showDerating (h : s₀.Timed s) : s₀.Timed s.showDerating := .wrB <| .wrB <| .wrB h

theorem State.Timed.capWindow {c r} (h : s₀.Timed s) : s₀.Timed (s.capWindow c r) :=
  .ite h <| .when (.when (.setCell <| .ite (.inc <| .wr <| .inc <| .wr <| .wrF h) <| .wr <| .wr <| .inc <| .wr <|
    .wrF h) fun h => .adapt <| .see h) fun h => .raise <| .adapt <| .see h

theorem State.Timed.capStage {c} (h : s₀.Timed s) : s₀.Timed (s.capStage c) :=
  .ite (.setCell h) <| .ite (.setCell h) <| .capWindow <| .setCell h

theorem State.Timed.capCell {c} (h : s₀.Timed s) : s₀.Timed (s.capCell c) := .ite (.capStage h) <| .ite h <| .setCell h

theorem State.Timed.serviceStage (h : s₀.Timed s) : s₀.Timed s.serviceStage := by
  refine .showDerating <| .foldl (fun _ _ => .showArm) <| .foldl (fun _ _ => .capCell) <| .foldl (fun _ _ h => .wrB h) <|
    .orElse (.foldl (fun _ _ => .checkShort) <| .foldl (fun _ _ => .rerank) <| .foldl (fun _ _ h => ?_) <|
    .foldl (fun _ _ => .comeBack) <| .foldl (fun _ _ => .confirm) <|
    .foldl (fun _ _ => .watchLedger) h) fun h => .foldl (fun _ _ => .insertArm) h
  split
  · exact .takeOut1 h
  · exact .ite (.toService h) h

theorem State.Timed.takeCauses (h : s₀.Timed s) : s₀.Timed s.takeCauses := .keep <| .foldl (fun _ _ => .setCell) h
theorem State.Timed.order {c} (h : s₀.Timed s) : s₀.Timed (s.order c) := .setCell h
theorem State.Timed.orders (h : s₀.Timed s) : s₀.Timed s.orders := .foldl (fun _ _ => .order) h

/-! ### Policy -/

theorem State.Timed.stepTo {n} (h : s₀.Timed s) : s₀.Timed (s.stepTo n) := .keep <| .wr h

theorem State.Timed.prechargeStep (h : s₀.Timed s) : s₀.Timed s.prechargeStep := by
  unfold State.prechargeStep
  split
  · exact .wr <| .stepTo h
  · exact .ite (.stepTo h) h
  · exact .ite (.wr <| .stepTo h) h
  · exact .ite (.wr <| .stepTo h) h
  · exact .ite (.goTo h) h

theorem State.Timed.enterRun (h : s₀.Timed s) : s₀.Timed s.enterRun :=
  .ite (.goTo h) <| .goTo <| .keep <| .foldl (fun _ _ => .event) h

theorem State.Timed.syncStep (h : s₀.Timed s) : s₀.Timed s.syncStep := by
  unfold State.syncStep
  split
  · exact .ite (.keep <| .stepTo <| .foldl (fun _ _ => .slotAuto) h) h
  · exact .when (.tickRunUp h) fun h => .keep <| .stepTo <| .foldl (fun _ _ => .slotAuto) h
  · exact .when (.tickRunUp h) fun h => .keep <| .stepTo h
  · exact .when (.keep h) .enterRun

theorem State.Timed.stopStep (h : s₀.Timed s) : s₀.Timed s.stopStep := by
  unfold State.stopStep
  split
  · exact .ite h <| .keep <| .stepTo h
  · exact .when (.keep h) fun h => .slotsManual <| .stepTo h
  · exact .wr <| .stepTo h
  · exact .ite (.stepTo h) h
  · exact .goTo h

theorem State.Timed.selfTest (h : s₀.Timed s) : s₀.Timed s.selfTest := .ite (.wr h) <| .goTo h

theorem State.Timed.sequence (h : s₀.Timed s) : s₀.Timed s.sequence :=
  .ite h <| .ite (.selfTest <| .keep h) <| .ite (.prechargeStep <| .keep h) <| .ite (.syncStep <| .keep h) <|
    .ite (.when (.keep h) .goTo) <| .ite (.keep <| .keep h) <| .when (.keep h) .stopStep

theorem State.Timed.busStage (h : s₀.Timed s) : s₀.Timed s.busStage := .when (.when (.keep h) .raise) .raise
theorem State.Timed.showStation (h : s₀.Timed s) : s₀.Timed s.showStation := .wrB <| .wrB <| .wr h

theorem State.Timed.policyStage (h : s₀.Timed s) : s₀.Timed s.policyStage :=
  .showStation <| .sequence <| .serviceStage <| .busStage <| .signals h

theorem State.Timed.takeOrder {halted x_1} (h : s₀.Timed s) : s₀.Timed (State.takeOrder halted s x_1) := by
  unfold State.takeOrder
  split
  · exact h
  · exact .ite h <| .when (.enter <| .ite (.foldl (fun _ _ => .fillArm) h) h) fun h => .ite (.driveOff h) <| .driveStop h

theorem State.Timed.applyGoto (h : s₀.Timed s) : s₀.Timed s.applyGoto := .when (.takeOrder <| .keep h) .wr

theorem State.Timed.dueSet {id r} (h : s₀.Timed s) : s₀.Timed (s.dueSet id r) := .keep h

/-! ### Drive -/

theorem State.Timed.showTrip {code} (h : s₀.Timed s) : s₀.Timed (s.showTrip code) := .raise <| .keep <| .setWord h

theorem State.Timed.driveTrips (h : s₀.Timed s) : s₀.Timed s.driveTrips := by
  unfold State.driveTrips
  dsimp only
  split
  · exact .keep h
  · exact .orElse (.foldl (fun _ _ => .showTrip) <| .keep h) fun h => .keep <| .wr <| .slotsManual <| .inc <| .driveTo <| .wr h

theorem State.Timed.latchAtBoundary (h : s₀.Timed s) : s₀.Timed s.latchAtBoundary := .keep h

theorem State.Timed.initLevels (h : s₀.Timed s) : s₀.Timed s.initLevels := .keep <| .foldl (fun _ _ h => .wr h) h
theorem State.Timed.gateEnable (h : s₀.Timed s) : s₀.Timed s.gateEnable := .ite h <| .gatesOff h

theorem State.Timed.startDrive (h : s₀.Timed s) : s₀.Timed s.startDrive := .keep <| .driveTo h

theorem State.Timed.stepD4 (h : s₀.Timed s) : s₀.Timed s.stepD4 :=
  .ite (.foldl (fun _ _ => .slotAuto) <| .slotManual <| .wr <| .keep <| .takeFree <| .keep <| .wr <| .initLevels h) <| .wr <|
    .foldl (fun _ _ => .slotAuto) <| .keep <| .wr <| .initLevels h

theorem State.Timed.latchEncoder (h : s₀.Timed s) : s₀.Timed s.latchEncoder := .keep <| .wr h
theorem State.Timed.quot {x y} {s : State} (h : s₀.Timed s) : s₀.Timed (s.quot x y).2 := .sndIte (.takeFree h) h

theorem State.Timed.driveSignals (h : s₀.Timed s) : s₀.Timed s.driveSignals :=
  .keep <| .wrF <| .handSig <| .foldl (fun _ _ => .handSig) <| .quot <| .quot <| .quot <| .quot <| .sndIte h <| .quot h

theorem State.Timed.watchEncoder (h : s₀.Timed s) : s₀.Timed s.watchEncoder := .ite (.ite (.raise <| .keep h) <| .latchTrip h) h

theorem State.Timed.openLoop (h : s₀.Timed s) : s₀.Timed s.openLoop :=
  .ite (.ite (.slotAuto <| .wr <| .keep <| .keep h) <| .when (.keep h) .latchTrip) h

theorem State.Timed.moveSpeedRef (h : s₀.Timed s) : s₀.Timed s.moveSpeedRef := .keep h

theorem State.Timed.driveStage (h : s₀.Timed s) : s₀.Timed s.driveStage :=
  .openLoop <| .watchEncoder <| .driveSignals <| .moveSpeedRef h

theorem State.Timed.driveSequence (h : s₀.Timed s) : s₀.Timed s.driveSequence :=
  .ite (.ite (.stepD4 <| .keep h) <| .when (.keep h) fun h => .inc <| .driveTo <| .keep h) <| .ite (.ite (.driveTo <| .keep h) <| .keep h) h

theorem State.Timed.driveOrders (h : s₀.Timed s) : s₀.Timed s.driveOrders :=
  .when (.keep <| .when (.when (.driveTrips <| .ite (.driveTo h) h) .driveStop) .startDrive) .driveOff

theorem State.Timed.showDrive (h : s₀.Timed s) : s₀.Timed s.showDrive :=
  .wrB <| .orElse (.wrB <| .wr <| .wrB <| .wrB <| .wrB <| .wrB h) .wr

theorem State.Timed.holdTimes (h : s₀.Timed s) : s₀.Timed s.holdTimes := .keep h

theorem State.Timed.driveBoundary (h : s₀.Timed s) : s₀.Timed s.driveBoundary :=
  .showDrive <| .latchEncoder <| .holdTimes <| .latchAtBoundary <| .driveOrders <| .ite (.driveSequence h) h

/-! ### SafetyIsland -/

theorem State.Timed.setPair {i p} (h : s₀.Timed s) : s₀.Timed (s.setPair i p) := .keep h
theorem State.Timed.setOutp {j o} (h : s₀.Timed s) : s₀.Timed (s.setOutp j o) := .keep h
theorem State.Timed.islandReport {code data} (h : s₀.Timed s) : s₀.Timed (s.islandReport code data) := .keep h
theorem State.Timed.newNonce (h : s₀.Timed s) : s₀.Timed s.newNonce := .wr <| .takeFree h

theorem State.Timed.lockOut {cause subject} (h : s₀.Timed s) : s₀.Timed (s.lockOut cause subject) :=
  .orElse (.keep <| .islandReport <| .inc h) fun h => .inc <| .newNonce <| .wr <| .wr <| .wr <| .wr h

theorem State.Timed.driveOut {j} (h : s₀.Timed s) : s₀.Timed (s.driveOut j) := .ite h <| .setOutp <| .wrB h
theorem State.Timed.showPair {i} (h : s₀.Timed s) : s₀.Timed (s.showPair i) := .wr <| .wrSat <| .wr h
theorem State.Timed.showIsland (h : s₀.Timed s) : s₀.Timed s.showIsland := .wrB <| .wrSat <| .wr <| .foldl (fun _ _ => .showPair) h

theorem State.Timed.islandAct {ending} (h : s₀.Timed s) : s₀.Timed (State.islandAct ending s) :=
  .showIsland <| .foldl (fun _ _ => .driveOut) <| .wrB <| .wrB <| .orElse (.ite (.keep h) h) fun h => .gateEnable <| .keep h

theorem State.Timed.setActive {ws} (h : s₀.Timed s) : s₀.Timed (s.setActive ws) := .foldl (fun _ _ => .setWord) h
theorem State.Timed.showParams (h : s₀.Timed s) : s₀.Timed s.showParams := .wr <| .wrB h

theorem State.Timed.dropUnused {i} (h : s₀.Timed s) : s₀.Timed (s.dropUnused i) := .ite (.setPair h) h

theorem State.Timed.commitSafe {ws} (h : s₀.Timed s) : s₀.Timed (s.commitSafe ws) :=
  .islandAct <| .lockOut <| .keep <| .foldl (fun _ _ => .dropUnused) <| .showParams <| .setActive h

/-! ### Eth -/

theorem State.Timed.setEth {p e} (h : s₀.Timed s) : s₀.Timed (s.setEth p e) := .keep h
theorem State.Timed.setGrid {st} (h : s₀.Timed s) : s₀.Timed (s.setGrid st) :=
  .ite (.keep <| .keep <| .wrBLow <| .wrBLow <| .wrLow h) <| .when (.keep <| .wrBLow <| .wrBLow <| .wrLow h) .keep

theorem State.Timed.gridLoss (h : s₀.Timed s) : s₀.Timed s.gridLoss := by
  unfold State.gridLoss
  split
  · exact .setGrid h
  · exact .setGrid h
  · exact h

theorem State.Timed.setPtp {f} (h : s₀.Timed s) : s₀.Timed (s.setPtp f) := .keep h
theorem State.Timed.ptpBegin {p} (h : s₀.Timed s) : s₀.Timed (s.ptpBegin p) := .wr <| .setPtp h

theorem State.Timed.ethDown {p} (h : s₀.Timed s) : s₀.Timed (s.ethDown p) :=
  .ite h <| .ptpBegin <| .setEth <| .inc <| .wr <| .wr <| .ite (.setPtp <| .gridLoss h) h

theorem State.Timed.setTel {t x} (h : s₀.Timed s) : s₀.Timed (s.setTel t x) := .keep h
theorem State.Timed.tickTelegram {t} (h : s₀.Timed s) : s₀.Timed (s.tickTelegram t) := .ite (.setTel h) <| .setTel <| .ite (.inc h) h

/-! ### Can -/

theorem State.Timed.setCan {c x} (h : s₀.Timed s) : s₀.Timed (s.setCan c x) := .keep h
theorem State.Timed.setTx {c n t} (h : s₀.Timed s) : s₀.Timed (s.setTx c n t) := .wrB <| .setCan h

theorem State.Timed.queueTx {c n data oneShot started} {s0 : State} (h : s₀.Timed s0) :
    s₀.Timed (s0.queueTx c n data oneShot started) := by
  unfold State.queueTx
  dsimp only
  split
  · exact .setTx <| .setCan h
  · exact .ite (.setTx <| .when (.setCan h) .inc) <| .setTx <| .inc <| .setCan h

theorem State.Timed.timedTx {c n started} (h : s₀.Timed s) : s₀.Timed (s.timedTx c n started) := .ite (.wr h) <| .queueTx h
theorem State.Timed.stageTx {on c n} (h : s₀.Timed s) : s₀.Timed (State.stageTx on c s n) := .ite (.timedTx h) h

theorem State.Timed.countTaken {c n} (h : s₀.Timed s) : s₀.Timed (s.countTaken c n) := .wr <| .inc <| .inc <| .setCan h

theorem State.Timed.queueRx {c n f ageNs} (h : s₀.Timed s) : s₀.Timed (s.queueRx c n f ageNs) :=
  .ite (.inc <| .inc <| .wr h) <| .countTaken <| .wr <| .foldl (fun _ _ => .setWord) h

theorem State.Timed.canSetpoint {c n f} (h : s₀.Timed s) : s₀.Timed (s.canSetpoint c n f) := by
  unfold State.canSetpoint
  dsimp only
  split
  · exact .inc h
  · exact .dueSet h

theorem State.Timed.deliverFrames {c l} {s : State} (h : s₀.Timed s) : s₀.Timed (deliverFrames c l s) := by
  induction l generalizing s with
  | nil => exact h
  | cons p l ih =>
    unfold Machine.deliverFrames
    dsimp only
    split
    · exact ih h
    · exact .ite (ih <| .orElse (.countTaken h) .canSetpoint) (ih (.queueRx h))

theorem State.Timed.deliverCan {c} (h : s₀.Timed s) : s₀.Timed (s.deliverCan c) := .deliverFrames <| .setCan h

/-! ### Store -/

theorem State.Timed.lockMon (h : s₀.Timed s) : s₀.Timed s.lockMon := .ite (.event <| .wr <| .wr h) h
theorem State.Timed.mapOps {f} (h : s₀.Timed s) : s₀.Timed (s.mapOps f) := .foldl (fun _ _ => .keep) h

theorem State.Timed.copySnap {i bytes} (h : s₀.Timed s) : s₀.Timed (s.copySnap i bytes) :=
  .wr <| .wr <| .wr <| .wr <| .wr <| .wr <| .store h

theorem State.Timed.captureFor {i} {image : State} (h : s₀.Timed s) : s₀.Timed (image.captureFor s i) := by
  refine .foldl (fun _ _ h => ?_) h
  split
  · exact .copySnap h
  · exact h

theorem State.Timed.captureSnaps (h : s₀.Timed s) : s₀.Timed s.captureSnaps := .mapOps <| .foldl (fun _ _ => .captureFor) h

theorem State.Timed.captureCrcs (h : s₀.Timed s) : s₀.Timed s.captureCrcs := by
  refine .foldl (fun _ _ h => .foldl (fun _ _ h => ?_) h) h
  split
  · exact .ite h <| .endBusy h
  · exact h

/-! ### Monitor -/

theorem State.Timed.monProgress (h : s₀.Timed s) : s₀.Timed s.monProgress := by
  unfold State.monProgress
  split
  · exact h
  · exact .ite (.keep h) <| .ite h <| .monPut <| .keep h

theorem State.Timed.tickMon (h : s₀.Timed s) : s₀.Timed s.tickMon := .when (.keep <| .monProgress h) .wr

/-! ### Faults -/

theorem State.Timed.showLatch {i} (h : s₀.Timed s) : s₀.Timed (s.showLatch i) := .ite (.wrB h) h
theorem State.Timed.showFaults (h : s₀.Timed s) : s₀.Timed s.showFaults := .wr <| .wr <| .foldl (fun _ _ => .showLatch) h

theorem State.Timed.latchF3 {f} (h : s₀.Timed s) : s₀.Timed (s.latchF3 f) := by
  unfold State.latchF3
  split
  · exact .wr <| .wr <| .wr <| .wr <| .wr h
  · exact h

theorem countFld_high {c : FaultClass} {f : Fld} (h : countFld c = some f) : 0x02000000 ≤ f.addr := by
  cases c <;> cases h <;> decide

theorem State.Timed.raiseOne {f} (h : s₀.Timed s) : s₀.Timed (s.raiseOne f) := by
  refine .ite h <| .keep <| .when ?_ .latchF3
  split
  · next hf => exact .inc (.journal h) (countFld_high hf)
  · exact .journal h

theorem State.Timed.slideTrips (h : s₀.Timed s) : s₀.Timed s.slideTrips := .wrSat <| .keep h

theorem State.Timed.react {l} (h : s₀.Timed s) : s₀.Timed (s.react l) := by
  unfold State.react
  dsimp only
  split
  · exact .ite (.keep h) <| .inc <| .goTo h
  · exact .when (.ite (.foldl (fun _ _ => .stopGroup) h) h) fun h => .goTo <| .keep h

theorem State.Timed.raiseAll (h : s₀.Timed s) : s₀.Timed s.raiseAll :=
  .react <| .slideTrips <| .foldl (fun _ _ => .raiseOne) <| .keep h

theorem State.Timed.islandReact {code} (h : s₀.Timed s) : s₀.Timed (s.islandReact code) :=
  .ite (.ite (.keep h) <| .goTo h) <| .ite (.goTo <| .keep h) h

theorem State.Timed.takeReport {r} (h : s₀.Timed s) : s₀.Timed (s.takeReport r) := .orElse (.keep <| .journal h) .islandReact
theorem State.Timed.takeReports (h : s₀.Timed s) : s₀.Timed s.takeReports := .foldl (fun _ _ => .takeReport) <| .keep h

theorem State.Timed.recordSlot (h : s₀.Timed s) : s₀.Timed s.recordSlot :=
  .ite h <| .when (.keep <| .wr <| .store <| .ite (.store h) h) .inc

theorem State.Timed.takeTrigger (h : s₀.Timed s) : s₀.Timed s.takeTrigger :=
  .ite h <| .ite (.inc <| .keep h) <| .keep <| .wr <| .wr <| .wr <| .keep h

/-! ### Pair -/

theorem State.Timed.setGrant {b} (h : s₀.Timed s) : s₀.Timed (s.setGrant b) := .gateEnable <| .keep h
theorem State.Timed.dropClaim (h : s₀.Timed s) : s₀.Timed s.dropClaim := .setGrant <| .keep h
theorem State.Timed.leaveStep {rejoin} (h : s₀.Timed s) : s₀.Timed (s.leaveStep rejoin) := .foldl (fun _ _ => .wr) <| .wr <| .keep h
theorem State.Timed.yieldTo (h : s₀.Timed s) : s₀.Timed s.yieldTo := .event <| .inc <| .wr <| .wr <| .wr <| .keep h

theorem State.Timed.sendParts {a b} (h : s₀.Timed s) : s₀.Timed (s.sendParts a b) := .put <| .put h
theorem State.Timed.endFrame (h : s₀.Timed s) : s₀.Timed s.endFrame := by
  unfold State.endFrame
  dsimp only
  split
  · exact .keep h
  · exact .sendParts <| .keep h

theorem State.Timed.takeDigest {k} (h : s₀.Timed s) : s₀.Timed (s.takeDigest k) := .keep h

theorem State.Timed.takeEntry {p} (h : s₀.Timed s) : s₀.Timed (s.takeEntry p) :=
  .ite (.wrB <| .noLedger h) <| .setCell <| .cellThermal <| .wrB <| .wr <| .wr <| .wr <| .wr <| .foldl (fun _ _ => .setWord) <|
    .takeFree <| .takeFree h

theorem State.Timed.yieldFrom (h : s₀.Timed s) : s₀.Timed s.yieldFrom := .event <| .inc <| .wr <| .wr <| .wr <| .wr <| .keep h

theorem State.Timed.takeRole {yields} (h : s₀.Timed s) : s₀.Timed (s.takeRole yields) := by
  unfold State.takeRole
  split
  · exact .ite (.ite (.ite (.yieldTo h) h) <| .ite h <| .keep h) <| .ite (.yieldFrom h) h
  · exact h

theorem State.Timed.takeLaneRef (h : s₀.Timed s) : s₀.Timed s.takeLaneRef := .wrLow <| .keep h
theorem State.Timed.failJoin (h : s₀.Timed s) : s₀.Timed s.failJoin := .leaveStep <| .raise h

theorem State.Timed.tickPair (h : s₀.Timed s) : s₀.Timed s.tickPair := .keep h

theorem State.Timed.pairBefore (h : s₀.Timed s) : s₀.Timed s.pairBefore :=
  .orElse (.when (.when (.tickPair <| .keep h) .put) .keep) fun h => .ite (.raise <| .keep h) <| .ite (.keep <| .keep h) <|
    .ite (.failJoin <| .keep h) <| .when (.keep h) .leaveStep

theorem State.Timed.laneFollow (h : s₀.Timed s) : s₀.Timed s.laneFollow :=
  .ite (.ite (.takeLaneRef h) h) <| .ite (.leaveLaneRef h) <| .ite (.wrLow h) <| .ite (.wrLow h) h

theorem State.Timed.showPair_ (h : s₀.Timed s) : s₀.Timed s.showPair_ :=
  .wr <| .wrB <| .wrB <| .wr <| .wr <| .wrB <| .wrB <| .wrB <| .wr h

theorem State.Timed.pairAfter (h : s₀.Timed s) : s₀.Timed s.pairAfter :=
  .showPair_ <| .laneFollow <| .takeRole <| .ite h <| .when (.when (.takeDigest h) .endFrame) .leaveStep

theorem State.Timed.takeRelayed (h : s₀.Timed s) : s₀.Timed s.takeRelayed := by
  refine .ite h <| .foldl (fun _ _ h => ?_) <| .keep h
  split
  · exact .takeEntry h
  · exact .noLedger h

/-! ### Clock -/

theorem pinFlds_apart (p : Pll) : ∀ f ∈ pinFlds p, ∀ g ∈ timeFlds, f.apart g := by cases p <;> decide

theorem State.Timed.readPin {p mv} (h : s₀.Timed s) : s₀.Timed (s.readPin p mv) := by
  obtain ⟨l, e⟩ := s.readPin_upd p mv
  exact h.of_keeps (Keeps.readPin s p mv) (by rw [e]) (pinFlds_apart p)

theorem rampFlds_apart : ∀ g : Fin 2, ∀ f ∈ rampFlds g, ∀ k ∈ timeFlds, f.apart k := by decide

theorem State.Timed.setRamp {g r} (h : s₀.Timed s) : s₀.Timed (s.setRamp g r) := by
  obtain ⟨l, e⟩ := s.setRamp_upd g r
  exact h.of_keeps ((Keeps.refl s _).setRamp g r fun _ h => h) (by rw [e]) (rampFlds_apart g)

theorem State.Timed.hvLinkDown (h : s₀.Timed s) : s₀.Timed s.hvLinkDown := .latchTrip <| .keep <| .wrLow h
theorem State.Timed.linksLost (h : s₀.Timed s) : s₀.Timed s.linksLost := .foldl (fun _ _ h => .lockLost <| .wr <| .wr h) h

theorem State.Timed.stopIslands (h : s₀.Timed s) : s₀.Timed s.stopIslands :=
  .keep <| .hvLinkDown <| .ethDown <| .ethDown <| .linksLost h

theorem State.Timed.tickRamp {ns g} (h : s₀.Timed s) : s₀.Timed (State.tickRamp ns s g) := by
  refine .ite h ?_
  split
  · exact .ite (.setRamp h) <| .setRamp h
  · exact .setRamp h

theorem State.Timed.tickSpread {ns} (h : s₀.Timed s) : s₀.Timed (s.tickSpread ns) := .ite h <| .setRamp <| .keep h

theorem State.Timed.tickLaneBack {ns} (h : s₀.Timed s) : s₀.Timed (State.tickLaneBack ns s) := .keep h

theorem State.Timed.readPins {b} (h : s₀.Timed s) : s₀.Timed (s.readPins b) := .readPin <| .readPin h

/-! ### Power -/

theorem State.Timed.cutWrite {b} {t : State} (h : s₀.Timed t) : s₀.Timed (t.cutWrite b) := by
  unfold State.cutWrite
  split
  · exact .keep h
  · exact .when (.takeFree h) .keep
  · exact .when (.takeFree h) .commitSafe
  · exact h

theorem State.Timed.cutWrites (h : s₀.Timed s) : s₀.Timed s.cutWrites := .foldl (fun _ _ h => .foldl (fun _ _ => .cutWrite) h) h
theorem State.Timed.stopCopies (h : s₀.Timed s) : s₀.Timed s.stopCopies := .foldl (fun _ _ => .wr) h

theorem State.Timed.unclassify (h : s₀.Timed s) : s₀.Timed s.unclassify := .setWordOther h (by decide)

theorem State.Timed.stopAll (h : s₀.Timed s) : s₀.Timed s.stopAll :=
  .gatesOff <| .unclassify <| .wrLow <| .keep <| .dropClaim <| .stopCopies <| .cutWrites <| .lockMon h

theorem State.Timed.hold (h : s₀.Timed s) : s₀.Timed s.hold := .keep <| .stopAll h

/-! ### Boundary -/

theorem State.Timed.mapDue {f} (h : s₀.Timed s) : s₀.Timed (s.mapDue f) := .foldl (fun _ _ => .keep) h

theorem State.Timed.showUptime (h : s₀.Timed s) : s₀.Timed s.showUptime := .wrLow <| .wrLow <| .wrLow <| .wrLow h
theorem State.Timed.tickIdle {mono} (h : s₀.Timed s) : s₀.Timed (State.tickIdle mono s) := .foldl (fun _ _ h => .ite (.setSess h) h) h
theorem State.Timed.answerStarts {conv drive} (h : s₀.Timed s) : s₀.Timed (State.answerStarts conv drive s) := .endOps <| .endOps h
theorem State.Timed.clearOrders (h : s₀.Timed s) : s₀.Timed s.clearOrders := .keep h

theorem State.Timed.tickStop (h : s₀.Timed s) : s₀.Timed s.tickStop := by
  unfold State.tickStop
  split
  · exact h
  · exact .when (.keep h) .hold

theorem State.Timed.tickXin (h : s₀.Timed s) : s₀.Timed s.tickXin := by
  unfold State.tickXin
  split
  · exact h
  · exact .ite (.stopIslands h) <| .keep h

theorem State.Timed.endStage (h : s₀.Timed s) : s₀.Timed s.endStage :=
  .foldl (fun _ _ => .tickTraining) <| .driveStage <| .policyStage <| .pairBefore <| .recordSlot h

theorem State.Timed.endLag (h : s₀.Timed s) : s₀.Timed s.endLag := .keep h

theorem State.Timed.reactAll (h : s₀.Timed s) : s₀.Timed s.reactAll :=
  .showFaults <| .clearOrders <| .answerStarts <| .pairAfter <| .takeRelayed <| .takeTrigger <| .applyGoto <| .takeReports <|
    .foldl (fun _ _ => .stopGroup) <| .raiseAll <| .when (.driveBoundary <| .tickSetpoints <| .when (.endLag <|
    .takeRole h) fun h => .deliverCan <| .deliverCan h) .event

theorem State.Timed.beginStage {b} (h : s₀.Timed s) : s₀.Timed (State.beginStage b s) :=
  .snapView <| .takeCauses <| .orders <| .tickInject <| .foldl (fun _ _ => .stageTx) <| .foldl (fun _ _ => .stageTx) <|
    .foldl (fun _ _ => .tickTelegram) <| .orElse (.captureSnaps <| .keep <| .wrB <| .wrB <| .mapDue <| .writeQueued <| .wr <| .keep <|
    .wrB h) .captureCrcs

end

end Sys2Proof.Machine
end

section
/-! SUPPORT. The advance of the time at a stage boundary: what the counter, a time base and its stamp show once they are set, how the bases go on and
are stamped, and with what the rest of a boundary keeps, the boundary as a whole. -/

namespace Sys2Proof.Machine

open Sys2Proof

/-! ### The stage counter and a time base once set (R78, R80) -/

theorem State.timeOf_keeps {s t : State} {fs : List Fld} (h : Keeps s t fs) {b : Nat} (ha : ∀ g ∈ baseFlds b, g.within ∧ ∀ f ∈ fs, f.apart g) :
    t.timeOf b = s.timeOf b := by
  have hr {g : Fld} (hg : g ∈ baseFlds b) : t.rd g = s.rd g := h g (ha g hg).1 (ha g hg).2
  unfold State.timeOf
  rw [hr (by simp [baseFlds]), hr (by simp [baseFlds]), hr (by simp [baseFlds]), hr (by simp [baseFlds])]

theorem State.stage_setStage (s : State) {k : Nat} (hk : k < 2 ^ 48) : (s.setStage k).stage = k := by
  have hhi : (s.setStage k).rd Reg.CLK_STAGE_COUNT_COUNT_HI = k / 2 ^ 32 % 2 ^ 16 :=
    (State.rd_wr_elsewhere _ _ (by decide)).trans (State.rd_wr_same s _ (by decide))
  have hlo : (s.setStage k).rd Reg.CLK_STAGE_COUNT_COUNT_LO = k % 2 ^ 32 := State.rd_wr_same _ k (by decide)
  unfold State.stage
  rw [hhi, hlo]
  omega

theorem Keeps.setStage (s : State) (k : Nat) : Keeps s (s.setStage k) [Reg.CLK_STAGE_COUNT_COUNT_HI, Reg.CLK_STAGE_COUNT_COUNT_LO] :=
  ((Keeps.refl s _).wr _ (by decide) (by decide)).wr k (by decide) (by decide)

theorem Keeps.setTime (s : State) (b u : Nat) : Keeps s (s.setTime b u) (baseFlds b) := by
  have hb (f : Fld) (h : f ∈ baseFlds b) : f ∈ baseFlds b ∧ f.within := by
    refine ⟨h, ?_⟩
    simp only [baseFlds, List.mem_cons, List.not_mem_nil, or_false] at h
    rcases h with rfl | rfl | rfl | rfl <;> exact Fld.within_mk
  unfold State.setTime
  exact ((((Keeps.refl s _).wr _ (hb _ (by simp [baseFlds])).1 (hb _ (by simp [baseFlds])).2).wr _ (hb _ (by simp [baseFlds])).1
    (hb _ (by simp [baseFlds])).2).wr _ (hb _ (by simp [baseFlds])).1 (hb _ (by simp [baseFlds])).2).wr _ (hb _ (by simp [baseFlds])).1
    (hb _ (by simp [baseFlds])).2

/-- A time base takes a value of 2^64 seconds at most. -/
theorem State.timeOf_setTime (s : State) (b u : Nat) : (s.setTime b u).timeOf b = u % (2 ^ 64 * unitsPerSecond) := by
  have hne {a a' : Nat} (v : Nat) (m l m' l' : Nat) (t : State) (h : a' ≠ a) : (t.wr ⟨a, m, l⟩ v).rd ⟨a', m', l'⟩ = t.rd ⟨a', m', l'⟩ :=
    State.rd_wr_elsewhere t v h
  have hfrac : (s.setTime b u).rd (Reg.TIME_BASE_FRACTION b) = u % unitsPerSecond % 65536 % 2 ^ 16 := State.rd_wr_same _ _ Fld.within_mk
  have hns : (s.setTime b u).rd (Reg.TIME_BASE_NANOSECONDS b) = u % unitsPerSecond / 65536 % 2 ^ 32 :=
    (hne _ _ _ _ _ _ (by omega)).trans (State.rd_wr_same _ _ Fld.within_mk)
  have hlo : (s.setTime b u).rd (Reg.TIME_BASE_SECONDS_LO b) = u / unitsPerSecond % 2 ^ 32 :=
    (hne _ _ _ _ _ _ (by omega)).trans ((hne _ _ _ _ _ _ (by omega)).trans (State.rd_wr_same _ _ Fld.within_mk))
  have hhi : (s.setTime b u).rd (Reg.TIME_BASE_SECONDS_HI b) = u / unitsPerSecond / 2 ^ 32 % 2 ^ 32 :=
    (hne _ _ _ _ _ _ (by omega)).trans ((hne _ _ _ _ _ _ (by omega)).trans ((hne _ _ _ _ _ _ (by omega)).trans
      (State.rd_wr_same _ _ Fld.within_mk)))
  unfold State.timeOf
  rw [hfrac, hns, hlo, hhi, Nat.mul_comm, Nat.mod_mul]
  unfold unitsPerSecond
  omega

/-! ### The bases at a boundary (R80 to R82, R551) -/

/-- What BUS_TIME's alignment and GRID_TIME's step may change. -/
def steerFlds : List Fld := baseFlds 3 ++ baseFlds 0 ++ Reg.TIME_GRID_STAT_STEP_COUNT :: journalFlds

theorem State.tickBus_keeps (s : State) : Keeps s s.tickBus (baseFlds 3) ∧ s.tickBus.pending = s.pending := by
  unfold State.tickBus
  split
  · exact ⟨Keeps.of_regs rfl _, rfl⟩
  · exact ⟨(Keeps.setTime s 3 _).congr rfl, rfl⟩

theorem State.mapDue_upd (s : State) (f : DueCmd → DueCmd) : ∃ x, s.mapDue f = { s with ses := x } := ⟨_, rfl⟩

theorem State.stepGrid_keeps (s : State) : Keeps s s.stepGrid steerFlds ∧ s.stepGrid.pending = s.pending := by
  unfold State.stepGrid
  split
  · exact ⟨Keeps.refl s _, rfl⟩
  · next d _ =>
    obtain ⟨u, hu⟩ : ∃ u : State, u = State.inc (State.setTime { s with clk := { s.clk with stepDue := none } } 0
      ((s.timeOf 0 : Int) + d).toNat) Reg.TIME_GRID_STAT_STEP_COUNT := ⟨_, rfl⟩
    have hk : Keeps s u steerFlds := by
      have hset : Keeps s (State.setTime { s with clk := { s.clk with stepDue := none } } 0 ((s.timeOf 0 : Int) + d).toNat) steerFlds :=
        (Keeps.of_regs (t := { s with clk := { s.clk with stepDue := none } }) rfl _).trans ((Keeps.setTime _ 0 _).mono (by decide))
      exact hu ▸ hset.inc 1 (by decide) (by decide)
    have hp : u.pending = s.pending := hu ▸ rfl
    obtain ⟨x, e⟩ := u.mapDue_upd fun c => c.stepPast (s.timeOf 0) ((s.timeOf 0 : Int) + d).toNat
    simp only [← hu, e]
    exact ⟨(hk.congr (u := { u with ses := x }) rfl).event _ _ _ (by decide) (by decide), hp⟩

/-- GRID_TIME, MONO and LANE_TIME with their new values. -/
def State.basesOn (s : State) (g mono : Nat) : State :=
  ((s.setTime 0 g).setTime 1 (s.timeOf 1 + mono)).setTime 2 (s.timeOf 2 + s.tsNs * 65536)

theorem Keeps.basesOn (s : State) (g mono : Nat) : Keeps s (s.basesOn g mono) (baseFlds 0 ++ baseFlds 1 ++ baseFlds 2) := by
  unfold State.basesOn
  exact (((Keeps.setTime s 0 g).mono (by decide)).trans ((Keeps.setTime _ 1 _).mono (by decide))).trans ((Keeps.setTime _ 2 _).mono (by decide))

theorem State.tickTime_eq (s : State) (mono : Nat) : ∃ (c : Clock) (g : Nat), s.tickTime mono
    = ((State.setTime (State.basesOn { s with clk := c } g mono) 3
        ((State.basesOn { s with clk := c } g mono).timeOf 3 + mono)).tickBus).stepGrid := ⟨_, _, rfl⟩

/-- The stage counter, MONO, LANE_TIME and the waiting commands once the bases have gone on. -/
theorem State.tickTime_shows (s : State) (mono : Nat) : (s.tickTime mono).stage = s.stage
    ∧ (s.tickTime mono).timeOf 1 = (s.timeOf 1 + mono) % (2 ^ 64 * unitsPerSecond)
    ∧ (s.tickTime mono).timeOf 2 = (s.timeOf 2 + s.tsNs * 65536) % (2 ^ 64 * unitsPerSecond) ∧ (s.tickTime mono).pending = s.pending := by
  obtain ⟨c, g, e⟩ := s.tickTime_eq mono
  obtain ⟨v, hv⟩ : ∃ v : State, v = { s with clk := c } := ⟨_, rfl⟩
  obtain ⟨w, hw⟩ : ∃ w : State, w = v.basesOn g mono := ⟨_, rfl⟩
  rw [← hv, ← hw] at e
  obtain ⟨u, hu⟩ : ∃ u : State, u = w.setTime 3 (w.timeOf 3 + mono) := ⟨_, rfl⟩
  rw [← hu] at e
  obtain ⟨hkb, hpb⟩ := u.tickBus_keeps
  obtain ⟨hkg, hpg⟩ := u.tickBus.stepGrid_keeps
  have hwv : Keeps s w (baseFlds 0 ++ baseFlds 1 ++ baseFlds 2) := (Keeps.of_regs (hv ▸ rfl) _).trans (hw ▸ Keeps.basesOn v g mono)
  have hend : Keeps w (s.tickTime mono) steerFlds :=
    e ▸ (hu ▸ (Keeps.setTime w 3 _).mono (by decide : ∀ f ∈ baseFlds 3, f ∈ steerFlds)).trans ((hkb.mono (by decide)).trans hkg)
  have hone : w.timeOf 1 = (s.timeOf 1 + mono) % (2 ^ 64 * unitsPerSecond) := by
    have hlane := State.timeOf_keeps (b := 1) (Keeps.setTime ((v.setTime 0 g).setTime 1 (v.timeOf 1 + mono)) 2 (v.timeOf 2 + v.tsNs * 65536)) (by decide)
    have hs : v.timeOf 1 = s.timeOf 1 := hv ▸ rfl
    rw [hw, ← hs]
    exact hlane.trans (State.timeOf_setTime _ 1 _)
  have htwo : w.timeOf 2 = (s.timeOf 2 + s.tsNs * 65536) % (2 ^ 64 * unitsPerSecond) := by
    have hs : v.timeOf 2 = s.timeOf 2 ∧ v.tsNs = s.tsNs := hv ▸ ⟨rfl, rfl⟩
    rw [hw, ← hs.1, ← hs.2]
    exact State.timeOf_setTime _ 2 _
  have hstage : (s.tickTime mono).stage = s.stage := (hend.stage (by decide)).trans (hwv.stage (by decide))
  have hpend : (s.tickTime mono).pending = s.pending := by
    rw [e, hpg, hpb, hu, hw, hv]
    rfl
  exact ⟨hstage, (State.timeOf_keeps hend (by decide)).trans hone, (State.timeOf_keeps hend (by decide)).trans htwo, hpend⟩

/-! ### The stamps (R84) -/

/-- The words of the bases, by their offset. -/
def stampOffsets : List Nat := (List.range 16).map (4 * ·)

theorem stampOffsets_nodup : stampOffsets.Nodup := by decide

/-- Words of the bases are copied to their stamps. -/
def State.copyStamps (s : State) (l : List Nat) : State := l.foldl (fun t n => t.setWord (0x01002048 + n) (t.word (0x01002000 + n))) s

theorem State.word_copyStamps_other (l : List Nat) {a : Nat} (h : ∀ n ∈ l, a ≠ 0x01002048 + n) (s : State) : (s.copyStamps l).word a = s.word a := by
  induction l generalizing s with
  | nil => rfl
  | cons m l ih => exact (ih (fun n hn => h n (List.mem_cons_of_mem _ hn)) _).trans (State.word_setWord_other s _ (h m List.mem_cons_self))

theorem State.word_copyStamps {l : List Nat} (hl : l.Nodup) (h48 : ∀ n ∈ l, n < 0x48) {n : Nat} (hn : n ∈ l) (s : State) :
    (s.copyStamps l).word (0x01002048 + n) = s.word (0x01002000 + n) := by
  induction l generalizing s with
  | nil => exact absurd hn List.not_mem_nil
  | cons m l ih =>
    obtain ⟨hm, hl⟩ := List.nodup_cons.mp hl
    rcases List.mem_cons.mp hn with rfl | hn'
    · refine (State.word_copyStamps_other l (fun k hk e => hm ?_) _).trans (State.word_setWord_same s _ _)
      exact (show n = k by omega) ▸ hk
    · refine (ih hl (fun k hk => h48 k (List.mem_cons_of_mem _ hk)) hn' _).trans (State.word_setWord_other s _ ?_)
      have := h48 n hn
      omega

/-- The stage that the stamps name. -/
def State.stampCounter (s : State) : State :=
  (s.wr Reg.TIME_STAGE_STAMP_STAGE_HI (s.stage / 2 ^ 32)).wr Reg.TIME_STAGE_STAMP_STAGE_LO s.stage

theorem State.stampStage_eq (s : State) : ∃ v : State, v = s.stampCounter ∧ s.stampStage = v.copyStamps stampOffsets := by
  refine ⟨_, rfl, ?_⟩
  unfold State.stampStage State.stampCounter
  generalize (s.wr Reg.TIME_STAGE_STAMP_STAGE_HI (s.stage / 2 ^ 32)).wr Reg.TIME_STAGE_STAMP_STAGE_LO s.stage = v
  have hfold (t : State) (b : Nat) : t.stampBase b = t.copyStamps [16 * b, 16 * b + 4, 16 * b + 8, 16 * b + 12] := rfl
  have happ (t : State) (l m : List Nat) : (t.copyStamps l).copyStamps m = t.copyStamps (l ++ m) := List.foldl_append.symm
  simp only [List.foldl_cons, List.foldl_nil, hfold, happ]
  exact congrArg v.copyStamps (by decide)

/-- What the stamping of a stage leaves: the counter and the bases as they are, and the stamps after them. -/
theorem State.stampStage_shows (s : State) : s.stampStage.stage = s.stage
    ∧ s.stampStage.rd Reg.TIME_STAGE_STAMP_STAGE_HI * 2 ^ 32 + s.stampStage.rd Reg.TIME_STAGE_STAMP_STAGE_LO = s.stage
    ∧ (∀ x < 4, s.stampStage.timeOf x = s.timeOf x)
    ∧ (∀ n ∈ stampOffsets, s.stampStage.word (0x01002048 + n) = s.stampStage.word (0x01002000 + n)) ∧ s.stampStage.pending = s.pending := by
  obtain ⟨v, hv, e⟩ := s.stampStage_eq
  have hn48 : ∀ n ∈ stampOffsets, n < 0x48 := by decide
  have hlow {a : Nat} (ha : a < 0x01002048) : s.stampStage.word a = v.word a := by
    rw [e]
    exact State.word_copyStamps_other _ (fun n _ => by omega) v
  have hrd {f : Fld} (ha : f.addr < 0x01002048) : s.stampStage.rd f = v.rd f := by
    unfold State.rd
    rw [hlow ha]
  have hkv : Keeps s v [Reg.TIME_STAGE_STAMP_STAGE_HI, Reg.TIME_STAGE_STAMP_STAGE_LO] :=
    hv ▸ ((Keeps.refl s _).wr _ (by decide) (by decide)).wr _ (by decide) (by decide)
  have hhi : v.rd Reg.TIME_STAGE_STAMP_STAGE_HI = s.stage / 2 ^ 32 % 2 ^ 32 :=
    hv ▸ (State.rd_wr_elsewhere _ _ (by decide)).trans (State.rd_wr_same s _ (by decide))
  have hlo : v.rd Reg.TIME_STAGE_STAMP_STAGE_LO = s.stage % 2 ^ 32 := hv ▸ State.rd_wr_same _ _ (by decide)
  have hbound : s.stage < 2 ^ 48 := by
    have h1 := s.rd_lt Reg.CLK_STAGE_COUNT_COUNT_HI
    have h2 := s.rd_lt Reg.CLK_STAGE_COUNT_COUNT_LO
    simp only [Reg.CLK_STAGE_COUNT_COUNT_HI, Reg.CLK_STAGE_COUNT_COUNT_LO, State.stage] at h1 h2 ⊢
    omega
  refine ⟨?_, ?_, fun x hx => ?_, fun n hn => ?_, ?_⟩
  · refine Eq.trans ?_ (hkv.stage (by decide))
    unfold State.stage
    rw [hrd (by decide), hrd (by decide)]
  · rw [hrd (by decide), hrd (by decide), hhi, hlo]
    omega
  · have hbase : ∀ x < 4, ∀ g ∈ baseFlds x, g.addr < 0x01002048 ∧ g.within
        ∧ ∀ f ∈ [Reg.TIME_STAGE_STAMP_STAGE_HI, Reg.TIME_STAGE_STAMP_STAGE_LO], f.apart g := by decide
    have hr {g : Fld} (hg : g ∈ baseFlds x) : s.stampStage.rd g = s.rd g := by
      obtain ⟨ha, hw, hap⟩ := hbase x hx g hg
      exact (hrd ha).trans (hkv g hw hap)
    unfold State.timeOf
    rw [hr (by simp [baseFlds]), hr (by simp [baseFlds]), hr (by simp [baseFlds]), hr (by simp [baseFlds])]
  · have hlt := hn48 n hn
    have hdst : s.stampStage.word (0x01002048 + n) = v.word (0x01002000 + n) := by
      rw [e]
      exact State.word_copyStamps stampOffsets_nodup hn48 hn v
    exact hdst.trans (hlow (a := 0x01002000 + n) (by omega)).symm
  · have hp (l : List Nat) (t : State) : (t.copyStamps l).pending = t.pending := by
      induction l generalizing t with
      | nil => rfl
      | cons n l ih => exact ih _
    rw [e, hp, hv]
    rfl

/-- A stamp that was copied from its base is the base's value in whole nanoseconds. -/
theorem State.stampNs_of_copied {s : State} (h : ∀ n ∈ stampOffsets, s.word (0x01002048 + n) = s.word (0x01002000 + n)) {x : Nat} (hx : x < 4) :
    s.stampNs x = s.timeOf x / 65536 := by
  have hw {o : Nat} (ho : o < 4) : s.word (0x01002048 + (0x10 * x + 4 * o)) = s.word (0x01002000 + (0x10 * x + 4 * o)) :=
    h _ (List.mem_map.mpr ⟨4 * x + o, List.mem_range.mpr (by omega), by omega⟩)
  have hrd {a b o : Nat} (m l : Nat) (ha : a = 0x01002048 + (0x10 * x + 4 * o)) (hb : b = 0x01002000 + (0x10 * x + 4 * o)) (ho : o < 4) :
      s.rd ⟨a, m, l⟩ = s.rd ⟨b, m, l⟩ := by
    unfold State.rd
    rw [ha, hb, hw ho]
  have hhi : s.rd (Reg.TIME_STAMP_BASE_SECONDS_HI x) = s.rd (Reg.TIME_BASE_SECONDS_HI x) := hrd (o := 0) _ _ (by omega) (by omega) (by decide)
  have hlo : s.rd (Reg.TIME_STAMP_BASE_SECONDS_LO x) = s.rd (Reg.TIME_BASE_SECONDS_LO x) := hrd (o := 1) _ _ (by omega) (by omega) (by decide)
  have hns : s.rd (Reg.TIME_STAMP_BASE_NANOSECONDS x) = s.rd (Reg.TIME_BASE_NANOSECONDS x) := hrd (o := 2) _ _ (by omega) (by omega) (by decide)
  have hfrac : s.rd (Reg.TIME_BASE_FRACTION x) < 65536 := s.rd_lt (Reg.TIME_BASE_FRACTION x)
  unfold State.stampNs State.timeOf
  rw [hhi, hlo, hns]
  omega

/-! ### What a state shows of the stage and the time -/

theorem baseFlds_time : ∀ b < 4, ∀ f, f ∈ baseFlds b ∨ f ∈ stampFlds b → f ∈ timeFlds := by
  have h : ∀ b < 4, (∀ f ∈ baseFlds b, f ∈ timeFlds) ∧ ∀ f ∈ stampFlds b, f ∈ timeFlds := by decide
  exact fun b hb f hf => hf.elim ((h b hb).1 f) ((h b hb).2 f)

namespace State.Timed

variable {s₀ s : State} (h : s₀.Timed s)
include h

theorem stage : s.stage = s₀.stage := by
  unfold State.stage
  rw [h.rd _ (by decide), h.rd _ (by decide)]

theorem tsNs : s.tsNs = s₀.tsNs := by
  unfold State.tsNs State.ts
  rw [h.rd _ (by decide)]

theorem timeOf {b : Nat} (hb : b < 4) : s.timeOf b = s₀.timeOf b := by
  have hr {f : Fld} (hf : f ∈ baseFlds b) : s.rd f = s₀.rd f := h.rd f (baseFlds_time b hb f (.inl hf))
  unfold State.timeOf
  rw [hr (by simp [baseFlds]), hr (by simp [baseFlds]), hr (by simp [baseFlds]), hr (by simp [baseFlds])]

theorem stampNs {b : Nat} (hb : b < 4) : s.stampNs b = s₀.stampNs b := by
  have hr {f : Fld} (hf : f ∈ stampFlds b) : s.rd f = s₀.rd f := h.rd f (baseFlds_time b hb f (.inr hf))
  unfold State.stampNs
  rw [hr (by simp [stampFlds]), hr (by simp [stampFlds]), hr (by simp [stampFlds])]

end State.Timed

/-! ### The advance -/

/-- The counter is one further, the bases have gone on, and both are stamped. -/
def State.stamped (s : State) (mono : Nat) : State := ((s.setStage ((s.stage + 1) % 2 ^ 48)).tickTime mono).stampStage

theorem State.advance_timed (s : State) (b : BoundaryIn) : (s.stamped b.mono).Timed (s.advance b) :=
  .tickIdle <| .tickMon <| .readPins <| .tickLaneBack <| .tickSpread <| .foldl (fun _ _ => .tickRamp) <| .showUptime <| .refl _

theorem State.stamped_shows (s : State) (mono : Nat) : (s.stamped mono).stage = (s.stage + 1) % 2 ^ 48
    ∧ (s.stamped mono).rd Reg.TIME_STAGE_STAMP_STAGE_HI * 2 ^ 32 + (s.stamped mono).rd Reg.TIME_STAGE_STAMP_STAGE_LO = (s.stage + 1) % 2 ^ 48
    ∧ (s.stamped mono).timeOf 1 = (s.timeOf 1 + mono) % (2 ^ 64 * unitsPerSecond)
    ∧ (s.stamped mono).timeOf 2 = (s.timeOf 2 + s.tsNs * 65536) % (2 ^ 64 * unitsPerSecond)
    ∧ (∀ x < 4, (s.stamped mono).stampNs x = (s.stamped mono).timeOf x / 65536) ∧ (s.stamped mono).pending = s.pending := by
  obtain ⟨u, hu⟩ : ∃ u : State, u = s.setStage ((s.stage + 1) % 2 ^ 48) := ⟨_, rfl⟩
  have hk : Keeps s u [Reg.CLK_STAGE_COUNT_COUNT_HI, Reg.CLK_STAGE_COUNT_COUNT_LO] := hu ▸ Keeps.setStage s _
  have hstage : u.stage = (s.stage + 1) % 2 ^ 48 := hu ▸ State.stage_setStage s (Nat.mod_lt _ (by decide))
  have hone : u.timeOf 1 = s.timeOf 1 := State.timeOf_keeps hk (by decide)
  have htwo : u.timeOf 2 = s.timeOf 2 := State.timeOf_keeps hk (by decide)
  have hts : u.tsNs = s.tsNs := congrArg (· * 10) (hk Reg.CLK_STAGE_PERIOD_TS (by decide) (by decide))
  have hpend : u.pending = s.pending := hu ▸ rfl
  obtain ⟨v, hv⟩ : ∃ v : State, v = u.tickTime mono := ⟨_, rfl⟩
  obtain ⟨hvs, hv1, hv2, hvp⟩ := hv ▸ u.tickTime_shows mono
  obtain ⟨hws, hwst, hwt, hwc, hwp⟩ := v.stampStage_shows
  have e : s.stamped mono = v.stampStage := by
    unfold State.stamped
    rw [← hu, ← hv]
  rw [e]
  refine ⟨hws.trans (hvs.trans hstage), hwst.trans (hvs.trans hstage), (hwt 1 (by decide)).trans ?_, (hwt 2 (by decide)).trans ?_,
    fun x hx => State.stampNs_of_copied hwc hx, hwp.trans (hvp.trans hpend)⟩
  · rw [hv1, hone]
  · rw [hv2, htwo, hts]

/-! ### The boundary -/

/-- Settles O10: the stage's end keeps the time, its counter, bases and stamps advance, and all that follows keeps them. -/
theorem stageBoundaryAdvances : Obligations.StageBoundaryAdvances := by
  unfold Obligations.StageBoundaryAdvances
  intro s b hr
  obtain ⟨u, hu⟩ : ∃ u : State, u = { s with out := [], seenOld := s.seen, seen := [] } := ⟨_, rfl⟩
  have hs : s.Timed u := hu ▸ .keep (.refl s)
  have hend : s.Timed u.endStage := .endStage hs
  obtain ⟨hstage, hstamp, hone, htwo, hns, hpend⟩ := u.endStage.stamped_shows b.mono
  obtain ⟨t, ht⟩ : ∃ t : State, t = ((((u.endStage).advance b).reactAll).beginStage b).tickXin.tickStop := ⟨_, rfl⟩
  have hlast : (u.endStage.stamped b.mono).Timed t := ht ▸ .tickStop (.tickXin <| .beginStage <| .reactAll <| u.endStage.advance_timed b)
  have he : exec (.stageBoundary b) s = .next t := by
    show execStageBoundary b s = _
    unfold execStageBoundary
    rw [onRun_eq hr, ht, hu]
  rw [hend.stage] at hstage hstamp
  rw [hend.timeOf (by decide)] at hone htwo
  rw [hend.tsNs] at htwo
  refine ⟨t, he, hlast.stage.trans hstage, ?_, (hlast.timeOf (by decide)).trans hone, (hlast.timeOf (by decide)).trans htwo, fun x hx => ?_,
    hlast.pending.trans (hpend.trans hend.pending)⟩
  · rw [hlast.rd _ (by decide), hlast.rd _ (by decide), hstamp, hlast.stage, hstage]
  · rw [hlast.stampNs hx, hns x hx, hlast.timeOf hx]

end Sys2Proof.Machine
end

section
/-! SUPPORT. The write-back of corrected words and the preserving March C−: what a block of the test shows, and that it keeps the rest. -/

namespace Sys2Proof.Machine

open Sys2Proof

/-- A notice waits to be raised. -/
theorem State.raiseEach_due (s : State) (c : Nat) (k : FaultClass) (b : Nat) (d : List Byte) : FaultDue (s.raiseEach c k b d) c :=
  ⟨⟨c, k, b, d, false⟩, List.mem_append_right _ List.mem_cons_self, rfl⟩

/-! ### The block under test -/

/-- The block as the test leaves it: a failing word is recorded. -/
def State.marchFound (s : State) (f : Option (Fin 16)) : State :=
  match f with
  | some w => s.marchFail (s.sto.march * 16 + w.val)
  | none => s

/-- While it runs and no fill of the secure region suspends it, the test takes the block and goes on to the next. -/
theorem execMarchPreservingBlock_runs {s : State} (hr : s.running = true) (ht : s.rd Reg.MEM_MARCH_STAT_RUNNING = 1)
    (hw : s.rd Reg.MEM_TAMPER_STAT_WIPING = 0) (f : Option (Fin 16)) (l : List (Fin 16 × Bool)) :
    exec (.marchPreservingBlock f l) s = .next ((({ s with out := [] } : State).marchFound f).marchReads l).marchNext := by
  have hflag : (!(({ s with out := [] } : State).flag Reg.MEM_MARCH_STAT_RUNNING) || ({ s with out := [] } : State).flag Reg.MEM_TAMPER_STAT_WIPING)
      = false := by
    have ht' : ({ s with out := [] } : State).rd Reg.MEM_MARCH_STAT_RUNNING = 1 := ht
    have hw' : ({ s with out := [] } : State).rd Reg.MEM_TAMPER_STAT_WIPING = 0 := hw
    unfold State.flag
    rw [ht', hw']
    rfl
  show execMarchPreservingBlock f l s = _
  unfold execMarchPreservingBlock
  rw [onRun_eq hr, hflag, if_neg Bool.false_ne_true]
  cases f <;> rfl

/-- Reads that meet no error only take the block's words off the list of those that await their write-back. -/
theorem State.marchReads_none (s : State) : ∃ e, s.marchReads [] = { s with sto := { s.sto with ecc := e } } := ⟨_, rfl⟩

/-! ### The next block, bank and pass -/

/-- Within a bank the next block follows. -/
theorem State.marchNext_block {s : State} (h : s.sto.march + 1 < 16384) :
    ∃ e, (s.marchReads []).marchNext = { s with sto := { s.sto with march := s.sto.march + 1, ecc := e } } := by
  obtain ⟨e, he⟩ := s.marchReads_none
  rw [he]
  exact ⟨e, if_pos h⟩

/-- What the bank's last block leaves: the next bank, or the first one and a further pass. -/
def State.marchBank (s : State) : State :=
  if s.rd Reg.MEM_MARCH_STAT_BANK < 63 then s.wr Reg.MEM_MARCH_STAT_BANK (s.rd Reg.MEM_MARCH_STAT_BANK + 1)
  else (s.wr Reg.MEM_MARCH_STAT_BANK 0).inc Reg.MEM_MARCH_STAT_PASS_COUNT

/-- After a bank's last block the test begins the next bank. -/
theorem State.marchNext_bank {s : State} (h : ¬ s.sto.march + 1 < 16384) :
    ∃ e, (s.marchReads []).marchNext = ({ s with sto := { s.sto with march := 0, ecc := e } } : State).marchBank := by
  obtain ⟨e, he⟩ := s.marchReads_none
  rw [he]
  exact ⟨e, if_neg h⟩

theorem State.marchBank_upd (s : State) : s.marchBank = { s with regs := s.marchBank.regs } := by
  unfold State.marchBank
  split <;> rfl

theorem Keeps.marchBank (s : State) : Keeps s s.marchBank [Reg.MEM_MARCH_STAT_BANK, Reg.MEM_MARCH_STAT_PASS_COUNT] := by
  unfold State.marchBank
  split
  · exact (Keeps.refl s _).wr _ (by decide) (by decide)
  · exact ((Keeps.refl s _).wr _ (by decide) (by decide)).inc 1 (by decide) (by decide)

theorem State.rd_bank_marchBank (s : State) :
    s.marchBank.rd Reg.MEM_MARCH_STAT_BANK = if s.rd Reg.MEM_MARCH_STAT_BANK < 63 then s.rd Reg.MEM_MARCH_STAT_BANK + 1 else 0 := by
  unfold State.marchBank
  split
  case isTrue h => exact (State.rd_wr_same _ _ (by decide)).trans (Nat.mod_eq_of_lt (by show _ < 64; omega))
  case isFalse => exact (State.rd_wr_bits _).trans (State.rd_wr_same _ _ (by decide))

/-- A block in which nothing is found: the test's place moves on, and nothing else changes. -/
theorem State.marchNext_shows (s : State) : ∃ t, (s.marchReads []).marchNext = t
    ∧ t = { s with regs := t.regs, sto := { s.sto with march := t.sto.march, ecc := t.sto.ecc } }
    ∧ t.sto.march = (if s.sto.march + 1 < 16384 then s.sto.march + 1 else 0)
    ∧ t.rd Reg.MEM_MARCH_STAT_BANK = (if s.sto.march + 1 < 16384 then s.rd Reg.MEM_MARCH_STAT_BANK
        else if s.rd Reg.MEM_MARCH_STAT_BANK < 63 then s.rd Reg.MEM_MARCH_STAT_BANK + 1 else 0)
    ∧ Keeps s t [Reg.MEM_MARCH_STAT_BANK, Reg.MEM_MARCH_STAT_PASS_COUNT] := by
  by_cases hm : s.sto.march + 1 < 16384
  · obtain ⟨e, he⟩ := State.marchNext_block hm
    exact ⟨_, he, rfl, (if_pos hm).symm, (if_pos hm).symm, Keeps.of_regs rfl _⟩
  · obtain ⟨e, he⟩ := State.marchNext_bank hm
    obtain ⟨u, hu⟩ : ∃ u : State, u = { s with sto := { s.sto with march := 0, ecc := e } } := ⟨_, rfl⟩
    have hregs : u.regs = s.regs := hu ▸ rfl
    obtain ⟨t, ht⟩ : ∃ t : State, t = u.marchBank := ⟨_, rfl⟩
    have hupd : t = { u with regs := t.regs } := ht ▸ u.marchBank_upd
    rw [← hu, ← ht] at he
    refine ⟨t, he, ?_, ?_, ?_, (Keeps.of_regs hregs _).trans (ht ▸ Keeps.marchBank u)⟩
    · rw [hupd, hu]
    · rw [hupd, hu, if_neg hm]
    · rw [ht, u.rd_bank_marchBank, if_neg hm, State.rd_congr hregs]

/-! ### A failing word -/

/-- The fields that record a failing word (R126). -/
def marchFailFlds : List Fld :=
  [Reg.MEM_MARCH_FAIL_BANK, Reg.MEM_MARCH_FAIL_ROW, Reg.MEM_MARCH_FAIL_WORD, Reg.MEM_MARCH_STAT_FAIL_SEEN]

theorem State.marchFail_upd (s : State) (ix : Nat) : ∃ l f n, s.marchFail ix = { s with regs := l, flt := f, seen := n } := ⟨_, _, _, rfl⟩

theorem Keeps.marchFail (s : State) (ix : Nat) : Keeps s (s.marchFail ix) marchFailFlds :=
  ((((Keeps.refl s _).wr _ (by decide) (by decide)).wr _ (by decide) (by decide)).wr _ (by decide) (by decide)).wr _ (by decide) (by decide)
    |>.congr rfl

theorem State.marchFail_shows (s : State) {ix : Nat} (h : ix < 262144) :
    (s.marchFail ix).rd Reg.MEM_MARCH_FAIL_BANK = s.rd Reg.MEM_MARCH_STAT_BANK ∧ (s.marchFail ix).rd Reg.MEM_MARCH_FAIL_ROW = ix / 256
      ∧ (s.marchFail ix).rd Reg.MEM_MARCH_FAIL_WORD = ix % 256 ∧ (s.marchFail ix).rd Reg.MEM_MARCH_STAT_FAIL_SEEN = 1
      ∧ FaultDue (s.marchFail ix) Code.MEM_MARCH_FAIL := by
  obtain ⟨u, hu⟩ : ∃ u : State, u = (s.wr Reg.MEM_MARCH_FAIL_BANK (s.rd Reg.MEM_MARCH_STAT_BANK)).wr Reg.MEM_MARCH_FAIL_ROW (ix / 256) :=
    ⟨_, rfl⟩
  have he : (s.marchFail ix).regs = ((u.wr Reg.MEM_MARCH_FAIL_WORD (ix % 256)).wr Reg.MEM_MARCH_STAT_FAIL_SEEN 1).regs := hu ▸ rfl
  have hfail {f : Fld} (hf : f.within ∧ Reg.MEM_MARCH_STAT_FAIL_SEEN.apart f) :
      (s.marchFail ix).rd f = (u.wr Reg.MEM_MARCH_FAIL_WORD (ix % 256)).rd f :=
    (State.rd_congr he f).trans (State.rd_wr_apart _ _ (by decide) hf.1 hf.2)
  refine ⟨?_, ?_, ?_, ?_, State.raiseEach_due _ _ _ _ _⟩
  · have hb : s.rd Reg.MEM_MARCH_STAT_BANK < 64 := s.rd_lt _
    rw [hfail (by decide), hu]
    exact (State.rd_wr_bits _).trans ((State.rd_wr_bits _).trans ((State.rd_wr_same _ _ (by decide)).trans (Nat.mod_eq_of_lt hb)))
  · rw [hfail (by decide), hu]
    exact (State.rd_wr_bits _).trans ((State.rd_wr_same _ _ (by decide)).trans (Nat.mod_eq_of_lt (by show ix / 256 < 1024; omega)))
  · rw [hfail (by decide)]
    exact (State.rd_wr_same _ _ (by decide)).trans (Nat.mod_mod _ _)
  · exact (State.rd_congr he _).trans (State.rd_wr_same _ _ (by decide))

/-! ### The clauses of O7 -/

theorem eccWriteback_done {s : State} (w : Nat) (hr : s.running = true) :
    ∃ t, exec (.eccWriteback w) s = .next t ∧ t = { s with out := [], sto := { s.sto with ecc := t.sto.ecc } }
      ∧ ∀ v : Nat, v ∈ t.sto.ecc ↔ v ∈ s.sto.ecc ∧ v ≠ w := by
  refine ⟨{ s with out := [], sto := { s.sto with ecc := s.sto.ecc.filter (fun v => v != w) } }, ?_, rfl, fun v => ?_⟩
  · show execEccWriteback w s = _
    rw [execEccWriteback, onRun_eq hr]
  · rw [List.mem_filter, bne_iff_ne]

/-- A failing word within a bank is recorded, and the next block follows. -/
theorem marchPreservingBlock_fails {s : State} (w : Fin 16) (hr : s.running = true) (ht : s.rd Reg.MEM_MARCH_STAT_RUNNING = 1)
    (hw : s.rd Reg.MEM_TAMPER_STAT_WIPING = 0) (hm : s.sto.march < 16383) :
    ∃ t, exec (.marchPreservingBlock (some w) []) s = .next t
      ∧ t = { s with regs := t.regs, out := [], sto := { s.sto with march := s.sto.march + 1, ecc := t.sto.ecc }, flt := t.flt, seen := t.seen }
      ∧ t.rd Reg.MEM_MARCH_FAIL_BANK = s.rd Reg.MEM_MARCH_STAT_BANK
      ∧ t.rd Reg.MEM_MARCH_FAIL_ROW = (s.sto.march * 16 + w.val) / 256 ∧ t.rd Reg.MEM_MARCH_FAIL_WORD = (s.sto.march * 16 + w.val) % 256
      ∧ t.rd Reg.MEM_MARCH_STAT_FAIL_SEEN = 1 ∧ FaultDue t Code.MEM_MARCH_FAIL ∧ Keeps s t marchFailFlds := by
  have hexec := execMarchPreservingBlock_runs hr ht hw (some w) []
  obtain ⟨v, hv⟩ : ∃ v : State, v = { s with out := [] } := ⟨_, rfl⟩
  obtain ⟨u, hu⟩ : ∃ u : State, u = v.marchFail (s.sto.march * 16 + w.val) := ⟨_, rfl⟩
  have hfound : v.marchFound (some w) = u := by rw [hu, hv]; rfl
  obtain ⟨hbank, hrow, hword, hseen, hdue⟩ := hu ▸ v.marchFail_shows (ix := s.sto.march * 16 + w.val) (by omega)
  have hkeep : Keeps s u marchFailFlds := hu ▸ (Keeps.of_regs (hv ▸ rfl) _).trans (Keeps.marchFail v _)
  have hstat : v.rd Reg.MEM_MARCH_STAT_BANK = s.rd Reg.MEM_MARCH_STAT_BANK := State.rd_congr (hv ▸ rfl) _
  obtain ⟨l, f, n, hupd⟩ := v.marchFail_upd (s.sto.march * 16 + w.val)
  rw [← hu, hv] at hupd
  have hplace : u.sto.march = s.sto.march := by rw [hupd]
  obtain ⟨e, he⟩ := u.marchNext_block (by omega)
  rw [← hv, hfound, he, hplace] at hexec
  exact ⟨_, hexec, by rw [hupd], hbank.trans hstat, hrow, hword, hseen, hdue, hkeep.congr rfl⟩

/-- Settles O7: a block without a failing word moves on, one with a failing word records it first. -/
theorem memoryChecks : Obligations.MemoryChecks := by
  refine ⟨fun s w hr => eccWriteback_done w hr, ?_, fun s w hr ht hw hm => marchPreservingBlock_fails w hr ht hw hm⟩
  intro s hr ht hw
  obtain ⟨t, hnext, hshows⟩ := State.marchNext_shows { s with out := [] }
  exact ⟨t, (execMarchPreservingBlock_runs hr ht hw none []).trans (congrArg _ hnext), hshows⟩

end Sys2Proof.Machine
end

section
/-! SUPPORT. How an operation that a session executes ends, and how a ready verb that has no effect of its own begins to wait for one or is
answered. -/

namespace Sys2Proof.Machine

open Sys2Proof

/-! ### The end of an operation -/

/-- The final reply of a keeper's session: the base sequence is past the command, and its source gets the reply. -/
theorem State.complete_replies {u : State} {i : Fin 4} (h : Head) (st : Nat) (p : List Byte) (k : Nat) (hk : u.isKeeper = true)
    (hp : (u.sess i).src.path ≠ .mon) :
    (u.complete i h st p k).baseSeq i = (h.seq + 1) % 2 ^ 32 ∧ Replied (u.complete i h st p k) (u.sess i).src h st p k := by
  have hw : ∀ i : Fin 4, (Reg.CMD_SESSION_BASE_SEQ i).within := by decide
  have hports : ∀ i : Fin 4, ∀ f ∈ [Reg.ETH_STAT_TX_FRAMES 0, Reg.ETH_STAT_TX_FRAMES 1], f.apart (Reg.CMD_SESSION_BASE_SEQ i) := by decide
  obtain ⟨v, x, c, hv, hc⟩ : ∃ (v : State) (x : Session) (c : Nat), v = u.wr (Reg.CMD_SESSION_BASE_SEQ i) (h.seq + 1)
      ∧ u.complete i h st p k = (v.setSess i x).sendReply (u.sess i).src
        { head := h, interim := false, status := st, credit := c, boot := v.boot16, stage := k, payload := p } false := ⟨_, _, _, rfl, rfl⟩
  have hkv : (v.setSess i x).isKeeper = true := by rw [hv]; exact hk
  obtain ⟨hout, hsent⟩ := State.sendReply_keeper (s := v.setSess i x) (d := (u.sess i).src)
    { head := h, interim := false, status := st, credit := c, boot := v.boot16, stage := k, payload := p } hkv hp
  have hset : Keeps v (v.setSess i x) (sessionFlds i) := (Keeps.refl v _).setSess x fun _ h => h
  rw [hc]
  refine ⟨?_, c, ?_⟩
  · calc _ = (v.setSess i x).baseSeq i := hsent _ (hw i) (hports i)
      _ = v.baseSeq i := State.baseSeq_setSess _ _ _ _
      _ = (h.seq + 1) % 2 ^ 32 := hv ▸ State.rd_wr_same _ _ (hw i)
  · have hboot : ((v.setSess i x).sendReply (u.sess i).src
        { head := h, interim := false, status := st, credit := c, boot := v.boot16, stage := k, payload := p } false).boot16 = v.boot16 :=
      congrArg (· % 65536) ((hsent _ (by decide) (by decide)).trans (hset _ (by decide) (apart_of_session (by decide) i)))
    rw [hboot]
    exact hout

/-- A session's own operation is the first that a test finds. -/
theorem Session.opWith_busy {x : Session} {b : BusyCmd} {f : LongOp → Bool} (hb : x.busy = some b) (hf : f b.op = true) :
    x.opWith f = some b.op := by
  unfold Session.opWith Session.ops
  rw [hb]
  exact List.find?_cons_of_pos hf

theorem State.endBusy_eq {s : State} {i : Fin 4} {b : BusyCmd} (hb : (s.sess i).busy = some b) (st : Nat) (p : List Byte) :
    s.endBusy i b.op st p = (s.setSess i { s.sess i with busy := none }).finish i b.head (b.final st) p (s.stageOf b) := by
  unfold State.endBusy
  simp only [hb, if_true]

theorem State.stageOf_congr {s t : State} (h : t.stage = s.stage) (b : BusyCmd) : t.stageOf b = s.stageOf b := by
  unfold State.stageOf
  rw [h]

/-- What a step before the end of an operation leaves alone: the sessions, the module's rank and the stage. -/
structure EndsFrom (s u : State) : Prop where
  ses : u.ses = s.ses
  duo : u.duo = s.duo
  stage : u.stage = s.stage

/-- An operation ends: its reply goes, the session is free again, and beside the command path's part nothing changes. -/
theorem Executes.endBusy {s u : State} {i : Fin 4} {b : BusyCmd} (h : Executes s i b) (hu : EndsFrom s u) (st : Nat) (p : List Byte) :
    Ended s (u.endBusy i b.op st p) i b st p
      ∧ (∃ l x c o, u.endBusy i b.op st p = { u with regs := l, ses := x, canTx := c, out := o })
      ∧ Keeps u (u.endBusy i b.op st p) (sessionFlds i) := by
  obtain ⟨-, hk, hb, hw, hp⟩ := h
  have hsess (j : Fin 4) : u.sess j = s.sess j := State.sess_congr hu.ses j
  obtain ⟨v, hv⟩ : ∃ v : State, v = u.setSess i { u.sess i with busy := none } := ⟨_, rfl⟩
  have hself : v.sess i = { s.sess i with busy := none } := by rw [hv, State.sess_setSess_same, hsess]
  have hset : Keeps u v (sessionFlds i) := hv ▸ (Keeps.refl u _).setSess _ fun _ h => h
  have hkv : v.isKeeper = true := by
    unfold State.isKeeper at hk ⊢
    rw [hv, State.setSess_duo, hu.duo]
    exact hk
  have hpv : (v.sess i).src.path ≠ .mon := by rw [hself]; exact hp
  have he : u.endBusy i b.op st p = v.complete i b.head (b.final st) p (s.stageOf b) := by
    rw [State.endBusy_eq (by rw [hsess]; exact hb), ← hv, State.stageOf_congr hu.stage]
    exact State.finish_eq (by rw [hself]; exact hw) _ _ _ _ _
  obtain ⟨hseq, hreply⟩ := State.complete_replies b.head (b.final st) p (s.stageOf b) hkv hpv
  obtain ⟨hupd, hkeeps, -⟩ := State.complete_afterReply b.head (b.final st) p (s.stageOf b) hkv hpv
  obtain ⟨c, hc⟩ := State.sess_complete_same v i b.head (b.final st) p (s.stageOf b) false
  rw [hself] at hreply hc
  rw [he]
  refine ⟨⟨by rw [hc], hseq, fun j hj => ?_, hreply⟩, ?_, hset.trans hkeeps⟩
  · rw [State.sess_complete_other _ _ _ _ _ _ hj, hv, State.sess_setSess_other _ _ hj, hsess]
  · obtain ⟨l, x, e⟩ := State.setSess_upd u i { u.sess i with busy := none }
    rw [hupd, hv, e]
    exact ⟨_, _, _, _, rfl⟩

/-! ### Verbs that wait for an operation -/

theorem State.wait_same (s : State) {p : Policy} (h : s.pol = p) (op : LongOp) (k : Nat) :
    s.wait op k = ⟨Status.OK, [], { s with pol := p }, some op, k⟩ := by
  rw [← h]
  rfl

/-- A ready verb that waits for an operation and has no other effect. -/
theorem execVerb_waits {s : State} {r : Req} {verb : Nat} (h : Ready s r verb) (hm : moodAllowed verb 1 = true) (read : Bool) (cmd : Instr)
    {act : Action} {op : LongOp} {k : Nat} (ha : act (s.taken r) = (s.taken r).wait op k) :
    ∃ t, execVerb s r verb 0 read cmd act = .next t ∧ Started s t r verb op k
      ∧ t = { s with regs := t.regs, ses := t.ses, turn := r.session, out := [] } ∧ Keeps s t (sessionFlds r.session) :=
  execVerb_held (P := s.pol) h hm read cmd (ha.trans (State.wait_same _ (State.taken_pol s r) op k))

/-- A ready verb that is done at once, its reply in the stage at hand. -/
theorem execVerb_ok {s : State} {r : Req} {verb : Nat} (h : Ready s r verb) (hm : moodAllowed verb 1 = true) (read : Bool) (cmd : Instr)
    {act : Action} {p : List Byte} (ha : act (s.taken r) = (s.taken r).ok p) :
    ∃ t, execVerb s r verb 0 read cmd act = .next t ∧ Completed s t r verb 0 Status.OK p s.stage
      ∧ t = { s with regs := t.regs, ses := t.ses, turn := r.session, canTx := t.canTx, out := t.out } ∧ Keeps s t (sessionFlds r.session) :=
  execVerb_same h hm read cmd (ha.trans (by rw [State.ok, State.stage_taken]))

end Sys2Proof.Machine
end

section
/-! SUPPORT. SNAPSHOT and CRC: what their actions answer on the state that has taken the packet, and what the end of a capture and of a flash CRC
leaves. -/

namespace Sys2Proof.Machine

open Sys2Proof

/-! ### What SNAPSHOT and CRC answer -/

theorem actSnapshot_refused (s : State) {l : List (Word × Word)} {x : Nat} (h : snapshotRefusal l = some x) : actSnapshot l s = s.no x := by
  unfold actSnapshot
  rw [h]

theorem actSnapshot_waits (s : State) {l : List (Word × Word)} (h : snapshotRefusal l = none) :
    actSnapshot l s = s.wait (.snapshot l none) (s.stage + 1) := by
  unfold actSnapshot
  rw [h]

section

variable (s : State) {c : Byte} {a n : Word} (e : List EccHit)

/-- Channels 0 and 1 wait for the capture of the next boundary (R173). -/
theorem actCrc_captures (hc : c.toNat ≤ 1) (ha : a.toNat % 4 = 0) (h4 : 4 ≤ n.toNat) (hn : n.toNat % 4 = 0) (hmax : n.toNat ≤ 262144)
    (hend : a.toNat + n.toNat ≤ 0x10000000) :
    actCrc c a ⟨n, e⟩ s = s.wait (.crcCapture (c == 1) a.toNat n.toNat) (s.stage + 1) := by
  have h6 : c.toNat ≠ 6 := by omega
  have hone : (c.toNat == 1) = (c == 1) := by
    rw [Bool.eq_iff_iff, beq_iff_eq, beq_iff_eq]
    exact BitVec.toNat_inj (y := 1)
  unfold actCrc
  simp only [if_neg h6]
  rw [if_neg (by omega), if_neg (by omega), if_neg (by omega), if_neg (by omega), hone]

/-- The flash channels run where the flash is free (R173, R175). -/
theorem actCrc_flash (h2 : 2 ≤ c.toNat) (h5 : c.toNat ≤ 5) (hf : s.findOp LongOp.flash = none) :
    actCrc c 0 ⟨0, e⟩ s = s.wait (.flashCrc c.toNat) s.stage := by
  have hfree : ¬ s.flashBusy = true := by
    unfold State.flashBusy
    rw [hf]
    exact Bool.false_ne_true
  unfold actCrc
  simp only
  rw [if_neg (by omega), if_pos ⟨h2, h5⟩, if_neg (by decide), if_neg hfree]

/-- Channel 6 answers the CRC-32C of the window's bytes at once (R173). -/
theorem actCrc_window (hw : inWindow a.toNat n.toNat = true) (hs : reachesSecure a.toNat n.toNat = false) (h4 : 4 ≤ n.toNat)
    (hmax : n.toNat ≤ 1048576) :
    actCrc 6 a ⟨n, e⟩ s = s.okRead (hitsIn e a.toNat n.toNat) (crcReply (crc32c 0xFFFFFFFF (s.load a.toNat n.toNat)) s.stage) := by
  obtain ⟨-, -, ha, hn⟩ : memBase ≤ a.toNat ∧ a.toNat + n.toNat ≤ memEnd ∧ a.toNat % 4 = 0 ∧ n.toNat % 4 = 0 := by
    simpa [inWindow] using hw
  have h6 : (6 : Byte).toNat = 6 := rfl
  unfold actCrc
  simp only [h6, if_true, hw, hs, Bool.not_true]
  rw [if_neg (by omega), if_neg (by omega), if_neg (by omega), if_neg Bool.false_ne_true, if_neg Bool.false_ne_true]

end

/-- Taking a packet changes no operation. -/
theorem State.findOp_taken (s : State) (r : Req) (f : LongOp → Bool) : (s.taken r).findOp f = s.findOp f := by
  have hops (j : Fin 4) : ((s.taken r).sess j).opWith f = (s.sess j).opWith f := by
    by_cases hj : j = r.session
    · rw [hj, State.sess_taken_same]
      rfl
    · rw [State.sess_taken_other s hj]
  unfold State.findOp
  simp only [hops]

/-- What channel 6 answers on the state that has taken the packet. -/
theorem actCrc_window_taken (s : State) (r : Req) {a n : Word} (e : List EccHit) (hw : inWindow a.toNat n.toNat = true)
    (hs : reachesSecure a.toNat n.toNat = false) (h4 : 4 ≤ n.toNat) (hmax : n.toNat ≤ 1048576) :
    actCrc 6 a ⟨n, e⟩ (s.taken r) = (s.taken r).okRead (hitsIn e a.toNat n.toNat)
      (beBytes 4 (crc32c 0xFFFFFFFF (s.load a.toNat n.toNat)) ++ beBytes 6 s.stage ++ [0, 0]) := by
  rw [actCrc_window _ e hw hs h4 hmax, State.load_taken, State.stage_taken, crcReply]

/-! ### The copy of a capture is done -/

/-- The buffer of a session is valid and no longer being copied (R110). -/
def State.snapValid (s : State) (i : Fin 4) : State := (s.wr (Reg.MEM_SNAP_COPYING i) 0).wr (Reg.MEM_SNAP_VALID i) 1

theorem snapFlds_facts : ∀ i : Fin 4, (Reg.MEM_SNAP_VALID i).within ∧ (Reg.MEM_SNAP_COPYING i).within ∧ (Reg.MEM_SNAP_LENGTH i).within
    ∧ (Reg.MEM_SNAP_VALID i).quiet ∧ (Reg.MEM_SNAP_COPYING i).quiet ∧ (Reg.MEM_SNAP_VALID i).apart (Reg.MEM_SNAP_COPYING i)
    ∧ ∀ f ∈ [Reg.MEM_SNAP_VALID i, Reg.MEM_SNAP_COPYING i], f.apart (Reg.MEM_SNAP_LENGTH i)
        ∧ f.addr ≠ 0x01001000 ∧ f.addr ≠ 0x01001004 := by
  unfold Fld.quiet
  decide

theorem Keeps.snapValid (s : State) (i : Fin 4) : Keeps s (s.snapValid i) [Reg.MEM_SNAP_VALID i, Reg.MEM_SNAP_COPYING i] := by
  obtain ⟨hv, hc, -⟩ := snapFlds_facts i
  exact ((Keeps.refl s _).wr 0 (List.mem_cons_of_mem _ List.mem_cons_self) hc).wr 1 List.mem_cons_self hv

theorem State.snapValid_shows (s : State) (i : Fin 4) :
    (s.snapValid i).rd (Reg.MEM_SNAP_VALID i) = 1 ∧ (s.snapValid i).rd (Reg.MEM_SNAP_COPYING i) = 0 := by
  obtain ⟨hv, hc, -, -, -, hap, -⟩ := snapFlds_facts i
  exact ⟨State.rd_wr_same _ _ hv, (State.rd_wr_apart _ _ hv hc hap).trans (State.rd_wr_same _ _ hc)⟩

/-- A capture is answered unless something commits or executes at its boundary still (R108, R110). -/
theorem execSnapshotCopyDone_ends {s : State} {i : Fin 4} {b : BusyCmd} {l : List (Word × Word)} {k : Nat} (h : Executes s i b)
    (hb : b.op = .snapshot l (some k)) (hk : k ≠ s.stage ∨ (s.commitDue = false ∧ s.anyDue = false)) :
    exec (.snapshotCopyDone i) s = .next ((({ s with out := [] } : State).snapValid i).endBusy i b.op Status.OK
      (beBytes 6 k ++ [0, 0] ++ beBytes 4 (s.rd (Reg.MEM_SNAP_LENGTH i)))) := by
  obtain ⟨hr, -, hbusy, -⟩ := h
  obtain ⟨v, hv⟩ : ∃ v : State, v = { s with out := [] } := ⟨_, rfl⟩
  have hop : (v.sess i).opWith LongOp.isTaken = some (.snapshot l (some k)) :=
    hb ▸ Session.opWith_busy (b := b) (by rw [hv]; exact hbusy) (by rw [hb]; rfl)
  have hwait : ¬ (k = v.stage ∧ (v.commitDue || v.anyDue) = true) := by
    rintro ⟨hks, hdue⟩
    rcases hk with hk | ⟨hc, ha⟩
    · exact hk (hks.trans (hv ▸ rfl))
    · have hnone : (v.commitDue || v.anyDue) = false := by rw [hv]; exact Bool.or_eq_false_iff.mpr ⟨hc, ha⟩
      exact Bool.false_ne_true (hnone ▸ hdue)
  obtain ⟨-, -, hl, -, -, -, hap⟩ := snapFlds_facts i
  have hlen : (v.snapValid i).rd (Reg.MEM_SNAP_LENGTH i) = s.rd (Reg.MEM_SNAP_LENGTH i) :=
    (Keeps.snapValid v i _ hl fun f hf => (hap f hf).1).trans (State.rd_congr (hv ▸ rfl) _)
  show execSnapshotCopyDone i s = _
  rw [execSnapshotCopyDone, onRun_eq hr, ← hv, hb, ← hlen]
  simp only [hop, if_neg hwait]
  rfl

theorem snapshotCopyDone_answers {s : State} {i : Fin 4} {b : BusyCmd} {l : List (Word × Word)} {k : Nat} (h : Executes s i b)
    (hb : b.op = .snapshot l (some k)) (hk : k ≠ s.stage ∨ (s.commitDue = false ∧ s.anyDue = false)) :
    ∃ t, exec (.snapshotCopyDone i) s = .next t ∧ t = { s with regs := t.regs, ses := t.ses, canTx := t.canTx, out := t.out }
      ∧ Ended s t i b Status.OK (beBytes 6 k ++ [0, 0] ++ beBytes 4 (s.rd (Reg.MEM_SNAP_LENGTH i)))
      ∧ t.rd (Reg.MEM_SNAP_VALID i) = 1 ∧ t.rd (Reg.MEM_SNAP_COPYING i) = 0
      ∧ Keeps s t ([Reg.MEM_SNAP_VALID i, Reg.MEM_SNAP_COPYING i] ++ sessionFlds i) := by
  obtain ⟨hwv, hwc, -, hqv, hqc, -, hst⟩ := snapFlds_facts i
  obtain ⟨u, hu⟩ : ∃ u : State, u = ({ s with out := [] } : State).snapValid i := ⟨_, rfl⟩
  have hkeep : Keeps s u [Reg.MEM_SNAP_VALID i, Reg.MEM_SNAP_COPYING i] := hu ▸ (Keeps.snapValid _ i).fresh
  obtain ⟨hvalid, hcopying⟩ := hu ▸ State.snapValid_shows { s with out := [] } i
  have hfrom : EndsFrom s u := ⟨hu ▸ rfl, hu ▸ rfl, hkeep.stage fun f hf => (hst f hf).2⟩
  obtain ⟨hend, ⟨x, y, c, o, hupd⟩, hrest⟩ := h.endBusy hfrom Status.OK (beBytes 6 k ++ [0, 0] ++ beBytes 4 (s.rd (Reg.MEM_SNAP_LENGTH i)))
  refine ⟨_, hu ▸ execSnapshotCopyDone_ends h hb hk, ?_, hend, (hrest.quiet hwv hqv).trans hvalid, (hrest.quiet hwc hqc).trans hcopying,
    (hkeep.mono fun _ => List.mem_append_left _).trans (hrest.mono fun _ => List.mem_append_right _)⟩
  rw [hupd, hu]
  rfl

/-! ### The CRC of a flash channel is done -/

/-- The running flash CRC is the first that a session executes. -/
theorem execFlashCrcDone_runs {s : State} {i : Fin 4} {b : BusyCmd} {c : Nat} (h : Executes s i b) (hb : b.op = .flashCrc c)
    (hi : s.findOp LongOp.isFlashCrc = some i) :
    exec .flashCrcDone s = .next ((s.flashCrcOf c).elim
      (({ s with out := [], free := s.free + 1 } : State).endBusy i b.op Status.OK (crcReply s.takeFree.1.toNat s.stage))
      fun x => ({ s with out := [] } : State).endBusy i b.op Status.OK (crcReply x s.stage)) := by
  obtain ⟨hr, -, hbusy, -⟩ := h
  have hop : (({ s with out := [] } : State).sess i).opWith LongOp.isFlashCrc = some (.flashCrc c) :=
    hb ▸ Session.opWith_busy (b := b) hbusy (by rw [hb]; rfl)
  have hi' : ({ s with out := [] } : State).findOp LongOp.isFlashCrc = some i := hi
  show execFlashCrcDone s = _
  rw [execFlashCrcDone, onRun_eq hr, hb]
  simp only [hi', hop, show ({ s with out := [] } : State).flashCrcOf c = s.flashCrcOf c from rfl]
  cases s.flashCrcOf c <;> rfl

section

variable {s : State} {i : Fin 4} {b : BusyCmd} {c : Nat} (h : Executes s i b) (hb : b.op = .flashCrc c)
  (hi : s.findOp LongOp.isFlashCrc = some i)
include h hb hi

theorem flashCrcDone_held {x : Nat} (hx : s.flashCrcOf c = some x) :
    ∃ t, exec .flashCrcDone s = .next t ∧ Ended s t i b Status.OK (beBytes 4 x ++ beBytes 6 s.stage ++ [0, 0])
      ∧ t = { s with regs := t.regs, ses := t.ses, canTx := t.canTx, out := t.out } ∧ Keeps s t (sessionFlds i) := by
  obtain ⟨hend, ⟨l, y, z, o, hupd⟩, hkeep⟩ := h.endBusy (u := { s with out := [] }) ⟨rfl, rfl, rfl⟩ Status.OK (crcReply x s.stage)
  have hexec := execFlashCrcDone_runs h hb hi
  rw [hx, Option.elim_some] at hexec
  exact ⟨_, hexec, hend, by rw [hupd], hkeep.fresh⟩

theorem flashCrcDone_open (hx : s.flashCrcOf c = none) :
    ∃ t x, exec .flashCrcDone s = .next t ∧ Ended s t i b Status.OK (beBytes 4 x ++ beBytes 6 s.stage ++ [0, 0])
      ∧ t = { s with regs := t.regs, ses := t.ses, canTx := t.canTx, out := t.out, free := s.free + 1 } ∧ Keeps s t (sessionFlds i) := by
  obtain ⟨hend, ⟨l, y, z, o, hupd⟩, hkeep⟩ := h.endBusy (u := { s with out := [], free := s.free + 1 }) ⟨rfl, rfl, rfl⟩ Status.OK
    (crcReply s.takeFree.1.toNat s.stage)
  have hexec := execFlashCrcDone_runs h hb hi
  rw [hx, Option.elim_none] at hexec
  exact ⟨_, s.takeFree.1.toNat, hexec, hend, by rw [hupd], (Keeps.of_regs rfl _).trans hkeep⟩

end

/-- Settles O38: the requests by what their actions answer on the state that has taken the packet, the ends by how an operation ends. -/
theorem captures : Obligations.Captures := by
  refine ⟨?_, ?_, fun s i b l k h hb hk => snapshotCopyDone_answers h hb hk, ?_, ?_, ?_, ?_,
    fun s i b c x h hb hi hx => flashCrcDone_held h hb hi hx, fun s i b c h hb hi hx => flashCrcDone_open h hb hi hx⟩
  · intro s r l hr hl
    exact execVerb_waits hr (by decide) false (.snapshot r l) ((actSnapshot_waits _ hl).trans (by rw [State.stage_taken]))
  · intro s r l x hr hl
    exact execVerb_no hr (by decide) false (.snapshot r l) (actSnapshot_refused _ hl)
  · intro s r c a n e hr hc ha h4 hn hmax hend
    exact execVerb_waits hr (by decide) true (.crc r c a ⟨n, e⟩)
      ((actCrc_captures _ e hc ha h4 hn hmax hend).trans (by rw [State.stage_taken]))
  · intro s r a n hr hw hs h4 hmax
    exact execVerb_ok hr (by decide) true (.crc r 6 a ⟨n, []⟩) (actCrc_window_taken s r [] hw hs h4 hmax)
  · intro s r a n e hr hw hs h4 hmax
    exact execVerb_okRead hr (by decide) true (.crc r 6 a ⟨n, e⟩) (actCrc_window_taken s r e hw hs h4 hmax)
  · intro s r c e hr h2 h5 hf
    rw [← State.findOp_taken s r] at hf
    exact execVerb_waits hr (by decide) true (.crc r c 0 ⟨0, e⟩) ((actCrc_flash _ e h2 h5 hf).trans (by rw [State.stage_taken]))

end Sys2Proof.Machine
end

section
/-! SUPPORT. A packet's bytes read back (R146, R148, R149): the fields of its head by their places, the check code by its bound. -/

namespace Sys2Proof.Machine

open Sys2Proof

/-! ### Numbers as bytes -/

/-- The bytes of a number spell it, as far as they hold it, behind what stands before them. -/
theorem foldl_beBytes (n v a : Nat) : (beBytes n v).foldl (fun x b => x * 256 + b.toNat) a = a * 256 ^ n + v % 256 ^ n := by
  induction n generalizing a with
  | zero => simp [beBytes, Nat.mod_one]
  | succ n ih =>
    have hbyte : (BitVec.ofNat 8 (v / 256 ^ n)).toNat = v / 256 ^ n % 256 := BitVec.toNat_ofNat _ _
    rw [beBytes, List.foldl_cons, ih, hbyte, Nat.pow_succ, Nat.mod_mul]
    ring

/-- A number of bytes that lies within a list, read from it. -/
theorem beAt_eq_beNat {bs : List Byte} {o n : Nat} (h : o + n ≤ bs.length) : beAt bs o n = beNat (slice bs o n) := by
  unfold beAt slice
  congr 1
  refine List.ext_getElem (by simp; omega) fun k hk _ => ?_
  have hk' : k < n := by simpa using hk
  simp [List.getD_eq_getElem?_getD, List.getElem?_eq_getElem (show o + k < bs.length by omega)]

theorem beAt_append_right {l : List Byte} (m : List Byte) {o : Nat} (n : Nat) (h : l.length ≤ o) :
    beAt (l ++ m) o n = beAt m (o - l.length) n := by
  unfold beAt
  congr 1
  refine List.map_congr_left fun k _ => ?_
  rw [List.getD_append_right _ _ _ _ (by omega)]
  congr 1
  omega

/-- A field in front is passed over. -/
theorem beAt_skip (k v : Nat) (m : List Byte) {o : Nat} (n : Nat) (h : k ≤ o) : beAt (beBytes k v ++ m) o n = beAt m (o - k) n := by
  rw [beAt_append_right m n (by rwa [length_beBytes]), length_beBytes]

/-- The field in front is read. -/
theorem beAt_front (n v : Nat) (m : List Byte) : beAt (beBytes n v ++ m) 0 n = v % 256 ^ n := by
  have hlen : n ≤ (beBytes n v ++ m).length := by simp
  have hfront : slice (beBytes n v ++ m) 0 n = beBytes n v := by
    rw [slice, List.drop_zero, List.take_append_of_le_length (by simp), List.take_of_length_le (by simp)]
  rw [beAt_eq_beNat (by omega), hfront, beNat, foldl_beBytes]
  omega

/-! ### The check code -/

theorem crcShift_lt {poly r : Nat} (hp : poly < 2 ^ 32) (hr : r < 2 ^ 32) : crcShift poly r < 2 ^ 32 := by
  unfold crcShift
  split
  · exact Nat.xor_lt_two_pow (by omega) hp
  · omega

theorem crcRun_lt {poly r : Nat} (hp : poly < 2 ^ 32) (hr : r < 2 ^ 32) (bs : List Byte) : crcRun poly r bs < 2 ^ 32 := by
  induction bs generalizing r with
  | nil => exact hr
  | cons b bs ih =>
    have hb : r ^^^ b.toNat < 2 ^ 32 := Nat.xor_lt_two_pow hr (b.isLt.trans (by decide))
    have shift {x : Nat} : x < 2 ^ 32 → crcShift poly x < 2 ^ 32 := crcShift_lt hp
    exact ih (shift <| shift <| shift <| shift <| shift <| shift <| shift <| shift hb)

/-- The check code fits its four bytes. -/
theorem crc32c_lt {seed : Nat} (h : seed < 2 ^ 32) (bs : List Byte) : crc32c seed bs < 2 ^ 32 :=
  Nat.xor_lt_two_pow (crcRun_lt (by decide) h bs) (by decide)

theorem crcSeed_lt {session seq : Nat} (h : session < 4) (hq : seq < 2 ^ 32) : crcSeed session seq < 2 ^ 32 :=
  Nat.xor_lt_two_pow (Nat.xor_lt_two_pow (by decide) hq) (by omega)

/-! ### The fields of a packet -/

namespace Packet

variable (p : Packet)

theorem length_body : p.body.length = 24 + p.payload.length := by simp [body]; omega

theorem length_bytes : p.bytes.length = 28 + p.payload.length := by rw [bytes, List.length_append, length_body, length_beBytes]; omega

/-- The bytes before the check code are the packet's body. -/
theorem take_bytes : p.bytes.take (p.bytes.length - 4) = p.body := by
  rw [length_bytes, bytes, List.take_append_of_le_length (by rw [length_body]; omega), List.take_of_length_le (by rw [length_body]; omega)]

theorem beAt_tail (h : p.head.session < 4) (hq : p.head.seq < 2 ^ 32) :
    beAt p.bytes (p.bytes.length - 4) 4 = crc32c (crcSeed p.head.session p.head.seq) p.body := by
  rw [length_bytes, bytes, beAt_append_right _ _ (by rw [length_body]; omega), length_body,
    show 28 + p.payload.length - 4 - (24 + p.payload.length) = 0 by omega, ← List.append_nil (beBytes 4 _), beAt_front]
  exact Nat.mod_eq_of_lt (crc32c_lt (crcSeed_lt h hq) _)

/-- Each field stands at its place (R146). -/
theorem beAt_bytes :
    beAt p.bytes 0 2 = 0xD7A1 ∧ beAt p.bytes 2 1 = p.version % 256 ∧ beAt p.bytes 3 1 = (p.head.session * 64 + p.head.flags) % 256
      ∧ beAt p.bytes 4 4 = p.head.seq % 2 ^ 32 ∧ beAt p.bytes 8 1 = p.head.verb % 256
      ∧ beAt p.bytes 9 1 = (p.head.mood * 64 + p.head.base * 16 + p.rest9) % 256 ∧ beAt p.bytes 10 2 = p.payload.length % 65536
      ∧ beAt p.bytes 12 4 = p.addr % 2 ^ 32 ∧ beAt p.bytes 16 8 = p.due % 2 ^ 64 := by
  refine ⟨?_, ?_, ?_, ?_, ?_, ?_, ?_, ?_, ?_⟩ <;> simp only [bytes, body, List.append_assoc] <;> simp [beAt_skip, beAt_front]

theorem payload_bytes : (p.bytes.drop 24).take (p.bytes.length - 28) = p.payload := by
  rw [length_bytes, Nat.add_sub_cancel_left]
  simp only [bytes, body]
  rw [List.append_assoc, List.drop_left' (by simp), List.take_left]

/-- A packet whose fields fit theirs is read as it was sent. -/
theorem readPacket_bytes (hv : p.version < 256) (hs : p.head.session < 4) (hq : p.head.seq < 2 ^ 32) (hverb : p.head.verb < 256)
    (hm : p.head.mood < 4) (hb : p.head.base < 4) (hf : p.head.flags < 64) (h9 : p.rest9 < 16) (ha : p.addr < 2 ^ 32)
    (hd : p.due < 2 ^ 64) : readPacket p.bytes = p := by
  obtain ⟨-, e2, e3, e4, e8, e9, -, e12, e16⟩ := p.beAt_bytes
  have hsession : (p.head.session * 64 + p.head.flags) % 256 / 64 = p.head.session := by omega
  have hflags : (p.head.session * 64 + p.head.flags) % 256 % 64 = p.head.flags := by omega
  have hmood : (p.head.mood * 64 + p.head.base * 16 + p.rest9) % 256 / 64 = p.head.mood := by omega
  have hbase : (p.head.mood * 64 + p.head.base * 16 + p.rest9) % 256 / 16 % 4 = p.head.base := by omega
  have hrest : (p.head.mood * 64 + p.head.base * 16 + p.rest9) % 256 % 16 = p.rest9 := by omega
  rw [readPacket, e2, e3, e4, e8, e9, e12, e16, p.payload_bytes, hsession, hflags, hmood, hbase, hrest, Nat.mod_eq_of_lt hv,
    Nat.mod_eq_of_lt hq, Nat.mod_eq_of_lt hverb, Nat.mod_eq_of_lt ha, Nat.mod_eq_of_lt hd]

end Packet

/-- Settles O59: the fields are read as they were sent, so each check of R149 finds a value that passes. -/
theorem packetsRoundTrip : Obligations.PacketsRoundTrip := by
  intro p hversion hs hq hverb hm hb hf heven h9 hlen ha hd hdue haddr
  have hread := p.readPacket_bytes (by omega) hs hq hverb hm hb (by omega) (by omega) ha hd
  obtain ⟨hmagic, -, -, -, -, -, hlength, -⟩ := p.beAt_bytes
  have hl := p.length_bytes
  have hrest : ¬ (p.head.flags / 16 ≠ 0 ∨ p.head.flags % 2 ≠ 0 ∨ p.rest9 ≠ 0 ∨ (p.due ≠ 0 ∧ p.head.mood ≠ 2)
      ∨ (p.addr ≠ 0 ∧ p.head.verb ≠ Verb.GET ∧ p.head.verb ≠ Verb.SET)) := by
    rintro (h | h | h | ⟨h, h2⟩ | ⟨h, hget, hset⟩)
    · omega
    · omega
    · exact h h9
    · exact h2 (hdue h)
    · exact (haddr h).elim hget hset
  simp only [receive, hread, hmagic, hlength, p.take_bytes, p.beAt_tail hs hq]
  rw [if_neg (by omega), if_neg (by omega), if_neg (by omega), if_neg (by omega), if_neg hrest]

/-- Settles O57: the queue's front is what a step takes. -/
theorem stepTakesTheFrontCommand : Obligations.StepTakesTheFrontCommand :=
  ⟨fun c l s h => by rw [step, h], fun s h => by rw [step, h]⟩

end Sys2Proof.Machine
end

section
/-! SUPPORT. SETPOINT and RAMP (R166, R343): what their actions answer on the state that has taken the packet, and what is then pending on an ID. -/

namespace Sys2Proof.Machine

open Sys2Proof

/-! ### Lists by key in which entries are replaced -/

theorem assocGet_replace {β : Type} (l : List (Nat × β)) (a : Nat) (w : β) (b : Nat) :
    assocGet (assocInsert (assocErase l a) a w) b = if b = a then some w else assocGet l b := by
  split
  case isTrue h => rw [h, assocGet_insert_same _ _ _ (assocGet_erase_same l a)]
  case isFalse h => rw [assocGet_insert_other _ _ h, assocGet_erase_other _ h]

/-- Entries put into a list one after the other, each in place of what is listed under its key. -/
def assocStore {β : Type} (l es : List (Nat × β)) : List (Nat × β) := es.foldl (fun l p => assocInsert (assocErase l p.1) p.1 p.2) l

theorem assocGet_store_other {β : Type} {es : List (Nat × β)} {b : Nat} (h : ∀ p ∈ es, p.1 ≠ b) (l : List (Nat × β)) :
    assocGet (assocStore l es) b = assocGet l b := by
  induction es generalizing l with
  | nil => rfl
  | cons p es ih =>
    exact (ih (fun q hq => h q (List.mem_cons_of_mem _ hq)) _).trans
      ((assocGet_replace l p.1 p.2 b).trans (if_neg (h p List.mem_cons_self).symm))

/-- Where no key is stored twice each entry stored is found. -/
theorem assocGet_store_mem {β : Type} {es : List (Nat × β)} (hn : (es.map Prod.fst).Nodup) {p : Nat × β} (hp : p ∈ es) (l : List (Nat × β)) :
    assocGet (assocStore l es) p.1 = some p.2 := by
  induction es generalizing l with
  | nil => exact nomatch hp
  | cons q es ih =>
    obtain ⟨hq, hes⟩ := List.nodup_cons.mp hn
    rcases List.mem_cons.mp hp with rfl | hp
    · have hother : ∀ r ∈ es, r.1 ≠ p.1 := fun r hr e => hq (List.mem_map.mpr ⟨r, hr, e⟩)
      exact (assocGet_store_other hother _).trans ((assocGet_replace l p.1 p.2 p.1).trans (if_pos rfl))
    · exact ih hes hp _

/-! ### What the actions answer -/

/-- What a SETPOINT of entries puts into the next boundary. -/
def setpointRuns (l : List (BitVec 16 × Word)) : List (Nat × SetRun) := l.map fun e => (e.1.toNat, ⟨f32Rat e.2, f32Rat e.2, 0, false⟩)

theorem State.foldl_dueSet (s : State) (l : List (BitVec 16 × Word)) :
    l.foldl (fun t e => t.dueSet e.1.toNat ⟨f32Rat e.2, f32Rat e.2, 0, false⟩) s
      = { s with pol := { s.pol with setDue := assocStore s.pol.setDue (setpointRuns l) } } := by
  induction l generalizing s with
  | nil => rfl
  | cons e l ih => exact ih _

theorem actSetpoint_takes {s : State} {l : List (BitVec 16 × Word)} (h : ∀ e ∈ l, s.entryRefusal e = none) :
    actSetpoint l s
      = ⟨Status.OK, [], { s with pol := { s.pol with setDue := assocStore s.pol.setDue (setpointRuns l) } }, none, s.stage + 1⟩ := by
  unfold actSetpoint
  rw [List.findSome?_eq_none_iff.mpr h]
  simp only [State.foldl_dueSet]
  rfl

theorem actSetpoint_refused {s : State} {l : List (BitVec 16 × Word)} {x : Nat} (h : l.findSome? s.entryRefusal = some x) :
    actSetpoint l s = s.no x := by
  unfold actSetpoint
  rw [h]

section

variable {s : State} {x : BitVec 16} {w q : Word} (hx : s.setpointRefusal x.toNat w = none)
include hx

theorem actRamp_takes (hf : f32Finite q = true) (h0 : 0 < f32Rat q) (hm : ∀ m, maxRate x.toNat = some m → f32Rat q ≤ m) :
    actRamp x w q s = ⟨Status.OK, [], s.dueSet x.toNat ⟨0, f32Rat w, f32Rat q, true⟩, none, s.stage + 1⟩ := by
  have hrate : ¬ (!f32Finite q ∨ f32Rat q ≤ 0 ∨ (maxRate x.toNat).any (fun m => decide (m < f32Rat q))) := by
    rintro (h | h | h)
    · rw [hf] at h
      exact nomatch h
    · exact h0.not_ge h
    · obtain ⟨m, hmax, hlt⟩ := (Option.any_eq_true _ _).mp h
      exact (hm m hmax).not_gt (of_decide_eq_true hlt)
  unfold actRamp
  simp only [hx]
  rw [if_neg hrate]
  rfl

theorem actRamp_rate_refused (hq : f32Finite q = false ∨ f32Rat q ≤ 0 ∨ ∃ m, maxRate x.toNat = some m ∧ m < f32Rat q) :
    actRamp x w q s = s.no Status.VALUE_OUT_OF_RANGE := by
  have hrate : !f32Finite q ∨ f32Rat q ≤ 0 ∨ (maxRate x.toNat).any (fun m => decide (m < f32Rat q)) := by
    rcases hq with h | h | ⟨m, hmax, hlt⟩
    · exact Or.inl (by rw [h]; rfl)
    · exact Or.inr (Or.inl h)
    · exact Or.inr (Or.inr ((Option.any_eq_true _ _).mpr ⟨m, hmax, decide_eq_true hlt⟩))
  unfold actRamp
  simp only [hx]
  rw [if_pos hrate]

end

/-- VBUS_REF is refused outside 750 V to 1,500 V, and where it is not finite (R343). -/
theorem State.entryRefusal_vbus (s : State) {w : Word} (hw : f32Finite w = false ∨ f32Rat w < 750 ∨ 1500 < f32Rat w) :
    s.entryRefusal (1, w) = some Status.VALUE_OUT_OF_RANGE := by
  have hout : !f32Finite w ∨ f32Rat w < 750 ∨ 1500 < f32Rat w := by
    rcases hw with h | h
    · exact Or.inl (by rw [h]; rfl)
    · exact Or.inr h
  have hr : s.setpointRefusal 1 w = some Status.VALUE_OUT_OF_RANGE := by
    unfold State.setpointRefusal
    rw [show s.setpointRange 1 = some (750, 1500) from rfl]
    exact if_pos hout
  unfold State.entryRefusal
  rw [show ((1 : BitVec 16), w).1.toNat = 1 from rfl, hr]

/-- Settles O15, clause by clause: each is what its action answers on the state that has taken the packet. -/
theorem setpoints : Obligations.Setpoints := by
  refine ⟨?_, ?_, ?_, ?_, ?_⟩
  · intro s r l hr hl
    obtain ⟨t, ht, hc, hupd, hk⟩ := execVerb_pol (flags := 0) hr (by decide) false (.setpoint r l) (actSetpoint_takes hl)
    rw [State.stage_taken] at hc
    rw [State.taken_pol] at hupd
    have hdue : t.pol.setDue = assocStore s.pol.setDue (setpointRuns l) := by rw [hupd]
    refine ⟨t, ht, hc, ?_, fun hn e he => ?_, fun n hn => ?_, hk⟩
    · rw [hdue]
      exact hupd
    · have hkeys : ((setpointRuns l).map Prod.fst).Nodup := by
        have hids := hn.map (f := BitVec.toNat) fun x y h => BitVec.eq_of_toNat_eq h
        simpa [setpointRuns, Function.comp_def] using hids
      rw [hdue]
      exact assocGet_store_mem (p := (e.1.toNat, ⟨f32Rat e.2, f32Rat e.2, 0, false⟩)) hkeys (List.mem_map.mpr ⟨e, he, rfl⟩) _
    · rw [hdue]
      refine assocGet_store_other (fun p hp => ?_) _
      obtain ⟨e, he, rfl⟩ := List.mem_map.mp hp
      exact fun h => hn (List.mem_map.mpr ⟨e, he, h⟩)
  · intro s r l x hr hx
    exact execVerb_no hr (by decide) false _ (actSetpoint_refused hx)
  · intro s r x w q hr hx hf h0 hm
    obtain ⟨t, ht, hc, hupd, hk⟩ := execVerb_pol (flags := 0) hr (by decide) false (.ramp r x w q) (actRamp_takes hx hf h0 hm)
    rw [State.stage_taken] at hc
    rw [State.taken_pol] at hupd
    have hdue (n : Nat) : assocGet t.pol.setDue n = if n = x.toNat then some ⟨0, f32Rat w, f32Rat q, true⟩ else assocGet s.pol.setDue n := by
      rw [hupd]
      exact assocGet_replace _ _ _ _
    refine ⟨t, ht, hc, ?_, (hdue _).trans (if_pos rfl), fun n hn => (hdue n).trans (if_neg hn), hk⟩
    rw [hupd]
  · intro s r x w q hr hx hq
    exact execVerb_no hr (by decide) false _ (actRamp_rate_refused hx hq)
  · intro s r w hr hw
    exact execVerb_no hr (by decide) false _ (actSetpoint_refused (by rw [List.findSome?_cons, State.entryRefusal_vbus _ hw]))

end Sys2Proof.Machine
end

section
/-! SUPPORT. What keeps the command path's part of a state: the sessions, the module's rank and the stage, one lemma for each operation of a SET's
objects that acts at once, in the style of `State.Timed`. -/

namespace Sys2Proof.Machine

open Sys2Proof

/- These lemmas wait for those before them, and all at once they would ask for a thread each. -/
set_option Elab.async false

/-- The command path shows itself in no word of the stage counter. -/
theorem sessionFlds_stage : ∀ i : Fin 4, ∀ f ∈ sessionFlds i, f.addr ≠ 0x01001000 ∧ f.addr ≠ 0x01001004 := by decide

namespace EndsFrom

variable {s t u : State}

theorem refl (s : State) : EndsFrom s s := ⟨rfl, rfl, rfl⟩

theorem trans (h : EndsFrom s t) (h' : EndsFrom t u) : EndsFrom s u :=
  ⟨h'.ses.trans h.ses, h'.duo.trans h.duo, h'.stage.trans h.stage⟩

theorem of_timed (h : s.Timed u) (hs : u.ses = s.ses) (hd : u.duo = s.duo) : EndsFrom s u := by
  refine ⟨hs, hd, ?_⟩
  unfold State.stage
  rw [h.rd Reg.CLK_STAGE_COUNT_COUNT_HI (by decide), h.rd Reg.CLK_STAGE_COUNT_COUNT_LO (by decide)]

theorem of_keeps {fs : List Fld} (h : Keeps s u fs) (hf : ∀ f ∈ fs, f.addr ≠ 0x01001000 ∧ f.addr ≠ 0x01001004) (hs : u.ses = s.ses)
    (hd : u.duo = s.duo) : EndsFrom s u := ⟨hs, hd, h.stage hf⟩

/-- An update of other fields than `regs`, `ses` and `duo`. -/
theorem keep {power flash sto clk canRx canTx mon lastCommit turn seen seenOld flt mod drv meas therm isl net mem atB cells link loop pol out
    free pending} (h : EndsFrom s t) :
    EndsFrom s { regs := t.regs, mem := mem, power := power, flash := flash, sto := sto, clk := clk, ses := t.ses, canRx := canRx,
                 canTx := canTx, mon := mon, lastCommit := lastCommit, turn := turn, seen := seen, seenOld := seenOld, flt := flt, duo := t.duo,
                 mod := mod, drv := drv, meas := meas, therm := therm, isl := isl, net := net, atB := atB, cells := cells, link := link,
                 loop := loop, pol := pol, out := out, free := free, pending := pending } := ⟨h.ses, h.duo, h.stage⟩

section

variable {f : Fld} (h : EndsFrom s t) (ha : 0x02000000 ≤ f.addr := by (repeat refine Nat.le_add_right_of_le ?_); decide)
include h ha

theorem wr {v} : EndsFrom s (t.wr f v) := h.trans (of_timed (.wr (.refl t) ha) rfl rfl)
theorem wrB {b} : EndsFrom s (t.wrB f b) := wr h ha
theorem inc {n} : EndsFrom s (t.inc f n) := wr h ha

end

theorem ite {c : Prop} [Decidable c] {a b : State} (ha : EndsFrom s a) (hb : EndsFrom s b) : EndsFrom s (if c then a else b) := by
  split <;> assumption

/-- A conditional whose first branch goes on from the second. -/
theorem when {c : Prop} [Decidable c] {a b : State} (hb : EndsFrom s b) (ha : EndsFrom s b → EndsFrom s a) : EndsFrom s (if c then a else b) :=
  .ite (ha hb) hb

/-! ### What acts at once -/

theorem setRamp {g r} (h : EndsFrom s t) : EndsFrom s (t.setRamp g r) := by
  obtain ⟨l, e⟩ := t.setRamp_upd g r
  exact h.trans (of_timed (.setRamp (.refl t)) (by rw [e]) (by rw [e]))

theorem toSpare {c} (h : EndsFrom s t) : EndsFrom s (t.toSpare c) :=
  .when (.wr <| .wr <| .ite h <| .wr <| .wr h) fun h => .ite h <| .wr <| .wr <| .wr h

theorem setTx {c n x} (h : EndsFrom s t) : EndsFrom s (t.setTx c n x) := .wrB <| .keep h

theorem queueTx {c n data oneShot started} (h : EndsFrom s t) : EndsFrom s (t.queueTx c n data oneShot started) := by
  unfold State.queueTx
  dsimp only
  split
  · exact .setTx <| .keep h
  · exact .ite (.setTx <| .ite (.inc <| .keep h) <| .keep h) <| .setTx <| .inc <| .keep h

theorem hostTx {c n started} (h : EndsFrom s t) : EndsFrom s (t.hostTx c n started) := .ite (.when (.queueTx h) .wr) h

end EndsFrom

/-! ### The words of an object -/

/-- A word whose fields are all read-only stays as it is. -/
theorem writtenWord_readOnly {rows : List Row} (h : ∀ r ∈ rows, r.acc = .ro) (old new kept : Word) : writtenWord rows old new kept = old := by
  induction rows with
  | nil => rfl
  | cons r rows ih =>
    have hr : r.acc = .ro := h r List.mem_cons_self
    unfold writtenWord
    rw [List.foldl_cons, if_neg (by rw [hr]; decide), if_neg (by rw [hr]; decide)]
    exact ih fun q hq => h q (List.mem_cons_of_mem _ hq)

/-- A word that no write changes. -/
theorem word_setWords_fixed {g : Nat → Word → Word → Word} {a : Nat} (h : ∀ old kept, g a old kept = old) (l : List Nat) (s : State) :
    (setWords g l s).word a = s.word a := by
  induction l generalizing s with
  | nil => rfl
  | cons w l ih =>
    refine (ih (s.setWord w (g w (s.word w) (s.seenMask w)))).trans ?_
    by_cases e : a = w
    · rw [← e, h, State.word_setWord_same]
    · exact State.word_setWord_other _ _ e

/-- The stage counter is read-only (R98), so no write of an object's words moves it. -/
theorem State.stage_writeWords (s : State) (p : Nat × List Byte) : (s.writeWords p).stage = s.stage := by
  have hro : ∀ a ∈ [0x01001000, 0x01001004], ∀ r ∈ (rowsAt a).1, r.acc = .ro := by decide
  have hword (a : Nat) (ha : a ∈ [0x01001000, 0x01001004]) : (s.writeWords p).word a = s.word a :=
    word_setWords_fixed (g := spanWord p.1 p.2) (fun old kept => writtenWord_readOnly (hro a ha) _ _ _) _ _
  unfold State.stage State.rd
  rw [hword Reg.CLK_STAGE_COUNT_COUNT_HI.addr (by decide), hword Reg.CLK_STAGE_COUNT_COUNT_LO.addr (by decide)]

namespace EndsFrom

variable {s t u : State}

theorem writeWords (s : State) (p : Nat × List Byte) : EndsFrom s (s.writeWords p) := by
  obtain ⟨l, e⟩ := setWords_upd (spanWord p.1 p.2) (wordsOf p.1 p.2.length) s
  rw [← State.writeWords_eq] at e
  exact ⟨by rw [e], by rw [e], s.stage_writeWords p⟩

/-- An action that a write brings about. -/
theorem onWrite {asked : Bool} {act : Action} (h : EndsFrom s t) (ha : EndsFrom s (act t).st) (hu : onWrite asked act t = .ok u) :
    EndsFrom s u := by
  unfold Machine.onWrite at hu
  split at hu
  · dsimp only at hu
    split at hu
    · exact Except.ok.inj hu ▸ ha
    · exact nomatch hu
  · exact Except.ok.inj hu ▸ h

/-- An answer that is a refusal or done at once, on a state that has kept the command path's part. -/
theorem no_or {c : Prop} [Decidable c] {st : Nat} {v : VRes} (h : EndsFrom s t) (hv : EndsFrom s v.st) :
    EndsFrom s (if c then t.no st else v).st := by
  split
  · exact h
  · exact hv

theorem actRampStart {g} (h : EndsFrom s t) : EndsFrom s (actRampStart g t).st := by
  have hw : ∀ g : Fin 2, ∀ f ∈ [Reg.CLK_RAMP_STAT_CUR_SEG g], f.addr ≠ 0x01001000 ∧ f.addr ≠ 0x01001004 := by decide
  exact no_or h <| setRamp <| h.trans <|
    of_keeps ((Keeps.refl t _).wr 0 List.mem_cons_self (curSeg_within g).1) (hw g) rfl rfl

theorem actRampAbort {g} (h : EndsFrom s t) : EndsFrom s (actRampAbort g t).st := .ite (.setRamp h) h
theorem actTakeOut {c} (h : EndsFrom s t) : EndsFrom s (actTakeOut c t).st := no_or h <| .keep h

theorem actRelease {c} (h : EndsFrom s t) : EndsFrom s (actRelease c t).st := by
  unfold Machine.actRelease
  split
  · exact .toSpare h
  · exact h

theorem actLoopSlotModeWrite {n m v} (h : EndsFrom s t) : EndsFrom s (actLoopSlotModeWrite n m v t).st := no_or h <| .wr <| .wr h

theorem actMdioStart {p o x y d} (h : EndsFrom s t) : EndsFrom s (actMdioStart p o x y d t).st :=
  no_or h <| .wr <| .wr <| .wr <| .wr <| .wrB h

theorem actTxReq {c n b} (h : EndsFrom s t) : EndsFrom s (actTxReq c n b t).st := no_or h <| .hostTx h
theorem actAck {c n k} (h : EndsFrom s t) : EndsFrom s (actAck c n k t).st := no_or h <| no_or h <| by
  split
  · exact h
  · exact .wr <| .wr <| .wr h

theorem writeCan {c n w} (h : EndsFrom s t) (hu : t.writeCan c n w = .ok u) : EndsFrom s u := by
  unfold State.writeCan at hu
  dsimp only at hu
  split at hu
  · exact nomatch hu
  · next t' ht =>
    have h' : EndsFrom s (if (assocGet (t.canRun c).tx n).isSome then t.takeFree else (0, t)).2 := by
      split
      · exact .keep h
      · exact h
    have ht' := h'.onWrite (.actTxReq h') ht
    exact ht'.onWrite (.actAck ht') hu

theorem writeObject {p} (h : EndsFrom s t) (hu : t.writeObject p = .ok u) : EndsFrom s u := by
  have hw : EndsFrom s (t.writeWords p) := h.trans (writeWords t p)
  unfold State.writeObject at hu
  dsimp only at hu
  split at hu
  · exact nomatch hu
  · split at hu
    · split at hu
      · exact hw.onWrite (.actRampAbort hw) hu
      · exact hw.onWrite (.actRampStart hw) hu
    split at hu
    · split at hu
      · exact nomatch hu
      · next t' ht =>
        have ht' := hw.onWrite (.actTakeOut hw) ht
        exact ht'.onWrite (.actRelease ht') hu
    split at hu
    · exact hw.onWrite (.actLoopSlotModeWrite hw) hu
    split at hu
    · exact hw.onWrite (.actMdioStart hw) hu
    split at hu
    · exact hw.writeCan hu
    · exact Except.ok.inj hu ▸ hw

theorem writeObjects {l : List (Nat × List Byte)} (h : EndsFrom s t) (hu : State.writeObjects l t = .ok u) : EndsFrom s u := by
  induction l generalizing t with
  | nil => exact Except.ok.inj hu ▸ h
  | cons p l ih =>
    rw [State.writeObjects] at hu
    split at hu
    · exact nomatch hu
    · next t' ht => exact ih (h.writeObject ht) hu

end EndsFrom

end Sys2Proof.Machine
end

section
/-! SUPPORT. A SET's objects in the session's shadow set (R162): which entries the set holds after it, and the limits. -/

namespace Sys2Proof.Machine

open Sys2Proof

/-! ### The objects stored -/

/-- The objects of a span lie one behind the other. -/
theorem objectsIn_nodup {n a e : Nat} {l : List (Nat × Nat)} (h : objectsIn n a e = some l) : (l.map Prod.fst).Nodup := by
  induction l generalizing n a with
  | nil => exact List.nodup_nil
  | cons p l ih =>
    obtain ⟨hp, ho, m, hm⟩ := objectsIn_cons h
    refine List.nodup_cons.mpr ⟨fun hmem => ?_, ih hm⟩
    obtain ⟨q, hq, he⟩ := List.mem_map.mp hmem
    have hle := (objectsIn_mem hm q hq).2.1
    have hpos := (objectAt_size ho).1
    omega

/-- The bytes of a span's object are as long as it. -/
theorem length_objectBytes {n a : Nat} {d : List Byte} {l : List (Nat × Nat)} (h : objectsIn n a (a + d.length) = some l) {p : Nat × Nat}
    (hp : p ∈ l) : (slice d (p.1 - a) p.2).length = p.2 := by
  obtain ⟨-, hle, hend⟩ := objectsIn_mem h p hp
  exact length_slice (by omega)

/-- The objects with their bytes that a SET stores in the shadow set. -/
def storedObjects (a : Nat) (d : List Byte) (l : List (Nat × Nat)) : List (Nat × List Byte) :=
  (objectBytes a d l).filter fun p => objectShadowed p.1 p.2.length

theorem State.setAfter_eq (s : State) (i : Fin 4) (a : Nat) (d : List Byte) (l : List (Nat × Nat)) :
    s.setAfter i a d l = assocStore (s.sess i).shadow (storedObjects a d l) := rfl

section

variable {n a : Nat} {d : List Byte} {l : List (Nat × Nat)} (ho : objectsIn n a (a + d.length) = some l)
include ho

theorem storedObjects_nodup : ((storedObjects a d l).map Prod.fst).Nodup := by
  have hkeys : ((objectBytes a d l).map Prod.fst).Nodup := by
    unfold objectBytes
    rw [List.map_map]
    exact objectsIn_nodup ho
  exact hkeys.sublist (List.filter_sublist.map _)

theorem mem_storedObjects {q : Nat × List Byte} :
    q ∈ storedObjects a d l ↔ ∃ p ∈ l, objectShadowed p.1 p.2 = true ∧ q = (p.1, slice d (p.1 - a) p.2) := by
  unfold storedObjects objectBytes
  rw [List.mem_filter, List.mem_map]
  constructor
  · rintro ⟨⟨p, hp, rfl⟩, hs⟩
    exact ⟨p, hp, by rwa [length_objectBytes ho hp] at hs, rfl⟩
  · rintro ⟨p, hp, hs, rfl⟩
    exact ⟨⟨p, hp, rfl⟩, by rwa [length_objectBytes ho hp]⟩

/-- Each object with an SH field is in the set after the SET, with its bytes. -/
theorem State.setAfter_mem (s : State) (i : Fin 4) {p : Nat × Nat} (hp : p ∈ l) (hs : objectShadowed p.1 p.2 = true) :
    assocGet (s.setAfter i a d l) p.1 = some (slice d (p.1 - a) p.2) :=
  assocGet_store_mem (storedObjects_nodup ho) ((mem_storedObjects ho).mpr ⟨p, hp, hs, rfl⟩) _

/-- Every other shadow of the set stays. -/
theorem State.setAfter_other (s : State) (i : Fin 4) {x : Nat} (hx : ∀ p ∈ l, objectShadowed p.1 p.2 = true → p.1 ≠ x) :
    assocGet (s.setAfter i a d l) x = assocGet (s.sess i).shadow x := by
  refine assocGet_store_other (fun q hq => ?_) _
  obtain ⟨p, hp, hs, rfl⟩ := (mem_storedObjects ho).mp hq
  exact hx p hp hs

/-- The checks of the objects, each with its bytes of the span. -/
theorem State.findRefusal_none {s : State} (hx : ∀ p ∈ l, s.objectRefusal p.1 p.2 (slice d (p.1 - a) p.2) = none) :
    (objectBytes a d l).findSome? (fun p => s.objectRefusal p.1 p.2.length p.2) = none := by
  refine List.findSome?_eq_none_iff.mpr fun q hq => ?_
  obtain ⟨p, hp, rfl⟩ := List.mem_map.mp hq
  show s.objectRefusal p.1 (slice d (p.1 - a) p.2).length _ = none
  rw [length_objectBytes ho hp]
  exact hx p hp

end

/-! ### What the action answers -/

section

variable {s : State} {i : Fin 4} {a : Word} {d : List Byte} {l : List (Nat × Nat)} (h4 : 4 ≤ d.length) (h1400 : d.length ≤ 1400)
  (hn : d.length % 4 = 0) (ha : a.toNat < memBase) (ho : objectsIn 351 a.toNat (a.toNat + d.length) = some l)
  (hsafe : ∀ p ∈ l, inSafety p.1 = false) (hid : s.lc = 2 → ∀ p ∈ l, identityObject p.1 = false)
  (hx : ∀ p ∈ l, s.objectRefusal p.1 p.2 (slice d (p.1 - a.toNat) p.2) = none)
include h4 h1400 hn ha ho hsafe hid hx

/-- A SET of whole objects that no check refuses: where its shadow set has no room it is refused, else the objects are written. -/
theorem actSet_unrefused :
    actSet i a d s = if storedObjects a.toNat d l ≠ [] ∧ (1024 < (s.setAfter i a.toNat d l).length ∨ 65536 < shadowBytes (s.setAfter i a.toNat d l))
      then s.no Status.SHADOW_FULL
      else match State.writeObjects (objectBytes a.toNat d l) s with
        | .error st => s.no st
        | .ok t => (if storedObjects a.toNat d l = [] then t
            else t.setSess i { t.sess i with shadow := s.setAfter i a.toNat d l }).ok := by
  have hlen : ¬ (d.length < 4 ∨ 1400 < d.length ∨ d.length % 4 ≠ 0) := by omega
  have hany : ¬ l.any (fun p => inSafety p.1) = true := by
    rw [List.any_eq_false.mpr fun p hp => by rw [hsafe p hp]; exact Bool.false_ne_true]
    exact Bool.false_ne_true
  have hnone := State.findRefusal_none ho hx
  unfold objectBytes at hnone
  unfold actSet
  simp only [ho, hnone]
  rw [if_neg hlen, if_neg ha.not_ge, if_neg hany, if_neg (not_identity hid)]
  rfl

theorem actSet_full (hsh : ∃ p ∈ l, objectShadowed p.1 p.2 = true)
    (hfull : 1024 < (s.setAfter i a.toNat d l).length ∨ 65536 < shadowBytes (s.setAfter i a.toNat d l)) :
    actSet i a d s = s.no Status.SHADOW_FULL := by
  obtain ⟨p, hp, hps⟩ := hsh
  have hmem : (p.1, slice d (p.1 - a.toNat) p.2) ∈ storedObjects a.toNat d l := (mem_storedObjects ho).mpr ⟨p, hp, hps, rfl⟩
  rw [actSet_unrefused h4 h1400 hn ha ho hsafe hid hx, if_pos ⟨List.ne_nil_of_mem hmem, hfull⟩]

theorem actSet_takes {t : State} (hw : State.writeObjects (objectBytes a.toNat d l) s = .ok t) (hlen : (s.setAfter i a.toNat d l).length ≤ 1024)
    (hbytes : shadowBytes (s.setAfter i a.toNat d l) ≤ 65536) :
    ∃ u, actSet i a d s = u.ok ∧ StoredBy i t (s.setAfter i a.toNat d l) u := by
  refine ⟨_, ?_, StoredBy.of_store i ((EndsFrom.refl s).writeObjects hw).ses (storedObjects a.toNat d l)⟩
  rw [actSet_unrefused h4 h1400 hn ha ho hsafe hid hx, if_neg (fun h => by omega), hw]
  rfl

end

/-- A set stored on a state that has kept the command path's part of the taken state leaves a state in which the command ends as a command does. -/
theorem StoredBy.servesFrom {s t u : State} {r : Req} {verb : Nat} {set : List (Nat × List Byte)} (h : StoredBy r.session t set u)
    (ht : EndsFrom (s.taken r) t) (hr : Ready s r verb) : Serves s r.session u := by
  have hself : u.sess r.session = { (s.taken r).sess r.session with shadow := set } := by rw [h.same, State.sess_congr ht.ses]
  rw [State.sess_taken_same] at hself
  refine ⟨?_, by rw [hself]; exact hr.idle, by rw [hself], fun j hj => ?_⟩
  · have hk := hr.keeper
    unfold State.isKeeper at hk ⊢
    rw [h.upd]
    rw [show t.duo = s.duo from ht.duo.trans (State.taken_duo s r)]
    exact hk
  · rw [h.others j hj, State.sess_congr ht.ses, State.sess_taken_other s hj]

/-- Settles O55: the set after a SET is that of the session with the span's objects stored in it; a SET that finds no room has no effect. -/
theorem shadowSets : Obligations.ShadowSets := by
  refine ⟨?_, ?_⟩
  · intro s r a d l hr h4 h1400 hn ha ho hsafe hid hx hw hlen hbytes
    obtain ⟨t, hw⟩ := hw
    rw [← State.setAfter_taken] at hlen hbytes
    have ht : EndsFrom (s.taken r) t := (EndsFrom.refl _).writeObjects hw
    obtain ⟨u, hact, hu⟩ := actSet_takes h4 h1400 hn ha ho hsafe (by rw [State.lc_taken]; exact hid) hx hw hlen hbytes
    rw [State.setAfter_taken] at hu
    have hstage : u.stage = s.stage := (hu.keeps.stage (sessionFlds_stage _)).trans (ht.stage.trans (State.stage_taken s r))
    obtain ⟨v, hv, hc, hr'⟩ := execVerb_done (flags := 0) hr (by decide) false (.set r a d) (hact.trans (by rw [State.ok, hstage]))
      (hu.servesFrom ht hr)
    have hset : (v.sess r.session).shadow = s.setAfter r.session a.toNat d l := hr'.shadow.trans (by rw [hu.same])
    refine ⟨v, hv, hc, fun p hp hs => ?_, fun x hx => ?_, fun j hj => ?_⟩
    · rw [hset, s.setAfter_mem ho _ hp hs]
    · rw [hset, s.setAfter_other ho _ hx]
    · obtain ⟨-, hothers, -⟩ := hc
      rw [hothers j hj]
  · intro s r a d l hr h4 h1400 hn ha ho hsafe hid hx hsh hfull
    rw [← State.setAfter_taken] at hfull
    have hact := actSet_full h4 h1400 hn ha ho hsafe (by rw [State.lc_taken]; exact hid) hx hsh hfull
    obtain ⟨u, hu, hc, hr'⟩ := execVerb_done (flags := 0) hr (by decide) false (.set r a d)
      (hact.trans (by rw [State.no, State.stage_taken])) (hr.serves rfl rfl)
    obtain ⟨hupd, hk⟩ := hr'.of_taken
    refine ⟨u, hu, hc, hupd, fun j => ?_, hk⟩
    by_cases hj : j = r.session
    · rw [hj, hr'.shadow, State.sess_taken_same]
    · obtain ⟨-, hothers, -⟩ := hc
      rw [hothers j hj]

end Sys2Proof.Machine
end

section
/-! SUPPORT. A ready verb that is done at once, or begins to wait, and leaves any part of the state beside the command path's. -/

namespace Sys2Proof.Machine

open Sys2Proof

section

variable {s u : State} {r : Req} {verb flags : Nat} {fs : List Fld}

/-- What the taken state has kept of the state before, and what is kept of it. -/
theorem Keeps.from_taken (hk : Keeps (s.taken r) u fs) : Keeps s u (fs ++ sessionFlds r.session) :=
  ((Keeps.taken s r).mono fun _ => List.mem_append_right _).trans (hk.mono fun _ => List.mem_append_left _)

/-- A ready verb that is done at once, its action leaving the sessions and the module's rank. -/
theorem execVerb_leaves (h : Ready s r verb) (hm : moodAllowed verb 1 = true) (read : Bool) (cmd : Instr) {act : Action} {st : Nat}
    {p : List Byte} {k : Nat} (ha : act (s.taken r) = ⟨st, p, u, none, k⟩) (hses : u.ses = (s.taken r).ses) (hrole : u.duo.role = s.duo.role)
    (hk : Keeps (s.taken r) u fs) :
    ∃ t, execVerb s r verb flags read cmd act = .next t ∧ Completed s t r verb flags st p k
      ∧ t = { u with regs := t.regs, ses := t.ses, canTx := t.canTx, out := t.out } ∧ Keeps u t (sessionFlds r.session)
      ∧ Keeps s t (fs ++ sessionFlds r.session) := by
  have hserves : Serves s r.session u := by
    obtain ⟨-, hw, hsrc, ho⟩ := h.serves (u := { u with duo := (s.taken r).duo }) hses rfl
    refine ⟨?_, hw, hsrc, ho⟩
    have hkeeper := h.keeper
    unfold State.isKeeper at hkeeper ⊢
    rw [hrole]
    exact hkeeper
  obtain ⟨t, ht, hc, hr⟩ := execVerb_done (flags := flags) h hm read cmd ha hserves
  exact ⟨t, ht, hc, hr.upd, hr.keeps, hk.from_taken.trans (hr.keeps.mono fun _ => List.mem_append_right _)⟩

/-- The base sequences stand in block 3. -/
theorem baseSeq_block : ∀ i : Fin 4, (Reg.CMD_SESSION_BASE_SEQ i).within ∧ (Reg.CMD_SESSION_BASE_SEQ i).addr / 0x1000000 = 3 := by decide

/-- A ready verb that begins to wait for an operation, its action leaving the sessions and block 3. -/
theorem execVerb_begins (h : Ready s r verb) (hm : moodAllowed verb 1 = true) (read : Bool) (cmd : Instr) {act : Action} {op : LongOp} {k : Nat}
    (ha : act (s.taken r) = ⟨Status.OK, [], u, some op, k⟩) (hses : u.ses = (s.taken r).ses) (hk : Keeps (s.taken r) u fs)
    (hf : ∀ f ∈ fs, f.addr / 0x1000000 ≠ 3) :
    ∃ t, execVerb s r verb 0 read cmd act = .next t ∧ Started s t r verb op k ∧ t = { u with regs := t.regs, ses := t.ses }
      ∧ Keeps u t (sessionFlds r.session) ∧ Keeps s t (fs ++ sessionFlds r.session) := by
  obtain ⟨hbw, hb3⟩ := baseSeq_block r.session
  have hb : u.baseSeq r.session = s.baseSeq r.session :=
    (hk _ hbw fun f hm => Or.inl fun e => hf f hm (e ▸ hb3)).trans (State.baseSeq_taken s r r.session)
  have ho : ∀ j : Fin 4, j ≠ r.session → u.sess j = s.sess j :=
    fun j hj => (State.sess_congr hses j).trans (State.sess_taken_other s hj)
  obtain ⟨t, ht, hst⟩ := execVerb_starts (act := act) (op := op) h hm read cmd (by rw [ha]) (by rw [ha])
    (by rw [ha]; exact hb) (by rw [ha]; exact ho)
  have ht' := ht
  rw [execVerb_ready h hm read cmd act, ha] at ht'
  rw [ha] at hst
  injection ht' with ht'
  obtain ⟨l, e⟩ := State.mirrorCmd_upd (State.settle r.session (headAt s r verb 0) false ⟨Status.OK, [], u, some op, k⟩)
    r.session (headAt s r verb 0) r.mood cmd
  rw [e] at ht'
  have hkt : Keeps u t (sessionFlds r.session) := by
    rw [← ht']
    exact ((Keeps.refl u _).setSess _ fun _ h => h).congr rfl
  refine ⟨t, ht, hst, ?_, hkt, hk.from_taken.trans (hkt.mono fun _ => List.mem_append_right _)⟩
  rw [← ht']
  rfl

/-- The same where the action leaves every word. -/
theorem execVerb_leaves_words (h : Ready s r verb) (hm : moodAllowed verb 1 = true) (read : Bool) (cmd : Instr) {act : Action} {st : Nat}
    {p : List Byte} {k : Nat} (ha : act (s.taken r) = ⟨st, p, u, none, k⟩) (hregs : u.regs = (s.taken r).regs)
    (hses : u.ses = (s.taken r).ses) (hrole : u.duo.role = s.duo.role) :
    ∃ t, execVerb s r verb flags read cmd act = .next t ∧ Completed s t r verb flags st p k
      ∧ t = { u with regs := t.regs, ses := t.ses, canTx := t.canTx, out := t.out } ∧ Keeps s t (sessionFlds r.session) := by
  obtain ⟨t, ht, hc, hupd, -, hk⟩ := execVerb_leaves (flags := flags) h hm read cmd ha hses hrole (Keeps.of_regs hregs [])
  exact ⟨t, ht, hc, hupd, hk⟩

theorem execVerb_begins_words (h : Ready s r verb) (hm : moodAllowed verb 1 = true) (read : Bool) (cmd : Instr) {act : Action} {op : LongOp}
    {k : Nat} (ha : act (s.taken r) = ⟨Status.OK, [], u, some op, k⟩) (hregs : u.regs = (s.taken r).regs) (hses : u.ses = (s.taken r).ses) :
    ∃ t, execVerb s r verb 0 read cmd act = .next t ∧ Started s t r verb op k ∧ t = { u with regs := t.regs, ses := t.ses }
      ∧ Keeps s t (sessionFlds r.session) := by
  obtain ⟨t, ht, hst, hupd, -, hk⟩ := execVerb_begins h hm read cmd ha hses (Keeps.of_regs hregs []) (fun _ hf => nomatch hf)
  exact ⟨t, ht, hst, hupd, hk⟩

end

end Sys2Proof.Machine
end

section
/-! SUPPORT. ROLE, JOURNAL and the logbook's commands (R167, R455, R457, R474): what their actions answer on the state that has taken the packet. -/

namespace Sys2Proof.Machine

open Sys2Proof

/-! ### What taking a packet leaves of the pair and of the journal -/

section

variable (s : State) (r : Req)

theorem State.flag_taken {f : Fld} (hf : f.addr / 0x1000000 ≠ 3) : (s.taken r).flag f = s.flag f := by
  unfold State.flag
  rw [State.rd_taken_outside s r hf]

theorem State.taken_flt : (s.taken r).flt = s.flt := by obtain ⟨l, x, e⟩ := State.taken_upd s r; rw [e]
theorem State.taken_free : (s.taken r).free = s.free := by obtain ⟨l, x, e⟩ := State.taken_upd s r; rw [e]

theorem State.roleReply_taken : (s.taken r).roleReply = s.roleReply := by
  have hpaired : (s.taken r).paired = s.paired := State.flag_taken s r (by decide)
  have hsilent : (s.taken r).pairSilent = s.pairSilent := by
    unfold State.pairSilent
    rw [State.taken_duo, State.stage_taken]
  unfold State.roleReply
  rw [hpaired, hsilent, State.flag_taken s r (by decide), State.flag_taken s r (by decide), State.taken_duo, State.taken_free]

theorem State.journalSpan_taken (a n : Nat) : (s.taken r).journalSpan a n = s.journalSpan a n := by
  unfold State.journalSpan
  rw [State.rd_taken_outside s r (by decide), State.rd_taken_outside s r (by decide), State.taken_flt]

end

/-! ### An event in the journal's queue -/

/-- The fields that a journal entry shows (R454), and RECOVERY, under which there is none. -/
def entryFlds : List Fld :=
  [Reg.CMD_MON_STAT_RECOVERY, Reg.ID_BOOT_COUNT_COUNT, Reg.CLK_STAGE_COUNT_COUNT_HI, Reg.CLK_STAGE_COUNT_COUNT_LO,
   Reg.TIME_STAMP_BASE_SECONDS_LO 0, Reg.TIME_STAMP_BASE_SYNCED 0, Reg.TIME_STAMP_BASE_NANOSECONDS 0]

theorem State.queueEvent_of_keeps {s t : State} {fs : List Fld} (hk : Keeps s t fs) (hf : ∀ f ∈ fs, ∀ g ∈ entryFlds, f.apart g)
    (hq : t.flt.queue = s.flt.queue) (c : Nat) : t.queueEvent c = s.queueEvent c := by
  have hw : ∀ g ∈ entryFlds, g.within := by decide
  have hr : ∀ g ∈ entryFlds, t.rd g = s.rd g := fun g hg => hk g (hw g hg) fun f hm => hf f hm g hg
  unfold State.queueEvent State.queueWith State.jentry State.recovery State.boot16 State.stage State.flag
  rw [hq, hr Reg.CMD_MON_STAT_RECOVERY (by decide), hr Reg.ID_BOOT_COUNT_COUNT (by decide), hr Reg.CLK_STAGE_COUNT_COUNT_HI (by decide),
    hr Reg.CLK_STAGE_COUNT_COUNT_LO (by decide), hr (Reg.TIME_STAMP_BASE_SECONDS_LO 0) (by decide),
    hr (Reg.TIME_STAMP_BASE_SYNCED 0) (by decide), hr (Reg.TIME_STAMP_BASE_NANOSECONDS 0) (by decide)]

theorem State.event_flt (s : State) (c : Nat) : (s.event c).flt = { s.flt with queue := s.queueEvent c } := rfl

/-! ### What the actions answer -/

section

variable (s : State)

theorem actRoleYield_orders (hrole : s.duo.role = Role.KEEPER) (hstep : s.duo.inStep = true) (hcheck : s.duo.check = false) :
    actRoleYield s = ⟨Status.OK, s.roleReply,
      { s with free := s.free + 1, duo := { s.duo with yieldAt := some ((s.stage + 5) % 2 ^ 32) } }, none, s.stage⟩ := by
  have hc : ¬ (s.duo.role ≠ Role.KEEPER ∨ !s.duo.inStep ∨ s.duo.check) := by simp [hrole, hstep, hcheck]
  unfold actRoleYield
  rw [if_neg hc]
  rfl

theorem actRoleYield_refused (h : s.duo.role ≠ Role.KEEPER ∨ s.duo.inStep = false ∨ s.duo.check = true) :
    actRoleYield s = s.no Status.STATE_REFUSED := by
  have hc : s.duo.role ≠ Role.KEEPER ∨ !s.duo.inStep ∨ s.duo.check := by
    rcases h with h | h | h
    · exact Or.inl h
    · exact Or.inr (Or.inl (by rw [h]; rfl))
    · exact Or.inr (Or.inr h)
  unfold actRoleYield
  rw [if_pos hc]

theorem State.okRead_nil (p : List Byte) : s.okRead [] p = s.ok p := rfl

theorem hitsIn_nil (a n : Nat) : hitsIn [] a n = [] := rfl

theorem actJournal_answers (a : Word) {n : Byte} (h1 : 1 ≤ n.toNat) (h21 : n.toNat ≤ 21) :
    actJournal a ⟨n, []⟩ s = s.ok (beBytes 4 (s.rd Reg.JRNL_STAT_OLDEST) ++ beBytes 4 (s.rd Reg.JRNL_STAT_NEWEST)
      ++ beBytes 4 (s.rd Reg.JRNL_STAT_OVERFLOW)
      ++ ((List.range (s.journalSpan a.toNat n.toNat).2).map
            (fun k => s.load (journalAddr (((s.journalSpan a.toNat n.toNat).1 + k) % 2 ^ 32)) 64)).flatten) := by
  have hn : ¬ (n = 0 ∨ 21 < n.toNat) := by
    rintro (rfl | h)
    · exact absurd h1 (by decide)
    · omega
  unfold actJournal
  rw [if_neg hn]
  simp only [List.filter_nil, State.okRead_nil, List.map_map]
  rfl

theorem actLogbookTrigger_asks (hf : s.rd Reg.MEM_LOGBOOK_STAT_FROZEN = 0) (hp : s.rd Reg.MEM_LOGBOOK_STAT_POST_RUNNING = 0) :
    actLogbookTrigger s = ⟨Status.OK, beBytes 6 (s.stage + 1), { s with flt := { s.flt with trigger := true } }, none, s.stage + 1⟩ := by
  unfold actLogbookTrigger State.flag
  rw [hf, hp]
  rfl

theorem actLogbookTrigger_frozen (hf : s.rd Reg.MEM_LOGBOOK_STAT_FROZEN = 1) : actLogbookTrigger s = s.ok (beBytes 6 s.flt.trigStage) := by
  unfold actLogbookTrigger State.flag
  rw [hf]
  rfl

/-- The logbook released: recording resumes with the next stage, and the journal notes it. -/
def State.logbookReleased (s : State) : State :=
  let t := (s.wr Reg.MEM_LOGBOOK_STAT_FROZEN 0).event Ev.LOGBOOK_RELEASED
  { t with flt := { t.flt with lbFrom := t.stage + 1 } }

theorem Keeps.logbookReleased : Keeps s s.logbookReleased ([Reg.MEM_LOGBOOK_STAT_FROZEN] ++ journalFlds) :=
  ((((Keeps.refl s _).wr 0 List.mem_cons_self (by decide)).event Ev.LOGBOOK_RELEASED 0 [] (by decide) (by decide))).congr rfl

theorem State.rd_logbookReleased : s.logbookReleased.rd Reg.MEM_LOGBOOK_STAT_FROZEN = 0 := by
  have hj : Keeps (s.wr Reg.MEM_LOGBOOK_STAT_FROZEN 0) s.logbookReleased journalFlds :=
    ((Keeps.refl _ _).event Ev.LOGBOOK_RELEASED 0 [] (by decide) (by decide)).congr rfl
  exact (hj _ (by decide) (by decide)).trans (State.rd_wr_same s 0 (by decide))

theorem State.logbookReleased_stage : s.logbookReleased.stage = s.stage := (Keeps.logbookReleased s).stage (by decide)

theorem State.logbookReleased_upd : s.logbookReleased
    = { s with regs := s.logbookReleased.regs, flt := { s.flt with queue := s.queueEvent Ev.LOGBOOK_RELEASED, lbFrom := s.stage + 1 } } := by
  have hq : (s.wr Reg.MEM_LOGBOOK_STAT_FROZEN 0).queueEvent Ev.LOGBOOK_RELEASED = s.queueEvent Ev.LOGBOOK_RELEASED :=
    State.queueEvent_of_keeps ((Keeps.refl s [Reg.MEM_LOGBOOK_STAT_FROZEN]).wr 0 List.mem_cons_self (by decide)) (by decide) rfl _
  have hupd : s.logbookReleased = { s with regs := s.logbookReleased.regs, flt := { s.flt with
      queue := (s.wr Reg.MEM_LOGBOOK_STAT_FROZEN 0).queueEvent Ev.LOGBOOK_RELEASED, lbFrom := s.logbookReleased.stage + 1 } } := rfl
  rw [hq, State.logbookReleased_stage] at hupd
  exact hupd

theorem actLogbookRelease_frozen (hf : s.rd Reg.MEM_LOGBOOK_STAT_FROZEN = 1) (hp : s.rd Reg.MEM_LOGBOOK_STAT_POST_RUNNING = 0) :
    actLogbookRelease s = ⟨Status.OK, beBytes 6 0, s.logbookReleased, none, s.stage⟩ := by
  have hstage := State.logbookReleased_stage s
  unfold actLogbookRelease State.flag
  rw [hf, hp, ← hstage]
  rfl

theorem actLogbookRead_reads {x f n : BitVec 16} (hx : x.toNat ≤ 8191) (hf : f.toNat ≤ 511) (h1 : 1 ≤ n.toNat) (h57 : n.toNat ≤ 57)
    (hfn : f.toNat + n.toNat ≤ 512) :
    actLogbookRead x f n [] s = s.ok (s.load (0x16000000 + x.toNat * 16) 16
      ++ s.load (0x10000000 + x.toNat * 0x3000 + 24 * f.toNat) (24 * n.toNat)) := by
  have hc : ¬ (8191 < x.toNat ∨ 511 < f.toNat ∨ n = 0 ∨ 57 < n.toNat ∨ 512 < f.toNat + n.toNat) := by
    rintro (h | h | rfl | h | h)
    · omega
    · omega
    · exact absurd h1 (by decide)
    · omega
    · omega
  unfold actLogbookRead
  simp only
  rw [if_neg hc]
  rfl

end

/-- Settles O41, clause by clause: each is what its action answers on the state that has taken the packet. -/
theorem rolesAndRecords : Obligations.RolesAndRecords := by
  refine ⟨?_, ?_, ?_, ?_, ?_, ?_, ?_, ?_⟩
  · intro s r hr
    have hact : actRoleReport (s.taken r) = ⟨Status.OK, s.roleReply, { s.taken r with free := s.free + 1 }, none, s.stage⟩ := by
      rw [← State.roleReply_taken s r, ← State.stage_taken s r, ← State.taken_free s r]
      rfl
    obtain ⟨t, ht, hc, hupd, hk⟩ := execVerb_leaves_words (flags := 0) hr (by decide) true (.roleReport r) hact rfl rfl
      (congrArg Duo.role (State.taken_duo s r))
    obtain ⟨l, x, e⟩ := State.taken_upd s r
    rw [e] at hupd
    exact ⟨t, ht, hc, hupd, hk⟩
  · intro s r hr hrole hstep hcheck
    have hact := actRoleYield_orders (s.taken r) (by rw [State.taken_duo]; exact hrole) (by rw [State.taken_duo]; exact hstep)
      (by rw [State.taken_duo]; exact hcheck)
    rw [State.roleReply_taken, State.stage_taken, State.taken_free, State.taken_duo] at hact
    obtain ⟨t, ht, hc, hupd, hk⟩ := execVerb_leaves_words (flags := 0) hr (by decide) false (.roleYield r) hact rfl rfl rfl
    obtain ⟨l, x, e⟩ := State.taken_upd s r
    rw [e] at hupd
    exact ⟨t, ht, hc, hupd, hk⟩
  · intro s r hr h
    exact execVerb_no hr (by decide) false _ (actRoleYield_refused _ (by rw [State.taken_duo]; exact h))
  · intro s r a n hr h1 h21
    refine execVerb_ok hr (by decide) true _ ((actJournal_answers _ a h1 h21).trans ?_)
    simp only [State.journalSpan_taken, State.load_taken]
    rw [State.rd_taken_outside s r (by decide), State.rd_taken_outside s r (by decide), State.rd_taken_outside s r (by decide)]
  · intro s r hr hf hp
    rw [← State.rd_taken_outside s r (by decide)] at hf hp
    have hact := actLogbookTrigger_asks _ hf hp
    rw [State.stage_taken] at hact
    obtain ⟨t, ht, hc, hupd, hk⟩ := execVerb_leaves_words (flags := 0) hr (by decide) false (.logbookTrigger r) hact rfl rfl
      (congrArg Duo.role (State.taken_duo s r))
    obtain ⟨l, x, e⟩ := State.taken_upd s r
    rw [e] at hupd
    exact ⟨t, ht, hc, hupd, hk⟩
  · intro s r hr hf
    rw [← State.rd_taken_outside s r (by decide)] at hf
    exact execVerb_ok hr (by decide) false _ ((actLogbookTrigger_frozen _ hf).trans (by rw [State.taken_flt]))
  · intro s r hr hf hp
    rw [← State.rd_taken_outside s r (by decide)] at hf hp
    have hact := actLogbookRelease_frozen _ hf hp
    rw [State.stage_taken] at hact
    have hrel := State.logbookReleased_upd (s.taken r)
    have hq : (s.taken r).queueEvent Ev.LOGBOOK_RELEASED = s.queueEvent Ev.LOGBOOK_RELEASED :=
      State.queueEvent_of_keeps (Keeps.taken s r)
        ((by decide : ∀ i : Fin 4, ∀ f ∈ sessionFlds i, ∀ g ∈ entryFlds, f.apart g) r.session) (by rw [State.taken_flt]) _
    rw [hq, State.taken_flt, State.stage_taken] at hrel
    obtain ⟨t, ht, hc, hupd, hut, hk⟩ := execVerb_leaves (flags := 0) hr (by decide) false (.logbookRelease r) hact
      (by rw [hrel]) (by rw [hrel]; exact congrArg Duo.role (State.taken_duo s r)) (Keeps.logbookReleased _)
    refine ⟨t, ht, hc, ?_, (hut.quiet (by decide) (Fld.quiet_low (by decide))).trans (State.rd_logbookReleased _), hk⟩
    obtain ⟨l, x, e⟩ := State.taken_upd s r
    rw [hrel, e] at hupd
    exact hupd
  · intro s r x f n hr hx hf h1 h57 hfn
    refine execVerb_ok hr (by decide) true _ ((actLogbookRead_reads _ hx hf h1 h57 hfn).trans ?_)
    rw [State.load_taken, State.load_taken]

end Sys2Proof.Machine
end

section
/-! SUPPORT. Parcels (R168, R235 to R239): a transfer's start, its repeated chunks and its end at the timeout. -/

namespace Sys2Proof.Machine

open Sys2Proof

/-! ### What taking a packet leaves of the links -/

theorem State.taken_link (s : State) (r : Req) : (s.taken r).link = s.link := by obtain ⟨l, x, e⟩ := State.taken_upd s r; rw [e]
theorem State.taken_cells (s : State) (r : Req) : (s.taken r).cells = s.cells := by obtain ⟨l, x, e⟩ := State.taken_upd s r; rw [e]

theorem State.timeOf_taken (s : State) (r : Req) : (s.taken r).timeOf 1 = s.timeOf 1 := by
  unfold State.timeOf
  rw [State.rd_taken_outside s r (by decide), State.rd_taken_outside s r (by decide), State.rd_taken_outside s r (by decide),
    State.rd_taken_outside s r (by decide)]

theorem Fld.quiet_between {f : Fld} (h4 : 0x04000000 ≤ f.addr) (hd : f.addr < 0x0D000000) : f.quiet :=
  ⟨fun c => absurd c.1 (by omega), fun c => absurd c.2 (by omega)⟩

theorem State.answering_taken (s : State) (r : Req) {c : Nat} (hc : c < 65536) : (s.taken r).answering c = s.answering c :=
  State.flag_congr (State.rd_taken_quiet s r Fld.within_mk (Fld.quiet_between (by show _ ≤ 0x05000010 + 0x100 * c; omega) (by show 0x05000010 + 0x100 * c < _; omega)))

/-! ### A transfer begins -/

/-- The fields of CELL_PARCEL that a transfer's start writes (R239). -/
def parcelFlds (c : Nat) : List Fld :=
  [Reg.CELL_PARCEL_STATE c, Reg.CELL_PARCEL_TAG c, Reg.CELL_PARCEL_DN_DONE c, Reg.CELL_PARCEL_UP_DONE c]

theorem parcelFlds_within (c : Nat) : ∀ f ∈ parcelFlds c, f.within ∧ 0x05000000 ≤ f.addr ∧ f.addr < 0x05000100 + 0x100 * c := by
  simp only [parcelFlds, List.forall_mem_cons, Fld.within, Reg.CELL_PARCEL_STATE, Reg.CELL_PARCEL_TAG, Reg.CELL_PARCEL_DN_DONE,
    Reg.CELL_PARCEL_UP_DONE, List.not_mem_nil, false_implies, implies_true, and_true]
  omega

/-- CELL_PARCEL shows a transfer that has begun. -/
def State.parcelShown (s : State) (c st tag : Nat) : State :=
  (((s.wr (Reg.CELL_PARCEL_STATE c) st).wr (Reg.CELL_PARCEL_TAG c) tag).wr (Reg.CELL_PARCEL_DN_DONE c) 0).wr (Reg.CELL_PARCEL_UP_DONE c) 0

/-- A transfer to or from a cell has begun. -/
def State.parcelBegun (s : State) (c : Nat) (p : Parcel) : State :=
  let t := { s with link := { s.link with parcels := assocInsert s.link.parcels c p, nextTag := (p.tag + 1) % 65536 } }
  (t.parcelShown c (if p.body = [] then 2 else 1) p.tag).setCell c { s.cell c with away := 0, ackLeft := 0, wb := { (s.cell c).wb with ack := 0 } }

section

variable (s : State) (c : Nat)

theorem Keeps.parcelShown (st tag : Nat) : Keeps s (s.parcelShown c st tag) (parcelFlds c) := by
  have hw (f : Fld) (hf : f ∈ parcelFlds c) : f.within := (parcelFlds_within c f hf).1
  have hmem : Reg.CELL_PARCEL_STATE c ∈ parcelFlds c ∧ Reg.CELL_PARCEL_TAG c ∈ parcelFlds c ∧ Reg.CELL_PARCEL_DN_DONE c ∈ parcelFlds c
      ∧ Reg.CELL_PARCEL_UP_DONE c ∈ parcelFlds c := by simp [parcelFlds]
  obtain ⟨hs, ht, hd, hu⟩ := hmem
  exact ((((Keeps.refl s _).wr _ hs (hw _ hs)).wr _ ht (hw _ ht)).wr _ hd (hw _ hd)).wr _ hu (hw _ hu)

theorem State.parcelShown_shows (st tag : Nat) :
    (s.parcelShown c st tag).rd (Reg.CELL_PARCEL_STATE c) = st % 8 ∧ (s.parcelShown c st tag).rd (Reg.CELL_PARCEL_TAG c) = tag % 65536
      ∧ (s.parcelShown c st tag).rd (Reg.CELL_PARCEL_DN_DONE c) = 0 ∧ (s.parcelShown c st tag).rd (Reg.CELL_PARCEL_UP_DONE c) = 0 := by
  have hdn {m l m' l' : Nat} : (⟨0x050000A0 + 0x100 * c, m, l⟩ : Fld).addr ≠ (⟨0x050000A4 + 0x100 * c, m', l'⟩ : Fld).addr := by
    simp only
    omega
  unfold State.parcelShown Reg.CELL_PARCEL_STATE Reg.CELL_PARCEL_TAG Reg.CELL_PARCEL_DN_DONE Reg.CELL_PARCEL_UP_DONE
  refine ⟨?_, ?_, ?_, State.rd_wr_same _ _ Fld.within_mk⟩
  · rw [State.rd_wr_elsewhere _ _ hdn, State.rd_wr_elsewhere _ _ hdn, State.rd_wr_bits]
    exact State.rd_wr_same _ _ Fld.within_mk
  · rw [State.rd_wr_elsewhere _ _ hdn, State.rd_wr_elsewhere _ _ hdn]
    exact State.rd_wr_same _ _ Fld.within_mk
  · rw [State.rd_wr_bits]
    exact State.rd_wr_same _ _ Fld.within_mk

end

theorem State.parcelBegun_upd (s : State) (c : Nat) (p : Parcel) : ∃ l x, s.parcelBegun c p = { s with
    regs := l, cells := x, link := { s.link with parcels := assocInsert s.link.parcels c p, nextTag := (p.tag + 1) % 65536 } } := ⟨_, _, rfl⟩

/-- What PARCEL answers for an answering cell that has no transfer. -/
theorem actParcel_begins {s : State} {c : BitVec 16} {k : Byte} {b : List Byte} (hk : k.toNat ≤ 1) (hb : b.length ≤ 1392)
    (hc : c.toNat < s.rd Reg.ROUTE_TABLE_TOTAL_CELLS) (ha : s.answering c.toNat = true) (hp : assocGet s.link.parcels c.toNat = none) :
    actParcel c k b s = ⟨Status.OK, [],
      s.parcelBegun c.toNat { tag := s.link.nextTag, fromCell := k == 1, body := b, since := s.timeOf 1 }, some (.parcel c.toNat), s.stage⟩ := by
  have hrange : ¬ (1 < k.toNat ∨ 1392 < b.length) := by omega
  have habsent : ¬ (s.rd Reg.ROUTE_TABLE_TOTAL_CELLS ≤ c.toNat ∨ !s.answering c.toNat) := by
    rw [ha]
    simpa using hc
  have hbusy : ¬ (assocGet s.link.parcels c.toNat).isSome := by
    rw [hp]
    exact Bool.false_ne_true
  unfold actParcel
  simp only
  rw [if_neg hrange, if_neg habsent, if_neg hbusy]
  rfl

theorem actParcel_absent {s : State} {c : BitVec 16} {k : Byte} {b : List Byte} (hk : k.toNat ≤ 1) (hb : b.length ≤ 1392)
    (h : s.rd Reg.ROUTE_TABLE_TOTAL_CELLS ≤ c.toNat ∨ s.answering c.toNat = false) : actParcel c k b s = s.no Status.CELL_ABSENT := by
  have hrange : ¬ (1 < k.toNat ∨ 1392 < b.length) := by omega
  have habsent : s.rd Reg.ROUTE_TABLE_TOTAL_CELLS ≤ c.toNat ∨ !s.answering c.toNat := by
    rcases h with h | h
    · exact Or.inl h
    · exact Or.inr (by rw [h]; rfl)
  unfold actParcel
  simp only
  rw [if_neg hrange, if_pos habsent]

section

variable {s : State} {r : Req} {c : BitVec 16} {k : Byte} {b : List Byte} (hr : Ready s r Verb.PARCEL) (hk : k.toNat ≤ 1)
  (hb : b.length ≤ 1392)
include hr hk hb

theorem parcel_begins (hc : c.toNat < s.rd Reg.ROUTE_TABLE_TOTAL_CELLS) (ha : s.answering c.toNat = true)
    (hp : assocGet s.link.parcels c.toNat = none) :
    ∃ t, exec (.parcel r c k b) s = .next t ∧ Started s t r Verb.PARCEL (.parcel c.toNat) s.stage
      ∧ t = { s with regs := t.regs, ses := t.ses, turn := r.session, cells := t.cells, out := [],
                     link := { s.link with parcels := t.link.parcels, nextTag := (s.link.nextTag + 1) % 65536 } }
      ∧ assocGet t.link.parcels c.toNat = some { tag := s.link.nextTag, fromCell := k == 1, body := b, since := s.timeOf 1 }
      ∧ (∀ d : Nat, d ≠ c.toNat → assocGet t.link.parcels d = assocGet s.link.parcels d ∧ t.cell d = s.cell d)
      ∧ t.rd (Reg.CELL_PARCEL_STATE c.toNat) = (if b = [] then 2 else 1) ∧ t.rd (Reg.CELL_PARCEL_TAG c.toNat) = s.link.nextTag % 65536
      ∧ t.rd (Reg.CELL_PARCEL_DN_DONE c.toNat) = 0 ∧ t.rd (Reg.CELL_PARCEL_UP_DONE c.toNat) = 0
      ∧ Keeps s t (parcelFlds c.toNat ++ sessionFlds r.session) := by
  have h16 : c.toNat < 65536 := c.isLt
  obtain ⟨v, hv⟩ : ∃ v : State, v = s.taken r := ⟨_, rfl⟩
  have hact := actParcel_begins (s := v) (c := c) hk hb (by rw [hv, State.rd_taken_outside s r (by decide)]; exact hc)
    (by rw [hv, State.answering_taken s r h16]; exact ha) (by rw [hv, State.taken_link]; exact hp)
  obtain ⟨p, hpe⟩ : ∃ p : Parcel, p = { tag := s.link.nextTag, fromCell := k == 1, body := b, since := s.timeOf 1 } := ⟨_, rfl⟩
  rw [hv, State.taken_link, State.timeOf_taken, State.stage_taken, ← hpe, ← hv] at hact
  obtain ⟨w, hw⟩ : ∃ w : State, w = { v with link := { v.link with parcels := assocInsert v.link.parcels c.toNat p, nextTag := (p.tag + 1) % 65536 } } := ⟨_, rfl⟩
  obtain ⟨u, hu⟩ : ∃ u : State, u = v.parcelBegun c.toNat p := ⟨_, rfl⟩
  have huw : u.regs = (w.parcelShown c.toNat (if p.body = [] then 2 else 1) p.tag).regs := by rw [hu, hw]; rfl
  have hkeep : Keeps (s.taken r) u (parcelFlds c.toNat) := by
    rw [← hv]
    exact ((Keeps.of_regs (t := w) (by rw [hw]) _).trans (Keeps.parcelShown w _ _ _)).congr huw
  obtain ⟨hst, htag, hdn, hup⟩ := w.parcelShown_shows c.toNat (if p.body = [] then 2 else 1) p.tag
  rw [← hu, hv] at hact
  obtain ⟨t, ht, hstart, hupd, hut, hkt⟩ := execVerb_begins hr (by decide) false (.parcel r c k b) hact (by rw [hu, ← hv]; rfl) hkeep (fun f hf => by have := parcelFlds_within c.toNat f hf; omega)
  have hquiet (f : Fld) (hf : f ∈ parcelFlds c.toNat) : t.rd f = (w.parcelShown c.toNat (if p.body = [] then 2 else 1) p.tag).rd f := by
    obtain ⟨hin, hlo, hhi⟩ := parcelFlds_within c.toNat f hf
    exact (hut.quiet hin (Fld.quiet_between (by omega) (by omega))).trans (State.rd_congr huw f)
  obtain ⟨l, x, e⟩ := State.taken_upd s r
  obtain ⟨l', cs, hv'⟩ := v.parcelBegun_upd c.toNat p
  rw [← hu, hv, e, show p.tag = s.link.nextTag from by rw [hpe]] at hv'
  rw [hv'] at hupd
  have htl : t.link = { s.link with parcels := assocInsert s.link.parcels c.toNat p, nextTag := (s.link.nextTag + 1) % 65536 } := by rw [hupd]
  have htc : t.cells = cs := by rw [hupd]
  refine ⟨t, ht, hstart, ?_, ?_, fun d hd => ⟨?_, ?_⟩, ?_, ?_, ?_, ?_, hkt⟩
  · rw [htl, htc]
    exact hupd
  · rw [htl, ← hpe]
    exact assocGet_insert_same _ _ _ hp
  · rw [htl]
    exact assocGet_insert_other _ _ hd
  · have hcell : t.cell d = u.cell d := by
      unfold State.cell
      rw [htc, hv']
    rw [hcell, hu]
    refine (State.cell_setCell_other _ _ hd).trans ?_
    unfold State.cell
    rw [hv, e]
    rfl
  · rw [hquiet _ (by simp [parcelFlds]), hst, hpe]
    split <;> rfl
  · rw [hquiet _ (by simp [parcelFlds]), htag, hpe]
  · rw [hquiet _ (by simp [parcelFlds]), hdn]
  · rw [hquiet _ (by simp [parcelFlds]), hup]

theorem parcel_absent (h : s.rd Reg.ROUTE_TABLE_TOTAL_CELLS ≤ c.toNat ∨ s.answering c.toNat = false) :
    ∃ t, exec (.parcel r c k b) s = .next t ∧ Completed s t r Verb.PARCEL 0 Status.CELL_ABSENT [] s.stage
      ∧ t = { s with regs := t.regs, ses := t.ses, turn := r.session, canTx := t.canTx, out := t.out } ∧ Keeps s t (sessionFlds r.session) :=
  execVerb_no hr (by decide) false (.parcel r c k b) (actParcel_absent hk hb
    (by rw [State.rd_taken_outside s r (by decide), State.answering_taken s r c.isLt]; exact h))

end

/-! ### Chunks that go again (R237) -/

/-- A transfer with a chunk to be sent again, counted. -/
def State.parcelAgain (s : State) (c : Nat) (p : Parcel) : State :=
  ({ s with link := { s.link with parcels := assocInsert (assocErase s.link.parcels c) c p } }).inc (Reg.CELL_PARCEL_RESEND_COUNT c)

/-- What a repeated chunk leaves of the state in which its command found the block. -/
theorem State.parcelAgain_shows (s : State) (c : Nat) (p : Parcel) {t : State} (ht : t = ({ s with out := [] } : State).parcelAgain c p) :
    t = { s with regs := t.regs, out := [], link := { s.link with parcels := t.link.parcels } } ∧ assocGet t.link.parcels c = some p
      ∧ (∀ d : Nat, d ≠ c → assocGet t.link.parcels d = assocGet s.link.parcels d)
      ∧ t.rd (Reg.CELL_PARCEL_RESEND_COUNT c) = s.oneMore (Reg.CELL_PARCEL_RESEND_COUNT c) ∧ Keeps s t [Reg.CELL_PARCEL_RESEND_COUNT c] := by
  have hg (d : Nat) : assocGet t.link.parcels d = if d = c then some p else assocGet s.link.parcels d := by
    rw [ht]
    exact assocGet_replace _ _ _ _
  obtain ⟨v, hv⟩ : ∃ v : State, v = { s with out := [], link := { s.link with parcels := assocInsert (assocErase s.link.parcels c) c p } } := ⟨_, rfl⟩
  have htv : t = v.inc (Reg.CELL_PARCEL_RESEND_COUNT c) := by rw [ht, hv]; rfl
  have hk : Keeps s v [Reg.CELL_PARCEL_RESEND_COUNT c] := Keeps.of_regs (by rw [hv]) _
  refine ⟨?_, (hg c).trans (if_pos rfl), fun d hd => (hg d).trans (if_neg hd), ?_, ?_⟩
  · rw [ht]
    rfl
  · rw [htv]
    refine (State.rd_inc_same _ Fld.within_mk).trans ?_
    exact State.oneMore_congr (State.rd_congr (by rw [hv]) _)
  · rw [htv]
    exact hk.inc 1 List.mem_cons_self Fld.within_mk

section

variable {s : State} {c : Fin 512} {p : Parcel} (hr : s.running = true) (hp : assocGet s.link.parcels c = some p)
include hr hp

theorem parcelChunkResend_goes (hd : p.due = false) (hb : p.busy = false) (hg : p.got = false) (h6 : p.sentAt + 6 ≤ s.stage) :
    exec (.parcelChunkResend c) s = .next (({ s with out := [] } : State).parcelAgain c { p with due := true }) := by
  have hc : ¬ (p.due || p.busy || p.got || decide (({ s with out := [] } : State).stage < p.sentAt + 6)) = true := by
    have h6' : p.sentAt + 6 ≤ ({ s with out := [] } : State).stage := h6
    simpa [hd, hb, hg] using h6'
  show execParcelChunkResend c s = _
  rw [execParcelChunkResend, onRun_eq hr]
  simp only [hp, if_neg hc]
  rfl

theorem parcelBusyRetry_goes (hb : p.busy = true) (h6 : p.busyAt + 6 ≤ s.stage) :
    exec (.parcelBusyRetry c) s = .next (({ s with out := [] } : State).parcelAgain c { p with due := true, busy := false, done := 0 }) := by
  have hc : (p.busy && decide (p.busyAt + 6 ≤ ({ s with out := [] } : State).stage)) = true := by
    have h6' : p.busyAt + 6 ≤ ({ s with out := [] } : State).stage := h6
    simpa [hb] using h6'
  show execParcelBusyRetry c s = _
  rw [execParcelBusyRetry, onRun_eq hr]
  simp only [hp, if_pos hc]
  rfl

end

/-! ### The end at the timeout (R238) -/

/-- A transfer is no longer in progress, shown and counted as timed out. -/
def State.parcelTimedOut (s : State) (c : Nat) : State :=
  (({ s with link := { s.link with parcels := assocErase s.link.parcels c } }).wr (Reg.CELL_PARCEL_STATE c) 6).inc (Reg.CELL_PARCEL_TIMEOUT_COUNT c)

theorem State.endParcel_timeout {s : State} {c : Nat} {p : Parcel} {i : Fin 4} (hp : assocGet s.link.parcels c = some p)
    (hi : s.findOp (fun o => o == .parcel c) = some i) :
    s.endParcel c Status.PARCEL_TIMEOUT [] = (s.parcelTimedOut c).endBusy i (.parcel c) Status.PARCEL_TIMEOUT [] := by
  have hi' : (s.parcelTimedOut c).findOp (fun o => o == .parcel c) = some i := hi
  calc s.endParcel c Status.PARCEL_TIMEOUT []
      = (match (s.parcelTimedOut c).findOp (fun o => o == .parcel c) with
          | some i => (s.parcelTimedOut c).endBusy i (.parcel c) Status.PARCEL_TIMEOUT []
          | none => s.parcelTimedOut c) := by
        unfold State.endParcel
        rw [hp]
        rfl
    _ = _ := by rw [hi']

section

variable (s : State) (c : Nat)

/-- The fields that a transfer's timeout writes. -/
def timeoutFlds : List Fld := [Reg.CELL_PARCEL_STATE c, Reg.CELL_PARCEL_TIMEOUT_COUNT c]

theorem Keeps.parcelTimedOut : Keeps s (s.parcelTimedOut c) (timeoutFlds c) := by
  have h : Keeps s { s with link := { s.link with parcels := assocErase s.link.parcels c } } (timeoutFlds c) := Keeps.of_regs rfl _
  exact (h.wr 6 List.mem_cons_self Fld.within_mk).inc 1 (List.mem_cons_of_mem _ List.mem_cons_self) Fld.within_mk

theorem State.parcelTimedOut_shows : (s.parcelTimedOut c).rd (Reg.CELL_PARCEL_STATE c) = 6
    ∧ (s.parcelTimedOut c).rd (Reg.CELL_PARCEL_TIMEOUT_COUNT c) = s.oneMore (Reg.CELL_PARCEL_TIMEOUT_COUNT c) := by
  obtain ⟨v, hv⟩ : ∃ v : State, v = { s with link := { s.link with parcels := assocErase s.link.parcels c } } := ⟨_, rfl⟩
  have hne : (Reg.CELL_PARCEL_STATE c).addr ≠ (Reg.CELL_PARCEL_TIMEOUT_COUNT c).addr := by
    simp only [Reg.CELL_PARCEL_STATE, Reg.CELL_PARCEL_TIMEOUT_COUNT]
    omega
  have hu : s.parcelTimedOut c = (v.wr (Reg.CELL_PARCEL_STATE c) 6).inc (Reg.CELL_PARCEL_TIMEOUT_COUNT c) := by rw [hv]; rfl
  have hstate : (v.wr (Reg.CELL_PARCEL_STATE c) 6).rd (Reg.CELL_PARCEL_STATE c) = 6 := State.rd_wr_same _ _ Fld.within_mk
  have hcount : (v.wr (Reg.CELL_PARCEL_STATE c) 6).rd (Reg.CELL_PARCEL_TIMEOUT_COUNT c) = s.rd (Reg.CELL_PARCEL_TIMEOUT_COUNT c) :=
    (State.rd_wr_elsewhere _ _ hne.symm).trans (State.rd_congr (by rw [hv]) _)
  rw [hu]
  exact ⟨(State.rd_wr_elsewhere _ _ hne).trans hstate, (State.rd_inc_same _ Fld.within_mk).trans (State.oneMore_congr hcount)⟩

end

/-- A fresh list of outputs takes nothing from the time that has passed. -/
theorem State.passed_fresh (s : State) (since ns : Nat) : ({ s with out := [] } : State).passed since ns = s.passed since ns := rfl

theorem parcelTimeout_ends {s : State} {c : Fin 512} {p : Parcel} {i : Fin 4} {b : BusyCmd} (h : Executes s i b)
    (hp : assocGet s.link.parcels c = some p) (hb : b.op = .parcel c) (h8 : s.passed p.since 8000000 = true)
    (hi : s.findOp (fun o => o == .parcel c) = some i) :
    exec (.parcelTimeout c) s = .next ((({ s with out := [] } : State).parcelTimedOut c).endBusy i b.op Status.PARCEL_TIMEOUT []) := by
  obtain ⟨hr, -⟩ := h
  obtain ⟨v, hv⟩ : ∃ v : State, v = { s with out := [] } := ⟨_, rfl⟩
  have hp' : assocGet v.link.parcels c = some p := by rw [hv]; exact hp
  have hdue : (assocGet v.link.parcels c).any (fun p => v.passed p.since 8000000) = true := by
    rw [hp', Option.any_some, hv, State.passed_fresh]
    exact h8
  show execParcelTimeout c s = _
  rw [execParcelTimeout, onRun_eq hr, ← hv]
  simp only [hdue, if_true]
  rw [State.endParcel_timeout hp' (by rw [hv]; exact hi), hb]

/-- Settles O31: a transfer's start by what PARCEL answers, its end as an operation ends. -/
theorem parcelsRunToTheirEnd : Obligations.ParcelsRunToTheirEnd := by
  refine ⟨fun s r c k b hr hk hb hc ha hp => parcel_begins hr hk hb hc ha hp, fun s r c k b hr hk hb h => parcel_absent hr hk hb h,
    fun s c p hr hp hd hb hg h6 => ⟨_, parcelChunkResend_goes hr hp hd hb hg h6, State.parcelAgain_shows s c _ rfl⟩,
    fun s c p hr hp hb h6 => ⟨_, parcelBusyRetry_goes hr hp hb h6, State.parcelAgain_shows s c _ rfl⟩, ?_⟩
  intro s c p i b h hp hb h8 hi
  obtain ⟨u, hu⟩ : ∃ u : State, u = ({ s with out := [] } : State).parcelTimedOut c := ⟨_, rfl⟩
  have hkeep : Keeps s u (timeoutFlds c) := hu ▸ (Keeps.parcelTimedOut _ c).fresh
  obtain ⟨hstate, hcount⟩ := hu ▸ State.parcelTimedOut_shows { s with out := [] } c
  have hflds : ∀ f ∈ timeoutFlds c, 0x05000000 ≤ f.addr ∧ f.addr < 0x0D000000 := by
    simp only [timeoutFlds, List.forall_mem_cons, Reg.CELL_PARCEL_STATE, Reg.CELL_PARCEL_TIMEOUT_COUNT, List.not_mem_nil, false_implies,
      implies_true, and_true]
    omega
  have hfrom : EndsFrom s u := .of_keeps hkeep (fun f hf => by have := hflds f hf; omega) (by rw [hu]; rfl) (by rw [hu]; rfl)
  obtain ⟨hend, ⟨l, x, y, o, hupd⟩, hut⟩ := h.endBusy hfrom Status.PARCEL_TIMEOUT []
  have hquiet {f : Fld} (hf : f ∈ timeoutFlds c) (hw : f.within) : (u.endBusy i b.op Status.PARCEL_TIMEOUT []).rd f = u.rd f := by
    have := hflds f hf
    exact hut.quiet hw (Fld.quiet_between (by omega) (by omega))
  have hg (d : Nat) : assocGet (u.endBusy i b.op Status.PARCEL_TIMEOUT []).link.parcels d
      = if d = c then none else assocGet s.link.parcels d := by
    rw [hupd, hu]
    exact assocGet_erase _ _ _
  exact ⟨_, hu ▸ parcelTimeout_ends h hp hb h8 hi, (hg c).trans (if_pos rfl), fun d hd => (hg d).trans (if_neg hd),
    (hquiet List.mem_cons_self Fld.within_mk).trans hstate,
    (hquiet (List.mem_cons_of_mem _ List.mem_cons_self) Fld.within_mk).trans hcount, hend⟩

end Sys2Proof.Machine
end

section
/-! SUPPORT. Pattern tests and injected errors on the links (R175, R248, R249). -/

namespace Sys2Proof.Machine

open Sys2Proof

/-! ### The refusals find the same on the state that has taken the packet -/

section

variable (s : State) (r : Req)

theorem State.routeOn_taken {n : Nat} (hn : n < 32) : (s.taken r).routeOn n = s.routeOn n :=
  State.flag_taken s r (by show (0x04000100 + 0x10 * n) / 0x1000000 ≠ 3; omega)

theorem State.cellsOn_taken {n : Nat} (hn : n < 32) : (s.taken r).cellsOn n = s.cellsOn n :=
  State.rd_taken_outside s r (by show (0x04000100 + 0x10 * n) / 0x1000000 ≠ 3; omega)

theorem State.reach_taken {n : Nat} (hn : n < 32) (ret : Bool) : (s.taken r).reach n ret = s.reach n ret := by
  have h : (0x04000600 + 0x10 * n) / 0x1000000 ≠ 3 := by omega
  unfold State.reach
  rw [State.rd_taken_outside s r (f := Reg.ROUTE_RUN_REACH_RET n) h, State.rd_taken_outside s r (f := Reg.ROUTE_RUN_REACH_OUT n) h]

theorem State.paired_taken : (s.taken r).paired = s.paired := State.flag_taken s r (by decide)

theorem State.ownEnd_taken (ret : Bool) : (s.taken r).ownEnd ret = s.ownEnd ret := by
  unfold State.ownEnd State.second
  rw [State.paired_taken, State.rd_taken_outside s r (by decide)]

theorem State.switching_taken : (s.taken r).switching = s.switching := by
  unfold State.switching
  rw [State.station_taken]

theorem State.prbsRefusal_taken (p : Word) : (s.taken r).prbsRefusal p = s.prbsRefusal p := by
  unfold State.prbsRefusal
  simp only
  rw [State.switching_taken, State.routeOn_taken s r (by omega), State.paired_taken, State.taken_link]

theorem State.injectRefusal_taken (p : Word) : (s.taken r).injectRefusal p = s.injectRefusal p := by
  unfold State.injectRefusal
  simp only
  rw [State.cellsOn_taken s r (by omega), State.routeOn_taken s r (by omega), State.ownEnd_taken, State.reach_taken s r (by omega),
    State.switching_taken, State.taken_link]

theorem State.farErrors_taken {l : Nat} (hl : l < 64) : (s.taken r).farErrors l = s.farErrors l := by
  have hclosed : (s.taken r).farLink l = s.farLink l := by
    unfold State.farLink
    rw [State.flag_taken s r (by show (0x04000600 + 0x10 * (l / 2)) / 0x1000000 ≠ 3; omega), State.paired_taken]
  have hfar : ∀ f ∈ s.farLink l, f < 66 := by
    intro f hf
    unfold State.farLink at hf
    split at hf
    · cases hf
      split <;> omega
    · exact nomatch hf
  unfold State.farErrors
  rw [hclosed]
  split
  · next f hf =>
    have := hfar f hf
    exact State.rd_taken_outside s r (by show (0x04001028 + 0x40 * f) / 0x1000000 ≠ 3; omega)
  · rfl

end

/-! ### A pattern test begins (R248) -/

theorem laneUse_elsewhere {l : Nat} (hl : l < 64) : (Reg.LANE_STAT_USE l).addr / 0x1000000 ≠ 3 ∧ (Reg.LANE_STAT_USE l).quiet := by
  have h : (Reg.LANE_STAT_USE l).addr = 0x04001010 + 0x40 * l := rfl
  exact ⟨by rw [h]; omega, Fld.quiet_between (by rw [h]; omega) (by rw [h]; omega)⟩

section

variable (s : State) (p : Word)

/-- A started test is listed with its end, its link's USE is 4, and its own route alone may be down. -/
theorem State.startPrbs_upd : ∃ l q, s.startPrbs p false = { s with regs := l, link := { s.link with
    prbs := s.link.prbs ++ [(p.toNat % 64, false)]
    prbsEnd := assocInsert (assocErase s.link.prbsEnd (p.toNat % 64)) (p.toNat % 64) (s.timeOf 1 + p.toNat / 65536 * 1000000 * 65536)
    routes := q } } := by
  unfold State.startPrbs State.setRoute
  dsimp only
  split
  · split
    · exact ⟨_, _, rfl⟩
    · exact ⟨_, _, rfl⟩
  · exact ⟨_, _, rfl⟩

theorem State.startPrbs_regs : (s.startPrbs p false).regs = (s.wr (Reg.LANE_STAT_USE (p.toNat % 64)) 4).regs := by
  unfold State.startPrbs State.setRoute
  dsimp only
  split
  · split <;> rfl
  · rfl

theorem State.startPrbs_route {m : Nat} (hm : m ≠ p.toNat % 64 / 2) : (s.startPrbs p false).route m = s.route m := by
  unfold State.startPrbs
  dsimp only
  split
  · exact State.route_setRoute_other _ _ hm
  · rfl

theorem actLinkPrbs_starts (h : s.prbsRefusal p = none) :
    actLinkPrbs p s = ⟨Status.OK, [], s.startPrbs p false, some (.prbs (p.toNat % 64)), s.stage⟩ := by
  unfold actLinkPrbs
  rw [h]
  rfl

theorem actLinkPrbs_refused {x : Nat} (h : s.prbsRefusal p = some x) : actLinkPrbs p s = s.no x := by
  unfold actLinkPrbs
  rw [h]

theorem State.startInject_eq : s.startInject p false = { s with
    link := { s.link with inject := s.link.inject ++ [{ param := p, crc0 := s.farErrors (p.toNat % 64), byMon := false }] } } := rfl

theorem actLinkInject_starts (h : s.injectRefusal p = none) :
    actLinkInject p s = ⟨Status.OK, [], s.startInject p false, some (.inject (p.toNat % 64)), s.stage⟩ := by
  unfold actLinkInject
  rw [h]
  rfl

end

section

variable {s : State} {r : Req} (hr : Ready s r Verb.TEST) (p : Word)
include hr

theorem linkPrbs_starts (h : s.prbsRefusal p = none) :
    ∃ t, exec (.linkPrbs r p) s = .next t ∧ Started s t r Verb.TEST (.prbs (p.toNat % 64)) s.stage
      ∧ t = { s with regs := t.regs, ses := t.ses, turn := r.session, out := [], link := { s.link with prbs := s.link.prbs ++ [(p.toNat % 64, false)], prbsEnd := t.link.prbsEnd, routes := t.link.routes } }
      ∧ t.prbsEnds (p.toNat % 64) = s.timeOf 1 + p.toNat / 65536 * 1000000 * 65536
      ∧ t.rd (Reg.LANE_STAT_USE (p.toNat % 64)) = 4 ∧ Keeps s t (Reg.LANE_STAT_USE (p.toNat % 64) :: sessionFlds r.session)
      ∧ ∀ m : Nat, m ≠ p.toNat % 64 / 2 → t.route m = s.route m := by
  obtain ⟨n, hn⟩ : ∃ n : Nat, n = p.toNat % 64 := ⟨_, rfl⟩
  obtain ⟨hout, hquiet⟩ := laneUse_elsewhere (l := n) (by omega)
  obtain ⟨v, hv⟩ : ∃ v : State, v = s.taken r := ⟨_, rfl⟩
  have hact := actLinkPrbs_starts v p (by rw [hv, State.prbsRefusal_taken]; exact h)
  have hstage : v.stage = s.stage := by rw [hv, State.stage_taken]
  have htime : v.timeOf 1 = s.timeOf 1 := by rw [hv, State.timeOf_taken]
  have hlink : v.link = s.link := by rw [hv, State.taken_link]
  obtain ⟨u, hu⟩ : ∃ u : State, u = v.startPrbs p false := ⟨_, rfl⟩
  have hregs : u.regs = (v.wr (Reg.LANE_STAT_USE n) 4).regs := by rw [hu, hn]; exact v.startPrbs_regs p
  have huse : u.rd (Reg.LANE_STAT_USE n) = 4 := (State.rd_congr hregs _).trans (State.rd_wr_same v 4 Fld.within_mk)
  have hroute (m : Nat) (hm : m ≠ n / 2) : u.route m = v.route m := by rw [hu]; exact v.startPrbs_route p (by rw [← hn]; exact hm)
  obtain ⟨d, hd⟩ : ∃ d : Nat, d = s.timeOf 1 + p.toNat / 65536 * 1000000 * 65536 := ⟨_, rfl⟩
  obtain ⟨l, q, hupd⟩ := v.startPrbs_upd p
  rw [← hu, hstage, ← hn] at hact
  rw [← hu, ← hn, htime, ← hd, hlink] at hupd
  have hkeep : Keeps (s.taken r) u [Reg.LANE_STAT_USE n] := by
    rw [← hv]
    exact ((Keeps.refl v _).wr 4 List.mem_cons_self Fld.within_mk).congr hregs
  rw [hv] at hact
  obtain ⟨t, ht, hstart, htu, hut, hkt⟩ := execVerb_begins hr (by decide) false (.linkPrbs r p) hact (by rw [hupd, hv]) hkeep
    (fun f hf => by rw [List.mem_singleton.mp hf]; exact hout)
  obtain ⟨l', x, e⟩ := State.taken_upd s r
  have htl : t.link = u.link := by rw [htu]
  have hends : t.link.prbsEnd = assocInsert (assocErase s.link.prbsEnd n) n d := by rw [htl, hupd]
  have hroutes : t.link.routes = q := by rw [htl, hupd]
  rw [← hn, ← hd]
  refine ⟨t, ht, hstart, ?_, ?_, (hut.quiet Fld.within_mk hquiet).trans huse, hkt, fun m hm => ?_⟩
  · rw [hends, hroutes]
    rw [hupd, hv, e] at htu
    exact htu
  · unfold State.prbsEnds
    rw [hends, assocGet_replace, if_pos rfl]
    rfl
  · refine Eq.trans ?_ ((hroute m hm).trans ?_)
    · unfold State.route
      rw [htl]
    · unfold State.route
      rw [hlink]

theorem linkInject_starts (h : s.injectRefusal p = none) :
    ∃ t, exec (.linkInject r p) s = .next t ∧ Started s t r Verb.TEST (.inject (p.toNat % 64)) s.stage
      ∧ t = { s with regs := t.regs, ses := t.ses, turn := r.session, out := [],
                     link := { s.link with inject := s.link.inject ++ [{ param := p, crc0 := s.farErrors (p.toNat % 64), byMon := false }] } }
      ∧ Keeps s t (sessionFlds r.session) := by
  obtain ⟨v, hv⟩ : ∃ v : State, v = s.taken r := ⟨_, rfl⟩
  have hact := actLinkInject_starts v p (by rw [hv, State.injectRefusal_taken]; exact h)
  obtain ⟨c, hc⟩ : ∃ c : Nat, c = s.farErrors (p.toNat % 64) := ⟨_, rfl⟩
  rw [State.startInject_eq, hv, State.stage_taken, State.farErrors_taken s r (by omega), State.taken_link, ← hc] at hact
  obtain ⟨t, ht, hst, hupd, hk⟩ := execVerb_begins_words hr (by decide) false (.linkInject r p) hact rfl rfl
  obtain ⟨l, x, e⟩ := State.taken_upd s r
  rw [e] at hupd
  rw [← hc]
  exact ⟨t, ht, hst, hupd, hk⟩

end

/-! ### A pattern test ends (R248) -/

/-- What PRBS_TEST_END replies: the bits, the errors and the lock. -/
def prbsResult (bits : BitVec 64) (errors : Word) (locked : Bool) : List Byte :=
  beBytes 8 bits.toNat ++ beBytes 4 errors.toNat ++ beBytes 1 (if locked then 1 else 0) ++ [0, 0, 0]

theorem prbsStatus (e : Word) (k : Bool) :
    (if e ≠ 0 ∨ (!k) = true then Status.TEST_FAILED else Status.OK) = if e = 0 ∧ k = true then Status.OK else Status.TEST_FAILED := by
  by_cases he : e = 0 ∧ k = true
  · rw [if_pos he, if_neg (by simp [he])]
  · rw [if_neg he, if_pos (by cases k <;> simp_all)]

theorem State.usualUse_le (s : State) (l : Nat) : s.usualUse l ≤ 3 := by
  unfold State.usualUse
  split
  · split <;> omega
  · split <;> omega

theorem State.endPrbs_use (s : State) (l : Nat) : (s.endPrbs l).rd (Reg.LANE_STAT_USE l) = s.usualUse l := by
  refine (State.rd_wr_same _ _ Fld.within_mk).trans (Nat.mod_eq_of_lt ?_)
  show _ < 2 ^ (23 - 20 + 1)
  have := s.usualUse_le l
  omega

theorem Keeps.endPrbs (s : State) (l : Nat) : Keeps s (s.endPrbs l) [Reg.LANE_STAT_USE l] := by
  have h : Keeps s { s with link := { s.link with prbs := s.link.prbs.filter (fun q => q.1 != l), prbsEnd := assocErase s.link.prbsEnd l } }
      [Reg.LANE_STAT_USE l] := Keeps.of_regs rfl _
  exact h.wr _ List.mem_cons_self Fld.within_mk

theorem prbsTestEnd_ends {s : State} {l : Fin 50} {i : Fin 4} {b : BusyCmd} {x : BitVec 64} {e : Word} {k : Bool} (h : Executes s i b)
    (hp : assocGet s.link.prbs l = some false) (hd : s.reached (s.prbsEnds l) = true) (hb : b.op = .prbs l)
    (hi : s.findOp (fun o => o == .prbs l) = some i) :
    exec (.prbsTestEnd l ⟨x, e⟩ k) s = .next ((({ s with out := [] } : State).endPrbs l).endBusy i b.op
      (if e = 0 ∧ k = true then Status.OK else Status.TEST_FAILED) (prbsResult x e k)) := by
  obtain ⟨hr, -⟩ := h
  obtain ⟨v, hv⟩ : ∃ v : State, v = { s with out := [] } := ⟨_, rfl⟩
  have hp' : assocGet v.link.prbs l = some false := by rw [hv]; exact hp
  have hd' : ¬ (!(v.reached (v.prbsEnds l))) = true := by
    rw [hv]
    show ¬ (!(s.reached (s.prbsEnds l))) = true
    rw [hd]
    decide
  have hi' : (v.endPrbs l).findOp (fun o => o == .prbs l) = some i := by rw [hv]; exact hi
  show execPrbsTestEnd l ⟨x, e⟩ k s = _
  rw [execPrbsTestEnd, onRun_eq hr, ← hv]
  simp only [hp', if_neg hd', hi', prbsStatus, hb, prbsResult, Bool.false_eq_true, if_false]

theorem prbsTestEnd_replies {s : State} {l : Fin 50} {i : Fin 4} {b : BusyCmd} (x : BitVec 64) (e : Word) (k : Bool) (h : Executes s i b)
    (hp : assocGet s.link.prbs l = some false) (hd : s.reached (s.prbsEnds l) = true) (hb : b.op = .prbs l)
    (hi : s.findOp (fun o => o == .prbs l) = some i) :
    ∃ t, exec (.prbsTestEnd l ⟨x, e⟩ k) s = .next t
      ∧ t.link = { s.link with prbs := s.link.prbs.filter (fun q => q.1 != l.val), prbsEnd := assocErase s.link.prbsEnd l }
      ∧ t.rd (Reg.LANE_STAT_USE l) = s.usualUse l ∧ t.mem = s.mem ∧ t.flt = s.flt
      ∧ Ended s t i b (if e = 0 ∧ k = true then Status.OK else Status.TEST_FAILED) (prbsResult x e k) := by
  obtain ⟨hout, hquiet⟩ := laneUse_elsewhere (l := l) (by omega)
  obtain ⟨v, hv⟩ : ∃ v : State, v = { s with out := [] } := ⟨_, rfl⟩
  obtain ⟨u, hu⟩ : ∃ u : State, u = v.endPrbs l := ⟨_, rfl⟩
  have hkeep : Keeps s u [Reg.LANE_STAT_USE l] := by
    rw [hu, hv]
    exact (Keeps.endPrbs _ _).fresh
  have huse : u.rd (Reg.LANE_STAT_USE l) = s.usualUse l := by
    rw [hu, State.endPrbs_use, hv]
    rfl
  have hfrom : EndsFrom s u := .of_keeps hkeep
    (fun f hf => by rw [List.mem_singleton.mp hf]; simp only [Reg.LANE_STAT_USE]; omega) (by rw [hu, hv]; rfl) (by rw [hu, hv]; rfl)
  obtain ⟨hend, ⟨r, y, c, o, hupd⟩, hut⟩ := h.endBusy hfrom (if e = 0 ∧ k = true then Status.OK else Status.TEST_FAILED) (prbsResult x e k)
  have ht := prbsTestEnd_ends (x := x) (e := e) (k := k) h hp hd hb hi
  rw [← hv, ← hu] at ht
  have hul : u.link = { s.link with prbs := s.link.prbs.filter (fun q => q.1 != l.val), prbsEnd := assocErase s.link.prbsEnd l } := by
    rw [hu, hv]
    rfl
  have hum : u.mem = s.mem ∧ u.flt = s.flt := by
    rw [hu, hv]
    exact ⟨rfl, rfl⟩
  exact ⟨_, ht, by rw [hupd]; exact hul, (hut.quiet Fld.within_mk hquiet).trans huse, by rw [hupd]; exact hum.1, by rw [hupd]; exact hum.2, hend⟩

/-- Settles O32: a test and an injection begin as operations that a verb waits for; a test ends as an operation ends. -/
theorem linkTests : Obligations.LinkTests := by
  refine ⟨fun s r p hr h => linkPrbs_starts hr p h, fun s r p x hr h => ?_,
    fun s l i b x e k h hp hd hb hi => prbsTestEnd_replies x e k h hp hd hb hi, fun s r p hr h => linkInject_starts hr p h⟩
  exact execVerb_no hr (by decide) false (.linkPrbs r p) (actLinkPrbs_refused _ p (by rw [State.prbsRefusal_taken]; exact h))

end Sys2Proof.Machine
end

section
/-! SUPPORT. The image slots of the flash and an update of one (R171, R589 to R591, R599). -/

namespace Sys2Proof.Machine

open Sys2Proof

/-! ### ID_FW_STAT follows the flash (R599) -/

/-- The part of a fields' list that shows an image slot. -/
def slotFlds (b : Bool) : List Fld :=
  [Reg.ID_FW_STAT_STATE b.toNat, Reg.ID_FW_STAT_BOOTED b.toNat, Reg.ID_FW_STAT_TRIAL_STARTS b.toNat, Reg.ID_FW_STAT_ROLLBACK b.toNat,
   Reg.ID_FW_STAT_VERSION b.toNat]

/-- An image slot is shown, `booted` that the controller runs from it. -/
def State.slotShown (s : State) (b : Bool) (x : ImageSlot) (booted : Bool) : State :=
  let t := (s.wr (Reg.ID_FW_STAT_STATE b.toNat) x.state).wrB (Reg.ID_FW_STAT_BOOTED b.toNat) booted
  ((t.wr (Reg.ID_FW_STAT_TRIAL_STARTS b.toNat) x.trials).wr (Reg.ID_FW_STAT_ROLLBACK b.toNat) x.rollback).wr (Reg.ID_FW_STAT_VERSION b.toNat) x.version

section

variable (s : State)

theorem State.showFw_eq : s.showFw
    = (((s.slotShown false s.flash.imgA (!s.recovery && s.flash.bootB == false)).slotShown true s.flash.imgB
        (!s.recovery && s.flash.bootB == true)).wr Reg.ID_FW_ROLLBACK_ROLLBACK_MIN s.flash.rollbackMin).wr Reg.ID_FW_ROLLBACK_FIRMWARE_ID
        (if s.recovery then 0 else (s.flash.img s.flash.bootB).fwId) := rfl

theorem slotFlds_within : ∀ b : Bool, ∀ f ∈ slotFlds b, f.within := by decide
theorem slotFlds_fwFlds : ∀ b : Bool, ∀ f ∈ slotFlds b, f ∈ fwFlds := by decide

/-- The slots' fields, and ROLLBACK_MIN with FIRMWARE_ID, are outside the command path's block and the stage counter. -/
theorem fwFlds_elsewhere : ∀ f ∈ fwFlds, f.within ∧ f.addr < 0x01000000 := by decide

theorem Keeps.slotShown (b : Bool) (x : ImageSlot) (booted : Bool) : Keeps s (s.slotShown b x booted) (slotFlds b) := by
  have hw (f : Fld) (hf : f ∈ slotFlds b) : f.within := slotFlds_within b f hf
  have hmem : Reg.ID_FW_STAT_STATE b.toNat ∈ slotFlds b ∧ Reg.ID_FW_STAT_BOOTED b.toNat ∈ slotFlds b
      ∧ Reg.ID_FW_STAT_TRIAL_STARTS b.toNat ∈ slotFlds b ∧ Reg.ID_FW_STAT_ROLLBACK b.toNat ∈ slotFlds b
      ∧ Reg.ID_FW_STAT_VERSION b.toNat ∈ slotFlds b := by simp [slotFlds]
  obtain ⟨hs, hb, ht, hr, hv⟩ := hmem
  exact (((((Keeps.refl s _).wr _ hs (hw _ hs)).wrB _ hb (hw _ hb)).wr _ ht (hw _ ht)).wr _ hr (hw _ hr)).wr _ hv (hw _ hv)

theorem State.slotShown_state (b : Bool) (x : ImageSlot) (booted : Bool) :
    (s.slotShown b x booted).rd (Reg.ID_FW_STAT_STATE b.toNat) = x.state % 8 := by
  unfold State.slotShown Reg.ID_FW_STAT_STATE Reg.ID_FW_STAT_BOOTED Reg.ID_FW_STAT_TRIAL_STARTS Reg.ID_FW_STAT_ROLLBACK Reg.ID_FW_STAT_VERSION
  rw [State.rd_wr_elsewhere _ _ (by simp only; omega), State.rd_wr_bits, State.rd_wr_bits]
  exact (State.rd_wr_bits _).trans (State.rd_wr_same _ _ Fld.within_mk)

theorem Keeps.showFw : Keeps s s.showFw fwFlds := by
  rw [State.showFw_eq]
  exact ((((Keeps.slotShown s _ _ _).mono (slotFlds_fwFlds _)).trans ((Keeps.slotShown _ _ _ _).mono (slotFlds_fwFlds _))).wr _ (by decide)
    (by decide)).wr _ (by decide) (by decide)

/-- What is shown last leaves the STATE of the slots. -/
theorem slotState_apart : ∀ b : Bool, (Reg.ID_FW_STAT_STATE b.toNat).within
    ∧ (Reg.ID_FW_STAT_STATE b.toNat).addr ≠ Reg.ID_FW_ROLLBACK_FIRMWARE_ID.addr
    ∧ (Reg.ID_FW_STAT_STATE b.toNat).addr ≠ Reg.ID_FW_ROLLBACK_ROLLBACK_MIN.addr := by decide

theorem State.showFw_state (b : Bool) : s.showFw.rd (Reg.ID_FW_STAT_STATE b.toNat) = (s.flash.img b).state % 8 := by
  obtain ⟨hw, hid, hmin⟩ := slotState_apart b
  rw [State.showFw_eq, State.rd_wr_elsewhere _ _ hid, State.rd_wr_elsewhere _ _ hmin]
  cases b with
  | true => exact State.slotShown_state _ true _ _
  | false => exact (Keeps.slotShown _ true _ _ _ hw (by decide)).trans (State.slotShown_state _ false _ _)

theorem State.showFw_upd : ∃ l, s.showFw = { s with regs := l } := ⟨_, rfl⟩

theorem Keeps.setImg (b : Bool) (x : ImageSlot) : Keeps s (s.setImg b x) fwFlds :=
  (Keeps.of_regs (t := { s with flash := s.flash.setImg b x }) rfl _).trans (Keeps.showFw _)

theorem State.setImg_upd (b : Bool) (x : ImageSlot) : ∃ l, s.setImg b x = { s with regs := l, flash := s.flash.setImg b x } := ⟨_, rfl⟩

end

theorem Flash.img_setImg_same (f : Flash) (b : Bool) (x : ImageSlot) : (f.setImg b x).img b = x := by cases b <;> rfl
theorem Flash.img_setImg_other (f : Flash) (b : Bool) (x : ImageSlot) : (f.setImg b x).img (!b) = f.img (!b) := by cases b <;> rfl

/-! ### What taking a packet leaves of the flash -/

section

variable (s : State) (r : Req)

theorem State.taken_flash : (s.taken r).flash = s.flash := by obtain ⟨l, x, e⟩ := State.taken_upd s r; rw [e]
theorem State.taken_sto : (s.taken r).sto = s.sto := by obtain ⟨l, x, e⟩ := State.taken_upd s r; rw [e]

theorem State.spareSlot_recovery : s.spareSlot = if s.recovery then false else !s.flash.bootB := rfl

theorem State.spareSlot_taken : (s.taken r).spareSlot = s.spareSlot := by
  rw [State.spareSlot_recovery, State.recovery_taken, State.taken_flash, ← State.spareSlot_recovery]

theorem State.updateOf_taken (i : Fin 4) : (s.taken r).updateOf i = s.updateOf i := by
  unfold State.updateOf
  rw [State.taken_sto]

theorem State.flashBusy_taken : (s.taken r).flashBusy = s.flashBusy := by
  unfold State.flashBusy
  rw [State.findOp_taken]

theorem State.flashBusy_free {s : State} (h : s.findOp LongOp.flash = none) : s.flashBusy = false := by
  unfold State.flashBusy
  rw [h]
  rfl

theorem State.flashBusy_held {s : State} (h : s.findOp LongOp.flash ≠ none) : s.flashBusy = true := by
  unfold State.flashBusy
  exact Option.isSome_iff_ne_none.mpr h

end

/-! ### What the actions answer -/

section

variable {s : State} {i : Fin 4}

theorem actFwBegin_begins {n : Word} (hn : n.toNat ≤ imageTop) (hf : s.flashBusy = false) (hu : ∀ p, s.sto.update = some p → p.1 = i) :
    actFwBegin i n s = ⟨Status.OK, [],
      { s.setImg s.spareSlot {} with sto := { s.sto with update := some (i, n.toNat) } }, some .fwBegin, s.stage⟩ := by
  have hother : s.sto.update.any (fun p => p.1 != i) = false := by
    cases h : s.sto.update with
    | none => rfl
    | some p => simp [hu p h]
  have hstage : (s.setImg s.spareSlot {}).stage = s.stage := (Keeps.setImg s _ _).stage (by decide)
  unfold actFwBegin
  rw [if_neg (by omega), if_neg (by rw [hf, hother]; decide), ← hstage]
  rfl

theorem actFwWrite_writes {o : Word} {d : List Byte} {n : Nat} (hu : s.updateOf i = some n) (hf : s.flashBusy = false) (ho : o.toNat % 4 = 0)
    (hn : o.toNat + d.length ≤ n) :
    actFwWrite i o d s = ⟨Status.OK, [],
      s.setImg s.spareSlot { s.flash.img s.spareSlot with bytes := patch (s.flash.img s.spareSlot).bytes o.toNat d }, none, s.stage⟩ := by
  obtain ⟨x, hx⟩ : ∃ x : ImageSlot, x = { s.flash.img s.spareSlot with bytes := patch (s.flash.img s.spareSlot).bytes o.toNat d } := ⟨_, rfl⟩
  have hstage : (s.setImg s.spareSlot x).stage = s.stage := (Keeps.setImg s _ _).stage (by decide)
  unfold actFwWrite
  simp only [hu]
  rw [if_neg (by rw [hf]; decide), if_neg (by omega), ← hx, ← hstage]
  rfl

theorem actFwWrite_none {o : Word} {d : List Byte} (hu : s.updateOf i = none) : actFwWrite i o d s = s.no Status.STATE_REFUSED := by
  unfold actFwWrite
  simp only [hu]

theorem actFwWrite_busy {o : Word} {d : List Byte} {n : Nat} (hu : s.updateOf i = some n) (hf : s.flashBusy = true) :
    actFwWrite i o d s = s.no Status.RESOURCE_BUSY := by
  unfold actFwWrite
  simp only [hu]
  rw [if_pos hf]

theorem actFwCommit_begins {n : Nat} (hu : s.updateOf i = some n) (hf : s.flashBusy = false) :
    actFwCommit i s = ⟨Status.OK, [], s, some (.fwCommit n), s.stage⟩ := by
  unfold actFwCommit
  simp only [hu]
  rw [if_neg (by rw [hf]; decide)]
  rfl

theorem actFwAbort_ends (s : State) (i : Fin 4) : actFwAbort i s = ⟨Status.OK, [],
    { s with sto := { s.sto with update := if (s.updateOf i).isSome then none else s.sto.update } }, none, s.stage⟩ := by
  unfold actFwAbort
  by_cases h : (s.updateOf i).isSome = true
  · rw [if_pos h, if_pos h]
    rfl
  · rw [if_neg h, if_neg h]
    rfl

/-- A slot made TRIAL with no starts, and the restart to come (R590). -/
def State.fwActivated (s : State) (b : Bool) : State :=
  { s.setImg b { s.flash.img b with state := 2, trials := 0 } with sto := { s.sto with activate := true, activateAt := s.timeOf 1 } }

theorem Keeps.timeOf {s t : State} {fs : List Fld} (h : Keeps s t fs) (hf : ∀ f ∈ fs, f.addr < 0x01000000) : t.timeOf 1 = s.timeOf 1 := by
  have hk (g : Fld) (hw : g.within) (ha : 0x01000000 ≤ g.addr) : t.rd g = s.rd g :=
    h g hw fun f hm => Or.inl (by have := hf f hm; omega)
  unfold State.timeOf
  rw [hk (Reg.TIME_BASE_SECONDS_HI 1) (by decide) (by decide), hk (Reg.TIME_BASE_SECONDS_LO 1) (by decide) (by decide),
    hk (Reg.TIME_BASE_NANOSECONDS 1) (by decide) (by decide), hk (Reg.TIME_BASE_FRACTION 1) (by decide) (by decide)]

theorem actFwActivate_answers {b : Bool} (hf : s.flashBusy = false) (hst : s.station = 0 ∨ s.station = 2) (hv : s.flash.validSlot = some b) :
    actFwActivate s = ⟨Status.OK, [], s.fwActivated b, none, s.stage⟩ := by
  obtain ⟨v, hvs⟩ : ∃ v : State, v = s.setImg b { s.flash.img b with state := 2, trials := 0 } := ⟨_, rfl⟩
  have hk : Keeps s v fwFlds := hvs ▸ Keeps.setImg s _ _
  have hsto : v.sto = s.sto := by rw [hvs]; rfl
  have hact : actFwActivate s = ({ v with sto := { v.sto with activate := true, activateAt := v.timeOf 1 } } : State).ok := by
    unfold actFwActivate
    simp only [hv]
    rw [if_neg (by rw [hf]; decide), if_neg (by omega), ← hvs]
  have hstage : ({ v with sto := { v.sto with activate := true, activateAt := v.timeOf 1 } } : State).stage = s.stage :=
    hk.stage (by decide)
  rw [hact, State.ok, hstage, hsto, hk.timeOf (by decide), State.fwActivated, ← hvs]

end

/-! ### The verbs -/

section

variable {s u : State} {r : Req} {verb : Nat} {F : Flash} {S : Store} {fs : List Fld}

/-- A ready verb that is done at once, its action changing the flash and the storage's part alone. -/
theorem execVerb_flash (h : Ready s r verb) (hm : moodAllowed verb 1 = true) (cmd : Instr) {act : Action} {st : Nat} {p : List Byte} {k : Nat}
    (ha : act (s.taken r) = ⟨st, p, u, none, k⟩) (hu : ∃ l, u = { s.taken r with regs := l, flash := F, sto := S })
    (hk : Keeps (s.taken r) u fs) :
    ∃ t, execVerb s r verb 0 false cmd act = .next t ∧ Completed s t r verb 0 st p k
      ∧ t = { s with regs := t.regs, ses := t.ses, turn := r.session, canTx := t.canTx, out := t.out, flash := F, sto := S }
      ∧ Keeps s t (fs ++ sessionFlds r.session) := by
  obtain ⟨l, hu⟩ := hu
  obtain ⟨t, ht, hc, hupd, -, hkt⟩ := execVerb_leaves (flags := 0) h hm false cmd ha (by rw [hu])
    (by rw [hu]; exact congrArg Duo.role (State.taken_duo s r)) hk
  obtain ⟨l', x, e⟩ := State.taken_upd s r
  rw [hu, e] at hupd
  exact ⟨t, ht, hc, hupd, hkt⟩

end

section

variable {s : State} {r : Req} (hr : Ready s r Verb.FIRMWARE)
include hr

theorem firmwareBegin_begins {n : Word} (hn : n.toNat ≤ imageTop) (hf : s.findOp LongOp.flash = none)
    (hu : ∀ p, s.sto.update = some p → p.1 = r.session) :
    ∃ t, exec (.firmwareBegin r n) s = .next t ∧ Started s t r Verb.FIRMWARE .fwBegin s.stage
      ∧ t = { s with regs := t.regs, ses := t.ses, turn := r.session, out := [], flash := s.flash.setImg s.spareSlot {},
                     sto := { s.sto with update := some (r.session, n.toNat) } }
      ∧ Keeps s t (fwFlds ++ sessionFlds r.session) := by
  have hact := actFwBegin_begins (s := s.taken r) (i := r.session) hn (by rw [State.flashBusy_taken]; exact State.flashBusy_free hf)
    (by rw [State.taken_sto]; exact hu)
  obtain ⟨l, hset⟩ := (s.taken r).setImg_upd (s.taken r).spareSlot {}
  have hk : Keeps (s.taken r) ({ (s.taken r).setImg (s.taken r).spareSlot {} with
      sto := { (s.taken r).sto with update := some (r.session, n.toNat) } }) fwFlds :=
    (Keeps.setImg (s.taken r) (s.taken r).spareSlot {}).congr (by rfl)
  rw [State.stage_taken] at hact
  obtain ⟨t, ht, hst, hupd, -, hkt⟩ := execVerb_begins hr (by decide) false (.firmwareBegin r n) hact (by rw [hset]) hk
    (fun f hf => by have := fwFlds_elsewhere f hf; omega)
  refine ⟨t, ht, hst, ?_, hkt⟩
  obtain ⟨l', x, e⟩ := State.taken_upd s r
  rw [hset, State.spareSlot_taken, State.taken_flash, State.taken_sto, e] at hupd
  exact hupd

theorem firmwareWrite_writes {o : Word} {d : List Byte} {n : Nat} (hu : s.updateOf r.session = some n) (hf : s.findOp LongOp.flash = none)
    (ho : o.toNat % 4 = 0) (hn : o.toNat + d.length ≤ n) :
    ∃ t, exec (.firmwareWrite r o d) s = .next t ∧ Completed s t r Verb.FIRMWARE 0 Status.OK [] s.stage
      ∧ t = { s with regs := t.regs, ses := t.ses, turn := r.session, canTx := t.canTx, out := t.out,
                     flash := s.flash.setImg s.spareSlot { s.flash.img s.spareSlot with bytes := patch (s.flash.img s.spareSlot).bytes o.toNat d } }
      ∧ Keeps s t (fwFlds ++ sessionFlds r.session) := by
  have hact := actFwWrite_writes (s := s.taken r) (by rw [State.updateOf_taken]; exact hu)
    (by rw [State.flashBusy_taken]; exact State.flashBusy_free hf) ho hn
  rw [State.stage_taken, State.spareSlot_taken, State.taken_flash] at hact
  refine execVerb_flash (S := s.sto) hr (by decide) (.firmwareWrite r o d) hact ?_ (Keeps.setImg _ _ _)
  obtain ⟨l, hset⟩ := (s.taken r).setImg_upd s.spareSlot
    { s.flash.img s.spareSlot with bytes := patch (s.flash.img s.spareSlot).bytes o.toNat d }
  refine ⟨l, hset.trans ?_⟩
  rw [State.taken_flash, ← State.taken_sto s r]

theorem firmwareWrite_refused {o : Word} {d : List Byte} {st : Nat} (ha : actFwWrite r.session o d (s.taken r) = (s.taken r).no st) :
    ∃ t, exec (.firmwareWrite r o d) s = .next t ∧ Completed s t r Verb.FIRMWARE 0 st [] s.stage
      ∧ t = { s with regs := t.regs, ses := t.ses, turn := r.session, canTx := t.canTx, out := t.out } ∧ Keeps s t (sessionFlds r.session) :=
  execVerb_no hr (by decide) false (.firmwareWrite r o d) ha

theorem firmwareCommit_begins {n : Nat} (hu : s.updateOf r.session = some n) (hf : s.findOp LongOp.flash = none) :
    ∃ t, exec (.firmwareCommit r) s = .next t ∧ Started s t r Verb.FIRMWARE (.fwCommit n) s.stage
      ∧ t = { s with regs := t.regs, ses := t.ses, turn := r.session, out := [] } ∧ Keeps s t (sessionFlds r.session) := by
  have hact := actFwCommit_begins (s := s.taken r) (i := r.session) (by rw [State.updateOf_taken]; exact hu)
    (by rw [State.flashBusy_taken]; exact State.flashBusy_free hf)
  rw [State.stage_taken] at hact
  obtain ⟨t, ht, hst, hupd, hk⟩ := execVerb_begins_words hr (by decide) false (.firmwareCommit r) hact rfl rfl
  obtain ⟨l, x, e⟩ := State.taken_upd s r
  rw [e] at hupd
  exact ⟨t, ht, hst, hupd, hk⟩

theorem firmwareAbort_ends :
    ∃ t, exec (.firmwareAbort r) s = .next t ∧ Completed s t r Verb.FIRMWARE 0 Status.OK [] s.stage
      ∧ t = { s with regs := t.regs, ses := t.ses, turn := r.session, canTx := t.canTx, out := t.out,
                     sto := { s.sto with update := if (s.updateOf r.session).isSome then none else s.sto.update } }
      ∧ Keeps s t (sessionFlds r.session) := by
  have hact := actFwAbort_ends (s.taken r) r.session
  obtain ⟨S, hS⟩ : ∃ S : Store, S = { s.sto with update := if (s.updateOf r.session).isSome then none else s.sto.update } := ⟨_, rfl⟩
  rw [State.stage_taken, State.updateOf_taken, State.taken_sto, ← hS] at hact
  obtain ⟨u, hu⟩ : ∃ u : State, u = { s.taken r with sto := S } := ⟨_, rfl⟩
  rw [← hu] at hact
  obtain ⟨t, ht, hc, hupd, hk⟩ := execVerb_leaves_words (flags := 0) hr (by decide) false (.firmwareAbort r) hact (by rw [hu]) (by rw [hu])
    (by rw [hu]; exact congrArg Duo.role (State.taken_duo s r))
  obtain ⟨l, x, e⟩ := State.taken_upd s r
  rw [hu, e] at hupd
  exact ⟨t, ht, hc, hS ▸ hupd, hk⟩

theorem firmwareActivate_answers {b : Bool} (hf : s.findOp LongOp.flash = none) (hst : s.station = 0 ∨ s.station = 2)
    (hv : s.flash.validSlot = some b) :
    ∃ t, exec (.firmwareActivate r) s = .next t ∧ Completed s t r Verb.FIRMWARE 0 Status.OK [] s.stage
      ∧ t = { s with regs := t.regs, ses := t.ses, turn := r.session, canTx := t.canTx, out := t.out,
                     flash := s.flash.setImg b { s.flash.img b with state := 2, trials := 0 }, sto := { s.sto with activate := true, activateAt := s.timeOf 1 } }
      ∧ Keeps s t (fwFlds ++ sessionFlds r.session) := by
  obtain ⟨v, hvt⟩ : ∃ v : State, v = s.taken r := ⟨_, rfl⟩
  have hact := actFwActivate_answers (s := v) (b := b) (by rw [hvt, State.flashBusy_taken]; exact State.flashBusy_free hf)
    (by rw [hvt, State.station_taken]; exact hst) (by rw [hvt, State.taken_flash]; exact hv)
  obtain ⟨l, hset⟩ := v.setImg_upd b { v.flash.img b with state := 2, trials := 0 }
  have hk : Keeps v (v.fwActivated b) fwFlds := (Keeps.setImg v b { v.flash.img b with state := 2, trials := 0 }).congr rfl
  have hupd : v.fwActivated b = { v with
      regs := l, flash := v.flash.setImg b { v.flash.img b with state := 2, trials := 0 }
      sto := { v.sto with activate := true, activateAt := v.timeOf 1 } } := by
    unfold State.fwActivated
    rw [hset]
  rw [hvt, State.stage_taken] at hact
  refine execVerb_flash hr (by decide) (.firmwareActivate r) hact ⟨l, ?_⟩ (hvt ▸ hk)
  rw [← hvt, hupd, hvt, State.taken_flash, State.taken_sto, State.timeOf_taken]

end

/-! ### The ends of an update's operations -/

section

variable {s : State} {i : Fin 4} {b : BusyCmd} (h : Executes s i b)
include h

/-- The operation that the session executes, by a test that it passes. -/
theorem Executes.opWith {f : LongOp → Bool} (hf : f b.op = true) : (s.sess i).opWith f = some b.op := by
  obtain ⟨-, -, hb, -⟩ := h
  exact Session.opWith_busy hb hf

theorem firmwareBeginDone_ends (k : Bool) (hb : b.op = .fwBegin) (hi : s.findOp (fun o => o == .fwBegin) = some i) :
    ∃ t, exec (.firmwareBeginDone k) s = .next t ∧ Ended s t i b (if k then Status.OK else Status.FLASH_ERROR) []
      ∧ t = { s with regs := t.regs, ses := t.ses, canTx := t.canTx, out := t.out,
                     sto := { s.sto with update := if k then s.sto.update else none } } ∧ Keeps s t (sessionFlds i) := by
  obtain ⟨u, hu⟩ : ∃ u : State, u = { s with out := [], sto := { s.sto with update := if k then s.sto.update else none } } := ⟨_, rfl⟩
  obtain ⟨hend, ⟨l, x, c, o, hupd⟩, hut⟩ := h.endBusy (u := u) (by rw [hu]; exact .keep (.refl s)) (if k then Status.OK else Status.FLASH_ERROR) []
  have ht : exec (.firmwareBeginDone k) s = .next (u.endBusy i b.op (if k then Status.OK else Status.FLASH_ERROR) []) := by
    obtain ⟨hr, -⟩ := h
    have hi' : ({ s with out := [] } : State).findOp (fun o => o == .fwBegin) = some i := hi
    show execFirmwareBeginDone k s = _
    rw [execFirmwareBeginDone, onRun_eq hr, hb, hu]
    simp only [hi']
    cases k <;> rfl
  refine ⟨_, ht, hend, ?_, (Keeps.of_regs (t := u) (by rw [hu]) _).trans hut⟩
  rw [hupd, hu]

/-- A COMMIT's end, from the image that its slot holds. -/
theorem firmwareCommitDone_ends {n : Nat} (hb : b.op = .fwCommit n) (hi : s.findOp LongOp.isCommit = some i) :
    exec .firmwareCommitDone s = .next (
      let u : State := { s with out := [], sto := { s.sto with update := none } }
      let bs := (s.flash.img s.spareSlot).image n
      if imageOk bs n s.flash.rollbackMin then
        (u.setImg s.spareSlot { state := 1, version := beAt bs 16 4, rollback := beAt bs 6 2, trials := 0, fwId := beAt bs 8 4, bytes := bs }).endBusy
          i b.op Status.OK (beBytes 4 (crc32c 0xFFFFFFFF bs))
      else u.endBusy i b.op Status.IMAGE_INVALID []) := by
  have hop : (({ s with out := [] } : State).sess i).opWith LongOp.isCommit = some (.fwCommit n) := hb ▸ h.opWith (by rw [hb]; rfl)
  have hi' : ({ s with out := [] } : State).findOp LongOp.isCommit = some i := hi
  obtain ⟨hr, -⟩ := h
  show execFirmwareCommitDone s = _
  rw [execFirmwareCommitDone, onRun_eq hr, hb]
  simp only [hi', hop]
  rfl

theorem firmwareCommitDone_answers {n : Nat} (hb : b.op = .fwCommit n) (hi : s.findOp LongOp.isCommit = some i) :
    ∃ t, exec .firmwareCommitDone s = .next t
      ∧ (if imageOk ((s.flash.img s.spareSlot).image n) n s.flash.rollbackMin = true then
          Ended s t i b Status.OK (beBytes 4 (crc32c 0xFFFFFFFF ((s.flash.img s.spareSlot).image n)))
            ∧ (t.flash.img s.spareSlot).state = 1 ∧ (t.flash.img s.spareSlot).bytes = (s.flash.img s.spareSlot).image n
            ∧ t.flash.img (!s.spareSlot) = s.flash.img (!s.spareSlot) ∧ t.sto = { s.sto with update := none } ∧ t.mem = s.mem
            ∧ Keeps s t (fwFlds ++ sessionFlds i)
        else Ended s t i b Status.IMAGE_INVALID []
            ∧ t = { s with regs := t.regs, ses := t.ses, canTx := t.canTx, out := t.out, sto := { s.sto with update := none } }
            ∧ Keeps s t (sessionFlds i)) := by
  refine ⟨_, firmwareCommitDone_ends h hb hi, ?_⟩
  dsimp only
  obtain ⟨u, hu⟩ : ∃ u : State, u = { s with out := [], sto := { s.sto with update := none } } := ⟨_, rfl⟩
  have hfrom : EndsFrom s u := by rw [hu]; exact .keep (.refl s)
  have hku (fs : List Fld) : Keeps s u fs := Keeps.of_regs (by rw [hu]) _
  obtain ⟨bs, hbs⟩ : ∃ bs : List Byte, bs = (s.flash.img s.spareSlot).image n := ⟨_, rfl⟩
  rw [← hu, ← hbs]
  split
  case isTrue hok =>
    obtain ⟨x, hx⟩ : ∃ x : ImageSlot,
      x = { state := 1, version := beAt bs 16 4, rollback := beAt bs 6 2, trials := 0, fwId := beAt bs 8 4, bytes := bs } := ⟨_, rfl⟩
    rw [← hx]
    obtain ⟨v, hv⟩ : ∃ v : State, v = u.setImg s.spareSlot x := ⟨_, rfl⟩
    obtain ⟨l, hset⟩ := u.setImg_upd s.spareSlot x
    have hset' : v = { s with regs := l, out := [], flash := s.flash.setImg s.spareSlot x, sto := { s.sto with update := none } } := by
      rw [hv, hset, hu]
    have hk : Keeps s v fwFlds := hv ▸ (hku _).trans (Keeps.setImg u _ _)
    rw [← hv]
    obtain ⟨hend, ⟨l', y, c, o, hupd⟩, hut⟩ := h.endBusy (u := v) (.of_keeps hk (by decide) (by rw [hset']) (by rw [hset']))
      Status.OK (beBytes 4 (crc32c 0xFFFFFFFF bs))
    have hflash : (v.endBusy i b.op Status.OK (beBytes 4 (crc32c 0xFFFFFFFF bs))).flash = s.flash.setImg s.spareSlot x := by rw [hupd, hset']
    refine ⟨hend, ?_, ?_, ?_, ?_, ?_, (hk.mono fun f hf => List.mem_append_left _ hf).trans (hut.mono fun f hf => List.mem_append_right _ hf)⟩
    · rw [hflash, Flash.img_setImg_same, hx]
    · rw [hflash, Flash.img_setImg_same, hx]
    · rw [hflash, Flash.img_setImg_other]
    · rw [hupd, hset']
    · rw [hupd, hset']
  case isFalse hbad =>
    obtain ⟨hend, ⟨l, y, c, o, hupd⟩, hut⟩ := h.endBusy hfrom Status.IMAGE_INVALID []
    refine ⟨hend, ?_, (hku _).trans hut⟩
    rw [hupd, hu]

end

/-! ### A TRIAL image confirmed (R591) -/

/-- The booted image made CONFIRMED, and ROLLBACK_MIN raised to its level. -/
def State.fwConfirmed (s : State) : State :=
  ({ s with flash := { s.flash with rollbackMin := max s.flash.rollbackMin (s.flash.img s.flash.bootB).rollback
                                    lastB := s.flash.bootB } }).setImg s.flash.bootB { s.flash.img s.flash.bootB with state := 3 }

theorem State.fwConfirmed_upd (s : State) : ∃ l, s.fwConfirmed = { s with
    regs := l
    flash := ({ s.flash with rollbackMin := max s.flash.rollbackMin (s.flash.img s.flash.bootB).rollback
                             lastB := s.flash.bootB } : Flash).setImg s.flash.bootB { s.flash.img s.flash.bootB with state := 3 } } := ⟨_, rfl⟩

theorem Keeps.fwConfirmed (s : State) : Keeps s s.fwConfirmed fwFlds :=
  (Keeps.of_regs (t := { s with flash := { s.flash with rollbackMin := max s.flash.rollbackMin (s.flash.img s.flash.bootB).rollback
                                                        lastB := s.flash.bootB } }) rfl _).trans (Keeps.setImg _ _ _)

theorem State.fwConfirmed_state (s : State) : s.fwConfirmed.rd (Reg.ID_FW_STAT_STATE (if s.flash.bootB then 1 else 0)) = 3 := by
  have hslot : (if s.flash.bootB then 1 else 0) = s.flash.bootB.toNat := by cases s.flash.bootB <;> rfl
  rw [hslot]
  refine (State.showFw_state _ s.flash.bootB).trans ?_
  exact congrArg (fun x : ImageSlot => x.state % 8) (Flash.img_setImg_same _ _ _)

theorem firmwareConfirm_confirms {s : State} (hr : s.running = true) (hc : s.recovery = false) (h2 : (s.flash.img s.flash.bootB).state = 2)
    (hp : s.passed s.power.startMono 600000000000 = true) : exec .firmwareConfirm s = .next ({ s with out := [] } : State).fwConfirmed := by
  obtain ⟨v, hv⟩ : ∃ v : State, v = { s with out := [] } := ⟨_, rfl⟩
  have hcond : (v.flash.img v.flash.bootB).state = 2 ∧ (!(v.flag Reg.CMD_MON_STAT_RECOVERY)) = true
      ∧ v.passed v.power.startMono 600000000000 = true := by
    rw [hv, State.passed_fresh]
    refine ⟨h2, ?_, hp⟩
    show (!s.recovery) = true
    rw [hc]
    rfl
  show execFirmwareConfirm s = _
  rw [execFirmwareConfirm, onRun_eq hr, ← hv]
  simp only [if_pos hcond]
  rfl

/-- Settles O43, clause by clause: the verbs by what their actions answer on the state that has taken the packet, the events by the slot that they leave. -/
theorem firmwareSlotsFollowTheUpdate : Obligations.FirmwareSlotsFollowTheUpdate := by
  refine ⟨fun s r n hr hn hf hu => firmwareBegin_begins hr hn hf hu, fun s i b k h hb hi => firmwareBeginDone_ends h k hb hi,
    fun s r o d n hr hu hf ho hn => firmwareWrite_writes hr hu hf ho hn, ?_, ?_, fun s r n hr hu hf => firmwareCommit_begins hr hu hf,
    fun s i b n h hb hi => firmwareCommitDone_answers h hb hi, fun s r hr => firmwareAbort_ends hr,
    fun s r b hr hf hst hv => firmwareActivate_answers hr hf hst hv, ?_⟩
  · intro s r o d hr hu
    exact firmwareWrite_refused hr (actFwWrite_none (by rw [State.updateOf_taken]; exact hu))
  · intro s r o d hr hu hf
    obtain ⟨n, hn⟩ := Option.ne_none_iff_exists'.mp hu
    exact firmwareWrite_refused hr (actFwWrite_busy (n := n) (by rw [State.updateOf_taken]; exact hn)
      (by rw [State.flashBusy_taken]; exact State.flashBusy_held hf))
  · intro s hr hc h2 hp
    obtain ⟨v, hv⟩ : ∃ v : State, v = { s with out := [] } := ⟨_, rfl⟩
    obtain ⟨l, e⟩ := v.fwConfirmed_upd
    have hstate := v.fwConfirmed_state
    have hk := Keeps.fwConfirmed v
    have hx := firmwareConfirm_confirms hr hc h2 hp
    rw [← hv] at hx
    rw [e] at hx hstate hk
    rw [hv] at hx hstate hk
    exact ⟨_, hx, rfl, hstate, hk.fresh⟩

end Sys2Proof.Machine
end

section
/-! SUPPORT. Opening and closing a session, a gap in its sequence, progress and the bound of a long verb (R153, R154, R156, R172). -/

namespace Sys2Proof.Machine

open Sys2Proof

/-! ### Several fields written one after the other -/

/-- Values written to a list of fields. -/
def State.wrs (s : State) (l : List (Fld × Nat)) : State := l.foldl (fun t p => t.wr p.1 p.2) s

theorem State.wrs_upd (s : State) (l : List (Fld × Nat)) : ∃ r, s.wrs l = { s with regs := r } := by
  induction l generalizing s with
  | nil => exact ⟨s.regs, rfl⟩
  | cons p l ih =>
    obtain ⟨r, e⟩ := ih (s.wr p.1 p.2)
    exact ⟨r, e⟩

theorem Keeps.wrs {s t : State} {fs : List Fld} (h : Keeps s t fs) {l : List (Fld × Nat)} (hl : ∀ p ∈ l, p.1 ∈ fs ∧ p.1.within) :
    Keeps s (t.wrs l) fs := by
  induction l generalizing t with
  | nil => exact h
  | cons p l ih =>
    obtain ⟨hm, hw⟩ := hl p List.mem_cons_self
    exact ih (h.wr _ hm hw) fun q hq => hl q (List.mem_cons_of_mem _ hq)

/-- Each field that shares no bit with those written after it reads what was written to it. -/
theorem State.rd_wrs {l : List (Fld × Nat)} (hw : ∀ p ∈ l, p.1.within) (ha : l.Pairwise fun p q => q.1.apart p.1) {p : Fld × Nat} (hp : p ∈ l)
    (s : State) : (s.wrs l).rd p.1 = p.2 % 2 ^ (p.1.msb - p.1.lsb + 1) := by
  induction l generalizing s with
  | nil => exact nomatch hp
  | cons q l ih =>
    obtain ⟨hq, ha⟩ := List.pairwise_cons.mp ha
    have hwl : ∀ p ∈ l, p.1.within := fun p hp => hw p (List.mem_cons_of_mem _ hp)
    rcases List.mem_cons.mp hp with rfl | hp
    · have hk : Keeps (s.wr p.1 p.2) (State.wrs (s.wr p.1 p.2) l) (l.map Prod.fst) :=
        (Keeps.refl _ _).wrs fun q hq => ⟨List.mem_map_of_mem hq, hwl q hq⟩
      refine (hk p.1 (hw p List.mem_cons_self) fun f hf => ?_).trans (State.rd_wr_same _ _ (hw p List.mem_cons_self))
      obtain ⟨r, hr, rfl⟩ := List.mem_map.mp hf
      exact hq r hr
    · exact ih hwl ha hp (s.wr q.1 q.2)

/-! ### A session opens (R153) -/

/-- The fields with which a session's opening shows it. -/
def openedFlds (i : Fin 4) (x : Source) : List (Fld × Nat) :=
  [(Reg.CMD_SESSION_OPEN i, 1), (Reg.CMD_SESSION_PATH i, x.path.index), (Reg.CMD_SESSION_BASE_SEQ i, 1),
   (Reg.CMD_SESSION_SOURCE_IP i, x.ip.toNat), (Reg.CMD_SESSION_SOURCE_PORT i, x.port.toNat), (Reg.CMD_SESSION_GAP_COUNT i, 0),
   (Reg.CMD_SESSION_ACCEPTED i, 0), (Reg.CMD_SESSION_DUPLICATE i, 0)]

theorem openFlds_within : ∀ i : Fin 4, ∀ f ∈ openFlds i, f.within := by decide
theorem sessionFlds_openFlds (i : Fin 4) : ∀ f ∈ sessionFlds i, f ∈ openFlds i := fun _ h => List.mem_append_left _ h

theorem openedFlds_openFlds (i : Fin 4) (x : Source) : ∀ p ∈ openedFlds i x, p.1 ∈ openFlds i := by
  simp [openedFlds, openFlds, sessionFlds]

theorem openedFlds_within (i : Fin 4) (x : Source) : ∀ p ∈ openedFlds i x, p.1.within :=
  fun p hp => openFlds_within i _ (openedFlds_openFlds i x p hp)

/-- The fields themselves do not overlap. -/
theorem openedFlds_apart (i : Fin 4) (x : Source) : (openedFlds i x).Pairwise fun p q => q.1.apart p.1 := by
  have h : ∀ i : Fin 4, [Reg.CMD_SESSION_OPEN i, Reg.CMD_SESSION_PATH i, Reg.CMD_SESSION_BASE_SEQ i, Reg.CMD_SESSION_SOURCE_IP i,
    Reg.CMD_SESSION_SOURCE_PORT i, Reg.CMD_SESSION_GAP_COUNT i, Reg.CMD_SESSION_ACCEPTED i, Reg.CMD_SESSION_DUPLICATE i].Pairwise
      fun f g => g.apart f := by decide
  exact (List.pairwise_map (f := Prod.fst) (l := openedFlds i x) (R := fun f g : Fld => g.apart f)).mp (h i)

/-- Nor does TX_FRAMES of a port overlap them. -/
theorem openedFlds_ports (i : Fin 4) (x : Source) {p : Fld × Nat} (hp : p ∈ openedFlds i x) :
    ∀ f ∈ [Reg.ETH_STAT_TX_FRAMES 0, Reg.ETH_STAT_TX_FRAMES 1], f.apart p.1 := by
  have h : ∀ i : Fin 4, ∀ g ∈ [Reg.CMD_SESSION_OPEN i, Reg.CMD_SESSION_PATH i, Reg.CMD_SESSION_BASE_SEQ i, Reg.CMD_SESSION_SOURCE_IP i,
    Reg.CMD_SESSION_SOURCE_PORT i, Reg.CMD_SESSION_GAP_COUNT i, Reg.CMD_SESSION_ACCEPTED i, Reg.CMD_SESSION_DUPLICATE i],
      ∀ f ∈ [Reg.ETH_STAT_TX_FRAMES 0, Reg.ETH_STAT_TX_FRAMES 1], f.apart g := by decide
  exact h i p.1 (List.mem_map_of_mem (f := Prod.fst) hp)

section

variable (s : State) (i : Fin 4) (x : Source)

/-- The session that an opening leaves: new, but for what outlived the one before and what its porter is still to be told. -/
def openedSess : Session := { src := x, orphans := (s.sess i).orphans, tell := (s.sess i).tell }

theorem State.openSess_eq : s.openSess i x = (s.setSess i (openedSess s i x)).wrs (openedFlds i x) := rfl

theorem State.openSess_upd : ∃ l y, s.openSess i x = { s with regs := l, ses := y } := by
  obtain ⟨l, e⟩ := (s.setSess i (openedSess s i x)).wrs_upd (openedFlds i x)
  rw [State.openSess_eq, e]
  obtain ⟨l', y, e'⟩ := State.setSess_upd s i (openedSess s i x)
  rw [e']
  exact ⟨_, _, rfl⟩

theorem Keeps.openSess : Keeps s (s.openSess i x) (openFlds i) := by
  rw [State.openSess_eq]
  exact ((Keeps.refl s _).setSess _ (sessionFlds_openFlds i)).wrs fun p hp => ⟨openedFlds_openFlds i x p hp, openedFlds_within i x p hp⟩

theorem State.sess_wrs (t : State) (l : List (Fld × Nat)) (j : Fin 4) : (t.wrs l).sess j = t.sess j := by
  obtain ⟨r, e⟩ := t.wrs_upd l
  rw [e]
  rfl

theorem State.sess_openSess_same : (s.openSess i x).sess i = openedSess s i x := by
  rw [State.openSess_eq, State.sess_wrs, State.sess_setSess_same]

theorem State.sess_openSess_other {j : Fin 4} (hj : j ≠ i) : (s.openSess i x).sess j = s.sess j := by
  rw [State.openSess_eq, State.sess_wrs, State.sess_setSess_other _ _ hj]

theorem State.rd_openSess {p : Fld × Nat} (hp : p ∈ openedFlds i x) :
    (s.openSess i x).rd p.1 = p.2 % 2 ^ (p.1.msb - p.1.lsb + 1) :=
  State.rd_wrs (openedFlds_within i x) (openedFlds_apart i x) hp _

theorem Path.index_lt (p : Path) : p.index < 8 := by cases p <;> decide

/-- What a session that has opened shows. -/
theorem State.openSess_shows : (s.openSess i x).rd (Reg.CMD_SESSION_OPEN i) = 1 ∧ (s.openSess i x).baseSeq i = 1
    ∧ (s.openSess i x).rd (Reg.CMD_SESSION_PATH i) = x.path.index ∧ (s.openSess i x).rd (Reg.CMD_SESSION_SOURCE_IP i) = x.ip.toNat
    ∧ (s.openSess i x).rd (Reg.CMD_SESSION_SOURCE_PORT i) = x.port.toNat := by
  have hrd {f : Fld} {v : Nat} (hm : (f, v) ∈ openedFlds i x) (hlt : v < 2 ^ (f.msb - f.lsb + 1)) : (s.openSess i x).rd f = v :=
    (s.rd_openSess i x hm).trans (Nat.mod_eq_of_lt hlt)
  exact ⟨hrd (by simp [openedFlds]) (by decide : 1 < 2 ^ (31 - 31 + 1)), hrd (by simp [openedFlds]) (by decide : 1 < 2 ^ (31 - 0 + 1)),
    hrd (by simp [openedFlds]) x.path.index_lt, hrd (by simp [openedFlds]) x.ip.isLt, hrd (by simp [openedFlds]) x.port.isLt⟩

end

/-! ### Replies -/

/-- A final reply that a keeper sends to a source other than the monitor. -/
theorem State.sendReply_replied {s : State} {d : Source} (hk : s.isKeeper = true) (hp : d.path ≠ .mon) (h : Head) (st c : Nat) (p : List Byte)
    (k : Nat) :
    Replied (s.sendReply d { head := h, interim := false, status := st, credit := c, boot := s.boot16, stage := k, payload := p } false) d h st p k := by
  obtain ⟨hout, hkeep⟩ := State.sendReply_keeper
    { head := h, interim := false, status := st, credit := c, boot := s.boot16, stage := k, payload := p } hk hp
  refine ⟨c, ?_⟩
  have hboot : (s.sendReply d { head := h, interim := false, status := st, credit := c, boot := s.boot16, stage := k, payload := p } false).boot16
      = s.boot16 := congrArg (· % 65536) (hkeep _ (by decide) (by decide))
  rw [hboot]
  exact hout

/-- A packet that is not accepted is answered, and nothing else changes. -/
theorem State.refusePacket_replies {s : State} {d : Source} (hk : s.isKeeper = true) (hp : d.path ≠ .mon) (h : Head) (st c : Nat) :
    s.refusePacket d h st c = { s with regs := (s.refusePacket d h st c).regs, canTx := (s.refusePacket d h st c).canTx, out := (s.refusePacket d h st c).out }
      ∧ Replied (s.refusePacket d h st c) d h st [] s.stage
      ∧ Keeps s (s.refusePacket d h st c) [Reg.ETH_STAT_TX_FRAMES 0, Reg.ETH_STAT_TX_FRAMES 1] := by
  obtain ⟨r, hr⟩ : ∃ r : Reply, r = { head := h, interim := false, status := st, credit := c, boot := s.boot16, stage := s.stage, payload := [] } := ⟨_, rfl⟩
  have he : s.refusePacket d h st c = s.sendReply d r false := by rw [hr]; rfl
  obtain ⟨l, x, o, e⟩ := s.sendReply_upd r hp
  obtain ⟨-, hkeep⟩ := State.sendReply_keeper r hk hp
  have hrep : Replied (s.sendReply d r false) d h st [] s.stage := by rw [hr]; exact State.sendReply_replied hk hp h st c [] s.stage
  rw [he]
  exact ⟨by rw [e], hrep, hkeep⟩

/-! ### The clauses of opening -/

/-- The head of an OPEN packet. -/
def openHead (i : Fin 4) : Head := { session := i, seq := 0, verb := Verb.ECHO, mood := 1, base := 0, flags := flagOpen }

theorem openHead_session (i : Fin 4) : Fin.ofNat 4 (openHead i).session = i := Fin.ofNat_val_eq_self i

section

variable {s : State} {i : Fin 4} {x : Source}

/-- A keeper's note of an OPEN for its porter. -/
theorem State.mirrorBytes_upd (s : State) (n : Nat) (b : List Byte) : ∃ l, s.mirrorBytes n b = { s with duo := { s.duo with cmds := l } }
    ∧ (s.mirrors = false → l = s.duo.cmds) ∧ (s.mirrors = true → l.length = s.duo.cmds.length + 1) := by
  unfold State.mirrorBytes
  cases h : s.mirrors with
  | true => exact ⟨s.duo.cmds ++ [(n, b)], rfl, nofun, fun _ => List.length_append⟩
  | false => exact ⟨s.duo.cmds, rfl, fun _ => rfl, nofun⟩

/-- An OPEN that is taken of an index that is not open. -/
theorem State.takeOpen_free (p : List Byte) (ho : s.isOpen i = false) : ∃ b, s.takeOpen x (openHead i) p
    = ((s.openSess i x).mirrorBytes i b).sendReply x
        { head := openHead i, interim := false, status := Status.OK, credit := 64, boot := ((s.openSess i x).mirrorBytes i b).boot16,
          stage := ((s.openSess i x).mirrorBytes i b).stage, payload := p } false := by
  have hclose : s.closeSess i = s := by
    unfold State.closeSess
    rw [ho]
    rfl
  unfold State.takeOpen
  dsimp only
  rw [openHead_session, ho, hclose]
  exact ⟨_, rfl⟩

theorem State.takeOpen_busy (p : List Byte) (ho : s.isOpen i = true) (hx : (s.sess i).src ≠ x) (hi : (s.sess i).idleNs < s.idleLimitNs) :
    s.takeOpen x (openHead i) p = s.refusePacket x (openHead i) Status.SESSION_BUSY 0 := by
  unfold State.takeOpen
  dsimp only
  rw [openHead_session, if_pos (by rw [ho, decide_eq_true hi]; simp [hx])]

theorem sessionOpen_takes (p : List Byte) (hr : s.running = true) (hp : s.pathOn x.path = true) :
    exec (.sessionOpen i x p) s = .next (({ s with out := [] } : State).takeOpen x (openHead i) p) := by
  have hp' : ({ s with out := [] } : State).pathOn x.path = true := hp
  show execSessionOpen i x p s = _
  rw [execSessionOpen, onRun_eq hr]
  simp only [hp', if_true]
  rfl

theorem sessionOpen_opens (p : List Byte) (hr : s.running = true) (hk : s.isKeeper = true) (hp : s.pathOn x.path = true) (hm : x.path ≠ .mon)
    (ho : s.isOpen i = false) :
    ∃ t, exec (.sessionOpen i x p) s = .next t
      ∧ t = { s with regs := t.regs, ses := t.ses, canTx := t.canTx, out := t.out, duo := { s.duo with cmds := t.duo.cmds } }
      ∧ (s.mirrors = false → t.duo.cmds = s.duo.cmds) ∧ (s.mirrors = true → t.duo.cmds.length = s.duo.cmds.length + 1)
      ∧ t.isOpen i = true ∧ t.sess i = openedSess s i x ∧ t.baseSeq i = 1
      ∧ t.rd (Reg.CMD_SESSION_PATH i) = x.path.index ∧ t.rd (Reg.CMD_SESSION_SOURCE_IP i) = x.ip.toNat
      ∧ t.rd (Reg.CMD_SESSION_SOURCE_PORT i) = x.port.toNat ∧ (∀ j : Fin 4, j ≠ i → t.sess j = s.sess j)
      ∧ Replied t x (openHead i) Status.OK p s.stage ∧ Keeps s t (openFlds i) := by
  obtain ⟨v, hv⟩ : ∃ v : State, v = { s with out := [] } := ⟨_, rfl⟩
  obtain ⟨b, hb⟩ := State.takeOpen_free (s := v) (i := i) (x := x) p (by rw [hv]; exact ho)
  have hexec := sessionOpen_takes (i := i) p hr hp
  rw [← hv, hb] at hexec
  obtain ⟨u, hu⟩ : ∃ u : State, u = v.openSess i x := ⟨_, rfl⟩
  rw [← hu] at hexec
  obtain ⟨l, y, hopen⟩ := v.openSess_upd i x
  obtain ⟨hflag, hbase, hpath, hip, hport⟩ := v.openSess_shows i x
  have hself := v.sess_openSess_same i x
  have hother {j : Fin 4} (hj : j ≠ i) := v.sess_openSess_other i x hj
  have hku : Keeps v u (openFlds i) := hu ▸ Keeps.openSess v i x
  rw [← hu] at hopen hflag hbase hpath hip hport hself
  simp only [← hu] at hother
  obtain ⟨cs, hmir, hkept, hmore⟩ := u.mirrorBytes_upd i b
  obtain ⟨w, hw⟩ : ∃ w : State, w = u.mirrorBytes i b := ⟨_, rfl⟩
  rw [← hw] at hexec hmir
  have hmirrors : u.mirrors = s.mirrors := by
    unfold State.mirrors
    rw [hopen, hv]
  have hcmds : u.duo.cmds = s.duo.cmds := by rw [hopen, hv]
  have hkw : w.isKeeper = true := by
    unfold State.isKeeper
    rw [hmir, hopen, hv]
    exact hk
  have hregs : w.regs = u.regs := by rw [hmir]
  have hstage : w.stage = s.stage := ((Keeps.of_regs (t := w) hregs _).stage (fs := []) (fun _ h => nomatch h)).trans
    ((hku.stage ((by decide : ∀ i : Fin 4, ∀ f ∈ openFlds i, f.addr ≠ 0x01001000 ∧ f.addr ≠ 0x01001004) i)).trans (by rw [hv]; rfl))
  obtain ⟨r, hr'⟩ : ∃ r : Reply, r = { head := openHead i, interim := false, status := Status.OK, credit := 64, boot := w.boot16, stage := w.stage, payload := p } := ⟨_, rfl⟩
  have hrep : Replied (w.sendReply x r false) x (openHead i) Status.OK p s.stage := by
    rw [hr', ← hstage]
    exact State.sendReply_replied hkw hm _ _ _ _ _
  obtain ⟨-, hsent⟩ := State.sendReply_keeper r hkw hm
  obtain ⟨l', c, o, hsend⟩ := w.sendReply_upd r hm
  obtain ⟨t, ht⟩ : ∃ t : State, t = w.sendReply x r false := ⟨_, rfl⟩
  rw [← hr', ← ht] at hexec
  rw [← ht] at hrep hsent hsend
  have hshows {f : Fld} (hf : f ∈ (openedFlds i x).map Prod.fst) : t.rd f = u.rd f := by
    obtain ⟨q, hq, rfl⟩ := List.mem_map.mp hf
    exact (hsent _ (openedFlds_within i x q hq) (openedFlds_ports i x hq)).trans (State.rd_congr hregs _)
  have hduo : t.duo = { s.duo with cmds := cs } := by rw [hsend, hmir, hopen, hv]
  have hses (j : Fin 4) : t.sess j = u.sess j := by
    unfold State.sess
    rw [hsend, hmir]
  have hmem {f : Fld} {n : Nat} (hm : (f, n) ∈ openedFlds i x) : f ∈ (openedFlds i x).map Prod.fst := List.mem_map.mpr ⟨_, hm, rfl⟩
  refine ⟨t, hexec, ?_, ?_, ?_, ?_, ?_, ?_, ?_, ?_, ?_, fun j hj => ?_, hrep, ?_⟩
  · rw [hduo]
    rw [hsend, hmir, hopen, hv]
  · rw [hduo, ← hmirrors]
    exact fun h => (hkept h).trans hcmds
  · rw [hduo, ← hmirrors]
    exact fun h => (hmore h).trans (by rw [hcmds])
  · unfold State.isOpen State.flag
    rw [hshows (hmem (n := 1) (by simp [openedFlds])), hflag]
    rfl
  · rw [hses, hself, hv]
    rfl
  · exact (hshows (hmem (n := 1) (by simp [openedFlds]))).trans hbase
  · rw [hshows (hmem (n := x.path.index) (by simp [openedFlds])), hpath]
  · rw [hshows (hmem (n := x.ip.toNat) (by simp [openedFlds])), hip]
  · rw [hshows (hmem (n := x.port.toNat) (by simp [openedFlds])), hport]
  · rw [hses, hother hj, hv]
    rfl
  · have hkv : Keeps s v (openFlds i) := Keeps.of_regs (by rw [hv]) _
    exact ((hkv.trans hku).congr hregs).trans (hsent.mono (by simp [openFlds, sessionFlds]))

theorem sessionOpen_busy (p : List Byte) (hr : s.running = true) (hk : s.isKeeper = true) (hp : s.pathOn x.path = true) (hm : x.path ≠ .mon)
    (ho : s.isOpen i = true) (hx : (s.sess i).src ≠ x) (hi : (s.sess i).idleNs < s.idleLimitNs) :
    ∃ t, exec (.sessionOpen i x p) s = .next t ∧ t = { s with regs := t.regs, canTx := t.canTx, out := t.out }
      ∧ Replied t x (openHead i) Status.SESSION_BUSY [] s.stage
      ∧ Keeps s t [Reg.ETH_STAT_TX_FRAMES 0, Reg.ETH_STAT_TX_FRAMES 1] := by
  obtain ⟨v, hv⟩ : ∃ v : State, v = { s with out := [] } := ⟨_, rfl⟩
  have hexec := sessionOpen_takes (i := i) p hr hp
  rw [← hv, State.takeOpen_busy p (by rw [hv]; exact ho) (by rw [hv]; exact hx) (by rw [hv]; exact hi)] at hexec
  obtain ⟨hupd, hrep, hkeep⟩ := State.refusePacket_replies (s := v) (by rw [hv]; exact hk) hm (openHead i) Status.SESSION_BUSY 0
  obtain ⟨t, ht⟩ : ∃ t : State, t = v.refusePacket x (openHead i) Status.SESSION_BUSY 0 := ⟨_, rfl⟩
  rw [← ht] at hexec hupd hrep hkeep
  have hstage : v.stage = s.stage := by rw [hv]; rfl
  refine ⟨t, hexec, ?_, hstage ▸ hrep, (Keeps.of_regs (t := v) (by rw [hv]) _).trans hkeep⟩
  rw [hv] at hupd
  exact hupd

end

/-! ### A session closes (R154) -/

/-- The session that a closing leaves. -/
def closedSess (s : State) (i : Fin 4) : Session := { src := (s.sess i).src, orphans := (s.sess i).orphans, tell := (s.sess i).tell }

/-- A session's closing aborts a firmware update of its own. -/
def State.updateAborted (s : State) (i : Fin 4) : Option (Fin 4 × Nat) :=
  if s.sto.update.any (fun p => p.1 == i) then none else s.sto.update

section

variable {s : State} {i : Fin 4}

/-- A session that has nothing outstanding closes. -/
theorem State.closeSess_idle (ho : s.isOpen i = true) (hw : (s.sess i).waiting = []) (hd : (s.sess i).due = none) (hb : (s.sess i).busy = none) :
    s.closeSess i
      = (({ s with sto := { s.sto with update := s.updateAborted i } } : State).setSess i (closedSess s i)).wr (Reg.CMD_SESSION_OPEN i) 0 := by
  have hflush : State.flushSeqs 64 i Status.SESSION_CLOSED false s = s := by
    unfold State.flushSeqs
    simp only [hw, assocGet, if_true]
  have hsto : (if s.sto.update.any (fun p => p.1 == i) then { s with sto := { s.sto with update := none } } else s)
      = ({ s with sto := { s.sto with update := s.updateAborted i } } : State) := by
    unfold State.updateAborted
    split <;> rfl
  unfold State.closeSess
  simp only [ho, hd, hb, hflush, hsto, Bool.not_true, Bool.false_eq_true, if_false]
  rfl

/-- What a closed session leaves: its index is free again, and nothing else of the command path has changed. -/
theorem State.closeSess_shows (ho : s.isOpen i = true) (hw : (s.sess i).waiting = []) (hd : (s.sess i).due = none) (hb : (s.sess i).busy = none) :
    (∃ l x, s.closeSess i = { s with regs := l, ses := x, sto := { s.sto with update := s.updateAborted i } })
      ∧ (s.closeSess i).isOpen i = false ∧ (s.closeSess i).sess i = closedSess s i
      ∧ (∀ j : Fin 4, j ≠ i → (s.closeSess i).sess j = s.sess j) ∧ Keeps s (s.closeSess i) (openFlds i) := by
  obtain ⟨u, hu⟩ : ∃ u : State, u = { s with sto := { s.sto with update := s.updateAborted i } } := ⟨_, rfl⟩
  have hmem : ∀ i : Fin 4, Reg.CMD_SESSION_OPEN i ∈ openFlds i := by decide
  have hin : (Reg.CMD_SESSION_OPEN i).within := openFlds_within i _ (hmem i)
  have hses (j : Fin 4) : u.sess j = s.sess j := by rw [hu]; rfl
  rw [State.closeSess_idle ho hw hd hb, ← hu]
  obtain ⟨l, x, e⟩ := State.setSess_upd u i (closedSess s i)
  refine ⟨?_, ?_, ?_, fun j hj => ?_, ?_⟩
  · obtain ⟨l', e'⟩ : ∃ l', (u.setSess i (closedSess s i)).wr (Reg.CMD_SESSION_OPEN i) 0 = { u.setSess i (closedSess s i) with regs := l' } := ⟨_, rfl⟩
    refine ⟨l', x, ?_⟩
    rw [e', e, hu]
  · unfold State.isOpen State.flag
    rw [State.rd_wr_same _ _ hin]
    rfl
  · rw [State.sess_wr, State.sess_setSess_same]
  · rw [State.sess_wr, State.sess_setSess_other _ _ hj, hses]
  · have hk : Keeps s u (openFlds i) := Keeps.of_regs (by rw [hu]) _
    exact (hk.setSess _ (sessionFlds_openFlds i)).wr 0 (hmem i) hin

theorem Session.outstanding_none {x : Session} (h : x.outstanding = 0) : x.waiting = [] ∧ x.due = none ∧ x.busy = none := by
  obtain ⟨hwait, hrest⟩ : x.waiting.length = 0 ∧ x.due.isSome = false ∧ x.busy.isSome = false := by
    unfold Session.outstanding at h
    cases hd : x.due.isSome <;> cases hb : x.busy.isSome <;> simp [hd, hb] at h ⊢
    exact h
  exact ⟨List.length_eq_zero_iff.mp hwait, Option.isSome_eq_false_iff.mp hrest.1 |> Option.isNone_iff_eq_none.mp,
    Option.isSome_eq_false_iff.mp hrest.2 |> Option.isNone_iff_eq_none.mp⟩

theorem sessionIdleTimeout_closes (hr : s.running = true) (ho : s.isOpen i = true) (hn : (s.sess i).outstanding = 0)
    (hi : s.idleLimitNs ≤ (s.sess i).idleNs) :
    ∃ t, exec (.sessionIdleTimeout i) s = .next t ∧ t = { s with regs := t.regs, ses := t.ses, sto := t.sto, out := [] }
      ∧ t.isOpen i = false ∧ t.sess i = closedSess s i ∧ (∀ j : Fin 4, j ≠ i → t.sess j = s.sess j)
      ∧ t.sto = { s.sto with update := s.updateAborted i } ∧ Keeps s t (openFlds i) := by
  obtain ⟨v, hv⟩ : ∃ v : State, v = { s with out := [] } := ⟨_, rfl⟩
  have hses (j : Fin 4) : v.sess j = s.sess j := by rw [hv]; rfl
  have hlim : v.idleLimitNs = s.idleLimitNs := by rw [hv]; rfl
  obtain ⟨hw, hd, hb⟩ := Session.outstanding_none hn
  have hexec : exec (.sessionIdleTimeout i) s = .next (v.closeSess i) := by
    show execSessionIdleTimeout i s = _
    rw [execSessionIdleTimeout, onRun_eq hr, ← hv, if_pos (by rw [hses, hlim]; exact ⟨hn, hi⟩)]
  obtain ⟨⟨l, x, hupd⟩, hclosed, hself, hother, hkeep⟩ :=
    State.closeSess_shows (s := v) (i := i) (by rw [hv]; exact ho) (by rw [hses]; exact hw) (by rw [hses]; exact hd) (by rw [hses]; exact hb)
  refine ⟨_, hexec, ?_, hclosed, hself.trans ?_, fun j hj => (hother j hj).trans (hses j), ?_, (Keeps.of_regs (t := v) (by rw [hv]) _).trans hkeep⟩
  · rw [hupd, hv]
  · unfold closedSess
    rw [hses]
  · rw [hupd, hv]
    rfl

theorem sessionIdleTimeout_leaves (hr : s.running = true) (h : (s.sess i).outstanding ≠ 0 ∨ (s.sess i).idleNs < s.idleLimitNs) :
    exec (.sessionIdleTimeout i) s = .next { s with out := [] } := by
  have hc : ¬ ((({ s with out := [] } : State).sess i).outstanding = 0 ∧ ({ s with out := [] } : State).idleLimitNs ≤ (({ s with out := [] } : State).sess i).idleNs) := by
    show ¬ ((s.sess i).outstanding = 0 ∧ s.idleLimitNs ≤ (s.sess i).idleNs)
    omega
  show execSessionIdleTimeout i s = _
  rw [execSessionIdleTimeout, onRun_eq hr]
  simp only [if_neg hc]

end

/-! ### The clause of SESSION_CLOSE -/

section

variable {s : State} {r : Req} (hr : Ready s r Verb.ECHO) (p : List Byte)
include hr

/-- A ready CLOSE: its reply goes first, and then the session closes. -/
theorem sessionClose_runs : exec (.sessionClose r p) s = .next ((((s.taken r).complete r.session (headAt s r Verb.ECHO flagClose) Status.OK p
      (s.taken r).stage).closeSess r.session).mirrorCmd r.session (headAt s r Verb.ECHO flagClose) r.mood (.sessionClose r p)) := by
  obtain ⟨hrun, hk, ho, hw, hd, hb, hp, hnow, hmir, hrec, hlc, hch⟩ := hr
  have ho' : ({ s with out := [] } : State).isOpen r.session = true := ho
  have hch' : ({ s with out := [] } : State).chosen r.session = true := hch
  have hw' : (({ s with out := [] } : State).sess r.session).waiting = [] := hw
  have hd' : (({ s with out := [] } : State).sess r.session).due = none := hd
  have hb' : (({ s with out := [] } : State).sess r.session).busy = none := hb
  show execSessionClose r p s = _
  rw [execSessionClose, onRun_eq hrun]
  simp only [ho', hch', hw', hd', hb', assocGet, hmir, hnow, Option.isSome_none, Bool.or_false, Bool.not_true, Bool.false_and, Bool.false_eq_true,
    if_false, if_true]
  rfl

theorem sessionClose_closes :
    ∃ t, exec (.sessionClose r p) s = .next t ∧ t = { s with regs := t.regs, ses := t.ses, turn := r.session, canTx := t.canTx, sto := t.sto, out := t.out }
      ∧ t.isOpen r.session = false ∧ t.sess r.session = { src := (s.sess r.session).src, orphans := (s.sess r.session).orphans, tell := (t.sess r.session).tell }
      ∧ (s.mirrors = false → (t.sess r.session).tell = (s.sess r.session).tell)
      ∧ (∀ j : Fin 4, j ≠ r.session → t.sess j = s.sess j)
      ∧ Replied t (s.sess r.session).src (headAt s r Verb.ECHO flagClose) Status.OK p s.stage ∧ Keeps s t (openFlds r.session) := by
  obtain ⟨h, hh⟩ : ∃ h : Head, h = headAt s r Verb.ECHO flagClose := ⟨_, rfl⟩
  have hexec := sessionClose_runs hr p
  obtain ⟨v, hv⟩ : ∃ v : State, v = s.taken r := ⟨_, rfl⟩
  have hserves : Serves s r.session v := hr.serves (by rw [hv]) (by rw [hv])
  have hself : v.sess r.session = { s.sess r.session with idleNs := 0 } := by rw [hv, State.sess_taken_same]
  have hkt : Keeps s v (sessionFlds r.session) := hv ▸ Keeps.taken s r
  have hupdv : ∃ l x, v = { s with regs := l, ses := x, out := [], turn := r.session } := hv ▸ State.taken_upd s r
  have hstage : v.stage = s.stage := by rw [hv, State.stage_taken]
  rw [← hv, ← hh] at hexec
  obtain ⟨hupd, hkeeps, -⟩ := State.complete_afterReply h Status.OK p v.stage hserves.keeper (by rw [hserves.src]; exact hr.notMonitor)
  obtain ⟨-, hrep⟩ := State.complete_replies h Status.OK p v.stage hserves.keeper (by rw [hserves.src]; exact hr.notMonitor)
  obtain ⟨c, hc⟩ := State.sess_complete_same v r.session h Status.OK p v.stage false
  have hco (j : Fin 4) (hj : j ≠ r.session) := State.sess_complete_other v h Status.OK p v.stage false hj
  obtain ⟨u, hu⟩ : ∃ u : State, u = v.complete r.session h Status.OK p v.stage := ⟨_, rfl⟩
  rw [← hu] at hexec hupd hkeeps hrep hc
  simp only [← hu] at hco
  rw [hself] at hc
  obtain ⟨-, -, ho, hw, hd, hb, -⟩ := hr
  have hopen : u.isOpen r.session = true := by
    have hf : ∀ i : Fin 4, (Reg.CMD_SESSION_OPEN i).within ∧ ∀ f ∈ sessionFlds i, f.apart (Reg.CMD_SESSION_OPEN i) := by decide
    obtain ⟨hin, hap⟩ := hf r.session
    exact (State.flag_congr ((hkt.trans hkeeps) _ hin hap)).trans ho
  obtain ⟨⟨l, y, hclo⟩, hclosed, hcs, hcother, hck⟩ :=
    State.closeSess_shows (s := u) (i := r.session) hopen (by rw [hc]; exact hw) (by rw [hc]; exact hd) (by rw [hc]; exact hb)
  obtain ⟨w, hw'⟩ : ∃ w : State, w = u.closeSess r.session := ⟨_, rfl⟩
  rw [← hw'] at hexec hclo hclosed hcs hck
  simp only [← hw'] at hcother
  have hsess : w.sess r.session = closedSess s r.session := by
    rw [hcs]
    unfold closedSess
    rw [hc]
  have hupdw : w = { s with regs := w.regs, ses := w.ses, out := w.out, canTx := w.canTx, sto := w.sto, turn := r.session } := by
    obtain ⟨l', x', e⟩ := hupdv
    rw [e] at hupd
    rw [hclo, hupd]
  have hduo : w.duo = s.duo := by rw [hupdw]
  have hrepw : Replied w (s.sess r.session).src h Status.OK p s.stage := by
    obtain ⟨n, hn⟩ := hrep
    rw [hself, hstage] at hn
    have hout : w.out = u.out := by rw [hclo]
    have hboot : w.boot16 = u.boot16 :=
      congrArg (· % 65536) (hck _ (by decide) ((by decide : ∀ i : Fin 4, ∀ f ∈ openFlds i, f.apart Reg.ID_BOOT_COUNT_COUNT) r.session))
    exact ⟨n, by rw [hout, hboot]; exact hn⟩
  have hkw : Keeps s w (openFlds r.session) := ((hkt.trans hkeeps).mono (sessionFlds_openFlds _)).trans hck
  have hquiet : s.mirrors = false → w.mirrorCmd r.session h r.mood (.sessionClose r p) = w := by
    intro hm
    unfold State.mirrorCmd
    rw [show w.mirrors = s.mirrors by unfold State.mirrors; rw [hduo], hm]
    rfl
  obtain ⟨m, hm⟩ := w.mirrorCmd_upd r.session h r.mood (.sessionClose r p)
  obtain ⟨m', hms⟩ := w.sess_mirrorCmd_same r.session h r.mood (.sessionClose r p)
  have hmo (j : Fin 4) (hj : j ≠ r.session) := w.sess_mirrorCmd_other h r.mood (.sessionClose r p) hj
  obtain ⟨t, ht⟩ : ∃ t : State, t = w.mirrorCmd r.session h r.mood (.sessionClose r p) := ⟨_, rfl⟩
  rw [← ht] at hexec hm hms hquiet
  simp only [← ht] at hmo
  have hregs : t.regs = w.regs := by rw [hm]
  rw [hsess] at hms
  rw [← hh]
  refine ⟨t, hexec, ?_, ?_, by rw [hms]; rfl, fun hs => ?_, fun j hj => ?_, ?_, hkw.congr hregs⟩
  · rw [hm, hupdw]
  · exact (State.flag_congr (State.rd_congr hregs _)).trans hclosed
  · rw [hquiet hs, hsess]
    rfl
  · obtain ⟨-, -, -, hothers⟩ := hserves
    rw [hmo j hj, hcother j hj, hco j hj, hothers j hj]
  · obtain ⟨n, hn⟩ := hrepw
    exact ⟨n, by rw [hm]; exact hn⟩

end

/-! ### A gap in the sequence (R156) -/

/-- What the completion of a keeper's command leaves, for a source that is not the monitor's. -/
structure CompletedBy (i : Fin 4) (h : Head) (st : Nat) (u t : State) : Prop where
  upd : t = { u with regs := t.regs, ses := t.ses, canTx := t.canTx, out := t.out }
  keeps : Keeps u t (sessionFlds i)
  base : t.baseSeq i = (h.seq + 1) % 2 ^ 32
  replied : Replied t (u.sess i).src h st [] u.stage
  same : ∃ c, t.sess i = { u.sess i with cache := c }
  others : ∀ j : Fin 4, j ≠ i → t.sess j = u.sess j
  out : ∀ o ∈ u.out, o ∈ t.out

theorem State.out_sendReply {s : State} {d : Source} (r : Reply) (hp : d.path ≠ .mon) {o : Out} (ho : o ∈ s.out) :
    o ∈ (s.sendReply d r false).out := by
  have hput : o ∈ (s.put (.reply d r)).out := List.mem_append_left _ ho
  unfold State.sendReply
  split
  case isTrue => exact ho
  case isFalse =>
    simp only
    cases hd : d.path with
    | mon => exact absurd hd hp
    | cana => exact hput
    | canb => exact hput
    | etha => simp only; split <;> exact hput
    | ethb => simp only; split <;> exact hput

theorem State.complete_by {u : State} {i : Fin 4} (h : Head) (st : Nat) (hk : u.isKeeper = true) (hp : (u.sess i).src.path ≠ .mon) :
    CompletedBy i h st u (u.complete i h st [] u.stage) := by
  obtain ⟨hupd, hkeeps, -⟩ := State.complete_afterReply h st [] u.stage hk hp
  obtain ⟨hbase, hrep⟩ := State.complete_replies h st [] u.stage hk hp
  refine ⟨hupd, hkeeps, hbase, hrep, State.sess_complete_same u i h st [] u.stage false, fun j hj => State.sess_complete_other u h st [] u.stage false hj,
    fun o ho => ?_⟩
  obtain ⟨v, x, r, hv, hc⟩ : ∃ (v : State) (x : Session) (r : Reply), v = u.wr (Reg.CMD_SESSION_BASE_SEQ i) (h.seq + 1)
      ∧ u.complete i h st [] u.stage = (v.setSess i x).sendReply (u.sess i).src r false := ⟨_, _, _, rfl, rfl⟩
  rw [hc]
  refine State.out_sendReply r hp ?_
  rw [hv]
  exact ho

theorem State.stage_setSess (s : State) (i : Fin 4) (x : Session) : (s.setSess i x).stage = s.stage :=
  ((Keeps.refl s (sessionFlds i)).setSess x fun _ h => h).stage (sessionFlds_stage i)

section

variable {u : State} {i : Fin 4} (n : Nat) (st : Nat)

theorem State.flushSeqs_idle (gaps : Bool) (hw : (u.sess i).waiting = []) : State.flushSeqs n i st gaps u = u := by
  cases n with
  | zero => rfl
  | succ n =>
    unfold State.flushSeqs
    simp only [hw, assocGet, if_true]

/-- The head with which a missing sequence completes (R156). -/
def missingHead (i : Fin 4) (q : Nat) : Head := { session := i, seq := q, verb := 0, mood := 0, base := 0, flags := 0 }

theorem State.flushSeqs_missing (hb : assocGet (u.sess i).waiting (u.baseSeq i) = none) (hw : (u.sess i).waiting ≠ []) :
    State.flushSeqs (n + 1) i st true u = State.flushSeqs n i st true (u.complete i (missingHead i (u.baseSeq i)) st [] u.stage) := by
  conv => lhs; unfold State.flushSeqs
  simp only [hb, if_neg hw, if_true]
  rfl

theorem State.flushSeqs_waiting {h : Head} {c : Instr} (gaps : Bool) (hb : assocGet (u.sess i).waiting (u.baseSeq i) = some (.cmd h c)) :
    State.flushSeqs (n + 1) i st gaps u = State.flushSeqs n i st gaps
      ((u.setSess i { u.sess i with waiting := assocErase (u.sess i).waiting (u.baseSeq i) }).complete i h st [] u.stage) := by
  conv => lhs; unfold State.flushSeqs
  simp only [hb]

end

section

variable {s : State} {i : Fin 4} {h : Head} {c : Instr}

/-- The missing sequence and the one command that waits behind it complete, one after the other. -/
theorem State.flushSeqs_gap (hk : s.isKeeper = true) (hp : (s.sess i).src.path ≠ .mon) (hseq : h.seq = (s.baseSeq i + 1) % 2 ^ 32)
    (hw : (s.sess i).waiting = [(h.seq, .cmd h c)]) (st : Nat) :
    ∃ a b, State.flushSeqs 64 i st true s = b ∧ CompletedBy i (missingHead i (s.baseSeq i)) st s a
      ∧ CompletedBy i h st (a.setSess i { a.sess i with waiting := [] }) b := by
  have hne : s.baseSeq i ≠ h.seq := by
    have hlt : s.baseSeq i < 2 ^ 32 := s.rd_lt _
    omega
  have hmiss : assocGet (s.sess i).waiting (s.baseSeq i) = none := by
    rw [hw]
    simp [assocGet, hne.symm]
  have ha := State.complete_by (missingHead i (s.baseSeq i)) st hk hp
  obtain ⟨a, hae⟩ : ∃ a : State, a = s.complete i (missingHead i (s.baseSeq i)) st [] s.stage := ⟨_, rfl⟩
  rw [← hae] at ha
  obtain ⟨d, hself⟩ := ha.same
  have hbase : a.baseSeq i = h.seq := by rw [ha.base, hseq]; rfl
  have hwait : (a.sess i).waiting = [(h.seq, .cmd h c)] := by rw [hself]; exact hw
  have hfound : assocGet (a.sess i).waiting (a.baseSeq i) = some (.cmd h c) := by
    rw [hwait, hbase]
    simp [assocGet]
  have herase : assocErase (a.sess i).waiting (a.baseSeq i) = [] := by
    rw [hwait, hbase]
    simp [assocErase]
  obtain ⟨v, hv⟩ : ∃ v : State, v = a.setSess i { a.sess i with waiting := [] } := ⟨_, rfl⟩
  have hvs : v.sess i = { a.sess i with waiting := [] } := by rw [hv, State.sess_setSess_same]
  have hkv : v.isKeeper = true := by
    have hduo : v.duo = s.duo := by rw [hv, State.setSess_duo, ha.upd]
    unfold State.isKeeper
    rw [hduo]
    exact hk
  have hb := State.complete_by h st hkv (i := i) (by rw [hvs, hself]; exact hp)
  obtain ⟨e, hlast⟩ := hb.same
  refine ⟨a, _, ?_, ha, hv ▸ hb⟩
  rw [State.flushSeqs_missing 63 st hmiss (by rw [hw]; exact List.cons_ne_nil _ _), ← hae, State.flushSeqs_waiting 62 st true hfound, herase, ← hv,
    State.flushSeqs_idle 62 st true (by rw [show a.stage = v.stage by rw [hv, State.stage_setSess], hlast, hvs]), hv, State.stage_setSess]

end

/-! ### The clauses of a gap, progress and the bound -/

/-- The fields of a gap's count and of the boot count are in no session's way. -/
theorem gapFlds_facts : ∀ i : Fin 4, Reg.CMD_SESSION_GAP_COUNT i ∈ openFlds i ∧ (Reg.CMD_SESSION_GAP_COUNT i).within
    ∧ (∀ f ∈ sessionFlds i, f.apart (Reg.CMD_SESSION_GAP_COUNT i)) ∧ (Reg.CMD_SESSION_GAP_COUNT i).apart (Reg.CMD_SESSION_BASE_SEQ i)
    ∧ (∀ f ∈ sessionFlds i, f.apart Reg.ID_BOOT_COUNT_COUNT)
    ∧ (∀ f ∈ [Reg.CMD_SESSION_GAP_COUNT i], f.addr ≠ 0x01001000 ∧ f.addr ≠ 0x01001004) := by decide

/-- A reply stays among the outputs as long as no word of the boot count changes. -/
theorem Replied.mono {t u : State} {d : Source} {h : Head} {st k : Nat} {p : List Byte} (hr : Replied t d h st p k) (ho : ∀ o ∈ t.out, o ∈ u.out)
    {i : Fin 4} (hk : Keeps t u (sessionFlds i)) : Replied u d h st p k := by
  obtain ⟨-, -, -, -, hap, -⟩ := gapFlds_facts i
  obtain ⟨c, hc⟩ := hr
  have hboot : u.boot16 = t.boot16 := congrArg (· % 65536) (hk _ (by decide) hap)
  exact ⟨c, by rw [hboot]; exact ho _ hc⟩

section

variable {s : State} {i : Fin 4} {h : Head} {c : Instr}

/-- A session's set emptied. -/
def State.shadowEmptied (s : State) (i : Fin 4) : State := s.setSess i { s.sess i with shadow := [] }

theorem sequenceGapTimeout_runs (hr : s.running = true) (ho : s.isOpen i = true) (hd : (s.sess i).due = none) (hb : (s.sess i).busy = none)
    (hseq : h.seq = (s.baseSeq i + 1) % 2 ^ 32) (hw : (s.sess i).waiting = [(h.seq, .cmd h c)])
    (hp : s.passed ((assocGet (s.sess i).waitAt h.seq).getD 0) 100000000 = true) :
    exec (.sequenceGapTimeout i) s = .next
      ((State.flushSeqs 64 i Status.SEQUENCE_GAP true (({ s with out := [] } : State).inc (Reg.CMD_SESSION_GAP_COUNT i))).shadowEmptied i) := by
  obtain ⟨v, hv⟩ : ∃ v : State, v = { s with out := [] } := ⟨_, rfl⟩
  have hses : v.sess i = s.sess i := by rw [hv]; rfl
  have hbase : v.baseSeq i = s.baseSeq i := by rw [hv]; rfl
  have hopen : v.isOpen i = true := by rw [hv]; exact ho
  have hmiss : assocGet (s.sess i).waiting (s.baseSeq i) = none := by
    have hlt : s.baseSeq i < 2 ^ 32 := s.rd_lt _
    have hne : h.seq ≠ s.baseSeq i := by omega
    rw [hw]
    simp [assocGet, hne]
  have hpassed : v.gapPassed i = true := by
    unfold State.gapPassed
    dsimp only
    rw [hses, hw]
    simp only [List.any_cons, List.any_nil, Bool.or_false]
    rw [hv, State.passed_fresh]
    exact hp
  show execSequenceGapTimeout i s = _
  rw [execSequenceGapTimeout, onRun_eq hr, ← hv]
  simp only [hses, hbase, hopen, hd, hb, hmiss, hpassed, Option.isNone_none, Bool.and_self, if_true]
  rfl

theorem sequenceGapTimeout_completes (hr : s.running = true) (hk : s.isKeeper = true) (ho : s.isOpen i = true) (hm : (s.sess i).src.path ≠ .mon)
    (hd : (s.sess i).due = none) (hb : (s.sess i).busy = none) (hseq : h.seq = (s.baseSeq i + 1) % 2 ^ 32)
    (hw : (s.sess i).waiting = [(h.seq, .cmd h c)]) (hp : s.passed ((assocGet (s.sess i).waitAt h.seq).getD 0) 100000000 = true) :
    ∃ t, exec (.sequenceGapTimeout i) s = .next t ∧ t = { s with regs := t.regs, ses := t.ses, canTx := t.canTx, out := t.out }
      ∧ (t.sess i).waiting = [] ∧ (t.sess i).shadow = [] ∧ t.baseSeq i = (s.baseSeq i + 2) % 2 ^ 32
      ∧ t.rd (Reg.CMD_SESSION_GAP_COUNT i) = s.oneMore (Reg.CMD_SESSION_GAP_COUNT i) ∧ (∀ j : Fin 4, j ≠ i → t.sess j = s.sess j)
      ∧ Replied t (s.sess i).src (missingHead i (s.baseSeq i)) Status.SEQUENCE_GAP [] s.stage
      ∧ Replied t (s.sess i).src h Status.SEQUENCE_GAP [] s.stage ∧ Keeps s t (openFlds i) := by
  obtain ⟨hin, hwith, hap, hbaseap, -, hstageap⟩ := gapFlds_facts i
  have hexec := sequenceGapTimeout_runs hr ho hd hb hseq hw hp
  obtain ⟨v, hv⟩ : ∃ v : State, v = { s with out := [] } := ⟨_, rfl⟩
  obtain ⟨u, hu⟩ : ∃ u : State, u = v.inc (Reg.CMD_SESSION_GAP_COUNT i) := ⟨_, rfl⟩
  rw [← hv, ← hu] at hexec
  have hku : Keeps s u [Reg.CMD_SESSION_GAP_COUNT i] := hu ▸ (Keeps.of_regs (t := v) (by rw [hv]) _).inc 1 List.mem_cons_self hwith
  have hus (j : Fin 4) : u.sess j = s.sess j := by rw [hu, State.sess_inc, hv]; rfl
  have hbase : u.baseSeq i = s.baseSeq i :=
    hku _ (openFlds_within i _ (by simp [openFlds, sessionFlds])) fun f hf => by rw [List.mem_singleton.mp hf]; exact hbaseap
  have hstage : u.stage = s.stage := hku.stage hstageap
  have hcount : u.rd (Reg.CMD_SESSION_GAP_COUNT i) = s.oneMore (Reg.CMD_SESSION_GAP_COUNT i) := by
    rw [hu]
    exact (State.rd_inc_same _ hwith).trans (State.oneMore_congr (State.rd_congr (by rw [hv]) _))
  have hupdu : ∃ l, u = { s with regs := l, out := [] } := by
    rw [hu, hv]
    exact ⟨_, rfl⟩
  obtain ⟨l, hupdu⟩ := hupdu
  have hkeeper : u.isKeeper = true := by
    rw [hupdu]
    exact hk
  obtain ⟨a, b, hflush, ha, hb'⟩ := State.flushSeqs_gap (s := u) (h := h) (c := c) hkeeper (by rw [hus]; exact hm) (by rw [hbase]; exact hseq)
    (by rw [hus]; exact hw) Status.SEQUENCE_GAP
  rw [hflush] at hexec
  obtain ⟨x, hx⟩ : ∃ x : State, x = a.setSess i { a.sess i with waiting := [] } := ⟨_, rfl⟩
  rw [← hx] at hb'
  have hkx : Keeps a x (sessionFlds i) := hx ▸ (Keeps.refl a _).setSess _ fun _ h => h
  obtain ⟨d, hself⟩ := ha.same
  obtain ⟨e, hlast⟩ := hb'.same
  have hxs : x.sess i = { a.sess i with waiting := [] } := by rw [hx, State.sess_setSess_same]
  obtain ⟨t, ht⟩ : ∃ t : State, t = b.shadowEmptied i := ⟨_, rfl⟩
  rw [← ht] at hexec
  have hkt : Keeps b t (sessionFlds i) := ht ▸ (Keeps.refl b _).setSess _ fun _ h => h
  have hall : Keeps u t (sessionFlds i) := ((ha.keeps.trans hkx).trans hb'.keeps).trans hkt
  have hxstage : x.stage = s.stage := (hkx.stage (sessionFlds_stage i)).trans ((ha.keeps.stage (sessionFlds_stage i)).trans hstage)
  have hxo : x.out = a.out := by
    obtain ⟨l', y, e'⟩ := State.setSess_upd a i { a.sess i with waiting := [] }
    rw [hx, e']
  have hto : t.out = b.out := by
    obtain ⟨l', y, e'⟩ := State.setSess_upd b i { b.sess i with shadow := [] }
    rw [ht, State.shadowEmptied, e']
  refine ⟨t, hexec, ?_, ?_, ?_, ?_, (hall _ hwith hap).trans hcount, fun j hj => ?_, ?_, ?_, ?_⟩
  · obtain ⟨l1, y1, e1⟩ := State.setSess_upd a i { a.sess i with waiting := [] }
    obtain ⟨l2, y2, e2⟩ := State.setSess_upd b i { b.sess i with shadow := [] }
    have hae := ha.upd
    have hbe := hb'.upd
    rw [hupdu] at hae
    rw [hx, e1, hae] at hbe
    rw [ht, State.shadowEmptied, e2, hbe]
  · rw [ht, State.shadowEmptied, State.sess_setSess_same]
    show (b.sess i).waiting = []
    rw [hlast, hxs]
  · rw [ht, State.shadowEmptied, State.sess_setSess_same]
  · rw [ht, State.shadowEmptied, State.baseSeq_setSess, hb'.base, hseq]
    omega
  · rw [ht, State.shadowEmptied, State.sess_setSess_other _ _ hj, hb'.others j hj, hx, State.sess_setSess_other _ _ hj, ha.others j hj, hus]
  · have hrep := ha.replied
    rw [hus, hstage, hbase] at hrep
    exact ((hrep.mono (fun o ho => by rw [hxo]; exact ho) hkx).mono hb'.out hb'.keeps).mono (fun o ho => by rw [hto]; exact ho) hkt
  · have hrep := hb'.replied
    rw [hxstage, hxs, hself, hus] at hrep
    exact hrep.mono (fun o ho => by rw [hto]; exact ho) hkt
  · exact (hku.mono fun f hf => by rw [List.mem_singleton.mp hf]; exact hin).trans (hall.mono (sessionFlds_openFlds i))

end

/-- What a long verb in execution reports (R172). -/
def State.progressOf (s : State) (i : Fin 4) (b : BusyCmd) (m : BitVec 16) : Reply :=
  { head := b.head, interim := true, status := Status.IN_PROGRESS, credit := s.creditOf i, boot := s.boot16, stage := s.stage,
    payload := beBytes 2 m.toNat ++ beBytes 2 0 }

/-- What an abandoned operation leaves alone. -/
theorem State.abandon_leaves (s : State) (o : LongOp) :
    EndsFrom s (s.abandon o) ∧ (s.abandon o).mem = s.mem ∧ (s.abandon o).flt = s.flt ∧ (s.abandon o).pending = s.pending := by
  cases o with
  | lifecycle t k c =>
    exact ⟨.of_keeps ((Keeps.refl s [Reg.LC_STATE_CHANGE_BUSY]).wr 0 List.mem_cons_self (by decide)) (by decide) rfl rfl, rfl, rfl, rfl⟩
  | saveConfig w =>
    have hk : Keeps s (s.abandon (.saveConfig w)) [Reg.LC_STATE_CONFIG_DIRTY] :=
      (Keeps.of_regs (t := { s with flash := s.flash.writeOlder (s.recordOf false w) }) rfl _).wrB _ List.mem_cons_self (by decide)
    exact ⟨.of_keeps hk (by decide) rfl rfl, rfl, rfl, rfl⟩
  | fwBegin => exact ⟨.keep (.refl s), rfl, rfl, rfl⟩
  | fwCommit n => exact ⟨.keep (.refl s), rfl, rfl, rfl⟩
  | prbs l => exact ⟨.wr (.keep (.refl s)), rfl, rfl, rfl⟩
  | inject l => exact ⟨.keep (.refl s), rfl, rfl, rfl⟩
  | calSd => exact ⟨.keep (.refl s), rfl, rfl, rfl⟩
  | _ => exact ⟨.refl s, rfl, rfl, rfl⟩

section

variable {s : State} {i : Fin 4} {b : BusyCmd} (h : Executes s i b) (hl : b.op.long = true)
include h hl

theorem progressReply_answers (m : BitVec 16) :
    ∃ t, exec (.progressReply i m) s = .next t ∧ t = { s with regs := t.regs, canTx := t.canTx, out := t.out }
      ∧ Out.reply (s.sess i).src { head := b.head, interim := true, status := Status.IN_PROGRESS, credit := s.creditOf i, boot := s.boot16,
                                   stage := s.stage, payload := beBytes 2 m.toNat ++ [0, 0] } ∈ t.out
      ∧ Keeps s t [Reg.ETH_STAT_TX_FRAMES 0, Reg.ETH_STAT_TX_FRAMES 1] := by
  obtain ⟨hr, hk, hb, -, hp⟩ := h
  obtain ⟨v, hv⟩ : ∃ v : State, v = { s with out := [] } := ⟨_, rfl⟩
  have hses : v.sess i = s.sess i := by rw [hv]; rfl
  obtain ⟨r, hrep⟩ : ∃ r : Reply, r = s.progressOf i b m := ⟨_, rfl⟩
  have hreply : v.progressOf i b m = r := by rw [hrep, hv]; rfl
  have hexec : exec (.progressReply i m) s = .next (v.sendReply (s.sess i).src r false) := by
    show execProgressReply i m s = _
    rw [execProgressReply, onRun_eq hr, ← hv]
    simp only [hses, hb, Option.toList_some, List.map_cons, List.map_nil, List.cons_append, List.find?_cons, hl]
    exact congrArg (fun r => Host.Outcome.next (v.sendReply (s.sess i).src r false)) hreply
  obtain ⟨hout, hkeep⟩ := State.sendReply_keeper (s := v) r (by rw [hv]; exact hk) hp
  obtain ⟨l, c, o, e⟩ := v.sendReply_upd r hp
  exact ⟨_, hexec, by rw [e, hv], hrep ▸ hout, (Keeps.of_regs (t := v) (by rw [hv]) _).trans hkeep⟩

theorem longVerbTimeout_ends (hat : s.atBound b = true) :
    ∃ t, exec (.longVerbTimeout i) s = .next t ∧ Ended s t i b Status.TIMEOUT [] ∧ t.mem = s.mem ∧ t.flt = s.flt ∧ t.pending = s.pending := by
  obtain ⟨v, hv⟩ : ∃ v : State, v = { s with out := [] } := ⟨_, rfl⟩
  have hses : v.sess i = s.sess i := by rw [hv]; rfl
  have hat' : v.atBound b = true := by rw [hv]; exact hat
  obtain ⟨hfrom, hmem, hflt, hpend⟩ := State.abandon_leaves v b.op
  have hsv : EndsFrom s v := by rw [hv]; exact .keep (.refl s)
  obtain ⟨hend, ⟨l, x, c, o, hupd⟩, -⟩ := h.endBusy (hsv.trans hfrom) Status.TIMEOUT []
  obtain ⟨hr, -, hb, -⟩ := h
  have hexec : exec (.longVerbTimeout i) s = .next ((v.abandon b.op).endBusy i b.op Status.TIMEOUT []) := by
    show execLongVerbTimeout i s = _
    rw [execLongVerbTimeout, onRun_eq hr, ← hv]
    simp only [hses, Session.ops, hb, Option.toList_some, List.cons_append, List.find?_cons, hl, hat', Bool.and_self]
  refine ⟨_, hexec, hend, ?_, ?_, ?_⟩
  · rw [hupd, hmem, hv]
  · rw [hupd, hflt, hv]
  · rw [hupd, hpend, hv]

end

/-- Settles O34, clause by clause. -/
theorem sessionLife : Obligations.SessionLife := by
  refine ⟨fun s i x p hr hk hp hm ho => sessionOpen_opens p hr hk hp hm ho, fun s i x p hr hk hp hm ho hx hi => sessionOpen_busy p hr hk hp hm ho hx hi,
    fun s r p hr => sessionClose_closes hr p, fun s i hr ho hn hi => sessionIdleTimeout_closes hr ho hn hi,
    fun s i hr h => ⟨_, sessionIdleTimeout_leaves hr h, rfl⟩, ?_, fun s i b m h hl _ => progressReply_answers h hl m,
    fun s i b h hl hat _ => longVerbTimeout_ends h hl hat⟩
  intro s i h c hr hk ho hm hd hb _ hseq hw hp
  exact sequenceGapTimeout_completes hr hk ho hm hd hb hseq hw hp

end Sys2Proof.Machine
end

section
/-! SUPPORT. The paths on which packets come: datagrams, CAN segments and the monitor's lines (R149 to R155, R183). -/

namespace Sys2Proof.Machine

open Sys2Proof

/-! ### Counting what is not a packet (R183) -/

theorem portPath_index (p : Fin 2) : (portPath p).index = p.val := by fin_cases p <;> rfl
theorem canPath_index (c : Fin 2) : (canPath c).index = 2 + c.val := by fin_cases c <;> rfl
theorem portPath_notMonitor (p : Fin 2) : portPath p ≠ .mon := by fin_cases p <;> decide

theorem notPacket_within (n : Nat) : (Reg.CMD_PATH_STAT_NOT_PACKET n).within := Fld.within_mk

/-- What is not a packet is counted on a state that has the words of the one before. -/
theorem State.countNotPacket_counts {s u : State} (p : Path) (hregs : u.regs = s.regs) :
    (∃ l, u.countNotPacket p = { u with regs := l })
      ∧ (u.countNotPacket p).rd (Reg.CMD_PATH_STAT_NOT_PACKET p.index) = s.oneMore (Reg.CMD_PATH_STAT_NOT_PACKET p.index)
      ∧ Keeps s (u.countNotPacket p) [Reg.CMD_PATH_STAT_NOT_PACKET p.index] := by
  refine ⟨⟨_, rfl⟩, ?_, (Keeps.of_regs hregs _).inc 1 List.mem_cons_self (notPacket_within _)⟩
  exact (State.rd_inc_same _ (notPacket_within _)).trans (State.oneMore_congr (State.rd_congr hregs _))

/-! ### Datagrams (R150) -/

section

variable {s : State} {p : Fin 2} {a : Word} {q : BitVec 16} {b : List Byte} {u : Bool} (hr : s.running = true)
include hr

theorem udpDatagram_off (ho : s.pathOn (portPath p) = false) : exec (.udpDatagram p a q u b) s = .next { s with out := [] } := by
  have ho' : ({ s with out := [] } : State).pathOn (portPath p) = false := ho
  show execUdpDatagram p a q u b s = _
  rw [execUdpDatagram, onRun_eq hr]
  refine congrArg _ ((if_pos ?_).trans rfl)
  show (!(({ s with out := [] } : State).pathOn (portPath p))) = true
  rw [ho']
  rfl

theorem udpDatagram_taken (ho : s.pathOn (portPath p) = true) : exec (.udpDatagram p a q u b) s
    = .next (if u then ({ s with out := [] } : State).countNotPacket (portPath p) else ({ s with out := [] } : State).takeBytes ⟨portPath p, a, q⟩ b) := by
  have ho' : ({ s with out := [] } : State).pathOn (portPath p) = true := ho
  show execUdpDatagram p a q u b s = _
  rw [execUdpDatagram, onRun_eq hr]
  refine congrArg _ ((if_neg ?_).trans rfl)
  show ¬ (!(({ s with out := [] } : State).pathOn (portPath p))) = true
  rw [ho']
  decide

theorem udpDatagram_counted (ho : s.pathOn (portPath p) = true) (h : u = true ∨ receive b = .notPacket) :
    exec (.udpDatagram p a q u b) s = .next (({ s with out := [] } : State).countNotPacket (portPath p)) := by
  rw [udpDatagram_taken hr ho]
  rcases h with rfl | h
  · rfl
  · unfold State.takeBytes
    rw [h]
    exact congrArg _ (ite_self _)

end

/-! ### A packet within the window (R155) -/

theorem accepted_apart : ∀ i : Fin 4, (Reg.CMD_SESSION_ACCEPTED i).within
    ∧ ∀ f ∈ [Reg.CMD_SESSION_OUTSTANDING i, Reg.CMD_SESSION_SHADOW_COUNT i, Reg.CMD_SESSION_IDLE i], f.within ∧ f.apart (Reg.CMD_SESSION_ACCEPTED i) := by
  decide

/-- The count of accepted packets is not among the fields that follow a session. -/
theorem State.rd_setSess_accepted (s : State) (i : Fin 4) (x : Session) :
    (s.setSess i x).rd (Reg.CMD_SESSION_ACCEPTED i) = s.rd (Reg.CMD_SESSION_ACCEPTED i) := by
  obtain ⟨hw, hf⟩ := accepted_apart i
  have hk : Keeps s (s.setSess i x) [Reg.CMD_SESSION_OUTSTANDING i, Reg.CMD_SESSION_SHADOW_COUNT i, Reg.CMD_SESSION_IDLE i] := by
    have h0 : Keeps s { s with ses := s.ses.set i x } [Reg.CMD_SESSION_OUTSTANDING i, Reg.CMD_SESSION_SHADOW_COUNT i, Reg.CMD_SESSION_IDLE i] :=
      Keeps.of_regs rfl _
    exact ((h0.wr _ (by simp) (hf _ (by simp)).1).wr _ (by simp) (hf _ (by simp)).1).wrSat _ (by simp) (hf _ (by simp)).1
  exact hk _ hw fun f hm => (hf f hm).2

theorem State.countAccepted_counts (s : State) (i : Fin 4) :
    (s.countAccepted i).rd (Reg.CMD_SESSION_ACCEPTED i) = s.oneMore (Reg.CMD_SESSION_ACCEPTED i) :=
  (State.rd_inc_same _ (accepted_apart i).1).trans (State.oneMore_congr (State.rd_setSess_accepted s i _))

theorem State.baseSeq_countAccepted (s : State) (i : Fin 4) : (s.countAccepted i).baseSeq i = s.baseSeq i := by
  have h : ∀ i : Fin 4, (Reg.CMD_SESSION_ACCEPTED i).within ∧ (Reg.CMD_SESSION_BASE_SEQ i).within
      ∧ (Reg.CMD_SESSION_ACCEPTED i).apart (Reg.CMD_SESSION_BASE_SEQ i) := by decide
  obtain ⟨hw, hb, ha⟩ := h i
  exact (State.rd_wr_apart _ _ hw hb ha).trans (State.baseSeq_setSess _ _ _ _)

theorem Keeps.timeOf_session {s t : State} {i : Fin 4} (h : Keeps s t (sessionFlds i)) : t.timeOf 1 = s.timeOf 1 := by
  unfold State.timeOf
  rw [h.quiet (f := Reg.TIME_BASE_SECONDS_HI 1) (by decide) (Fld.quiet_low (by decide)),
    h.quiet (f := Reg.TIME_BASE_SECONDS_LO 1) (by decide) (Fld.quiet_low (by decide)),
    h.quiet (f := Reg.TIME_BASE_NANOSECONDS 1) (by decide) (Fld.quiet_low (by decide)),
    h.quiet (f := Reg.TIME_BASE_FRACTION 1) (by decide) (Fld.quiet_low (by decide))]

/-- The session in which a packet waits. -/
def waitingSess (x : Session) (q now : Nat) (w : Waiting) : Session :=
  { x with
    idleNs := 0
    waitAt := assocInsert (x.waitAt.filter (fun p => (assocGet x.waiting p.1).isSome && p.1 != q)) q now
    waiting := assocInsert x.waiting q w }

section

variable {s : State} {i : Fin 4}

/-- A packet joins those that wait, counted; nothing refused stands at the base sequence. -/
theorem State.accepts_waits {q : Nat} {w : Waiting} {h : Head} {c : Instr} (hwq : w = .cmd h c) (hq : assocGet (s.sess i).waiting q = none)
    (hb : assocGet (s.sess i).waiting (s.baseSeq i) = none) :
    ∃ t, State.drainRefused 64 i ((s.countAccepted i).addWaiting i q w) = t ∧ (∃ l x, t = { s with regs := l, ses := x })
      ∧ t.sess i = waitingSess (s.sess i) q (s.timeOf 1) w ∧ (∀ j : Fin 4, j ≠ i → t.sess j = s.sess j) ∧ t.baseSeq i = s.baseSeq i
      ∧ t.rd (Reg.CMD_SESSION_ACCEPTED i) = s.oneMore (Reg.CMD_SESSION_ACCEPTED i) ∧ Keeps s t (sessionFlds i) := by
  obtain ⟨v, hv⟩ : ∃ v : State, v = s.countAccepted i := ⟨_, rfl⟩
  have hkv : Keeps s v (sessionFlds i) := hv ▸ (Keeps.refl s _).countAccepted fun _ h => h
  have hself : v.sess i = { s.sess i with idleNs := 0 } := by rw [hv, State.sess_countAccepted_same]
  have htime : v.timeOf 1 = s.timeOf 1 := hkv.timeOf_session
  have hadd : v.addWaiting i q w = v.setSess i (waitingSess (s.sess i) q (s.timeOf 1) w) := by
    unfold State.addWaiting
    rw [hself, htime]
    rfl
  obtain ⟨t, ht⟩ : ∃ t : State, t = v.setSess i (waitingSess (s.sess i) q (s.timeOf 1) w) := ⟨_, rfl⟩
  have hts : t.sess i = waitingSess (s.sess i) q (s.timeOf 1) w := by rw [ht, State.sess_setSess_same]
  have hbase : t.baseSeq i = s.baseSeq i := by rw [ht, State.baseSeq_setSess, hv, State.baseSeq_countAccepted]
  have hfront : ∀ g st, assocGet (t.sess i).waiting (t.baseSeq i) ≠ some (.refuse g st) := by
    intro g st
    rw [hts, hbase]
    show assocGet (assocInsert (s.sess i).waiting q w) (s.baseSeq i) ≠ _
    by_cases he : s.baseSeq i = q
    · rw [he, assocGet_insert_same _ _ _ hq, hwq]
      exact fun h => nomatch Option.some.inj h
    · rw [assocGet_insert_other _ _ he, hb]
      exact nofun
  have hdrain : State.drainRefused 64 i t = t := by
    unfold State.drainRefused
    dsimp only
    split
    · rfl
    · split
      · next g st hg => exact absurd hg (hfront g st)
      · rfl
  refine ⟨t, by rw [← hv, hadd, ← ht, hdrain], ?_, hts, fun j hj => ?_, hbase, ?_, ?_⟩
  · obtain ⟨l, x, e⟩ := State.countAccepted_upd s i
    obtain ⟨l', x', e'⟩ := State.setSess_upd v i (waitingSess (s.sess i) q (s.timeOf 1) w)
    rw [ht, e', hv, e]
    exact ⟨_, _, rfl⟩
  · rw [ht, State.sess_setSess_other _ _ hj, hv, State.sess_countAccepted_other _ hj]
  · rw [ht, State.rd_setSess_accepted, hv, State.countAccepted_counts]
  · rw [ht]
    exact hkv.setSess _ fun _ h => h

end

/-- A reply to a source on an Ethernet port is no controller's. -/
theorem State.refusePacket_port (s : State) {p : Fin 2} (a : Word) (q : BitVec 16) (h : Head) (st c : Nat) :
    ∃ l o, s.refusePacket ⟨portPath p, a, q⟩ h st c = { s with regs := l, out := o } := by
  unfold State.refusePacket State.sendReply
  split
  case isTrue => exact ⟨_, _, rfl⟩
  case isFalse =>
    simp only
    unfold portPath
    by_cases hp : p = 0
    · rw [if_pos hp]
      simp only
      split <;> exact ⟨_, _, rfl⟩
    · rw [if_neg hp]
      simp only
      split <;> exact ⟨_, _, rfl⟩

/-- A packet that is no OPEN is taken of the session's source alone. -/
theorem State.takePacket_of_bound (s : State) {k : Packet} (x : Source) (hf : k.head.flags / 4 % 2 = 0) : s.takePacket x k
    = if s.boundTo (Fin.ofNat 4 k.head.session) x then s.takeSequenced x k else s.refusePacket x k.head Status.SESSION_NOT_OPEN 0 := by
  unfold State.takePacket
  dsimp only
  rw [if_neg (by omega)]
  by_cases hb : s.boundTo (Fin.ofNat 4 k.head.session) x = true
  · rw [if_pos hb, if_neg (by rw [hb]; decide)]
  · rw [if_neg hb, if_pos (by rw [Bool.eq_false_iff.mpr hb]; rfl)]

/-- A packet within the window that is no duplicate joins those that wait. -/
theorem State.takeSequenced_accepts {s : State} {i : Fin 4} {k : Packet} (x : Source) (hi : Fin.ofNat 4 k.head.session = i)
    (hd : (k.head.seq + 2 ^ 32 - s.baseSeq i) % 2 ^ 32 < 64) (hq : assocGet (s.sess i).waiting k.head.seq = none) (hdue : (s.sess i).due = none)
    (hbusy : (s.sess i).busy = none) (hm : (s.countAccepted i).mirrorBytes i k.bytes = s.countAccepted i) :
    s.takeSequenced x k = State.drainRefused 64 i ((s.countAccepted i).addWaiting i k.head.seq (waitingOf k)) := by
  subst hi
  unfold State.takeSequenced
  refine (if_pos hd).trans ((if_neg ?_).trans ?_)
  · rw [hq, hdue, hbusy]
    simp
  · rw [hm]

section

variable {s : State} {p : Fin 2} {a : Word} {q : BitVec 16} {b : List Byte} {k : Packet} (hr : s.running = true)
  (ho : s.pathOn (portPath p) = true) (hb : receive b = .passed k) (hf : k.head.flags / 4 % 2 = 0)
include hr ho hb hf

/-- A packet that has passed R149 and is no OPEN: by its source's session. -/
theorem udpDatagram_passed : exec (.udpDatagram p a q false b) s
    = .next (if s.boundTo (Fin.ofNat 4 k.head.session) ⟨portPath p, a, q⟩ then ({ s with out := [] } : State).takeSequenced ⟨portPath p, a, q⟩ k
        else ({ s with out := [] } : State).refusePacket ⟨portPath p, a, q⟩ k.head Status.SESSION_NOT_OPEN 0) := by
  obtain ⟨v, hv⟩ : ∃ v : State, v = { s with out := [] } := ⟨_, rfl⟩
  have hbound : v.boundTo (Fin.ofNat 4 k.head.session) ⟨portPath p, a, q⟩ = s.boundTo (Fin.ofNat 4 k.head.session) ⟨portPath p, a, q⟩ := by
    rw [hv]
    rfl
  rw [udpDatagram_taken hr ho, ← hv, ← hbound, if_neg Bool.false_ne_true]
  unfold State.takeBytes
  rw [hb]
  refine congrArg _ ?_
  exact v.takePacket_of_bound _ hf

theorem udpDatagram_unbound (hk : s.isKeeper = true) (hu : s.boundTo (Fin.ofNat 4 k.head.session) ⟨portPath p, a, q⟩ = false) :
    ∃ t, exec (.udpDatagram p a q false b) s = .next t ∧ t = { s with regs := t.regs, out := t.out }
      ∧ Replied t ⟨portPath p, a, q⟩ k.head Status.SESSION_NOT_OPEN [] s.stage
      ∧ Keeps s t [Reg.ETH_STAT_TX_FRAMES 0, Reg.ETH_STAT_TX_FRAMES 1] := by
  obtain ⟨v, hv⟩ : ∃ v : State, v = { s with out := [] } := ⟨_, rfl⟩
  have hexec := udpDatagram_passed hr ho hb hf (a := a) (q := q)
  rw [hu, if_neg Bool.false_ne_true, ← hv] at hexec
  obtain ⟨l, o, hupd⟩ := v.refusePacket_port (p := p) a q k.head Status.SESSION_NOT_OPEN 0
  obtain ⟨-, hrep, hkeep⟩ := State.refusePacket_replies (s := v) (d := ⟨portPath p, a, q⟩) (by rw [hv]; exact hk) (portPath_notMonitor p) k.head
    Status.SESSION_NOT_OPEN 0
  obtain ⟨t, ht⟩ : ∃ t : State, t = v.refusePacket ⟨portPath p, a, q⟩ k.head Status.SESSION_NOT_OPEN 0 := ⟨_, rfl⟩
  rw [← ht] at hexec hupd hrep hkeep
  have hstage : v.stage = s.stage := by rw [hv]; rfl
  refine ⟨t, hexec, ?_, hstage ▸ hrep, (Keeps.of_regs (t := v) (by rw [hv]) _).trans hkeep⟩
  rw [hupd, hv]

theorem udpDatagram_waits {i : Fin 4} {c : Instr} (hin : s.duo.inStep = false) (hi : k.head.session = i.val)
    (hu : s.boundTo i ⟨portPath p, a, q⟩ = true) (hd : (k.head.seq + 2 ^ 32 - s.baseSeq i) % 2 ^ 32 < 64)
    (hq : assocGet (s.sess i).waiting k.head.seq = none) (hbase : assocGet (s.sess i).waiting (s.baseSeq i) = none)
    (hdue : (s.sess i).due = none) (hbusy : (s.sess i).busy = none) (hw : waitingOf k = .cmd k.head c) :
    ∃ t, exec (.udpDatagram p a q false b) s = .next t ∧ t = { s with regs := t.regs, ses := t.ses, out := [] }
      ∧ t.sess i = { s.sess i with idleNs := 0, waitAt := (t.sess i).waitAt, waiting := assocInsert (s.sess i).waiting k.head.seq (.cmd k.head c) }
      ∧ assocGet (t.sess i).waitAt k.head.seq = some (s.timeOf 1)
      ∧ (∀ j : Fin 4, j ≠ i → t.sess j = s.sess j) ∧ t.baseSeq i = s.baseSeq i
      ∧ t.rd (Reg.CMD_SESSION_ACCEPTED i) = s.oneMore (Reg.CMD_SESSION_ACCEPTED i) ∧ Keeps s t (sessionFlds i) := by
  have hidx : Fin.ofNat 4 k.head.session = i := by rw [hi]; exact Fin.ofNat_val_eq_self i
  have hexec := udpDatagram_passed hr ho hb hf (a := a) (q := q)
  rw [hidx, if_pos hu] at hexec
  obtain ⟨v, hv⟩ : ∃ v : State, v = { s with out := [] } := ⟨_, rfl⟩
  have hses (j : Fin 4) : v.sess j = s.sess j := by rw [hv]; rfl
  have hvb : v.baseSeq i = s.baseSeq i := by rw [hv]; rfl
  have hvk : Keeps s v (sessionFlds i) := Keeps.of_regs (by rw [hv]) _
  have htime : v.timeOf 1 = s.timeOf 1 := hvk.timeOf_session
  have hmir : (v.countAccepted i).mirrorBytes i k.bytes = v.countAccepted i := by
    have hduo : (v.countAccepted i).mirrors = false := by
      obtain ⟨l, x, e⟩ := State.countAccepted_upd v i
      rw [e, hv]
      show (s.duo.role == 1 && s.duo.inStep) = false
      rw [hin, Bool.and_false]
    unfold State.mirrorBytes
    rw [hduo]
    rfl
  have htake := State.takeSequenced_accepts (s := v) ⟨portPath p, a, q⟩ hidx (by rw [hvb]; exact hd) (by rw [hses]; exact hq)
    (by rw [hses]; exact hdue) (by rw [hses]; exact hbusy) hmir
  obtain ⟨t, ht, ⟨l, x, hupd⟩, hself, hother, hbs, hacc, hkeep⟩ := State.accepts_waits (s := v) (i := i) hw (by rw [hses]; exact hq)
    (by rw [hses, hvb]; exact hbase)
  rw [← hv, htake, ht] at hexec
  rw [hses, htime] at hself
  refine ⟨t, hexec, ?_, ?_, ?_, fun j hj => (hother j hj).trans (hses j), hbs.trans hvb, hacc.trans ?_, hvk.trans hkeep⟩
  · rw [hupd, hv]
  · rw [hself, hw]
    rfl
  · rw [hself]
    refine assocGet_insert_same _ _ _ ?_
    rw [assocGet_filter _ (fun n => (assocGet (s.sess i).waiting n).isSome && n != k.head.seq), if_neg (by simp)]
  · exact State.oneMore_congr (State.rd_congr (by rw [hv]) _)

end

/-! ### CAN segments (R151) -/

section

variable {s : State} {c : Fin 2} (hr : s.running = true)
include hr

theorem canCmdSegment_deaf {d : List Byte} (hh : s.canHears c = false) : exec (.canCmdSegment c d) s = .next { s with out := [] } := by
  have hh' : ({ s with out := [] } : State).canHears c = false := hh
  show execCanCmdSegment c d s = _
  rw [execCanCmdSegment, onRun_eq hr]
  simp only [hh', Bool.not_false, true_or, or_true, if_true]

variable {b x : Byte} {d : List Byte} (hp : s.pathOn (canPath c) = true) (hh : s.canHears c = true)
include hp hh

theorem canCmdSegment_first (hc : s.canRx[c] = none) (hb : b.toNat = 128) : exec (.canCmdSegment c (b :: x :: d)) s
    = .next { s with out := [], canRx := s.canRx.set c (some { next := 1, short := decide (d.length < 62), bytes := d, at_ := s.timeOf 1 }) } := by
  obtain ⟨v, hv⟩ : ∃ v : State, v = { s with out := [] } := ⟨_, rfl⟩
  have hp' : v.pathOn (canPath c) = true := by rw [hv]; exact hp
  have hh' : v.canHears c = true := by rw [hv]; exact hh
  have hc' : v.canRx[c] = none := by rw [hv]; exact hc
  have hb0 : byteAt (b :: x :: d) 0 = b := rfl
  have hlen : ¬ (b :: x :: d).length < 2 := by simp
  show execCanCmdSegment c (b :: x :: d) s = _
  rw [execCanCmdSegment, onRun_eq hr, ← hv]
  simp only [hp', hh', hb0, hb, hlen, hc', Bool.not_true, Bool.false_eq_true, or_self, if_false, Option.any_none, Nat.le_refl, if_true]
  refine congrArg _ ?_
  show State.setAsm (v.setAsm c none) c (some { next := 1, short := decide (d.length < 62), bytes := d, at_ := (v.setAsm c none).timeOf 1 }) = _
  unfold State.setAsm
  rw [hv]
  show ({ s with out := [], canRx := (s.canRx.set c none).set c _ } : State) = _
  rw [Vector.set_set]
  rfl

/-- A frame of a controller's path that a run does not begin with: what was in progress decides (R151). -/
theorem canCmdSegment_later (hb : b.toNat < 128) : exec (.canCmdSegment c (b :: x :: d)) s = .next (
      let v : State := { s with out := [] }
      match s.canRx[c] with
      | none => (v.dropRun c (decide (64 ≤ b.toNat))).countNotPacket (canPath c)
      | some a =>
        if a.dead then v.dropRun c (decide (64 ≤ b.toNat))
        else if b.toNat % 64 = a.next then v.takeSegment c a (b.toNat % 64) (decide (64 ≤ b.toNat)) d
        else (v.dropRun c (decide (64 ≤ b.toNat))).countNotPacket (canPath c)) := by
  obtain ⟨v, hv⟩ : ∃ v : State, v = { s with out := [] } := ⟨_, rfl⟩
  have hp' : v.pathOn (canPath c) = true := by rw [hv]; exact hp
  have hh' : v.canHears c = true := by rw [hv]; exact hh
  have hc' : v.canRx[c] = s.canRx[c] := by rw [hv]
  have hb0 : byteAt (b :: x :: d) 0 = b := rfl
  have hlen : ¬ (b :: x :: d).length < 2 := by simp
  have hfirst : ¬ 128 ≤ b.toNat := by omega
  have hlast : (b.toNat / 64 % 2 == 1) = decide (64 ≤ b.toNat) := by
    rw [Bool.eq_iff_iff, beq_iff_eq, decide_eq_true_iff]
    omega
  show execCanCmdSegment c (b :: x :: d) s = _
  rw [execCanCmdSegment, onRun_eq hr, ← hv]
  simp only [hp', hh', hb0, hlen, hc', hfirst, hlast, Bool.not_true, Bool.false_eq_true, or_self, if_false]
  rfl

theorem canCmdSegment_withoutRun (hc : s.canRx[c] = none) (hb : b.toNat < 128) : exec (.canCmdSegment c (b :: x :: d)) s
    = .next ((({ s with out := [] } : State).dropRun c (decide (64 ≤ b.toNat))).countNotPacket (canPath c)) := by
  rw [canCmdSegment_later hr hp hh hb]
  simp only [hc]

theorem canCmdSegment_dead {a : CanAsm} (hc : s.canRx[c] = some a) (ha : a.dead = true) (hb : b.toNat < 128) : exec (.canCmdSegment c (b :: x :: d)) s
    = .next (({ s with out := [] } : State).dropRun c (decide (64 ≤ b.toNat))) := by
  rw [canCmdSegment_later hr hp hh hb]
  simp only [hc, ha, if_true]

end

theorem State.dropRun_fresh (s : State) (c : Fin 2) (n : Nat) : ({ s with out := [] } : State).dropRun c (decide (64 ≤ n))
    = { s with out := [], canRx := s.canRx.set c (if 64 ≤ n then none
        else some { next := 0, short := false, bytes := [], dead := true, at_ := s.timeOf 1 }) } := by
  have htime : ({ s with out := [] } : State).timeOf 1 = s.timeOf 1 := rfl
  unfold State.dropRun State.setAsm
  rw [htime]
  simp only [decide_eq_true_eq]

theorem canPath_counts {s u : State} (c : Fin 2) (hregs : u.regs = s.regs) :
    (∃ l, u.countNotPacket (canPath c) = { u with regs := l })
      ∧ (u.countNotPacket (canPath c)).rd (Reg.CMD_PATH_STAT_NOT_PACKET (2 + c.val)) = s.oneMore (Reg.CMD_PATH_STAT_NOT_PACKET (2 + c.val))
      ∧ Keeps s (u.countNotPacket (canPath c)) [Reg.CMD_PATH_STAT_NOT_PACKET (2 + c.val)] :=
  canPath_index c ▸ State.countNotPacket_counts (canPath c) hregs

section

variable {s : State} {c : Fin 2} (hr : s.running = true)
include hr

theorem canSegmentTimeout_counts {a : CanAsm} (hc : s.canRx[c] = some a) (ha : a.dead = false) (hp : s.passed a.at_ 50000000 = true) :
    exec (.canSegmentTimeout c) s = .next (({ s with out := [], canRx := s.canRx.set c none } : State).countNotPacket (canPath c)) := by
  obtain ⟨v, hv⟩ : ∃ v : State, v = { s with out := [] } := ⟨_, rfl⟩
  have hc' : v.canRx[c] = some a := by rw [hv]; exact hc
  have hp' : v.passed a.at_ 50000000 = true := by rw [hv, State.passed_fresh]; exact hp
  have hset : v.setAsm c none = { s with out := [], canRx := s.canRx.set c none } := by rw [hv]; rfl
  show execCanSegmentTimeout c s = _
  rw [execCanSegmentTimeout, onRun_eq hr, ← hv]
  simp only [hc', hp', ha, hset, Bool.not_true, Bool.false_eq_true, if_false]

/-- What a controller sends once its reply in progress is given up. -/
def repliesLeft (l : List CanReply) (now : Nat) : List CanReply :=
  match l with
  | [] => []
  | y :: l => { y with since := now } :: l

theorem canReplyAbandon_drops {x : CanReply} {l : List CanReply} (hc : s.canTx[c] = x :: l) (hp : s.passed x.since 100000000 = true) :
    exec (.canReplyAbandon c) s = .next (({ s with out := [], canTx := s.canTx.set c (repliesLeft l (s.timeOf 1)) } : State).inc
      (Reg.CMD_PATH_STAT_REPLY_DROPPED (2 + c.val))) := by
  obtain ⟨v, hv⟩ : ∃ v : State, v = { s with out := [] } := ⟨_, rfl⟩
  have hc' : v.canTx[c] = x :: l := by rw [hv]; exact hc
  have hp' : v.passed x.since 100000000 = true := by rw [hv, State.passed_fresh]; exact hp
  have htime : v.timeOf 1 = s.timeOf 1 := by rw [hv]; rfl
  have hnext : v.nextReply c = { s with out := [], canTx := s.canTx.set c (repliesLeft l (s.timeOf 1)) } := by
    unfold State.nextReply
    rw [hc', htime, hv]
    cases l <;> rfl
  show execCanReplyAbandon c s = _
  rw [execCanReplyAbandon, onRun_eq hr, ← hv]
  simp only [hc', hp', hnext, canPath_index, Bool.not_true, Bool.false_eq_true, if_false]

end

/-! ### The monitor's lines (R152) -/

/-- A line that has come is noted; an unlock's idle time may start again. -/
theorem State.sawLine_shows (s : State) : (∃ l, s.sawLine = { s with regs := l, mon := { s.mon with lastLine := s.monoNs } })
    ∧ Keeps s s.sawLine [Reg.CMD_MON_STAT_LOCK_IN_S] := by
  obtain ⟨v, hv⟩ : ∃ v : State, v = { s with mon := { s.mon with lastLine := s.monoNs } } := ⟨_, rfl⟩
  have hk : Keeps s v [Reg.CMD_MON_STAT_LOCK_IN_S] := Keeps.of_regs (by rw [hv]) _
  unfold State.sawLine
  dsimp only
  rw [← hv]
  split
  · exact ⟨⟨(v.wr Reg.CMD_MON_STAT_LOCK_IN_S idleLimitS).regs, by rw [hv]; rfl⟩, hk.wr _ List.mem_cons_self (by decide)⟩
  · exact ⟨⟨s.regs, by rw [hv]⟩, hk⟩

section

variable {s : State} {l : List Byte} (hr : s.running = true)
include hr

theorem monLine_long (hl : 3000 < l.length) : exec (.monLine l) s = .next (({ s with out := [] } : State).sawLine.countNotPacket .mon) := by
  show execMonLine l s = _
  rw [execMonLine, onRun_eq hr]
  exact congrArg _ (if_pos hl)

theorem monLine_counts (hl : 3000 < l.length) :
    ∃ t, exec (.monLine l) s = .next t ∧ t = { s with regs := t.regs, out := [], mon := { s.mon with lastLine := s.monoNs } }
      ∧ t.rd (Reg.CMD_PATH_STAT_NOT_PACKET 4) = s.oneMore (Reg.CMD_PATH_STAT_NOT_PACKET 4)
      ∧ Keeps s t [Reg.CMD_PATH_STAT_NOT_PACKET 4, Reg.CMD_MON_STAT_LOCK_IN_S] := by
  obtain ⟨v, hv⟩ : ∃ v : State, v = { s with out := [] } := ⟨_, rfl⟩
  have hmono : v.monoNs = s.monoNs := by rw [hv]; rfl
  obtain ⟨⟨r, hupd⟩, hk⟩ := v.sawLine_shows
  have hexec := monLine_long hr hl
  obtain ⟨u, hu⟩ : ∃ u : State, u = v.sawLine := ⟨_, rfl⟩
  rw [← hv, ← hu] at hexec
  rw [← hu] at hupd hk
  have hsk : Keeps s u [Reg.CMD_MON_STAT_LOCK_IN_S] := (Keeps.of_regs (t := v) (by rw [hv]) _).trans hk
  obtain ⟨⟨r', hcnt⟩, hval, hck⟩ := State.countNotPacket_counts (s := u) (u := u) .mon rfl
  refine ⟨_, hexec, ?_, hval.trans (State.oneMore_congr (hsk _ (by decide) (by decide))),
    (hsk.mono (by simp)).trans (hck.mono (by simp [Path.index]))⟩
  rw [hcnt, hupd, hmono, hv]

theorem monLine_command {m : MonCmd} (hl : l.length ≤ 3000) (hd : l.head? = some 46) (hc : readMonCmd l = .ok m) :
    exec (.monLine l) s = .next (({ s with out := [] } : State).monCmd m) := by
  show execMonLine l s = _
  rw [execMonLine, onRun_eq hr, if_neg (by omega), if_pos hd, hc]

theorem monLine_packet {k : Packet} (hl : l.length ≤ 3000) (hd : l.head? ≠ some 46) (hc : readLine l = (.packet k, false)) :
    exec (.monLine l) s = .next (({ s with out := [] } : State).sawLine.takeBytes ⟨.mon, 0, 0⟩ k.bytes) := by
  show execMonLine l s = _
  rw [execMonLine, onRun_eq hr, if_neg (by omega), if_neg hd]
  unfold State.textLine
  simp only [hc, Bool.false_eq_true, if_false]

end

/-- A command that the block does not execute while it does not run. -/
theorem onRun_stopped {s : State} (f g : State → State) (h : s.running = false) : onRun s f = onRun s g := by
  have h' : ¬ ({ s with out := [] } : State).running = true := by
    show ¬ s.running = true
    rw [h]
    decide
  unfold onRun
  simp only [if_neg h']

/-- A line that spells a command of the monitor is that command. -/
theorem monLine_is {s : State} {l : List Byte} {m : MonCmd} {i : Instr} (hi : exec i s = onRun s fun s => s.monCmd m) (hl : l.length ≤ 3000)
    (hd : l.head? = some 46) (hc : readMonCmd l = .ok m) : exec (.monLine l) s = exec i s := by
  rw [hi]
  cases hr : s.running with
  | true => rw [monLine_command hr hl hd hc, onRun_eq hr]
  | false =>
    show execMonLine l s = _
    rw [execMonLine]
    exact onRun_stopped _ _ hr

/-- Settles O33: each path by what it does with what comes on it. -/
theorem packetPaths : Obligations.PacketPaths := by
  refine ⟨fun s p a q u b hr ho => ⟨_, udpDatagram_off hr ho, rfl⟩, ?_, ?_, ?_,
    fun s c b x d hr hp hh hc hb => ⟨_, canCmdSegment_first hr hp hh hc hb, rfl⟩, ?_, ?_,
    fun s c d hr hh => ⟨_, canCmdSegment_deaf hr hh, rfl⟩, ?_, ?_, fun s l hr hl => monLine_counts hr hl, ?_,
    fun s l k hr hl hd hc => ⟨_, monLine_packet hr hl hd hc, rfl⟩⟩
  · intro s p a q u b hr ho h
    have hexec := udpDatagram_counted (a := a) (q := q) hr ho h
    obtain ⟨⟨l, hupd⟩, hval, hk⟩ := State.countNotPacket_counts (s := s) (u := { s with out := [] }) (portPath p) rfl
    rw [portPath_index] at hval hk
    exact ⟨_, hexec, by rw [hupd], hval, hk⟩
  · intro s p a q b k hr hk _ ho hb hf hu
    exact udpDatagram_unbound hr ho hb hf hk hu
  · intro s p a q b k i c hr hin ho hb hf hi hu hd hq hbase hdue hbusy hw
    exact udpDatagram_waits hr ho hb hf hin hi hu hd hq hbase hdue hbusy hw
  · intro s c b x d hr hp hh hc hb
    have hexec := canCmdSegment_withoutRun (x := x) (d := d) hr hp hh hc hb
    rw [State.dropRun_fresh] at hexec
    obtain ⟨⟨l, hupd⟩, hval, hk⟩ := canPath_counts (s := s) (u := { s with out := [], canRx := s.canRx.set c (if 64 ≤ b.toNat then none
        else some { next := 0, short := false, bytes := [], dead := true, at_ := s.timeOf 1 }) }) c rfl
    exact ⟨_, hexec, by rw [hupd], hval, hk⟩
  · intro s c b x d a hr hp hh hc ha hb
    have hexec := canCmdSegment_dead (x := x) (d := d) hr hp hh hc ha hb
    rw [State.dropRun_fresh] at hexec
    exact ⟨_, hexec, rfl⟩
  · intro s c a hr hc ha hp
    have hexec := canSegmentTimeout_counts hr hc ha hp
    obtain ⟨⟨l, hupd⟩, hval, hk⟩ := canPath_counts (s := s) (u := { s with out := [], canRx := s.canRx.set c none }) c rfl
    exact ⟨_, hexec, by rw [hupd], hval, hk⟩
  · intro s c x l hr hc hp
    have hexec := canReplyAbandon_drops hr hc hp
    obtain ⟨v, hv⟩ : ∃ v : State, v = { s with out := [], canTx := s.canTx.set c (repliesLeft l (s.timeOf 1)) } := ⟨_, rfl⟩
    rw [← hv] at hexec
    refine ⟨_, hexec, ?_, ?_, (Keeps.of_regs (t := v) (by rw [hv]) _).inc 1 List.mem_cons_self Fld.within_mk⟩
    · rw [hv]
      cases l <;> rfl
    · exact (State.rd_inc_same _ Fld.within_mk).trans (State.oneMore_congr (State.rd_congr (by rw [hv]) _))
  · intro s
    exact ⟨monLine_is (m := .halt) rfl (by decide) (by decide) (by decide), monLine_is (m := .stat) rfl (by decide) (by decide) (by decide),
      monLine_is (m := .lock) rfl (by decide) (by decide) (by decide), monLine_is (m := .challenge) rfl (by decide) (by decide) (by decide)⟩

end Sys2Proof.Machine
end

section
/-! SUPPORT. What the command path's answers leave alone: the measurement system, memory, the faults' part, and every word outside its own block and
the Ethernet ports', one lemma for each operation by which an answer goes, in the style of `State.Timed`. -/

namespace Sys2Proof.Machine

open Sys2Proof

/- These lemmas wait for those before them, and all at once they would ask for a thread each. -/
set_option Elab.async false

/-- The words of the Ethernet ports and of the command path's own block are not those from 0x04000000 to 0x0CFFFFFC. -/
structure AnswersOnly (s t : State) : Prop where
  meas : t.meas = s.meas
  mem : t.mem = s.mem
  flt : t.flt = s.flt
  word : ∀ a, 0x04000000 ≤ a → a < 0x0D000000 → t.word a = s.word a

namespace AnswersOnly

variable {s t : State}

theorem refl (s : State) : AnswersOnly s s := ⟨rfl, rfl, rfl, fun _ _ _ => rfl⟩

/-- An update of other fields than `regs`, `meas`, `mem` and `flt`. -/
theorem keep {power flash sto clk ses canRx canTx mon lastCommit turn seen seenOld duo mod drv therm isl net atB cells link loop pol out
    free pending} (h : AnswersOnly s t) :
    AnswersOnly s { regs := t.regs, mem := t.mem, power := power, flash := flash, sto := sto, clk := clk, ses := ses, canRx := canRx,
                    canTx := canTx, mon := mon, lastCommit := lastCommit, turn := turn, seen := seen, seenOld := seenOld, flt := t.flt, duo := duo,
                    mod := mod, drv := drv, meas := t.meas, therm := therm, isl := isl, net := net, atB := atB, cells := cells, link := link,
                    loop := loop, pol := pol, out := out, free := free, pending := pending } := ⟨h.meas, h.mem, h.flt, h.word⟩

section

variable {f : Fld} (h : AnswersOnly s t)
include h

/-- A field of the command path's block. -/
theorem wr {v : Nat} (ha : f.addr < 0x04000000) : AnswersOnly s (t.wr f v) :=
  ⟨h.meas, h.mem, h.flt, fun a h4 hd => (State.word_setWord_other t _ (by omega)).trans (h.word a h4 hd)⟩

/-- A field of an Ethernet port or beyond. -/
theorem incHigh (ha : 0x0D000000 ≤ f.addr) : AnswersOnly s (t.inc f) :=
  ⟨h.meas, h.mem, h.flt, fun a h4 hd => (State.word_setWord_other t _ (by omega)).trans (h.word a h4 hd)⟩

theorem ite {c : Prop} [Decidable c] {u : State} (h' : AnswersOnly s u) : AnswersOnly s (if c then t else u) := by
  split <;> assumption

end

/-- A conditional whose first branch goes on from the second. -/
theorem when {c : Prop} [Decidable c] {a b : State} (hb : AnswersOnly s b) (ha : AnswersOnly s b → AnswersOnly s a) :
    AnswersOnly s (if c then a else b) := .ite (ha hb) hb

theorem foldl {α : Type} {f : State → α → State} {l : List α} (hf : ∀ t x, AnswersOnly s t → AnswersOnly s (f t x)) (h : AnswersOnly s t) :
    AnswersOnly s (l.foldl f t) := by
  induction l generalizing t with
  | nil => exact h
  | cons x l ih => exact ih (hf t x h)

/-! ### Replies -/

theorem sessionAddr_low : ∀ i : Fin 4, (Reg.CMD_SESSION_OUTSTANDING i).addr < 0x04000000 ∧ (Reg.CMD_SESSION_SHADOW_COUNT i).addr < 0x04000000
    ∧ (Reg.CMD_SESSION_IDLE i).addr < 0x04000000 ∧ (Reg.CMD_SESSION_BASE_SEQ i).addr < 0x04000000 := by decide

theorem setSess {i x} (h : AnswersOnly s t) : AnswersOnly s (t.setSess i x) := by
  obtain ⟨ho, hc, hi, -⟩ := sessionAddr_low i
  exact wr (wr (wr (keep h) ho) hc) hi

theorem put {o} (h : AnswersOnly s t) : AnswersOnly s (t.put o) := keep h

theorem monPut {line} (h : AnswersOnly s t) : AnswersOnly s (t.monPut line) := .ite (h.wr (by decide)) <| .put <| .keep h

theorem sendReply {d r m} (h : AnswersOnly s t) : AnswersOnly s (t.sendReply d r m) := by
  refine .ite h ?_
  have hput : AnswersOnly s (t.put (.reply d r)) := .put h
  dsimp only
  split
  · exact .monPut h
  · exact .keep hput
  · exact .keep hput
  · exact .when hput fun h => h.incHigh (by decide)
  · exact .when hput fun h => h.incHigh (by decide)

theorem complete {i hd st p k m} (h : AnswersOnly s t) : AnswersOnly s (t.complete i hd st p k m) := by
  obtain ⟨-, -, -, hb⟩ := sessionAddr_low i
  exact .sendReply <| .setSess <| h.wr hb

theorem drainRefused {n i} (h : AnswersOnly s t) : AnswersOnly s (State.drainRefused n i t) := by
  induction n generalizing t with
  | zero => exact h
  | succ n ih =>
    unfold State.drainRefused
    refine .ite h ?_
    split
    · exact ih (.complete (.setSess h))
    · exact h

theorem finish {i hd st p k m} (h : AnswersOnly s t) : AnswersOnly s (t.finish i hd st p k m) := .drainRefused <| .complete h

theorem endOrphan {i f st p} (h : AnswersOnly s t) : AnswersOnly s (t.endOrphan i f st p) := by
  unfold State.endOrphan
  dsimp only
  split
  · exact .sendReply <| .setSess h
  · exact h

theorem endOpsOf {f st p i} (h : AnswersOnly s t) : AnswersOnly s (State.endOpsOf f st p t i) := by
  have hfold : AnswersOnly s ((t.sess i).orphans.foldl (fun t _ => t.endOrphan i f st p) t) := .foldl (fun _ _ => .endOrphan) h
  unfold State.endOpsOf
  dsimp only
  split
  · exact .when hfold fun h => .finish <| .setSess h
  · exact hfold

theorem endOps {f st p} (h : AnswersOnly s t) : AnswersOnly s (t.endOps f st p) := .foldl (fun _ _ => .endOpsOf) h

/-- A field between the two blocks. -/
theorem rd (h : AnswersOnly s t) {f : Fld} (h4 : 0x04000000 ≤ f.addr) (hd : f.addr < 0x0D000000) : t.rd f = s.rd f := by
  unfold State.rd
  rw [h.word _ h4 hd]

end AnswersOnly

end Sys2Proof.Machine
end

section
/-! SUPPORT. Relief runs and the calibration commands (R434 to R436, R445). -/

namespace Sys2Proof.Machine

open Sys2Proof

/-! ### The queue of relief runs -/

/-- A converter joins the queue. -/
def State.reliefQueued (s : State) (x : Nat) : State := ({ s with meas := { s.meas with queue := s.meas.queue ++ [x] } }).showQueue

section

variable (s : State)

theorem State.askRelief_new {x : Nat} (hq : x ∉ s.meas.queue) (hr : ∀ p, s.meas.relief = some p → p.1 ≠ x) : s.askRelief x = s.reliefQueued x := by
  have hc : ¬ (s.meas.queue.contains x || (s.meas.relief.map (fun p => p.1)) == some x) = true := by
    have hrel : ((s.meas.relief.map (fun p => p.1)) == some x) = false := by
      cases h : s.meas.relief with
      | none => rfl
      | some p => simpa using hr p h
    rw [hrel, Bool.or_false, List.contains_iff_mem]
    exact hq
  unfold State.askRelief
  rw [if_neg hc]
  rfl

theorem State.reliefQueued_upd (x : Nat) : ∃ l, s.reliefQueued x = { s with regs := l, meas := { s.meas with queue := s.meas.queue ++ [x] } } := ⟨_, rfl⟩

theorem Keeps.reliefQueued (x : Nat) : Keeps s (s.reliefQueued x) [Reg.MEAS_RELIEF_QUEUED] :=
  (Keeps.of_regs (t := { s with meas := { s.meas with queue := s.meas.queue ++ [x] } }) rfl _).wr _ List.mem_cons_self (by decide)

end

theorem State.taken_meas (s : State) (r : Req) : (s.taken r).meas = s.meas := by obtain ⟨l, x, e⟩ := State.taken_upd s r; rw [e]

/-! ### The calibration commands -/

section

variable {s : State} {r : Req} (hr : Ready s r Verb.CAL)
include hr

theorem calAdc_queues {x : Fin 4} (hq : x.val ∉ s.meas.queue) (hrel : ∀ p, s.meas.relief = some p → p.1 ≠ x.val) :
    ∃ t, exec (.calAdc r x 0) s = .next t ∧ Started s t r Verb.CAL (.cal x.val) s.stage
      ∧ t = { s with regs := t.regs, ses := t.ses, turn := r.session, out := [], meas := { s.meas with queue := s.meas.queue ++ [x.val] } }
      ∧ Keeps s t (Reg.MEAS_RELIEF_QUEUED :: sessionFlds r.session) := by
  obtain ⟨u, hu⟩ : ∃ u : State, u = (s.taken r).reliefQueued x := ⟨_, rfl⟩
  have hk : Keeps (s.taken r) u [Reg.MEAS_RELIEF_QUEUED] := hu ▸ Keeps.reliefQueued _ _
  have hstage : u.stage = s.stage := (hk.stage (by decide)).trans (State.stage_taken s r)
  have hact : actCalAdc x 0 (s.taken r) = ⟨Status.OK, [], u, some (.cal x.val), s.stage⟩ := by
    unfold actCalAdc
    rw [if_neg (by decide), State.askRelief_new _ (by rw [State.taken_meas]; exact hq) (by rw [State.taken_meas]; exact hrel), ← hu,
      State.stage_taken]
    rfl
  obtain ⟨l, hupd⟩ := (s.taken r).reliefQueued_upd x
  rw [← hu] at hupd
  obtain ⟨t, ht, hst, htu, -, hkt⟩ := execVerb_begins hr (by decide) false (.calAdc r x 0) hact (by rw [hupd]) hk (by decide)
  obtain ⟨l', y, e⟩ := State.taken_upd s r
  rw [hupd, State.taken_meas, e] at htu
  exact ⟨t, ht, hst, htu, hkt⟩

/-- A calibration that begins at once and stays in execution. -/
theorem cal_begins (cmd : Instr) {act : Action} {op : LongOp} {M : Measure}
    (ha : act (s.taken r) = ⟨Status.OK, [], { s.taken r with meas := M }, some op, s.stage⟩) :
    ∃ t, execVerb s r Verb.CAL 0 false cmd act = .next t ∧ Started s t r Verb.CAL op s.stage
      ∧ t = { s with regs := t.regs, ses := t.ses, turn := r.session, out := [], meas := M } ∧ Keeps s t (sessionFlds r.session) := by
  obtain ⟨t, ht, hst, htu, hk⟩ := execVerb_begins_words hr (by decide) false cmd ha rfl rfl
  obtain ⟨l, x, e⟩ := State.taken_upd s r
  rw [e] at htu
  exact ⟨t, ht, hst, htu, hk⟩

theorem calAdc4_begins (hq : s.meas.queue = []) (hrel : s.meas.relief = none) (h4 : s.meas.cal4 = false) :
    ∃ t, exec (.calAdc4 r 0) s = .next t ∧ Started s t r Verb.CAL .cal4 s.stage
      ∧ t = { s with regs := t.regs, ses := t.ses, turn := r.session, out := [], meas := { s.meas with cal4 := true } }
      ∧ Keeps s t (sessionFlds r.session) := by
  refine cal_begins hr (.calAdc4 r 0) ?_
  unfold actCalAdc4
  rw [if_neg (by decide), if_neg (by rw [State.taken_meas, hq, hrel, h4]; decide), State.stage_taken, State.taken_meas]
  rfl

theorem calSdOffset_begins (hst : s.station = St.STANDBY) (hc : s.meas.calSd = none) :
    ∃ t, exec (.calSdOffset r 0) s = .next t ∧ Started s t r Verb.CAL .calSd s.stage
      ∧ t = { s with regs := t.regs, ses := t.ses, turn := r.session, out := [], meas := { s.meas with calSd := some (List.replicate 4 (0, 0, 0)) } }
      ∧ Keeps s t (sessionFlds r.session) := by
  refine cal_begins hr (.calSdOffset r 0) ?_
  unfold actCalSdOffset
  rw [if_neg (by decide), if_neg (by rw [State.station_taken, hst]; decide), if_neg (by rw [State.taken_meas, hc]; decide), State.stage_taken,
    State.taken_meas]
  rfl

theorem calSdOffset_refused (hst : s.station ≠ St.STANDBY) :
    ∃ t, exec (.calSdOffset r 0) s = .next t ∧ Completed s t r Verb.CAL 0 Status.BUSY_RUNNING [] s.stage
      ∧ t = { s with regs := t.regs, ses := t.ses, turn := r.session, canTx := t.canTx, out := t.out } ∧ Keeps s t (sessionFlds r.session) := by
  refine execVerb_no hr (by decide) false (.calSdOffset r 0) ?_
  unfold actCalSdOffset
  rw [if_neg (by decide), if_pos (by rw [State.station_taken]; exact hst)]

theorem calAdc_refused {x : Fin 4} {p : Word} (hp : p ≠ 0) :
    ∃ t, exec (.calAdc r x p) s = .next t ∧ Completed s t r Verb.CAL 0 Status.VALUE_OUT_OF_RANGE [] s.stage
      ∧ t = { s with regs := t.regs, ses := t.ses, turn := r.session, canTx := t.canTx, out := t.out } ∧ Keeps s t (sessionFlds r.session) := by
  refine execVerb_no hr (by decide) false (.calAdc r x p) ?_
  unfold actCalAdc
  rw [if_pos hp]

end

/-! ### The phases of a relief run (R434) -/

section

variable {s : State} (hr : s.running = true)
include hr

theorem autoCalRequest_queues (ha : s.rd Reg.MEAS_CAL_CFG_AUTO_S ≠ 0) (hn : s.rd Reg.MEAS_CAL_CFG_AUTO_S * 250000000 < s.meas.autoNs + s.tsNs)
    (hq : s.meas.auto ∉ s.meas.queue) (hrel : ∀ p, s.meas.relief = some p → p.1 ≠ s.meas.auto) :
    ∃ t, exec .autoCalRequest s = .next t
      ∧ t = { s with regs := t.regs, out := [], meas := { s.meas with auto := (s.meas.auto + 1) % 4, autoNs := t.meas.autoNs, queue := s.meas.queue ++ [s.meas.auto] } }
      ∧ Keeps s t [Reg.MEAS_RELIEF_QUEUED] := by
  obtain ⟨v, hv⟩ : ∃ v : State, v = { s with out := [] } := ⟨_, rfl⟩
  obtain ⟨n, hne⟩ : ∃ n : Nat, n = s.rd Reg.MEAS_CAL_CFG_AUTO_S * 250000000 := ⟨_, rfl⟩
  obtain ⟨u, hu⟩ : ∃ u : State, u = { v with meas := { v.meas with auto := (v.meas.auto + 1) % 4, autoNs := v.meas.autoNs - n } } := ⟨_, rfl⟩
  have hmeas : v.meas = s.meas := by rw [hv]
  have hcond : ¬ (v.rd Reg.MEAS_CAL_CFG_AUTO_S * 250000000 = 0 ∨ (!(v.heldFor v.meas.autoNs (v.rd Reg.MEAS_CAL_CFG_AUTO_S * 250000000))) = true) := by
    have hheld : s.heldFor s.meas.autoNs (s.rd Reg.MEAS_CAL_CFG_AUTO_S * 250000000) = true := decide_eq_true hn
    have hrd : v.rd Reg.MEAS_CAL_CFG_AUTO_S = s.rd Reg.MEAS_CAL_CFG_AUTO_S := State.rd_congr (by rw [hv]) _
    have hfor (a b : Nat) : v.heldFor a b = s.heldFor a b := by rw [hv]; rfl
    rw [hrd, hmeas, hfor, hheld]
    rintro (h | h)
    · omega
    · exact absurd h (by decide)
  have hexec : exec .autoCalRequest s = .next (u.reliefQueued s.meas.auto) := by
    have hrd : v.rd Reg.MEAS_CAL_CFG_AUTO_S = s.rd Reg.MEAS_CAL_CFG_AUTO_S := State.rd_congr (by rw [hv]) _
    show execAutoCalRequest s = _
    rw [execAutoCalRequest, onRun_eq hr, ← hv]
    refine congrArg _ ((if_neg hcond).trans ?_)
    rw [hrd, ← hne, ← hu, hmeas]
    exact State.askRelief_new u (by rw [hu, hmeas]; exact hq) (by rw [hu, hmeas]; exact hrel)
  obtain ⟨l, hupd⟩ := u.reliefQueued_upd s.meas.auto
  refine ⟨_, hexec, ?_, (Keeps.of_regs (t := u) (by rw [hu, hv]) _).trans (Keeps.reliefQueued u _)⟩
  rw [hupd, hu, hv]

/-- The fields with which a relief run that starts shows itself, `q` the converters still queued. -/
def reliefFlds (q x : Nat) : List (Fld × Nat) :=
  [(Reg.MEAS_RELIEF_QUEUED, q), (Reg.MEAS_RELIEF_BUSY, 1), (Reg.MEAS_RELIEF_SERVING, x), (Reg.MEAS_DATA_RELIEF_OF 4, x)]

/-- What RELIEF_RUN_START leaves. -/
def State.reliefStarted (s : State) (x : Nat) (l : List Nat) : State :=
  ({ s with meas := { s.meas with queue := l, relief := some (x, .connected), coefs := none } }.wrs
    (reliefFlds (l.foldl (fun n y => n + 2 ^ y) 0) x)).inc Reg.MEAS_RELIEF_RUNS

omit hr in
theorem State.reliefStarted_shows (x : Nat) (l : List Nat) :
    (∃ r, s.reliefStarted x l = { s with regs := r, meas := { s.meas with queue := l, relief := some (x, .connected), coefs := none } })
      ∧ (s.reliefStarted x l).rd Reg.MEAS_RELIEF_BUSY = 1 ∧ (s.reliefStarted x l).rd Reg.MEAS_RELIEF_SERVING = x % 8
      ∧ (s.reliefStarted x l).rd (Reg.MEAS_DATA_RELIEF_OF 4) = x % 8
      ∧ (s.reliefStarted x l).rd Reg.MEAS_RELIEF_RUNS = s.oneMore Reg.MEAS_RELIEF_RUNS
      ∧ Keeps s (s.reliefStarted x l)
          [Reg.MEAS_RELIEF_QUEUED, Reg.MEAS_RELIEF_BUSY, Reg.MEAS_RELIEF_SERVING, Reg.MEAS_DATA_RELIEF_OF 4, Reg.MEAS_RELIEF_RUNS] := by
  obtain ⟨v, hv⟩ : ∃ v : State, v = { s with meas := { s.meas with queue := l, relief := some (x, .connected), coefs := none } } := ⟨_, rfl⟩
  obtain ⟨q, hq⟩ : ∃ q : Nat, q = l.foldl (fun n y => n + 2 ^ y) 0 := ⟨_, rfl⟩
  have hall : ∀ f ∈ [Reg.MEAS_RELIEF_QUEUED, Reg.MEAS_RELIEF_BUSY, Reg.MEAS_RELIEF_SERVING, Reg.MEAS_DATA_RELIEF_OF 4], f.within := by decide
  have hwith : ∀ p ∈ reliefFlds q x, p.1.within := fun p hp => hall _ (List.mem_map_of_mem (f := Prod.fst) hp)
  have hpair : (reliefFlds q x).Pairwise fun p q => q.1.apart p.1 :=
    (List.pairwise_map (f := Prod.fst) (R := fun f g : Fld => g.apart f)).mp (by
      show [Reg.MEAS_RELIEF_QUEUED, Reg.MEAS_RELIEF_BUSY, Reg.MEAS_RELIEF_SERVING, Reg.MEAS_DATA_RELIEF_OF 4].Pairwise fun f g => g.apart f
      decide)
  have hrd {f : Fld} {n : Nat} (hp : (f, n) ∈ reliefFlds q x) (ha : f.within ∧ Reg.MEAS_RELIEF_RUNS.apart f) :
      ((v.wrs (reliefFlds q x)).inc Reg.MEAS_RELIEF_RUNS).rd f = n % 2 ^ (f.msb - f.lsb + 1) :=
    (State.rd_wr_apart _ _ (by decide) ha.1 ha.2).trans (State.rd_wrs hwith hpair hp v)
  have hk : Keeps s (v.wrs (reliefFlds q x)) [Reg.MEAS_RELIEF_QUEUED, Reg.MEAS_RELIEF_BUSY, Reg.MEAS_RELIEF_SERVING, Reg.MEAS_DATA_RELIEF_OF 4] :=
    (Keeps.of_regs (t := v) (by rw [hv]) _).wrs fun p hp => ⟨List.mem_map_of_mem (f := Prod.fst) hp, hwith p hp⟩
  unfold State.reliefStarted
  rw [← hv, ← hq]
  refine ⟨?_, hrd (f := Reg.MEAS_RELIEF_BUSY) (n := 1) (by simp [reliefFlds]) (by decide),
    hrd (f := Reg.MEAS_RELIEF_SERVING) (n := x) (by simp [reliefFlds]) (by decide),
    hrd (f := Reg.MEAS_DATA_RELIEF_OF 4) (n := x) (by simp [reliefFlds]) (by decide),
    (State.rd_inc_same _ (by decide)).trans (State.oneMore_congr (hk _ (by decide) (by decide))), (hk.mono (by simp)).inc 1 (by decide) (by decide)⟩
  obtain ⟨r, e⟩ := v.wrs_upd (reliefFlds q x)
  obtain ⟨z, hz⟩ : ∃ z, (v.wrs (reliefFlds q x)).inc Reg.MEAS_RELIEF_RUNS = { v.wrs (reliefFlds q x) with regs := z } := ⟨_, rfl⟩
  exact ⟨z, by rw [hz, e, hv]⟩

theorem reliefRunStart_starts {x : Nat} {l : List Nat} (hq : s.meas.queue = x :: l) (hrel : s.meas.relief = none) (h4 : s.meas.cal4 = false) :
    exec .reliefRunStart s = .next (({ s with out := [] } : State).reliefStarted x l) := by
  have hfree : ¬ (s.meas.relief.isSome || s.meas.cal4) = true := by
    rw [hrel, h4]
    decide
  show execReliefRunStart s = _
  rw [execReliefRunStart, onRun_eq hr]
  simp only [hq, if_neg hfree]
  rfl

theorem reliefHandover_takes {x : Fin 4} (hrel : s.meas.relief = some (x.val, .connected)) (hb : (s.adcOf x).busy = false) :
    ∃ t, exec .reliefHandover s = .next t
      ∧ t = { s with regs := t.regs, out := [], meas := { s.meas with relief := some (x.val, .running), reliefNs := 0, adc := t.meas.adc } }
      ∧ t.rd (Reg.MEAS_DATA_RELIEVED x) = 1 ∧ Keeps s t [Reg.MEAS_DATA_RELIEVED x] := by
  obtain ⟨v, hv⟩ : ∃ v : State, v = { s with out := [], meas := { s.meas with relief := some (x.val, .running), reliefNs := 0 } } := ⟨_, rfl⟩
  have hidx : Fin.ofNat 4 x.val = x := Fin.ofNat_val_eq_self x
  have hb' : (({ s with out := [] } : State).adcOf x).busy = false := hb
  have hexec : exec .reliefHandover s = .next ((v.preset x).wr (Reg.MEAS_DATA_RELIEVED x) 1) := by
    show execReliefHandover s = _
    rw [execReliefHandover, onRun_eq hr]
    simp only [hrel, hidx, hb', Bool.false_eq_true, if_false]
    rw [hv]
  obtain ⟨a, ha⟩ : ∃ a, v.preset x = { v with meas := { v.meas with adc := a } } := ⟨_, rfl⟩
  obtain ⟨u, hu⟩ : ∃ u : State, u = v.preset x := ⟨_, rfl⟩
  rw [← hu] at hexec ha
  refine ⟨_, hexec, ?_, State.rd_wr_same _ _ Fld.within_mk, (Keeps.of_regs (t := u) (by rw [ha, hv]) _).wr 1 List.mem_cons_self Fld.within_mk⟩
  obtain ⟨z, hz⟩ : ∃ z, u.wr (Reg.MEAS_DATA_RELIEVED x) 1 = { u with regs := z } := ⟨_, rfl⟩
  rw [hz, ha, hv]

theorem reliefCalEnd_notes {x : Nat} {l : List (Int × Int)} (hrel : s.meas.relief = some (x, .running)) (hn : 2000000 < s.meas.reliefNs + s.tsNs) :
    exec (.reliefCalEnd l) s = .next { s with out := [], meas := { s.meas with relief := some (x, .calibrated), coefs := some l } } := by
  have hheld : (!(({ s with out := [] } : State).heldFor s.meas.reliefNs 2000000)) = false := by
    have h : s.heldFor s.meas.reliefNs 2000000 = true := decide_eq_true hn
    show (!(s.heldFor s.meas.reliefNs 2000000)) = false
    rw [h]
    rfl
  show execReliefCalEnd l s = _
  rw [execReliefCalEnd, onRun_eq hr]
  simp only [hrel, hheld, Bool.false_eq_true, if_false]

end

/-! ### A calibration's end (R436, R445) -/

section

variable {s : State} (x : Nat) {cs : Coefs}

/-- A converter's coefficients are stored, each in its gain's word. -/
def State.storeCoefs (s : State) (x : Nat) (cs : Coefs) : State :=
  cs.zipIdx.foldl (fun t p => t.setWord (0x0A000300 + 0x20 * x + 4 * p.2) (BitVec.ofNat 32 (ofSigned 16 p.1.1 * 65536 + ofSigned 16 p.1.2))) s

/-- Words set one after the other at rising addresses. -/
theorem State.word_setRow (b : Nat) (v : Int × Int → Word) (cs : Coefs) (k a : Nat) (s : State) :
    ((cs.zipIdx k).foldl (fun t p => t.setWord (b + 4 * p.2) (v p.1)) s).word a
      = (if b + 4 * k ≤ a ∧ (a - b) % 4 = 0 then (cs[(a - b) / 4 - k]?).elim (s.word a) v else s.word a) := by
  induction cs generalizing k s with
  | nil => simp
  | cons c cs ih =>
    rw [List.zipIdx_cons, List.foldl_cons, ih]
    by_cases ha : a = b + 4 * k
    · subst ha
      have hno : ¬ (b + 4 * (k + 1) ≤ b + 4 * k ∧ (b + 4 * k - b) % 4 = 0) := by omega
      have hyes : b + 4 * k ≤ b + 4 * k ∧ (b + 4 * k - b) % 4 = 0 := by omega
      have hix : (b + 4 * k - b) / 4 - k = 0 := by omega
      rw [if_neg hno, if_pos hyes, hix, State.word_setWord_same]
      rfl
    · rw [State.word_setWord_other _ _ ha]
      by_cases hc : b + 4 * k ≤ a ∧ (a - b) % 4 = 0
      · have hc' : b + 4 * (k + 1) ≤ a ∧ (a - b) % 4 = 0 := by omega
        have hix : (a - b) / 4 - k = (a - b) / 4 - (k + 1) + 1 := by omega
        rw [if_pos hc, if_pos hc', hix, List.getElem?_cons_succ]
      · have hc' : ¬ (b + 4 * (k + 1) ≤ a ∧ (a - b) % 4 = 0) := by omega
        rw [if_neg hc, if_neg hc']

theorem State.word_storeCoefs_same {g : Nat} {c : Int × Int} (hg : cs[g]? = some c) :
    (s.storeCoefs x cs).word (0x0A000300 + 0x20 * x + 4 * g) = BitVec.ofNat 32 (ofSigned 16 c.1 * 65536 + ofSigned 16 c.2) := by
  obtain ⟨b, hb⟩ : ∃ b : Nat, b = 0x0A000300 + 0x20 * x := ⟨_, rfl⟩
  unfold State.storeCoefs
  rw [← hb]
  refine (State.word_setRow b (fun c => BitVec.ofNat 32 (ofSigned 16 c.1 * 65536 + ofSigned 16 c.2)) cs 0 _ s).trans ?_
  have hix : (b + 4 * g - b) / 4 - 0 = g := by omega
  rw [if_pos (by omega), hix, hg]
  rfl

theorem State.word_storeCoefs_other {a : Nat} (ha : a < 0x0A000300 + 0x20 * x ∨ 0x0A000300 + 0x20 * x + 4 * cs.length ≤ a) :
    (s.storeCoefs x cs).word a = s.word a := by
  obtain ⟨b, hb⟩ : ∃ b : Nat, b = 0x0A000300 + 0x20 * x := ⟨_, rfl⟩
  rw [← hb] at ha
  unfold State.storeCoefs
  rw [← hb]
  refine (State.word_setRow b (fun c => BitVec.ofNat 32 (ofSigned 16 c.1 * 65536 + ofSigned 16 c.2)) cs 0 _ s).trans ?_
  split
  · next h =>
    rw [List.getElem?_eq_none (by omega)]
    rfl
  · rfl

theorem State.storeCoefs_upd : ∃ l, s.storeCoefs x cs = { s with regs := l } := by
  unfold State.storeCoefs
  refine List.foldlRecOn (motive := fun t : State => ∃ l, t = { s with regs := l }) _ _ ⟨s.regs, rfl⟩ fun t ht p _ => ?_
  obtain ⟨l, rfl⟩ := ht
  exact ⟨_, rfl⟩

/-- What a finished calibration of a converter shows (R445). -/
theorem State.showCal_shows {ok : Bool} (h4 : ok = true → cs.length = 4) :
    (∃ l, s.showCal x cs ok = { s with regs := l })
      ∧ (s.showCal x cs ok).rd (Reg.MEAS_CAL_CAL_COUNT x) = s.oneMore (Reg.MEAS_CAL_CAL_COUNT x)
      ∧ (ok = true → ∀ g : Nat, ∀ c : Int × Int, cs[g]? = some c →
          (s.showCal x cs ok).word (0x0A000300 + 0x20 * x + 4 * g) = BitVec.ofNat 32 (ofSigned 16 c.1 * 65536 + ofSigned 16 c.2))
      ∧ (ok = false → (s.showCal x cs ok).rd (Reg.MEAS_CAL_FAIL_COUNT x) = s.oneMore (Reg.MEAS_CAL_FAIL_COUNT x))
      ∧ ∀ a : Nat, a < 0x0A000300 + 0x20 * x ∨ 0x0A000318 + 0x20 * x ≤ a → (s.showCal x cs ok).word a = s.word a := by
  obtain ⟨v, hv⟩ : ∃ v : State, v = if ok then s.storeCoefs x cs else s.inc (Reg.MEAS_CAL_FAIL_COUNT x) := ⟨_, rfl⟩
  obtain ⟨n, he⟩ : ∃ n : Nat, s.showCal x cs ok = (v.wr (Reg.MEAS_CAL_CAL_STAGE x) n).inc (Reg.MEAS_CAL_CAL_COUNT x) := by
    rw [hv]
    exact ⟨_, rfl⟩
  obtain ⟨u, hu⟩ : ∃ u : State, u = v.wr (Reg.MEAS_CAL_CAL_STAGE x) n := ⟨_, rfl⟩
  have hstage : (Reg.MEAS_CAL_CAL_STAGE x).addr = 0x0A000310 + 0x20 * x := rfl
  have hcount : (Reg.MEAS_CAL_CAL_COUNT x).addr = 0x0A000314 + 0x20 * x ∧ (Reg.MEAS_CAL_FAIL_COUNT x).addr = 0x0A000314 + 0x20 * x := ⟨rfl, rfl⟩
  have huv {f : Fld} (hf : f.addr = 0x0A000314 + 0x20 * x) : u.rd f = v.rd f := by
    rw [hu]
    exact State.rd_wr_elsewhere _ _ (by omega)
  have hwords (a : Nat) (ha : a ≠ 0x0A000310 + 0x20 * x) (ha' : a ≠ 0x0A000314 + 0x20 * x) : (u.inc (Reg.MEAS_CAL_CAL_COUNT x)).word a = v.word a := by
    refine (State.word_setWord_other u _ ha').trans ?_
    rw [hu]
    exact State.word_setWord_other v _ ha
  rw [he, ← hu]
  refine ⟨?_, ?_, fun hok g c hg => ?_, fun hbad => ?_, fun a ha => ?_⟩
  · obtain ⟨l, hl⟩ : ∃ l, v = { s with regs := l } := by
      rw [hv]
      split
      · exact State.storeCoefs_upd x
      · exact ⟨_, rfl⟩
    obtain ⟨z, hz⟩ : ∃ z, u.inc (Reg.MEAS_CAL_CAL_COUNT x) = { u with regs := z } := ⟨_, rfl⟩
    obtain ⟨y, hy⟩ : ∃ y, v.wr (Reg.MEAS_CAL_CAL_STAGE x) n = { v with regs := y } := ⟨_, rfl⟩
    exact ⟨z, by rw [hz, hu, hy, hl]⟩
  · refine (State.rd_inc_same _ Fld.within_mk).trans (State.oneMore_congr ((huv hcount.1).trans ?_))
    rw [hv]
    cases ok with
    | true =>
      have hlen := h4 rfl
      rw [if_pos rfl]
      unfold State.rd
      rw [hcount.1, State.word_storeCoefs_other x (Or.inr (by omega))]
      rfl
    | false =>
      rw [if_neg Bool.false_ne_true]
      exact State.rd_wr_bits _
  · have hlen := h4 hok
    have hlt : g < 4 := hlen ▸ (List.getElem?_eq_some_iff.mp hg).1
    rw [hwords _ (by omega) (by omega), hv, hok, if_pos rfl]
    exact State.word_storeCoefs_same x hg
  · have hbits : (u.inc (Reg.MEAS_CAL_CAL_COUNT x)).rd (Reg.MEAS_CAL_FAIL_COUNT x) = u.rd (Reg.MEAS_CAL_FAIL_COUNT x) := State.rd_wr_bits _
    rw [hbits, huv hcount.2, hv, hbad, if_neg Bool.false_ne_true]
    exact State.rd_inc_same _ Fld.within_mk
  · rw [hwords a (by omega) (by omega), hv]
    cases ok with
    | true =>
      have hlen := h4 rfl
      rw [if_pos rfl]
      exact State.word_storeCoefs_other x (by omega)
    | false =>
      rw [if_neg Bool.false_ne_true]
      exact State.word_setWord_other s _ (by rw [hcount.2]; omega)

end

/-- Coefficients within their bounds are those of four gains (R436). -/
theorem coefsOk_length {cs : Coefs} (h : coefsOk cs = true) : cs.length = 4 := by
  unfold coefsOk at h
  rw [Bool.and_eq_true, decide_eq_true_iff] at h
  exact h.1

/-- A calibration's end shows it, and then answers whoever waits for it. -/
theorem State.endCal_answers (s : State) (x : Nat) (cs : Coefs) (f : LongOp → Bool) :
    AnswersOnly (s.showCal x cs (coefsOk cs)) (s.endCal x cs f) := by
  unfold State.endCal
  dsimp only
  split <;> exact .endOps (.refl _)

/-- What a calibration's end leaves and shows. -/
theorem State.endCal_shows (s : State) {x : Nat} (hx : x ≤ 4) (cs : Coefs) (f : LongOp → Bool) :
    ((s.endCal x cs f).meas = s.meas ∧ (s.endCal x cs f).mem = s.mem ∧ (s.endCal x cs f).flt = s.flt)
      ∧ (s.endCal x cs f).rd (Reg.MEAS_CAL_CAL_COUNT x) = s.oneMore (Reg.MEAS_CAL_CAL_COUNT x)
      ∧ (coefsOk cs = true → ∀ g : Nat, ∀ c : Int × Int, cs[g]? = some c →
          (s.endCal x cs f).word (0x0A000300 + 0x20 * x + 4 * g) = BitVec.ofNat 32 (ofSigned 16 c.1 * 65536 + ofSigned 16 c.2))
      ∧ (coefsOk cs = false → (s.endCal x cs f).rd (Reg.MEAS_CAL_FAIL_COUNT x) = s.oneMore (Reg.MEAS_CAL_FAIL_COUNT x))
      ∧ ∀ g : Fld, 0x04000000 ≤ g.addr → g.addr < 0x0D000000 → g.addr < 0x0A000300 + 0x20 * x ∨ 0x0A000318 + 0x20 * x ≤ g.addr →
          (s.endCal x cs f).rd g = s.rd g := by
  have hans := s.endCal_answers x cs f
  obtain ⟨⟨l, hupd⟩, hcount, hcoefs, hfail, hother⟩ := State.showCal_shows (s := s) x (cs := cs) (ok := coefsOk cs) coefsOk_length
  obtain ⟨v, hv⟩ : ∃ v : State, v = s.showCal x cs (coefsOk cs) := ⟨_, rfl⟩
  rw [← hv] at hans hupd hcount
  simp only [← hv] at hcoefs hfail hother
  have hc : (Reg.MEAS_CAL_CAL_COUNT x).addr = 0x0A000314 + 0x20 * x ∧ (Reg.MEAS_CAL_FAIL_COUNT x).addr = 0x0A000314 + 0x20 * x := ⟨rfl, rfl⟩
  refine ⟨⟨hans.meas.trans (by rw [hupd]), hans.mem.trans (by rw [hupd]), hans.flt.trans (by rw [hupd])⟩,
    (hans.rd (by omega) (by omega)).trans hcount, fun hok g c hg => ?_, fun hbad => (hans.rd (by omega) (by omega)).trans (hfail hbad),
    fun g h4 hd ha => (hans.rd h4 hd).trans ?_⟩
  · have hlt : g < 4 := coefsOk_length hok ▸ (List.getElem?_eq_some_iff.mp hg).1
    rw [hans.word _ (by omega) (by omega)]
    exact hcoefs hok g c hg
  · unfold State.rd
    rw [hother _ ha]

section

variable {s : State} (hr : s.running = true)
include hr

theorem adc4CalDone_ends (l : Coefs) (h4 : s.meas.cal4 = true) :
    exec (.adc4CalDone l) s = .next (({ s with out := [], meas := { s.meas with cal4 := false } } : State).endCal 4 l fun o => o == LongOp.cal4) := by
  show execAdc4CalDone l s = _
  rw [execAdc4CalDone, onRun_eq hr]
  simp only [h4, if_true]

/-- The fields that a hand back writes, and the itinerary's owner. -/
def handbackFlds (x : Nat) : List (Fld × Nat) :=
  [(Reg.MEAS_DATA_RELIEVED x, 0), (Reg.MEAS_RELIEF_BUSY, 0), (Reg.MEAS_RELIEF_SERVING, 7), (Reg.MEAS_DATA_RELIEF_OF 4, 7)]

omit hr in
theorem handbackFlds_facts : ∀ x : Fin 4, (∀ p ∈ handbackFlds x, p.1.within ∧ 0x0A000100 ≤ p.1.addr ∧ p.1.addr < 0x0A000600
    ∧ (p.1.addr < 0x0A000300 ∨ 0x0A000500 ≤ p.1.addr)) ∧ (handbackFlds x).Pairwise fun p q => q.1.apart p.1 := by decide

theorem reliefHandback_ends {x : Fin 4} {l : Coefs} (hrel : s.meas.relief = some (x.val, .calibrated)) (hl : s.meas.coefs = some l)
    (hb : (s.adcOf x).busy = false) : exec .reliefHandback s = .next
      (((({ s with out := [], meas := { s.meas with relief := none, coefs := none } } : State).preset x).wrs (handbackFlds x)).endCal x l
        fun o => o == .cal x.val) := by
  have hidx : Fin.ofNat 4 x.val = x := Fin.ofNat_val_eq_self x
  have hb' : (({ s with out := [] } : State).adcOf x).busy = false := hb
  show execReliefHandback s = _
  rw [execReliefHandback, onRun_eq hr]
  simp only [hrel, hidx, hb', hl, Bool.false_eq_true, if_false]
  rfl

theorem reliefHandback_shows {x : Fin 4} {l : Coefs} (hrel : s.meas.relief = some (x.val, .calibrated)) (hl : s.meas.coefs = some l)
    (hb : (s.adcOf x).busy = false) :
    ∃ t, exec .reliefHandback s = .next t ∧ t.meas.relief = none ∧ t.meas.table = s.meas.table ∧ t.mem = s.mem ∧ t.flt = s.flt
      ∧ t.rd (Reg.MEAS_DATA_RELIEVED x) = 0 ∧ t.rd Reg.MEAS_RELIEF_BUSY = 0
      ∧ t.rd (Reg.MEAS_CAL_CAL_COUNT x) = s.oneMore (Reg.MEAS_CAL_CAL_COUNT x)
      ∧ (coefsOk l = true → ∀ g : Nat, ∀ c : Int × Int, l[g]? = some c →
          t.word (0x0A000300 + 0x20 * x.val + 4 * g) = BitVec.ofNat 32 (ofSigned 16 c.1 * 65536 + ofSigned 16 c.2))
      ∧ (coefsOk l = false → t.rd (Reg.MEAS_CAL_FAIL_COUNT x) = s.oneMore (Reg.MEAS_CAL_FAIL_COUNT x)) := by
  obtain ⟨hfacts, hpair⟩ := handbackFlds_facts x
  have hexec := reliefHandback_ends hr hrel hl hb
  obtain ⟨w, hw⟩ : ∃ w : State, w = { s with out := [], meas := { s.meas with relief := none, coefs := none } } := ⟨_, rfl⟩
  obtain ⟨a, ha⟩ : ∃ a, w.preset x = { w with meas := { w.meas with adc := a } } := ⟨_, rfl⟩
  obtain ⟨p, hp⟩ : ∃ p : State, p = w.preset x := ⟨_, rfl⟩
  obtain ⟨u, hu⟩ : ∃ u : State, u = p.wrs (handbackFlds x) := ⟨_, rfl⟩
  rw [← hw, ← hp, ← hu] at hexec
  rw [← hp] at ha
  obtain ⟨r, e⟩ := p.wrs_upd (handbackFlds x)
  have hupd : u = { s with regs := r, out := [], meas := { s.meas with relief := none, coefs := none, adc := a } } := by rw [hu, e, ha, hw]
  have hshown {q : Fld × Nat} (hq : q ∈ handbackFlds x) : u.rd q.1 = q.2 % 2 ^ (q.1.msb - q.1.lsb + 1) :=
    hu ▸ State.rd_wrs (fun q hq => (hfacts q hq).1) hpair hq p
  have hkept : Keeps s u ((handbackFlds x).map Prod.fst) :=
    hu ▸ (Keeps.of_regs (t := p) (by rw [ha, hw]) _).wrs fun q hq => ⟨List.mem_map_of_mem hq, (hfacts q hq).1⟩
  have hx : x.val < 4 := x.isLt
  have hsame {f : Fld} (hf : f.within) (haddr : f.addr = 0x0A000314 + 0x20 * x.val) : u.rd f = s.rd f := by
    refine hkept f hf fun g hg => ?_
    obtain ⟨q, hq, rfl⟩ := List.mem_map.mp hg
    have := hfacts q hq
    exact Or.inl (by omega)
  have hcount : (Reg.MEAS_CAL_CAL_COUNT x).addr = 0x0A000314 + 0x20 * x.val ∧ (Reg.MEAS_CAL_FAIL_COUNT x).addr = 0x0A000314 + 0x20 * x.val := ⟨rfl, rfl⟩
  obtain ⟨⟨hm, hmem, hflt⟩, hcnt, hcoefs, hfail, hrest⟩ := u.endCal_shows (x := x.val) (by omega) l fun o => o == .cal x.val
  have hout {q : Fld × Nat} (hq : q ∈ handbackFlds x) : (u.endCal x l fun o => o == .cal x.val).rd q.1 = q.2 % 2 ^ (q.1.msb - q.1.lsb + 1) := by
    have := hfacts q hq
    exact (hrest q.1 (by omega) (by omega) (by omega)).trans (hshown hq)
  refine ⟨_, hexec, ?_, ?_, ?_, ?_, hout (q := (Reg.MEAS_DATA_RELIEVED x, 0)) (by simp [handbackFlds]),
    hout (q := (Reg.MEAS_RELIEF_BUSY, 0)) (by simp [handbackFlds]), hcnt.trans (State.oneMore_congr (hsame Fld.within_mk hcount.1)), hcoefs,
    fun hbad => (hfail hbad).trans (State.oneMore_congr (hsame Fld.within_mk hcount.2))⟩
  · rw [hm, hupd]
  · rw [hm, hupd]
  · rw [hmem, hupd]
  · rw [hflt, hupd]

end

/-- Settles O26: the commands by what their actions answer on the state that has taken the packet, a run's phases by what each leaves. -/
theorem reliefAndCalibration : Obligations.ReliefAndCalibration := by
  refine ⟨fun s hr ha hn _ hq hrel => autoCalRequest_queues hr ha hn hq hrel, ?_, fun s x hr hrel hb => reliefHandover_takes hr hrel hb,
    fun s x l hr hrel hn => ⟨_, reliefCalEnd_notes hr hrel hn, rfl⟩, fun s x l hr hrel hl hb => reliefHandback_shows hr hrel hl hb,
    fun s r x hr hq hrel => calAdc_queues hr hq hrel, fun s r hr hq hrel h4 => calAdc4_begins hr hq hrel h4,
    fun s r hr hst hc => calSdOffset_begins hr hst hc, fun s r hr hst => calSdOffset_refused hr hst, fun s r x p hr hp => calAdc_refused hr hp, ?_⟩
  · intro s x l hr hq hrel h4 hx
    obtain ⟨v, hv⟩ : ∃ v : State, v = { s with out := [] } := ⟨_, rfl⟩
    have hexec := reliefRunStart_starts hr hq hrel h4
    rw [← hv] at hexec
    obtain ⟨⟨z, hupd⟩, hbusy, hserving, hof, hruns, hk⟩ := State.reliefStarted_shows (s := v) x l
    have hmod : x % 8 = x := Nat.mod_eq_of_lt (by omega)
    refine ⟨_, hexec, ?_, hbusy, hserving.trans hmod, hof.trans hmod, hruns.trans (State.oneMore_congr (State.rd_congr (by rw [hv]) _)),
      (Keeps.of_regs (t := v) (by rw [hv]) _).trans hk⟩
    rw [hupd, hv]
  · intro s l hr h4
    obtain ⟨v, hv⟩ : ∃ v : State, v = { s with out := [], meas := { s.meas with cal4 := false } } := ⟨_, rfl⟩
    have hexec := adc4CalDone_ends hr l h4
    rw [← hv] at hexec
    obtain ⟨⟨hm, hmem, hflt⟩, hcnt, hcoefs, -, -⟩ := v.endCal_shows (x := 4) (by omega) l fun o => o == LongOp.cal4
    exact ⟨_, hexec, by rw [hm, hv], by rw [hmem, hv], by rw [hflt, hv], hcnt.trans (State.oneMore_congr (State.rd_congr (by rw [hv]) _)), hcoefs⟩

end Sys2Proof.Machine
end

section
/-! SUPPORT. What a commit and what follows it leave alone: the session whose APPLY waits, the stage, ID_BOOT_COUNT and POL_CFG, the flash, the queue and
the outputs already sent, one lemma for each operation, in the style of `State.Timed`. -/

namespace Sys2Proof.Machine

open Sys2Proof

/- These lemmas wait for those before them, and all at once they would ask for a thread each. -/
set_option Elab.async false

/-- What of a session no other session's answer touches. -/
def Session.own (x : Session) : Source × Option BusyCmd × List (Nat × List Byte) × List (Nat × Waiting) := (x.src, x.busy, x.shadow, x.waiting)

/-- Not a word of ID_BOOT_COUNT, of CLK_STAGE_COUNT or of POL_CFG. -/
abbrev Uncommitted (a : Nat) : Prop := a ≠ 0x414 ∧ a ≠ 0x01001000 ∧ a ≠ 0x01001004 ∧ (a < 0x08000100 ∨ 0x0800012C ≤ a)

theorem Uncommitted.between {a : Nat} (hl : 0x02000000 ≤ a) (hu : a < 0x08000000) : Uncommitted a := by
  unfold Uncommitted
  omega

/-- A register of a table below the policy's block. -/
theorem Uncommitted.entry {b k n m : Nat} (hn : n < m) (hb : 0x02000000 ≤ b := by decide) (hm : b + k * m < 0x08000000 := by decide) :
    Uncommitted (b + k * n) := by
  have := Nat.mul_le_mul_left k (Nat.le_of_lt hn)
  exact .between (Nat.le_add_right_of_le hb) (by omega)

/-- A register above the policy's block. -/
theorem Uncommitted.high {a : Nat} (ha : 0x09000000 ≤ a := by (repeat refine Nat.le_add_right_of_le ?_); decide) : Uncommitted a := by
  unfold Uncommitted
  omega

/-- A state in which session `i` waits, is busy and shows what it does in `s₀`, with the stage, POL_CFG and the flash of `s₀`, and all of its outputs. -/
structure State.Commits (s₀ : State) (i : Fin 4) (s : State) : Prop where
  own : (s.sess i).own = (s₀.sess i).own
  flash : s.flash = s₀.flash
  lastCommit : s.lastCommit = s₀.lastCommit
  duo : s.duo = s₀.duo
  pending : s.pending = s₀.pending
  out : ∀ o ∈ s₀.out, o ∈ s.out
  word : ∀ a, ¬Uncommitted a → s.word a = s₀.word a

namespace State.Commits

variable {s₀ s : State} {i : Fin 4}

theorem refl (s : State) (i : Fin 4) : s.Commits i s := ⟨rfl, rfl, rfl, rfl, rfl, fun _ h => h, fun _ _ => rfl⟩

theorem trans {t : State} (h : s₀.Commits i s) (h' : s.Commits i t) : s₀.Commits i t :=
  ⟨h'.own.trans h.own, h'.flash.trans h.flash, h'.lastCommit.trans h.lastCommit, h'.duo.trans h.duo, h'.pending.trans h.pending,
    fun o ho => h'.out o (h.out o ho), fun a ha => (h'.word a ha).trans (h.word a ha)⟩

theorem stage (h : s₀.Commits i s) : s.stage = s₀.stage := by
  unfold State.stage State.rd
  rw [h.word _ (by decide), h.word _ (by decide)]

theorem boot (h : s₀.Commits i s) : s.boot16 = s₀.boot16 := by
  unfold State.boot16 State.rd
  rw [h.word _ (by decide)]

theorem keeper (h : s₀.Commits i s) : s.isKeeper = s₀.isKeeper := by
  unfold State.isKeeper
  rw [h.duo]

/-- An update of fields that the relation does not name. -/
theorem keep {mem power sto clk canRx canTx mon turn seen seenOld flt mod drv meas therm isl net atB cells link loop pol free}
    (h : s₀.Commits i s) :
    s₀.Commits i { regs := s.regs, mem := mem, power := power, flash := s.flash, sto := sto, clk := clk, ses := s.ses, canRx := canRx,
                   canTx := canTx, mon := mon, lastCommit := s.lastCommit, turn := turn, seen := seen, seenOld := seenOld, flt := flt,
                   duo := s.duo, mod := mod, drv := drv, meas := meas, therm := therm, isl := isl, net := net, atB := atB, cells := cells,
                   link := link, loop := loop, pol := pol, out := s.out, free := free, pending := s.pending } :=
  ⟨h.own, h.flash, h.lastCommit, h.duo, h.pending, h.out, h.word⟩

theorem setWord {a w} (h : s₀.Commits i s) (ha : Uncommitted a := by decide) : s₀.Commits i (s.setWord a w) :=
  ⟨h.own, h.flash, h.lastCommit, h.duo, h.pending, h.out, fun b hb =>
    (State.word_setWord_other s w fun (e : b = a) => hb (e ▸ ha)).trans (h.word b hb)⟩

section

variable {f : Fld} (h : s₀.Commits i s) (ha : Uncommitted f.addr := by decide)
include h ha

theorem wr {v} : s₀.Commits i (s.wr f v) := setWord h ha
theorem wrB {b} : s₀.Commits i (s.wrB f b) := setWord h ha
theorem wrS {v} : s₀.Commits i (s.wrS f v) := setWord h ha
theorem wrSat {v} : s₀.Commits i (s.wrSat f v) := setWord h ha
theorem inc {n} : s₀.Commits i (s.inc f n) := setWord h ha
theorem see : s₀.Commits i (s.see f) := .keep <| .wr h ha

end

theorem ite {c : Prop} [Decidable c] {a b : State} (ha : s₀.Commits i a) (hb : s₀.Commits i b) : s₀.Commits i (if c then a else b) := by
  split <;> assumption

theorem dite {c : Prop} [Decidable c] {a : c → State} {b : ¬c → State} (ha : ∀ hc, s₀.Commits i (a hc)) (hb : ∀ hc, s₀.Commits i (b hc)) :
    s₀.Commits i (if hc : c then a hc else b hc) := by
  split
  · exact ha _
  · exact hb _

/-- A conditional whose first branch goes on from the second. -/
theorem when {c : Prop} [Decidable c] {a b : State} (hb : s₀.Commits i b) (ha : s₀.Commits i b → s₀.Commits i a) :
    s₀.Commits i (if c then a else b) := .ite (ha hb) hb

/-- A conditional whose second branch goes on from the first. -/
theorem orElse {c : Prop} [Decidable c] {a b : State} (ha : s₀.Commits i a) (hb : s₀.Commits i a → s₀.Commits i b) :
    s₀.Commits i (if c then a else b) := .ite ha (hb ha)

theorem foldlMem {α : Type} {f : State → α → State} {l : List α} (hf : ∀ x ∈ l, ∀ t, s₀.Commits i t → s₀.Commits i (f t x)) {s : State}
    (h : s₀.Commits i s) : s₀.Commits i (l.foldl f s) :=
  List.foldlRecOn (motive := fun t => s₀.Commits i t) _ _ h fun t ht x hx => hf x hx t ht

theorem foldl {α : Type} {f : State → α → State} {l : List α} (hf : ∀ t x, s₀.Commits i t → s₀.Commits i (f t x)) {s : State}
    (h : s₀.Commits i s) : s₀.Commits i (l.foldl f s) := .foldlMem (fun x _ t => hf t x) h

/-! ### Replies -/

theorem showSess {j : Fin 4} {x : Session} (h : s₀.Commits i { s with ses := s.ses.set j x }) : s₀.Commits i (s.setSess j x) :=
  .wrSat (.wr (.wr h (.entry j.isLt)) (.entry j.isLt)) (.entry j.isLt)

theorem setSess {j : Fin 4} {x : Session} (h : s₀.Commits i s) (hx : i = j → x.own = (s₀.sess i).own) : s₀.Commits i (s.setSess j x) := by
  refine .showSess ⟨?_, h.flash, h.lastCommit, h.duo, h.pending, h.out, h.word⟩
  by_cases e : i = j
  · subst e
    exact (congrArg Session.own (State.sess_setSess_same s i x)).trans (hx rfl)
  · exact (congrArg Session.own (State.sess_setSess_other s x e)).trans h.own

/-- The session that waits is replaced in both states. -/
theorem session {x y} (h : s₀.Commits i s) (hxy : y.own = x.own) : ({ s₀ with ses := s₀.ses.set i x } : State).Commits i (s.setSess i y) := by
  refine .showSess ⟨?_, h.flash, h.lastCommit, h.duo, h.pending, h.out, h.word⟩
  exact (congrArg Session.own (State.sess_setSess_same s i y)).trans
    (hxy.trans (congrArg Session.own (State.sess_setSess_same s₀ i x)).symm)

/-- The stage of the last commit is noted in both states. -/
theorem noteCommit {k} (h : s₀.Commits i s) : ({ s₀ with lastCommit := k } : State).Commits i { s with lastCommit := k } :=
  ⟨h.own, h.flash, rfl, h.duo, h.pending, h.out, h.word⟩

theorem put {o} (h : s₀.Commits i s) : s₀.Commits i (s.put o) :=
  ⟨h.own, h.flash, h.lastCommit, h.duo, h.pending, fun p hp => List.mem_append_left _ (h.out p hp), h.word⟩

theorem monPut {line} (h : s₀.Commits i s) : s₀.Commits i (s.monPut line) := .ite (.inc h) <| .put <| .keep h
theorem queueReply {c r} (h : s₀.Commits i s) : s₀.Commits i (s.queueReply c r) := .keep h

theorem sendReply {d r m} (h : s₀.Commits i s) : s₀.Commits i (s.sendReply d r m) := by
  refine .ite h ?_
  dsimp only
  split
  · exact .monPut h
  · exact .queueReply <| .put h
  · exact .queueReply <| .put h
  · exact .when (.put h) .inc
  · exact .when (.put h) .inc

theorem complete {j hd st p k m} (h : s₀.Commits i s) : s₀.Commits i (s.complete j hd st p k m) := by
  have hb : s₀.Commits i (s.wr (Reg.CMD_SESSION_BASE_SEQ j) (hd.seq + 1)) := .wr h (.entry j.isLt)
  exact .sendReply <| .setSess hb fun e => e ▸ h.own

theorem drainRefused {n j} (hj : i ≠ j) {s : State} (h : s₀.Commits i s) : s₀.Commits i (State.drainRefused n j s) := by
  induction n generalizing s with
  | zero => exact h
  | succ n ih =>
    unfold State.drainRefused
    refine .ite h ?_
    split
    · exact ih (.complete <| .setSess h fun e => absurd e hj)
    · exact h

theorem endOrphan {j f st p} (h : s₀.Commits i s) : s₀.Commits i (s.endOrphan j f st p) := by
  unfold State.endOrphan
  dsimp only
  split
  · exact .sendReply <| .setSess h fun e => e ▸ h.own
  · exact h

/-- The end of another operation than the one that session `i` waits for. -/
theorem endBusy {j op st p} (h : s₀.Commits i s) (hop : ∀ b, (s₀.sess i).busy = some b → b.op ≠ op) : s₀.Commits i (s.endBusy j op st p) := by
  unfold State.endBusy
  dsimp only
  split
  case h_2 => exact .endOrphan h
  case h_1 b hb =>
    refine .dite (fun hc => ?_) fun _ => .endOrphan h
    have hj : i ≠ j := by
      rintro rfl
      exact hop b ((congrArg (·.2.1) h.own).symm.trans hb) hc
    exact .drainRefused hj <| .complete <| .setSess h fun e => absurd e hj

end State.Commits

end Sys2Proof.Machine
end

section
/-! SUPPORT. The operations that a commit consists of, each with what it leaves alone (`State.Commits`). -/

namespace Sys2Proof.Machine

open Sys2Proof

/- These lemmas wait for those before them, and all at once they would ask for a thread each. -/
set_option Elab.async false

namespace State.Commits

variable {s₀ s : State} {i : Fin 4}

section

variable {f : Fld} (ha : Uncommitted f.addr) (h : s₀.Commits i s)
include h ha

theorem wrAt {v} : s₀.Commits i (s.wr f v) := wr h ha
theorem incAt {n} : s₀.Commits i (s.inc f n) := inc h ha

end

/-! ### Ranks -/

theorem setCell {c r} (h : s₀.Commits i s) : s₀.Commits i (s.setCell c r) := .keep h

theorem event {c b d} (h : s₀.Commits i s) : s₀.Commits i (s.event c b d) := by
  refine ⟨h.own, h.flash, h.lastCommit, h.duo, h.pending, h.out, fun a ha => ?_⟩
  show ({ s with regs := s.queueRegs } : State).word a = s₀.word a
  unfold State.queueRegs
  split
  · exact h.word a ha
  · split
    · exact (wr (f := Reg.JRNL_STAT_QUEUED) h).word a ha
    · exact (inc (f := Reg.JRNL_STAT_DROPPED) h).word a ha

theorem unrank {c} (hc : c < 1024) (h : s₀.Commits i s) : s₀.Commits i (s.unrank c) :=
  .wrAt (.entry hc) <| .wrAt (.entry hc) <| .wrAt (.entry hc) h

theorem rankFrom {n j l} (hl : ∀ c ∈ l, c < 1024) {s : State} (h : s₀.Commits i s) : s₀.Commits i (s.rankFrom n j l) := by
  induction l generalizing s j with
  | nil => exact h
  | cons c l ih =>
    have hc : c < 1024 := hl c List.mem_cons_self
    exact ih (fun d hd => hl d (List.mem_cons_of_mem c hd)) <| .wrAt (.entry hc) <| .wrAt (.entry hc) <| .wrAt (.entry hc) h

end State.Commits

theorem mem_insertBy {α : Type} (key : α → Nat) (x y : α) (l : List α) : y ∈ insertBy key x l ↔ y = x ∨ y ∈ l := by
  induction l with
  | nil => simp [insertBy]
  | cons z l ih =>
    unfold insertBy
    split
    · simp
    · simp only [List.mem_cons, ih]
      tauto

theorem mem_of_mem_sortBy {α : Type} {key : α → Nat} {l : List α} {x : α} (h : x ∈ sortBy key l) : x ∈ l := by
  suffices ∀ acc : List α, x ∈ l.foldl (fun acc x => insertBy key x acc) acc → x ∈ acc ∨ x ∈ l by
    simpa using this [] h
  clear h
  induction l with
  | nil => exact fun acc h => .inl h
  | cons y l ih =>
    intro acc h
    rcases ih _ h with h | h
    · rcases (mem_insertBy key y x acc).1 h with rfl | h
      · exact .inr List.mem_cons_self
      · exact .inl h
    · exact .inr (List.mem_cons_of_mem y h)

theorem State.cellsOfArm_lt (s : State) (a : Nat) : ∀ c ∈ s.cellsOfArm a, c < 1024 := by
  intro c hc
  have hr : c < s.rd Reg.ROUTE_TABLE_TOTAL_CELLS := List.mem_range.1 (List.mem_filter.1 (mem_of_mem_sortBy hc)).1
  exact hr.trans (s.rd_lt _)

theorem State.rankedNow_lt (s : State) (a : Nat) : ∀ c ∈ s.rankedNow a, c < 1024 := fun c hc =>
  s.cellsOfArm_lt a c (List.mem_filter.1 (mem_of_mem_sortBy hc)).1

namespace State.Commits

variable {s₀ s : State} {i : Fin 4}

theorem rankArm {a l} (ha : a < 24) (hl : ∀ c ∈ l, c < 1024) (h : s₀.Commits i s) : s₀.Commits i (s.rankArm a l) :=
  .wrAt (.entry ha) <| .rankFrom hl <|
    .foldlMem (fun c hc _ => .unrank (s.cellsOfArm_lt a c (List.mem_filter.1 hc).1)) h

theorem rankArms (h : s₀.Commits i s) : s₀.Commits i ((List.range 24).foldl (fun t a => t.rankArm a (t.rankedNow a)) s) :=
  .foldlMem (fun a ha t => .rankArm (List.mem_range.1 ha) (t.rankedNow_lt a)) h

/-! ### Lanes and routes -/

theorem powerDown {l} (hl : l < 64) (h : s₀.Commits i s) : s₀.Commits i (s.powerDown l) := by
  have hs : s₀.Commits i (s.see (Reg.LANE_STAT_LOL_SEEN l)) := .see h (.entry hl)
  exact .wrAt (.entry hl) <| .wrAt (.entry hl) <| .wrAt (.entry hl) <| .wrAt (.entry hl) <| .wrAt (.entry hl) <| .wrAt (.entry hl) <|
    .ite (.incAt (.entry hl) hs) h

theorem usePair (h : s₀.Commits i s) : s₀.Commits i s.usePair := by
  refine .foldlMem (fun l hl _ h => ?_) h
  have hl : l < 64 := (by decide : ∀ l ∈ [48, 49], l < 64) l hl
  exact .ite (.wrAt (.entry hl) h) (.powerDown hl h)

end State.Commits

theorem linkOf_lt {n : Nat} (hn : n < 24) (ret : Bool) : linkOf n ret < 64 := by
  unfold linkOf
  split <;> omega

namespace State.Commits

variable {s₀ s : State} {i : Fin 4}

theorem setRoute {n r} (h : s₀.Commits i s) : s₀.Commits i (s.setRoute n r) := .dite (fun _ => .keep h) fun _ => h

theorem useEnds {n} (hn : n < 24) (h : s₀.Commits i s) : s₀.Commits i (s.useEnds n) :=
  .foldl (fun _ ret h => .ite (.wrAt (.entry (linkOf_lt hn ret)) h) (.powerDown (linkOf_lt hn ret) h)) h

theorem noReach {n} (hn : n < 24) (h : s₀.Commits i s) : s₀.Commits i (s.noReach n) :=
  .ite h <| .wrAt (.entry hn) <| .wrAt (.entry hn) <| .wrAt (.entry hn) <| .wrAt (.entry hn) h

theorem endStep1 {n} (h : s₀.Commits i s) : s₀.Commits i (s.endStep1 n) := .ite (.setRoute h) h

theorem startQuiet {n} (hn : n < 24) (h : s₀.Commits i s) : s₀.Commits i (s.startQuiet n) :=
  .ite h <| .endStep1 <| .noReach hn <| .wrAt (.entry hn) <| .useEnds hn <| .setRoute h

theorem restartRoute {n} (hn : n < 24) (h : s₀.Commits i s) : s₀.Commits i (s.restartRoute n) := by
  have hr : s₀.Commits i (((s.setRoute n {}).noReach n).wr (Reg.ROUTE_RUN_RELAY n) 0) :=
    .wrAt (.entry hn) <| .noReach hn <| .setRoute h
  have hz : s₀.Commits i ((((s.setRoute n {}).noReach n).wr (Reg.ROUTE_RUN_RELAY n) 0).setWord (0x04000400 + 16 * n) 0) := .setWord hr (.entry hn)
  exact .ite (.startQuiet hn h) <| .foldl (fun _ ret => .powerDown (linkOf_lt hn ret)) hz

/-! ### The table of routes -/

theorem showPlace {c} (hc : c < 1024) (h : s₀.Commits i s) : s₀.Commits i (s.showPlace c) := by
  unfold State.showPlace
  split <;> exact .wrAt (.entry hc) <| .wrAt (.entry hc) <| .wrAt (.entry hc) h

theorem showFirst {n} (hn : n < 24) (h : s₀.Commits i s) : s₀.Commits i (s.showFirst n) := .wrAt (.entry hn) h

theorem showPositions {a} (ha : a < 24) (h : s₀.Commits i s) : s₀.Commits i (s.showPositions a) :=
  .wrAt (.entry ha) <| .wrAt (.entry ha) <| .wrAt (.entry ha) h

theorem deriveTable (h : s₀.Commits i s) : s₀.Commits i s.deriveTable :=
  .foldlMem (fun c hc _ => .showPlace (by have := List.mem_range.1 hc; omega)) <|
    .foldlMem (fun a ha _ => .showPositions (List.mem_range.1 ha)) <| .foldlMem (fun n hn _ => .showFirst (List.mem_range.1 hn)) <| .wr h

end State.Commits

theorem Uncommitted.cell {c o : Nat} (hc : c < 1024) (ho : o < 0x100) : Uncommitted (cellIdAddr c + o) := by
  unfold cellIdAddr
  exact .between (by omega) (by omega)

theorem Uncommitted.index {c : Nat} (hc : c < 1024) : ∀ w ∈ indexWords c, Uncommitted w := by
  intro w hw
  unfold indexWords cellIdAddr at hw
  simp only [List.mem_append, List.mem_map, List.mem_range] at hw
  obtain ⟨k, hk, rfl⟩ | ⟨k, hk, rfl⟩ := hw <;> exact .between (by omega) (by omega)

namespace State.Commits

variable {s₀ s : State} {i : Fin 4}

theorem resetIndex {c} (hc : c < 1024) (h : s₀.Commits i s) : s₀.Commits i (s.resetIndex c) :=
  .setCell <| .foldlMem (fun w hw _ h => .setWord h (.index hc w hw)) h

theorem moveIndex {j c} {old : State} (hc : c < 1024) (h : s₀.Commits i s) : s₀.Commits i (old.moveIndex j c s) := by
  have hw : s₀.Commits i (((List.range 8).map (fun k => 0x80 + 4 * k)).foldl
      (fun t o => t.setWord (cellIdAddr c + o) (old.word (cellIdAddr j + o))) s) := by
    refine .foldlMem (fun o ho _ h => .setWord h (.cell hc ?_)) h
    obtain ⟨k, hk, rfl⟩ := List.mem_map.1 ho
    have := List.mem_range.1 hk
    omega
  unfold State.moveIndex
  dsimp only
  refine .ite (.wrAt (.entry hc) <| .wrAt (.entry hc) <| .setCell ?_) (.wrAt (.entry hc) <| .setCell ?_) <;>
    exact .setWord hw (.cell hc (by decide))

theorem commitIndex {routes c} {old : State} (hc : c < 1024) (h : s₀.Commits i s) : s₀.Commits i (old.commitIndex routes s c) := by
  have hr : s₀.Commits i (s.resetIndex c) := .resetIndex hc h
  unfold State.commitIndex
  split
  · exact .ite hr h
  · refine .ite h ?_
    dsimp only
    split
    · exact .moveIndex hc hr
    · exact .wrAt (.entry hc) hr

/-! ### Clock and march -/

theorem setRamp {g r} (h : s₀.Commits i s) : s₀.Commits i (s.setRamp g r) := by
  have hg : ∀ g : Fin 2, Uncommitted (Reg.CLK_RAMP_STAT_CUR_OFFSET g).addr := by decide
  have hr : s₀.Commits i { s with clk := if g = 0 then { s.clk with rampSys := r } else { s.clk with rampLane := r } } := .keep h
  exact .ite (.wrS <| .wrB <| .wrS hr (hg g)) <| .wrB <| .wrS hr (hg g)

theorem toSafeClock (h : s₀.Commits i s) : s₀.Commits i s.toSafeClock := .ite h <| .inc <| .wr h

theorem stepChange (h : s₀.Commits i s) : s₀.Commits i s.stepChange :=
  .keep <| .toSafeClock <| .wr <| .ite (.event <| .setRamp h) h

theorem restartDither (h : s₀.Commits i s) : s₀.Commits i s.restartDither := .keep <| .foldl (fun _ _ => .setCell) h
theorem spreadEnable (h : s₀.Commits i s) : s₀.Commits i s.spreadEnable := .ite (.setRamp <| .keep h) h

theorem commitClock {old : State} (h : s₀.Commits i s) : s₀.Commits i (old.commitClock s) :=
  .spreadEnable <| .when (.ite (.stepChange h) h) .restartDither

theorem commitMarch {old : State} (h : s₀.Commits i s) : s₀.Commits i (old.commitMarch s) := .ite (.event <| .wr h) h

theorem commitSlot {n} {old : State} (hn : n < 2048) (h : s₀.Commits i s) : s₀.Commits i (old.commitSlot s n) := by
  have hs : s₀.Commits i (s.setSlotRun n { s.slotRun n with dNew := true }) := .keep h
  exact .ite (.wrAt (.entry hn) hs) h

theorem commitLevels (h : s₀.Commits i s) : s₀.Commits i s.commitLevels := .foldl (fun _ _ h => .ite h <| .wrAt .high h) h

/-! ### Converters and filters -/

theorem staleFrom {x limit} (h : s₀.Commits i s) : s₀.Commits i (s.staleFrom x limit) := .foldl (fun _ _ h => .ite (.keep h) h) h
theorem staleData {x limit} (h : s₀.Commits i s) : s₀.Commits i (s.staleData x limit) := .when (.ite (.wrAt .high h) h) fun h => .wrAt .high h
theorem restartAdc {x} (h : s₀.Commits i s) : s₀.Commits i (s.restartAdc x) := .orElse (.keep h) fun h => .staleData <| .staleFrom h
theorem setSettle {m n} (h : s₀.Commits i s) : s₀.Commits i (s.setSettle m n) := .wrAt .high <| .keep h

theorem commitMeas {old : State} (h : s₀.Commits i s) : s₀.Commits i (old.commitMeas s) :=
  .foldl (fun _ _ h => .ite (.setSettle h) h) <| .foldl (fun _ _ h => .ite (.restartAdc h) h) h

/-! ### Ports, time and CAN -/

theorem setPtp {f} (h : s₀.Commits i s) : s₀.Commits i (s.setPtp f) := .keep h

theorem setGrid {st} (h : s₀.Commits i s) : s₀.Commits i (s.setGrid st) := by
  have hw : s₀.Commits i (((s.wr Reg.TIME_GRID_STAT_STATE st).wrB (Reg.TIME_BASE_SYNCED 0) (2 ≤ st)).wrB (Reg.TIME_BASE_HOLDOVER 0) (st = 3)) :=
    .wrB <| .wrB <| .wr h
  exact .ite (.keep <| .keep hw) <| .when (.keep hw) .keep

theorem gridLoss (h : s₀.Commits i s) : s₀.Commits i s.gridLoss := by
  unfold State.gridLoss
  split
  · exact .setGrid h
  · exact .setGrid h
  · exact h

theorem ptpBegin {p} (h : s₀.Commits i s) : s₀.Commits i (s.ptpBegin p) := .wrAt .high <| .setPtp h
theorem restartPtp (h : s₀.Commits i s) : s₀.Commits i s.restartPtp := .ptpBegin <| .ptpBegin <| .setPtp <| .gridLoss h

theorem ethDown {p} (h : s₀.Commits i s) : s₀.Commits i (s.ethDown p) :=
  .ite h <| .ptpBegin <| .keep <| .incAt .high <| .wrAt .high <| .wrAt .high <| .ite (.setPtp <| .gridLoss h) h

theorem showCanPath {c} (h : s₀.Commits i s) : s₀.Commits i (s.showCanPath c) :=
  .wrAt .high <| .wrAt .high <| .wrAt .high <| .wrAt .high <| .wrAt .high <| .wrAt .high <| .wrAt .high <| .wrAt .high <| .wrAt .high <|
    .wrAt .high <| .wrAt .high h

theorem restartCan {c} (h : s₀.Commits i s) : s₀.Commits i (s.restartCan c) := by
  have hp : s₀.Commits i ((s.canRun c).tx.foldl (fun t p => t.wr (Reg.CAN_OBJ_PENDING c p.1) 0) s) :=
    .foldl (fun _ _ h => .wrAt .high h) h
  exact .keep <| .wr <| .wr <| .wrAt .high <| .wrAt .high <| .wrAt .high <| .wrAt .high <| .wrAt .high <| .wrAt .high <| .keep hp

theorem assignRing {c old n} {r : State × Nat} (h : s₀.Commits i r.1) : s₀.Commits i (State.assignRing c old r n).1 := by
  unfold State.assignRing
  dsimp only
  split
  · exact h
  · exact .orElse h fun h => .wrAt .high <| .wrAt .high <| .wrAt .high <| .wrAt .high h

theorem assignRings {old c} {s : State} (h : s₀.Commits i s) : s₀.Commits i (s.assignRings old c) :=
  .foldl (fun _ _ h => .ite (.keep h) h) <|
    List.foldlRecOn (motive := fun r : State × Nat => s₀.Commits i r.1) _ _ h fun _ hr _ _ => .assignRing hr

theorem setTel {t x} (h : s₀.Commits i s) : s₀.Commits i (s.setTel t x) := .keep h

theorem commitNet {old : State} (h : s₀.Commits i s) : s₀.Commits i (old.commitNet s) :=
  .foldl (fun _ _ h => .ite (.setTel h) h) <| .foldl (fun _ _ h => .assignRings <| .when (.showCanPath h) .restartCan) <|
    .when (.foldl (fun _ _ h => .ite (.ethDown h) h) h) .restartPtp

theorem writeHv (h : s₀.Commits i s) : s₀.Commits i s.writeHv := .ite (.keep h) h
theorem showDirty (h : s₀.Commits i s) : s₀.Commits i s.showDirty := .wr h

/-! ### What is captured anew -/

theorem store {a bs} (h : s₀.Commits i s) : s₀.Commits i (s.store a bs) := .ite (.keep h) h

theorem copySnap {j bytes} (h : s₀.Commits i s) : s₀.Commits i (s.copySnap j bytes) :=
  .wrAt (.entry j.isLt) <| .wrAt (.entry j.isLt) <| .wrAt (.entry j.isLt) <| .wrAt (.entry j.isLt) <| .wrAt (.entry j.isLt) <|
    .wrAt (.entry j.isLt) <| .store h

theorem recaptureFor {j} {image : State} (h : s₀.Commits i s) : s₀.Commits i (image.recaptureFor s j) := by
  refine .foldl (fun _ _ h => ?_) h
  split
  · exact .ite (.copySnap h) h
  · exact h

theorem recaptureSnaps (h : s₀.Commits i s) : s₀.Commits i s.recaptureSnaps := .foldl (fun _ _ => .recaptureFor) h

theorem recaptureTel {t} (h : s₀.Commits i s) : s₀.Commits i (s.recaptureTel t) := by
  unfold State.recaptureTel
  dsimp only
  split
  · exact .ite (.setTel h) h
  · exact h

end State.Commits

end Sys2Proof.Machine
end

section
/-! SUPPORT. A commit as a whole, what is captured anew after it, and the paths that it closes. -/

namespace Sys2Proof.Machine

open Sys2Proof

/- These lemmas wait for those before them, and all at once they would ask for a thread each. -/
set_option Elab.async false

namespace State.Commits

section

variable {s₀ s : State} {i : Fin 4} (hop : ∀ b, (s₀.sess i).busy = some b → b.op.isApply = true)
include hop

/-- The end of an operation that is no APPLY. -/
theorem endOther {j op st p} (hn : op.isApply = false) (h : s₀.Commits i s) : s₀.Commits i (s.endBusy j op st p) :=
  .endBusy h fun b hb e => by rw [← e, hop b hb] at hn; exact Bool.noConfusion hn

theorem endTrainOf {j b} (h : s₀.Commits i s) : s₀.Commits i (State.endTrainOf j s b) := by
  unfold State.endTrainOf
  split
  · exact .ite h <| .endOther hop rfl h
  · exact h

theorem endTrainTest (h : s₀.Commits i s) : s₀.Commits i s.endTrainTest := .foldl (fun _ _ h => .foldl (fun _ _ => .endTrainOf hop) h) h

theorem commitTable {old : State} (h : s₀.Commits i s) : s₀.Commits i (old.commitTable s) := by
  have hi : s₀.Commits i ((List.range 512).foldl (State.commitIndex old ((List.range 24).filter (State.routeChanged old s.deriveTable)))
      s.deriveTable) := .foldlMem (fun c hc _ => .commitIndex (by have := List.mem_range.1 hc; omega)) (.deriveTable h)
  refine .endTrainTest hop <| .rankArms <| .foldlMem (fun n hn _ => .restartRoute ?_) <| .when hi .usePair
  split at hn
  · exact List.mem_range.1 hn
  · exact List.mem_range.1 (List.mem_filter.1 hn).1

theorem commitEffects {old : State} (h : s₀.Commits i s) : s₀.Commits i (old.commitEffects s) :=
  .showDirty <| .writeHv <| .commitNet <| .commitMeas <| .commitLevels <| .foldlMem (fun _ hn _ => .commitSlot (List.mem_range.1 hn)) <|
    .when (.commitMarch <| .commitClock <| .ite (.commitTable hop h) h) .rankArms

theorem captureCrcs (h : s₀.Commits i s) : s₀.Commits i s.captureCrcs := by
  refine .foldl (fun _ _ h => .foldl (fun _ b h => ?_) h) h
  split
  case h_1 e => exact .ite h <| .endOther hop (by rw [e]; rfl) h
  case h_2 => exact h

theorem recapture {old : State} (h : s₀.Commits i s) : s₀.Commits i (old.recapture s) :=
  .foldl (fun _ _ => .recaptureTel) <| .orElse (.recaptureSnaps <| .keep h) (.captureCrcs hop)

end

/-! ### Sessions that close -/

section

variable {s₀ s : State} {i : Fin 4} (hidle : (s₀.sess i).busy = none ∧ (s₀.sess i).shadow = [] ∧ (s₀.sess i).waiting = [])
include hidle

theorem idle (h : s₀.Commits i s) : (s.sess i).src = (s₀.sess i).src ∧ (s.sess i).busy = none ∧ (s.sess i).shadow = []
    ∧ (s.sess i).waiting = [] := by
  obtain ⟨hb, hs, hw⟩ := hidle
  obtain ⟨h1, h2, h3, h4⟩ : (s.sess i).src = (s₀.sess i).src ∧ (s.sess i).busy = (s₀.sess i).busy ∧ (s.sess i).shadow = (s₀.sess i).shadow
      ∧ (s.sess i).waiting = (s₀.sess i).waiting := by simpa [Session.own] using h.own
  exact ⟨h1, h2.trans hb, h3.trans hs, h4.trans hw⟩

theorem flushSeqs {n j status gaps} {s : State} (h : s₀.Commits i s) : s₀.Commits i (State.flushSeqs n j status gaps s) := by
  induction n generalizing s with
  | zero => exact h
  | succ n ih =>
    have herase (k : Nat) : s₀.Commits i (s.setSess j { s.sess j with waiting := assocErase (s.sess j).waiting k }) := by
      refine .setSess h fun e => ?_
      subst e
      obtain ⟨-, -, -, hw⟩ := h.idle hidle
      rw [← h.own, hw, Session.own, Session.own, hw]
      rfl
    unfold State.flushSeqs
    dsimp only
    split
    · exact ih (.complete <| herase _)
    · exact ih (.complete <| herase _)
    · exact .ite h <| .ite (ih (.complete h)) (ih (.wrAt (.entry j.isLt) h))

theorem closeSess {j} (h : s₀.Commits i s) : s₀.Commits i (s.closeSess j) := by
  unfold State.closeSess
  dsimp only
  refine .ite h <| .wrAt (.entry j.isLt) ?_
  have hclear {t : State} (x : Session) (ht : s₀.Commits i t) (hx : x = t.sess j) :
      s₀.Commits i (t.setSess j { src := x.src, orphans := x.orphans, tell := x.tell }) := by
    refine .setSess ht fun e => ?_
    subst e hx
    obtain ⟨hs, -⟩ := ht.idle hidle
    obtain ⟨hb, hsh, hw⟩ := hidle
    rw [Session.own, Session.own, hb, hsh, hw, hs]
  refine hclear _ (.when (.flushSeqs hidle ?_) .keep) rfl
  have hend {t : State} (b : BusyCmd) (ht : s₀.Commits i t) (hb : (t.sess j).busy = some b) :
      s₀.Commits i ((t.setSess j { t.sess j with busy := none, orphans := (t.sess j).orphans ++ [((t.sess j).src, b)] }).wr
        (Reg.CMD_SESSION_BASE_SEQ j) (b.head.seq + 1)) := by
    refine .wrAt (.entry j.isLt) <| .setSess ht fun e => ?_
    subst e
    obtain ⟨-, hn, -⟩ := ht.idle hidle
    rw [hn] at hb
    cases hb
  split
  case h_1 b hb =>
    refine hend b ?_ hb
    split
    · exact .complete <| .setSess h fun e => e ▸ h.own
    · exact h
  case h_2 =>
    split
    · exact .complete <| .setSess h fun e => e ▸ h.own
    · exact h

theorem closePaths (h : s₀.Commits i s) : s₀.Commits i s.closePaths := .foldl (fun _ _ h => .ite (.closeSess hidle h) h) h

end

end State.Commits

end Sys2Proof.Machine
end

section
/-! SUPPORT. The words that a shadow set brings, what SHADOW_COMMIT leaves and answers, and O39. -/

namespace Sys2Proof.Machine

open Sys2Proof

/- These lemmas wait for those before them, and all at once they would ask for a thread each. -/
set_option Elab.async false

/-! ### The words of a shadow set -/

theorem State.commitObject_setWords (s : State) (p : Nat × List Byte) :
    s.commitObject p = setWords (fun w x _ => mergeShadow (rowsAt w).1 x (wordAt p.2 (w - p.1))) (wordsOf p.1 p.2.length) s := rfl

theorem State.word_commitObject {s : State} {a : Nat} {d : List Byte} {w : Nat} (hw : w ∈ wordsOf a d.length) :
    (s.commitObject (a, d)).word w = mergeShadow (rowsAt w).1 (s.word w) (wordAt d (w - a)) := by
  rw [State.commitObject_setWords, word_setWords_mem _ (wordsOf_nodup a d.length) hw]

/-- A word with no SH field stays. -/
theorem State.word_commitSet {a : Nat} (ha : ∀ r ∈ (rowsAt a).1, r.acc ≠ .sh) (s : State) (l : List (Nat × List Byte)) :
    (s.commitSet l).word a = s.word a := by
  have hm (x y : Word) : mergeShadow (rowsAt a).1 x y = x :=
    List.foldlRecOn (motive := fun z => z = x) _ _ rfl fun z hz r hr => by rw [if_neg (ha r hr), hz]
  refine List.foldlRecOn (motive := fun t : State => t.word a = s.word a) _ _ rfl fun t ht p _ => ?_
  rw [State.commitObject_setWords]
  by_cases hw : a ∈ wordsOf p.1 p.2.length
  · rw [word_setWords_mem _ (wordsOf_nodup _ _) hw, hm, ht]
  · rw [word_setWords_other _ hw, ht]

theorem State.commitSet_upd (s : State) (l : List (Nat × List Byte)) : ∃ r, s.commitSet l = { s with regs := r } := by
  refine List.foldlRecOn (motive := fun t : State => ∃ r, t = { s with regs := r }) _ _ ⟨s.regs, rfl⟩ fun t ht p _ => ?_
  obtain ⟨r, ht⟩ := ht
  obtain ⟨r', hr⟩ := setWords_upd (fun w x _ => mergeShadow (rowsAt w).1 x (wordAt p.2 (w - p.1))) (wordsOf p.1 p.2.length) t
  rw [State.commitObject_setWords, hr, ht]
  exact ⟨r', rfl⟩

theorem State.stage_commitSet (s : State) (l : List (Nat × List Byte)) : (s.commitSet l).stage = s.stage := by
  have hh : (s.commitSet l).word Reg.CLK_STAGE_COUNT_COUNT_HI.addr = _ := State.word_commitSet (by decide) s l
  have hl : (s.commitSet l).word Reg.CLK_STAGE_COUNT_COUNT_LO.addr = _ := State.word_commitSet (by decide) s l
  unfold State.stage State.rd
  rw [hh, hl]

/-! ### The commit -/

/-- The set in the active words, the stage of the commit noted, and the session as it then is: what a commit keeps, it keeps of this. -/
def State.committed (s : State) (i : Fin 4) (l : List (Nat × List Byte)) (x : Session) : State :=
  { s.commitSet l with lastCommit := some s.stage, ses := s.ses.set i x }

theorem State.committed_session (s : State) (i : Fin 4) (l : List (Nat × List Byte)) (x y : Session) :
    ({ s.committed i l x with ses := (s.committed i l x).ses.set i y } : State) = s.committed i l y := by
  unfold State.committed
  simp only [Vector.set_set]

theorem State.committed_keeper (s : State) (i : Fin 4) (l : List (Nat × List Byte)) (x : Session) : (s.committed i l x).isKeeper = s.isKeeper := by
  obtain ⟨r, hr⟩ := s.commitSet_upd l
  unfold State.isKeeper State.committed
  rw [hr]

section

variable {s : State} {i : Fin 4} {b : BusyCmd} (h : Executes s i b) (hop : b.op.isApply = true)
include h hop

theorem Executes.commitReady : s.commitReady i = (decide (b.stage ≤ s.stage) && s.lastCommit != some s.stage) := by
  obtain ⟨-, -, hb, -⟩ := h
  have hfind : (s.sess i).ops.find? (fun c => c.op.isApply) = some b := by
    unfold Session.ops
    rw [hb]
    exact List.find?_cons_of_pos hop
  unfold State.commitReady
  rw [hfind]

theorem Executes.commitShadow (l : List (Nat × List Byte)) :
    (s.committed i l { s.sess i with shadow := [] }).Commits i (s.commitShadow i l) := by
  obtain ⟨-, -, hb, -⟩ := h
  obtain ⟨r, hr⟩ := s.commitSet_upd l
  have hown : ((s.commitSet l).sess i) = s.sess i := by rw [hr]; rfl
  obtain ⟨c, hc⟩ : ∃ c, c = s.commitSet l := ⟨_, rfl⟩
  obtain ⟨e, he⟩ : ∃ e, e = s.commitEffects c := ⟨_, rfl⟩
  have hce : c.Commits i e := by
    rw [he]
    refine .commitEffects (fun d hd => ?_) (.refl c i)
    rw [hc, hown, hb] at hd
    exact Option.some.inj hd ▸ hop
  obtain ⟨k, hk⟩ : ∃ k, k = some s.stage := ⟨_, rfl⟩
  have hsess : (e.sess i).own = (s.sess i).own := by rw [hce.own, hc, hown]
  have hbusy : (e.sess i).busy = some b := (congrArg (·.2.1) hsess).trans hb
  have hany : (e.sess i).busy.any (fun b => b.op.isApply) = true := by rw [hbusy]; exact hop
  have hx : ({ e.sess i with shadow := [] } : Session).own = ({ s.sess i with shadow := [] } : Session).own := by
    simp only [Session.own, Prod.mk.injEq] at hsess ⊢
    obtain ⟨h1, h2, -, h4⟩ := hsess
    exact ⟨h1, h2, trivial, h4⟩
  have hset := (hce.noteCommit (k := k)).session hx
  have hshape : s.commitShadow i l = s.recapture (({ e with lastCommit := k } : State).setSess i { e.sess i with shadow := [] }) := by
    unfold State.commitShadow
    rw [← hc, ← he, ← hk]
    exact congrArg s.recapture (if_pos hany)
  have hbase : s.committed i l { s.sess i with shadow := [] }
      = ({ ({ c with lastCommit := k } : State) with ses := c.ses.set i { s.sess i with shadow := [] } } : State) := by
    unfold State.committed
    rw [hk, hc, hr]
  rw [hshape, hbase]
  refine .recapture (fun d hd => ?_) hset
  rw [show ((({ ({ c with lastCommit := k } : State) with ses := c.ses.set i { s.sess i with shadow := [] } } : State)).sess i)
    = { s.sess i with shadow := [] } from State.sess_setSess_same _ _ _] at hd
  exact Option.some.inj (hd.symm.trans hb) ▸ hop

end

theorem Executes.committed_idle {s t : State} {i : Fin 4} {b : BusyCmd} {l : List (Nat × List Byte)} (h : Executes s i b)
    (ht : (s.committed i l { s.sess i with shadow := [], busy := none }).Commits i t) :
    (t.sess i).busy = none ∧ (t.sess i).shadow = [] ∧ (t.sess i).waiting = [] := by
  obtain ⟨-, -, -, hw, -⟩ := h
  have hown := ht.own
  rw [show (s.committed i l { s.sess i with shadow := [], busy := none }).sess i = _ from State.sess_setSess_same s i _] at hown
  simp only [Session.own, Prod.mk.injEq, hw] at hown
  exact hown.2

section

variable {s : State} {i : Fin 4} {b : BusyCmd} {l : List (Nat × List Byte)} (h : Executes s i b) (hop : b.op = .applyWait l)
include h hop

/-- After the commit the session still waits for it, with nothing in its shadow set. -/
theorem Executes.commitShadow_session : ((s.commitShadow i l).sess i).src = (s.sess i).src ∧ ((s.commitShadow i l).sess i).busy = some b
    ∧ ((s.commitShadow i l).sess i).shadow = [] ∧ ((s.commitShadow i l).sess i).waiting = [] := by
  have hu := (h.commitShadow (by rw [hop]; rfl) l).own
  obtain ⟨-, -, hb, hw, -⟩ := h
  rw [show (s.committed i l { s.sess i with shadow := [] }).sess i = _ from State.sess_setSess_same s i _] at hu
  simpa [Session.own, hb, hw] using hu

/-- The commit is answered in the stage at hand. -/
theorem Executes.answerCommit (p : List Byte) :
    (s.committed i l { s.sess i with shadow := [], busy := none }).Commits i ((s.commitShadow i l).endBusy i (.applyWait l) Status.OK p)
      ∧ Replied ((s.commitShadow i l).endBusy i (.applyWait l) Status.OK p) (s.sess i).src b.head (b.final Status.OK) p s.stage := by
  have hu := h.commitShadow (by rw [hop]; rfl) l
  obtain ⟨hsrc, hbusy, hshadow, hwait⟩ := h.commitShadow_session hop
  obtain ⟨-, hk, -, hw, hp⟩ := h
  obtain ⟨u, hu'⟩ : ∃ u, u = s.commitShadow i l := ⟨_, rfl⟩
  rw [← hu'] at hu hsrc hbusy hshadow hwait ⊢
  obtain ⟨v, hv⟩ : ∃ v, v = u.setSess i { u.sess i with busy := none } := ⟨_, rfl⟩
  have hself : v.sess i = { u.sess i with busy := none } := by rw [hv, State.sess_setSess_same]
  have hown : ({ u.sess i with busy := none } : Session).own = ({ s.sess i with shadow := [], busy := none } : Session).own := by
    simp only [Session.own, hsrc, hshadow, hwait, hw]
  have hvu := hu.session hown
  rw [State.committed_session, ← hv] at hvu
  have hstage : u.stageOf b = s.stage := by
    unfold State.stageOf
    rw [hop]
    exact hu.stage.trans (State.stage_commitSet s l)
  have hend : u.endBusy i (.applyWait l) Status.OK p = v.complete i b.head (b.final Status.OK) p s.stage := by
    rw [← hop, State.endBusy_eq hbusy, ← hv, hstage]
    exact State.finish_eq (by rw [hself]; exact hwait) _ _ _ _ _
  obtain ⟨-, hreply⟩ := State.complete_replies (i := i) b.head (b.final Status.OK) p s.stage (by rw [hvu.keeper, State.committed_keeper]; exact hk)
    (by rw [hself, hsrc]; exact hp)
  rw [hself, hsrc] at hreply
  rw [hend]
  exact ⟨hvu.complete, hreply⟩

theorem Executes.opWith_apply : (s.sess i).opWith LongOp.isApply = some (.applyWait l) := by
  rw [h.opWith (f := LongOp.isApply) (by rw [hop]; rfl), hop]

/-- SHADOW_COMMIT in a stage in which nothing has committed yet. -/
theorem Executes.shadowCommit (hs : b.stage ≤ s.stage) (hl : s.lastCommit ≠ some s.stage) :
    ∃ t, exec (.shadowCommit i) s = .next t
      ∧ (({ s with out := [] } : State).committed i l { s.sess i with shadow := [], busy := none }).Commits i t
      ∧ Replied t (s.sess i).src b.head (b.final Status.OK) (applyReply l.length 0) s.stage := by
  have hrun : s.running = true := h.1
  have h' : Executes ({ s with out := [] } : State) i b := h
  have hready : ({ s with out := [] } : State).commitReady i = true := by
    rw [h'.commitReady (by rw [hop]; rfl), Bool.and_eq_true]
    exact ⟨decide_eq_true hs, bne_iff_ne.2 hl⟩
  obtain ⟨hc, c, hr⟩ := h'.answerCommit hop (applyReply l.length 0)
  have hidle := h'.committed_idle hc
  have hclose := State.Commits.closePaths hidle (.refl _ i)
  refine ⟨_, ?_, hc.trans hclose, c, by rw [hclose.boot]; exact hclose.out _ hr⟩
  show execShadowCommit i s = _
  unfold execShadowCommit
  rw [onRun_eq hrun]
  simp only [h'.opWith_apply hop, hready, if_true]

/-- SHADOW_COMMIT before its stage, or in one in which a set has committed. -/
theorem Executes.shadowCommit_waits (hs : s.stage < b.stage ∨ s.lastCommit = some s.stage) :
    exec (.shadowCommit i) s = .next { s with out := [] } := by
  have hrun : s.running = true := h.1
  have h' : Executes ({ s with out := [] } : State) i b := h
  have hready : ({ s with out := [] } : State).commitReady i = false := by
    rw [h'.commitReady (by rw [hop]; rfl), Bool.and_eq_false_iff]
    exact hs.imp (fun hs => decide_eq_false (Nat.not_le.2 hs)) fun hs => by rw [bne_eq_false_iff_eq]; exact hs
  show execShadowCommit i s = _
  unfold execShadowCommit
  rw [onRun_eq hrun]
  simp only [h'.opWith_apply hop, hready, if_false, Bool.false_eq_true]

end

/-! ### APPLY -/

theorem applyReply_addr (a : Nat) : applyReply 0 a = [0, 0, 0, 0] ++ beBytes 4 a := rfl

theorem applyReply_count (n : Nat) : applyReply n 0 = beBytes 2 n ++ [0, 0, 0, 0, 0, 0] := List.append_assoc _ _ _

/-- No object of the set has an identity that its life cycle protects. -/
theorem find_identity {c : Prop} [Decidable c] {l : List (Nat × List Byte)} (h : c → ∀ p ∈ l, identityObject p.1 = false) :
    (if c then l.find? (fun p => identityObject p.1) else none) = none := by
  split
  case isTrue hc => exact List.find?_eq_none.2 fun p hp => by rw [h hc p hp]; exact Bool.false_ne_true
  case isFalse => rfl

section

variable {s : State} {i : Fin 4} (hne : (s.sess i).shadow ≠ []) (hid : s.lc = 2 → ∀ p ∈ (s.sess i).shadow, identityObject p.1 = false)
include hne hid

theorem actApplyCommit_fails {st a : Nat} (hf : s.applyFail (s.sess i).shadow = some (st, a)) :
    actApplyCommit i s = { s.no st with payload := applyReply 0 a } := by
  unfold actApplyCommit
  simp only [find_identity hid, hf]
  rw [if_neg hne]

theorem actApplyCommit_waits (hf : s.applyFail (s.sess i).shadow = none) :
    actApplyCommit i s = s.wait (.applyWait (s.sess i).shadow) (s.stage + 1) := by
  unfold actApplyCommit
  simp only [find_identity hid, hf]
  rw [if_neg hne]

end

/-- A verb that waits leaves its session's shadow set. -/
theorem execVerb_waits_shadow {s t : State} {r : Req} {verb : Nat} (h : Ready s r verb) (hm : moodAllowed verb 1 = true) {read : Bool} {cmd : Instr}
    {act : Action} {op : LongOp} {k : Nat} (ha : act (s.taken r) = (s.taken r).wait op k) (ht : execVerb s r verb 0 read cmd act = .next t) :
    (t.sess r.session).shadow = (s.sess r.session).shadow := by
  rw [execVerb_ready h hm read cmd act, ha] at ht
  injection ht with ht
  obtain ⟨l, e⟩ := State.sess_mirrorCmd_same (State.settle r.session (headAt s r verb 0) false ((s.taken r).wait op k)) r.session
    (headAt s r verb 0) r.mood cmd
  have hset : (State.settle r.session (headAt s r verb 0) false ((s.taken r).wait op k)).sess r.session = _ := State.sess_setSess_same _ _ _
  rw [← ht, e, hset]
  show ((s.taken r).sess r.session).shadow = _
  rw [State.sess_taken_same]

/-- The shadow set that a session has emptied on the state that has taken its packet. -/
theorem StoredBy.emptied (s : State) (r : Req) :
    StoredBy r.session (setWords (fun _ x _ => x) [] (s.taken r)) []
      ((s.taken r).setSess r.session { (s.taken r).sess r.session with shadow := [] }) := by
  refine ⟨?_, (Keeps.refl _ _).setSess _ fun _ h => h, State.sess_setSess_same _ _ _, fun j hj => State.sess_setSess_other _ _ hj⟩
  obtain ⟨l, x, e⟩ := State.setSess_upd (s.taken r) r.session { (s.taken r).sess r.session with shadow := [] }
  rw [e]
  rfl

/-- APPLY_DISCARD empties the session's shadow set. -/
theorem exec_applyDiscard {s : State} {r : Req} (h : Ready s r Verb.APPLY) :
    ∃ t, exec (.applyDiscard r) s = .next t ∧ Completed s t r Verb.APPLY 0 Status.OK [0, 0, 0, 0, 0, 0, 0, 0] s.stage
      ∧ t = { s with regs := t.regs, ses := t.ses, turn := r.session, canTx := t.canTx, out := t.out } ∧ (t.sess r.session).shadow = []
      ∧ Keeps s t (sessionFlds r.session) := by
  have hu := StoredBy.emptied s r
  obtain ⟨u, he⟩ : ∃ u, u = (s.taken r).setSess r.session { (s.taken r).sess r.session with shadow := [] } := ⟨_, rfl⟩
  rw [← he] at hu
  have hk : Keeps s u (sessionFlds r.session) := (Keeps.taken s r).trans hu.keeps
  have hact : actApplyDiscard r.session (s.taken r) = u.ok (applyReply 0 0) := by rw [he]; rfl
  obtain ⟨t, ht, hc, hr⟩ := execVerb_done (flags := 0) h (by decide) false (.applyDiscard r)
    (hact.trans (by rw [State.ok, hk.stage (sessionFlds_stage _)])) (hu.serves h)
  refine ⟨t, ht, hc, ?_, hr.shadow.trans (by rw [hu.same]), hk.trans hr.keeps⟩
  obtain ⟨l, x, e⟩ := hu.taken_upd
  rw [hr.upd, e]

/-- What APPLY_COMMIT checks on the state that has taken its packet is the session's set. -/
theorem State.applySet_taken {s : State} {r : Req} (hne : (s.sess r.session).shadow ≠ [])
    (hid : s.rd Reg.LC_STATE_STATE = 2 → ∀ p ∈ (s.sess r.session).shadow, identityObject p.1 = false) :
    ((s.taken r).sess r.session).shadow = (s.sess r.session).shadow ∧ ((s.taken r).sess r.session).shadow ≠ []
    ∧ ((s.taken r).lc = 2 → ∀ p ∈ ((s.taken r).sess r.session).shadow, identityObject p.1 = false) := by
  have hs : ((s.taken r).sess r.session).shadow = (s.sess r.session).shadow := by rw [State.sess_taken_same]
  rw [hs, State.lc_taken]
  exact ⟨rfl, hne, hid⟩

section

variable {s : State} {r : Req} (h : Ready s r Verb.APPLY)
include h

/-- APPLY_COMMIT of an empty set. -/
theorem exec_applyCommit_empty (he : (s.sess r.session).shadow = []) :
    ∃ t, exec (.applyCommit r) s = .next t ∧ Completed s t r Verb.APPLY 0 Status.OK [0, 0, 0, 0, 0, 0, 0, 0] s.stage
      ∧ t = { s with regs := t.regs, ses := t.ses, turn := r.session, canTx := t.canTx, out := t.out }
      ∧ Keeps s t (sessionFlds r.session) := by
  refine execVerb_ok h (by decide) false (.applyCommit r) (act := actApplyCommit r.session) ?_
  unfold actApplyCommit
  rw [State.sess_taken_same, if_pos he]
  rfl

variable (hne : (s.sess r.session).shadow ≠ [])
  (hid : s.rd Reg.LC_STATE_STATE = 2 → ∀ p ∈ (s.sess r.session).shadow, identityObject p.1 = false)
include hne hid

/-- APPLY_COMMIT of a set that passes its checks. -/
theorem exec_applyCommit_waits (hf : (s.taken r).applyFail (s.sess r.session).shadow = none) :
    ∃ t, exec (.applyCommit r) s = .next t
      ∧ Started s t r Verb.APPLY (.applyWait (s.sess r.session).shadow) (s.stage + 1)
      ∧ t = { s with regs := t.regs, ses := t.ses, turn := r.session, out := [] } ∧ (t.sess r.session).shadow = (s.sess r.session).shadow
      ∧ Keeps s t (sessionFlds r.session) := by
  obtain ⟨hs, hne, hid⟩ := State.applySet_taken hne hid
  have hact := actApplyCommit_waits hne hid (by rw [hs]; exact hf)
  rw [hs, State.stage_taken] at hact
  obtain ⟨t, ht, hst, hupd, hk⟩ := execVerb_waits h (by decide) false (.applyCommit r) hact
  exact ⟨t, ht, hst, hupd, execVerb_waits_shadow h (by decide) hact ht, hk⟩

/-- APPLY_COMMIT of a set that fails a check. -/
theorem exec_applyCommit_fails {x a : Nat} (hf : (s.taken r).applyFail (s.sess r.session).shadow = some (x, a)) :
    ∃ t, exec (.applyCommit r) s = .next t ∧ Completed s t r Verb.APPLY 0 x ([0, 0, 0, 0] ++ beBytes 4 a) s.stage
      ∧ t = { s with regs := t.regs, ses := t.ses, turn := r.session, canTx := t.canTx, out := t.out }
      ∧ (t.sess r.session).shadow = (s.sess r.session).shadow ∧ Keeps s t (sessionFlds r.session) := by
  obtain ⟨hs, hne, hid⟩ := State.applySet_taken hne hid
  have hact := actApplyCommit_fails hne hid (by rw [hs]; exact hf)
  rw [State.no, State.stage_taken, applyReply_addr] at hact
  obtain ⟨t, ht, hc, hr⟩ := execVerb_done (flags := 0) h (by decide) false (.applyCommit r) hact (h.serves rfl rfl)
  obtain ⟨hupd, hk⟩ := hr.of_taken
  exact ⟨t, ht, hc, hupd, hr.shadow.trans hs, hk⟩

end

/-- POL_CFG has the words that a commit leaves alone. -/
theorem policyWords {n w : Nat} (hn : objectAt 0x08000100 = some (0x08000100, n)) (hw : w ∈ wordsOf 0x08000100 n) : ¬Uncommitted w := by
  have hobj : objectAt 0x08000100 = some (0x08000100, 44) := by decide
  rw [hobj] at hn
  cases hn
  obtain ⟨k, hk, rfl⟩ := List.mem_map.1 hw
  have := List.mem_range.1 hk
  unfold Uncommitted
  omega

/-- Settles O39: a commit keeps the waiting session, the stage, the flash and POL_CFG through each operation that follows it. -/
theorem applyTakesTheShadowSet : Obligations.ApplyTakesTheShadowSet := by
  refine ⟨fun s r hr => exec_applyDiscard hr, fun s r hr => exec_applyCommit_empty hr, fun s r hr => exec_applyCommit_waits hr,
    fun s r x a hr hne hid hf => exec_applyCommit_fails hr hne hid hf, fun s i b l h hop hs hl => ?_, fun s i b d h hop hs hl hd => ?_,
    fun s i b l h hop hs => ⟨_, h.shadowCommit_waits hop hs, rfl⟩⟩
  · obtain ⟨t, ht, hc, hr⟩ := h.shadowCommit hop hs hl
    obtain ⟨hbusy, hshadow, -⟩ := Executes.committed_idle (s := { s with out := [] }) h hc
    obtain ⟨x, hx⟩ := State.commitSet_upd { s with out := [] } l
    rw [applyReply_count] at hr
    refine ⟨t, ht, hc.lastCommit, hshadow, hbusy, hr, hc.pending.trans ?_, hc.flash.trans ?_⟩ <;>
    · unfold State.committed
      rw [hx]
  · obtain ⟨t, ht, hc, -⟩ := h.shadowCommit hop hs hl
    refine ⟨t, ht, fun w hw => (hc.word w (policyWords hd hw)).trans ?_⟩
    exact State.word_commitObject (s := { s with out := [] }) hw

end Sys2Proof.Machine
end
